-- ==== Sys2Proof/Word.lean ====
section
/-! DEFINITION. The word and byte types of the model and the plainest arithmetic on them.
Registers that software reads as bits and every Rollanen register are bit vectors; indices, counts and
addresses are plain numbers. -/

namespace Sys2Proof

/-- One byte of a memory structure, a frame or a packet. -/
abbrev Byte := BitVec 8

/-- A 32-bit word: a mailbox word, a Rollanen instruction word. -/
abbrev Word32 := BitVec 32

/-- A 64-bit word: a Rollanen register, a channel word, a sequencer register. -/
abbrev Word := BitVec 64

/-- A sparse table: its entries keyed by a number, keys strictly rising, and no entry equal to what an absent
key reads as. `Machine/Tbl.lean` holds the operations. -/
abbrev Tbl (α : Type) := List (Nat × α)

end Sys2Proof
end

