-- ==== Sys2Proof/Machine/StBoot.lean ====
section
/-! DEFINITION. State of the package as a whole: part, fuses, flash, supplies, resets, boot, roles and the
Stollek chain port (spec/00, 01, 02, 21). -/

namespace Sys2Proof.Machine

/-- The three parts of Table 00.1 (R1). -/
inductive Part where
  | tla8064
  | tla4032
  | tla2016
  deriving DecidableEq, Repr

/-- The lifecycle states of Table 02.3 (R58), in the order in which they move. -/
inductive Lifecycle where
  | manufacture
  | provisioned
  | owned
  | decommissioned
  deriving DecidableEq, Repr

/-- BOOT_STATUS.STAGE (R57). -/
inductive Stage where
  | reset
  | selftest
  | chain
  | flash
  | verify
  | init
  | ready
  | noImage
  | failed
  deriving DecidableEq, Repr

/-- The fields of the image header of Table 02.2 that the boot ROM compares; signatures and hashes are results
of reading the slot, `ImageCheck` (R53, R54). -/
structure ImageHeader where
  magic : Nat
  headerLen : Nat
  imageLen : Nat
  flags : Nat
  generation : Nat
  svn : Nat
  keyIndex : Nat
  reservedZero : Bool
  bodyDigest : Nat
  /-- RSA_MODULUS and PQ_PUBLIC_KEY. -/
  modulus : List Byte
  pqKey : List Byte
  deriving DecidableEq, Repr

/-- What the boot ROM finds as it reads one image (R54): the outcome of its signatures, and digests of bytes that the model does not
hold. Of a slot that firmware has written the model holds every byte, and computes the digests itself. -/
structure ImageCheck where
  rsaVerifies : Bool
  pqVerifies : Bool
  /-- SHA-256 of the header and of the body. -/
  headerSha : Nat
  bodySha : Nat
  /-- SHA-384 of the header and body, for measurement block 2 (R63). -/
  measurement : Nat
  deriving DecidableEq, Repr

/-- One-time fuses and the one-time store (R54, R58, R60, R165, R176). -/
structure Fuses where
  lifecycle : Lifecycle
  minSvn : Nat
  requirePq : Bool
  /-- Bit n set when root key hash n is revoked. -/
  rootRevoked : Nat
  /-- Authority RSA modulus digest, none while no authority key is installed (PROTECT_STATUS.AUTHORITY_SET). -/
  authority : Option Nat
  /-- Authority ML-DSA-87 key digest (PROTECT_STATUS.AUTHORITY_PQ). -/
  authorityPq : Option Nat
  /-- SHA-256 of the four root RSA moduli and of the four post-quantum root keys (R54). -/
  rootHashes : List Nat
  pqHashes : List Nat
  /-- Bit n set when root key n is a Volbor test key, which only MANUFACTURE accepts (Table 02.3). -/
  testKeys : Nat
  /-- The 256-bit device secret, the same in every die (R60). -/
  deviceSecret : Nat
  /-- The device secret's fuses are blocked from reading (R59). -/
  secretBlocked : Bool
  /-- The one-time store: the identity public key and its certificate, the root certificate above it, and the SHA-256 of the Volbor
  service key (R60, R62, R165). -/
  identityPublic : List Byte
  identityCert : List Byte
  rootCert : List Byte
  serviceKey : Nat
  deriving DecidableEq, Repr

/-- Supplies, pins, clocks and the boot sequence of the package. -/
structure Boot where
  part : Part
  /-- Cipher suffix -C (R4). -/
  cipher : Bool
  fuses : Fuses
  /-- DRAM the board fits at each die, in GiB, by die; an unlisted die has 64, and 0 stands for none (R621, log 2). -/
  dramGib : Tbl Nat
  /-- VAUX is good and the auxiliary island runs (R623). -/
  vaux : Bool
  vin : Bool
  railsGood : Bool
  /-- Level of PKG_RESET_N: true while asserted. -/
  pkgReset : Bool
  /-- TRST_N pulses are seen only by the 1149.1 controller; its instruction register, reset value 0 (R633). -/
  jtagState : Nat
  refclk : Bool
  refclkHoldover : Bool
  /-- Tick of the lead at which the hold began (R591). -/
  holdoverAt : Nat
  pllLocked : Bool
  stage : Stage
  slot : Nat
  fallback : Bool
  flashMode : Nat
  failCause : Nat
  runningSvn : Nat
  /-- Position p has its self-test result in bit p of `selfDone`; bit p of `selfPass` is the result (R46). -/
  selfDone : Nat
  selfPass : Nat
  numberMask : Nat
  positionPassed : Nat
  /-- Slots marked failed until the next loss of VIN (R56): A, B. -/
  slotFailedA : Bool
  slotFailedB : Bool
  headerA : Option ImageHeader
  headerB : Option ImageHeader
  /-- The slot being read, and whether the other was already tried (R55). -/
  trySlot : Nat
  triedOther : Bool
  /-- SHA-384 of the running header and body (R63). -/
  imageMeasure : Nat
  /-- What firmware has written into slots A and B: header and body (R53, R176). What the flash held before is not the device's, and
  comes with FLASH_HEADER_READ. -/
  flashA : Option (List Byte)
  flashB : Option (List Byte)
  /-- The alias key and its certificate, derived when an image is accepted; the identity key is withheld from firmware (R61). -/
  aliasKey : Option Nat
  aliasCert : List Byte
  identityWithheld : Bool
  pkgReady : Bool
  stopped : Bool
  stopReason : Nat
  /-- THERMTRIP_N asserted (R592). -/
  thermtrip : Bool
  deriving DecidableEq, Repr

/-- PKG_ROLES (R34). Every die holds an identical copy, kept here once. -/
structure Roles where
  lead : Nat
  mirror : Nat
  substitute : Bool
  /-- Bit d set when die d has been removed from service since package reset. -/
  failed : Nat
  castlings : Nat
  /-- The mirror holds everything R598 fills it with; cleared while it is being filled. -/
  filled : Bool
  /-- The lead cannot reach the mirroring die (R599). -/
  unreachable : Bool
  /-- The die a committed DIE_ROLES change moves the lead to, until the fill is done (R176). -/
  moveTo : Option Nat
  deriving DecidableEq, Repr

/-- The Stollek chain port on the auxiliary island (R65–R76). -/
structure Chain where
  forwarding : Bool
  address : Nat
  rate : Nat
  /-- In bypass by a BYPASS frame, and by RELEASE: the package is in bypass while either holds (R74). -/
  bypassed : Bool
  released : Bool
  clockSeen : Bool
  fcsErrors : Nat
  /-- Hunting for SYNC after a CRC error, until the next idle (R65). -/
  hunting : Bool
  /-- The partly received command: next index expected and the bytes so far (R69). -/
  partialCmd : Option (Nat × List Byte)
  /-- The partly received authority statement of ENDORSE frames (R171). -/
  partialStmt : Option (Nat × List Byte)
  held : Option (List Byte)
  /-- SPDM over chain frames: version and algorithms agreed, secured session open (R62). -/
  spdmVersion : Bool
  spdmAlgorithms : Bool
  spdmSession : Bool
  /-- KEY_EXCHANGE has been answered and FINISH is due. -/
  spdmExchange : Bool
  deriving DecidableEq, Repr

/-- SUPPLY_STATUS, updated every 1 ms (R640). -/
structure Supply where
  vinMv : Nat
  vauxMv : Nat
  inputDw : Nat
  deriving DecidableEq, Repr

/-- One DIE_TEMP entry (R638–R640). Temperatures are whole degrees; LIFE_USED accumulates from the temperature in
units of 2^-32 ms, and its register shows whole hours. -/
structure DieTemp where
  temp : Int
  tempMax : Int
  lifeMilli : Nat
  deriving DecidableEq, Repr

/-- Clocks and the management core pair of one die (R588–R594, R630). -/
structure DieHealth where
  /-- The active root PLL is the standby one (R590). -/
  onStandbyPll : Bool
  /-- The other root PLL of the pair is lost. -/
  otherPllLost : Bool
  /-- The management pair is restarting after a lockstep mismatch, and the tick at which it restarted last. -/
  pairRestarting : Bool
  pairRestartTick : Option Nat
  /-- Successive die-chain tokens with the alive bit clear. -/
  aliveMisses : Nat
  /-- Tick, of the die that watches, at which its last heartbeat came over the fabric (R593, R594). -/
  beatTick : Nat
  /-- Dimensions whose Dunyth link at this die is out of service: bit k for dimension k (R26). -/
  linkDown : Nat
  /-- The die's removal is decided, with the reason (R594); 5 where a fault was planted. -/
  condemned : Option Nat
  deriving DecidableEq, Repr

end Sys2Proof.Machine
end

