-- ==== Sys2Proof/Machine/StCmd.lean ====
section
/-! DEFINITION. State of mailboxes, the command queue, the journal, its host mirror and dual control (spec/04, 05). -/

namespace Sys2Proof.Machine

/-- One word of a mailbox queue with its stamp and marks (R120, R121). -/
structure MbxWord where
  word : Word32
  stamp : Nat
  last : Bool
  collided : Bool
  deriving DecidableEq, Repr

/-- A per-function mailbox (R120–R125). -/
structure FnMailbox where
  inbound : List MbxWord
  outbound : List MbxWord
  /-- MBX_STATUS.COLLISION of the receiver of each queue; SEND_OVERRUN of the function. -/
  collision : Bool
  fwCollision : Bool
  sendOverrun : Bool
  /-- Reply words firmware holds until the outbound queue has room (R123). -/
  held : List MbxWord
  deriving DecidableEq, Repr

/-- An inter-agent mailbox with its binding (R120, R127, MBX_BIND). -/
structure AgentMailbox where
  queue : List MbxWord
  collision : Bool
  rejects : Nat
  /-- Reply words firmware holds until the queue has room (R129). -/
  held : List MbxWord
  /-- The rotating order of R122: true when SENDER_B is next. -/
  nextIsB : Bool
  receiver : Nat
  event : Nat
  senderA : Nat
  senderB : Nat
  enable : Bool
  deriving DecidableEq, Repr

/-- By which way a command packet came, and its reply goes (R139). -/
inductive Route where
  /-- The command queue of PF0 of a link, with the number of the fetched packet. -/
  | queue (link index : Nat)
  /-- The mailbox of a function. -/
  | mailbox (fn : Nat)
  /-- An inter-agent mailbox of a die, bound to firmware. -/
  | agent (die mailbox : Nat)
  /-- PF1's admin opcode COMMAND_PACKET, with its NVMe command identifier (R126). -/
  | admin (fn cid : Nat)
  /-- COMMAND frames of the Stollek chain, with the SEQ of the last frame; 2^16 more once the frame has been answered with
  BUSY_RETRY (R67). -/
  | chain (seq : Nat)
  /-- The reply of this command is discarded: its function has been reset since (R125). -/
  | dropped
  deriving DecidableEq, Repr

/-- A command packet (Table 04.4): the header fields, the parameters, the sender's stamp and its route. -/
structure Packet where
  route : Route
  /-- The sender's master identity, stamped by the device. -/
  sender : Nat
  /-- The die that received the packet. -/
  die : Nat
  opcode : Nat
  paramLen : Nat
  flags : Nat
  txn : Nat
  token : Nat
  sequence : Nat
  reserved : Nat
  params : List Byte
  deriving DecidableEq, Repr

/-- A reply (Table 04.5). -/
structure Reply where
  status : Nat
  flags : Nat
  result : List Byte
  sequence : Nat
  jsn : Nat
  token : Nat
  opcode : Nat
  txn : Nat
  tempo : Nat
  deriving DecidableEq, Repr

/-- A journal entry (Table 04.8). ENTRY_CRC is computed from the other fields when the entry is shown. -/
structure JEntry where
  jsn : Nat
  token : Nat
  master : Nat
  status : Nat
  opcode : Nat
  txn : Nat
  tempo : Nat
  bootId : Nat
  time : Nat
  digest : Nat
  resultWord : Nat
  deriving DecidableEq, Repr

/-- JOURNAL_STATUS.MIRROR_STATE. -/
inductive MirrorState where
  | off
  | active
  | suspended
  | broken
  deriving DecidableEq, Repr

/-- The journal and its host mirror (R147–R157). Entries are held in JSN order, oldest first. -/
structure Journal where
  /-- The journal area of the lead die, and the mirror in that of the mirroring die; the areas of all other dies are zeroed
  (R16). -/
  entries : List JEntry
  copy : List JEntry
  next : Nat
  bootId : Nat
  mirror : MirrorState
  mirrorSync : Bool
  mirrorDie : Nat
  mirrorBase : Nat
  /-- Next JSN to be written to the host mirror. -/
  mirrorNext : Nat
  /-- The suspension came from a failed confirming read (R156). -/
  confirmFailed : Bool
  /-- JSNs of the entries written to a synchronous mirror whose confirming read has not ended, oldest first (R155). -/
  unconfirmed : List Nat
  /-- Replies waiting for the confirming read of a synchronous mirror (R155). -/
  waiting : List (Packet × Reply)
  /-- Commands that wait at the lead while a commit is in phase one, in order of arrival (R331). -/
  buffered : List Packet
  deriving DecidableEq, Repr

/-- The command queue of one PF0 (R131–R135). -/
structure Cmdq where
  enable : Bool
  cfgBusyWr : Bool
  indexErr : Bool
  log2Slots : Nat
  slotShift : Nat
  vector : Nat
  reqBase : Nat
  rplBase : Nat
  reqTail : Nat
  reqHead : Nat
  rplHead : Nat
  rplTail : Nat
  /-- Packets fetched since reset, by which the fetched commands are numbered. -/
  fetched : Nat
  /-- Fetched commands whose reply is not yet written, in the order of fetching: number, the reply once it is finished,
  FLAGS.INTERRUPT. -/
  replies : List (Nat × Option Reply × Bool)
  /-- A request slot is being fetched. -/
  fetching : Bool
  deriving DecidableEq, Repr

/-- State of a proposal (R168–R177). -/
inductive PropState where
  | proposed
  | pending
  | committed
  | failed
  | expired
  | withdrawn
  deriving DecidableEq, Repr

/-- A proposal of a protection change (spec/05). -/
structure Proposal where
  kind : Nat
  scope : Nat
  params : List Byte
  nonce : Nat
  digest : Nat
  state : PropState
  /-- The proposer was the platform authority (the chain head). -/
  byAuthority : Bool
  deadline : Nat
  sourceDie : Nat
  /-- Change count of the object when the proposal was made (R175). -/
  objCount : Nat
  fails : Nat
  deriving DecidableEq, Repr

/-- What checking an authority statement's signatures found (R163): values of cryptographic functions over keys and
bytes the model does not hold. -/
structure SigResult where
  /-- RSA_SIGNATURE verifies under the key R163 or R165 names, and PQ_SIGNATURE under the installed ML-DSA key. -/
  rsaVerifies : Bool
  pqVerifies : Bool
  /-- The signatures of the image or patch a FIRMWARE or MICROCODE commit reads verify under the fused keys (R54). -/
  imageVerifies : Bool
  deriving DecidableEq, Repr

/-- A PROPOSE packet, and what checking the signatures of the image or patch that it names would find (R165). -/
structure ProposePacket where
  packet : Packet
  good : SigResult
  deriving DecidableEq, Repr

/-- An edge at PPS_IN: its direction, and its phase of 8 within the present tick (R393). -/
structure PpsEdge where
  rising : Bool
  phase : Nat
  deriving DecidableEq, Repr

/-- The bytes that one host read covers in a register space: the first one's offset and how many they are (R11). -/
structure ReadSpan where
  offset : Nat
  size : Nat
  deriving DecidableEq, Repr

/-- Dual control (R166–R177). -/
structure Protect where
  proposals : Tbl Proposal
  nextProposal : Nat
  sigFails : Nat
  /-- Change counts of protected objects, keyed by object (R175). -/
  counts : Tbl Nat
  /-- DEBUG_UNLOCK in force until this tick of the lead (R176). -/
  debugUntil : Option Nat
  /-- Key page bindings: die * 4096 + page to function * 64 + BAR_SLOT. -/
  keyPages : Tbl Nat
  deriving DecidableEq, Repr

end Sys2Proof.Machine
end

