-- ==== Sys2Proof/Machine/StErr.lean ====
section
/-! DEFINITION. State of error records, memory codes and ledgers (spec/19, 20). -/

namespace Sys2Proof.Machine

/-- An error record (Table 19.1). BOOT_ID is the journal's; RECORD_CRC is computed when the record is shown. -/
structure ErrRecord where
  ersn : Nat
  timeFirst : Nat
  timeLast : Nat
  count : Nat
  severity : Nat
  isOpen : Bool
  handled : Bool
  preempted : Bool
  injected : Bool
  signalled : Bool
  cause : Nat
  subject : Nat
  die : Nat
  unit : Nat
  detailA : Nat
  detailB : Nat
  bootId : Nat
  deriving DecidableEq, Repr

/-- An error latched by a block and not yet handled (R578). -/
structure Latched where
  cause : Nat
  severity : Nat
  subject : Nat
  die : Nat
  unit : Nat
  detailA : Nat
  detailB : Nat
  injected : Bool
  recordOnly : Bool
  time : Nat
  timeLast : Nat
  repeats : Nat
  deriving DecidableEq, Repr

/-- The record queue (R574–R578) and FATAL_LAST. Records are held in ERSN order, oldest first: only those not
acknowledged. -/
structure Errors where
  records : List ErrRecord
  first : Nat
  next : Nat
  overflow : Bool
  lost : Nat
  latched : List Latched
  /-- ERSNs of the records whose handling has begun and not ended, the one in progress first (R579). -/
  handling : List Nat
  fatalLast : Option ErrRecord
  /-- Errors still to come of a planted fault: cause, die and unit (R583). -/
  planted : List (Nat × Nat × Nat)
  deriving DecidableEq, Repr

/-- DRAM_MARK of one sub-channel (R586), with the corrected lines of the last second: device, line, tick. -/
structure DramMark where
  device : Nat
  marked : Bool
  corrected : Nat
  recent : List (Nat × Nat × Nat)
  /-- Lines that cannot be corrected. -/
  badLines : List Nat
  deriving DecidableEq, Repr

/-- One SRAM bank: spare rows in use, and what is known of its rows (R585). -/
structure SramBank where
  sparesUsed : Nat
  /-- Rows that gave a corrected read in the present scrub pass, and in the one before. -/
  suspects : List Nat
  lastPass : List Nat
  /-- Rows that are to be replaced by a spare. -/
  faulty : List Nat
  exhausted : Bool
  /-- The next thread read of the bank finds an uncorrectable block (R505, R584). -/
  failNext : Bool
  /-- That block was planted (R583). -/
  failPlanted : Bool
  deriving DecidableEq, Repr

/-- LEDGER_STATUS of one die and what its audits found last (R614–R616). -/
structure LedgerBook where
  mismatch : Nat
  audits : Nat
  /-- Tick of the last audit (R614). -/
  auditTick : Nat
  /-- Cells that the last audit found in no state. -/
  strayCells : Nat
  /-- Tick of the audit that first found them. -/
  strayTick : Nat
  deriving DecidableEq, Repr

end Sys2Proof.Machine
end

