-- ==== Sys2Proof/Machine/StHost.lean ====
section
/-! DEFINITION. State of the host links and their functions (spec/03, with the per-function grants of 15 and the
register blocks of 22). -/

namespace Sys2Proof.Machine

/-- What an outstanding PCIe read serves (R95, R104): it decides what a failure does. -/
inductive ReadUse where
  /-- Submit entries of a queue pair, or an NVMe command: queue (256 and up for NVMe submission queues), first index, entries
  asked for. -/
  | control (queue index count : Nat)
  /-- The fragment table of a fetched submit entry: queue pair, the entry's index, entries of the burst from it on. -/
  | table (queue index count : Nat)
  /-- A read of PF0's command queue: request-ring index. -/
  | command (index : Nat)
  /-- Payload of an element of a queue pair: queue, SQ index. -/
  | payload (queue index : Nat)
  /-- A DMA channel's read. -/
  | channel (chan : Nat)
  /-- Data or a list of a storage command: NVMe submission queue, command number of the die. -/
  | storage (sq cmd : Nat)
  /-- The buffer of PF1's COMMAND_PACKET: its NVMe command identifier (R126). -/
  | packet (cid : Nat)
  /-- The confirming zero-length read of a synchronous journal mirror, after the write of the entry of a JSN (R155). -/
  | mirror (jsn : Nat)
  /-- The zero-length read of a VF that is being frozen (R493). -/
  | freeze
  deriving DecidableEq, Repr

/-- An outstanding non-posted request (R93–R97). -/
structure HostTag where
  fn : Nat
  use : ReadUse
  /-- Bytes still to come; a quarantined tag keeps what it had. -/
  remaining : Nat
  quarantined : Bool
  /-- The completion timeout of the request, in microseconds (R94). -/
  timeoutUs : Nat
  /-- The data of this read are discarded when they come (R98). -/
  discard : Bool
  /-- The operation tag of the die that the read holds from issue to retirement (R93). -/
  op : Nat
  deriving DecidableEq, Repr

/-- One of the nine IDE streams of a link (R117). -/
structure IdeStream where
  secure : Bool
  /-- Selective streams: requester identifiers bound; address association blocks as (base, limit). -/
  requesters : List Nat
  ranges : List (Nat × Nat)
  /-- The stream's key. -/
  key : Nat
  deriving DecidableEq, Repr

/-- One host link, numbered by its die. -/
structure Link where
  perst : Bool
  /-- LINK_STATUS.CUR_SPEED, 0 while the link is down. -/
  speed : Nat
  width : Nat
  flit : Bool
  reversed : Bool
  failedLanes : Nat
  /-- HOST_ORDER as last written, and as in effect since the last safe point (R89). -/
  roStaged : Bool
  idoStaged : Bool
  roPayload : Bool
  idoPayload : Bool
  /-- Receiver detection has found a root port (R112). -/
  receiver : Bool
  /-- The data link layer was lost by surprise and the configuration of every function with it (R112). -/
  surpriseDown : Bool
  d3cold : Bool
  frozen : Bool
  cause : Nat
  causeFn : Nat
  /-- Queue pair (0x100 for PF0's command queue) and index of a poisoned control fetch (R108). -/
  causeQueue : Nat
  causeIndex : Nat
  armed : Bool
  repeatCount : Nat
  /-- RELEASE_NONCE once drawn; none: the random value it has at reset (R111). -/
  nonce : Option Nat
  containedDrops : Nat
  lateCpl : Nat
  cto : Nat
  /-- What asserts WAKE_Nn: a frame of the chain or of the wake port, and the functions with a PME event (R116). -/
  wakeFrame : Bool
  wakeBy : List Nat
  /-- WIN_COUNTER.PAGE, WIN_TABLE.SPACE, ENABLE, PAGE (R650). -/
  winCounterPage : Nat
  winSpace : Nat
  winEnable : Bool
  winPage : Nat
  /-- ERR_CFG (R580). -/
  errVector : Nat
  errMinSeverity : Nat
  /-- IDE streams set up: 0 is the link stream, 1–8 the selective ones. -/
  ide : Tbl IdeStream
  /-- Bus numbers the host has assigned to the link (R87). -/
  buses : Nat
  /-- SPDM secured session open on this link's DOE mailbox (R62). -/
  spdmSession : Bool
  spdmVersion : Bool
  spdmAlgorithms : Bool
  /-- KEY_EXCHANGE has been answered and FINISH is due. -/
  spdmExchange : Bool
  deriving DecidableEq, Repr

/-- FUNC_STATUS.MIG_STATE (R493, R500). -/
inductive MigState where
  | running
  | pausing
  | paused
  deriving DecidableEq, Repr

/-- One MSI-X vector: table entry and pending bit (R82, R88). -/
structure MsixVec where
  address : Nat
  data : Nat
  masked : Bool
  pending : Bool
  deriving DecidableEq, Repr

/-- A device write that waits until its function can issue requests (R99): the queue pair or DMA channel it is of (0x100: of none),
its host address, its bytes, and whether it carries payload (R89). -/
structure HeldWrite where
  unit : Nat
  addr : Nat
  bytes : List Byte
  payload : Bool
  deriving DecidableEq, Repr

/-- Configuration space, grants and interrupts of one function. Keyed by master identity of class 0. -/
structure Func where
  provisioned : Bool
  busMaster : Bool
  vfEnable : Bool
  /-- NumVFs of a PF's SR-IOV capability. -/
  numVfs : Nat
  d3hot : Bool
  pmeEnable : Bool
  pmeStatus : Bool
  relaxed : Bool
  ido : Bool
  ctoValue : Nat
  tag14 : Bool
  tag10 : Bool
  extTag : Bool
  maxPayload : Nat
  maxRead : Nat
  msixEnable : Bool
  funcMask : Bool
  msix : Tbl MsixVec
  /-- Writes held while the function cannot issue, oldest first (R99). -/
  heldWrites : List HeldWrite
  /-- Base addresses in the BAR0 and BAR2 registers, and in the VF BARs of a PF's SR-IOV capability (R83, R84). -/
  bar0 : Nat
  bar2 : Nat
  vfBar0 : Nat
  vfBar2 : Nat
  /-- Grants of the resource partition (spec/15 Table 15.5): queue pairs, vectors granted and in effect,
  DMA channels, NVMe stage, rate budget. -/
  queuePairs : Nat
  vectors : Nat
  vectorsInEffect : Nat
  dmaChannels : Nat
  /-- The numbers of the DMA channels granted (log 15). -/
  channels : List Nat
  stageMax : Nat
  txBudget : Nat
  /-- TX_BUDGET was reached and the count has not fallen below three quarters of it (R352). -/
  txHeld : Bool
  /-- DMA windows (spec/15 R484): BASE, LIMIT. -/
  windows : List (Nat × Nat)
  mig : MigState
  rxNoSpace : Nat
  rxHoldExpired : Nat
  rxTooLong : Nat
  halted : Bool
  haltReason : Nat
  haltQueue : Nat
  haltIndex : Nat
  /-- RSS indirection table (128 entries) once written (spec/13 R442). -/
  rss : Tbl Nat
  rssWritten : Bool
  deriving DecidableEq, Repr

end Sys2Proof.Machine
end

