-- ==== Sys2Proof/Machine/StPort.lean ====
section
/-! DEFINITION. State of the Ethernet ports, the spare lane, synchronous Ethernet and the wake port (spec/06), and
of the per-port part of the traffic manager and of time stamping that a frame meets. -/

namespace Sys2Proof.Machine

/-- What a TX submit entry asks of the frame it sends (Table 13.2): its queue pair and index, checksums and the offsets
of L3_OFF0, L4_OFF0, L3_OFF1, L4_OFF1 as the edits have moved them (0xFFFF: the header was removed), segmentation,
egress stamp and one-step correction. -/
structure TxInfo where
  fn : Nat
  queue : Nat
  index : Nat
  csumFlags : Nat
  offs : List Nat
  mss : Nat
  hdrLen : Nat
  wantStamp : Bool
  oneStep : Bool
  deriving DecidableEq, Repr

/-- A staged field of access code RWS: the value last written and the value in effect (Table 00.2). -/
structure Staged (α : Type) where
  written : α
  inEffect : α
  deriving DecidableEq, Repr

/-- PORT_CFG without the address filter (R199). -/
structure PortCfg where
  maxFrame : Nat
  filterMode : Bool
  acceptBcast : Bool
  acceptMcast : Bool
  udp6ZeroOk : Bool
  deriving DecidableEq, Repr

/-- PREEMPT_CFG (R200–R204). -/
structure PreemptCfg where
  enable : Bool
  verifyDisable : Bool
  addFrag : Nat
  verifyTime : Nat
  expressPrio : Nat
  deriving DecidableEq, Repr

/-- PFC_CFG (R207–R210). -/
structure PfcCfg where
  mode : Nat
  rxHonor : Nat
  txAllow : Nat
  watchdogMs : Nat
  deriving DecidableEq, Repr

/-- PREEMPT_STATUS.VERIFY. -/
inductive Verify where
  | disabled
  | initial
  | verifying
  | succeeded
  | failed
  deriving DecidableEq, Repr

/-- Where a port's link stands (R187–R190). -/
inductive LinkPhase where
  | idle
  | negotiating
  | training
  | up
  deriving DecidableEq, Repr

/-- Next pages of Table 06.5 as one end sends them. -/
structure SparingPage where
  capable : Bool
  wired : Bool
  inUse : Bool
  retire : Option Nat
  spared : Option Nat
  deriving DecidableEq, Repr

/-- How a MAC sends or receives a frame on the line (R200–R203): whole by the express MAC, or in fragments. -/
inductive Fragment where
  | express
  /-- The start of a preemptable frame with its frame count modulo 4, and whether it is the whole frame. -/
  | start (frameCount : Nat) (complete : Bool)
  /-- A continuation: frame count, fragment count, and whether it is the last. -/
  | continue (frameCount fragCount : Nat) (complete : Bool)
  /-- An SMD value that the standard does not define. -/
  | unknownSmd
  deriving DecidableEq, Repr

/-- A frame waiting in a port's admission queue, in packet-buffer cells (R219). -/
structure RxFrame where
  bytes : List Byte
  macMatch : Nat
  /-- Ingress stamp in stamp form, and its package tick (R386, R387). -/
  stamp : Nat
  tick : Nat
  deriving DecidableEq, Repr

/-- The fields that take effect when a MAC begins to receive a frame and by which the whole frame is judged (R199). -/
structure RxRules where
  cfg : PortCfg
  filter : Tbl Nat
  deriving DecidableEq, Repr

/-- A partly received preemptable frame: frame count, next fragment count, bytes, and what its start fixed: the settings that
judge it and its ingress stamp and tick (R199, R203, R386). -/
structure PartialRx where
  count : Nat
  next : Nat
  bytes : List Byte
  rules : RxRules
  stamp : Nat
  tick : Nat
  deriving DecidableEq, Repr

/-- A preemptable frame that a MAC has begun to send: its bytes, how many its fragments have carried, its frame count, the
count of its next continuation, and whether it stands preempted (R201, R202). -/
structure PartialTx where
  bytes : List Byte
  sent : Nat
  frame : Nat
  frag : Nat
  cut : Bool
  /-- Its traffic class, whose gate may close on it (R364). -/
  tc : Nat
  deriving DecidableEq, Repr

/-- PORT_PTP_CFG (spec/11): RX_ADJ, TX_ADJ as signed values, TC_MODE, PEER_DELAY. -/
structure PtpCfg where
  rxAdj : Int
  txAdj : Int
  tcMode : Nat
  peerDelay : Int
  deriving DecidableEq, Repr

/-- One port, numbered 8 × die + first lane (R181). -/
structure Port where
  present : Bool
  lanes : Nat
  /-- Highest speed code the layout allows. -/
  ceiling : Nat
  phase : LinkPhase
  speed : Nat
  fec : Nat
  anDone : Bool
  sparingAvailable : Bool
  txSynce : Bool
  anForced : Bool
  forcedSpeed : Nat
  fecChoice : Nat
  spareEn : Bool
  wantSynce : Bool
  serExp : Nat
  /-- The lane of the port marked failed and named RETIRE in the next negotiation. -/
  retireLane : Option Nat
  cfg : Staged PortCfg
  preempt : Staged PreemptCfg
  pfc : Staged PfcCfg
  /-- MAC_FILTER entries, index to address × 2 + VALID: written and in effect. -/
  filter : Staged (Tbl Nat)
  verify : Verify
  /-- Verify requests sent without an answer. -/
  verifyTries : Nat
  hold : Bool
  /-- Classes paused by the partner, classes whose pause the watchdog stopped honouring, classes the traffic
  manager asks the port to pause, all as bits. -/
  paused : Nat
  tripped : Nat
  pauseReq : Nat
  /-- MAX_FRAME and UDP6_ZERO_OK were staged by a command that also staged transmit fields, and so wait for the same safe
  point as those (R199). -/
  macTx : Bool
  partialRx : Option PartialRx
  partialTx : Option PartialTx
  /-- Class of the last frame sent whole, and the tick at which it leaves the line (R365). -/
  lastWhole : Option (Nat × Nat)
  /-- Frame count of the next preemptable frame sent, modulo 4. -/
  txFrame : Nat
  stats : Tbl Nat
  snap : Tbl Nat
  snapValid : Bool
  admission : List RxFrame
  admitLimit : Nat
  admitLimitWritten : Nat
  admitDrop : Nat
  ptp : Staged PtpCfg
  ptpCounters : Tbl Nat
  deriving DecidableEq, Repr

/-- The layout of the two groups of a die and its spare lane (R180, R191). -/
structure PortBlock where
  layout0 : Nat
  layout1 : Nat
  laneSpeed : Tbl Nat
  sparePort : Nat
  spareWired : Bool
  spareInUse : Bool
  /-- The port whose lane the spare replaces, while it is in use (R194, R196). -/
  spareFor : Nat
  replacedLane : Nat
  /-- Next port of P0's rotation (R218). -/
  rotor : Nat
  deriving DecidableEq, Repr

/-- SYNCE_CFG, WAKE_PORT_CFG, WAKE_PATTERN and WAKE_CFG (R211–R217, R116). -/
structure Synce where
  sourcePort : Nat
  outEnable : Bool
  outFreq : Bool
  squelch : Bool
  refFreq : Bool
  refLost : Bool
  wakeAddr : Nat
  wakeEnable : Bool
  wakeSpeed : Bool
  wakePattern : Nat
  wakeFrameLinks : Nat
  chainWakeEn : Bool
  deriving DecidableEq, Repr

end Sys2Proof.Machine
end

