-- ==== Sys2Proof/Machine/StOut.lean ====
section
/-! DEFINITION. What leaves the package and is not held in memory: the output log, the model's own field (log 4). -/

namespace Sys2Proof.Machine

/-- One thing the package has sent, newest last in the log. -/
inductive Out where
  /-- A Stollek chain frame. -/
  | chain (bytes : List Byte)
  /-- A frame on a port's line. -/
  | frame (port : Nat) (bytes : List Byte)
  /-- A preemptable frame, or a fragment of one, as its mPacket: port, counts, bytes (R201). -/
  | mPacket (port : Nat) (part : Fragment) (bytes : List Byte)
  /-- A verify mPacket (R200). -/
  | verify (port : Nat)
  /-- A pause frame: port, classes, quanta. -/
  | pause (port classes quanta : Nat)
  /-- An MSI-X message of a function: vector, address, data. -/
  | msi (fn vector address data : Nat)
  /-- A payload write of a function and its attributes Relaxed Ordering and ID-Based Ordering: every other write has neither
  (R89, R90). -/
  | payload (fn addr bytes : Nat) (ro ido : Bool)
  /-- A PCIe message or completion of a link: kind and value (see `Sys2Proof.Machine.TlpKind`). -/
  | tlp (link kind value : Nat)
  /-- A reply to a command (R139). -/
  | reply (route : Route) (r : Reply)
  /-- An SPDM response: the link (none for the chain), its code and its bytes. -/
  | spdm (link : Option Nat) (code : Nat) (bytes : List Byte)
  /-- An NVMe command sent on a path of a target: command number, opcode, remote namespace, first remote block, blocks,
  data. -/
  | target (die target path cmd opcode nsid slba blocks : Nat) (data : List Byte)
  /-- What a read of a register with an effect returned to an agent. -/
  | read (reader value : Nat)
  /-- A rise or fall of a pin. -/
  | pin (name : Nat) (level : Bool)
  deriving DecidableEq, Repr

/-- Kinds of `Out.tlp`. -/
inductive TlpKind where
  | errFatal
  | pmPme
  | completerAbort
  | retryStatus
  | successful
  | readRequest
  | unsupported
  | aerTimeout
  | aerUnexpectedAdvisory
  | aerUnexpected
  | aerIde
  deriving DecidableEq, Repr

/-- The number an `Out.tlp` carries for its kind. -/
def TlpKind.code : TlpKind → Nat
  | .errFatal => 0
  | .pmPme => 1
  | .completerAbort => 2
  | .retryStatus => 3
  | .successful => 4
  | .readRequest => 5
  | .unsupported => 6
  | .aerTimeout => 7
  | .aerUnexpectedAdvisory => 8
  | .aerUnexpected => 9
  | .aerIde => 10

end Sys2Proof.Machine
end

