-- ==== Sys2Proof/Machine/StPipe.lean ====
section
/-! DEFINITION. State of the pipelines: program banks, tables, packets in flight, action memory, counters (spec/07, 08). -/

namespace Sys2Proof.Machine

/-- A parse node (Table 07.1). -/
structure ParseNode where
  kind : Nat
  newLayer : Bool
  terminal : Bool
  varLen : Bool
  lenFixed : Nat
  lenOffset : Nat
  lenShift : Nat
  lenMask : Nat
  lenScale : Nat
  selOffset : Nat
  stackMax : Nat
  defaultNext : Nat
  selMask : Nat
  /-- VALID transitions in order: VALUE, NEXT. -/
  transitions : List (Nat × Nat)
  /-- Extraction commands 0–7: SRC, LENGTH, DEST. -/
  extracts : List (Nat × Nat × Nat)
  deriving DecidableEq, Repr

/-- A lookup definition (Table 07.8). -/
structure LookupDef where
  table : Nat
  cond : Nat
  condArg : Nat
  chainLen : Nat
  chainDest : Nat
  /-- Key segments: header vector offset, length. -/
  segments : List (Nat × Nat)
  deriving DecidableEq, Repr

/-- The kinds of table (Table 07.10). -/
inductive TableKind where
  | exact
  | flow
  | lpm4
  | lpm6
  | tcam
  deriving DecidableEq, Repr

/-- A table declaration (Table 07.10). -/
structure TableDecl where
  table : Nat
  kind : TableKind
  keyLen : Nat
  /-- Entry size in bytes for EXACT and FLOW. -/
  entrySize : Nat
  /-- Entries (EXACT), GiB (FLOW), first block (TCAM). -/
  capacity : Nat
  blocks : Nat
  dataPlane : Bool
  deriving DecidableEq, Repr

/-- An action word (Table 08.2): NEXT, NEXT_MODE, RESULT and the seven primitives. -/
structure ActionWord where
  next : Nat
  nextMode : Nat
  result : Nat
  slots : List Nat
  deriving DecidableEq, Repr

/-- A program bank (R223, R235, R270). -/
structure Bank where
  standard : Bool
  programId : Nat
  rootP0 : Nat
  rootP1 : Nat
  nodes : Tbl ParseNode
  lookups0 : Tbl LookupDef
  lookups1 : Tbl LookupDef
  decls : List TableDecl
  entryTable : Tbl Nat
  words : Tbl ActionWord
  /-- The sections of the image it was loaded from, which the bank's measurement covers (R63). -/
  image : List Byte
  deriving DecidableEq, Repr

/-- A version of a table entry on one die (Table 07.12, R237, R250). -/
structure TEntry where
  table : Nat
  key : List Byte
  mask : List Byte
  prefixLen : Nat
  priority : Nat
  /-- The place: TCAM address, place index, flow slot, or leaf of a longest-prefix table (R263). -/
  place : Nat
  born : Nat
  retired : Option Nat
  action : Nat
  dataPlane : Bool
  pinned : Bool
  params : List Byte
  deriving DecidableEq, Repr

/-- One way of the flow cache (R244): the key of a table and whether it is a negative mark. -/
structure CacheWay where
  table : Nat
  key : List Byte
  negative : Bool
  pinned : Bool
  /-- Age rank within the cache: larger is more recent. -/
  used : Nat
  deriving DecidableEq, Repr

/-- Two versions of a parameter set or template (R271). -/
structure Versioned where
  bornA : Nat
  valueA : List Byte
  bornB : Nat
  valueB : List Byte
  /-- The newer version is B. -/
  newerB : Bool
  deriving DecidableEq, Repr

/-- A policer record (Table 08.10). Tokens carry their fractions: they are counted in 1/12,800,000ths of a byte,
so that one pipeline clock at 1 kb/s adds a whole number (R297). -/
structure Policer where
  mode : Nat
  colorAware : Bool
  resetToZero : Bool
  cir : Nat
  pir : Nat
  cbs : Nat
  ebsPbs : Nat
  tokensC : Nat
  tokensEp : Nat
  last : Nat
  deriving DecidableEq, Repr

/-- A pending request of an action program or a thread to write a table from the data plane (R256, R258). -/
structure LearnReq where
  table : Nat
  key : List Byte
  mask : List Byte
  priority : Nat
  place : Nat
  action : Nat
  params : List Byte
  delete : Bool
  /-- Pipeline that issued it: 0, 1; threads use 1. -/
  pipe : Nat
  deriving DecidableEq, Repr

/-- One service of a die's learn queue: the die, and the request that a thread makes in this clock, if any. -/
structure LearnService where
  die : Nat
  asked : Option (Nat × LearnReq)
  deriving DecidableEq, Repr

/-- One service of a die's queue of TCAM writes: the die, and the request that a thread (its number) or an action program (`none`)
makes in this clock, if any. -/
structure TcamService where
  die : Nat
  asked : Option (Option Nat × LearnReq)
  deriving DecidableEq, Repr

/-- Where a packet in flight stands (R221, R245, R315). -/
inductive PktPhase where
  /-- In its hold place, lookups done. -/
  | hold
  /-- In its hold place, waiting on a flow-table read of the key. -/
  | flowWait
  /-- In a cipher input queue: lane. -/
  | cipherIn (lane : Nat)
  /-- In a cipher lane. -/
  | cipher (lane : Nat)
  /-- Decrypted, held in the verify buffer with its outcome. -/
  | verify (good : Bool)
  deriving DecidableEq, Repr

/-- What an action program left for the end of a packet (R276–R290). -/
structure Verdict where
  /-- Destination descriptor, 0 for none. -/
  dest : Nat
  mtu : Nat
  counter : Nat
  /-- Cipher slot to use, whether it decrypts, whether it reinjects. -/
  cipherSlot : Option Nat
  decrypt : Bool
  reinject : Bool
  deriving DecidableEq, Repr

/-- A packet in flight (R315). -/
structure FlightPkt where
  die : Nat
  pipe : Nat
  tempo : Nat
  bank : Nat
  phase : PktPhase
  sourceKind : Nat
  sourceId : Nat
  tc : Nat
  stamp : Nat
  /-- The frame as received, and as edited. -/
  original : List Byte
  frame : List Byte
  /-- Header vector (Table 07.4), 512 bytes. -/
  vector : List Byte
  /-- Parameters of the entry that hit, by lookup number. -/
  params : Tbl (List Byte)
  /-- Its flow lookups in lookup order: lookup number, table, key (R245). -/
  flowLookups : List (Nat × Nat × List Byte)
  /-- Owner function and cipher limits of a host packet (R299). -/
  fn : Nat
  verdict : Verdict
  /-- The cells it takes of the die's packet buffer. -/
  cells : Nat
  /-- The submit entry it came from (spec/13). -/
  tx : Option TxInfo
  /-- The ingress count its cells stand in (R353): port lane × 8 + class, or 64 + die × 8 + class. -/
  ing : Option Nat
  /-- Package tick of its ingress stamp (R387). -/
  inTick : Nat
  deriving DecidableEq, Repr

/-- A frame waiting to enter P1 (R218, R220). -/
structure P1Frame where
  sourceKind : Nat
  sourceId : Nat
  tc : Nat
  bytes : List Byte
  tx : Option TxInfo
  /-- Packet-buffer cells it holds, and the ingress count they stand in. -/
  cells : Nat
  ing : Option Nat
  /-- Ingress stamp and package tick of a frame that re-enters P1 (R300, R387); 0 otherwise. -/
  stamp : Nat
  inTick : Nat
  /-- The thread channel that holds its inject message until P1 admits it (R218, R220). -/
  chan : Option Nat := none
  deriving DecidableEq, Repr

/-- The pipelines, tables and action memory of one die. -/
structure Pipe where
  entries : List TEntry
  cache : Tbl CacheWay
  cacheClock : Nat
  /-- DRAM reads of the flow table in flight: table, key, and whether the key was written meanwhile (R248). -/
  flowReads : List (Nat × List Byte × Bool)
  sets : Tbl Versioned
  templates : Tbl Versioned
  policers : Tbl Policer
  /-- Counter pairs in DRAM, and those changed in the combining cache, keyed by pair: packets, bytes (R292, R293). -/
  counters : Tbl (Nat × Nat)
  counterCache : Tbl (Nat × Nat)
  /-- Lines of four pairs that the combining cache holds, and those whose read from DRAM is still to come (R293). -/
  counterLines : List Nat
  counterMisses : List Nat
  /-- The second in which a miss last came, and the misses of that second (R293, log 120). -/
  missSecond : Nat
  missCount : Nat
  learn : List LearnReq
  tcamWrites : List LearnReq
  /-- Requests of threads that stall until their queue has a place: the thread and its request (R256, R258). -/
  learnStalled : List (Nat × LearnReq)
  tcamStalled : List (Nat × LearnReq)
  counters0 : Tbl Nat
  counters1 : Tbl Nat
  drops0 : Tbl Nat
  drops1 : Tbl Nat
  commitWait : Bool
  /-- Retired root versions of longest-prefix tables still present: table, tempo at which the root was retired (R252). -/
  roots : List (Nat × Nat)
  p1Queue : List P1Frame
  /-- Rotation of P1's sources: the source admitted last (R218). -/
  p1Last : Nat
  deriving DecidableEq, Repr

end Sys2Proof.Machine
end

