-- ==== Sys2Proof/Machine/StTm.lean ====
section
/-! DEFINITION. State of the traffic manager, the Dunyth links and the time unit (spec/01, 10, 11). -/

namespace Sys2Proof.Machine

/-- A dual-rate shaper (R357–R359). Tokens are signed and carry their fractions: one byte is 12,800,000 units, so that one
pipeline clock at 1 kb/s adds one unit. -/
structure Shaper where
  enable : Bool
  cir : Nat
  cbs : Nat
  pir : Nat
  pbs : Nat
  tokensC : Int
  tokensP : Int
  /-- Tick of the last refill. -/
  last : Nat
  deriving DecidableEq, Repr

/-- A packet waiting in a leaf, a fabric lane or on a Dunyth link. -/
structure TmPkt where
  bytes : List Byte
  tc : Nat
  ingressClass : Nat
  sourceKind : Nat
  sourceId : Nat
  /-- The destination descriptor and the pipeline that parsed it. -/
  dest : Nat
  pipe : Nat
  /-- Die it arrived from over the fabric, and the port it arrived on. -/
  fromDie : Option Nat
  fromPort : Option Nat
  /-- Ingress package tick and peer delay of the ingress port (R390, R391). -/
  inTick : Nat
  peerDelay : Int
  hash : Nat
  stamp : Nat
  csum : Nat
  macMatch : Nat
  /-- The submit entry of a host frame. -/
  tx : Option TxInfo
  deriving DecidableEq, Repr

/-- A node of levels 0–2 (Table 10.1). -/
structure TmNode where
  prio : Nat
  quantum : Nat
  parent : Nat
  lenAdjust : Nat
  shaper : Shaper
  deficit : Nat
  fresh : Bool
  /-- pointer[prio]: the child the round robin stands at. -/
  pointers : Tbl Nat
  profile : Bool
  deriving DecidableEq, Repr

/-- A leaf queue. -/
structure TmLeaf where
  prio : Nat
  tc : Nat
  quantum : Nat
  parent : Nat
  maxCells : Nat
  alpha : Nat
  dropCounter : Option Nat
  shaper : Shaper
  deficit : Nat
  fresh : Bool
  profile : Bool
  queue : List TmPkt
  deriving DecidableEq, Repr

/-- A class record (Table 10.3, CLASS). -/
structure TmClass where
  lossless : Bool
  xoff : Nat
  xon : Nat
  headroom : Nat
  fabricMax : Nat
  deriving DecidableEq, Repr

/-- A rate profile: function and port to level-2 node and first of eight leaves (R370). -/
structure RateProfile where
  fn : Nat
  port : Nat
  node : Nat
  leaves : List Nat
  deriving DecidableEq, Repr

/-- One lane of a fabric queue (R348). -/
structure FabricLane where
  queue : List TmPkt
  deficit : Nat
  fresh : Bool
  deriving DecidableEq, Repr

/-- Entries of a gate control list: operation, gates, interval (R361). -/
structure GateList where
  base : Nat
  cycle : Nat
  extension : Nat
  entries : List (Nat × Nat × Nat)
  takeover : Nat
  deriving DecidableEq, Repr

/-- Gate control of one port (R361–R368). -/
structure GateCtl where
  running : Option GateList
  next : Option GateList
  gates : Nat
  hold : Bool
  extending : Bool
  entry : Nat
  /-- The cycle, from BASE_TIME on, of the entry in force. -/
  cycleNo : Int
  deriving DecidableEq, Repr

/-- What a message of the fabric brings to its destination die. -/
inductive FlitLoad where
  | packet (p : TmPkt)
  | message (kind : Nat) (value : Nat)
  deriving DecidableEq, Repr

/-- A part of a message: bytes of it that lie together in a flit or wait together at a link (R18). The last part carries the
load. -/
structure MsgPart where
  /-- The message's number, by which its parts belong together. -/
  msg : Nat
  src : Nat
  dst : Nat
  /-- It has taken its detour hop: from the next die on it travels in the detour lane (R26). -/
  detoured : Bool
  bytes : Nat
  load : Option FlitLoad
  deriving DecidableEq, Repr

/-- A flit: the virtual channel, returned credits and sequence count of its framing, and up to 125 bytes of messages (R18). -/
structure Flit where
  chan : Nat
  credits : Nat
  seq : Nat
  parts : List MsgPart
  deriving DecidableEq, Repr

/-- One channel of one direction of a Dunyth link, keyed by sending die, dimension, channel (4 more for the detour
lane): what waits at the sender, the flits on the wire or in the receive buffer, each of which holds a credit, and the credits
freed since a flit last returned some (R18, R22–R26). -/
structure Lane where
  sendQ : List MsgPart
  buffer : List Flit
  freed : Nat
  deriving DecidableEq, Repr

/-- The sending end of one direction of a Dunyth link: the flit slot of its frame of 16, and its sequence count (R18, R24). -/
structure LinkEnd where
  slot : Nat
  seq : Nat
  deriving DecidableEq, Repr

/-- The traffic manager of one die. -/
structure Tm where
  /-- Nodes keyed by level × 65,536 + index. -/
  nodes : Tbl TmNode
  leaves : Tbl TmLeaf
  classes : Tbl TmClass
  profiles : List RateProfile
  /-- Fabric lanes keyed by destination die × 8 + class; the lane each queue's round robin stands at. -/
  lanes : Tbl FabricLane
  lanePtr : Tbl Nat
  /-- Classes of the queue to die d that die d paused, and classes this die paused at die d. -/
  pausedByDest : Tbl Nat
  pausingSource : Tbl Nat
  gates : Tbl GateCtl
  free : Nat
  pipeline : Nat
  queued : Nat
  transit : Nat
  /-- Cells in use of the fabric reserve, and of the headroom of port × 8 + class. -/
  fabricUsed : Nat
  headroomUsed : Tbl Nat
  /-- ING(p, c) at port × 8 + class; ING(d, c) at 64 + die × 8 + class (R353). -/
  ing : Tbl Nat
  counters : Tbl Nat
  deriving DecidableEq, Repr

/-- The time model and the pending change: package state, the same on every die (R375–R382). -/
structure TimeModel where
  baseTick : Nat
  offset : Nat
  offsetSub : Nat
  rate : Nat
  /-- Change tick, step, new rate (0 unchanged), is a set, value of a set. -/
  pending : Option (Nat × Int × Nat × Bool × Nat)
  valid : Bool
  steps : Nat
  refDie : Nat
  deriving DecidableEq, Repr

/-- PPS_CFG (R393, R394). -/
structure PpsCfg where
  inEnable : Bool
  inFalling : Bool
  outEnable : Bool
  outWaitValid : Bool
  inAdj : Nat
  outAdj : Nat
  vector : Nat
  widthNs : Nat
  periodNs : Nat
  deriving DecidableEq, Repr

/-- PPS state of the package. -/
structure Pps where
  cfg : Staged PpsCfg
  stamp : Nat
  count : Nat
  new : Bool
  /-- Tick of the last edge accepted, for the 1 µs dead time. -/
  lastEdge : Option Nat
  /-- PPS_OUT high, and the tick at which it rose. -/
  out : Bool
  outTick : Nat
  /-- The time, moved by OUT_ADJ, from which the next multiple of PERIOD_NS is awaited (R394). -/
  outFrom : Nat
  deriving DecidableEq, Repr

/-- The tick counter and alignment of one die (R374, R383, R384). -/
structure DieTime where
  tick : Nat
  correction : Int
  aligned : Bool
  alignErr : Nat
  goodRuns : Nat
  /-- Tick counter at the last measurement (R384). -/
  measured : Nat
  capTick : Nat
  capTime : Nat
  deriving DecidableEq, Repr

end Sys2Proof.Machine
end

