-- ==== Sys2Proof/Machine/StQueue.lean ====
section
/-! DEFINITION. State of the cipher engine, the rings, the DMA engine and the storage functions (spec/12, 13, 14). -/

namespace Sys2Proof.Machine

/-- SLOT_STATUS.STATE (R415, R418). -/
inductive SlotState where
  | empty
  | active
  | exhausted
  | faulted
  deriving DecidableEq, Repr

/-- One version of a key slot (R402). The key itself enters no rule but the cipher functions. -/
structure KeyVersion where
  state : SlotState
  key : Nat
  salt : Nat
  ssci : Nat
  cfg : Nat
  slotId : Nat
  seq : Nat
  softLimit : Nat
  born : Nat
  retired : Option Nat
  /-- Sequences accepted within the replay window. -/
  window : List Nat
  authFails : Nat
  replayFails : Nat
  deriving DecidableEq, Repr

/-- A key slot: its two versions and staging registers (R402–R405, R419). -/
structure KeySlot where
  newer : KeyVersion
  older : KeyVersion
  /-- KEY_MATERIAL as KEY, SALT, SSCI; SLOT_CFG, SLOT_ID, SEQ_START, SOFT_LIMIT as written. -/
  stKey : Nat
  stSalt : Nat
  stSsci : Nat
  stCfg : Nat
  stId : Nat
  stSeq : Nat
  stLimit : Nat
  installBusy : Bool
  installErr : Bool
  errCause : Nat
  soft : Bool
  deriving DecidableEq, Repr

/-- Where a unit of the cipher engine comes from (R399, R402). -/
inductive UnitSource where
  /-- A packet in flight, by its number. -/
  | packet (id : Nat)
  /-- A TLS record of a sequencer. -/
  | record (seq : Nat)
  /-- A block of a storage command of a function. -/
  | block (fn command : Nat)
  deriving DecidableEq, Repr

/-- Where a unit stands. -/
inductive UnitPhase where
  | waiting
  | lane
  | verified
  deriving DecidableEq, Repr

/-- A unit in the cipher engine. -/
structure CipherUnit where
  source : UnitSource
  slot : Nat
  /-- The version it uses, by its BORN tempo. -/
  born : Nat
  encrypt : Bool
  reinject : Bool
  phase : UnitPhase
  seq : Nat
  /-- Text of a record or a block, and its associated data; a packet's come from its frame (Table 12.2). -/
  bytes : List Byte
  aad : List Byte
  /-- Verify units of 256 bytes it holds. -/
  verify : Nat
  tempo : Nat
  /-- Input class: 0 network P0, 1 network P1, 2 TLS, 3 STORAGE. -/
  klass : Nat
  /-- The block's number within its storage command. -/
  index : Nat
  /-- What the lane put out: a verified unit's plaintext. -/
  out : List Byte
  /-- The order in which units entered the engine, or joined its queue while they wait. -/
  order : Nat
  deriving DecidableEq, Repr

/-- The cipher engine of one die. -/
structure Cipher where
  /-- Key slots other than the wholly empty ones, keyed by slot number. -/
  slots : Tbl KeySlot
  /-- Pages that are MASKED. -/
  masked : List Nat
  units : Tbl CipherUnit
  nextUnit : Nat
  netShare : Staged Nat
  tlsShare : Staged Nat
  storShare : Staged Nat
  funcMax : Staged Nat
  cfgErr : Bool
  counters : Tbl Nat
  deriving DecidableEq, Repr

/-- Kinds of queue pair (R420). -/
inductive QueueKind where
  | tx
  | rx
  | dma
  deriving DecidableEq, Repr

/-- Completion modes (R436). -/
inductive CplMode where
  | entry
  | batch
  | ownWb
  deriving DecidableEq, Repr

/-- Progress of an accepted submit entry. -/
inductive EntryPhase where
  /-- Accepted; its data are being read. -/
  | reading
  /-- Its fragment table is being read. -/
  | table
  /-- Its packet went to P1 and it waits for an egress stamp. -/
  | stamping
  /-- An RX buffer posted and not taken. -/
  | posted
  /-- A DMA descriptor on its channel. -/
  | running
  /-- Finished, completion not yet formed (it waits for its order). -/
  | finished
  deriving DecidableEq, Repr

/-- An accepted submit entry (R434). -/
structure SubmitEntry where
  index : Nat
  opcode : Nat
  ctrl : Nat
  tc : Nat
  totalLen : Nat
  mss : Nat
  hdrLen : Nat
  csumFlags : Nat
  user : Nat
  offs : List Nat
  /-- Fragments: address, length. -/
  frags : List (Nat × Nat)
  phase : EntryPhase
  status : Nat
  stamp : Nat
  /-- Length of the completion: bytes processed, or written into the buffer. -/
  length : Nat
  /-- RX: FLAGS.EOP, CSUM_STATUS, FLOW_HASH, TC, MAC_MATCH. -/
  eop : Bool
  info : Nat
  hash : Nat
  rxTc : Nat
  macMatch : Nat
  /-- The descriptor of a DMA entry, as fetched. -/
  desc : List Byte
  deriving DecidableEq, Repr

/-- A queue pair. Keyed by function × 256 + number. -/
structure QueuePair where
  kind : QueueKind
  log2Sq : Nat
  log2Cq : Nat
  mode : CplMode
  vector : Option Nat
  intUsec : Nat
  sqBase : Nat
  cqBase : Nat
  wbAddr : Nat
  sqHead : Nat
  sqTail : Nat
  cqTail : Nat
  cqHead : Nat
  /-- Next index to fetch. -/
  fetch : Nat
  indexErr : Bool
  ownWait : Bool
  /-- Wait before the next read of an unposted entry, in microseconds, and the time-clock count at which it began (R426). -/
  backoffUs : Nat
  ownSince : Nat
  armed : Bool
  batchCount : Nat
  holdShare : Nat
  intCount : Nat
  rxHoldUs : Nat
  pasid : Nat
  channel : Option Nat
  accepted : List SubmitEntry
  /-- Finished completions in holding slots: the 32 bytes, whether INTERRUPT was asked, entries covered. -/
  held : List (List Byte × Bool × Nat)
  /-- Completed entries of the open batch. -/
  batch : List SubmitEntry
  /-- When each completion that the host holds was written, oldest first, in counts of the time clock (R438). -/
  writtenAt : List Nat
  /-- Packets waiting in the RX backlog, each with the time-clock count of its arrival (R441). -/
  backlog : List (Nat × TmPkt)
  forced : Bool
  retried : Bool
  deriving DecidableEq, Repr

/-- What a DMA channel is bound to (R450). -/
inductive Binder where
  | none
  | queue (fn queue : Nat)
  | thread (id : Nat)
  | sequencer (id : Nat)
  deriving DecidableEq, Repr

/-- A DMA channel (R445–R450). -/
structure DmaChannel where
  pause : Bool
  forced : Bool
  busy : Bool
  cfgBusyWr : Bool
  underflow : Bool
  binder : Binder
  i0 : Nat
  i1 : Nat
  i2 : Nat
  offset : Nat
  status : Nat
  lastAddr : Nat
  high : Staged Nat
  low : Staged Nat
  level : Nat
  /-- Level reached HIGH and has not fallen to LOW (R448). -/
  throttled : Bool
  elem : List Byte
  /-- READ_BACK in progress. -/
  readBack : Bool
  /-- A completion word that waits for room in its thread channel (R513). -/
  waiting : Option Nat
  deriving DecidableEq, Repr

/-- An NVMe submission or completion queue of a storage function. -/
structure NvmeQueue where
  base : Nat
  size : Nat
  head : Nat
  tail : Nat
  /-- Submission queue: its completion queue. Completion queue: its vector. -/
  peer : Nat
  intEnable : Bool
  phase : Bool
  /-- Completion queue: finished completions in holding slots, without their phase bit: dword 0, SQ head, SQ, CID, status. -/
  held : List (Nat × Nat × Nat × Nat × Nat)
  /-- Submission queue: a fetch has failed once (R443). -/
  retried : Bool
  deriving DecidableEq, Repr

/-- Where a fetched I/O command stands. -/
inductive NvmePhase where
  /-- It waits for staging (R464). -/
  | staging
  /-- It holds its staging and reads its data from the host (R93, R464). -/
  | reading
  /-- It waits for an orphaned write that it overlaps to end (R458). -/
  | behind
  /-- Its blocks are being encrypted. -/
  | encrypt
  /-- It waits for a path. -/
  | path
  /-- It is at the target, on a path. -/
  | sent (path : Nat)
  /-- Its path went down and FENCE_MS has not passed (R467). -/
  | fence (path : Nat)
  /-- Blocks from the target are being decrypted. -/
  | decrypt
  /-- Data from the target wait for the function to be able to issue. -/
  | copy
  deriving DecidableEq, Repr

/-- A fetched I/O command of a storage function (R457–R469). -/
structure NvmeCmd where
  fn : Nat
  sq : Nat
  cid : Nat
  opcode : Nat
  nsid : Nat
  lba : Nat
  blocks : Nat
  /-- Host ranges of its data: address, length. -/
  frags : List (Nat × Nat)
  phase : NvmePhase
  target : Nat
  orphan : Bool
  reissues : Nat
  /-- Its next sending is a re-issue (R467). -/
  again : Bool
  /-- Staging bytes it holds. -/
  stage : Nat
  /-- Staged bytes: to be sent, or as the target returned them. -/
  data : List Byte
  /-- Blocks done by earlier parts of a Write Zeroes that is written in parts, and blocks of the present part (R469). -/
  pos : Nat
  part : Nat
  /-- First failing status of the parts of a Flush that names several namespaces. -/
  status : Nat
  /-- Time-clock count at which it was sent, or began to wait for a path or for FENCE_MS (R458, R467). -/
  since : Nat
  deriving DecidableEq, Repr

/-- One NVMe controller (R454–R459). -/
structure Nvme where
  cc : Nat
  csts : Nat
  aqa : Nat
  asq : Nat
  acq : Nat
  intms : Nat
  featVwc : Nat
  featQueues : Nat
  featCoalesce : Nat
  featVector : Tbl Nat
  featAsync : Nat
  /-- Command identifiers of outstanding Asynchronous Event Requests. -/
  asyncReqs : List Nat
  changedNs : List Nat
  sqs : Tbl NvmeQueue
  cqs : Tbl NvmeQueue
  disabling : Bool
  /-- Time-clock count at which CC.EN went to 0 (R457). -/
  disabledAt : Nat
  /-- Replies held for COMMAND_REPLY: sequence and reply bytes, latest 16 (R126). -/
  replies : List (Nat × List Byte)
  deriving DecidableEq, Repr

/-- A namespace (R460). -/
structure Namespace where
  fn : Nat
  nsid : Nat
  protect : Bool
  readOnly : Bool
  lbads : Nat
  blocks : Nat
  target : Nat
  remoteNsid : Nat
  remoteOffset : Nat
  writeSlot : Nat
  readSlot : Nat
  destroying : Bool
  deriving DecidableEq, Repr

/-- State of a path (R466). -/
inductive PathState where
  | absent
  | connecting
  | live
  | down
  | mismatch
  deriving DecidableEq, Repr

/-- ANA state of a path. -/
inductive Ana where
  | optimized
  | nonOptimized
  | inaccessible
  deriving DecidableEq, Repr

/-- What the device reads of a remote namespace (R461, R466, R469): data size as a power of two, capacity in blocks, metadata
bytes per block as extended LBA, whether end-to-end protection is enabled, whether the controller has Write Zeroes. -/
structure RemoteNs where
  lbads : Nat
  blocks : Nat
  metaBytes : Nat
  protection : Bool
  writeZeroes : Bool
  ana : Ana
  deriving DecidableEq, Repr

/-- A path entry of a target. -/
structure Path where
  transport : Nat
  flags : Nat
  queues : Nat
  priority : Nat
  qdepth : Nat
  port : Nat
  vrf : Nat
  address : List Byte
  localAddress : List Byte
  state : PathState
  /-- Remote namespaces read on this path. -/
  remotes : Tbl RemoteNs
  /-- Transport contexts of its connections, the admin connection first. -/
  contexts : List Nat
  /-- Time-clock count at which its connections ended (R467). -/
  downAt : Nat
  deriving DecidableEq, Repr

/-- A target (R460–R467). -/
structure Target where
  policy : Nat
  ioHoldS : Nat
  cmdTimeoutMs : Nat
  fenceMs : Nat
  subnqn : List Byte
  hostnqn : List Byte
  paths : Tbl Path
  reissued : Nat
  /-- Path taken last under ROUND_ROBIN. -/
  rotor : Nat
  deriving DecidableEq, Repr

/-- Storage of one die. Namespaces keyed by number. -/
structure Storage where
  namespaces : Tbl Namespace
  targets : Tbl Target
  cmds : Tbl NvmeCmd
  nextCmd : Nat
  counters : Tbl Nat
  deriving DecidableEq, Repr

end Sys2Proof.Machine
end

