-- ==== Sys2Proof/Machine/StSeq.lean ====
section
/-! DEFINITION. State of the transport sequencers, their contexts and their control store (spec/18). -/

namespace Sys2Proof.Machine

/-- SEQ_STATUS.STATE. -/
inductive SeqState where
  | idle
  | running
  | waiting
  | outOfService
  deriving DecidableEq, Repr

/-- A frame in the input queue of a sequencer: its context, its bytes and the cells it takes (R561). -/
structure SeqFrame where
  context : Nat
  bytes : List Byte
  cells : Nat
  ing : Option Nat
  deriving DecidableEq, Repr

/-- A transport sequencer (R556–R567). Keyed by die × 16 + number. Microregister 0 is not held: it reads zero. -/
structure Sequencer where
  state : SeqState
  mregs : Tbl Word
  flagZ : Bool
  flagC : Bool
  flagN : Bool
  upc : Nat
  /-- Return addresses, newest first: at most 8. -/
  stack : List Nat
  /-- Microwords executed since the last safe point, and whether it stands at a safe point (R565). -/
  gap : Nat
  safe : Bool
  /-- The half and match set the sequencer runs under (R566). -/
  half : Nat
  /-- Pending requests of Table 18.3: PATCH_SWITCH, and the contexts that CONTEXT_UPDATE, CONTEXT_CLOSE and CONTEXT_FLUSH
  name, oldest first. -/
  switch : Bool
  updates : List Nat
  closes : List Nat
  flushes : List Nat
  input : List SeqFrame
  /-- The frame window: the frame being worked on. -/
  window : Option SeqFrame
  scratch : Tbl Byte
  /-- Cached contexts, least recently used first (R559). -/
  cache : List Nat
  current : Option Nat
  crc : Word
  /-- Tick at which its timer falls due. -/
  timer : Option Nat
  /-- Words staged for a channel. -/
  staged : List Word
  /-- A unit it gave the cipher engine has come back: good or failed. -/
  cipherBack : Option Bool
  /-- The trace buffer: microaddress and the value copied, newest last. -/
  trace : List (Nat × Word)
  deriving DecidableEq, Repr

/-- A transport context (Table 18.1), with the parameters SEQ_CONTEXT_SET or a storage command gave it. Keyed by
die × 262,144 + number. The rest of the 256-byte record is private to ROM routines and is held as bytes. -/
structure Context where
  kind : Nat
  state : Nat
  owner : Nat
  txNext : Nat
  rxNext : Nat
  retransmits : Nat
  faults : Nat
  lastActivity : Nat
  /-- Bytes 32–255. -/
  body : Tbl Byte
  flags : Nat
  vrf : Nat
  channel : Nat
  localPort : Nat
  remotePort : Nat
  remoteQpn : Nat
  txSlot : Nat
  rxSlot : Nat
  localAddress : List Byte
  remoteAddress : List Byte
  deriving DecidableEq, Repr

/-- An enabled match register (R564): ROM address and target word. -/
structure MatchReg where
  romAddr : Nat
  target : Nat
  deriving DecidableEq, Repr

/-- The patch set of the package, the same on every working die (R564, R568, R569). -/
structure PatchStore where
  activeHalf : Nat
  /-- The half that sequencers are switching to (R569). -/
  target : Option Nat
  /-- The ENDORSE command whose reply waits for the switch. -/
  waiting : Option Packet
  words0 : List (BitVec 160)
  words1 : List (BitVec 160)
  /-- Match registers of the active set and of the other, by number. -/
  matches0 : Tbl MatchReg
  matches1 : Tbl MatchReg
  /-- SHA-256 of the image in force, for SPDM measurement 3. -/
  digest : Nat
  deriving DecidableEq, Repr

end Sys2Proof.Machine
end

