-- ==== Sys2Proof/Machine/StThread.lean ====
section
/-! DEFINITION. State of pods, threads, channels, locks and transport sequencers (spec/16, 17, 18). -/

namespace Sys2Proof.Machine

/-- THREAD_STATE.STATE (R502, R521, R531). -/
inductive ThreadState where
  | unloaded
  | running
  | blocked
  | stopped
  | faulted
  | killed
  | outOfService
  deriving DecidableEq, Repr

/-- THREAD_STATE.WAIT_KIND. -/
inductive WaitKind where
  | none
  | channelRead
  | messageCommit
  | eventWait
  | lockSpin
  | externalStall
  deriving DecidableEq, Repr

/-- A packet view (R507): the first cell it has open. -/
structure PktView where
  firstCell : Nat
  isOpen : Bool
  noCell : Bool
  notOwned : Bool
  /-- Another view freed the packet it has open: accesses fault with CELL (R507). -/
  stale : Bool
  deriving DecidableEq, Repr

/-- A hardware thread. Keyed by (die × 6 + pod) × 72 + pod thread. Register w0 is not held: it reads zero. -/
structure Thread where
  /-- w1–w31 that are not zero. -/
  regs : Tbl Word
  pc : Nat
  state : ThreadState
  wait : WaitKind
  object : Nat
  objectPod : Nat
  waitMask : Nat
  /-- While BLOCKED: the destination register of the wait and the END word of a commit (R548). -/
  waitRd : Nat
  endWord : Word
  breakHit : Bool
  faultCause : Nat
  faultAddr : Nat
  eventMask : Nat
  intReturn : Nat
  intHandler : Nat
  scratchA : Word
  scratchB : Word
  /-- CHANNEL_STATUS of the last channel operation. -/
  chanStatus : Nat
  issueCount : Nat
  entryPc : Nat
  staging : List Word
  /-- The channel of the die that the staged words name (R510). -/
  stagedFor : Nat
  eventSrc : Nat
  imageSrc : Nat
  deadline : Nat
  armed : Bool
  pending : Nat
  intSignal : Bool
  view0 : PktView
  view1 : PktView
  /-- Resumed from a breakpoint: the next instruction does not stop again. -/
  breakSkip : Bool
  /-- The BREAK that a RESUME makes run once as a no-op (R553). -/
  breakNop : Option Nat
  /-- One instruction is to run and the thread then stops (R529). -/
  stepping : Bool
  /-- Lock it is spinning on, and the time-clock count of its last read of it (R520). -/
  spin : Option Nat
  spinAt : Nat
  deriving DecidableEq, Repr

/-- A lock register (R518, R519). -/
structure Lock where
  held : Bool
  owner : Nat
  pointer : Nat
  deriving DecidableEq, Repr

/-- A channel (R509–R513): words with their END mark, oldest first. -/
structure Channel where
  writer : Nat
  reader : Nat
  enable : Bool
  words : List (Word × Bool)
  deriving DecidableEq, Repr

/-- A packet held by a pod (R506, R507). -/
structure PodPkt where
  bytes : List Byte
  cells : Nat
  /-- The ingress count its cells stand in (R353). -/
  ing : Option Nat
  deriving DecidableEq, Repr

/-- A pod. Keyed by die × 6 + pod. -/
structure Pod where
  loaded : Bool
  spareAvailable : Bool
  /-- Positions whose core is out of service, as bits. -/
  lostPositions : Nat
  /-- DMA channels bound, by slot. -/
  slots : Tbl Nat
  dramBase : Nat
  dramSize : Nat
  faultPending : Nat
  stalemate : Bool
  coreChange : Bool
  toFirmware : Bool
  members : Nat
  reports : Nat
  snapshot : Tbl (Nat × Nat)
  /-- Breakpoint slots armed: slot to address. -/
  breakpoints : Tbl Nat
  /-- Packets held, keyed by first cell. -/
  packets : Tbl PodPkt
  /-- Shared memory written by its image: (start, length). -/
  sharedSpans : List (Nat × Nat)
  /-- The stalemate set, as a mask, that the detector watches, and the time-clock count since which it holds (R525). -/
  watched : Nat
  watchedAt : Nat
  deriving DecidableEq, Repr

end Sys2Proof.Machine
end

