-- ==== Sys2Proof/Machine/StTxn.lean ====
section
/-! DEFINITION. State of tempo and transactions (spec/09). -/

namespace Sys2Proof.Machine

/-- States of a transaction (Table 09.1). -/
inductive TxnState where
  | opened
  | scheduled
  | prepared
  | committed
  | aborted
  | expired
  deriving DecidableEq, Repr

/-- One staged command: the packet, its JSN, the tick counts of last commits of its objects when staged. -/
structure StagedCmd where
  packet : Packet
  jsn : Nat
  /-- Object keys it changes, and the commit stamp of each when first staged (R328). -/
  objects : List (Nat × Nat)
  /-- The place reserved for it: a TCAM address (R321). -/
  handle : Option Nat
  deriving DecidableEq, Repr

/-- A transaction (R318–R342). -/
structure Txn where
  state : TxnState
  owner : Nat
  crossPackage : Bool
  abortOnReset : Bool
  group : Nat
  timeoutMs : Nat
  /-- Tick of the lead at which it expires. -/
  deadline : Nat
  staged : List StagedCmd
  instant : Nat
  tempo : Nat
  late : Bool
  failJsn : Nat
  failStatus : Nat
  /-- The accepted TXN_COMMIT whose reply is still to come (R336). -/
  commitCmd : Option Packet
  /-- Cross-package: COMMIT received (R339). -/
  commitPoint : Bool
  deriving DecidableEq, Repr

/-- The commit in progress (R331). -/
structure Commit where
  /-- The transaction, 0 for a commit of a single command. -/
  txn : Nat
  single : Option StagedCmd
  tempo : Nat
  /-- Dies named by the changes that have not answered yet, those that have written their changes, and whether any
  answered FAIL, with the JSN and status of the failing change. -/
  waiting : Nat
  prepared : Nat
  failed : Option (Nat × Nat)
  /-- Past the commit point: the JSN of its journal entry and its result data. -/
  committed : Bool
  jsn : Nat
  result : List Byte
  /-- Switch instant in whole nanoseconds, and the tick of the lead before which no switch is made (R313, R332). -/
  switchAt : Nat
  notBefore : Nat
  deriving DecidableEq, Repr

/-- Transactions and tempo of the package. -/
structure Tempo where
  txns : Tbl Txn
  nextTxn : Nat
  /-- Finished transactions, latest last (at most 256). -/
  finished : List Nat
  inProgress : Option Commit
  committedCount : Nat
  abortedCount : Nat
  conflictCount : Nat
  expiredCount : Nat
  /-- Commit stamp of the last commit that changed an object, and the next stamp (R328). -/
  lastCommit : Tbl Nat
  nextStamp : Nat
  /-- A tempo switch on each die: current tempo, network time of the last switch, switch pending. -/
  current : Nat
  switchTime : Nat
  switchPending : Bool
  /-- Tick of the lead at the last switch; none before the first (R313). -/
  switchTick : Option Nat
  /-- The inactive bank is claimed by this transaction (R327). -/
  bankClaim : Option Nat
  /-- Bank in force and the tempo it was born at; banks are the same on every die. -/
  bank : Nat
  bankBorn : Nat
  deriving DecidableEq, Repr

end Sys2Proof.Machine
end

