-- ==== Sys2Proof/Machine/StVf.lean ====
section
/-! DEFINITION. State of the function resource partition and of twin pairs (spec/15). -/

namespace Sys2Proof.Machine

/-- One PARTITION register (R478, Table 15.7). -/
structure Partition where
  totalVfs : Nat
  queuePairs : Nat
  vectors : Nat
  dmaChannels : Nat
  pfDmaChannels : Nat
  keyPages : Nat
  namespaces : Nat
  pfQueuePairs : Nat
  pfVectors : Nat
  vfQueuePairsMax : Nat
  vfVectorsMax : Nat
  stageTotalMib : Nat
  stageMaxMib : Nat
  deriving DecidableEq, Repr

/-- A twin pair (R488–R490). Member A is the pair identity. -/
structure TwinPair where
  memberA : Nat
  memberB : Nat
  activeActive : Bool
  /-- ACTIVE_STANDBY: member B is the active one. -/
  bActive : Bool
  /-- ACTIVE_ACTIVE: member B takes FLOW_HASH[31] = 0. -/
  bTakesZero : Bool
  /-- Availability of A and B as the delivering logic has observed it. -/
  seenA : Bool
  seenB : Bool
  deriving DecidableEq, Repr

end Sys2Proof.Machine
end

