-- ==== Sys2Proof/Machine/StReset.lean ====
section
/-! DEFINITION. Reset values of every part of the state: what each part holds right after a package reset. A value
the spec does not state is zero or empty (log 8). The same values are what a sparse table reads where it lists nothing. -/

namespace Sys2Proof.Machine

/-- Fuses of an OWNED part with no revoked key and an authority key (log 2). Its root key hashes are those of a modulus of 384 zero
bytes, its one-time store is empty (log 103). -/
def Fuses.reset : Fuses :=
  { lifecycle := .owned, minSvn := 0, requirePq := false, rootRevoked := 0, authority := some 0, authorityPq := none,
    rootHashes := List.replicate 4 0xCADFC510DCE87E50E0B00398676D5330C3683A8F07717FAF10461C1C72F5A4A1,
    pqHashes := [0, 0, 0, 0], testKeys := 0, deviceSecret := 0, secretBlocked := false, identityPublic := [], identityCert := [],
    rootCert := [], serviceKey := 0 }

/-- Package reset with supplies good, the clock stable and PKG_RESET_N asserted (log 2). -/
def Boot.reset : Boot :=
  { part := .tla8064, cipher := true, fuses := Fuses.reset, dramGib := [], vaux := true, vin := true, railsGood := true,
    pkgReset := true, jtagState := 0, refclk := true, refclkHoldover := false, holdoverAt := 0, pllLocked := false, stage := .reset,
    slot := 0, fallback := false, flashMode := 0, failCause := 0, runningSvn := 0, selfDone := 0, selfPass := 0,
    numberMask := 0, positionPassed := 0, slotFailedA := false, slotFailedB := false, headerA := none,
    headerB := none, trySlot := 0, triedOther := false, imageMeasure := 0, flashA := none, flashB := none, aliasKey := none, aliasCert := [],
    identityWithheld := false, pkgReady := false,
    stopped := false, stopReason := 0, thermtrip := false }

/-- PKG_ROLES reset values (R34). -/
def Roles.reset : Roles :=
  { lead := 0, mirror := 1, substitute := false, failed := 0, castlings := 0, filled := true,
    unreachable := false, moveTo := none }

/-- CHAIN_STATUS reset values; the island forwards (R65, R70). -/
def Chain.reset : Chain :=
  { forwarding := true, address := 0, rate := 0, bypassed := false, released := false, clockSeen := false,
    fcsErrors := 0, hunting := false, partialCmd := none, partialStmt := none, held := none,
    spdmVersion := false, spdmAlgorithms := false, spdmSession := false, spdmExchange := false }

def Supply.reset : Supply := { vinMv := 0, vauxMv := 0, inputDw := 0 }

/-- DIE_TEMP reset values (R640). -/
def DieTemp.reset : DieTemp := { temp := 0, tempMax := -512, lifeMilli := 0 }

def DieHealth.reset : DieHealth :=
  { onStandbyPll := false, otherPllLost := false, pairRestarting := false, pairRestartTick := none, aliveMisses := 0, beatTick := 0,
    linkDown := 0, condemned := none }

/-- Reset values of LINK_STATUS, HOST_ORDER, CONTAINMENT_STATUS, ERR_CFG and the windows (R79–R110, R580, R650). -/
def Link.reset : Link :=
  { perst := false, speed := 0, width := 0, flit := false, reversed := false, failedLanes := 0, roStaged := false,
    idoStaged := false, roPayload := false, idoPayload := false, receiver := false, surpriseDown := false, d3cold := false,
    frozen := false, cause := 0, causeFn := 0, causeQueue := 0, causeIndex := 0, armed := false, repeatCount := 0,
    nonce := none, containedDrops := 0, lateCpl := 0, cto := 0, wakeFrame := false, wakeBy := [], winCounterPage := 0, winSpace := 0,
    winEnable := false, winPage := 0, errVector := 0x7FF, errMinSeverity := 1, ide := [], buses := 0,
    spdmSession := false, spdmVersion := false, spdmAlgorithms := false, spdmExchange := false }

/-- A function after reset: the PCI Express reset values of the fields the spec names, no grants (log 8). -/
def Func.reset : Func :=
  { provisioned := false, busMaster := false, vfEnable := false, numVfs := 0, d3hot := false, pmeEnable := false,
    pmeStatus := false, relaxed := false, ido := false, ctoValue := 0, tag14 := false, tag10 := false,
    extTag := false, maxPayload := 128, maxRead := 512, msixEnable := false, funcMask := false, msix := [],
    heldWrites := [], bar0 := 0, bar2 := 0, vfBar0 := 0, vfBar2 := 0, queuePairs := 0, vectors := 0, vectorsInEffect := 0, dmaChannels := 0, channels := [],
    stageMax := 0, txBudget := 1024, txHeld := false, windows := [], mig := .running, rxNoSpace := 0, rxHoldExpired := 0,
    rxTooLong := 0, halted := false, haltReason := 0, haltQueue := 0, haltIndex := 0, rss := [], rssWritten := false }

/-- The grants of PF0 and PF1 at reset, the PF_ fields of the partition's reset values (Table 15.7). -/
def Func.pf0Reset : Func :=
  { Func.reset with provisioned := true, queuePairs := 256, vectors := 2048, vectorsInEffect := 2048, dmaChannels := 8,
                    channels := List.range 8, windows := [(0, 2 ^ 64 - 1)] }

def Func.pf1Reset : Func :=
  { Func.reset with provisioned := true, queuePairs := 64, vectors := 65, vectorsInEffect := 65, stageMax := 16,
                    windows := [(0, 2 ^ 64 - 1)] }

/-- PF0 and PF1 of every die, by master identity. -/
def resetFuncs : Tbl Func :=
  (List.range 8).flatMap (fun d => [(d * 2 ^ 17, Func.pf0Reset), (d * 2 ^ 17 + 2048, Func.pf1Reset)])

/-- PARTITION reset values (Table 15.7): PF0's tree, PF1's tree. -/
def Partition.reset (t : Nat) : Partition :=
  if t = 0 then
    { totalVfs := 768, queuePairs := 12288, vectors := 15360, dmaChannels := 48, pfDmaChannels := 8, keyPages := 4096,
      namespaces := 0, pfQueuePairs := 256, pfVectors := 2048, vfQueuePairsMax := 256, vfVectorsMax := 2048,
      stageTotalMib := 0, stageMaxMib := 0 }
  else
    { totalVfs := 256, queuePairs := 4096, vectors := 5120, dmaChannels := 0, pfDmaChannels := 0, keyPages := 0,
      namespaces := 8192, pfQueuePairs := 64, pfVectors := 65, vfQueuePairsMax := 256, vfVectorsMax := 257,
      stageTotalMib := 256, stageMaxMib := 16 }

/-- The PARTITION values that firmware holds in PROVISIONED (R480). -/
def Partition.provisioned (t : Nat) : Partition :=
  if t = 0 then { Partition.reset 0 with totalVfs := 0, queuePairs := 16320, vectors := 20415 }
  else { Partition.reset 1 with totalVfs := 0, queuePairs := 64, vectors := 65 }

def FnMailbox.reset : FnMailbox :=
  { inbound := [], outbound := [], collision := false, fwCollision := false, sendOverrun := false, held := [] }

def AgentMailbox.reset : AgentMailbox :=
  { queue := [], collision := false, rejects := 0, held := [], nextIsB := false, receiver := 0, event := 0, senderA := 0,
    senderB := 0, enable := false }

/-- CMDQ_CFG reset values (R131). -/
def Cmdq.reset : Cmdq :=
  { enable := false, cfgBusyWr := false, indexErr := false, log2Slots := 4, slotShift := 0x0C, vector := 0,
    reqBase := 0, rplBase := 0, reqTail := 0, reqHead := 0, rplHead := 0, rplTail := 0, fetched := 0, replies := [],
    fetching := false }

/-- The journal at reset: empty, the next number 1 (R147). -/
def Journal.reset : Journal :=
  { entries := [], copy := [], next := 1, bootId := 0, mirror := .off, mirrorSync := false, mirrorDie := 0, mirrorBase := 0,
    mirrorNext := 1, confirmFailed := false, unconfirmed := [], waiting := [], buffered := [] }

def Protect.reset : Protect :=
  { proposals := [], nextProposal := 1, sigFails := 0, counts := [], debugUntil := none, keyPages := [] }

/-- ERR_FIRST and ERR_NEXT are 1 (R574). -/
def Errors.reset : Errors :=
  { records := [], first := 1, next := 1, overflow := false, lost := 0, latched := [], handling := [],
    fatalLast := none, planted := [] }

def DramMark.reset : DramMark := { device := 0, marked := false, corrected := 0, recent := [], badLines := [] }
def SramBank.reset : SramBank := { sparesUsed := 0, suspects := [], lastPass := [], faulty := [], exhausted := false, failNext := false, failPlanted := false }
def LedgerBook.reset : LedgerBook := { mismatch := 0, audits := 0, auditTick := 0, strayCells := 0, strayTick := 0 }

/-- PORT_CFG reset values (R199). -/
def PortCfg.reset : PortCfg :=
  { maxFrame := 0x2400, filterMode := false, acceptBcast := true, acceptMcast := false, udp6ZeroOk := false }

/-- PREEMPT_CFG reset values (R200). -/
def PreemptCfg.reset : PreemptCfg :=
  { enable := false, verifyDisable := false, addFrag := 0, verifyTime := 0x0A, expressPrio := 0xFF }

def PfcCfg.reset : PfcCfg := { mode := 0, rxHonor := 0, txAllow := 0, watchdogMs := 0 }

/-- A staged field that holds one value, written and in effect. -/
def Staged.both {α : Type} (v : α) : Staged α := { written := v, inEffect := v }

/-- PORT_PTP_CFG reset values (spec/11). -/
def PtpCfg.reset : PtpCfg := { rxAdj := 0, txAdj := 0, tcMode := 0, peerDelay := 0 }

def Port.reset : Port :=
  { present := false, lanes := 0, ceiling := 0, phase := .idle, speed := 0, fec := 0, anDone := false,
    sparingAvailable := false, txSynce := false, anForced := false, forcedSpeed := 0, fecChoice := 0, spareEn := false,
    wantSynce := false, serExp := 0, retireLane := none, cfg := Staged.both PortCfg.reset,
    preempt := Staged.both PreemptCfg.reset, pfc := Staged.both PfcCfg.reset, filter := Staged.both [],
    verify := .disabled, verifyTries := 0, hold := false, paused := 0, tripped := 0, pauseReq := 0, macTx := false, partialRx := none, partialTx := none, lastWhole := none,
    txFrame := 0, stats := [],
    snap := [], snapValid := false, admission := [], admitLimit := 0x800, admitLimitWritten := 0x800, admitDrop := 0,
    ptp := Staged.both PtpCfg.reset, ptpCounters := [] }

def PortBlock.reset : PortBlock :=
  { layout0 := 0, layout1 := 0, laneSpeed := [], sparePort := 0, spareWired := false, spareInUse := false,
    spareFor := 0, replacedLane := 0, rotor := 0 }

/-- SYNCE_CFG, WAKE_PORT_CFG and WAKE_CFG reset values (R211, R216, R116). -/
def Synce.reset : Synce :=
  { sourcePort := 0, outEnable := false, outFreq := false, squelch := true, refFreq := true, refLost := false,
    wakeAddr := 0, wakeEnable := false, wakeSpeed := false, wakePattern := 0, wakeFrameLinks := 1,
    chainWakeEn := true }

/-- A program bank that holds the standard program (R223, spec/08). -/
def Bank.reset : Bank :=
  { standard := true, programId := 0, rootP0 := 0, rootP1 := 0, nodes := [], lookups0 := [], lookups1 := [],
    decls := [], entryTable := [], words := [], image := [] }

def Pipe.reset : Pipe :=
  { entries := [], cache := [], cacheClock := 0, flowReads := [], sets := [], templates := [], policers := [],
    counters := [], counterCache := [], counterLines := [], counterMisses := [], missSecond := 0, missCount := 0, learn := [], tcamWrites := [], learnStalled := [], tcamStalled := [], counters0 := [], counters1 := [], drops0 := [],
    drops1 := [], commitWait := false, roots := [], p1Queue := [], p1Last := 0 }

def Versioned.reset : Versioned := { bornA := 0, valueA := [], bornB := 0, valueB := [], newerB := false }

def Policer.reset : Policer :=
  { mode := 0, colorAware := false, resetToZero := false, cir := 0, pir := 0, cbs := 0, ebsPbs := 0, tokensC := 0,
    tokensEp := 0, last := 0 }

def Tempo.reset : Tempo :=
  { txns := [], nextTxn := 1, finished := [], inProgress := none, committedCount := 0, abortedCount := 0,
    conflictCount := 0, expiredCount := 0, lastCommit := [], nextStamp := 1, current := 0, switchTime := 0,
    switchPending := false, switchTick := none, bankClaim := none, bank := 0, bankBorn := 0 }

def Shaper.reset : Shaper :=
  { enable := false, cir := 0, cbs := 0, pir := 0, pbs := 0, tokensC := 0, tokensP := 0, last := 0 }

/-- A class record that nothing has set (R371). -/
def TmClass.reset : TmClass := { lossless := false, xoff := 2048, xon := 1536, headroom := 576, fabricMax := 16384 }

def Lane.reset : Lane := { sendQ := [], buffer := [], freed := 0 }

def LinkEnd.reset : LinkEnd := { slot := 0, seq := 0 }

def FabricLane.reset : FabricLane := { queue := [], deficit := 0, fresh := true }

/-- GATE_STATUS reset values: no list, every gate open (R361). -/
def GateCtl.reset : GateCtl :=
  { running := none, next := none, gates := 0xFF, hold := false, extending := false, entry := 0, cycleNo := 0 }

/-- The traffic manager at reset: every one of 196,608 cells free (R349). -/
def Tm.reset : Tm :=
  { nodes := [], leaves := [], classes := [], profiles := [], lanes := [], lanePtr := [], pausedByDest := [],
    pausingSource := [], gates := [], free := 196608, pipeline := 0, queued := 0, transit := 0, fabricUsed := 0,
    headroomUsed := [], ing := [], counters := [] }

/-- TIME_MODEL reset values: offset 0, the nominal rate (R375). -/
def TimeModel.reset : TimeModel :=
  { baseTick := 0, offset := 0, offsetSub := 0, rate := 0xA00000000000, pending := none, valid := false, steps := 0,
    refDie := 0 }

/-- PPS_CFG reset values (R393). -/
def PpsCfg.reset : PpsCfg :=
  { inEnable := false, inFalling := false, outEnable := false, outWaitValid := true, inAdj := 0, outAdj := 0,
    vector := 0x7FF, widthNs := 100000000, periodNs := 1000000000 }

def Pps.reset : Pps :=
  { cfg := Staged.both PpsCfg.reset, stamp := 0, count := 0, new := false, lastEdge := none, out := false, outTick := 0, outFrom := 0 }

def DieTime.reset : DieTime :=
  { tick := 0, correction := 0, aligned := false, alignErr := 0, goodRuns := 0, measured := 0, capTick := 0,
    capTime := 0 }

def KeyVersion.reset : KeyVersion :=
  { state := .empty, key := 0, salt := 0, ssci := 0, cfg := 0, slotId := 0, seq := 0, softLimit := 0, born := 0,
    retired := none, window := [], authFails := 0, replayFails := 0 }

/-- A key slot at reset: EMPTY, SLOT_CFG.EVENT_VECTOR 0x7FF, SOFT_LIMIT all ones (spec/12). -/
def KeySlot.reset : KeySlot :=
  { newer := KeyVersion.reset, older := KeyVersion.reset, stKey := 0, stSalt := 0, stSsci := 0, stCfg := 0,
    stId := 0, stSeq := 0, stLimit := 0xFFFFFFFFFFFFFFFF, installBusy := false, installErr := false, errCause := 0,
    soft := false }

/-- VERIFY_CFG reset values (spec/12). -/
def Cipher.reset : Cipher :=
  { slots := [], masked := [], units := [], nextUnit := 0, netShare := Staged.both 0x4000,
    tlsShare := Staged.both 0x2000, storShare := Staged.both 0x2000, funcMax := Staged.both 0x0800, cfgErr := false,
    counters := [] }

/-- DMA_CTRL and DMA_PACE reset values (spec/13). -/
def DmaChannel.reset : DmaChannel :=
  { pause := false, forced := false, busy := false, cfgBusyWr := false, underflow := false, binder := .none, i0 := 0,
    i1 := 0, i2 := 0, offset := 0, status := 0, lastAddr := 0, high := Staged.both 0x100000,
    low := Staged.both 0x80000, level := 0, throttled := false, elem := [], readBack := false, waiting := none }

def Nvme.reset : Nvme :=
  { cc := 0, csts := 0, aqa := 0, asq := 0, acq := 0, intms := 0, featVwc := 0, featQueues := 0, featCoalesce := 0,
    featVector := [], featAsync := 0, asyncReqs := [], changedNs := [], sqs := [], cqs := [],
    disabling := false, disabledAt := 0, replies := [] }

def Storage.reset : Storage := { namespaces := [], targets := [], cmds := [], nextCmd := 0, counters := [] }

def PktView.reset : PktView := { firstCell := 0, isOpen := false, noCell := false, notOwned := false, stale := false }

def Thread.reset : Thread :=
  { regs := [], pc := 0, state := .unloaded, wait := .none, object := 0, objectPod := 0, waitMask := 0, waitRd := 0, endWord := 0,
    breakHit := false, faultCause := 0, faultAddr := 0, eventMask := 0, intReturn := 0, intHandler := 0,
    scratchA := 0, scratchB := 0, chanStatus := 0, issueCount := 0, entryPc := 0, staging := [], stagedFor := 0,
    eventSrc := 0, imageSrc := 0, deadline := 0, armed := false, pending := 0, intSignal := false,
    view0 := PktView.reset, view1 := PktView.reset, breakSkip := false, breakNop := none, stepping := false,
    spin := none, spinAt := 0 }

def Lock.reset : Lock := { held := false, owner := 0, pointer := 0 }
def Channel.reset : Channel := { writer := 0, reader := 0, enable := false, words := [] }

def Pod.reset : Pod :=
  { loaded := false, spareAvailable := true, lostPositions := 0, slots := [], dramBase := 0, dramSize := 0,
    faultPending := 0, stalemate := false, coreChange := false, toFirmware := false, members := 0, reports := 0,
    snapshot := [], breakpoints := [], packets := [], sharedSpans := [], watched := 0, watchedAt := 0 }

def Sequencer.reset : Sequencer :=
  { state := .idle, mregs := [], flagZ := false, flagC := false, flagN := false, upc := 0, stack := [], gap := 0,
    safe := true, half := 0, switch := false, updates := [], closes := [], flushes := [], input := [],
    window := none, scratch := [], cache := [], current := none, crc := 0, timer := none, staged := [],
    cipherBack := none, trace := [] }

/-- A FREE context (R558, Table 18.7). -/
def Context.reset : Context :=
  { kind := 0, state := 0, owner := 0, txNext := 0, rxNext := 0, retransmits := 0, faults := 0, lastActivity := 0,
    body := [], flags := 0, vrf := 0, channel := 0, localPort := 0, remotePort := 0, remoteQpn := 0, txSlot := 0,
    rxSlot := 0, localAddress := [], remoteAddress := [] }

def PatchStore.reset : PatchStore :=
  { activeHalf := 0, target := none, waiting := none, words0 := [], words1 := [], matches0 := [], matches1 := [], digest := 0 }

end Sys2Proof.Machine
end

