-- ==== Sys2Proof/Syntax.lean ====
section
/-! DEFINITION. The commands of the block: one constructor per row of spec/opcode_table.json: the Rollanen
instructions first, so that the decoder can be compiled, then the other rows in the table's order.
Control-plane commands carry the command packet as it arrived (Table 04.4); rows that are events or operations of a
block carry what happened (log 5). Docstrings give the row's rule. -/

namespace Sys2Proof
open Machine

/-- A command of the block. -/
inductive Instr where
  /-- ADD (R547). -/
  | add (t rd ra rb : Nat)
  /-- SUB (R547). -/
  | sub (t rd ra rb : Nat)
  /-- AND (R547). -/
  | and (t rd ra rb : Nat)
  /-- OR (R547). -/
  | or (t rd ra rb : Nat)
  /-- XOR (R547). -/
  | xor (t rd ra rb : Nat)
  /-- SHL (R547). -/
  | shl (t rd ra rb : Nat)
  /-- SHR (R547). -/
  | shr (t rd ra rb : Nat)
  /-- SAR (R547). -/
  | sar (t rd ra rb : Nat)
  /-- SLT (R547). -/
  | slt (t rd ra rb : Nat)
  /-- SLTU (R547). -/
  | sltu (t rd ra rb : Nat)
  /-- MIN (R547). -/
  | min (t rd ra rb : Nat)
  /-- MAX (R547). -/
  | max (t rd ra rb : Nat)
  /-- MINU (R547). -/
  | minu (t rd ra rb : Nat)
  /-- MAXU (R547). -/
  | maxu (t rd ra rb : Nat)
  /-- MUL (R547). -/
  | mul (t rd ra rb : Nat)
  /-- MULH (R547). -/
  | mulh (t rd ra rb : Nat)
  /-- MULHU (R547). -/
  | mulhu (t rd ra rb : Nat)
  /-- DIV (R547). -/
  | div (t rd ra rb : Nat)
  /-- DIVU (R547). -/
  | divu (t rd ra rb : Nat)
  /-- REM (R547). -/
  | rem (t rd ra rb : Nat)
  /-- REMU (R547). -/
  | remu (t rd ra rb : Nat)
  /-- CLZ (R547). -/
  | clz (t rd ra : Nat)
  /-- CTZ (R547). -/
  | ctz (t rd ra : Nat)
  /-- POPC (R547). -/
  | popc (t rd ra : Nat)
  /-- BSWAP64 (R547). -/
  | bswap64 (t rd ra : Nat)
  /-- BSWAP32 (R547). -/
  | bswap32 (t rd ra : Nat)
  /-- BSWAP16 (R547). -/
  | bswap16 (t rd ra : Nat)
  /-- ADDI (R547). -/
  | addi (t rd ra imm : Nat)
  /-- ANDI (R547). -/
  | andi (t rd ra imm : Nat)
  /-- ORI (R547). -/
  | ori (t rd ra imm : Nat)
  /-- XORI (R547). -/
  | xori (t rd ra imm : Nat)
  /-- SHLI (R547). -/
  | shli (t rd ra imm : Nat)
  /-- SHRI (R547). -/
  | shri (t rd ra imm : Nat)
  /-- SARI (R547). -/
  | sari (t rd ra imm : Nat)
  /-- SLTI (R547). -/
  | slti (t rd ra imm : Nat)
  /-- SLTIU (R547). -/
  | sltiu (t rd ra imm : Nat)
  /-- LUI (R547). -/
  | lui (t rd imm : Nat)
  /-- LD8U (R547). -/
  | ld8u (t rd ra imm : Nat)
  /-- LD16U (R547). -/
  | ld16u (t rd ra imm : Nat)
  /-- LD32U (R547). -/
  | ld32u (t rd ra imm : Nat)
  /-- LD64 (R547). -/
  | ld64 (t rd ra imm : Nat)
  /-- LD8S (R547). -/
  | ld8s (t rd ra imm : Nat)
  /-- LD16S (R547). -/
  | ld16s (t rd ra imm : Nat)
  /-- LD32S (R547). -/
  | ld32s (t rd ra imm : Nat)
  /-- ST8 (R547). -/
  | st8 (t ra rb imm : Nat)
  /-- ST16 (R547). -/
  | st16 (t ra rb imm : Nat)
  /-- ST32 (R547). -/
  | st32 (t ra rb imm : Nat)
  /-- ST64 (R547). -/
  | st64 (t ra rb imm : Nat)
  /-- AMO (R547). -/
  | amo (t rd ra rb func : Nat)
  /-- BEQ (R547). -/
  | beq (t ra rb offset : Nat)
  /-- BNE (R547). -/
  | bne (t ra rb offset : Nat)
  /-- BLT (R547). -/
  | blt (t ra rb offset : Nat)
  /-- BGE (R547). -/
  | bge (t ra rb offset : Nat)
  /-- BLTU (R547). -/
  | bltu (t ra rb offset : Nat)
  /-- BGEU (R547). -/
  | bgeu (t ra rb offset : Nat)
  /-- J (R547). -/
  | j (t offset : Nat)
  /-- JAL (R547). -/
  | jal (t offset : Nat)
  /-- JALR (R547). -/
  | jalr (t rd ra imm : Nat)
  /-- CHW (R548). -/
  | chw (t ra rb : Nat)
  /-- CHWE (R548). -/
  | chwe (t ra rb : Nat)
  /-- CHWEP (R548). -/
  | chwep (t rd ra rb : Nat)
  /-- CHR (R511). -/
  | chr (t rd ra : Nat)
  /-- CHRP (R511). -/
  | chrp (t rd ra : Nat)
  /-- EWAIT (R515). -/
  | ewait (t rd : Nat)
  /-- EPOLL (R515). -/
  | epoll (t rd : Nat)
  /-- SIGNAL (R549). -/
  | signal (t ra rb : Nat)
  /-- MFSR (R542). -/
  | mfsr (t rd sr : Nat)
  /-- MTSR (R542). -/
  | mtsr (t ra sr : Nat)
  /-- IRET (R552). -/
  | iret (t : Nat)
  /-- BREAK (R553). -/
  | breakInsn (t : Nat)
  /-- YIELD (R547). -/
  | yield (t : Nat)
  /-- FENCE (R555). -/
  | fence (t : Nat)
  /-- FENCE_S (R555). -/
  | fenceS (t : Nat)
  /-- FENCE_I (R555). -/
  | fenceI (t : Nat)
  /-- HLD (R550). -/
  | hld (t rd ra field : Nat)
  /-- HST (R550). -/
  | hst (t rd ra field : Nat)
  /-- CSUM_ADD (R547). -/
  | csumAdd (t rd ra rb : Nat)
  /-- CSUM_FOLD (R547). -/
  | csumFold (t rd ra : Nat)
  /-- CSUM_FOLDN (R547). -/
  | csumFoldn (t rd ra : Nat)
  /-- CRC32_B (R551). -/
  | crc32B (t rd ra rb : Nat)
  /-- CRC32_D (R551). -/
  | crc32D (t rd ra rb : Nat)
  /-- CRC32C_B (R547). -/
  | crc32cB (t rd ra rb : Nat)
  /-- CRC32C_D (R547). -/
  | crc32cD (t rd ra rb : Nat)
  /-- MIX64 (R551). -/
  | mix64 (t rd ra rb : Nat)
  /-- VAUX_RISE (R623). -/
  | vauxRise
  /-- VAUX_LOSS (R623). -/
  | vauxLoss
  /-- VIN_RISE (R623). -/
  | vinRise
  /-- RAILS_GOOD (R624). -/
  | railsGood
  /-- VIN_LOW (R42). -/
  | vinLow
  /-- RAIL_OUT_OF_REGULATION (R602). -/
  | railOutOfRegulation (die : Nat)
  /-- PKG_RESET_N (R41). -/
  | pkgResetN (asserted : Bool)
  /-- PERST_N (R45). -/
  | perstN (position : Nat) (asserted : Bool)
  /-- TRST_N (R633). -/
  | trstN
  /-- ROOT_PLL_LOCK (R41). -/
  | rootPllLock
  /-- SELF_TEST (R46). -/
  | selfTest (position : Nat) (passed : Bool)
  /-- DIE_CHAIN (R46). -/
  | dieChain
  /-- FLASH_HEADER_READ (R52). -/
  | flashHeaderRead (present : Bool) (modes : Nat) (a b : Option ImageHeader)
  /-- IMAGE_READ (R55). -/
  | imageRead (check : ImageCheck)
  /-- FIRMWARE_START (R42). -/
  | firmwareStart
  /-- BOOT_WATCHDOG (R56). -/
  | bootWatchdog
  /-- REFCLK_LOSS (R591). -/
  | refclkLoss
  /-- REFCLK_HOLDOVER_EXPIRY (R591). -/
  | refclkHoldoverExpiry
  /-- REFCLK_RETURN (R591). -/
  | refclkReturn
  /-- PLL_LOCK_LOSS (R590). -/
  | pllLockLoss (die : Nat) (standbyOk : Bool)
  /-- TEMPERATURE_MEASURE (R638). -/
  | temperatureMeasure (die : Nat) (temp : Int)
  /-- THERMAL_TRIP (R592). -/
  | thermalTrip (die : Nat)
  /-- SUPPLY_MEASURE (R640). -/
  | supplyMeasure (vinMv vauxMv inputDw : Nat)
  /-- STOLLEK_FRAME_RECEIVE (R65). -/
  | stollekFrameReceive (frame : List Byte)
  /-- ENUMERATE (R72). -/
  | enumerate (seq next mode maxRate : Nat)
  /-- RATE (R71). -/
  | rate (seq code : Nat)
  /-- RELEASE (R74). -/
  | release (dest seq : Nat)
  /-- BYPASS (R74). -/
  | bypass (dest seq : Nat) (enter : Bool)
  /-- STATUS (R65). -/
  | status (dest seq : Nat)
  /-- WAKE (R76). -/
  | wake (dest seq mask : Nat)
  /-- SPDM (R62). -/
  | spdm (link : Option Nat) (seq code : Nat) (body : List Byte)
  /-- COMMAND (R69). -/
  | command (seq byte0 : Nat) (data : List Byte)
  /-- COMMAND_FETCH (R69). -/
  | commandFetch (seq n : Nat)
  /-- CHAIN_PARTIAL_COMMAND_TIMEOUT (R69). -/
  | chainPartialCommandTimeout
  /-- CHAIN_REPLY_HOLD_TIMEOUT (R69). -/
  | chainReplyHoldTimeout
  /-- ENDORSE_FRAME (R171). -/
  | endorseFrame (seq byte0 : Nat) (data : List Byte) (good : SigResult)
  /-- CHAIN_CLOCK_LOSS (R71). -/
  | chainClockLoss
  /-- TXN_FRAME_PREPARE (R338). -/
  | txnFramePrepare (seq txn group instant : Nat)
  /-- TXN_FRAME_COMMIT (R339). -/
  | txnFrameCommit (seq txn group instant : Nat)
  /-- TXN_FRAME_ABORT (R339). -/
  | txnFrameAbort (seq txn group instant : Nat)
  /-- TXN_FRAME_STATUS (R339). -/
  | txnFrameStatus (seq txn group instant : Nat)
  /-- CROSS_PACKAGE_COMMIT_DEADLINE (R339). -/
  | crossPackageCommitDeadline (txn : Nat)
  /-- LINK_TRAINING (R79). -/
  | linkTraining (link speed width : Nat) (flit reversed : Bool) (failedLanes : Nat)
  /-- RECEIVER_DETECTION (R112). -/
  | receiverDetection (link : Nat) (present : Bool)
  /-- SURPRISE_LINK_DOWN (R104). -/
  | surpriseLinkDown (link : Nat)
  /-- MALFORMED_TLP (R104). -/
  | malformedTlp (link : Nat)
  /-- HOST_PATH_INTERNAL_ERROR (R104). -/
  | hostPathInternalError (link : Nat)
  /-- HOT_RESET (R107). -/
  | hotReset (link : Nat)
  /-- BUS_MASTER_ENABLE_CLEAR (R98). -/
  | busMasterEnableClear (fn : Nat)
  /-- BUS_MASTER_ENABLE_SET (R100). -/
  | busMasterEnableSet (fn : Nat)
  /-- FUNCTION_LEVEL_RESET (R101). -/
  | functionLevelReset (fn : Nat)
  /-- VF_ENABLE_CLEAR (R103). -/
  | vfEnableClear (pf : Nat)
  /-- D3HOT_ENTRY (R114). -/
  | d3hotEntry (fn : Nat)
  /-- D3HOT_EXIT (R114). -/
  | d3hotExit (fn : Nat)
  /-- PME_EVENT (R116). -/
  | pmeEvent (fn : Nat)
  /-- CONFIGURATION_REQUEST (R43). -/
  | configurationRequest (fn : Nat) (write : Bool) (field value : Nat)
  /-- COMPLETION_ARRIVAL (R97). -/
  | completionArrival (link tag : Nat) (data : List Byte) (good : Bool)
  /-- COMPLETION_TIMEOUT (R95). -/
  | completionTimeout (link tag : Nat)
  /-- QUARANTINE_EXPIRY (R96). -/
  | quarantineExpiry (link tag : Nat)
  /-- IDE_CHECK_FAILURE (R118). -/
  | ideCheckFailure (link stream : Nat)
  /-- CONTAINMENT_RELEASE (R110). -/
  | containmentRelease (link value : Nat)
  /-- RELEASE_ARM_TIMEOUT (R110). -/
  | releaseArmTimeout (link : Nat)
  /-- MBX_SEND (R120). -/
  | mbxSend (box writer : Nat) (value : Word32)
  /-- MBX_SEND_END (R120). -/
  | mbxSendEnd (box writer : Nat) (value : Word32)
  /-- MBX_RECV (R127). -/
  | mbxRecv (box reader : Nat)
  /-- CMDQ_REQUEST_DOORBELL (R132). -/
  | cmdqRequestDoorbell (link tail : Nat)
  /-- CMDQ_REPLY_HEAD_WRITE (R133). -/
  | cmdqReplyHeadWrite (link head : Nat)
  /-- CMDQ_ENABLE (R135). -/
  | cmdqEnable (link : Nat) (on : Bool)
  /-- COMMAND_PACKET_FETCHED (R132). -/
  | commandPacketFetched (link : Nat)
  /-- COMMAND_REPLY_WRITE (R133). -/
  | commandReplyWrite (link : Nat)
  /-- DEVICE_INFO (R143). -/
  | deviceInfo (p : Packet)
  /-- JOURNAL_QUERY (R144). -/
  | journalQuery (p : Packet)
  /-- JOURNAL_MIRROR_SET (R145). -/
  | journalMirrorSet (p : Packet)
  /-- JOURNAL_MIRROR_CLEAR (R145). -/
  | journalMirrorClear (p : Packet)
  /-- JOURNAL_MARK (R146). -/
  | journalMark (p : Packet)
  /-- MIRROR_CONFIRM_READ (R155). -/
  | mirrorConfirmRead (good : Bool)
  /-- MIRROR_RETRY (R156). -/
  | mirrorRetry
  /-- MIRROR_RESUME (R156). -/
  | mirrorResume
  /-- COMMAND_PACKET (R126). -/
  | commandPacket (fn : Nat) (cid : Nat) (address length : Nat)
  /-- COMMAND_REPLY (R126). -/
  | commandReply (fn : Nat) (cid : Nat) (sequence address length : Nat)
  /-- PROPOSE (R166). -/
  | propose (p : ProposePacket)
  /-- ENDORSE (R172). -/
  | endorse (p : Packet) (good : SigResult)
  /-- AUTHORITY_CONFIRM (R168). -/
  | authorityConfirm (p : Packet) (good : SigResult)
  /-- PROPOSAL_QUERY (R170). -/
  | proposalQuery (p : Packet)
  /-- PROPOSAL_WITHDRAW (R174). -/
  | proposalWithdraw (p : Packet) (good : SigResult)
  /-- PROPOSAL_EXPIRY (R170). -/
  | proposalExpiry (proposal : Nat)
  /-- DEBUG_UNLOCK_EXPIRY (R176). -/
  | debugUnlockExpiry
  /-- PORT_SET_MODE (R183). -/
  | portSetMode (p : Packet)
  /-- PORT_QUERY (R185). -/
  | portQuery (p : Packet)
  /-- PORT_SET_LANES (R186). -/
  | portSetLanes (p : Packet)
  /-- PORT_SET_FILTER (R199). -/
  | portSetFilter (p : Packet)
  /-- AUTO_NEGOTIATION (R187). -/
  | autoNegotiation (port : Nat) (speed fec : Nat) (page : Option SparingPage)
  /-- AUTO_NEGOTIATION_TIMEOUT (R189). -/
  | autoNegotiationTimeout (port : Nat)
  /-- PORT_LINK_UP (R189). -/
  | portLinkUp (port : Nat)
  /-- PORT_LINK_DOWN (R190). -/
  | portLinkDown (port : Nat)
  /-- LANE_FAILURE (R192). -/
  | laneFailure (die lane : Nat)
  /-- PREEMPT_VERIFY (R200). -/
  | preemptVerify (port : Nat) (answered : Bool)
  /-- FRAME_RECEIVE (R197). -/
  | frameReceive (port : Nat) (bytes : List Byte) (fcsGood : Bool) (frag : Fragment)
  /-- PAUSE_EXPIRY (R208). -/
  | pauseExpiry (port cls : Nat)
  /-- PFC_WATCHDOG_TRIP (R210). -/
  | pfcWatchdogTrip (port cls : Nat)
  /-- PAUSE_REFRESH (R209). -/
  | pauseRefresh (port : Nat)
  /-- SYNCE_REF_LOSS (R213). -/
  | synceRefLoss
  /-- SYNCE_REF_RETURN (R213). -/
  | synceRefReturn
  /-- STATS_SNAPSHOT (R215). -/
  | statsSnapshot (port : Nat)
  /-- STATS_CLEAR (R215). -/
  | statsClear (port : Nat)
  /-- WAKE_FRAME (R217). -/
  | wakeFrame (bytes : List Byte)
  /-- PACKET_ADMIT (R218). -/
  | packetAdmit (die pipe : Nat) (faults : List Nat)
  /-- FLOW_READ_RESULT (R244). -/
  | flowReadResult (die : Nat) (read : Nat × Bool)
  /-- ACTION_PROGRAM (R274). -/
  | actionProgram (packet : Nat) (fault : Option Nat)
  /-- LEARN_APPLY (R258). -/
  | learnApply (die : LearnService)
  /-- TCAM_DATA_PLANE_WRITE (R256). -/
  | tcamDataPlaneWrite (die : TcamService)
  /-- ENTRY_REWRITE (R240). -/
  | entryRewrite (die table index : Nat)
  /-- COUNTER_CACHE_MISS (R293). -/
  | counterCacheMiss (die pair : Nat)
  /-- POLICER_SWEEP (R297). -/
  | policerSweep (die : Nat)
  /-- CIPHER_UNIT_START (R409). -/
  | cipherUnitStart (die unit : Nat)
  /-- CIPHER_UNIT_DONE (R411). -/
  | cipherUnitDone (die unit : Nat) (tagGood : Bool) (output : List Byte)
  /-- PLAINTEXT_DEPART (R411). -/
  | plaintextDepart (die unit : Nat)
  /-- INSTALL (R405). -/
  | install (die slot fn : Nat)
  /-- RETIRE (R404). -/
  | retire (die slot fn : Nat)
  /-- INSTALL_WAIT_END (R403). -/
  | installWaitEnd (die slot : Nat)
  /-- KEY_INSTALL (R404). -/
  | keyInstall (p : Packet)
  /-- KEY_RETIRE (R404). -/
  | keyRetire (p : Packet)
  /-- KEYPAGE_MODE (R401). -/
  | keypageMode (p : Packet)
  /-- TM_ENQUEUE (R346). -/
  | tmEnqueue (die leaf : Nat) (pkt : TmPkt)
  /-- FABRIC_ENQUEUE (R348). -/
  | fabricEnqueue (die dest : Nat) (pkt : TmPkt)
  /-- FABRIC_SEND (R23). -/
  | fabricSend (die dim chan : Nat) (detour : Bool)
  /-- FLIT_RECEIVE (R21). -/
  | flitReceive (die dim chan : Nat) (detour : Bool)
  /-- FABRIC_PAUSE (R353). -/
  | fabricPause (die fromDie cls : Nat) (pause : Bool)
  /-- SCHEDULE (R355). -/
  | schedule (port : Nat)
  /-- GATE_ENTRY_CHANGE (R361). -/
  | gateEntryChange (port : Nat)
  /-- GATE_TAKEOVER (R367). -/
  | gateTakeover (port : Nat)
  /-- RATE_PROFILE_SET (R370). -/
  | rateProfileSet (p : Packet)
  /-- TM_QUERY (R369). -/
  | tmQuery (p : Packet)
  /-- TM_NODE_SET (R371). -/
  | tmNodeSet (p : Packet)
  /-- SHAPER_SET (R358). -/
  | shaperSet (p : Packet)
  /-- GATE_LIST_SET (R366). -/
  | gateListSet (p : Packet)
  /-- TABLE_INSERT (R260). -/
  | tableInsert (p : Packet)
  /-- TABLE_DELETE (R261). -/
  | tableDelete (p : Packet)
  /-- TABLE_MODIFY (R262). -/
  | tableModify (p : Packet)
  /-- TABLE_QUERY (R263). -/
  | tableQuery (p : Packet)
  /-- PROGRAM_LOAD (R264). -/
  | programLoad (p : Packet)
  /-- STEER_SET (R303). -/
  | steerSet (p : Packet)
  /-- ACTION_PARAM_SET (R304). -/
  | actionParamSet (p : Packet)
  /-- TXN_BEGIN (R319). -/
  | txnBegin (p : Packet)
  /-- TXN_COMMIT (R330). -/
  | txnCommit (p : Packet)
  /-- TXN_ABORT (R324). -/
  | txnAbort (p : Packet)
  /-- TXN_QUERY (R342). -/
  | txnQuery (p : Packet)
  /-- TXN_EXPIRY (R323). -/
  | txnExpiry (txn : Nat)
  /-- PHASE_ONE (R331). -/
  | phaseOne (txn : Nat)
  /-- PREPARE (R331). -/
  | prepare (die : Nat)
  /-- PREPARE_ANSWER (R331). -/
  | prepareAnswer (die : Nat) (ready : Bool)
  /-- TEMPO_SWITCH (R333). -/
  | tempoSwitch
  /-- AGEING_SWEEP (R314). -/
  | ageingSweep (die : Nat)
  /-- RECLAIM (R316). -/
  | reclaim (die : Nat)
  /-- TIME_QUERY (R382). -/
  | timeQuery (p : Packet)
  /-- TIME_SET (R381). -/
  | timeSet (p : Packet)
  /-- TIME_ADJUST (R382). -/
  | timeAdjust (p : Packet)
  /-- TIME_CHANGE_TICK (R379). -/
  | timeChangeTick
  /-- ALIGNMENT_MEASUREMENT (R383). -/
  | alignmentMeasurement (die : Nat) (offset : Int)
  /-- ALIGNMENT_TIMEOUT (R384). -/
  | alignmentTimeout (die : Nat)
  /-- TIME_CAPTURE (R397). -/
  | timeCapture (die : Nat)
  /-- PPS_CONFIG (R394). -/
  | ppsConfig (p : Packet)
  /-- PPS_IN_EDGE (R393). -/
  | ppsInEdge (edge : PpsEdge)
  /-- PPS_OUT_PULSE (R394). -/
  | ppsOutPulse (rise : Bool)
  /-- QUEUE_CREATE (R421). -/
  | queueCreate (p : Packet)
  /-- QUEUE_DESTROY (R422). -/
  | queueDestroy (p : Packet)
  /-- QUEUE_QUERY (R451). -/
  | queueQuery (p : Packet)
  /-- QUEUE_SET_MAPPING (R451). -/
  | queueSetMapping (p : Packet)
  /-- SQ_DOORBELL (R427). -/
  | sqDoorbell (fn queue index : Nat)
  /-- CQ_DOORBELL (R438). -/
  | cqDoorbell (fn queue index : Nat) (arm : Bool)
  /-- PACE_ACK (R448). -/
  | paceAck (die chan bytes : Nat)
  /-- SQ_FETCH (R426). -/
  | sqFetch (fn queue : Nat)
  /-- SQ_ENTRY_FETCHED (R434). -/
  | sqEntryFetched (fn queue : Nat)
  /-- OWN_WAIT_RETRY (R426). -/
  | ownWaitRetry (fn queue : Nat)
  /-- CONTROL_FETCH_RETRY (R443). -/
  | controlFetchRetry (fn queue index : Nat)
  /-- SEND (R430). -/
  | send (fn queue index : Nat)
  /-- SEND_TSO (R432). -/
  | sendTso (fn queue index : Nat)
  /-- RX_POST (R433). -/
  | rxPost (fn queue index : Nat)
  /-- NOP (R434). -/
  | nop (fn queue index : Nat)
  /-- RX_DELIVER (R433). -/
  | rxDeliver (fn queue : Nat) (pkt : TmPkt)
  /-- RX_HOLD_EXPIRY (R441). -/
  | rxHoldExpiry (fn queue : Nat)
  /-- COMPLETION_WRITE (R436). -/
  | completionWrite (fn queue : Nat)
  /-- INTERRUPT_MODERATION_EXPIRY (R438). -/
  | interruptModerationExpiry (fn queue : Nat)
  /-- DMA_COPY (R446). -/
  | dmaCopy (die chan n : Nat)
  /-- DMA_FILL (R446). -/
  | dmaFill (die chan n : Nat)
  /-- DMA_COMPARE (R446). -/
  | dmaCompare (die chan n : Nat)
  /-- DMA_READ_BACK (R447). -/
  | dmaReadBack (die chan : Nat)
  /-- DMA_PAUSE (R449). -/
  | dmaPause (die chan : Nat) (on : Bool)
  /-- DMA_ABORT (R449). -/
  | dmaAbort (die chan : Nat)
  /-- DMA_GO (R450). -/
  | dmaGo (die chan binder : Nat)
  /-- DMA_ELEM_WRITE (R450). -/
  | dmaElemWrite (die chan binder offset : Nat) (bytes : List Byte)
  /-- NAMESPACE_CREATE (R460). -/
  | namespaceCreate (p : Packet)
  /-- NAMESPACE_DESTROY (R462). -/
  | namespaceDestroy (p : Packet)
  /-- TARGET_PATH_SET (R463). -/
  | targetPathSet (p : Packet)
  /-- CC_EN_CLEAR (R457). -/
  | ccEnClear (fn : Nat)
  /-- NVME_READ (R464). -/
  | nvmeRead (fn sq : Nat)
  /-- NVME_WRITE (R464). -/
  | nvmeWrite (fn sq : Nat)
  /-- NVME_FLUSH (R456). -/
  | nvmeFlush (fn sq : Nat)
  /-- NVME_COMPARE (R468). -/
  | nvmeCompare (fn sq : Nat)
  /-- NVME_WRITE_ZEROES (R469). -/
  | nvmeWriteZeroes (fn sq : Nat)
  /-- NVME_DATASET_MANAGEMENT (R469). -/
  | nvmeDatasetManagement (fn sq : Nat)
  /-- NVME_ABORT (R456). -/
  | nvmeAbort (fn : Nat)
  /-- CREATE_IO_SQ (R455). -/
  | createIoSq (fn : Nat)
  /-- DELETE_IO_SQ (R455). -/
  | deleteIoSq (fn : Nat)
  /-- CREATE_IO_CQ (R455). -/
  | createIoCq (fn : Nat)
  /-- DELETE_IO_CQ (R455). -/
  | deleteIoCq (fn : Nat)
  /-- IDENTIFY (R454). -/
  | identify (fn : Nat)
  /-- GET_LOG_PAGE (R454). -/
  | getLogPage (fn : Nat)
  /-- SET_FEATURES (R454). -/
  | setFeatures (fn : Nat)
  /-- GET_FEATURES (R454). -/
  | getFeatures (fn : Nat)
  /-- ASYNCHRONOUS_EVENT_REQUEST (R454). -/
  | asynchronousEventRequest (fn : Nat)
  /-- TARGET_COMPLETION (R473). -/
  | targetCompletion (die cmd status : Nat) (data : List Byte)
  /-- PATH_CONNECT (R466). -/
  | pathConnect (die target path : Nat) (remotes : Tbl RemoteNs)
  /-- ANA_CHANGE (R466). -/
  | anaChange (die target path : Nat) (states : List (Nat × Ana))
  /-- PATH_DOWN (R467). -/
  | pathDown (die target path : Nat)
  /-- PATH_RECONNECT (R467). -/
  | pathReconnect (die target path : Nat)
  /-- FENCE_EXPIRY (R467). -/
  | fenceExpiry (die target path : Nat)
  /-- IO_HOLD_EXPIRY (R467). -/
  | ioHoldExpiry (die cmd : Nat)
  /-- ORPHAN_TIMEOUT (R458). -/
  | orphanTimeout (die cmd : Nat)
  /-- FUNC_CREATE (R482). -/
  | funcCreate (p : Packet)
  /-- FUNC_DESTROY (R485). -/
  | funcDestroy (p : Packet)
  /-- FUNC_QUERY (R486). -/
  | funcQuery (p : Packet)
  /-- FUNC_SET_RESOURCES (R483). -/
  | funcSetResources (p : Packet)
  /-- TWIN_PAIR_PAIR (R488). -/
  | twinPairPair (p : Packet)
  /-- TWIN_PAIR_UNPAIR (R488). -/
  | twinPairUnpair (p : Packet)
  /-- TWIN_PAIR_SWAP (R488). -/
  | twinPairSwap (p : Packet)
  /-- AVAILABILITY_OBSERVE (R489). -/
  | availabilityObserve (pair : Nat) (bMember : Bool)
  /-- FUNC_FREEZE (R493). -/
  | funcFreeze (p : Packet)
  /-- FREEZE_READ_DONE (R493). -/
  | freezeReadDone (fn : Nat)
  /-- FUNC_SAVE (R494). -/
  | funcSave (p : Packet)
  /-- FUNC_RESTORE (R497). -/
  | funcRestore (p : Packet)
  /-- FUNC_THAW (R498). -/
  | funcThaw (p : Packet)
  /-- THREAD_LOAD (R536). -/
  | threadLoad (p : Packet)
  /-- THREAD_UNLOAD (R537). -/
  | threadUnload (p : Packet)
  /-- THREAD_QUERY (R538). -/
  | threadQuery (p : Packet)
  /-- THREAD_DEBUG_STOP (R528). -/
  | threadDebugStop (p : Packet)
  /-- THREAD_DEBUG_RESUME (R528). -/
  | threadDebugResume (p : Packet)
  /-- THREAD_DEBUG_STEP (R529). -/
  | threadDebugStep (p : Packet)
  /-- THREAD_DEBUG_KILL (R531). -/
  | threadDebugKill (p : Packet)
  /-- THREAD_DEBUG_READ (R530). -/
  | threadDebugRead (p : Packet)
  /-- THREAD_DEBUG_WRITE_REG (R528). -/
  | threadDebugWriteReg (p : Packet)
  /-- THREAD_DEBUG_BREAK_SET (R532). -/
  | threadDebugBreakSet (p : Packet)
  /-- THREAD_DEBUG_BREAK_CLEAR (R532). -/
  | threadDebugBreakClear (p : Packet)
  /-- THREAD_CTRL_RESUME (R522). -/
  | threadCtrlResume (t writer : Nat)
  /-- THREAD_CTRL_RESTART (R522). -/
  | threadCtrlRestart (t writer : Nat)
  /-- THREAD_CTRL_KILL (R522). -/
  | threadCtrlKill (t writer : Nat)
  /-- THREAD_CTRL_RELEASE_LOCKS (R522). -/
  | threadCtrlReleaseLocks (t writer : Nat)
  /-- THREAD_EVENT_DEADLINE (R516). -/
  | threadEventDeadline (t writer value : Nat)
  /-- THREAD_TIMER (R516). -/
  | threadTimer (t : Nat)
  /-- PKT_VIEW_OPEN (R507). -/
  | pktViewOpen (t view cell : Nat)
  /-- PKT_VIEW_LENGTH (R507). -/
  | pktViewLength (t view length : Nat)
  /-- ALLOC (R507). -/
  | alloc (t view : Nat)
  /-- FREE (R507). -/
  | free (t view : Nat)
  /-- LOCK_READ (R518). -/
  | lockRead (pod lock : Nat) (readers : List Nat)
  /-- LOCK_RELEASE (R518). -/
  | lockRelease (pod lock writer : Nat)
  /-- MESSAGE_COMMIT (R510). -/
  | messageCommit (t : Nat)
  /-- INTERRUPT_TAKE (R552). -/
  | interruptTake (t : Nat)
  /-- BREAKPOINT_HIT (R532). -/
  | breakpointHit (t : Nat)
  /-- STALEMATE_REPORT (R525). -/
  | stalemateReport (pod : Nat)
  /-- CORE_FAILURE (R533). -/
  | coreFailure (pod position : Nat)
  /-- SEQ_CONTEXT_SET (R570). -/
  | seqContextSet (p : Packet)
  /-- SEQ_QUERY (R570). -/
  | seqQuery (p : Packet)
  /-- MICROWORD (R563). -/
  | microword (die seq : Nat)
  /-- SERVICE_REQUEST (R566). -/
  | serviceRequest (die seq : Nat)
  /-- MICROCODE_FAULT (R567). -/
  | microcodeFault (die seq cause : Nat) (ofContext : Bool)
  /-- CONTEXT_LOAD (R559). -/
  | contextLoad (die context : Nat)
  /-- SEQUENCER_FRAME_ENQUEUE (R561). -/
  | sequencerFrameEnqueue (die context : Nat) (frame : List Byte)
  /-- ERROR_ACK (R575). -/
  | errorAck (p : Packet)
  /-- ERROR_QUERY (R582). -/
  | errorQuery (p : Packet)
  /-- ERROR_INJECT (R583). -/
  | errorInject (p : Packet)
  /-- LEDGER_AUDIT (R615). -/
  | ledgerAudit (p : Packet)
  /-- PERIODIC_AUDIT (R614). -/
  | periodicAudit (die : Nat)
  /-- ERROR_HANDLE (R578). -/
  | errorHandle (done : Bool)
  /-- RECORD_CLOSE (R577). -/
  | recordClose (ersn : Nat)
  /-- SRAM_READ_ERROR (R584). -/
  | sramReadError (die bank row : Nat) (corrected : Bool)
  /-- ROW_SPARE (R585). -/
  | rowSpare (die bank row : Nat)
  /-- DRAM_READ_ERROR (R586). -/
  | dramReadError (die subchannel device line : Nat) (corrected : Bool)
  /-- PATROL_SCRUB (R587). -/
  | patrolScrub (die : Nat)
  /-- LOCKSTEP_MISMATCH (R588). -/
  | lockstepMismatch (die : Nat)
  /-- LOCKSTEP_RESTART (R588). -/
  | lockstepRestart (die : Nat)
  /-- DIE_HEARTBEAT (R593). -/
  | dieHeartbeat (die : Nat) (alive : Option Nat)
  /-- DIE_SILENT (R594). -/
  | dieSilent (die : Nat)
  /-- DIE_REMOVAL (R596). -/
  | dieRemoval (die reason : Nat)
  /-- CASTLING (R597). -/
  | castling
  /-- MIRROR_UNREACHABLE (R599). -/
  | mirrorUnreachable
  /-- MIRROR_FILL_DONE (R598). -/
  | mirrorFillDone
  /-- REGISTER_WRITE (R11). -/
  | registerWrite (fn offset size value : Nat)
  /-- PFC_WATCHDOG_RELEASE (R210). -/
  | pfcWatchdogRelease (port cls : Nat)
  /-- DUNYTH_LINK_OUT_OF_SERVICE (R595). -/
  | dunythLinkOutOfService (die dim : Nat)
  /-- CLEAR_ON_READ (R11). -/
  | clearOnRead (fn : Nat) (span : ReadSpan)
  /-- VF_ENABLE_SET (R481). -/
  | vfEnableSet (pf count : Nat)
  /-- CC_EN_SET (R454). -/
  | ccEnSet (fn : Nat)
  /-- ILLEGAL_INSTRUCTION (R546). -/
  | illegalInstruction (t : Nat) (word : Word32)
  deriving DecidableEq, Repr

end Sys2Proof
end

