-- ==== Sys2Proof/Decode.lean ====
section
/-! DEFINITION. The commands that words spell. The command table gives bits to no row: a command of the block has no
word of its own. The words that pods and sequencers fetch are read in Machine/IsaDecode.lean and
Machine/Seq.lean. -/

namespace Sys2Proof

/-- The command that a word of `nbits` bits spells: none, since no row of the table gives bits. -/
def decodeTableWord (_nbits _w : Nat) : Option Instr := none

end Sys2Proof
end

