-- ==== Sys2Proof/Config.lean ====
section
/-! DEFINITION. What an implementation fixes and what the spec leaves open. None of these constants has a body: no
proof sees a value of one, and a statement holds whatever the values are (log 6). -/

namespace Sys2Proof.Config

/-- A fresh free value: draw number to value. Random numbers (RELEASE_NONCE, BOOT_ID, proposal NONCE, SPDM NONCE) and
values the spec does not state are drawn with it (log 6, 7). -/
opaque freeValue : Nat → BitVec 256

/-- The mask ROM of the transport sequencers: microaddress to microword (R563, R564). Its contents are not in the
spec. -/
opaque romWord : Nat → BitVec 160

/-- SHA-384 of the boot ROM, whose contents are not in the spec (R63). -/
opaque bootRomDigest : BitVec 384

/-- The SHA-384 function, used only for SPDM measurements (R63). -/
opaque sha384 : List Byte → BitVec 384

/-- HMAC with SHA-384: key and message (R60). -/
opaque hmacSha384 : List Byte → List Byte → BitVec 384

/-- The public key of a P-384 private key, and ECDSA signatures with it (R60–R62): standards whose values the spec takes as
known. -/
opaque p384Public : BitVec 384 → List Byte
opaque p384Sign : BitVec 384 → List Byte → List Byte

/-- The authenticated ciphers of Table 12.1 by their ALGORITHM code: key, nonce, associated data and text to ciphertext and tag; and
ciphertext and tag to the text, none where the tag does not check. Standards whose values the spec takes as known (log 6). -/
opaque aeadSeal : Nat → List Byte → List Byte → List Byte → List Byte → List Byte
opaque aeadOpen : Nat → List Byte → List Byte → List Byte → List Byte → Option (List Byte)

/-- The sampling choices and other pseudo-random draws of a data path: seed to value. -/
opaque freeByte : Nat → Byte

/-- Action words that the standard program occupies in the store both banks share (R270, R273): the spec does not give its
words. -/
opaque stdActionWords : Nat

/-- RELEASE_NONCE of a link at reset, which the spec calls random (R111). -/
opaque resetNonce : Nat → BitVec 16

/-- What a register window shows though the spec does not give it (log 124): the bytes of the standard program's entry
table and action words, by offset in action memory. -/
opaque stdActionByte : Nat → Byte

/-- The place whose entry a slot of an EXACT table holds, by table and slot: the order is not specified (R649, log 124). -/
opaque exactPlace : Nat → Nat → Nat

/-- A FEC counter of a port at a tick, by port × 4,096 + offset: the codewords on a line are not in the model (R214, log 125). -/
opaque fecCount : Nat → Nat → BitVec 64

/-- A byte of a journal or record-queue slot that holds no entry, by its place in the two areas (R152, R581, log 124). -/
opaque staleByte : Nat → Byte

end Sys2Proof.Config
end

