-- ==== Sys2Proof/Machine/Bytes.lean ====
section
/-! DEFINITION. Byte strings as numbers and fields of numbers. Memory structures are little-endian, network headers
big-endian (R9). -/

namespace Sys2Proof.Machine

/-- Little-endian value of bytes. -/
def le : List Byte → Nat
  | [] => 0
  | b :: bs => b.toNat + 256 * le bs

/-- The low `n` bytes of a number, little-endian. -/
def toLe : Nat → Nat → List Byte
  | 0, _ => []
  | n + 1, v => BitVec.ofNat 8 v :: toLe n (v / 256)

/-- Big-endian value of bytes. -/
def be (bs : List Byte) : Nat := bs.foldl (fun a b => 256 * a + b.toNat) 0

/-- The low `n` bytes of a number, big-endian. -/
def toBe (n v : Nat) : List Byte := (toLe n v).reverse

/-- Exactly `n` bytes from offset `o`; bytes beyond the string read zero. -/
def sub (bs : List Byte) (o n : Nat) : List Byte :=
  let t := (bs.drop o).take n
  t ++ List.replicate (n - t.length) 0

/-- Little-endian field of `n` bytes at offset `o`. -/
def leAt (bs : List Byte) (o n : Nat) : Nat := le (sub bs o n)

/-- Big-endian field of `n` bytes at offset `o`. -/
def beAt (bs : List Byte) (o n : Nat) : Nat := be (sub bs o n)

/-- Bits `hi` down to `lo` of a number. -/
def bits (v hi lo : Nat) : Nat := (v / 2 ^ lo) % 2 ^ (hi + 1 - lo)

/-- Bit `n` of a number. -/
def bit (v n : Nat) : Bool := (v / 2 ^ n) % 2 == 1

/-- A number with bit `n` set or cleared. -/
def setBit (v n : Nat) (b : Bool) : Nat :=
  if bit v n = b then v else if b then v + 2 ^ n else v - 2 ^ n

/-- How many of the low `n` bits are set. -/
def popBits (v : Nat) : Nat → Nat
  | 0 => 0
  | n + 1 => popBits v n + (if bit v n then 1 else 0)

/-- A truth value as a number. -/
def b2n (b : Bool) : Nat := if b then 1 else 0

/-- `bs` with `new` over it from offset `o`, grown with zeros if needed. -/
def overlay (bs : List Byte) (o : Nat) (new : List Byte) : List Byte :=
  sub bs 0 o ++ new ++ bs.drop (o + new.length)

/-- Bytes inserted at an offset. -/
def insertAt (bs : List Byte) (o : Nat) (new : List Byte) : List Byte := bs.take o ++ new ++ bs.drop o

/-- Bytes removed at an offset. -/
def removeAt (bs : List Byte) (o n : Nat) : List Byte := bs.take o ++ bs.drop (o + n)

/-- Signed value of an `n`-bit field. -/
def signed (n v : Nat) : Int := if v < 2 ^ (n - 1) then (v : Int) else (v : Int) - (2 ^ n : Nat)

/-- The `n`-bit field of a signed value. -/
def unsigned (n : Nat) (v : Int) : Nat := (v % ((2 ^ n : Nat) : Int)).toNat

/-- All bytes are zero. -/
def allZero (bs : List Byte) : Bool := bs.all (fun b => b == 0)

/-- The ceiling of a quotient. -/
def ceilDiv (a b : Nat) : Nat := (a + b - 1) / b

/-- A sum held at a ceiling. -/
def satAdd (cap a b : Nat) : Nat := min cap (a + b)

/-- The members of a bit mask below `n`. -/
def maskBits (m n : Nat) : List Nat := (List.range n).filter (fun i => bit m i)

end Sys2Proof.Machine
end

