-- ==== Sys2Proof/Machine/Digest.lean ====
section
/-! DEFINITION. The check codes and digests the spec names and whose definitions are public standards: CRC-32 (IEEE
802.3), CRC-32C (Castagnoli) and SHA-256 (FIPS 180-4), written from those standards (log 10). -/

namespace Sys2Proof.Machine

/-- One bit of a reflected CRC. -/
def crcBit (poly : Word32) (c : Word32) : Word32 :=
  if c.getLsbD 0 then (c >>> 1) ^^^ poly else c >>> 1

/-- One byte of a reflected CRC. -/
def crcByte (poly : Word32) (c : Word32) (b : Byte) : Word32 :=
  let x := c ^^^ b.setWidth 32
  crcBit poly (crcBit poly (crcBit poly (crcBit poly (crcBit poly (crcBit poly (crcBit poly (crcBit poly x)))))))

/-- The reflected generator of CRC-32. -/
def crc32Poly : Word32 := 0xEDB88320

/-- The reflected generator of CRC-32C. -/
def crc32cPoly : Word32 := 0x82F63B78

/-- CRC over bytes with the usual start and final complement. -/
def crcOf (poly : Word32) (bs : List Byte) : Word32 := ~~~ (bs.foldl (crcByte poly) 0xFFFFFFFF)

/-- IEEE 802.3 CRC-32. -/
def crc32 (bs : List Byte) : Nat := (crcOf crc32Poly bs).toNat

/-- CRC-32C. -/
def crc32c (bs : List Byte) : Nat := (crcOf crc32cPoly bs).toNat

/-- Word `i` of words packed into one number, the first in the low bits. -/
def packedWord (v i : Nat) : Nat := v / 2 ^ (32 * i) % 2 ^ 32

/-- Words 0 to 15 of the round constants, the first in the low bits. -/
def shaK0 : Nat := 0xC19BF1749BDC06A780DEB1FE72BE5D74550C7DC3243185BE12835B01D807AA98AB1C5ED5923F82A459F111F13956C25BE9B5DBA5B5C0FBCF71374491428A2F98

/-- Words 16 to 31 of the round constants, the first in the low bits. -/
def shaK1 : Nat := 0x1429296706CA6351D5A79147C6E00BF3BF597FC7B00327C8A831C66D983E515276F988DA5CB0A9DC4A7484AA2DE92C6F240CA1CC0FC19DC6EFBE4786E49B69C1

/-- Words 32 to 47 of the round constants, the first in the low bits. -/
def shaK2 : Nat := 0x106AA070F40E3585D6990624D192E819C76C51A3C24B8B70A81A664BA2BFE8A192722C8581C2C92E766A0ABB650A735453380D134D2C6DFC2E1B213827B70A85

/-- Words 48 to 63 of the round constants, the first in the low bits. -/
def shaK3 : Nat := 0xC67178F2BEF9A3F7A4506CEB90BEFFFA8CC7020884C8781478A5636F748F82EE682E6FF35B9CCA4F4ED8AA4A391C0CB334B0BCB52748774C1E376C0819A4C116

/-- Round constant `i` of SHA-256. -/
def shaK (i : Nat) : Nat :=
  packedWord (if i < 16 then shaK0 else if i < 32 then shaK1 else if i < 48 then shaK2 else shaK3) (i % 16)

/-- The eight working words of SHA-256. -/
abbrev ShaState := List Word32

/-- Initial hash value, packed. -/
def shaInit : ShaState := (List.range 8).map (fun i => BitVec.ofNat 32 (packedWord 0x5BE0CD191F83D9AB9B05688C510E527FA54FF53A3C6EF372BB67AE856A09E667 i))

def shaRotr (x : Word32) (n : Nat) : Word32 := x.rotateRight n

/-- Sixteen words of a block, then the schedule extended by `n` words; the list is kept newest first. -/
def shaSchedule : Nat → List Word32 → List Word32
  | 0, w => w
  | n + 1, w =>
    let w2 := w.getD 1 0
    let w7 := w.getD 6 0
    let w15 := w.getD 14 0
    let w16 := w.getD 15 0
    let s0 := shaRotr w15 7 ^^^ shaRotr w15 18 ^^^ (w15 >>> 3)
    let s1 := shaRotr w2 17 ^^^ shaRotr w2 19 ^^^ (w2 >>> 10)
    shaSchedule n ((w16 + s0 + w7 + s1) :: w)

/-- One round. -/
def shaRound (h : ShaState) (kw : Nat × Word32) : ShaState :=
  match h with
  | [a, b, c, d, e, f, g, hh] =>
    let s1 := shaRotr e 6 ^^^ shaRotr e 11 ^^^ shaRotr e 25
    let ch := (e &&& f) ^^^ (~~~ e &&& g)
    let t1 := hh + s1 + ch + BitVec.ofNat 32 kw.1 + kw.2
    let s0 := shaRotr a 2 ^^^ shaRotr a 13 ^^^ shaRotr a 22
    let maj := (a &&& b) ^^^ (a &&& c) ^^^ (b &&& c)
    [t1 + (s0 + maj), a, b, c, d + t1, e, f, g]
  | _ => h

/-- The big-endian words of a block. -/
def shaWords : Nat → List Byte → List Word32
  | 0, _ => []
  | n + 1, bs => BitVec.ofNat 32 (be (bs.take 4)) :: shaWords n (bs.drop 4)

/-- One 64-byte block. -/
def shaBlock (h : ShaState) (bs : List Byte) : ShaState :=
  let w := (shaSchedule 48 (shaWords 16 bs).reverse).reverse
  List.zipWith (· + ·) h ((((List.range 64).map shaK).zip w).foldl shaRound h)

/-- `n` blocks. -/
def shaBlocks : Nat → ShaState → List Byte → ShaState
  | 0, h, _ => h
  | n + 1, h, bs => shaBlocks n (shaBlock h (bs.take 64)) (bs.drop 64)

/-- SHA-256 of a byte string. -/
def sha256 (bs : List Byte) : List Byte :=
  let n := bs.length
  let zeros := (119 - n % 64) % 64
  let m := bs ++ [0x80] ++ List.replicate zeros 0 ++ toBe 8 (8 * n)
  (shaBlocks (m.length / 64) shaInit m).flatMap (fun w => toBe 4 w.toNat)

end Sys2Proof.Machine
end

