-- ==== Sys2Proof/Machine/State.lean ====
section
/-! DEFINITION. The state of the package, its faults and refusals, and the state after reset. -/

namespace Sys2Proof.Machine

/-- Why a step stops with a fault. -/
inductive Fault where
  /-- Raised where a command shows software, firmware, a board or a peer device breaking a "must" for which the
  spec states no behaviour: R7 then guarantees none. The number is the rule whose obligation is broken. Safe: the
  model stops where the hardware may do anything. -/
  | notGuaranteed (rule : Nat)
  deriving DecidableEq, Repr

/-- Why a command has no meaning. -/
inductive Refusal where
  /-- Raised by no meaning: it stands in the arms of commands not modelled yet. Safe. -/
  | notModelled (mnemonic : String)
  deriving DecidableEq, Repr

/-- The whole package. Tables are sparse: a key that is not listed reads as the `reset` value of its type. Dies,
links and pipelines are keyed by die number; every other key is said at its field. -/
structure State where
  boot : Boot
  roles : Roles
  chain : Chain
  supply : Supply
  temps : Tbl DieTemp
  health : Tbl DieHealth
  links : Tbl Link
  /-- Functions, by master identity of class 0 (R13). -/
  funcs : Tbl Func
  /-- Outstanding and quarantined requests, by link × 32,768 + tag. -/
  tags : Tbl HostTag
  /-- Function mailboxes, by master identity; inter-agent mailboxes, by die × 256 + number. -/
  fnMbx : Tbl FnMailbox
  agentMbx : Tbl AgentMailbox
  cmdqs : Tbl Cmdq
  journal : Journal
  protect : Protect
  errors : Errors
  /-- DRAM sub-channels by die × 4 + number; SRAM banks by die × 32 + bank. -/
  dram : Tbl DramMark
  sram : Tbl SramBank
  ledgers : Tbl LedgerBook
  /-- Ports by 8 × die + first lane (R181). -/
  ports : Tbl Port
  portBlocks : Tbl PortBlock
  synce : Synce
  /-- The two program banks, the same on every die. -/
  banks : Tbl Bank
  pipes : Tbl Pipe
  /-- Packets in flight by number. -/
  flight : Tbl FlightPkt
  nextPkt : Nat
  tempo : Tempo
  tms : Tbl Tm
  /-- Channels of Dunyth links, by ((sending die × 3 + dimension) × 4 + channel) × 2 + (1 for the detour lane). -/
  fabric : Tbl Lane
  /-- Sending ends of Dunyth links, by die × 3 + dimension; the model's own count of messages sent. -/
  linkEnds : Tbl LinkEnd
  nextMsg : Nat
  timeModel : TimeModel
  pps : Pps
  times : Tbl DieTime
  ciphers : Tbl Cipher
  /-- Queue pairs by function × 256 + number; those that exist. -/
  queues : Tbl QueuePair
  /-- DMA channels by die × 64 + number. -/
  channels : Tbl DmaChannel
  nvmes : Tbl Nvme
  storages : Tbl Storage
  /-- PARTITION registers by die × 2 + tree that differ from what reset leaves (R480). -/
  partitions : Tbl Partition
  /-- Twin pairs by the identity of member A. -/
  twins : Tbl TwinPair
  /-- Pods by die × 6 + pod; threads by (die × 6 + pod) × 72 + thread; locks by (die × 6 + pod) × 64 + number;
  thread channels by (die × 6 + pod) × 256 + number. -/
  pods : Tbl Pod
  threads : Tbl Thread
  locks : Tbl Lock
  chans : Tbl Channel
  /-- Sequencers by die × 16 + number; contexts by die × 262,144 + number. -/
  seqs : Tbl Sequencer
  contexts : Tbl Context
  /-- SEQ counters by die × 4 + counter. -/
  seqCounters : Tbl Nat
  patch : PatchStore
  /-- Every addressed memory, region by region (`Machine/Mem.lean`). -/
  mem : List Host.Cell
  /-- The model's own: what has left the package, newest last. -/
  out : List Out
  /-- The model's own: how many free values have been drawn. -/
  freeCtr : Nat
  /-- Commands that wait, first in first out. -/
  pending : List Instr
  deriving DecidableEq, Repr

/-- The package right after a package reset, its supplies good and PKG_RESET_N asserted (log 2). -/
def State.reset : State :=
  { boot := Boot.reset, roles := Roles.reset, chain := Chain.reset, supply := Supply.reset, temps := [], health := [],
    links := [], funcs := resetFuncs, tags := [], fnMbx := [], agentMbx := [], cmdqs := [], journal := Journal.reset,
    protect := Protect.reset, errors := Errors.reset, dram := [], sram := [], ledgers := [], ports := [],
    portBlocks := [], synce := Synce.reset, banks := [], pipes := [], flight := [], nextPkt := 0,
    tempo := Tempo.reset, tms := [], fabric := [], linkEnds := [], nextMsg := 0, timeModel := TimeModel.reset, pps := Pps.reset, times := [],
    ciphers := [], queues := [], channels := [], nvmes := [], storages := [], partitions := [], twins := [],
    pods := [], threads := [], locks := [], chans := [], seqs := [], contexts := [], seqCounters := [],
    patch := PatchStore.reset, mem := [], out := [], freeCtr := 0, pending := [] }

end Sys2Proof.Machine
end

