-- ==== Sys2Proof/Machine/Tbl.lean ====
section
/-! DEFINITION. Operations on sparse tables: sorted association lists in one canonical form. -/

namespace Sys2Proof

variable {α : Type}

/-- The entry listed at a key. -/
def Tbl.find : Tbl α → Nat → Option α
  | [], _ => none
  | (k, v) :: t, n => if k = n then some v else Tbl.find t n

/-- A key's value, `d` where none is listed. -/
def Tbl.look (d : α) (t : Tbl α) (n : Nat) : α := (Tbl.find t n).getD d

/-- Every entry at a key removed. -/
def Tbl.del : Tbl α → Nat → Tbl α
  | [], _ => []
  | (k, v) :: t, n => if k = n then Tbl.del t n else (k, v) :: Tbl.del t n

/-- An entry put in key order before the first larger key. -/
def Tbl.insert : Tbl α → Nat → α → Tbl α
  | [], n, v => [(n, v)]
  | (k, w) :: t, n, v => if n < k then (n, v) :: (k, w) :: t else (k, w) :: Tbl.insert t n v

/-- A key set, replacing what it held. -/
def Tbl.set (t : Tbl α) (n : Nat) (v : α) : Tbl α := Tbl.insert (Tbl.del t n) n v

/-- A key set in a table whose unlisted keys read `d`: setting `d` removes the entry. -/
def Tbl.put [DecidableEq α] (d : α) (t : Tbl α) (n : Nat) (v : α) : Tbl α :=
  if v = d then Tbl.del t n else Tbl.set t n v

/-- Strictly rising keys. -/
def Tbl.sorted : Tbl α → Bool
  | [] => true
  | [_] => true
  | (k, _) :: (k', v') :: t => decide (k < k') && Tbl.sorted ((k', v') :: t)

/-- The canonical form: rising keys and no entry equal to the default. -/
def Tbl.wf [DecidableEq α] (d : α) (t : Tbl α) : Bool := Tbl.sorted t && t.all (fun e => decide (e.2 ≠ d))

/-- The lowest number from `n` on, below `n + fuel`, that is not listed. -/
def Tbl.firstFree (t : Tbl α) (n : Nat) : Nat → Option Nat
  | 0 => none
  | fuel + 1 => if (Tbl.find t n).isNone then some n else Tbl.firstFree t (n + 1) fuel

/-- A counter raised. -/
def Tbl.bump (t : Tbl Nat) (n k : Nat) : Tbl Nat := Tbl.put 0 t n (Tbl.look 0 t n + k)

end Sys2Proof
end

