-- ==== Sys2Proof/Machine/Access.lean ====
section
/-! DEFINITION. Reading and changing one entry of each table of the state. An entry that is not listed reads as its
reset value, and an entry set to its reset value is not listed. -/

namespace Sys2Proof.Machine

/-- Entry `k` of `temps`. -/
def State.dieTemp (s : State) (k : Nat) : DieTemp := Tbl.look DieTemp.reset s.temps k

/-- Entry `k` of `temps` set. -/
def State.setDieTemp (s : State) (k : Nat) (v : DieTemp) : State := { s with temps := Tbl.put DieTemp.reset s.temps k v }

/-- Entry `k` of `temps` changed. -/
def State.modDieTemp (s : State) (k : Nat) (f : DieTemp → DieTemp) : State := s.setDieTemp k (f (s.dieTemp k))

/-- Entry `k` of `health`. -/
def State.dieHealth (s : State) (k : Nat) : DieHealth := Tbl.look DieHealth.reset s.health k

/-- Entry `k` of `health` set. -/
def State.setDieHealth (s : State) (k : Nat) (v : DieHealth) : State := { s with health := Tbl.put DieHealth.reset s.health k v }

/-- Entry `k` of `health` changed. -/
def State.modDieHealth (s : State) (k : Nat) (f : DieHealth → DieHealth) : State := s.setDieHealth k (f (s.dieHealth k))

/-- Entry `k` of `links`. -/
def State.link (s : State) (k : Nat) : Link := Tbl.look Link.reset s.links k

/-- Entry `k` of `links` set. -/
def State.setLink (s : State) (k : Nat) (v : Link) : State := { s with links := Tbl.put Link.reset s.links k v }

/-- Entry `k` of `links` changed. -/
def State.modLink (s : State) (k : Nat) (f : Link → Link) : State := s.setLink k (f (s.link k))

/-- Entry `k` of `funcs`. -/
def State.func (s : State) (k : Nat) : Func := Tbl.look Func.reset s.funcs k

/-- Entry `k` of `funcs` set. -/
def State.setFunc (s : State) (k : Nat) (v : Func) : State := { s with funcs := Tbl.put Func.reset s.funcs k v }

/-- Entry `k` of `funcs` changed. -/
def State.modFunc (s : State) (k : Nat) (f : Func → Func) : State := s.setFunc k (f (s.func k))

/-- Entry `k` of `fnMbx`. -/
def State.fnBox (s : State) (k : Nat) : FnMailbox := Tbl.look FnMailbox.reset s.fnMbx k

/-- Entry `k` of `fnMbx` set. -/
def State.setFnBox (s : State) (k : Nat) (v : FnMailbox) : State := { s with fnMbx := Tbl.put FnMailbox.reset s.fnMbx k v }

/-- Entry `k` of `fnMbx` changed. -/
def State.modFnBox (s : State) (k : Nat) (f : FnMailbox → FnMailbox) : State := s.setFnBox k (f (s.fnBox k))

/-- Entry `k` of `agentMbx`. -/
def State.agentBox (s : State) (k : Nat) : AgentMailbox := Tbl.look AgentMailbox.reset s.agentMbx k

/-- Entry `k` of `agentMbx` set. -/
def State.setAgentBox (s : State) (k : Nat) (v : AgentMailbox) : State := { s with agentMbx := Tbl.put AgentMailbox.reset s.agentMbx k v }

/-- Entry `k` of `agentMbx` changed. -/
def State.modAgentBox (s : State) (k : Nat) (f : AgentMailbox → AgentMailbox) : State := s.setAgentBox k (f (s.agentBox k))

/-- Entry `k` of `cmdqs`. -/
def State.cmdq (s : State) (k : Nat) : Cmdq := Tbl.look Cmdq.reset s.cmdqs k

/-- Entry `k` of `cmdqs` set. -/
def State.setCmdq (s : State) (k : Nat) (v : Cmdq) : State := { s with cmdqs := Tbl.put Cmdq.reset s.cmdqs k v }

/-- Entry `k` of `cmdqs` changed. -/
def State.modCmdq (s : State) (k : Nat) (f : Cmdq → Cmdq) : State := s.setCmdq k (f (s.cmdq k))

/-- Entry `k` of `dram`. -/
def State.dramMark (s : State) (k : Nat) : DramMark := Tbl.look DramMark.reset s.dram k

/-- Entry `k` of `dram` set. -/
def State.setDramMark (s : State) (k : Nat) (v : DramMark) : State := { s with dram := Tbl.put DramMark.reset s.dram k v }

/-- Entry `k` of `dram` changed. -/
def State.modDramMark (s : State) (k : Nat) (f : DramMark → DramMark) : State := s.setDramMark k (f (s.dramMark k))

/-- Entry `k` of `sram`. -/
def State.sramBank (s : State) (k : Nat) : SramBank := Tbl.look SramBank.reset s.sram k

/-- Entry `k` of `sram` set. -/
def State.setSramBank (s : State) (k : Nat) (v : SramBank) : State := { s with sram := Tbl.put SramBank.reset s.sram k v }

/-- Entry `k` of `sram` changed. -/
def State.modSramBank (s : State) (k : Nat) (f : SramBank → SramBank) : State := s.setSramBank k (f (s.sramBank k))

/-- Entry `k` of `ledgers`. -/
def State.ledger (s : State) (k : Nat) : LedgerBook := Tbl.look LedgerBook.reset s.ledgers k

/-- Entry `k` of `ledgers` set. -/
def State.setLedger (s : State) (k : Nat) (v : LedgerBook) : State := { s with ledgers := Tbl.put LedgerBook.reset s.ledgers k v }

/-- Entry `k` of `ledgers` changed. -/
def State.modLedger (s : State) (k : Nat) (f : LedgerBook → LedgerBook) : State := s.setLedger k (f (s.ledger k))

/-- Entry `k` of `ports`. -/
def State.port (s : State) (k : Nat) : Port := Tbl.look Port.reset s.ports k

/-- Entry `k` of `ports` set. -/
def State.setPort (s : State) (k : Nat) (v : Port) : State := { s with ports := Tbl.put Port.reset s.ports k v }

/-- Entry `k` of `ports` changed. -/
def State.modPort (s : State) (k : Nat) (f : Port → Port) : State := s.setPort k (f (s.port k))

/-- Entry `k` of `portBlocks`. -/
def State.portBlock (s : State) (k : Nat) : PortBlock := Tbl.look PortBlock.reset s.portBlocks k

/-- Entry `k` of `portBlocks` set. -/
def State.setPortBlock (s : State) (k : Nat) (v : PortBlock) : State := { s with portBlocks := Tbl.put PortBlock.reset s.portBlocks k v }

/-- Entry `k` of `portBlocks` changed. -/
def State.modPortBlock (s : State) (k : Nat) (f : PortBlock → PortBlock) : State := s.setPortBlock k (f (s.portBlock k))

/-- Entry `k` of `banks`. -/
def State.bankOf (s : State) (k : Nat) : Bank := Tbl.look Bank.reset s.banks k

/-- DRAM that a die has, in GiB; 0 for none (R621). -/
def State.dramOf (s : State) (die : Nat) : Nat := Tbl.look 64 s.boot.dramGib die

/-- Entry `k` of `banks` set. -/
def State.setBankOf (s : State) (k : Nat) (v : Bank) : State := { s with banks := Tbl.put Bank.reset s.banks k v }

/-- Entry `k` of `banks` changed. -/
def State.modBankOf (s : State) (k : Nat) (f : Bank → Bank) : State := s.setBankOf k (f (s.bankOf k))

/-- Entry `k` of `pipes`. -/
def State.pipe (s : State) (k : Nat) : Pipe := Tbl.look Pipe.reset s.pipes k

/-- Entry `k` of `pipes` set. -/
def State.setPipe (s : State) (k : Nat) (v : Pipe) : State := { s with pipes := Tbl.put Pipe.reset s.pipes k v }

/-- Entry `k` of `pipes` changed. -/
def State.modPipe (s : State) (k : Nat) (f : Pipe → Pipe) : State := s.setPipe k (f (s.pipe k))

/-- Entry `k` of `tms`. -/
def State.tm (s : State) (k : Nat) : Tm := Tbl.look Tm.reset s.tms k

/-- Entry `k` of `tms` set. -/
def State.setTm (s : State) (k : Nat) (v : Tm) : State := { s with tms := Tbl.put Tm.reset s.tms k v }

/-- Entry `k` of `tms` changed. -/
def State.modTm (s : State) (k : Nat) (f : Tm → Tm) : State := s.setTm k (f (s.tm k))

/-- Entry `k` of `fabric`. -/
def State.laneOf (s : State) (k : Nat) : Lane := Tbl.look Lane.reset s.fabric k

/-- Entry `k` of `fabric` set. -/
def State.setLaneOf (s : State) (k : Nat) (v : Lane) : State := { s with fabric := Tbl.put Lane.reset s.fabric k v }

/-- Entry `k` of `fabric` changed. -/
def State.modLaneOf (s : State) (k : Nat) (f : Lane → Lane) : State := s.setLaneOf k (f (s.laneOf k))

/-- Entry `k` of `times`. -/
def State.dieTime (s : State) (k : Nat) : DieTime := Tbl.look DieTime.reset s.times k

/-- Entry `k` of `times` set. -/
def State.setDieTime (s : State) (k : Nat) (v : DieTime) : State := { s with times := Tbl.put DieTime.reset s.times k v }

/-- Entry `k` of `times` changed. -/
def State.modDieTime (s : State) (k : Nat) (f : DieTime → DieTime) : State := s.setDieTime k (f (s.dieTime k))

/-- Entry `k` of `ciphers`. -/
def State.cipherOf (s : State) (k : Nat) : Cipher := Tbl.look Cipher.reset s.ciphers k

/-- Entry `k` of `ciphers` set. -/
def State.setCipherOf (s : State) (k : Nat) (v : Cipher) : State := { s with ciphers := Tbl.put Cipher.reset s.ciphers k v }

/-- Entry `k` of `ciphers` changed. -/
def State.modCipherOf (s : State) (k : Nat) (f : Cipher → Cipher) : State := s.setCipherOf k (f (s.cipherOf k))

/-- Entry `k` of `channels`. -/
def State.dmaCh (s : State) (k : Nat) : DmaChannel := Tbl.look DmaChannel.reset s.channels k

/-- Entry `k` of `channels` set. -/
def State.setDmaCh (s : State) (k : Nat) (v : DmaChannel) : State := { s with channels := Tbl.put DmaChannel.reset s.channels k v }

/-- Entry `k` of `channels` changed. -/
def State.modDmaCh (s : State) (k : Nat) (f : DmaChannel → DmaChannel) : State := s.setDmaCh k (f (s.dmaCh k))

/-- Entry `k` of `nvmes`. -/
def State.nvme (s : State) (k : Nat) : Nvme := Tbl.look Nvme.reset s.nvmes k

/-- Entry `k` of `nvmes` set. -/
def State.setNvme (s : State) (k : Nat) (v : Nvme) : State := { s with nvmes := Tbl.put Nvme.reset s.nvmes k v }

/-- Entry `k` of `nvmes` changed. -/
def State.modNvme (s : State) (k : Nat) (f : Nvme → Nvme) : State := s.setNvme k (f (s.nvme k))

/-- Entry `k` of `storages`. -/
def State.storage (s : State) (k : Nat) : Storage := Tbl.look Storage.reset s.storages k

/-- Entry `k` of `storages` set. -/
def State.setStorage (s : State) (k : Nat) (v : Storage) : State := { s with storages := Tbl.put Storage.reset s.storages k v }

/-- Entry `k` of `storages` changed. -/
def State.modStorage (s : State) (k : Nat) (f : Storage → Storage) : State := s.setStorage k (f (s.storage k))

/-- Entry `k` of `pods`. -/
def State.podOf (s : State) (k : Nat) : Pod := Tbl.look Pod.reset s.pods k

/-- Entry `k` of `pods` set. -/
def State.setPodOf (s : State) (k : Nat) (v : Pod) : State := { s with pods := Tbl.put Pod.reset s.pods k v }

/-- Entry `k` of `pods` changed. -/
def State.modPodOf (s : State) (k : Nat) (f : Pod → Pod) : State := s.setPodOf k (f (s.podOf k))

/-- Entry `k` of `threads`. -/
def State.thread (s : State) (k : Nat) : Thread := Tbl.look Thread.reset s.threads k

/-- Entry `k` of `threads` set. -/
def State.setThread (s : State) (k : Nat) (v : Thread) : State := { s with threads := Tbl.put Thread.reset s.threads k v }

/-- Entry `k` of `threads` changed. -/
def State.modThread (s : State) (k : Nat) (f : Thread → Thread) : State := s.setThread k (f (s.thread k))

/-- Entry `k` of `locks`. -/
def State.lockOf (s : State) (k : Nat) : Lock := Tbl.look Lock.reset s.locks k

/-- Entry `k` of `locks` set. -/
def State.setLockOf (s : State) (k : Nat) (v : Lock) : State := { s with locks := Tbl.put Lock.reset s.locks k v }

/-- Entry `k` of `locks` changed. -/
def State.modLockOf (s : State) (k : Nat) (f : Lock → Lock) : State := s.setLockOf k (f (s.lockOf k))

/-- Entry `k` of `chans`. -/
def State.chanOf (s : State) (k : Nat) : Channel := Tbl.look Channel.reset s.chans k

/-- Entry `k` of `chans` set. -/
def State.setChanOf (s : State) (k : Nat) (v : Channel) : State := { s with chans := Tbl.put Channel.reset s.chans k v }

/-- Entry `k` of `chans` changed. -/
def State.modChanOf (s : State) (k : Nat) (f : Channel → Channel) : State := s.setChanOf k (f (s.chanOf k))

/-- Entry `k` of `seqs`. -/
def State.seqOf (s : State) (k : Nat) : Sequencer := Tbl.look Sequencer.reset s.seqs k

/-- Entry `k` of `seqs` set. -/
def State.setSeqOf (s : State) (k : Nat) (v : Sequencer) : State := { s with seqs := Tbl.put Sequencer.reset s.seqs k v }

/-- Entry `k` of `seqs` changed. -/
def State.modSeqOf (s : State) (k : Nat) (f : Sequencer → Sequencer) : State := s.setSeqOf k (f (s.seqOf k))

/-- Entry `k` of `contexts`. -/
def State.context (s : State) (k : Nat) : Context := Tbl.look Context.reset s.contexts k

/-- Entry `k` of `contexts` set. -/
def State.setContext (s : State) (k : Nat) (v : Context) : State := { s with contexts := Tbl.put Context.reset s.contexts k v }

/-- Entry `k` of `contexts` changed. -/
def State.modContext (s : State) (k : Nat) (f : Context → Context) : State := s.setContext k (f (s.context k))

end Sys2Proof.Machine
end

