-- ==== Sys2Proof/Machine/Mem.lean ====
section
/-! DEFINITION. Addressed memory: host memory as each link reaches it, the DRAM of each die, pod memories and shared
thread memory. All are held in one list of cells, region by region. A byte that nothing has written reads zero
(log 3). -/

namespace Sys2Proof.Machine

/-- An address space. -/
inductive Region where
  /-- Host memory through the link of a die. -/
  | host (link : Nat)
  /-- DRAM of a die. -/
  | dram (die : Nat)
  /-- Pod memory of a pod, numbered die × 6 + pod. -/
  | pod (pod : Nat)
  /-- Shared thread memory of a die. -/
  | shared (die : Nat)
  deriving DecidableEq, Repr

/-- The number of a region. -/
def Region.code : Region → Nat
  | .host l => 4 * l
  | .dram d => 4 * d + 1
  | .pod p => 4 * p + 2
  | .shared d => 4 * d + 3

/-- The cell number of an address: addresses are below 2^64. -/
def cellOf (r : Region) (a : Nat) : Nat := r.code * 2 ^ 64 + a % 2 ^ 64

/-- What an unlisted cell reads (log 3). -/
def memDefault : Byte := 0

/-- One byte. -/
def State.readByte (s : State) (r : Region) (a : Nat) : Byte := Tbl.look memDefault s.mem (cellOf r a)

/-- One byte written. -/
def State.writeByte (s : State) (r : Region) (a : Nat) (b : Byte) : State :=
  { s with mem := Tbl.put memDefault s.mem (cellOf r a) b }

/-- `n` bytes from an address. -/
def State.readBytes (s : State) (r : Region) (a : Nat) : Nat → List Byte
  | 0 => []
  | n + 1 => s.readByte r a :: s.readBytes r (a + 1) n

/-- Cells after bytes are written, in ascending address order. -/
def memWrite (m : List Host.Cell) (r : Region) (a : Nat) : List Byte → List Host.Cell
  | [] => m
  | b :: bs => memWrite (Tbl.put memDefault m (cellOf r a) b) r (a + 1) bs

/-- Bytes written from an address. -/
def State.writeBytes (s : State) (r : Region) (a : Nat) (bs : List Byte) : State :=
  { s with mem := memWrite s.mem r a bs }

/-- The canonical form of memory. -/
abbrev Memory.wf (m : List Host.Cell) : Prop := Tbl.wf memDefault m = true

end Sys2Proof.Machine
end

