-- ==== Sys2Proof/Machine/Base.lean ====
section
/-! DEFINITION. Operations under all others: dies and identities, free values, time, what a host link carries, latched
errors. -/

namespace Sys2Proof.Machine

/-! ## Dies and identities -/

/-- Dies of a part (Table 00.1). -/
def Part.dies : Part → Nat
  | .tla8064 => 8
  | .tla4032 => 4
  | .tla2016 => 2

/-- CHIP_IDENT.PART. -/
def Part.number : Part → Nat
  | .tla8064 => 0x8064
  | .tla4032 => 0x4032
  | .tla2016 => 0x2016

def State.dieCount (s : State) : Nat := s.boot.part.dies

/-- The die exists and has not been removed from service (PKG_ROLES). -/
def State.dieWorks (s : State) (d : Nat) : Bool := decide (d < s.dieCount) && !bit s.roles.failed d

/-- Working dies in ascending order. -/
def State.workingDies (s : State) : List Nat := (List.range s.dieCount).filter s.dieWorks

/-- STAGE is READY and the package has not stopped (R77, R602). -/
def State.ready (s : State) : Bool := decide (s.boot.stage = .ready) && !s.boot.stopped

/-- The die runs: the package is READY and the die is in service. -/
def State.live (s : State) (d : Nat) : Bool := s.ready && s.dieWorks d

/-- A master identity (Table 00.3). -/
def masterId (cls die index : Nat) : Nat := cls * 2 ^ 20 + die * 2 ^ 17 + index
def mClass (m : Nat) : Nat := m / 2 ^ 20
def mDie (m : Nat) : Nat := m / 2 ^ 17 % 8
def mIndex (m : Nat) : Nat := m % 2 ^ 17

/-- A reserved class, whose carrier is malformed (R12). -/
def reservedClass (m : Nat) : Bool := decide (7 ≤ mClass m)

/-- Identity of a host function (Table 00.4). -/
def fnId (die pf vf : Nat) : Nat := masterId 0 die (pf * 2048 + vf)
def fnPf (f : Nat) : Nat := mIndex f / 2048
def fnVf (f : Nat) : Nat := mIndex f % 2048
def pf0 (die : Nat) : Nat := fnId die 0 0
def pf1 (die : Nat) : Nat := fnId die 1 0

/-- Firmware of a die (R128). -/
def fwId (die : Nat) : Nat := masterId 3 die 0

/-- Identities compared with DIE ignored for class 4 (R148). -/
def sameMaster (a b : Nat) : Bool :=
  if mClass a = 4 ∧ mClass b = 4 then mIndex a == mIndex b else a == b

/-- The die that serves the flash port, the Stollek chain port and the PPS pins (R601). -/
def State.servingDie (s : State) : Nat :=
  if s.roles.lead < 2 then s.roles.lead else if bit s.roles.failed 0 then 1 else 0

/-! ## Free values -/

/-- A fresh free value of `n` bits, and the state after drawing it (log 6, 7). -/
def State.draw (s : State) (n : Nat) : Nat × State :=
  ((Config.freeValue s.freeCtr).toNat % 2 ^ n, { s with freeCtr := s.freeCtr + 1 })

/-- Something leaves the package. -/
def State.emit (s : State) (o : Out) : State := { s with out := s.out ++ [o] }

/-! ## Time -/

/-- The package tick of a die (R374). -/
def State.tickAt (s : State) (d : Nat) : Nat :=
  (((s.dieTime d).tick : Int) + (s.dieTime d).correction).toNat

/-- The lead's package tick, by which timeouts of commands are measured (R170, R323). -/
def State.leadTick (s : State) : Nat := s.tickAt s.roles.lead

/-- The time-clock count of a die, by which its own timers run (R374). -/
def State.dieTick (s : State) (d : Nat) : Nat := (s.dieTime d).tick

/-- Full time at a package tick (R375). -/
def TimeModel.full (m : TimeModel) (t : Nat) : Nat :=
  (m.offset + ((t - m.baseTick) * m.rate + m.offsetSub) / 2 ^ 32) % 2 ^ 96

/-- Whole-nanosecond form of the time on a die (R377). -/
def State.nsAt (s : State) (d : Nat) : Nat := s.timeModel.full (s.tickAt d) / 2 ^ 16 % 2 ^ 64

/-- Stamp form of the time on a die (R377). -/
def State.stampAt (s : State) (d : Nat) : Nat := s.timeModel.full (s.tickAt d) % 2 ^ 80

/-- Whole-nanosecond time of the lead. -/
def State.nowNs (s : State) : Nat := s.nsAt s.roles.lead

/-- Core clocks of 2.4 GHz that have passed between two counts of the 1.6 GHz time clock (Table 21.9). -/
def coreClocks (since now : Nat) : Nat := 3 * (now - since) / 2

/-- Ticks in a microsecond. -/
def ticksPerUs : Nat := 1600

/-- Ticks in a millisecond and in a second of the 1.6 GHz time clock (R374). -/
def ticksPerMs : Nat := 1600000
def ticksPerSec : Nat := 1600000000

/-! ## Host requests -/

/-- The link is up, and its die and the package are working. -/
def State.linkUp (s : State) (l : Nat) : Bool := s.dieWorks l && decide ((s.link l).speed ≠ 0)

/-- Memory requests of the host reach registers: after READY, in a lifecycle state that answers, with the link up and not FROZEN
(R43, R59, R105). -/
def State.hostReach (s : State) (l : Nat) : Bool := s.ready && decide (s.boot.fuses.lifecycle ≠ .decommissioned) && s.linkUp l && !(s.link l).frozen
    && !((s.link l).ide.any (fun (n, i) => n == 0 && !i.secure))

/-- A function can issue requests (R98, R105, R114). -/
def State.canIssue (s : State) (fn : Nat) : Bool :=
  s.linkUp (mDie fn) && !(s.link (mDie fn)).frozen && (s.func fn).busMaster && !(s.func fn).d3hot

/-- An IDE stream of the link that would carry a request of a function at an address is Insecure (R117, R118): the
link stream carries every TLP, a selective stream those of its requesters at its addresses. -/
def State.ideBlocks (s : State) (fn addr : Nat) : Bool :=
  (s.link (mDie fn)).ide.any (fun (n, i) => !i.secure && (n == 0 || (i.requesters.contains fn
    && (i.ranges.isEmpty || i.ranges.any (fun (b, l) => decide (b ≤ addr) && decide (addr ≤ l))))))

/-- The link IDE stream, which carries every TLP of the link, is Insecure: nothing is sent or accepted on it (R118). -/
def State.linkInsecure (s : State) (link : Nat) : Bool := (s.link link).ide.any (fun (n, i) => n == 0 && !i.secure)

/-- An Insecure IDE stream would carry the completions of a function's reads: the link stream, or a selective stream of all addresses
(R118). -/
def State.ideSilent (s : State) (fn : Nat) : Bool :=
  (s.link (mDie fn)).ide.any (fun (n, i) => !i.secure && (n == 0 || (i.requesters.contains fn && i.ranges.isEmpty)))

/-- WAKE_Nn is asserted (R116). -/
def Link.wake (l : Link) : Bool := l.wakeFrame || !l.wakeBy.isEmpty

/-- A function's PME_Status is cleared: WAKE_Nn is no longer asserted by it (R116). -/
def State.clearPme (s : State) (fn : Nat) : State :=
  (s.modFunc fn (fun f => { f with pmeStatus := false })).modLink (mDie fn) (fun l => { l with wakeBy := l.wakeBy.erase fn })

/-- RELEASE_NONCE of a link: the one last drawn, or that of reset (R110, R111). -/
def State.nonceOf (s : State) (link : Nat) : Nat := (s.link link).nonce.getD (Config.resetNonce link).toNat

/-- Bytes of host memory as a function's read returns them. -/
def State.hostRead (s : State) (fn addr n : Nat) : List Byte := s.readBytes (.host (mDie fn)) addr n

/-! ## Errors -/

/-- Severity classes (Table 19.2). -/
def sevCorrected : Nat := 0
def sevDegraded : Nat := 1
def sevContained : Nat := 2
def sevDieFatal : Nat := 3
def sevPackageFatal : Nat := 4

/-- The area of an error (R577). -/
def Latched.sameArea (a b : Latched) : Bool :=
  a.cause == b.cause && a.die == b.die && a.unit == b.unit && a.subject == b.subject

/-- A latched error put in the latch of its area: the first occurrence is held and repeats are counted (R578). -/
def latchError (l : List Latched) (e : Latched) : List Latched :=
  if l.any (fun x => x.sameArea e) then
    l.map (fun x => if x.sameArea e then { x with repeats := x.repeats + 1, timeLast := e.timeLast } else x)
  else l ++ [e]

/-- A block of die `die` latches an error (R578). ERROR_HANDLE makes its record. -/
def State.raise (s : State) (cause severity subject die unit a b : Nat) : State :=
  let t := s.nsAt die
  let e : Latched :=
    { cause := cause, severity := severity, subject := subject, die := die, unit := unit, detailA := a, detailB := b,
      injected := s.errors.planted.contains (cause, die, unit), recordOnly := false, time := t, timeLast := t, repeats := 0 }
  { s with errors := { s.errors with latched := latchError s.errors.latched e, planted := s.errors.planted.erase (cause, die, unit) } }

/-- An error that a planted fault has yet to show (R583). -/
def State.expect (s : State) (cause die unit : Nat) : State :=
  { s with errors := { s.errors with planted := s.errors.planted ++ [(cause, die, unit)] } }

end Sys2Proof.Machine
end

