-- ==== Sys2Proof/Machine/TagOps.lean ====
section
/-! DEFINITION. PCIe tags of a link: issue, retirement, quarantine and the completion timeout (spec/03 R93–R97). -/

namespace Sys2Proof.Machine

/-- Key of a tag of a link. -/
def tagKey (link tag : Nat) : Nat := link * 32768 + tag

/-- LINK_STATUS.TAG_MODE (R93): the enable bits are those of the link's PF0. -/
def State.tagMode (s : State) (link : Nat) : Nat :=
  let f := s.func (pf0 link)
  if (s.link link).flit && f.tag14 then 3 else if f.tag10 then 2 else if f.extTag then 1 else 0

/-- Non-posted requests a link may keep outstanding (R93). -/
def State.tagLimit (s : State) (link : Nat) : Nat :=
  match s.tagMode link with
  | 3 => 16384
  | 2 => 768
  | 1 => 256
  | _ => 32

/-- Tags of a link outstanding or quarantined. -/
def State.tagsOf (s : State) (link : Nat) : Tbl HostTag := s.tags.filter (fun (k, _) => k / 32768 == link)

/-- The link may keep one more request outstanding. -/
def State.tagFree (s : State) (link : Nat) : Bool := decide ((s.tagsOf link).length < s.tagLimit link)

/-- The lowest operation tag of a die that no read holds, and the number of those that none holds (R93, ledger 4). -/
def State.newOpTag (s : State) (die : Nat) : Nat :=
  let held := (s.tagsOf die).map (fun e => e.2.op)
  ((List.range (held.length + 1)).find? (fun n => !held.contains n)).getD 0
def State.freeOpTags (s : State) (die : Nat) : Nat := 131072 - ((s.tagsOf die).map (fun e => e.2.op)).eraseDups.length

/-- TAG_STATUS.ISSUED and QUARANTINED. -/
def State.issuedTags (s : State) (link : Nat) : Nat := ((s.tagsOf link).filter (fun (_, t) => !t.quarantined)).length
def State.quarantinedTags (s : State) (link : Nat) : Nat := ((s.tagsOf link).filter (fun (_, t) => t.quarantined)).length

/-- Completion timeout in microseconds by encoding (Table 03.3). -/
def ctoUs (v : Nat) : Nat :=
  match v with
  | 1 => 100
  | 2 => 10000
  | 5 => 55000
  | 6 => 210000
  | 9 => 900000
  | 10 => 3500000
  | 13 => 13000000
  | 14 => 64000000
  | _ => 50000

/-- HOST_ORDER takes effect at the next request that a queue or DMA channel of the link forms (R89). -/
def State.orderSafe (s : State) (link : Nat) : State :=
  s.modLink link (fun l => { l with roPayload := l.roStaged, idoPayload := l.idoStaged })

/-- The read is one of a queue or a DMA channel. -/
def ReadUse.ofRing : ReadUse → Bool
  | .control _ _ _ => true
  | .table _ _ _ => true
  | .storage _ _ => true
  | .payload _ _ => true
  | .channel _ => true
  | _ => false

/-- A read is issued with the lowest free tag, if the link may keep one more outstanding (R93, R96). -/
def State.issueRead (s : State) (fn : Nat) (use : ReadUse) (bytes : Nat) : Option State :=
  let link := mDie fn
  let limit := s.tagLimit link
  if limit ≤ (s.tagsOf link).length then none
  else
    match Tbl.firstFree s.tags (tagKey link 0) limit with
    | none => none
    | some k =>
      let t : HostTag :=
        { fn := fn, use := use, remaining := bytes, quarantined := false, timeoutUs := ctoUs (s.func fn).ctoValue,
          discard := false, op := s.newOpTag link }
      some (if use.ofRing then State.orderSafe { s with tags := Tbl.set s.tags k t } link
        else { s with tags := Tbl.set s.tags k t })

/-- The outstanding read of a use, with its tag key. -/
def State.readOf (s : State) (fn : Nat) (use : ReadUse) : Option (Nat × HostTag) :=
  s.tags.find? (fun (_, t) => t.fn == fn && t.use == use && !t.quarantined && !t.discard)

/-- A read retires: its tag is free. -/
def State.retireRead (s : State) (fn : Nat) (use : ReadUse) : State :=
  match s.readOf fn use with
  | none => s
  | some (k, _) => { s with tags := Tbl.del s.tags k }

/-- The outstanding read of a use, issued now if there is none and a tag is free: without a tag it waits (R93). -/
def State.needRead (s : State) (fn : Nat) (use : ReadUse) (bytes : Nat) : Option State :=
  if (s.readOf fn use).isSome then some s else s.issueRead fn use bytes

/-- A request of a function is reported as timed out: AER, CTO_COUNT and a CONTAINED record that names the queue pair or DMA
channel, and the tag (R95). A request that an Insecure IDE stream would carry fails so too, with tag 0 (R118). -/
def State.reportTimeout (s : State) (fn unit tag : Nat) : State :=
  let link := mDie fn
  let s := if s.linkUp link then s.emit (.tlp link TlpKind.aerTimeout.code fn) else s
  let s := s.modLink link (fun l => { l with cto := satAdd 0xFFFFFFFF l.cto 1 })
  s.raise 0x0102 sevContained fn link unit tag 0

/-- The outstanding read of a fragment table of a queue pair: tag key, index of its entry, entries of the burst from it on. -/
def State.tableRead (s : State) (fn queue : Nat) : Option (Nat × Nat × Nat) :=
  s.tags.findSome? (fun (k, t) => match t.use with
    | .table q i n => if t.fn = fn ∧ q = queue ∧ t.quarantined = false ∧ t.discard = false then some (k, i, n) else none
    | _ => none)

/-- The outstanding control fetch of a queue pair: tag key, first index, entries asked for. -/
def State.controlRead (s : State) (fn queue : Nat) : Option (Nat × Nat × Nat) :=
  s.tags.findSome? (fun (k, t) => match t.use with
    | .control q i n => if t.fn = fn ∧ q = queue ∧ t.quarantined = false ∧ t.discard = false then some (k, i, n) else none
    | _ => none)

end Sys2Proof.Machine
end

