-- ==== Sys2Proof/Machine/Wake.lean ====
section
/-! DEFINITION. Threads as an event finds them: identities, registers, event inputs, and the end of a wait whose condition
holds (spec/16 R509–R517). -/

namespace Sys2Proof.Machine

/-! ## Names -/

/-- Pod, die and pod thread number of a thread key. -/
def threadPod (t : Nat) : Nat := t / 72
def threadDie (t : Nat) : Nat := t / 432
def podThread (t : Nat) : Nat := t % 72

/-- Master identity of a thread (Table 00.4). -/
def threadId (t : Nat) : Nat := masterId 1 (threadDie t) (t % 432)

/-- Thread key of a class 1 identity. -/
def threadOfId (m : Nat) : Nat := mDie m * 432 + mIndex m

/-- An identity names a thread position that runs threads: not a spare one (R501). -/
def isThreadId (m : Nat) : Bool := mClass m == 1 && decide (mIndex m < 432) && decide (mIndex m % 72 < 64)

/-- Master identity of a sequencer, and its key. -/
def seqId (k : Nat) : Nat := masterId 2 (k / 16) (k % 16)
def seqOfId (m : Nat) : Nat := mDie m * 16 + mIndex m % 16

/-- The supervisor thread of a pod: thread 0 of the lowest position in service (R503). -/
def State.supervisor (s : State) (pod : Nat) : Nat :=
  let lost := (s.podOf pod).lostPositions
  pod * 72 + 8 * (((List.range 8).find? (fun p => !bit lost p)).getD 0)

/-- The thread runs at level 1 (R543). -/
def State.isSupervisor (s : State) (t : Nat) : Bool := t == s.supervisor (threadPod t)

/-! ## Registers -/

/-- A general register: w0 reads 0 (R541). -/
def Thread.reg (th : Thread) (n : Nat) : Word := if n = 0 then 0 else Tbl.look 0 th.regs n

/-- A general register written: a write to w0 is discarded (R541). -/
def Thread.setReg (th : Thread) (n : Nat) (v : Word) : Thread :=
  if n = 0 then th else { th with regs := Tbl.put 0 th.regs n v }

/-! ## Channels -/

/-- Key of a channel named pod × 256 + n on a die (R509). -/
def chanKey (die n : Nat) : Nat := die * 1536 + n

/-- Free words of a channel (R509). -/
def Channel.room (c : Channel) : Nat := 8 - c.words.length

/-! ## Events -/

/-- KIND and INDEX of an event input's source (Table 16.4). -/
def Thread.srcKind (th : Thread) (i : Nat) : Nat := bits th.eventSrc (16 * i + 3) (16 * i)
def Thread.srcIndex (th : Thread) (i : Nat) : Nat := bits th.eventSrc (16 * i + 14) (16 * i + 4)

/-- The pending bit of an input: edge sources latch it, level sources hold it while their condition holds (R514). -/
def State.inputPending (s : State) (t i : Nat) : Bool :=
  let th := s.thread t
  let die := threadDie t
  let n := th.srcIndex i
  match th.srcKind i with
  | 2 => !(s.chanOf (chanKey die n)).words.isEmpty
  | 3 => decide (4 ≤ (s.chanOf (chanKey die n)).room)
  | 8 => !(s.lockOf (threadPod t * 64 + n % 64)).held
  | _ => bit th.pending i

/-- THREAD_EVENT.PENDING (R514). -/
def State.pendingBits (s : State) (t : Nat) : Nat :=
  (List.range 8).foldl (fun a i => a + (if s.inputPending t i then 2 ^ i else 0)) 0

/-- Edge bits cleared as an event wait returns them (R515). -/
def Thread.takeEvents (th : Thread) (set : Nat) : Thread :=
  { th with pending := (List.range 8).foldl (fun a i => if bit set i then setBit a i false else a) th.pending }

/-- Any bit of POD_INT[73:0] is 1 (R517). -/
def Pod.anyInt (p : Pod) : Bool := decide (p.faultPending ≠ 0) || p.stalemate || p.coreChange

/-- The interrupt input is pending (R517). -/
def State.intPending (s : State) (t : Nat) : Bool :=
  (s.thread t).intSignal || (s.isSupervisor t && (s.podOf (threadPod t)).anyInt)

/-! ## Ends of instructions and of waits -/

/-- An instruction completed: the next one follows, and a thread under STEP stops (R529, R542). -/
def Thread.complete (th : Thread) (pc : Nat) : Thread :=
  { th with pc := pc, issueCount := (th.issueCount + 1) % 2 ^ 64, wait := .none, object := 0, objectPod := 0, waitMask := 0,
            waitRd := 0, endWord := 0, breakSkip := false, breakHit := false, stepping := false,
            state := if th.stepping then .stopped else .running }

/-- The next committed word taken from a channel by a reader (R511). -/
def Thread.takeWord (th : Thread) (rd : Nat) (w : Word) (last : Bool) : Thread :=
  { th.setReg rd w with chanStatus := 1 + 2 * b2n last }

/-- A waiting thread completes its wait if its condition holds now: a channel read once the channel holds a word, an
event wait once an enabled input is pending (R511, R515). -/
def State.settleThread (s : State) (t : Nat) : State :=
  let th := s.thread t
  if th.state = .blocked then
    match th.wait with
    | .channelRead =>
      let k := chanKey (threadDie t) (th.objectPod * 256 + th.object)
      let c := s.chanOf k
      match c.words with
      | [] => s
      | (w, last) :: rest =>
        (s.setChanOf k { c with words := rest }).setThread t ((th.takeWord th.waitRd w last).complete (th.pc + 4))
    | .eventWait =>
      let set := s.pendingBits t &&& th.waitMask
      if set = 0 then s
      else s.setThread t (((th.takeEvents set).setReg th.waitRd (BitVec.ofNat 64 set)).complete (th.pc + 4))
    | _ => s
  else s

/-- Every waiting thread of a die completes its wait if it can; a read that makes room may end a further wait. -/
def State.settleDie (s : State) (die : Nat) : State :=
  let ts := (s.threads.map (fun e => e.1)).filter (fun t => threadDie t == die)
  (ts ++ ts).foldl State.settleThread s

/-- A raise from a source: the pending bit of each input whose source it is (R514). -/
def Thread.raised (th : Thread) (kind index : Nat) : Thread :=
  { th with pending := (List.range 8).foldl (fun a i =>
      if th.srcKind i = kind ∧ (kind = 4 ∨ kind = 5 ∨ th.srcIndex i = index) then setBit a i true else a) th.pending }

/-- One input of a thread raised by a mailbox word or a signal: only if the input has that source (R128, R514). -/
def State.raiseInput (s : State) (t input kind index : Nat) : State :=
  let th := s.thread t
  if th.srcKind input = kind ∧ (kind = 4 ∨ th.srcIndex input = index) then
    (s.setThread t { th with pending := setBit th.pending input true }).settleThread t
  else s

/-- Every thread of a pod that names a source has it raised. -/
def State.raisePod (s : State) (pod kind index : Nat) : State :=
  let ts := (s.threads.map (fun e => e.1)).filter (fun t => threadPod t == pod)
  let s := ts.foldl (fun s t => s.modThread t (fun th => th.raised kind index)) s
  s.settleDie (pod / 6)

end Sys2Proof.Machine
end

