-- ==== Sys2Proof/Machine/Ops.lean ====
section
/-! DEFINITION. Operations shared by every family: host writes and interrupts, the journal and its mirror, and the routes
replies take. -/

namespace Sys2Proof.Machine

/-! ## Host writes and interrupts -/

/-- The Relaxed Ordering and ID-Based Ordering attributes of a function's payload writes (R89). -/
def State.payloadRo (s : State) (fn : Nat) : Bool := (s.func fn).relaxed && (s.link (mDie fn)).roPayload
def State.payloadIdo (s : State) (fn : Nat) : Bool := (s.func fn).ido && (s.link (mDie fn)).idoPayload

/-- A write of a function goes out, or fails as a completion timeout does where an Insecure IDE stream would carry it
(R89, R118). -/
def State.issueWrite (s : State) (fn : Nat) (w : HeldWrite) : State :=
  if s.ideBlocks fn w.addr then s.reportTimeout fn w.unit 0
  else
    let s := s.writeBytes (.host (mDie fn)) w.addr w.bytes
    if w.payload then s.emit (.payload fn w.addr w.bytes.length (s.payloadRo fn) (s.payloadIdo fn)) else s

/-- A write of a function to host memory: made at once, or held in order while the function cannot issue (R99). -/
def State.putWrite (s : State) (fn : Nat) (w : HeldWrite) : State :=
  if s.canIssue fn then s.issueWrite fn w else s.modFunc fn (fun f => { f with heldWrites := f.heldWrites ++ [w] })

/-- A write that is neither payload nor of a queue pair or DMA channel: a reply, a saved image, a query's data. -/
def State.hostWrite (s : State) (fn addr : Nat) (bs : List Byte) : State :=
  s.putWrite fn { unit := 0x100, addr := addr, bytes := bs, payload := false }

/-- A completion entry, OWN write-back or index write-back of a queue (R90): it forms a request of the queue (R89). -/
def State.queueWrite (s : State) (fn queue addr : Nat) (bs : List Byte) : State :=
  (s.orderSafe (mDie fn)).putWrite fn { unit := queue, addr := addr, bytes := bs, payload := false }

/-- A payload write of a queue or DMA channel (R89). -/
def State.payloadWrite (s : State) (fn unit addr : Nat) (bs : List Byte) : State :=
  (s.orderSafe (mDie fn)).putWrite fn { unit := unit, addr := addr, bytes := bs, payload := true }

def MsixVec.reset : MsixVec := { address := 0, data := 0, masked := false, pending := false }

/-- An MSI-X vector of a function: sent, or its Pending bit set while it cannot be (R98); it cannot be while an Insecure IDE
stream would carry the message (R118). -/
def State.msi (s : State) (fn v : Nat) : State :=
  let f := s.func fn
  let e := Tbl.look MsixVec.reset f.msix v
  if s.canIssue fn && !s.ideBlocks fn e.address && f.msixEnable && !f.funcMask && !e.masked then
    s.emit (.msi fn v e.address e.data)
  else s.setFunc fn { f with msix := Tbl.put MsixVec.reset f.msix v { e with pending := true } }

/-! ## The journal -/

/-- Header bytes 0x00–0x07 of a command packet (Table 04.4). -/
def Packet.head8 (p : Packet) : List Byte := toLe 2 p.opcode ++ toLe 2 p.paramLen ++ toLe 2 p.flags ++ toLe 2 p.txn

/-- PARAM_DIGEST (Table 04.8). -/
def Packet.digest (p : Packet) : Nat := le ((sha256 (p.head8 ++ p.params)).take 16)

/-- The bytes of a journal entry without ENTRY_CRC (Table 04.8). -/
def JEntry.body (e : JEntry) : List Byte :=
  toLe 8 e.jsn ++ toLe 8 e.token ++ toLe 3 e.master ++ toLe 1 e.status ++ toLe 2 e.opcode ++ toLe 2 e.txn ++
    toLe 4 e.tempo ++ toLe 4 e.bootId ++ toLe 8 e.time ++ toLe 16 e.digest ++ toLe 4 e.resultWord

/-- The 64 bytes of a journal entry. -/
def JEntry.bytes (e : JEntry) : List Byte := e.body ++ toLe 4 (crc32 e.body)

/-- JOURNAL_FIRST (R147). -/
def Journal.first (j : Journal) : Nat := j.next - j.entries.length

/-- JOURNAL_MIRROR_LAG (R156). -/
def Journal.lag (j : Journal) : Nat := j.next - j.mirrorNext

/-- The journal holds at most 65,536 entries (R147). -/
def journalSize : Nat := 65536

/-- The confirming read of the oldest unconfirmed mirror write is issued, one at a time (R155, log 19). -/
def State.mirrorRead (s : State) : State :=
  match s.journal.unconfirmed with
  | [] => s
  | n :: _ => (s.needRead (pf0 s.journal.mirrorDie) (.mirror n) 0).getD s

/-- Entries not yet written to the host mirror are written in JSN order (R154); a synchronous mirror reads after each (R155). -/
def State.mirrorFlush (s : State) : State :=
  let j := s.journal
  let todo := j.entries.filter (fun e => j.mirrorNext ≤ e.jsn)
  let s := todo.foldl
    (fun s e => s.writeBytes (.host j.mirrorDie) (j.mirrorBase + 64 * (e.jsn % journalSize)) e.bytes) s
  let more := if j.mirrorSync then todo.map (fun e => e.jsn) else []
  State.mirrorRead { s with journal := { s.journal with mirrorNext := j.next, unconfirmed := j.unconfirmed ++ more } }

/-- The mirror's PF0 can write the region: it can issue requests, and no Insecure IDE stream would carry them (R118, R156). -/
def State.mirrorCan (s : State) : Bool :=
  s.canIssue (pf0 s.journal.mirrorDie) && !s.ideBlocks (pf0 s.journal.mirrorDie) s.journal.mirrorBase

/-- The mirror follows the journal: it writes while its PF0 can issue, and is SUSPENDED otherwise (R154, R156). -/
def State.mirrorStep (s : State) : State :=
  match s.journal.mirror with
  | .active =>
    if s.mirrorCan then s.mirrorFlush
    else { s with journal := { s.journal with mirror := .suspended, confirmFailed := false, unconfirmed := [] } }
  | _ => s

/-- The journal area of a die's management partition: the journal on the lead, its mirror on the mirroring die, nothing on every
other (R16). -/
def State.journalArea (s : State) (die : Nat) : List JEntry :=
  if die = s.roles.lead then s.journal.entries else if die = s.roles.mirror then s.journal.copy else []

/-- A journal entry put in, the oldest discarded when 65,536 are held; the mirror breaks when an unwritten entry is
discarded (R147, R156). DECOMMISSIONED has erased the journal, and with it what it would hold of the change itself (R59). -/
def State.journalAdd (s : State) (e : JEntry) : State :=
  if s.boot.fuses.lifecycle = .decommissioned then s else
  let j := s.journal
  let full := decide (journalSize ≤ j.entries.length)
  let lost := full && decide (j.mirror = .suspended) && decide (j.mirrorNext ≤ j.first)
  let put := fun (l : List JEntry) => (if full then l.drop 1 else l) ++ [e]
  let j' := { j with entries := put j.entries, copy := if s.roles.filled && s.roles.mirror != s.roles.lead then put j.copy else j.copy,
                     next := j.next + 1, mirror := if lost then .broken else j.mirror }
  let s := { s with journal := j' }
  let s := if lost then s.raise 0x0904 sevDegraded 0 s.roles.lead 0 j.first 0 else s
  s.mirrorStep

/-- The body of a firmware entry (R151, Table 04.9). -/
def State.firmwareBody (s : State) (word : Nat) : JEntry :=
  { jsn := s.journal.next, token := 0, master := fwId s.roles.lead, status := 0, opcode := 0, txn := 0,
    tempo := s.tempo.current, bootId := s.journal.bootId, time := s.nowNs, digest := 0, resultWord := word }

/-- Result words of firmware entries (Table 04.9). -/
def eventCastling (d : Nat) : Nat := 1 + 0x100 * d
def eventMirrorBroken : Nat := 2
def eventMirrorActive : Nat := 3

/-- An entry recorded, and the firmware entry of a mirror that it made BROKEN (R147, R151, R156). -/
def State.journalPut (s : State) (e : JEntry) : State :=
  let s' := s.journalAdd e
  if s.journal.mirror = .suspended ∧ s'.journal.mirror = .broken then s'.journalAdd (s'.firmwareBody eventMirrorBroken) else s'

/-- A firmware entry is recorded (R151). -/
def State.firmwareEntry (s : State) (word : Nat) : State := s.journalPut (s.firmwareBody word)

/-- A command recorded with its outcome (R147): `tempo` is the tempo in force then. -/
def State.recordCommand (s : State) (p : Packet) (status tempo : Nat) (result : List Byte) : State :=
  s.journalPut
    { jsn := s.journal.next, token := p.token, master := p.sender, status := status, opcode := p.opcode, txn := p.txn,
      tempo := tempo, bootId := s.journal.bootId, time := s.nowNs, digest := p.digest, resultWord := leAt result 0 4 }

/-! ## Replies -/

/-- The bytes of a reply: the header of Table 04.5 and the result data. -/
def Reply.header (r : Reply) : List Byte :=
  toLe 1 r.status ++ toLe 1 r.flags ++ toLe 2 r.result.length ++ toLe 4 r.sequence ++ toLe 8 r.jsn ++
    toLe 8 r.token ++ toLe 2 r.opcode ++ toLe 2 r.txn ++ toLe 4 r.tempo

def Reply.bytes (r : Reply) : List Byte := r.header ++ r.result

/-- REPLY_FLAGS bits (Table 04.5). -/
def flagReplayed : Nat := 1
def flagTokenClash : Nat := 2
def flagMailboxFault : Nat := 4
def flagTruncated : Nat := 8
def flagLagging : Nat := 16

/-- 32-bit words of a byte string. -/
def wordsOf : Nat → List Byte → List Word32
  | 0, _ => []
  | n + 1, bs => BitVec.ofNat 32 (leAt bs 0 4) :: wordsOf n (bs.drop 4)

/-- A reply as mailbox words: at most 16, cut with TRUNCATED set, END on the last (R124, R129). -/
def Reply.mailboxWords (r : Reply) (stamp : Nat) : List MbxWord :=
  let long := decide (64 < r.bytes.length)
  let flags := if long ∧ r.flags / flagTruncated % 2 = 0 then r.flags + flagTruncated else r.flags
  let bs := { r with flags := flags }.bytes
  let n := min 16 (ceilDiv bs.length 4)
  (wordsOf n bs).zipIdx.map (fun (w, i) => { word := w, stamp := stamp, last := i + 1 == n, collided := false })

/-- Held reply words move into the outbound queue while it has room; the arrival of an END word raises vector 0 (R123). While
Bus Master Enable is clear the replies are held (R99). -/
def State.fillOutbound (s : State) (fn : Nat) : State :=
  let b := s.fnBox fn
  let room := if (s.func fn).busMaster then 16 - b.outbound.length else 0
  let now := b.held.take room
  let s := s.setFnBox fn { b with outbound := b.outbound ++ now, held := b.held.drop room }
  if now.any (fun w => w.last) then s.msi fn 0 else s

/-- The rotating order of an inter-agent mailbox after `n` more words: one position if SENDER_B equals SENDER_A (R122). -/
def AgentMailbox.rotate (b : AgentMailbox) (n : Nat) : Bool := b.senderA != b.senderB && (b.nextIsB ^^ decide (n % 2 = 1))

/-- Words that arrive in a mailbox whose receiver is a thread raise that thread's event input (R128). -/
def State.wakeReceiver (s : State) (n : Nat) : State :=
  let b := s.agentBox n
  if isThreadId b.receiver then s.raiseInput (threadOfId b.receiver) b.event 4 0 else s

/-- Held reply words of an inter-agent mailbox move into it while it has room (R129). -/
def State.fillAgent (s : State) (n : Nat) : State :=
  let b := s.agentBox n
  let now := b.held.take (16 - b.queue.length)
  let s := s.setAgentBox n
    { b with queue := b.queue ++ now, held := b.held.drop now.length, nextIsB := b.rotate now.length }
  if now.isEmpty then s else s.wakeReceiver n

/-- The reply mailbox of a sender on a die (R129): the lowest-numbered enabled one. -/
def State.replyMailbox (s : State) (die sender : Nat) : Option Nat :=
  (List.range 256).find? (fun n =>
    let b := s.agentBox (die * 256 + n)
    b.enable && b.receiver == sender && (b.senderA == fwId die || b.senderB == fwId die))

/-- A Stollek chain frame (Table 02.5). SYNC, LEN and FCS go low byte first, an order Table 02.5 leaves open (log 104). -/
def chainFrame (dest src type seq : Nat) (payload : List Byte) : List Byte :=
  let body := toLe 1 dest ++ toLe 1 src ++ toLe 1 type ++ toLe 1 seq ++ toLe 2 payload.length ++ payload
  toLe 2 0x5AA5 ++ body ++ toLe 4 (crc32 body)

/-- A REPLY frame to the chain head (R67). -/
def State.chainReply (s : State) (seq : Nat) (payload : List Byte) : State :=
  let src := if s.chain.address = 0 then 0xFF else s.chain.address
  s.emit (.chain (chainFrame 0 src 0x11 seq payload))

/-- Fragment `n` of a chain reply: byte 0 holds MORE and the index (R69). -/
def replyFragment (bs : List Byte) (n : Nat) : List Byte :=
  let more := decide (1023 * (n + 1) < bs.length)
  BitVec.ofNat 8 (n + 128 * b2n more) :: (bs.drop (1023 * n)).take 1023

/-- A reply sent over the chain: fragment 0 goes out, and the reply is held until its last fragment has been fetched (R69). -/
def State.sendChainReply (s : State) (seq : Nat) (bs : List Byte) : State :=
  let s := { s with chain := { s.chain with held := some bs } }
  s.chainReply seq (replyFragment bs 0)

/-- Held completions of an NVMe completion queue are written while it has room and the function can issue, each with its
interrupt; PHASE alternates at each wrap (R439, R455). -/
def State.nvmeDrain (s : State) (fn cq : Nat) : Nat → State
  | 0 => s
  | n + 1 =>
    match Tbl.find (s.nvme fn).cqs cq with
    | none => s
    | some c =>
      match c.held with
      | [] => s
      | (dw0, head, sq, cid, status) :: rest =>
        let next := if c.size ≤ c.tail + 1 then 0 else c.tail + 1
        if next = c.head ∨ s.canIssue fn = false ∨ (s.func fn).mig ≠ .running then s
        else
          let bs := toLe 4 dw0 ++ toLe 4 0 ++ toLe 2 head ++ toLe 2 sq ++ toLe 2 cid ++ toLe 2 (b2n c.phase + 2 * status)
          let c' := { c with tail := next, phase := if next = 0 then !c.phase else c.phase, held := rest }
          let s := s.queueWrite fn cq (c.base + 16 * c.tail) bs
          let s := s.modNvme fn (fun v => { v with cqs := Tbl.set v.cqs cq c' })
          let s := if c.intEnable && !bit (s.nvme fn).intms c.peer then s.msi fn c.peer else s
          s.nvmeDrain fn cq n

/-- Every completion queue of a function drained. -/
def State.nvmeDrainAll (s : State) (fn : Nat) : State :=
  (s.nvme fn).cqs.foldl (fun s (k, c) => s.nvmeDrain fn k c.held.length) s

/-- An NVMe completion takes a holding slot of its completion queue and is written when it can be. Status holds SC in [7:0],
SCT in [10:8] and DNR in bit 14. -/
def State.nvmePost (s : State) (fn sq cid dw0 status : Nat) : State :=
  let v := s.nvme fn
  let q := Tbl.find v.sqs sq
  let cqn := (q.map (fun q => q.peer)).getD 0
  match Tbl.find v.cqs cqn with
  | none => s
  | some c =>
    let head := (q.map (fun q => q.head)).getD 0
    let c' := { c with held := c.held ++ [(dw0, head, sq, cid, status)] }
    (s.setNvme fn { v with cqs := Tbl.set v.cqs cqn c' }).nvmeDrain fn cqn c'.held.length

/-- The die a packet came to, none for the chain. -/
def Route.die : Route → Option Nat
  | .queue l _ => some l
  | .mailbox fn => some (mDie fn)
  | .agent die _ => some die
  | .admin fn _ => some (mDie fn)
  | .chain _ => none
  | .dropped => none

/-- A finished reply sent by the route its command took (R139); a die out of service takes none. -/
def State.sendReply (s : State) (p : Packet) (r : Reply) : State :=
  if p.route.die.any (fun d => !s.dieWorks d) then s
  else match p.route with
  | .queue l i =>
    s.modCmdq l (fun q => { q with replies := q.replies.map (fun (k, x, irq) => if k = i then (k, some r, irq) else (k, x, irq)) })
  | .mailbox fn =>
    (s.modFnBox fn (fun b => { b with held := b.held ++ r.mailboxWords (fwId (mDie fn)) })).fillOutbound fn
  | .agent die _ =>
    match s.replyMailbox die p.sender with
    | none => s
    | some n =>
      (s.modAgentBox (die * 256 + n) (fun b => { b with held := b.held ++ r.mailboxWords (fwId die) })).fillAgent
        (die * 256 + n)
  | .admin fn cid =>
    let s := s.modNvme fn (fun v =>
      { v with replies := (v.replies ++ [(r.sequence, r.bytes)]).drop ((v.replies.length + 1) - 16) })
    s.nvmePost fn 0 cid (r.status + r.flags * 2 ^ 8 + r.result.length * 2 ^ 16) 0
  | .chain seq => if seq < 2 ^ 16 then s.sendChainReply seq r.bytes else s
  | .dropped => s

/-- Replies that wait for a confirming read are released once the mirror is no longer ACTIVE: SUSPENDED marks them
(R155, R156). -/
def State.releaseWaiting (s : State) : State :=
  if s.journal.mirror = .active then s
  else
    let ws := s.journal.waiting
    let lag := decide (s.journal.mirror = .suspended)
    let s := { s with journal := { s.journal with waiting := [] } }
    ws.foldl (fun s (p, r) => s.sendReply p (if lag then { r with flags := r.flags + flagLagging } else r)) s

/-- The mirror follows what has become of its function, and replies it held go out when it is suspended (R156). -/
def State.mirrorCheck (s : State) : State := s.mirrorStep.releaseWaiting

/-- A reply released: MIRROR_LAGGING is set while the mirror is SUSPENDED, and a synchronous mirror holds the reply to
a command until the confirming read of its entry (R155, R156). -/
def State.deliver (s : State) (p : Packet) (r : Reply) : State :=
  let s := s.releaseWaiting
  let j := s.journal
  let r := if j.mirror = .suspended then { r with flags := r.flags + flagLagging } else r
  if j.mirror = .active ∧ r.jsn ∈ j.unconfirmed then
    { s with journal := { j with waiting := j.waiting ++ [(p, r)] } }
  else s.sendReply p r

/-- The reply to a packet with given outcome. -/
def Packet.reply (p : Packet) (status flags jsn tempo : Nat) (result : List Byte) : Reply :=
  { status := status, flags := flags, result := result, sequence := p.sequence, jsn := jsn, token := p.token,
    opcode := p.opcode, txn := p.txn, tempo := tempo }

/-! ## Statuses (Table 04.6) -/

def stOk : Nat := 0x00
def stStaged : Nat := 0x01
def stBusy : Nat := 0x02
def stBadOpcode : Nat := 0x10
def stBadParam : Nat := 0x11
def stNoResource : Nat := 0x12
def stNotPermitted : Nat := 0x13
def stConflict : Nat := 0x14
def stTxnAborted : Nat := 0x15
def stNeedsEndorsement : Nat := 0x16
def stExpired : Nat := 0x17
def stNotFound : Nat := 0x18
def stExists : Nat := 0x19
def stWrongState : Nat := 0x1A
def stDeviceFault : Nat := 0x20

/-- A die a command names: BAD_PARAM if the part lacks it, WRONG_STATE if it is out of service (R653), BUSY_RETRY while
its management pair restarts (R589). -/
def State.dieStatus (s : State) (d : Nat) : Option Nat :=
  if s.dieCount ≤ d then some stBadParam
  else if bit s.roles.failed d then some stWrongState
  else if (s.dieHealth d).pairRestarting then some stBusy
  else none

/-- A DIES field: 0 names every working die (R653). -/
def State.diesStatus (s : State) (mask : Nat) : Option Nat :=
  if (maskBits mask 8).any (fun d => decide (s.dieCount ≤ d)) then some stBadParam
  else (maskBits mask 8).foldl (fun a d => a.orElse (fun _ => s.dieStatus d)) none

/-- The dies a DIES field names. -/
def State.namedDies (s : State) (mask : Nat) : List Nat :=
  if mask = 0 then s.workingDies else (maskBits mask 8).filter s.dieWorks

/-- The header of an image from its 8,192 bytes (Table 02.2). -/
def headerOf (h : List Byte) : ImageHeader :=
  { magic := leAt h 0 4, headerLen := leAt h 4 4, imageLen := leAt h 8 4, flags := leAt h 12 4,
    generation := leAt h 16 8, svn := leAt h 24 2, keyIndex := leAt h 26 2,
    reservedZero := leAt h 28 4 == 0 && allZero (sub h 0x1F73 0x8D), bodyDigest := leAt h 32 32,
    modulus := sub h 0x40 384, pqKey := sub h 0x340 2592 }

/-- A header's form as Table 02.2 requires (R53, R54). -/
def ImageHeader.formed (h : ImageHeader) : Bool :=
  h.magic == 0x31414C54 && h.headerLen == 0x2000 && decide (1 ≤ h.imageLen) && decide (h.imageLen ≤ 16777216)
    && decide (h.flags < 2) && h.reservedZero && decide (h.keyIndex < 4)

/-- The keys and security version of a header are ones the fuses accept (R54, Table 02.3): the root key hash matches and is not
revoked, a Volbor test key serves only in MANUFACTURE, and post-quantum keys are as the policy asks. -/
def Fuses.accepts (f : Fuses) (h : ImageHeader) (rsa pqv : Bool) : Bool :=
  let pq := bit h.flags 0
  decide (f.rootHashes.getD h.keyIndex 0 = le (sha256 h.modulus)) && !bit f.rootRevoked h.keyIndex
    && (decide (f.lifecycle = .manufacture) || !bit f.testKeys h.keyIndex) && rsa && decide (f.minSvn ≤ h.svn)
    && (!pq || (decide (f.pqHashes.getD h.keyIndex 0 = le (sha256 h.pqKey)) && pqv)) && (!f.requirePq || pq)

/-- An image is valid (R54): its body hashes to BODY_DIGEST, and its signatures were found to verify or not. -/
def imageValid (f : Fuses) (h : ImageHeader) (bodySha : Nat) (rsa pqv : Bool) : Bool :=
  h.formed && decide (bodySha = h.bodyDigest) && f.accepts h rsa pqv

/-- A 384-bit key by NIST SP 800-108 with HMAC-SHA-384: one block of its counter mode, since the spec names no mode (log 105). -/
def deriveKey (secret : Nat) (label context : List Byte) : BitVec 384 :=
  Config.hmacSha384 (toBe 32 secret) (toBe 4 1 ++ label ++ [0] ++ context ++ toBe 4 384)

/-- "TLA-IDENTITY" (R60). -/
def identityLabel : List Byte := [0x54, 0x4C, 0x41, 0x2D, 0x49, 0x44, 0x45, 0x4E, 0x54, 0x49, 0x54, 0x59]

/-- The device identity key, fixed for the life of the package (R60). -/
def identityKeyOf (f : Fuses) : BitVec 384 := deriveKey f.deviceSecret identityLabel []

/-- The alias key of an image header: another header gives another key (R61). -/
def aliasKeyOf (f : Fuses) (headerSha : Nat) : BitVec 384 := deriveKey f.deviceSecret [] (toLe 32 headerSha)

end Sys2Proof.Machine
end

