-- ==== Sys2Proof/Machine/PortLink.lean ====
section
/-! DEFINITION. A port's link and its line: safe points of staged settings, a link going down, the preemptable frame in
progress, and the counters that these move (spec/06 R189, R190, R199–R202, R211, R212, R214). -/

namespace Sys2Proof.Machine

/-- A counter of a port raised (Table 06.9). -/
def State.portStat (s : State) (port off n : Nat) : State :=
  s.modPort port (fun p => { p with stats := Tbl.put 0 p.stats off ((Tbl.look 0 p.stats off + n) % 2 ^ 64) })

/-! ## Safe points -/

/-- Preemption is active on a port (R200). -/
def Port.preemptActive (p : Port) : Bool :=
  let c := p.preempt.inEffect
  c.enable && (c.verifyDisable || decide (p.verify = .succeeded))

/-- Where verification stands under new preemption settings (R200): it starts afresh when it becomes wanted. -/
def Port.verifyFor (p : Port) (c : PreemptCfg) : Verify :=
  if !c.enable || c.verifyDisable then .disabled else if p.verify = .disabled then .initial else p.verify

/-- Classes whose received pause the flow-control settings honour (R207). -/
def PfcCfg.honoured (c : PfcCfg) : Nat :=
  if c.mode = 2 then c.rxHonor else if c.mode = 1 ∧ c.rxHonor ≠ 0 then 0xFF else 0

/-- The fields of PORT_CFG that PORT_SET_LANES writes, moved from one value to another (Table 06.4). -/
def PortCfg.withMac (c m : PortCfg) : PortCfg := { c with maxFrame := m.maxFrame, udp6ZeroOk := m.udp6ZeroOk }

/-- Staged transmit fields take effect at the start of the next frame sent, and with them the fields that their command
staged beside them (R199, R204); a class that ceases to be honoured is released (R210). PFC_CFG counts as transmit, TC_MODE
too (DEDUCED, log 116). -/
def Port.txSafe (p : Port) : Port :=
  { p with preempt := Staged.both p.preempt.written, pfc := Staged.both p.pfc.written,
           cfg := if p.macTx then { p.cfg with inEffect := p.cfg.inEffect.withMac p.cfg.written } else p.cfg, macTx := false,
           ptp := { p.ptp with inEffect := { p.ptp.inEffect with txAdj := p.ptp.written.txAdj, tcMode := p.ptp.written.tcMode } },
           verify := p.verifyFor p.preempt.written, paused := p.paused &&& p.pfc.written.honoured }

/-- Staged receive fields take effect at the start of the next frame received (R199). -/
def Port.rxSafe (p : Port) : Port :=
  { p with cfg := { p.cfg with inEffect := if p.macTx then p.cfg.written.withMac p.cfg.inEffect else p.cfg.written },
           filter := Staged.both p.filter.written, admitLimit := p.admitLimitWritten,
           ptp := { p.ptp with inEffect := { p.ptp.inEffect with rxAdj := p.ptp.written.rxAdj, peerDelay := p.ptp.written.peerDelay } } }

/-- While the link is down, staged values take effect at once (R199). -/
def Port.settle (p : Port) : Port := if p.phase = .up then p else p.txSafe.rxSafe

/-- What judges a frame that begins now (R199). -/
def Port.rules (p : Port) : RxRules := { cfg := p.cfg.inEffect, filter := p.filter.inEffect }

/-! ## The line -/

/-- Size bin of a frame length (Table 06.9), 0–8. -/
def sizeBin (n : Nat) : Nat :=
  if n ≤ 64 then 0 else if n ≤ 127 then 1 else if n ≤ 255 then 2 else if n ≤ 511 then 3 else if n ≤ 1023 then 4
  else if n ≤ 1518 then 5 else if n ≤ 2047 then 6 else if n ≤ 4095 then 7 else 8

/-- Counter offset of a destination address kind from the unicast one: group, broadcast. -/
def castOff (f : List Byte) : Nat :=
  if beAt f 0 6 = 0xFFFFFFFFFFFF then 16 else if bit (beAt f 0 1) 0 then 8 else 0

/-- Statistics of a frame sent, held without its FCS (R214). `cast` is its counter offset by destination kind. -/
def State.countSent (s : State) (port len cast : Nat) : State :=
  (((s.portStat port 0x100 len).portStat port 0x108 1).portStat port (0x110 + cast) 1).portStat port (0x170 + 8 * sizeBin len) 1

/-- The mPacket that carries a frame in progress up to byte `n` (R201). -/
def PartialTx.piece (q : PartialTx) (n : Nat) : Fragment × List Byte :=
  let last := decide (q.bytes.length ≤ n)
  (if q.sent = 0 then .start q.frame last else .continue q.frame q.frag last, (q.bytes.drop q.sent).take (n - q.sent))

/-- The first point at or after byte `reached` at which R201 lets a frame in progress be preempted: both parts with their
mCRC or FCS are at least `least` bytes. -/
def PartialTx.point (q : PartialTx) (least reached : Nat) : Option Nat :=
  let n := max reached (q.sent + (least - 4))
  if n + (least - 4) ≤ q.bytes.length then some n else none

/-- The frame in progress is sent to its end (R201, R202). -/
def State.finishTx (s : State) (port : Nat) : State :=
  match (s.port port).partialTx with
  | none => s
  | some q =>
    let (part, bytes) := q.piece q.bytes.length
    ((s.modPort port (fun p => { p with partialTx := none })).countSent port (q.bytes.length + 4) (castOff q.bytes)).emit
      (.mPacket port part bytes)

/-- The frame in progress is preempted at the first point R201 allows; how far the line has brought it is a free value
(log 6). Left as it is where preemption is not active, where it stands preempted already, and where no point is left. -/
def State.preemptTx (s : State) (port : Nat) : State :=
  let p := s.port port
  match p.partialTx with
  | none => s
  | some q =>
    if q.cut || !p.preemptActive then s
    else
      let (r, s) := s.draw 16
      match q.point (64 * (1 + p.preempt.inEffect.addFrag)) (q.sent + r % (q.bytes.length - q.sent + 1)) with
      | none => s
      | some n =>
        let (part, bytes) := q.piece n
        let q : PartialTx := { q with sent := n, frag := if q.sent = 0 then 0 else (q.frag + 1) % 4, cut := true }
        ((s.modPort port (fun p => { p with partialTx := some q })).portStat port 0x200 1).emit (.mPacket port part bytes)

/-- The line is clear for another frame: an express frame preempts the one in progress or waits for its end, a preemptable
one follows its end (R201, R202). -/
def State.clearLine (s : State) (port : Nat) (express : Bool) : State :=
  let s := if express then s.preemptTx port else s
  match (s.port port).partialTx with
  | some q => if express && q.cut then s else s.finishTx port
  | none => s

/-! ## The link -/

/-- A port starts over: auto-negotiation, or training at its forced speed (R187, R188). A forced port never spares (R193), and
no link is current on which sparing could be available. -/
def Port.retrain (p : Port) : Port :=
  let fec := if p.forcedSpeed ≤ 2 then (if p.fecChoice = 0 then p.forcedSpeed else p.fecChoice - 1) else 3
  let p : Port := { p with anDone := false, sparingAvailable := false }
  if p.anForced then { p with phase := .training, speed := p.forcedSpeed, fec := fec, retireLane := none }
  else { p with phase := .negotiating, speed := 0 }

/-- SYNCE_CLK_OUT is squelched, or runs again, with its source port (R212). -/
def pinSynceOut : Nat := 1

def State.squelch (s : State) (port : Nat) (level : Bool) : State :=
  let y := s.synce
  if y.outEnable && y.squelch && y.sourcePort == port then s.emit (.pin pinSynceOut level) else s

/-- What a link that goes down leaves of a port (R189, R190, R199, R211). -/
def Port.down (p : Port) (refLost : Bool) : Port :=
  let p : Port := { p.retrain with paused := 0, tripped := 0, txSynce := p.wantSynce && !refLost, partialRx := none }
  let p : Port := { p with partialTx := none, lastWhole := none }
  let wanted := p.preempt.inEffect.enable && !p.preempt.inEffect.verifyDisable
  ({ p with verify := if wanted then .initial else .disabled, verifyTries := 0 } : Port).settle

/-- A port's link goes down and starts over (R189, R190). -/
def State.portDown (s : State) (port : Nat) : State :=
  let up := decide ((s.port port).phase = .up)
  let s := if up then s.portStat port 0x350 1 else s
  let s := s.modPort port (fun p => p.down s.synce.refLost)
  if up then s.squelch port false else s

end Sys2Proof.Machine
end

