-- ==== Sys2Proof/Machine/CellOps.lean ====
section
/-! DEFINITION. Packet-buffer cells of a die and admission to P1 (spec/07 R218–R221, spec/10 R349–R350). -/

namespace Sys2Proof.Machine

/-- Cells a packet of `n` bytes takes: cells are 256 bytes, and a packet takes at least one (R219, R507). -/
def cellsFor (n : Nat) : Nat := max 1 (ceilDiv n 256)

/-- Dimensions of the fabric of a part (Table 01.1): 3, 2 or 1. -/
def Part.dims : Part → Nat
  | .tla8064 => 3
  | .tla4032 => 2
  | .tla2016 => 1

/-- A Dunyth link is in service: both ends work and neither holds it out of service (R26). -/
def State.dunythUp (s : State) (d dim : Nat) : Bool :=
  decide (dim < s.boot.part.dims) && s.dieWorks d && s.dieWorks (d ^^^ 2 ^ dim) && !bit (s.dieHealth d).linkDown dim
    && !bit (s.dieHealth (d ^^^ 2 ^ dim)).linkDown dim

/-- Unused part of the fabric reserve (R350). -/
def State.fabricReserve (s : State) (d : Nat) : Nat :=
  512 * ((List.range 3).filter (s.dunythUp d)).length - (s.tm d).fabricUsed

/-- A class record of a die. -/
def Tm.cls (t : Tm) (c : Nat) : TmClass := Tbl.look TmClass.reset t.classes c

/-- A port sends pauses for a class, so headroom is reserved for it (R350, R354). -/
def State.portPauses (s : State) (p c : Nat) : Bool :=
  let q := (s.port p).pfc.inEffect
  decide (q.mode = 2) && bit q.txAllow c

/-- Headroom reserved at a port for a class and not in use (R350). -/
def State.headroomLeft (s : State) (p c : Nat) : Nat :=
  let t := s.tm (p / 8)
  if (t.cls c).lossless && s.portPauses p c then (t.cls c).headroom - Tbl.look 0 t.headroomUsed (p % 8 * 8 + c) else 0

/-- SHARED_FREE of a die (R350). -/
def State.sharedFree (s : State) (d : Nat) : Nat :=
  let ports := (List.range 8).filter (fun i => (s.port (8 * d + i)).present)
  let head := ports.foldl (fun a i => a + ((List.range 8).map (fun c => s.headroomLeft (8 * d + i) c)).sum) 0
  (s.tm d).free - (s.fabricReserve d + head)

/-- Cells taken from FREE into PIPELINE. -/
def State.takeCells (s : State) (d n : Nat) : State :=
  s.modTm d (fun t => { t with free := t.free - n, pipeline := t.pipeline + min n t.free })

/-- Cells in PIPELINE freed. -/
def State.freeCells (s : State) (d n : Nat) : State :=
  s.modTm d (fun t => { t with free := t.free + min n t.pipeline, pipeline := t.pipeline - n })

/-- Cells moved from PIPELINE to QUEUED, from QUEUED to FREE, from QUEUED to TRANSIT, and from TRANSIT to FREE. -/
def State.queueCells (s : State) (d n : Nat) : State :=
  s.modTm d (fun t => { t with pipeline := t.pipeline - n, queued := t.queued + min n t.pipeline })
def State.unqueueCells (s : State) (d n : Nat) : State :=
  s.modTm d (fun t => { t with queued := t.queued - n, free := t.free + min n t.queued })
def State.transitCells (s : State) (d n : Nat) : State :=
  s.modTm d (fun t => { t with queued := t.queued - n, transit := t.transit + min n t.queued })
def State.arriveCells (s : State) (d n : Nat) : State :=
  s.modTm d (fun t => { t with transit := t.transit - n, free := t.free + min n t.transit })

/-! ## Pauses and ingress counts (R207–R209, R353) -/

/-- A counter of a traffic manager raised (Table 10.9). -/
def State.tmStat (s : State) (die off : Nat) : State :=
  s.modTm die (fun t => { t with counters := Tbl.put 0 t.counters off ((Tbl.look 0 t.counters off + 1) % 2 ^ 64) })

/-- A pause frame for a class, with quanta 0xFFFF or 0, if the port is up and may pause the class (R209). It is a frame of 64
bytes for a group address that the express MAC sends, so staged transmit fields take effect at its start, and a preemptable frame
in progress gives way (R199, R202). -/
def State.sendPause (s : State) (port c : Nat) (on : Bool) : State :=
  let f := (s.port port).txSafe.pfc.inEffect
  if (s.port port).phase = .up ∧ bit f.txAllow c ∧ (f.mode = 1 ∨ f.mode = 2) then
    let s := ((s.clearLine port true).modPort port Port.txSafe).countSent port 64 8
    let q := if on then 0xFFFF else 0
    if f.mode = 2 then (s.portStat port (0x130 + 8 * c) 1).emit (.pause port (2 ^ c) q)
    else (s.portStat port 0x128 1).emit (.pause port 0x100 q)
  else s

/-- The traffic manager's request to pause a class of a port begins or ends (R209, R353). -/
def State.pauseRequest (s : State) (port c : Nat) (on : Bool) : State :=
  let p := s.port port
  if bit p.pauseReq c = on then s
  else (s.setPort port { p with pauseReq := setBit p.pauseReq c on }).sendPause port c on

/-- Key of a channel of a direction of a Dunyth link: 0 request, 1 response, 2 packet, 3 management. -/
def laneKey (die dim chan : Nat) (detour : Bool) : Nat := ((die * 3 + dim) * 4 + chan) * 2 + b2n detour

/-- The dimension-order route from die `d` to die `t` crosses only links in service, in at most `n` hops (R21). -/
def State.routeClear (s : State) (t : Nat) : Nat → Nat → Bool
  | 0, d => d == t
  | n + 1, d =>
    match (List.range 3).find? (fun k => bit (d ^^^ t) k) with
    | none => true
    | some k => s.dunythUp d k && s.routeClear t n (d ^^^ 2 ^ k)

/-- The hop a flit for die `t` takes at die `d`: its dimension, and whether it is the detour hop (R21, R26). Past its detour hop
it takes no other. The rules of the two dimensions of R26 would lead it straight back for some links, where R27 has it arrive:
there it crosses the lowest differing dimension from which the dimension-order route is whole (log 100). -/
def State.nextHop (s : State) (d t : Nat) (detoured : Bool) : Option (Nat × Bool) :=
  let differ := (List.range 3).filter (fun k => bit (d ^^^ t) k)
  match differ with
  | [] => none
  | k :: _ =>
    if detoured then
      match differ.find? (fun k => s.dunythUp d k && s.routeClear t 3 (d ^^^ 2 ^ k)) with
      | some k => some (k, false)
      | none => if s.dunythUp d k then some (k, false) else none
    else if s.dunythUp d k then some (k, false)
    else
      match differ.find? (s.dunythUp d) with
      | some k => some (k, true)
      | none => ((List.range 3).find? (s.dunythUp d)).map (fun k => (k, true))

/-- Bytes of a message of the management channel, whose length the spec does not give (log 101). -/
def messageBytes : Nat := 16

/-- A message put at the link of its first hop (R21). -/
def State.sendFabric (s : State) (src dst chan bytes : Nat) (l : FlitLoad) : State :=
  match s.nextHop src dst false with
  | none => s
  | some (k, det) =>
    ({ s with nextMsg := s.nextMsg + 1 } : State).modLaneOf (laneKey src k chan false) (fun x =>
      { x with sendQ := x.sendQ ++ [{ msg := s.nextMsg, src := src, dst := dst, detoured := det, bytes := bytes, load := some l }] })

/-- Message kinds of the management channel: a fabric pause or release of a class (value 2 × class + pause). -/
def msgFabricPause : Nat := 0

/-- The fabric pause of a class at a source die begins or ends (R353). -/
def State.fabricPauseTo (s : State) (die src c : Nat) (on : Bool) : State :=
  let t := s.tm die
  let now := Tbl.look 0 t.pausingSource src
  if bit now c = on then s
  else
    let s := s.setTm die { t with pausingSource := Tbl.put 0 t.pausingSource src (setBit now c on) }
    let s := if on then s.tmStat die 0x38 else s
    s.sendFabric die src 3 messageBytes (.message msgFabricPause (2 * c + b2n on))

/-- The pause state of an ingress count brought up to date: XOFF reached, or fallen to XON (R353). -/
def State.pauseCheck (s : State) (die key : Nat) : State :=
  let t := s.tm die
  let c := key % 8
  let n := Tbl.look 0 t.ing key
  let r := t.cls c
  let on := r.lossless && decide (r.xoff ≤ n)
  let off := !r.lossless || decide (n ≤ r.xon)
  let go := fun (b : Bool) =>
    if key < 64 then s.pauseRequest (8 * die + key / 8) c b else s.fabricPauseTo die ((key - 64) / 8) c b
  if on then go true else if off then go false else s

/-- Cells counted in, or out of, an ingress count. Cells that come back return headroom, or the fabric reserve, first
(log 20). -/
def State.ingAdd (s : State) (die : Nat) (key : Option Nat) (n : Nat) : State :=
  match key with
  | none => s
  | some k => (s.modTm die (fun t => { t with ing := Tbl.bump t.ing k n })).pauseCheck die k

def State.ingSub (s : State) (die : Nat) (key : Option Nat) (n : Nat) : State :=
  match key with
  | none => s
  | some k =>
    let s := s.modTm die (fun t =>
      { t with ing := Tbl.put 0 t.ing k (Tbl.look 0 t.ing k - n),
               headroomUsed := if k < 64 then Tbl.put 0 t.headroomUsed k (Tbl.look 0 t.headroomUsed k - n) else t.headroomUsed,
               fabricUsed := if k < 64 then t.fabricUsed else t.fabricUsed - n })
    s.pauseCheck die k

/-- The ingress count of a packet of the traffic manager on a die. -/
def TmPkt.ingKey (p : TmPkt) : Option Nat :=
  match p.fromDie, p.fromPort with
  | some d, _ => some (64 + 8 * d + p.ingressClass)
  | none, some q => some (q % 8 * 8 + p.ingressClass)
  | none, none => none

/-- Cells a packet takes. -/
def TmPkt.cells (p : TmPkt) : Nat := cellsFor p.bytes.length

/-- A packet's cells, in PIPELINE, are freed. -/
def State.freePacket (s : State) (die n : Nat) (ing : Option Nat) : State := (s.freeCells die n).ingSub die ing n
def State.freeTm (s : State) (die : Nat) (p : TmPkt) : State := s.freePacket die p.cells p.ingKey

/-- Cells found for a packet that arrives in class `c`: shared free cells first, then, for a lossless class, the headroom
of its port or the fabric reserve (R350, R353). The cells pass into PIPELINE; none are found if false. -/
def State.findCells (s : State) (die key n : Nat) : State × Bool :=
  let t := s.tm die
  let c := key % 8
  let shared := s.sharedFree die
  let lack := n - shared
  if lack = 0 then ((s.takeCells die n).ingAdd die (some key) n, true)
  else if key < 64 then
    if (t.cls c).lossless && decide (lack ≤ s.headroomLeft (8 * die + key / 8) c) then
      let s := s.modTm die (fun t => { t with headroomUsed := Tbl.bump t.headroomUsed key lack })
      ((s.takeCells die n).ingAdd die (some key) n, true)
    else (s, false)
  else if lack ≤ s.fabricReserve die then
    let s := s.modTm die (fun t => { t with fabricUsed := t.fabricUsed + lack })
    ((s.takeCells die n).ingAdd die (some key) n, true)
  else (s, false)

/-! ## P1's admission and drops -/

/-- Hold places of a pipeline in use (R221). -/
def State.holdUsed (s : State) (d pipe : Nat) : Nat :=
  (s.flight.filter (fun (_, p) => p.die == d && p.pipe == pipe
    && (decide (p.phase = .hold) || decide (p.phase = .flowWait)))).length

/-- P1 can admit a packet (R220, R221). -/
def State.p1Admits (s : State) (d : Nat) : Bool := decide (s.holdUsed d 1 < 4096)

/-- A packet offered to P1 by a host queue, a thread, a sequencer or a reinjection: it waits at P1's admission. -/
def State.offerP1 (s : State) (d : Nat) (f : P1Frame) : State :=
  s.modPipe d (fun p => { p with p1Queue := p.p1Queue ++ [f] })

/-! ## Requests to write a table from the data plane (R256, R258) -/

/-- A counter of a pipeline raised (Table 07.17). -/
def Pipe.count (p : Pipe) (pipe off : Nat) : Pipe :=
  if pipe = 0 then { p with counters0 := Tbl.put 0 p.counters0 off ((Tbl.look 0 p.counters0 off + 1) % 2 ^ 64) }
  else { p with counters1 := Tbl.put 0 p.counters1 off ((Tbl.look 0 p.counters1 off + 1) % 2 ^ 64) }

/-- A thread stalls on a request that finds its queue full. -/
def State.stallThread (s : State) (t : Nat) : State :=
  s.modThread t (fun th => { th with state := .blocked, wait := .externalStall })

/-- A request for the learn queue of 64 (R258): with the queue full that of an action program is discarded and counted in
LEARN_DROP, and a thread stalls. `who` is the thread, none for a program. -/
def State.askLearn (s : State) (die : Nat) (who : Option Nat) (r : LearnReq) : State :=
  if (s.pipe die).learn.length < 64 then s.modPipe die (fun p => { p with learn := p.learn ++ [r] })
  else match who with
    | none => s.modPipe die (fun p => p.count r.pipe 0x70)
    | some t => (s.modPipe die (fun p => { p with learnStalled := p.learnStalled ++ [(t, r)] })).stallThread t

/-- A request for the queue of 16 data-plane TCAM writes (R256): as for the learn queue, with TCAM_DP_DROP. -/
def State.askTcam (s : State) (die : Nat) (who : Option Nat) (r : LearnReq) : State :=
  if (s.pipe die).tcamWrites.length < 16 then s.modPipe die (fun p => { p with tcamWrites := p.tcamWrites ++ [r] })
  else match who with
    | none => s.modPipe die (fun p => p.count r.pipe 0x60)
    | some t => (s.modPipe die (fun p => { p with tcamStalled := p.tcamStalled ++ [(t, r)] })).stallThread t

/-- The first request whose thread still stalls, and the requests after it: one whose thread was stopped, killed or restarted
meanwhile is not performed (R528). -/
def State.firstStalled (s : State) : List (Nat × LearnReq) → Option (Nat × LearnReq) × List (Nat × LearnReq)
  | [] => (none, [])
  | (t, r) :: rest =>
    let th := s.thread t
    if th.state = .blocked ∧ th.wait = .externalStall then (some (t, r), rest) else s.firstStalled rest

/-- A stalled thread goes on: its request has a place. -/
def State.unstall (s : State) (t : Nat) : State :=
  s.modThread t (fun th => { th with state := .running, wait := .none })

/-- The learn queue has a place: the first stalled thread takes it. -/
def State.learnRoom (s : State) (die : Nat) : State :=
  match s.firstStalled (s.pipe die).learnStalled with
  | (none, rest) => s.modPipe die (fun p => { p with learnStalled := rest })
  | (some (t, r), rest) => (s.modPipe die (fun p => { p with learn := p.learn ++ [r], learnStalled := rest })).unstall t

/-- The queue of TCAM writes has a place. -/
def State.tcamRoom (s : State) (die : Nat) : State :=
  match s.firstStalled (s.pipe die).tcamStalled with
  | (none, rest) => s.modPipe die (fun p => { p with tcamStalled := rest })
  | (some (t, r), rest) => (s.modPipe die (fun p => { p with tcamWrites := p.tcamWrites ++ [r], tcamStalled := rest })).unstall t

/-- One packet dropped, counted in DROP_REASON of its code in the counter set of its pipeline (R305). -/
def State.countDrop (s : State) (d pipe code : Nat) : State :=
  s.modPipe d (fun p => if pipe = 0 then { p with drops0 := Tbl.bump p.drops0 code 1 }
    else { p with drops1 := Tbl.bump p.drops1 code 1 })

end Sys2Proof.Machine
end

