-- ==== Sys2Proof/Machine/Command.lean ====
section
/-! DEFINITION. How a command packet is decided: the opcode table, the framing check, BUSY_RETRY, the token check,
VALIDATE_ONLY, the journal entry and the reply (spec/04). -/

namespace Sys2Proof.Machine

/-- Issuer classes of R142, as bits of a mask. -/
def isM : Nat := 1
def isS : Nat := 2
def isV : Nat := 4
def isC : Nat := 8
def isT : Nat := 16

/-- A row of Table 04.7 with the transactional mark of Table 09.3. -/
structure OpRow where
  opcode : Nat
  journalled : Bool
  issuers : Nat
  txn : Bool
  deriving DecidableEq, Repr

/-- Device, function and queue opcodes (Table 04.7). -/
def opRowsA : List OpRow :=
  [⟨0x0001, false, 31, false⟩, ⟨0x0002, false, 31, false⟩, ⟨0x0003, true, 1, false⟩, ⟨0x0004, true, 1, false⟩,
   ⟨0x0005, true, 31, false⟩, ⟨0x0101, true, 1, false⟩, ⟨0x0102, true, 1, false⟩, ⟨0x0103, false, 7, false⟩,
   ⟨0x8101, true, 1, false⟩, ⟨0x8102, true, 1, false⟩, ⟨0x0201, true, 5, false⟩, ⟨0x0202, true, 5, false⟩,
   ⟨0x0203, false, 5, false⟩, ⟨0x8201, true, 1, true⟩]

/-- Port, table and traffic-manager opcodes. -/
def opRowsB : List OpRow :=
  [⟨0x0301, true, 9, false⟩, ⟨0x0302, false, 9, false⟩, ⟨0x8301, true, 9, false⟩, ⟨0x8302, true, 1, false⟩,
   ⟨0x0401, true, 1, true⟩, ⟨0x0402, true, 1, true⟩, ⟨0x0403, false, 1, false⟩, ⟨0x0404, true, 1, true⟩,
   ⟨0x8401, true, 1, true⟩, ⟨0x8402, true, 1, true⟩, ⟨0x8403, true, 1, true⟩, ⟨0x0501, true, 1, true⟩,
   ⟨0x0502, false, 1, false⟩, ⟨0x8501, true, 1, true⟩, ⟨0x8502, true, 1, true⟩, ⟨0x8503, true, 1, false⟩]

/-- Time, cipher, storage, thread and sequencer opcodes. -/
def opRowsC : List OpRow :=
  [⟨0x0601, false, 31, false⟩, ⟨0x0602, true, 9, false⟩, ⟨0x8601, true, 9, false⟩, ⟨0x8602, true, 1, false⟩,
   ⟨0x0701, true, 1, true⟩, ⟨0x0702, true, 1, true⟩, ⟨0x8701, true, 1, false⟩, ⟨0x0801, true, 3, false⟩,
   ⟨0x0802, true, 3, false⟩, ⟨0x8801, true, 1, false⟩, ⟨0x0901, true, 1, false⟩, ⟨0x0902, false, 17, false⟩,
   ⟨0x8901, true, 1, false⟩, ⟨0x0A01, false, 1, false⟩, ⟨0x8A01, true, 1, false⟩]

/-- Transaction, protection, error and migration opcodes. -/
def opRowsD : List OpRow :=
  [⟨0x0B01, true, 9, false⟩, ⟨0x0B02, true, 9, false⟩, ⟨0x0B03, true, 9, false⟩, ⟨0x0B04, false, 9, false⟩,
   ⟨0x0C01, true, 9, false⟩, ⟨0x0C02, true, 9, false⟩, ⟨0x0C03, false, 9, false⟩, ⟨0x0C04, true, 9, false⟩,
   ⟨0x0D01, true, 9, false⟩, ⟨0x0D02, true, 9, false⟩, ⟨0x0D03, false, 9, false⟩, ⟨0x8D01, true, 1, false⟩,
   ⟨0x0E01, true, 1, false⟩, ⟨0x0E02, true, 1, false⟩, ⟨0x0E03, true, 1, false⟩, ⟨0x0E04, true, 1, false⟩]

/-- Table 04.7. -/
def opTable : List OpRow := opRowsA ++ opRowsB ++ opRowsC ++ opRowsD

def opRow (opcode : Nat) : Option OpRow := opTable.find? (fun r => r.opcode == opcode)

/-- The issuer class of a sender (R142). -/
def issuerOf (m : Nat) : Nat :=
  if mClass m = 0 then
    if mIndex m = 0 then isM else if mIndex m = 2048 then isS else isV
  else if mClass m = 4 then isC
  else if mClass m = 1 ∨ mClass m = 2 then isT
  else 0

/-- May the class issue the opcode: expert opcodes are open only to M and C (R142). -/
def mayIssue (r : OpRow) (cls : Nat) : Bool :=
  decide (cls ≠ 0) && decide (r.issuers / cls % 2 = 1) && (decide (r.opcode < 0x8000) || cls == isM || cls == isC)

/-- The largest PARAM_LEN a route carries (R69, R124, R126, R132). -/
def State.routeLimit (s : State) : Route → Nat
  | .queue l _ => 2 ^ (s.cmdq l).slotShift - 32
  | .mailbox _ => 32
  | .agent _ _ => 32
  | .admin _ _ => 4064
  | .chain _ => 130912
  | .dropped => 130912

/-- The opcodes that carry in TXN a transaction they act on (R326). -/
def txnCarriers : List Nat := [0x0B02, 0x0B03, 0x0B04]

/-- The framing check of the receiving die (R137): the failing status, or none. A packet that carries a reserved class is malformed
(R12). Where several faults hold at once the spec names no order: the model looks at reserved bits, FLAGS and lengths first,
then at the opcode, then at who may issue it (log 109). -/
def State.framing (s : State) (p : Packet) : Option Nat :=
  if reservedClass p.sender then some stBadParam else
  match opRow p.opcode with
  | none => if p.reserved ≠ 0 ∨ 4 ≤ p.flags then some stBadParam else some stBadOpcode
  | some r =>
    if p.reserved ≠ 0 ∨ 4 ≤ p.flags ∨ p.paramLen % 4 ≠ 0 ∨ s.routeLimit p.route < p.paramLen
      ∨ p.params.length ≠ p.paramLen then some stBadParam
    else if p.txn ≠ 0 ∧ r.txn = false ∧ ¬ (p.opcode ∈ txnCarriers) then some stBadParam
    else if ¬ mayIssue r (issuerOf p.sender) then some stNotPermitted
    else if ¬ s.boot.cipher ∧ p.opcode / 256 % 128 = 7 then some stNotPermitted
    else none

/-- The mailbox of a VF that is not provisioned carries DEVICE_INFO and FUNC_QUERY only (R481). The lead answers every other
command, since R137 does not list this check (log 96). -/
def State.bare (s : State) (p : Packet) : Bool :=
  issuerOf p.sender == isV && !(s.func p.sender).provisioned && p.opcode != 0x0001 && p.opcode != 0x0103

/-- What deciding a command answers: the state after it, its status (none: the reply comes later) and its result data. -/
structure Answer where
  state : State
  status : Option Nat
  result : List Byte

/-- An answer with no effect. -/
def State.fails (s : State) (status : Nat) : Answer := { state := s, status := some status, result := [] }

/-- An OK answer. -/
def State.answers (s : State) (result : List Byte) : Answer :=
  { state := s, status := some stOk, result := result }

/-- The latest journal entry of the sender with the command's token (R148). -/
def State.tokenEntry (s : State) (p : Packet) : Option JEntry :=
  if p.token = 0 then none
  else s.journal.entries.reverse.find? (fun e => e.token == p.token && e.opcode != 0 && sameMaster e.master p.sender)

/-- The matching entry used for a replay: the latest whose opcode and digest match (R148). -/
def State.tokenMatch (s : State) (p : Packet) : Option JEntry :=
  s.journal.entries.reverse.find? (fun e => e.token == p.token && sameMaster e.master p.sender
    && e.opcode == p.opcode && e.digest == p.digest)

/-- Commands whose decision is under way: accepted timed commits and patches that await their reply, a single command in its phase
one, and those that wait at the lead (R141, R326, R331, R336). -/
def State.underway (s : State) : List Packet :=
  s.tempo.txns.filterMap (fun t => t.2.commitCmd) ++ s.patch.waiting.toList
    ++ (s.tempo.inProgress.bind (fun c => c.single.map (fun x => x.packet))).toList ++ s.journal.buffered

/-- A command with the same sender and token is being decided (R141). -/
def State.beingDecided (s : State) (p : Packet) : Bool :=
  decide (p.token ≠ 0) && s.underway.any (fun c => c.token == p.token && sameMaster c.sender p.sender)

/-- The lead's 2 MiB of command buffers can hold the packet beside the commands and replies that wait there (Table 01.2, R123,
R141): each takes its header and its parameters or result (log 102). -/
def State.bufferTakes (s : State) (p : Packet) : Bool :=
  let cmds : Nat := ((s.journal.buffered ++ [p]).map (fun c => 32 + c.paramLen)).sum
  let replies : Nat := (s.fnMbx.map (fun e => 4 * e.2.held.length)).sum + (s.agentMbx.map (fun e => 4 * e.2.held.length)).sum
  decide (cmds + replies ≤ 2 * 1024 * 1024)

/-- The lead is out of service and no die has taken the role yet (R597). -/
def State.leadGone (s : State) : Bool := bit s.roles.failed s.roles.lead

/-- The lead does not decide state-changing commands now (R141, R589, R598, R599, R176). -/
def State.leadBusy (s : State) : Bool :=
  !s.roles.filled || s.roles.unreachable || (s.dieHealth s.roles.lead).pairRestarting || s.roles.moveTo.isSome

/-- Finished replies that firmware holds for the sender of a packet, in mailbox messages (R123, R609): a message counts once,
by its END word. -/
def State.heldFor (s : State) (p : Packet) : Nat :=
  match p.route with
  | .mailbox fn => ((s.fnBox fn).held.filter (fun w => w.last)).length
  | .agent die _ =>
    match s.replyMailbox die p.sender with
    | some n => ((s.agentBox (die * 256 + n)).held.filter (fun w => w.last)).length
    | none => 0
  | _ => 0

/-- A packet is well framed as far as the lead is concerned: it decides only once READY and not DECOMMISSIONED
(R59, R77). -/
def State.decides (s : State) : Bool := s.ready && decide (s.boot.fuses.lifecycle ≠ .decommissioned)

/-- The packet with its chain frame answered (R67). -/
def Packet.answered (p : Packet) : Packet :=
  match p.route with
  | .chain seq => { p with route := .chain (seq % 2 ^ 16 + 2 ^ 16) }
  | _ => p

/-- A command decided on the lead (R37, R38, R138, R148, R149). `run` is the command's own effect; `post` is what
follows the record of a command that ended OK. -/
def State.decideWith (s : State) (p : Packet) (row : OpRow) (run : State → Answer) (post : State → State) : State :=
  if 16 ≤ s.heldFor p then s.deliver p (p.reply stBusy 0 0 0 [])
  else if row.journalled && (s.leadBusy || s.beingDecided p) then s.deliver p (p.reply stBusy 0 0 0 [])
  else if s.tempo.inProgress.isSome then
    if s.bufferTakes p then
      let s := { s with journal := { s.journal with buffered := s.journal.buffered ++ [p.answered] } }
      match p.route with
      | .chain _ => s.deliver p (p.reply stBusy 0 0 0 [])
      | _ => s
    else s.deliver p (p.reply stBusy 0 0 0 [])
  else if row.journalled = false then
    let a := run s
    match a.status with
    | none => a.state
    | some st => a.state.deliver p (p.reply st 0 0 0 a.result)
  else match s.tokenEntry p, s.tokenMatch p with
  | some _, some e => s.deliver p (p.reply e.status flagReplayed e.jsn 0 (toLe 4 e.resultWord))
  | some _, none => s.deliver p (p.reply stBadParam flagTokenClash 0 0 [])
  | none, _ =>
    let a := run s
    match a.status with
    | none => a.state
    | some st =>
      if bit p.flags 0 then s.deliver p (p.reply st 0 0 0 [])
      else if st = stBusy then a.state.deliver p (p.reply stBusy 0 0 0 [])
      else
        let jsn := a.state.journal.next
        let s' := a.state.recordCommand p st s.tempo.current a.result
        let s' := if st = stOk then post s' else s'
        s'.deliver p (p.reply st 0 jsn (if st = stOk then s'.tempo.current else 0) a.result)

/-- A command packet from its arrival on: the framing check of the receiving die, then the decision of the lead.
Nothing happens before READY, and in DECOMMISSIONED every PROPOSE of a host receives WRONG_STATE (R165). With no lead, a forwarded command is discarded, and one of the chain is answered BUSY_RETRY
(R597). -/
def State.submit (s : State) (p : Packet) (run : State → Answer) (post : State → State) : State :=
  if s.decides = false then
    if s.ready = true ∧ p.opcode = 0x0C01 ∧ mClass p.sender ≠ 4 then s.deliver p (p.reply stWrongState 0 0 0 []) else s
  else match s.framing p, opRow p.opcode with
  | some st, _ => s.deliver p (p.reply st 0 0 0 [])
  | none, none => s
  | none, some row =>
    if s.leadGone then
      match p.route with
      | .chain _ => s.deliver p (p.reply stBusy 0 0 0 [])
      | _ => s
    else s.decideWith p row (if s.bare p then fun s => s.fails stNotPermitted else run) post

/-- A command that is not transactional. -/
def runPlain (opcode : Nat) (p : Packet) (run : Packet → State → Answer) (s : State) :
    Host.Outcome State Fault Refusal :=
  let p := { p with opcode := opcode }
  .next (s.submit p (run p) (fun s => s))

end Sys2Proof.Machine
end

