-- ==== Sys2Proof/Machine/ErrorOps.lean ====
section
/-! DEFINITION. Error records, stopping the package, and the appointment of a mirror (spec/19, spec/01). -/

namespace Sys2Proof.Machine

/-- FLAGS of a record (Table 19.1). -/
def ErrRecord.flags (r : ErrRecord) : Nat :=
  b2n r.isOpen + 2 * b2n r.handled + 4 * b2n r.preempted + 8 * b2n r.injected + 16 * b2n r.signalled

/-- Record bytes without RECORD_CRC (Table 19.1). -/
def ErrRecord.body (r : ErrRecord) : List Byte :=
  toLe 8 r.ersn ++ toLe 8 r.timeFirst ++ toLe 8 r.timeLast ++ toLe 4 r.count ++ toLe 1 r.severity ++
    toLe 1 r.flags ++ toLe 2 r.cause ++ toLe 3 r.subject ++ toLe 1 r.die ++ toLe 4 r.unit ++ toLe 8 r.detailA ++
    toLe 8 r.detailB ++ toLe 4 r.bootId

/-- The 64 bytes of a record. -/
def ErrRecord.bytes (r : ErrRecord) : List Byte := r.body ++ toLe 4 (crc32 r.body)

/-- Records held: those not acknowledged (R574). -/
def Errors.held (e : Errors) : Nat := e.next - e.first

/-- How many records may be held when a record of this kind is stored (R576). -/
def recordLimit (severity : Nat) (recordOnly : Bool) : Nat :=
  if severity ≥ sevDieFatal ∧ recordOnly = false then 4096 else 4032

/-- 1 s has passed at `now` with no repeat in the area of a record: it is OPEN no longer (R577). -/
def ErrRecord.quiet (r : ErrRecord) (now : Nat) : Bool := decide (r.timeLast + 10 ^ 9 ≤ now)

/-- Records that no repeat has kept OPEN are closed (R577). -/
def Errors.settle (e : Errors) (now : Nat) : Errors :=
  { e with records := e.records.map (fun r => if r.quiet now then { r with isOpen := false } else r) }

/-- The OPEN record whose area an error repeats (R577). -/
def Errors.openIn (e : Errors) (l : Latched) : Option ErrRecord :=
  e.records.find? (fun r => r.isOpen && r.cause == l.cause && r.die == l.die && r.unit == l.unit && r.subject == l.subject)

/-- The PF0s that a record is signalled to (R580). -/
def State.signalled (s : State) (l : Latched) : List Nat :=
  let links := if l.cause / 256 = 9 ∨ l.cause / 256 = 10 then s.workingDies else [l.die]
  links.filter (fun d => s.linkUp d && decide ((s.link d).errMinSeverity ≤ l.severity)
    && decide ((s.link d).errVector ≠ 0x7FF))

/-- The record of a latched error is created and signalled, coalesced into the OPEN record of its area, or lost
(R576, R577, R580). The second result is its ERSN. -/
def State.makeRecord (s : State) (l : Latched) (handled : Bool) : State × Option Nat :=
  let e := s.errors.settle l.time
  match e.openIn l with
  | some r =>
    let r' := { r with count := satAdd 0xFFFFFFFF r.count (1 + l.repeats), timeLast := l.timeLast,
                       handled := r.handled || handled }
    ({ s with errors := { e with records := e.records.map (fun x => if x.ersn = r.ersn then r' else x) } }, some r.ersn)
  | none =>
    if e.held < recordLimit l.severity l.recordOnly then
      let dies := s.signalled l
      let r : ErrRecord :=
        { ersn := e.next, timeFirst := l.time, timeLast := l.timeLast, count := satAdd 0xFFFFFFFF 1 l.repeats,
          severity := l.severity, isOpen := true, handled := handled, preempted := false, injected := l.injected,
          signalled := !dies.isEmpty, cause := l.cause, subject := l.subject, die := l.die, unit := l.unit,
          detailA := l.detailA, detailB := l.detailB, bootId := s.journal.bootId }
      let s := { s with errors := { e with records := e.records ++ [r], next := e.next + 1 } }
      (dies.foldl (fun s d => s.msi (pf0 d) (s.link d).errVector) s, some r.ersn)
    else
      ({ s with errors := { e with overflow := true, lost := satAdd 0xFFFFFFFF e.lost 1 } }, none)

/-- A real error whose record is written at once. -/
def State.recordNow (s : State) (cause severity subject die unit a b : Nat) : State :=
  let t := s.nowNs
  (s.makeRecord
    { cause := cause, severity := severity, subject := subject, die := die, unit := unit, detailA := a, detailB := b,
      injected := false, recordOnly := false, time := t, timeLast := t, repeats := 0 } true).1

/-- A link enters FROZEN for a package stop: CAUSE 4, no function named, a new nonce, and an AER report while the data
link layer is up (R602). -/
def State.stopLink (s : State) (d : Nat) : State :=
  let (n, s) := s.draw 16
  let up := s.linkUp d
  let s := s.modLink d (fun l => { l with frozen := true, cause := 4, causeFn := 0, armed := false, nonce := n })
  if up then s.emit (.tlp d TlpKind.errFatal.code 4) else s

/-- A working die holds the record queue: the lead, or the mirroring die once it is filled (R574, R598). -/
def State.queueHeld (s : State) : Bool := s.dieWorks s.roles.lead || (s.roles.filled && s.dieWorks s.roles.mirror)

/-- The package stops (R602): every link FROZEN, every port's link down and its lanes idle, PKG_READY low, and PACKAGE_STOPPED in FATAL_LAST. -/
def State.packageStop (s : State) (reason die : Nat) : State :=
  if s.boot.stopped then s
  else
    let t := s.nowNs
    let was := s.errors
    let (s, n) := s.makeRecord
      { cause := 0x0A02, severity := sevPackageFatal, subject := 0, die := die, unit := 0, detailA := reason, detailB := 0,
        injected := false, recordOnly := false, time := t, timeLast := t, repeats := 0 } true
    let last := n.bind (fun n => s.errors.records.find? (fun r => r.ersn == n))
    let s := if s.queueHeld then s else { s with errors := was }
    let s := { s with errors := { s.errors with fatalLast := last } }
    let s := (List.range s.dieCount).foldl State.stopLink s
    let s := (s.ports.filter (fun e => decide (e.2.phase = .up))).foldl (fun s e => s.portDown e.1) s
    let ports := s.ports.map (fun (k, p) => (k, { p with phase := LinkPhase.idle, speed := 0, anDone := false }))
    { s with ports := ports, boot := { s.boot with stopped := true, stopReason := reason, pkgReady := false } }

/-- The mirror R32 appoints for a lead: its buddy if working, otherwise the lowest working die other than the lead,
otherwise the lead itself (R600). -/
def State.mirrorFor (s : State) (lead : Nat) : Nat :=
  if s.dieWorks (lead ^^^ 1) then lead ^^^ 1
  else ((s.workingDies.filter (fun d => d != lead)).head?).getD lead

/-- PKG_ROLES with a lead and the mirror R32 appoints for it; NO_MIRROR is recorded when none remains (R32, R600). -/
def State.appoint (s : State) (lead : Nat) : State :=
  let m := s.mirrorFor lead
  let s := { s with roles := { s.roles with lead := lead, mirror := m, substitute := m != lead ^^^ 1 },
                    journal := { s.journal with copy := if m = s.roles.mirror ∧ lead = s.roles.lead then s.journal.copy else [] } }
  if m = lead then s.raise 0x0907 sevDegraded 0 lead 0 0 0 else s

end Sys2Proof.Machine
end

