-- ==== Sys2Proof/Machine/FuncOps.lean ====
section
/-! DEFINITION. Operations on host functions shared by resets, containment and power states (spec/03, with the parts
of 13 and 14 that a function-level reset reaches). -/

namespace Sys2Proof.Machine

/-- Functions of a link that the model holds state for. -/
def State.functionsOf (s : State) (link : Nat) : List Nat :=
  (s.funcs.map (fun e => e.1)).filter (fun f => mDie f == link)

/-- The functions of one PF's tree: the PF's VFs. -/
def State.vfsOf (s : State) (pf : Nat) : List Nat :=
  (s.funcs.map (fun e => e.1)).filter (fun f => mDie f == mDie pf && fnPf f == fnPf pf && fnVf f != 0)

/-- Tags of a function go to quarantine (R96). -/
def State.quarantineTags (s : State) (fn : Nat) : State :=
  { s with tags := s.tags.map (fun (k, t) => (k, if t.fn = fn then { t with quarantined := true } else t)) }

/-- A function's DMA channels become `n`: bound channels and then the lowest-numbered ones are kept, and the
lowest-numbered channels of 0–47 that no function of the link holds are added (R482, log 15). -/
def State.grantChannels (s : State) (fn n : Nat) : State :=
  let f := s.func fn
  let bound := fun c => (s.dmaCh (mDie fn * 64 + c)).binder != .none
  let kept := ((f.channels.filter bound) ++ (f.channels.filter (fun c => !bound c))).take n
  let taken := (s.funcs.filter (fun (k, _) => mDie k == mDie fn && k != fn)).flatMap (fun e => e.2.channels)
  let more := ((List.range 48).filter (fun c => !taken.contains c && !kept.contains c)).take (n - kept.length)
  let now := (List.range 64).filter (fun c => kept.contains c || more.contains c)
  s.setFunc fn { f with channels := now, dmaChannels := now.length }

/-- The key of DMA channels bound to a function's queue pairs: such channels end their descriptor and are freed. -/
def State.freeChannelsOf (s : State) (fn : Nat) : State :=
  { s with channels := (s.channels.filter (fun (_, c) => match c.binder with
      | .queue f _ => f != fn
      | _ => true)) }

/-- Channels of threads and sequencers that a function's reset reaches end with ABORTED and stay bound (R539). -/
def State.abortBoundChannels (s : State) (die : Nat) : State :=
  { s with channels := s.channels.map (fun (k, c) =>
      (k, match c.binder with
        | .thread _ => if k / 64 = die ∧ c.busy then { c with busy := false, status := 0x07 } else c
        | _ => c)) }

/-- A unit of a block of a storage function's command. -/
def CipherUnit.ofFn (u : CipherUnit) (fn : Nat) : Bool :=
  match u.source with
  | .block f _ => f == fn
  | _ => false

/-- The command is at its target, or was sent and waits to be sent again. -/
def NvmeCmd.atTarget (c : NvmeCmd) : Bool :=
  match c.phase with
  | .sent _ => true
  | .fence _ => true
  | _ => false

/-- A counter of the STORAGE block raised (Table 14.12). -/
def State.storCount (s : State) (die off n : Nat) : State :=
  s.modStorage die (fun t => { t with counters := Tbl.put 0 t.counters off ((Tbl.look 0 t.counters off + n) % 2 ^ 64) })

/-! ## The function a DMA channel acts as -/

/-- Key of a DMA channel. -/
def dmaKey (die chan : Nat) : Nat := die * 64 + chan

/-- Master identity of a binder (DMA_CTRL.BINDER). -/
def Binder.identity : Binder → Nat
  | .none => 0
  | .queue fn _ => fn
  | .thread t => threadId t
  | .sequencer k => seqId k

/-- DMA_CTRL.BIND_KIND. -/
def Binder.code : Binder → Nat
  | .none => 0
  | .queue _ _ => 1
  | .thread _ => 2
  | .sequencer _ => 3

/-- The function a channel's requests act as (R450, R465, R536): the queue pair's function, PF0 of the die for a thread,
the owner of the context in work for a sequencer. -/
def State.dmaFn (s : State) (k : Nat) : Nat :=
  match (s.dmaCh k).binder with
  | .queue fn _ => fn
  | .sequencer q =>
    match (s.seqOf q).current with
    | some c => (s.context (k / 64 * 262144 + c)).owner
    | none => pf1 (k / 64)
  | _ => pf0 (k / 64)

/-- A bound channel's requests act as a function. -/
def State.dmaOf (s : State) (k fn : Nat) : Bool := (s.dmaCh k).binder != .none && s.dmaFn k == fn

/-- Data reads of storage commands that are no longer reading have their data discarded. -/
def State.sweepReads (s : State) (die : Nat) : State :=
  let reads := fun (k : Nat) => (Tbl.find (s.storage die).cmds k).any (fun c => decide (c.phase = .reading))
  { s with tags := s.tags.map (fun (k, t) => (k, match t.use with
      | .storage _ n => if mDie t.fn = die ∧ reads n = false then { t with discard := true } else t
      | _ => t)) }

/-- The buffer read of a COMMAND_PACKET of a function has its data discarded. -/
def HostTag.dropPacket (t : HostTag) (fn : Nat) : HostTag :=
  match t.use with
  | .packet _ => if t.fn = fn then { t with discard := true } else t
  | _ => t

/-- Commands of a storage function not at a target are discarded with their units and staging, and those at a target are
orphaned (R457, R418). A fenced command, no longer at a target, is kept as an orphan too: its target may still carry it
out. -/
def State.dropStorageCommands (s : State) (fn : Nat) : State :=
  let die := mDie fn
  let n := ((s.storage die).cmds.filter (fun (_, c) => c.fn == fn && c.atTarget && !c.orphan)).length
  let s := if n = 0 then s else s.storCount die 0x18 n
  let s := s.modStorage die (fun st =>
    { st with cmds := (st.cmds.filter (fun (_, c) => c.fn != fn || c.atTarget)).map (fun (k, c) =>
        (k, if c.fn = fn then { c with orphan := true } else c)) })
  let s := s.sweepReads die
  let s := { s with tags := List.map (fun (e : Nat × HostTag) => (e.1, e.2.dropPacket fn)) s.tags }
  s.modCipherOf die (fun c => { c with units := c.units.filter (fun (_, u) => !u.ofFn fn) })

/-- The plaintext of a storage function's blocks is erased: their units wait to be decrypted again from staging (R418,
R475). -/
def State.eraseBlocks (s : State) (fn : Nat) : State :=
  if fnPf fn = 1 then
    s.modCipherOf (mDie fn) (fun c => { c with units := c.units.map (fun (k, u) =>
      (k, if u.ofFn fn && !u.encrypt && decide (u.phase = .verified) then
            { u with phase := .waiting, out := [], verify := 0 } else u)) })
  else s

/-- Key slots of the pages bound to a function are erased (R101, R406). -/
def State.eraseKeysOf (s : State) (fn : Nat) : State :=
  let pages := (s.protect.keyPages.filter (fun (k, b) => b / 64 == fn && k / 4096 == mDie fn)).map (fun e => e.1 % 4096)
  if pages.isEmpty then s
  else s.modCipherOf (mDie fn) (fun c => { c with slots := c.slots.filter (fun (k, _) => !(pages.contains (k / 32))) })

/-! Transactions (R318–R325): the rest of them is in `Machine/TxnOps.lean`. -/

def State.setTxn (s : State) (n : Nat) (t : Txn) : State := { s with tempo := { s.tempo with txns := Tbl.set s.tempo.txns n t } }

/-- It holds one of the 64 places (Table 09.1). -/
def TxnState.live : TxnState → Bool
  | .opened => true
  | .scheduled => true
  | .prepared => true
  | _ => false

/-- A transaction ends: it joins the latest 256 finished ones, and a bank it claimed is free (R320, R327). -/
def State.finishTxn (s : State) (n : Nat) (t : Txn) (st : TxnState) : State :=
  let t := { t with state := st, staged := if st = .committed then t.staged else [], commitCmd := none }
  let fin := s.tempo.finished ++ [n]
  let gone := fin.take (fin.length - 256)
  let claim := if s.tempo.bankClaim = some n then none else s.tempo.bankClaim
  { s with tempo := { s.tempo with
      txns := (Tbl.set s.tempo.txns n t).filter (fun e => !gone.contains e.1 || e.2.state.live),
      finished := fin.drop (fin.length - 256), bankClaim := claim,
      abortedCount := if st = .aborted then satAdd 0xFFFF s.tempo.abortedCount 1 else s.tempo.abortedCount,
      expiredCount := if st = .expired then satAdd 0xFFFF s.tempo.expiredCount 1 else s.tempo.expiredCount } }

/-- Result data of a failed commit (R330). -/
def failResult (jsn status : Nat) : List Byte := toLe 8 jsn ++ toLe 1 status ++ toLe 7 0

/-- A transaction is aborted; a TXN_COMMIT of it that was accepted is recorded and answered (R324). -/
def State.abortTxn (s : State) (n : Nat) (t : Txn) : State :=
  let s := s.finishTxn n t .aborted
  match t.commitCmd with
  | none => s
  | some c =>
    let jsn := s.journal.next
    let res := failResult 0 0
    (s.recordCommand c stTxnAborted s.tempo.current res).deliver c (c.reply stTxnAborted 0 jsn 0 res)

/-- A packet came by a mailbox, ring or admin queue of a function. -/
def Packet.cameBy (p : Packet) (fn : Nat) : Bool :=
  match p.route with
  | .mailbox f => f == fn
  | .admin f _ => f == fn
  | .queue l _ => pf0 l == fn
  | _ => false

/-- A packet of a function that is reset: its reply will be discarded (R125). -/
def Packet.orphan (p : Packet) (fn : Nat) : Packet := if p.cameBy fn then { p with route := .dropped } else p

/-- Replies to the commands that a function sent before its reset are discarded; the commands go on (R125). -/
def State.orphanReplies (s : State) (fn : Nat) : State :=
  { s with
    journal := { s.journal with waiting := s.journal.waiting.filter (fun e => !e.1.cameBy fn),
                                buffered := s.journal.buffered.map (fun p => p.orphan fn) },
    patch := { s.patch with waiting := s.patch.waiting.map (fun p => p.orphan fn) },
    tempo := { s.tempo with
      txns := s.tempo.txns.map (fun (k, t) => (k, { t with commitCmd := t.commitCmd.map (fun p => p.orphan fn) })),
      inProgress := s.tempo.inProgress.map (fun c =>
        { c with single := c.single.map (fun x => { x with packet := x.packet.orphan fn }) }) } }

/-- Transactions a reset of their owner aborts (R325): OPEN or SCHEDULED ones opened with ABORT_ON_RESET. -/
def State.abortTxnsOf (s : State) (owner : Nat) : State :=
  let hit := s.tempo.txns.filter (fun (_, t) => sameMaster t.owner owner && t.abortOnReset
    && (decide (t.state = .opened) || decide (t.state = .scheduled)))
  hit.foldl (fun s (k, t) => s.abortTxn k t) s

/-- Configuration space of a function at its reset values, and its device-side state cleared; the resources of its
partition are kept (R101, R102). A new vector count takes effect (R88). -/
def Func.afterReset (f : Func) : Func :=
  { Func.reset with
    provisioned := f.provisioned, queuePairs := f.queuePairs, vectors := f.vectors, vectorsInEffect := f.vectors,
    dmaChannels := f.dmaChannels, channels := f.channels, stageMax := f.stageMax, txBudget := f.txBudget, windows := f.windows }

/-- The waiting RX packets of a function are discarded and their cells freed (R444). -/
def State.dropBacklogs (s : State) (fn : Nat) : State :=
  let ps := (s.queues.filter (fun (k, _) => k / 256 == fn)).flatMap (fun e => e.2.backlog)
  ps.foldl (fun s (_, p) => s.freeTm (mDie fn) p) s

/-- Function-level reset of one function (R101, R125, R444, R457). -/
def State.resetOne (s : State) (fn : Nat) : State :=
  let s := ((s.orphanReplies fn).abortTxnsOf fn).clearPme fn
  let s := (s.quarantineTags fn).dropBacklogs fn
  let s := { s with queues := s.queues.filter (fun (k, _) => k / 256 != fn) }
  let s := s.freeChannelsOf fn
  let s := s.setFnBox fn FnMailbox.reset
  let s := if fnPf fn = 1 then (s.dropStorageCommands fn).setNvme fn Nvme.reset else s
  let s := s.eraseKeysOf fn
  let s := if fn = pf0 (mDie fn) then
      ((s.setCmdq (mDie fn) Cmdq.reset).modLink (mDie fn) (fun l =>
        { l with winCounterPage := 0, winSpace := 0, winEnable := false, winPage := 0 })).abortBoundChannels (mDie fn)
    else s
  let s := s.modFunc fn Func.afterReset
  s.mirrorCheck

/-- Function-level reset: of a PF it resets its VFs too (R103). -/
def State.resetFunction (s : State) (fn : Nat) : State :=
  let s := if fnVf fn = 0 then (s.vfsOf fn).foldl State.resetOne s else s
  s.resetOne fn

/-- Every function of a link is reset (R45, R107, R108). -/
def State.resetLinkFunctions (s : State) (link : Nat) : State := (s.functionsOf link).foldl State.resetOne s

/-- A DMA channel rewound to the last completed element and in forced pause (R98, R449). -/
def DmaChannel.force (c : DmaChannel) : DmaChannel := { c with forced := true, offset := 0 }

/-- Accepted entries still reading their data are rewound (R444). -/
def QueuePair.rewind (q : QueuePair) : QueuePair :=
  { q with forced := true,
           accepted := q.accepted.map (fun e => if e.phase = .table then { e with phase := .reading } else e) }

/-- A function's channels and fetchers enter or leave forced pause (R98, R100, R114): the channels are all that act as the
function. -/
def State.forcePause (s : State) (fn : Nat) (on : Bool) : State :=
  let s := if on then s.eraseBlocks fn else s
  { s with
    queues := s.queues.map (fun (k, q) =>
      (k, if k / 256 = fn then (if on then q.rewind else { q with forced := false }) else q)),
    channels := s.channels.map (fun (k, c) =>
      (k, if s.dmaOf k fn then (if on then c.force else { c with forced := false }) else c)) }

/-- Held writes of a function issue in their order, then its pending vectors, then its held replies (R99, R100). -/
def State.releaseHeld (s : State) (fn : Nat) : State :=
  if s.canIssue fn then
    let ws := (s.func fn).heldWrites
    let s := ws.foldl (fun s w => s.issueWrite fn w) (s.modFunc fn (fun f => { f with heldWrites := [] }))
    let s := if fnPf fn = 1 then s.nvmeDrainAll fn else s
    let vs := ((s.func fn).msix.filter (fun (_, e) => e.pending && !e.masked)).map (fun e => e.1)
    let s := vs.foldl (fun s v =>
      let e := Tbl.look MsixVec.reset (s.func fn).msix v
      let e' := { e with pending := false }
      (s.modFunc fn (fun f => { f with msix := Tbl.put MsixVec.reset f.msix v e' })).msi fn v) s
    s.fillOutbound fn
  else s

/-- A containment-class error (R104–R106): the link enters FROZEN, or counts a repeat. `queue` and `index` name the
fetch of a poisoned control fetch. -/
def State.contain (s : State) (link cause fn queue index : Nat) : State :=
  let l := s.link link
  if l.frozen then s.setLink link { l with repeatCount := satAdd 0xFF l.repeatCount 1 }
  else
    let (n, s) := s.draw 16
    let s := s.setLink link { l with frozen := true, cause := cause, causeFn := fn, causeQueue := queue,
                                     causeIndex := index, armed := false, repeatCount := 0, nonce := some n }
    let s := (s.functionsOf link).foldl (fun s f => s.forcePause f true) s
    let s := s.raise 0x0103 sevContained fn link 0 cause 0
    s.mirrorCheck

/-- A function enters HALTED with a reason and writes a CONTAINED record: fetching stops, and what is accepted runs on. A further
malformed entry only coalesces in the record (R435, R452). -/
def State.halt (s : State) (fn reason queue index : Nat) : State :=
  let f := s.func fn
  let s := if f.halted then s
    else s.setFunc fn { f with halted := true, haltReason := reason, haltQueue := if queue = 0x100 then 0 else queue, haltIndex := index }
  s.raise 0x0501 sevContained fn (mDie fn) queue index reason

/-- Key of a queue pair. -/
def queueKey (fn q : Nat) : Nat := fn * 256 + q

def State.queue? (s : State) (fn q : Nat) : Option QueuePair := Tbl.find s.queues (queueKey fn q)
def State.setQueue (s : State) (fn q : Nat) (v : QueuePair) : State :=
  { s with queues := Tbl.set s.queues (queueKey fn q) v }
def State.modQueue (s : State) (fn q : Nat) (f : QueuePair → QueuePair) : State :=
  match s.queue? fn q with
  | none => s
  | some v => s.setQueue fn q (f v)

/-! REASON of a halt (Table 13.5). -/

def haltOpcode : Nat := 1
def haltReserved : Nat := 2
def haltFragCount : Nat := 3
def haltNested : Nat := 4
def haltLength : Nat := 5
def haltWindow : Nat := 6
def haltFetch : Nat := 7
def haltPoisoned : Nat := 8

/-- A control fetch of a queue pair or NVMe submission queue failed: it is issued once more, and a second failure halts the
function (R443). -/
def State.failControl (s : State) (fn q i : Nat) : State :=
  if 256 ≤ q then
    match Tbl.find (s.nvme fn).sqs (q - 256) with
    | none => s
    | some x =>
      if x.retried then s.halt fn haltFetch (q - 256) i
      else s.modNvme fn (fun v => { v with sqs := Tbl.set v.sqs (q - 256) { x with retried := true } })
  else
    match s.queue? fn q with
    | none => s
    | some x => if x.retried then s.halt fn haltFetch q i else s.setQueue fn q { x with retried := true }

end Sys2Proof.Machine
end

