-- ==== Sys2Proof/Machine/RingOps.lean ====
section
/-! DEFINITION. Queue pairs: indices, the check of submit entries, completions and their writing, delivery into posted
buffers (spec/13). -/

namespace Sys2Proof.Machine

/-- Producer minus consumer, modulo 2^16 (R423). -/
def ringCount (producer consumer : Nat) : Nat := (producer + 65536 - consumer % 65536) % 65536

def QueuePair.sqSize (q : QueuePair) : Nat := 2 ^ q.log2Sq
def QueuePair.cqSize (q : QueuePair) : Nat := 2 ^ q.log2Cq

/-- Host address of a submit entry and of a completion entry (R423). -/
def QueuePair.sqAddr (q : QueuePair) (i : Nat) : Nat := q.sqBase + 64 * (i % q.sqSize)
def QueuePair.cqAddr (q : QueuePair) (i : Nat) : Nat := q.cqBase + 32 * (i % q.cqSize)

/-- Holding slots a queue pair uses (R439): formed completions and finished entries that wait for their order. -/
def QueuePair.slots (q : QueuePair) : Nat :=
  q.held.length + (if q.mode = .batch then 0 else (q.accepted.filter (fun e => decide (e.phase = .finished))).length)

/-- Queue pairs of a die. -/
def State.dieQueues (s : State) (die : Nat) : Tbl QueuePair := s.queues.filter (fun (k, _) => mDie (k / 256) == die)

/-- Holding slots that the NVMe completion queues of a die use or reserve (R455). -/
def State.nvmeSlots (s : State) (die : Nat) : Nat :=
  ((s.nvmes.filter (fun (k, _) => mDie k == die)).map (fun (_, v) => (v.cqs.map (fun (_, c) => max 2 c.held.length)).sum)).sum

/-- Shared holding slots that are free (R439). -/
def State.sharedSlots (s : State) (die : Nat) : Nat :=
  65536 - (((s.dieQueues die).map (fun (_, q) => max 2 q.slots)).sum + s.nvmeSlots die)

/-- A queue pair can take `n` more holding slots (R439, R440). -/
def State.slotsFor (s : State) (die : Nat) (q : QueuePair) (n : Nat) : Bool :=
  decide (q.slots + n ≤ q.holdShare) && decide (q.slots + n ≤ max 2 q.slots + s.sharedSlots die)

/-- Accepted entries that will each need a holding slot when they finish: all but receive buffers, which a packet takes only with
slots to hand (R439, R441). -/
def QueuePair.inFlight (q : QueuePair) : Nat :=
  (q.accepted.filter (fun e => decide (e.phase ≠ .finished) && e.opcode != 0x10)).length

/-- An address range lies inside one DMA window of the function (R434, R484). -/
def Func.inWindow (f : Func) (a len : Nat) : Bool :=
  f.windows.any (fun (b, l) => decide (b ≤ a) && decide (a + len ≤ l + 1))

/-! ## Submit entries (Tables 13.2–13.5) -/

/-- Opcodes each KIND allows (Table 13.4). -/
def QueueKind.allows (k : QueueKind) (op : Nat) : Bool :=
  decide (op = 0x3F) || match k with
    | .tx => decide (op = 1) || decide (op = 2)
    | .rx => decide (op = 0x10)
    | .dma => decide (op = 0x20) || decide (op = 0x21) || decide (op = 0x22)

/-- ADDRESS and LENGTH of a fragment element (Table 13.3). -/
def fragAt (b : List Byte) (o : Nat) : Nat × Nat := (leAt b o 8, leAt b (o + 8) 4)

/-- The elements of a fragment table. -/
def fragTable (b : List Byte) (n : Nat) : List (Nat × Nat) := (List.range n).map (fun i => fragAt b (16 * i))

/-- INDIRECT of FRAG0 (Table 13.3). -/
def indirect (b : List Byte) : Bool := bit (leAt b 0x2C 4) 0

/-- Sum of fragment lengths. -/
def fragSum (l : List (Nat × Nat)) : Nat := (l.map (fun e => e.2)).sum

/-- Reserved bits of a TX or RX entry, or of a NOP (Table 13.2). -/
def entryReserved (b : List Byte) : Bool :=
  let op := leAt b 0 1
  let tso := decide (op = 2)
  decide (16 ≤ leAt b 1 1) || decide (8 ≤ leAt b 2 1) || decide (2 ≤ leAt b 3 1) || decide (leAt b 0x0E 2 ≠ 0)
    || decide (leAt b 0x14 8 ≠ 0) || decide (16 ≤ leAt b 0x0D 1) || (!tso && decide (leAt b 0x0A 2 + leAt b 0x0C 1 ≠ 0))
    || decide (2 ≤ leAt b 0x2C 4) || decide (leAt b 0x3C 4 ≠ 0)

/-- Length limits of Table 13.4. -/
def lengthBad (b : List Byte) : Bool :=
  let op := leAt b 0 1
  let len := leAt b 4 4
  let mss := leAt b 0x0A 2
  let hdr := leAt b 0x0C 1
  if op = 1 then decide (len < 14) || decide (9212 < len)
  else if op = 2 then decide (262144 < len) || decide (mss < 64) || decide (9000 < mss) || decide (hdr < 14)
    || decide (9212 < hdr + mss)
  else if op = 0x10 then decide (len < 256) || decide (65536 < len)
  else decide (len ≠ 0)

/-- An indirect TX or RX entry whose fragment table can be read: the pointer has the form of Table 13.3 and lies in a window. -/
def tableFits (f : Func) (b : List Byte) : Bool :=
  let n := leAt b 8 2
  decide (1 ≤ n) && decide (n ≤ 256) && leAt b 0x28 4 == 16 * n && leAt b 0x20 8 % 16 == 0
    && f.inWindow (leAt b 0x20 8) (16 * n)

/-- The fetcher reads the fragment table of an entry: nothing in the entry itself is malformed before it (Table 13.5). -/
def readsTable (f : Func) (kind : QueueKind) (b : List Byte) : Bool :=
  kind.allows (leAt b 0 1) && leAt b 0 1 != 0x3F && !entryReserved b && indirect b && tableFits f b

/-- The check of a TX, RX or NOP entry and its fragment table against Table 13.5: 0, or the REASON. -/
def checkEntry (f : Func) (kind : QueueKind) (b table : List Byte) : Nat :=
  let op := leAt b 0 1
  let n := leAt b 8 2
  let ind := indirect b
  if !kind.allows op then haltOpcode
  else if entryReserved b then haltReserved
  else if op = 0x3F then
    if n ≠ 0 then haltFragCount else if lengthBad b then haltLength else 0
  else if n = 0 ∨ 256 < n ∨ (ind = false ∧ 2 < n) then haltFragCount
  else if (ind ∨ n = 1) ∧ !allZero (sub b 0x30 16) then haltReserved
  else if ind ∧ !tableFits f b then
    if lengthBad b || decide (leAt b 0x28 4 ≠ 16 * n) || decide (leAt b 0x20 8 % 16 ≠ 0) then haltLength else haltWindow
  else
    let frags := if ind then fragTable table n else fragTable (b.drop 0x20) n
    if ind ∧ ((List.range n).any (fun i => decide (2 ≤ leAt table (16 * i + 12) 4))) then haltReserved
    else if ind ∧ ((List.range n).any (fun i => bit (leAt table (16 * i + 12) 4) 0)) then haltNested
    else if lengthBad b || frags.any (fun e => e.2 == 0 || decide (65536 < e.2)) || fragSum frags != leAt b 4 4 then haltLength
    else if frags.any (fun e => !f.inWindow e.1 e.2) then haltWindow
    else 0

/-- An accepted TX, RX or NOP entry. -/
def acceptEntry (b table : List Byte) (i : Nat) : SubmitEntry :=
  let n := leAt b 8 2
  { index := i, opcode := leAt b 0 1, ctrl := leAt b 1 1, tc := leAt b 2 1, totalLen := leAt b 4 4, mss := leAt b 0x0A 2,
    hdrLen := leAt b 0x0C 1, csumFlags := leAt b 0x0D 1, user := leAt b 0x1C 4,
    offs := (List.range 4).map (fun k => leAt b (0x10 + k) 1),
    frags := if indirect b then fragTable table n else fragTable (b.drop 0x20) n,
    phase := .reading, status := 0, stamp := 0, length := 0, eop := false, info := 0, hash := 0, rxTc := 0,
    macMatch := 0, desc := [] }

/-! ## DMA descriptors (Table 13.8) -/

def descOp (b : List Byte) : Nat := leAt b 0 1
def descFlags (b : List Byte) : Nat := leAt b 2 1
def descLen (b : List Byte) : Nat := leAt b 4 4
def descCount (b : List Byte) (i : Nat) : Nat := leAt b (8 + 2 * i) 2
def descSrc (b : List Byte) : Nat := leAt b 0x10 8
def descDst (b : List Byte) : Nat := leAt b 0x20 8
def descSrcStep (b : List Byte) (i : Nat) : Int := signed 32 (leAt b (0x28 + 8 * i) 4)
def descDstStep (b : List Byte) (i : Nat) : Int := signed 32 (leAt b (0x2C + 8 * i) 4)

/-- The lowest byte and the number of bytes from it to the highest that one side of the loop nest reaches (R445). -/
def descRange (b : List Byte) (base : Nat) (step : Nat → Int) : Int × Nat :=
  let reach := fun i => step i * ((descCount b i - 1 : Nat) : Int)
  let lo := (List.range 3).foldl (fun (a : Int) i => a + min 0 (reach i)) (base : Int)
  let hi := (List.range 3).foldl (fun (a : Int) i => a + max 0 (reach i)) (base : Int)
  (lo, (hi - lo).toNat + descLen b)

/-- A side of the nest lies in one window of the function. -/
def Func.nestInWindow (f : Func) (r : Int × Nat) : Bool := decide (0 ≤ r.1) && f.inWindow r.1.toNat r.2

/-- The check of a descriptor (R434, R445): 0, or the REASON. `host` marks the descriptor of a queue pair, whose OWN
and CTRL count and which names only space 0. -/
def checkDescriptor (f : Func) (host : Bool) (b : List Byte) : Nat :=
  let op := descOp b
  let fl := descFlags b
  if op < 0x20 ∨ 0x22 < op then haltOpcode
  else if (host ∧ (leAt b 1 1 % 2 + leAt b 1 1 / 8 % 2 * 8 ≠ leAt b 1 1 ∨ 2 ≤ leAt b 3 1)) ∨ 16 ≤ fl
    ∨ leAt b 0x0E 2 ≠ 0 ∨ leAt b 0x18 4 ≠ 0 then haltReserved
  else if descLen b = 0 ∨ descCount b 0 = 0 ∨ descCount b 1 = 0 ∨ descCount b 2 = 0
    ∨ 2 ^ 32 < descLen b * descCount b 0 * descCount b 1 * descCount b 2 then haltLength
  else if host ∧ (bit fl 2 ∨ bit fl 3) then haltWindow
  else if (op ≠ 0x21 ∧ bit fl 2 = false ∧ !f.nestInWindow (descRange b (descSrc b) (descSrcStep b)))
    ∨ (bit fl 3 = false ∧ !f.nestInWindow (descRange b (descDst b) (descDstStep b))) then haltWindow
  else 0

/-! ## Completions -/

/-- The 32 bytes of a completion (Table 13.6). -/
def cplBytes (e : SubmitEntry) (own batch : Bool) (info : Nat) : List Byte :=
  let stampOn := (decide (e.stamp ≠ 0) || decide (e.opcode = 0x10)) && !batch
  toLe 2 e.index ++ toLe 1 e.status ++ toLe 1 (b2n own + 2 * b2n stampOn + 4 * b2n e.eop + 8 * b2n batch) ++
    toLe 4 e.length ++ toLe 10 (if stampOn then e.stamp else 0) ++ toLe 2 info ++ toLe 4 e.hash ++ toLe 1 e.rxTc ++
    toLe 1 e.macMatch ++ toLe 2 0 ++ toLe 4 e.user

/-- The open batch closed into one completion (R436). -/
def QueuePair.closeBatch (q : QueuePair) : QueuePair :=
  match q.batch.getLast? with
  | none => q
  | some e =>
    let irq := q.batch.any (fun x => bit x.ctrl 3)
    { q with batch := [], held := q.held ++ [(cplBytes e true true q.batch.length, irq, q.batch.length)] }

/-- A completion of its own for one entry. -/
def QueuePair.ownCompletion (q : QueuePair) (e : SubmitEntry) : QueuePair :=
  { q with held := q.held ++ [(cplBytes e (q.mode != .ownWb) false e.info, bit e.ctrl 3, 1)] }

/-- One finished entry put into completions by the mode of its queue pair (R436). -/
def QueuePair.formOne (q : QueuePair) (e : SubmitEntry) : QueuePair :=
  match q.mode with
  | .batch =>
    if e.status ≠ 0 then q.closeBatch.ownCompletion e
    else
      let q := { q with batch := q.batch ++ [e] }
      if q.batchCount ≤ q.batch.length ∨ bit e.ctrl 0 ∨ q.accepted.isEmpty then q.closeBatch else q
  | _ => q.ownCompletion e

/-- Finished entries at the front are put into completions, in SQ order (R437). -/
def QueuePair.form (q : QueuePair) : Nat → QueuePair
  | 0 => q
  | n + 1 =>
    match q.accepted with
    | e :: rest => if e.phase = .finished then ({ q with accepted := rest }.formOne e).form n else q
    | [] => q

def QueuePair.formAll (q : QueuePair) : QueuePair := q.form q.accepted.length

/-- An accepted entry changed by its index. -/
def QueuePair.modEntry (q : QueuePair) (i : Nat) (f : SubmitEntry → SubmitEntry) : QueuePair :=
  { q with accepted := q.accepted.map (fun e => if e.index = i then f e else e) }

def QueuePair.entry? (q : QueuePair) (i : Nat) : Option SubmitEntry := q.accepted.find? (fun e => e.index == i)

/-- An entry finishes with a status and a length (R437). -/
def State.finishEntry (s : State) (fn queue index status length : Nat) : State :=
  s.modQueue fn queue (fun q =>
    (q.modEntry index (fun e => { e with phase := .finished, status := status, length := length })).formAll)

/-- Entries of the CQ that the host holds (R438). -/
def QueuePair.hostHeld (q : QueuePair) : Nat := ringCount q.cqTail q.cqHead

/-- The vector of an armed CQ is sent (R438). -/
def State.sendVector (s : State) (fn queue : Nat) (q : QueuePair) : State :=
  let s := s.setQueue fn queue { q with armed := false }
  match q.vector with
  | none => s
  | some v => s.msi fn v

/-- The vector is sent if the CQ is armed and holds enough, or at once for INTERRUPT or INT_USEC 0 (R438). -/
def State.signalCheck (s : State) (fn queue : Nat) (now : Bool) : State :=
  match s.queue? fn queue with
  | none => s
  | some q =>
    if q.armed && q.mode != .ownWb && decide (0 < q.hostHeld)
      && (decide (q.intCount ≤ q.hostHeld) || now || q.intUsec == 0) then s.sendVector fn queue q
    else s

/-- Room for one more completion (R439). -/
def QueuePair.cqRoom (q : QueuePair) : Bool := q.mode == .ownWb || decide (q.hostHeld < q.cqSize)

/-- The index write-back (R428). -/
def State.indexWriteBack (s : State) (fn queue : Nat) (q : QueuePair) : State :=
  if q.wbAddr = 0 then s else s.queueWrite fn queue q.wbAddr (toLe 2 q.sqHead ++ toLe 2 q.cqTail ++ toLe 4 0)

/-- The oldest held completion is written to the CQ or over its submit entry, SQ_HEAD advances, and write-back and
vector follow (R424, R428, R436, R438). -/
def State.writeCompletion (s : State) (fn queue : Nat) : State :=
  match s.queue? fn queue with
  | none => s
  | some q =>
    match q.held with
    | [] => s
    | (bs, irq, n) :: rest =>
      if s.canIssue fn && decide ((s.func fn).mig = .running) && q.cqRoom then
        let own := decide (q.mode = .ownWb)
        let at_ := if own then q.sqAddr (leAt bs 0 2) else q.cqAddr q.cqTail
        let q' := { q with held := rest, sqHead := (q.sqHead + n) % 65536,
                           cqTail := if own then q.cqTail else (q.cqTail + 1) % 65536,
                           writtenAt := if own then [] else q.writtenAt ++ [s.dieTick (mDie fn)] }
        let s := (s.queueWrite fn queue at_ bs).setQueue fn queue q'
        (s.indexWriteBack fn queue q').signalCheck fn queue irq
      else s

/-- Held completions are written while there is room. -/
def State.writeCompletions (s : State) (fn queue : Nat) : Nat → State
  | 0 => s
  | n + 1 => (s.writeCompletion fn queue).writeCompletions fn queue n

/-! ## Sending -/

/-- Bytes of the fragments in order. -/
def State.readFrags (s : State) (fn : Nat) (l : List (Nat × Nat)) : List Byte :=
  l.flatMap (fun (a, n) => s.hostRead fn a n)

/-- A read of a fragment's data meets an Insecure IDE stream and fails as a timeout does (R118). -/
def State.fragsBlocked (s : State) (fn : Nat) (l : List (Nat × Nat)) : Bool := l.any (fun (a, _) => s.ideBlocks fn a)

/-- A SEND or SEND_TSO entry whose data are read becomes one packet in P1 and completes, or waits for its stamp; in
BATCH mode STAMP is not honoured (R430, R436). A SEND_TSO completes once it is split (R432, log 29). Its cells are taken from the shared free cells. -/
def State.sendEntry (s : State) (fn queue : Nat) (q : QueuePair) (e : SubmitEntry) : State :=
  let s := s.retireRead fn (.payload queue e.index)
  if s.fragsBlocked fn e.frags then (s.reportTimeout fn queue 0).finishEntry fn queue e.index 0x01 e.totalLen
  else
    let stamp := bit e.ctrl 1 && q.mode != .batch
    let n := cellsFor e.totalLen
    let die := mDie fn
    let tx : TxInfo :=
      { fn := fn, queue := queue, index := e.index, csumFlags := e.csumFlags, offs := e.offs, mss := e.mss,
        hdrLen := e.hdrLen, wantStamp := stamp, oneStep := bit e.ctrl 2 }
    let s := (s.takeCells die n).offerP1 die
      { sourceKind := 1, sourceId := fn, tc := e.tc, bytes := s.readFrags fn e.frags, tx := some tx, cells := n,
        ing := none, stamp := 0, inTick := 0 }
    if stamp || decide (e.opcode = 2) then s.modQueue fn queue (fun q => q.modEntry e.index (fun e => { e with phase := .stamping }))
    else s.finishEntry fn queue e.index 0 e.totalLen

/-- The entry of a packet that waits for its packet's fate completes with a status. -/
def State.endEntry (s : State) (tx : TxInfo) (status : Nat) : State :=
  match (s.queue? tx.fn tx.queue).bind (fun q => q.entry? tx.index) with
  | some e => s.finishEntry tx.fn tx.queue tx.index status e.totalLen
  | none => s

/-- The packet of a SEND with STAMP got its stamp, or was dropped first: its entry completes OK or NOT_SENT
(R430, R432). -/
def State.stampEntry (s : State) (tx : TxInfo) (stamp : Option Nat) : State :=
  if tx.wantStamp then
    match stamp with
    | some v =>
      let s := s.modQueue tx.fn tx.queue (fun q => q.modEntry tx.index (fun e => { e with stamp := v }))
      (match (s.queue? tx.fn tx.queue).bind (fun q => q.entry? tx.index) with
        | some e => s.finishEntry tx.fn tx.queue tx.index 0 e.totalLen
        | none => s)
    | none => s.endEntry tx 0x06
  else s

/-! ## Delivery -/

/-- Posted buffers of an RX queue pair, oldest first. -/
def QueuePair.posted (q : QueuePair) : List SubmitEntry := q.accepted.filter (fun e => decide (e.phase = .posted))

/-- The posted buffers a packet needs, if enough are posted (R433). -/
def takeBuffers (len : Nat) : List SubmitEntry → Option (List SubmitEntry)
  | [] => if len = 0 then some [] else none
  | e :: rest =>
    if len = 0 then some [] else (takeBuffers (len - e.totalLen) rest).map (fun l => e :: l)

/-- Bytes written into the fragments of one buffer. -/
def State.writeFrags (s : State) (fn queue : Nat) : List (Nat × Nat) → List Byte → State
  | [], _ => s
  | (a, n) :: rest, bs =>
    if bs.isEmpty then s else (s.payloadWrite fn queue a (bs.take n)).writeFrags fn queue rest (bs.drop n)

/-- One packet written into its buffers, each completing in turn (R433). -/
def State.fillBuffers (s : State) (fn queue : Nat) (p : TmPkt) : List SubmitEntry → List Byte → State
  | [], _ => s
  | e :: rest, bs =>
    let now := bs.take e.totalLen
    let s := s.writeFrags fn queue e.frags now
    let s := s.modQueue fn queue (fun q => q.modEntry e.index (fun e =>
      { e with phase := .finished, length := now.length, stamp := p.stamp, eop := rest.isEmpty, info := p.csum, hash := p.hash,
               rxTc := p.tc, macMatch := p.macMatch }))
    s.fillBuffers fn queue p rest (bs.drop e.totalLen)

/-- What a packet meets at an RX queue pair (R433, R441). -/
inductive RxOutcome where
  | deliver (l : List SubmitEntry)
  | tooLong
  | lacking
  deriving DecidableEq, Repr

def State.rxOutcome (s : State) (fn : Nat) (q : QueuePair) (len : Nat) : RxOutcome :=
  let posted := q.posted
  let eight := posted.take 8
  if 8 ≤ posted.length ∧ (eight.map (fun e => e.totalLen)).sum < len then .tooLong
  else
    match takeBuffers len eight with
    | some l => if s.slotsFor (mDie fn) q l.length then .deliver l else .lacking
    | none => .lacking

/-- A function's RX counters. -/
def Func.countNoSpace (f : Func) : Func := { f with rxNoSpace := (f.rxNoSpace + 1) % 2 ^ 64 }

/-- A packet delivered into posted buffers; its cells are freed. -/
def State.rxWrite (s : State) (fn queue : Nat) (p : TmPkt) (l : List SubmitEntry) : State :=
  let s := s.fillBuffers fn queue p l p.bytes
  (s.modQueue fn queue QueuePair.formAll).freeTm (mDie fn) p

/-- Waiting packets of a backlog are delivered in order while buffers are posted (R441). -/
def State.drainBacklog (s : State) (fn queue : Nat) : Nat → State
  | 0 => s
  | n + 1 =>
    match s.queue? fn queue with
    | none => s
    | some q =>
      match q.backlog with
      | [] => s
      | (_, p) :: rest =>
        match s.rxOutcome fn q p.bytes.length with
        | .deliver l =>
          ((s.setQueue fn queue { q with backlog := rest }).rxWrite fn queue p l).drainBacklog fn queue n
        | .tooLong =>
          let s := (s.setQueue fn queue { q with backlog := rest }).modFunc fn
            (fun f => { f with rxTooLong := (f.rxTooLong + 1) % 2 ^ 64 })
          (s.freeTm (mDie fn) p).drainBacklog fn queue n
        | .lacking => s

/-- Waiting packets of a die's queue pairs that now find their buffers and slots are delivered (R441). -/
def State.drainBacklogs (s : State) (die : Nat) : State :=
  (s.dieQueues die).foldl (fun s (k, q) => if s.canIssue (k / 256) then s.drainBacklog (k / 256) (k % 256) q.backlog.length else s) s

/-- A queue pair is one that RX packets may be delivered to (R291). -/
def State.isRxQueue (s : State) (fn queue : Nat) : Bool :=
  match s.queue? fn queue with
  | some q => q.kind == .rx
  | none => false

/-- Delivery of a packet to a receive queue (R99, R105, R291, R433, R435, R441). Its cells, in PIPELINE on the
function's die, are freed when it is written or dropped. -/
def State.deliverRx (s : State) (fn queue : Nat) (p : TmPkt) : State :=
  let die := mDie fn
  let f := s.func fn
  if (s.link die).frozen then
    (s.modLink die (fun l => { l with containedDrops := satAdd 0xFFFFFFFF l.containedDrops 1 })).freeTm die p
  else if f.halted || !s.canIssue fn || f.mig = .pausing || f.mig = .paused then
    (s.modFunc fn Func.countNoSpace).freeTm die p
  else if !s.isRxQueue fn queue then (s.countDrop die p.pipe 0x14).freeTm die p
  else
    match s.queue? fn queue with
    | none => s
    | some q =>
      let lossless := ((s.tm die).cls p.ingressClass).lossless
      let wait := fun (s : State) =>
        if lossless then
          if q.backlog.length < 64 then s.setQueue fn queue { q with backlog := q.backlog ++ [(s.dieTick die, p)] }
          else (s.modFunc fn (fun f => { f.countNoSpace with rxHoldExpired := (f.rxHoldExpired + 1) % 2 ^ 64 })).freeTm die p
        else (s.modFunc fn Func.countNoSpace).freeTm die p
      if !q.backlog.isEmpty then wait s
      else
        match s.rxOutcome fn q p.bytes.length with
        | .deliver l => s.rxWrite fn queue p l
        | .tooLong => (s.modFunc fn (fun f => { f with rxTooLong := (f.rxTooLong + 1) % 2 ^ 64 })).freeTm die p
        | .lacking => wait s

end Sys2Proof.Machine
end

