-- ==== Sys2Proof/Machine/ThreadOps.lean ====
section
/-! DEFINITION. Operations of threads shared by instructions, channels, DMA, mailboxes and debug commands (spec/16). -/

namespace Sys2Proof.Machine

/-! ## Faults, kill and restart -/

/-- Fault causes (Table 16.5). -/
def fcIllegal : Nat := 1
def fcPrivilege : Nat := 2
def fcAlign : Nat := 3
def fcAccess : Nat := 4
def fcEcc : Nat := 5
def fcChannel : Nat := 6
def fcMessage : Nat := 7
def fcCell : Nat := 8
def fcDivide : Nat := 9
def fcBreak : Nat := 10

/-- A faulting instruction has no effect: the thread enters FAULTED, FAULT_PENDING is set and, where the supervisor
cannot act, firmware records the fault (R521–R523). `addr` is the data address of an ALIGN, ACCESS, ECC or CELL fault. -/
def State.threadFault (s : State) (t cause : Nat) (addr : Option Nat) : State :=
  let th := s.thread t
  let th' := { th with state := .faulted, faultCause := cause, faultAddr := addr.getD th.faultAddr, wait := .none,
                       waitMask := 0, stepping := false }
  let s := s.setThread t th'
  let s := s.modPodOf (threadPod t) (fun p => { p with faultPending := setBit p.faultPending (podThread t) true })
  let sup := s.supervisor (threadPod t)
  let st := (s.thread sup).state
  let gone := decide (st = .stopped) || decide (st = .faulted) || decide (st = .killed)
  let s := if t = sup ∨ gone then
      s.raise 0x0601 sevContained (threadId t) (threadDie t) (podThread t) cause th.pc
    else s
  s.settleDie (threadDie t)

/-- Locks a thread holds in its pod, as a mask. -/
def State.locksOf (s : State) (t : Nat) : Nat :=
  (List.range 64).foldl (fun a n =>
    let l := s.lockOf (threadPod t * 64 + n)
    a + (if l.held ∧ l.owner = threadId t then 2 ^ n else 0)) 0

/-- Every lock a thread holds is released. -/
def State.releaseLocks (s : State) (t : Nat) : State :=
  let s := (maskBits (s.locksOf t) 64).foldl (fun s n =>
    s.modLockOf (threadPod t * 64 + n) (fun l => { l with held := false, owner := 0 })) s
  s.settleDie (threadDie t)

/-- A view closed; its sticky flags stay (R507). -/
def PktView.close (w : PktView) : PktView := { w with isOpen := false, stale := false }

/-- What KILL takes from a thread: staged words, views, pending events, timer, wait and pending fault (R531). -/
def Thread.killed (th : Thread) : Thread :=
  { th with state := .killed, wait := .none, object := 0, objectPod := 0, waitMask := 0, breakHit := false, staging := [],
            view0 := th.view0.close, view1 := th.view1.close, pending := 0, intSignal := false, armed := false,
            stepping := false, breakSkip := false, breakNop := none, spin := none }

/-- KILL: any state except OUT_OF_SERVICE; FAULT_PENDING of the thread clears (R531, Table 16.9). -/
def State.killThread (s : State) (t : Nat) : State :=
  if (s.thread t).state = .outOfService then s
  else
    let s := s.modThread t Thread.killed
    (s.modPodOf (threadPod t) (fun p => { p with faultPending := setBit p.faultPending (podThread t) false })).settleDie
      (threadDie t)

/-- A thread at its ENTRY: registers zero, special registers at their reset values and EVENT_SRC as the image gives it
(R533, R542). -/
def Thread.atEntry (th : Thread) (st : ThreadState) : Thread :=
  { Thread.reset with
    pc := th.entryPc, entryPc := th.entryPc, intHandler := th.intHandler, imageSrc := th.imageSrc,
    eventSrc := th.imageSrc, state := st }

/-- Addresses a thread may fetch from (Table 16.1). -/
def executable (a : Nat) : Bool :=
  decide (a < 0x200000) || (decide (0x400000 ≤ a) && decide (a < 0x800000))

/-- A thread sent to an address faults there: with ALIGN where it is not a multiple of 4, with ACCESS where it is not
executable (R504, R545, R554). -/
def State.fetchCheck (s : State) (t : Nat) : State :=
  let th := s.thread t
  if th.state = .running ∧ th.pc % 4 ≠ 0 then s.threadFault t fcAlign none
  else if th.state = .running ∧ ¬ executable th.pc then s.threadFault t fcAccess none
  else s

/-- RESTART: the effects of KILL, then RUNNING at ENTRY (R522). -/
def State.restartThread (s : State) (t : Nat) : State :=
  if (s.thread t).state = .outOfService then s
  else ((s.killThread t).modThread t (fun th => th.atEntry .running)).fetchCheck t

/-! ## Packets of a pod -/

/-- A cell number that heads no packet of any pod of the die: the lowest free one (log 14). -/
def State.newCell (s : State) (die : Nat) : Nat :=
  let used := (List.range 6).flatMap (fun k => (s.podOf (die * 6 + k)).packets.map (fun e => e.1))
  ((List.range (used.length + 1)).find? (fun n => !used.contains n)).getD 0

/-- POD_STATUS.POD_CELLS (R506). -/
def Pod.cells (p : Pod) : Nat := (p.packets.map (fun e => e.2.cells)).sum

/-- Every view of the pod's threads changed. -/
def State.mapViews (s : State) (pod : Nat) (f : Nat → PktView → PktView) : State :=
  { s with threads := s.threads.map (fun (k, th) =>
      if threadPod k = pod then (k, { th with view0 := f (2 * k) th.view0, view1 := f (2 * k + 1) th.view1 }) else (k, th)) }

/-- A view of a thread. -/
def Thread.view (th : Thread) (v : Nat) : PktView := if v = 0 then th.view0 else th.view1
def Thread.setView (th : Thread) (v : Nat) (w : PktView) : Thread :=
  if v = 0 then { th with view0 := w } else { th with view1 := w }

/-- The packet a view has open, if its accesses do not fault. -/
def State.viewPacket (s : State) (t v : Nat) : Option PodPkt :=
  let w := (s.thread t).view v
  if w.isOpen && !w.stale then Tbl.find (s.podOf (threadPod t)).packets w.firstCell else none

/-- A pod's packet set. -/
def State.setPacket (s : State) (pod cell : Nat) (p : PodPkt) : State :=
  s.modPodOf pod (fun x => { x with packets := Tbl.set x.packets cell p })

/-! ## Commits -/

/-- The checks of an inject message (R508): the packet it names, or none where the commit faults with MESSAGE. -/
def State.injectMessage (s : State) (pod : Nat) (ws : List Word) : Option (Nat × PodPkt × Nat × Nat) :=
  let w0 := (ws.headD 0).toNat
  let cell := bits w0 17 0
  let len := bits w0 47 32
  match Tbl.find (s.podOf pod).packets cell with
  | none => none
  | some p =>
    if ws.length ≠ 4 ∨ len < 14 ∨ 256 * p.cells < len then none else some (cell, p, len, bits w0 50 48)

/-- Packet bytes of an injected length. -/
def PodPkt.take (p : PodPkt) (len : Nat) : List Byte := sub p.bytes 0 len

/-- The inject commit: the cells pass to P1 and every view of the packet closes (R508). The message stays in channel `k`
until P1 admits the packet (R218, R220). -/
def State.inject (s : State) (k pod writer : Nat) (cell : Nat) (p : PodPkt) (len tc : Nat) : State :=
  let s := s.modPodOf pod (fun x => { x with packets := Tbl.del x.packets cell })
  let s := s.mapViews pod (fun _ w => if w.isOpen && w.firstCell == cell && !w.stale then w.close else w)
  (s.ingSub (pod / 6) p.ing p.cells).offerP1 (pod / 6)
    { sourceKind := 2, sourceId := writer, tc := tc, bytes := p.take len, tx := none, cells := p.cells, ing := none,
      stamp := 0, inTick := 0, chan := some k }

/-- Words put in a channel as one message. -/
def State.putMessage (s : State) (k : Nat) (ws : List Word) : State :=
  let n := ws.length
  let s := s.modChanOf k (fun c => { c with words := c.words ++ ws.zipIdx.map (fun (w, i) => (w, i + 1 == n)) })
  s.settleDie (k / 1536)

end Sys2Proof.Machine
end

