-- ==== Sys2Proof/Machine/DmaOps.lean ====
section
/-! DEFINITION. The DMA engine: binding, the loop nest, pacing, pauses and completion (spec/13 R445–R450, spec/16
R509–R514). -/

namespace Sys2Proof.Machine

/-- Bytes at an address of a space: 0 host memory of the function, 1 DRAM of the die (R445). -/
def State.spaceRead (s : State) (k space a n : Nat) : List Byte :=
  if space = 0 then s.hostRead (s.dmaFn k) a n else s.readBytes (.dram (k / 64)) a n

def State.spaceWrite (s : State) (k space a : Nat) (bs : List Byte) : State :=
  if space = 0 then s.payloadWrite (s.dmaFn k) (k % 64) a bs else s.writeBytes (.dram (k / 64)) a bs

/-- Source and destination of the element in progress (R446 pseudocode). -/
def DmaChannel.side (c : DmaChannel) (base : Nat) (step : Nat → Int) : Nat :=
  ((base : Int) + step 0 * c.i0 + step 1 * c.i1 + step 2 * c.i2).toNat % 2 ^ 64

def DmaChannel.srcAddr (c : DmaChannel) : Nat := c.side (descSrc c.elem) (descSrcStep c.elem)
def DmaChannel.dstAddr (c : DmaChannel) : Nat := c.side (descDst c.elem) (descDstStep c.elem)

/-- Bytes of the descriptor before the present position. -/
def DmaChannel.done (c : DmaChannel) : Nat :=
  ((c.i2 * descCount c.elem 1 + c.i1) * descCount c.elem 0 + c.i0) * descLen c.elem + c.offset

/-- The position after `n` more bytes of the element, and whether the nest is finished. -/
def DmaChannel.advance (c : DmaChannel) (n : Nat) : DmaChannel × Bool :=
  if c.offset + n < descLen c.elem then ({ c with offset := c.offset + n }, false)
  else if c.i0 + 1 < descCount c.elem 0 then ({ c with offset := 0, i0 := c.i0 + 1 }, false)
  else if c.i1 + 1 < descCount c.elem 1 then ({ c with offset := 0, i0 := 0, i1 := c.i1 + 1 }, false)
  else if c.i2 + 1 < descCount c.elem 2 then ({ c with offset := 0, i0 := 0, i1 := 0, i2 := c.i2 + 1 }, false)
  else ({ c with offset := descLen c.elem }, true)

/-- Pacing after `n` bytes are written (R448). -/
def DmaChannel.paced (c : DmaChannel) (n : Nat) : DmaChannel :=
  if bit (descFlags c.elem) 1 then
    let level := satAdd 0xFFFFFFFF c.level n
    { c with level := level, throttled := c.throttled || decide (c.high.inEffect ≤ level) }
  else c

/-- An acknowledgement of bytes taken (R448). -/
def DmaChannel.ack (c : DmaChannel) (n : Nat) : DmaChannel :=
  let level := c.level - n
  { c with level := level, underflow := c.underflow || decide (c.level < n),
           throttled := c.throttled && decide (c.low.inEffect < level) }

/-- The channel may issue its next write request (R447–R449). -/
def DmaChannel.runs (c : DmaChannel) : Bool :=
  c.busy && !c.pause && !c.forced && !c.readBack && !(bit (descFlags c.elem) 1 && c.throttled)

/-! ## Reads -/

/-- Reads that the next request of a channel makes in host memory: of its source, of the destination of a COMPARE, or of the bytes
last written (R446, R447). -/
def DmaChannel.reads (c : DmaChannel) : Nat :=
  let fl := descFlags c.elem
  if c.readBack then b2n (!bit fl 3)
  else b2n (descOp c.elem != 0x21 && !bit fl 2) + b2n (descOp c.elem == 0x22 && !bit fl 3)

/-- A read of a channel that is outstanding. -/
def HostTag.ofChannel (t : HostTag) (k : Nat) : Bool := t.use == .channel k && !t.quarantined && !t.discard

/-- The channel's reads for its next request are outstanding, issued now if a tag is free for each: without them it waits (R93). -/
def State.dmaIssue (s : State) (k : Nat) : Option State :=
  let c := s.dmaCh k
  let out := (s.tags.filter (fun (_, t) => t.ofChannel k)).length
  let n := min 512 (descLen c.elem - c.offset)
  let one := fun (s : State) => s.issueRead (s.dmaFn k) (.channel k) n
  if !c.busy then some s
  else match c.reads - out with
    | 0 => some s
    | 1 => one s
    | _ => (one s).bind one

/-- The channel's reads have come. -/
def State.dmaRetire (s : State) (k : Nat) : State := { s with tags := s.tags.filter (fun (_, t) => !t.ofChannel k) }

/-- The channel's outstanding reads have their data discarded when they come: its descriptor has ended. -/
def State.dmaDrop (s : State) (k : Nat) : State :=
  { s with tags := List.map (fun (e : Nat × HostTag) => (e.1, if e.2.ofChannel k then { e.2 with discard := true } else e.2)) s.tags }

/-! ## Ends of descriptors -/

/-- The first reading DMA entry of a queue pair starts on its channel if the channel is idle; its descriptor is in
DMA_ELEM (R445, R450). -/
def State.startQueueDma (s : State) (fn queue : Nat) : State :=
  match s.queue? fn queue with
  | none => s
  | some q =>
    match q.channel, q.accepted.find? (fun e => decide (e.phase = .reading) && decide (0x20 ≤ e.opcode) && decide (e.opcode ≤ 0x22)) with
    | some ch, some e =>
      let k := dmaKey (mDie fn) ch
      let c := s.dmaCh k
      let busyQ := q.accepted.any (fun e => decide (e.phase = .running))
      if c.busy || busyQ then s
      else
        let s := s.setDmaCh k { c with busy := true, elem := e.desc, i0 := 0, i1 := 0, i2 := 0, offset := 0, readBack := false,
                                       binder := .queue fn queue }
        let s := (s.dmaIssue k).getD s
        s.modQueue fn queue (fun q => q.modEntry e.index (fun e => { e with phase := .running }))
    | _, _ => s

/-- The thread channels of a die that a DMA channel writes, or reads, by its class 5 identity (Table 16.3). -/
def State.dmaEnd (s : State) (k : Nat) (writer : Bool) : Option Nat :=
  (s.chans.find? (fun (n, c) => n / 1536 == k / 64 && c.enable
    && (if writer then c.writer else c.reader) == masterId 5 (k / 64) (k % 64))).map (fun e => e.1)

/-- A thread-bound channel puts its waiting completion word where there is room, then starts the next descriptor that a
channel holds for it (R512, R513). A descriptor that fails its check halts PF0 (R445). -/
def State.pumpDma (s : State) (k : Nat) : State :=
  let c := s.dmaCh k
  let s := match c.waiting, s.dmaEnd k true with
    | some w, some n =>
      if 0 < (s.chanOf n).room then (s.setDmaCh k { c with waiting := none }).putMessage n [BitVec.ofNat 64 w] else s
    | some _, none => s.setDmaCh k { c with waiting := none }
    | none, _ => s
  let c := s.dmaCh k
  if c.busy || c.waiting.isSome then s
  else
    match s.dmaEnd k false with
    | none => s
    | some n =>
      let ws := (s.chanOf n).words
      if ws.length < 8 then s
      else
        let bs := (ws.take 8).flatMap (fun (w, _) => toLe 8 w.toNat)
        let s := (s.modChanOf n (fun x => { x with words := x.words.drop 8 })).settleDie (n / 1536)
        let bad := checkDescriptor (s.func (s.dmaFn k)) false bs
        if bad ≠ 0 then s.halt (s.dmaFn k) bad 0 0
        else
          let s := s.setDmaCh k { c with busy := true, elem := bs, i0 := 0, i1 := 0, i2 := 0, offset := 0, readBack := false }
          (s.dmaIssue k).getD s

/-- The descriptor of a channel ends: the entry of its queue pair completes, or its pod's threads are told
(R437, R514, Table 16.3). -/
def State.endDma (s : State) (k status length : Nat) : State :=
  let c := s.dmaCh k
  let s := (s.setDmaCh k { c with busy := false, readBack := false, status := status }).dmaDrop k
  match c.binder with
  | .queue fn queue =>
    match (s.queue? fn queue).bind (fun q => q.accepted.find? (fun e => decide (e.phase = .running))) with
    | some e =>
      let s := s.finishEntry fn queue e.index status (length % 2 ^ 32)
      let moved := ((s.queue? fn queue).bind (fun q => q.channel)) != some (k % 64)
      (if moved then s.modDmaCh k (fun c => { c with binder := .none }) else s).startQueueDma fn queue
    | none => s
  | .thread t =>
    let word := status + leAt c.elem 0x1C 4 * 2 ^ 32
    let s := s.modDmaCh k (fun c => { c with waiting := some word })
    (s.pumpDma k).raisePod (threadPod t) 6 (k % 64)
  | _ => s

/-- A descriptor whose nest is finished: with READ_BACK its last written bytes are read first (R447). -/
def State.nestDone (s : State) (k : Nat) : State :=
  let c := s.dmaCh k
  if bit (descFlags c.elem) 0 && descOp c.elem != 0x22 then
    let s := s.setDmaCh k { c with readBack := true }
    (s.dmaIssue k).getD s
  else s.endDma k 0 c.done

/-! ## The loop nest -/

/-- Bytes a FILL writes at an address (R446). -/
def fillBytes (pattern : List Byte) (a n : Nat) : List Byte :=
  (List.range n).map (fun i => pattern.getD ((a + i) % 8) 0)

/-- Index of the first difference of two byte strings. -/
def firstDiff : List Byte → List Byte → Nat → Option Nat
  | a :: as, b :: bs, i => if a = b then firstDiff as bs (i + 1) else some i
  | _, _, _ => none

/-- One request of the descriptor in progress, its reads done: at most 512 bytes, up to the end of the element. Staged pace values
take effect at it (R446, R448, R453). -/
def State.dmaMove (s : State) (k : Nat) : State :=
  let c := s.dmaCh k
  let c := { c with high := Staged.both c.high.written, low := Staged.both c.low.written }
  let n := min 512 (descLen c.elem - c.offset)
  let fl := descFlags c.elem
  let src := c.srcAddr + c.offset
  let dst := c.dstAddr + c.offset
  let ss := b2n (bit fl 2)
  let ds := b2n (bit fl 3)
  let op := descOp c.elem
  let fn := s.dmaFn k
  if (ss = 0 ∧ op ≠ 0x21 ∧ s.ideBlocks fn src) ∨ (ds = 0 ∧ s.ideBlocks fn dst) then
    (s.reportTimeout fn (k % 64) 0).endDma k 0x01 c.done
  else if op = 0x22 then
    match firstDiff (s.spaceRead k ss src n) (s.spaceRead k ds dst n) 0 with
    | some i => (s.setDmaCh k c).endDma k 0x04 (c.done + i)
    | none =>
      let (c', fin) := c.advance n
      let s := s.setDmaCh k c'
      if fin then s.endDma k 0 c'.done else (s.dmaIssue k).getD s
  else
    let bs := if op = 0x21 then fillBytes (toLe 8 (descSrc c.elem)) dst n else s.spaceRead k ss src n
    let s := s.spaceWrite k ds dst bs
    let (c', fin) := ({ c with lastAddr := dst + n - 1 }.paced n).advance n
    let s := s.setDmaCh k c'
    if fin then s.nestDone k else (s.dmaIssue k).getD s

/-- One request of a channel: it waits while no tag is free for its reads, keeps them outstanding one request at a time (log 110),
and is the safe point of HOST_ORDER (R89, R93). -/
def State.dmaRequest (s : State) (k : Nat) : State :=
  match s.dmaIssue k with
  | none => s
  | some s => ((s.dmaRetire k).orderSafe (k / 64)).dmaMove k

/-- Up to `n` requests, while the channel runs. -/
def State.dmaRun (s : State) (k : Nat) : Nat → State
  | 0 => s
  | n + 1 => if (s.dmaCh k).runs then (s.dmaRequest k).dmaRun k n else s

/-- A channel of a function may issue now: its requests to host memory need the function (R98, R105, R114). -/
def State.dmaLive (s : State) (k : Nat) : Bool :=
  let c := s.dmaCh k
  let fl := descFlags c.elem
  s.live (k / 64) && ((bit fl 2 || descOp c.elem == 0x21) && bit fl 3 || s.canIssue (s.dmaFn k))

/-- The channel runs a descriptor of the opcode: up to `n` requests are issued (R446, log 16). -/
def State.dmaStep (s : State) (die chan op n : Nat) : State :=
  let k := dmaKey die chan
  let c := s.dmaCh k
  if descOp c.elem = op ∧ s.dmaLive k then s.dmaRun k n else s

end Sys2Proof.Machine
end

