-- ==== Sys2Proof/Machine/Rings.lean ====
section
/-! DEFINITION. Commands and events of queue pairs and DMA channels (spec/13). -/

namespace Sys2Proof.Machine

/-! ## Queue-pair commands -/

/-- The function a queue command acts on: its sender, or the FUNCTION that PF0 appends (R421). -/
def State.queueTarget (s : State) (p : Packet) (base : Nat) : Except Nat Nat :=
  if fnPf p.sender ≠ 0 then .error stNotPermitted
  else if p.paramLen = base then .ok p.sender
  else if p.paramLen = base + 4 then
    let f := leAt p.params base 4
    if fnVf p.sender ≠ 0 then .error stNotPermitted
    else if 2 ^ 24 ≤ f ∨ reservedClass f then .error stBadParam
    else if let some st := s.dieStatus (mDie f) then .error st
    else if mClass f ≠ 0 ∨ mDie f ≠ mDie p.sender ∨ fnPf f ≠ 0 then .error stNotPermitted
    else if (s.func f).provisioned = false then .error stNotFound
    else .ok f
  else .error stBadParam

/-- Parameter ranges of Table 13.1: true when one is broken (R421). -/
def badQueueParams (b : List Byte) : Bool :=
  let kind := leAt b 1 1
  let lsq := leAt b 2 1 % 16
  let lcq := leAt b 2 1 / 16
  let mode := leAt b 3 1
  let vec := leAt b 4 2
  let sq := leAt b 8 8
  let cq := leAt b 0x10 8
  decide (2 < kind) || decide (lsq = 0) || decide (2 < mode) || (mode != 2 && decide (lcq = 0))
    || (decide (2047 < vec) && vec != 0xFFFF) || decide (sq % min 4096 (64 * 2 ^ lsq) ≠ 0)
    || (mode != 2 && decide (cq % min 4096 (32 * 2 ^ lcq) ≠ 0)) || (mode == 2 && cq != 0)
    || decide (leAt b 0x18 8 % 8 ≠ 0) || (kind == 1 && mode != 0)

/-- Numbers of a function's queue pairs, rising. -/
def State.queuesOf (s : State) (fn : Nat) : List Nat :=
  (s.queues.filter (fun (k, _) => k / 256 == fn)).map (fun e => e.1 % 256)

/-- The basic RSS table: entry k names the (k mod n)-th RX queue pair (R442). -/
def State.rewriteRss (s : State) (fn : Nat) : State :=
  if (s.func fn).rssWritten then s
  else
    let rx := (s.queuesOf fn).filter (fun q => s.isRxQueue fn q)
    let t := (List.range 128).filterMap (fun k =>
      match rx[k % rx.length]? with
      | some q => if q = 0 then none else some (k, q)
      | none => none)
    s.modFunc fn (fun f => { f with rss := t })

/-- Free DMA channels of a function (R421, R536). -/
def State.freeDma (s : State) (fn : Nat) : List Nat :=
  (s.func fn).channels.filter (fun c => (s.dmaCh (dmaKey (mDie fn) c)).binder == .none)

def queueKindOf (n : Nat) : QueueKind := if n = 0 then .tx else if n = 1 then .rx else .dma
def cplModeOf (n : Nat) : CplMode := if n = 0 then .entry else if n = 1 then .batch else .ownWb

/-- A new queue pair in the basic attributes of Table 13.12. -/
def newQueue (b : List Byte) (chan : Option Nat) : QueuePair :=
  let vec := leAt b 4 2
  { kind := queueKindOf (leAt b 1 1), log2Sq := leAt b 2 1 % 16, log2Cq := leAt b 2 1 / 16,
    mode := cplModeOf (leAt b 3 1), vector := if vec = 0xFFFF then none else some vec, intUsec := leAt b 6 2,
    sqBase := leAt b 8 8, cqBase := leAt b 0x10 8, wbAddr := leAt b 0x18 8, sqHead := 0, sqTail := 0, cqTail := 0,
    cqHead := 0, fetch := 0, indexErr := false, ownWait := false, backoffUs := 0, ownSince := 0, armed := leAt b 3 1 != 2,
    batchCount := 16, holdShare := 64, intCount := 1, rxHoldUs := 1000, pasid := 0, channel := chan, accepted := [],
    held := [], batch := [], writtenAt := [], backlog := [], forced := false, retried := false }

/-- QUEUE_CREATE's effect (R421, R439, R442). -/
def runQueueCreate (p : Packet) (s : State) : Answer :=
  match s.queueTarget p 32 with
  | .error st => s.fails st
  | .ok fn =>
    let b := p.params
    let die := mDie fn
    let held := s.queuesOf fn
    let want := leAt b 0 1
    let q := if want = 0xFF then ((List.range 256).find? (fun n => !held.contains n)).getD 0 else want
    let dma := decide (leAt b 1 1 = 2)
    if badQueueParams b then s.fails stBadParam
    else if (s.func fn).queuePairs ≤ held.length ∨ 256 ≤ held.length ∨ (dma ∧ (s.freeDma fn).isEmpty)
      ∨ s.sharedSlots die < 2 then s.fails stNoResource
    else if held.contains q then s.fails stExists
    else
      let chan := if dma then (s.freeDma fn).head? else none
      let s := s.setQueue fn q { newQueue b chan with forced := !s.canIssue fn }
      let s := match chan with
        | some c => s.modDmaCh (dmaKey die c) (fun x => { x with binder := .queue fn q })
        | none => s
      (s.rewriteRss fn).answers (toLe 1 q ++ toLe 1 0 ++ toLe 2 (16 * q))

/-- QUEUE_CREATE (R421). -/
def execQueueCreate (p : Packet) (s : State) : Host.Outcome State Fault Refusal := runPlain 0x0201 p runQueueCreate s

/-- The channel that carries a queue pair's descriptors: the one that still runs one for it, or the one it is bound to (R451). -/
def State.queueChannel (s : State) (fn queue : Nat) : Nat :=
  match s.channels.find? (fun (_, c) => c.busy && c.binder == .queue fn queue) with
  | some (k, _) => k
  | none => dmaKey (mDie fn) (((s.queue? fn queue).bind (fun q => q.channel)).getD 0)

/-- Every fetched entry of a queue pair that is being destroyed is completed: sends are made, NOPs finish, a descriptor
runs on, and ends ABORTED where a pause keeps it from running (R422, log 17). -/
def State.completeFetched (s : State) (fn queue : Nat) : Nat → State
  | 0 => s
  | n + 1 =>
    match s.queue? fn queue with
    | none => s
    | some q =>
      match q.accepted.find? (fun e => decide (e.phase = .reading) || decide (e.phase = .running)) with
      | none => s
      | some e =>
        let s := if e.opcode = 1 ∨ e.opcode = 2 then s.sendEntry fn queue q e
          else if e.opcode = 0x3F then s.finishEntry fn queue e.index 0 0
          else if e.opcode = 0x10 then
            s.modQueue fn queue (fun q => q.modEntry e.index (fun e => { e with phase := .posted }))
          else
            let s := s.startQueueDma fn queue
            let k := s.queueChannel fn queue
            let s := if s.dmaLive k then s.dmaRun k (2 ^ 32) else s
            let c := s.dmaCh k
            if c.busy then s.endDma k (if c.readBack then 0 else 0x07) c.done else s
        s.completeFetched fn queue n

/-- Packets of a backlog are discarded and their cells freed. -/
def State.dropBacklog (s : State) (fn queue : Nat) : State :=
  match s.queue? fn queue with
  | none => s
  | some q => q.backlog.foldl (fun s (_, p) => s.freeTm (mDie fn) p) s

/-- An outstanding read of a queue pair that ceases to exist goes to quarantine. -/
def HostTag.ofQueue (t : HostTag) (fn queue : Nat) : HostTag :=
  let mine := match t.use with
    | .control q _ _ => q == queue
    | .table q _ _ => q == queue
    | .payload q _ => q == queue
    | _ => false
  if t.fn == fn && mine then { t with quarantined := true } else t

/-- A channel that a queue pair held is unbound and idle. -/
def DmaChannel.leave (c : DmaChannel) (fn queue : Nat) : DmaChannel :=
  if c.binder = .queue fn queue then { c with binder := .none, busy := false } else c

/-- A queue pair ceases to exist, its DMA channels unbound. -/
def State.removeQueue (s : State) (fn queue : Nat) : State :=
  let s := s.dropBacklog fn queue
  let s : State := (s.channels.map (fun e => e.1)).foldl (fun s k =>
    (if (s.dmaCh k).binder = .queue fn queue then s.dmaDrop k else s).modDmaCh k (fun c => c.leave fn queue)) s
  let tags : Tbl HostTag := List.map (fun (e : Nat × HostTag) => (e.1, e.2.ofQueue fn queue)) s.tags
  let s := { s with queues := Tbl.del s.queues (queueKey fn queue), tags := tags }
  s.rewriteRss fn

/-- QUEUE_DESTROY's effect (R422): on a halted or forced-paused queue pair the held completions are discarded
(Table 13.11). -/
def runQueueDestroy (p : Packet) (s : State) : Answer :=
  match s.queueTarget p 4 with
  | .error st => s.fails st
  | .ok fn =>
    let q := leAt p.params 0 1
    match s.queue? fn q with
    | none => s.fails stNotFound
    | some x =>
      if leAt p.params 1 3 ≠ 0 then s.fails stBadParam
      else
        let s := if (s.func fn).halted || x.forced then s
          else
            let s := s.completeFetched fn q (x.accepted.length)
            s.writeCompletions fn q ((s.queue? fn q).map (fun x => x.held.length)).get!
        (s.removeQueue fn q).answers []

/-- QUEUE_DESTROY (R422). -/
def execQueueDestroy (p : Packet) (s : State) : Host.Outcome State Fault Refusal := runPlain 0x0202 p runQueueDestroy s

/-- Fetching of a queue pair's SQ is stopped (R440). -/
def State.fetchStopped (s : State) (fn : Nat) (q : QueuePair) : Bool :=
  let f := s.func fn
  !s.slotsFor (mDie fn) q 1 || (q.kind == .tx && (f.txHeld || !s.p1Admits (mDie fn))) || q.forced || f.halted
    || !s.canIssue fn || decide (f.mig ≠ .running)

/-- The two QSTATUS words of a queue pair. -/
def State.qstatus (s : State) (fn : Nat) (q : QueuePair) : Nat :=
  q.sqHead + 2 ^ 16 * q.sqTail + 2 ^ 32 * q.cqTail + 2 ^ 48 * q.cqHead + 2 ^ 64 + 2 ^ 65 * b2n q.forced
    + 2 ^ 66 * b2n q.indexErr + 2 ^ 67 * b2n q.ownWait + 2 ^ 68 * b2n (s.fetchStopped fn q) + 2 ^ 69 * b2n q.armed
    + 2 ^ 70 * (match q.kind with
      | .tx => 0
      | .rx => 1
      | .dma => 2) + 2 ^ 80 * min 4096 q.slots

/-- The ATTR body of a queue pair (Table 13.9). -/
def QueuePair.attr (q : QueuePair) (n : Nat) : List Byte :=
  toLe 1 n ++ toLe 1 q.batchCount ++ toLe 2 q.holdShare ++ toLe 2 q.intCount ++ toLe 2 q.rxHoldUs ++ toLe 4 q.pasid ++
    toLe 1 (q.channel.getD 0xFF) ++ toLe 3 0

/-- QUEUE_QUERY's answer (R451). -/
def runQueueQuery (p : Packet) (s : State) : Answer :=
  match s.queueTarget p 4 with
  | .error st => s.fails st
  | .ok fn =>
    let n := leAt p.params 0 1
    match s.queue? fn n with
    | none => s.fails stNotFound
    | some q =>
      if leAt p.params 1 3 ≠ 0 then s.fails stBadParam else s.answers (toLe 16 (s.qstatus fn q) ++ q.attr n)

/-- QUEUE_QUERY (R451). -/
def execQueueQuery (p : Packet) (s : State) : Host.Outcome State Fault Refusal := runPlain 0x0203 p runQueueQuery s

/-! ## QUEUE_SET_MAPPING (R451): check and effect; its command is among the transactional ones -/

/-- The failing status of a QUEUE_SET_MAPPING, or none. -/
def State.checkMapping (s : State) (p : Packet) : Option Nat :=
  let b := p.params
  let fn := leAt b 0 3
  let obj := leAt b 3 1
  let f := s.func fn
  if 1 < obj ∨ reservedClass fn then some stBadParam
  else if (s.dieStatus (mDie fn)).isSome then s.dieStatus (mDie fn)
  else if mClass fn ≠ 0 ∨ fnPf fn ≠ 0 then some stNotPermitted
  else if mDie fn ≠ mDie p.sender ∧ issuerOf p.sender = isM then some stNotPermitted
  else if f.provisioned = false then some stNotFound
  else if obj = 0 then
    let first := leAt b 4 1
    let n := leAt b 5 1
    let qs := (List.range n).map (fun i => leAt b (8 + i) 1)
    if 127 < first ∨ n = 0 ∨ 128 < first + n ∨ leAt b 6 2 ≠ 0 ∨ p.paramLen ≠ 8 + 4 * ceilDiv n 4
      ∨ !allZero (b.drop (8 + n)) then some stBadParam
    else if qs.any (fun q => (s.queue? fn q).isNone) then some stNotFound
    else if qs.any (fun q => !s.isRxQueue fn q) then some stBadParam
    else none
  else
    let q := leAt b 4 1
    let bc := leAt b 5 1
    let hs := leAt b 6 2
    let ic := leAt b 8 2
    let pa := leAt b 0xC 4
    let ch := leAt b 0x10 1
    if p.paramLen ≠ 0x14 ∨ bc = 0 ∨ 63 < bc ∨ hs < 2 ∨ 4096 < hs ∨ ic = 0 ∨ 4096 < ic ∨ 10000 < leAt b 0xA 2
      ∨ pa / 2 ^ 20 % 2 ^ 11 ≠ 0 ∨ (63 < ch ∧ ch ≠ 0xFF) ∨ leAt b 0x11 3 ≠ 0 then some stBadParam
    else if (s.queue? fn q).isNone ∨ (ch ≠ 0xFF ∧ !f.channels.contains ch) then some stNotFound
    else none

/-- The effect of a QUEUE_SET_MAPPING at its switch instant (R442, R451). -/
def State.applyMapping (s : State) (b : List Byte) : State :=
  let fn := leAt b 0 3
  if leAt b 3 1 = 0 then
    let first := leAt b 4 1
    let n := leAt b 5 1
    s.modFunc fn (fun f =>
      { f with rssWritten := true,
               rss := (List.range n).foldl (fun t i => Tbl.put 0 t (first + i) (leAt b (8 + i) 1)) f.rss })
  else
    let q := leAt b 4 1
    let ch := leAt b 0x10 1
    let s := s.modQueue fn q (fun x =>
      { x.closeBatch with
        batchCount := leAt b 5 1, holdShare := leAt b 6 2, intCount := leAt b 8 2, rxHoldUs := leAt b 0xA 2,
        pasid := leAt b 0xC 4, channel := if ch = 0xFF ∨ x.kind != .dma then x.channel else some ch })
    match s.queue? fn q with
    | some x =>
      if ch = 0xFF ∨ x.kind != .dma then s
      else
        let old := s.channels.filter (fun (k, c) => c.binder == .queue fn q && k != dmaKey (mDie fn) ch && !c.busy)
        let s := old.foldl (fun s (k, _) => s.modDmaCh k (fun c => { c with binder := .none })) s
        s.modDmaCh (dmaKey (mDie fn) ch) (fun c => { c with binder := .queue fn q })
    | none => s

/-! ## Doorbells -/

/-- PACE_ACK (R448). -/
def execPaceAck (die chan bytes : Nat) (s : State) : Host.Outcome State Fault Refusal :=
  .next (if s.live die then s.modDmaCh (dmaKey die chan) (fun c => c.ack bytes) else s)

/-! ## Fetching -/

/-- A function's transmit count has fallen below three quarters of its budget (R352): QUEUED cells of its packets on
its home die. -/
def State.txCells (s : State) (fn : Nat) : Nat :=
  let t := s.tm (mDie fn)
  let mine := fun (l : List TmPkt) => ((l.filter (fun p => p.sourceKind == 1 && p.sourceId == fn)).map
    (fun p => cellsFor p.bytes.length)).sum
  (t.leaves.map (fun e => mine e.2.queue)).sum + (t.lanes.map (fun e => mine e.2.queue)).sum

/-- The budget's hysteresis brought up to date (R352). -/
def State.refreshBudget (s : State) (fn : Nat) : State :=
  let f := s.func fn
  if f.txHeld && decide (4 * s.txCells fn < 3 * f.txBudget) then s.setFunc fn { f with txHeld := false } else s

/-- TX_BUDGET of a function is set (R352, R370): a function that its cells have reached is held, and one below three quarters of
it goes on. -/
def State.setBudget (s : State) (fn budget : Nat) : State :=
  let s := s.modFunc fn (fun f => { f with txBudget := budget })
  if (s.func fn).txHeld then s.refreshBudget fn
  else if budget ≤ s.txCells fn then (s.modFunc fn (fun f => { f with txHeld := true })).tmStat (mDie fn) 0x40
  else s

/-- A control fetch of up to 8 entries, never beyond TAIL (R426); one that an Insecure IDE stream would carry fails (R118). -/
def State.fetchBurst (s : State) (fn queue : Nat) : State :=
  let s := s.refreshBudget fn
  match s.queue? fn queue with
  | none => s
  | some q =>
    let left := ringCount q.sqTail q.fetch
    let n := min 8 left
    if s.fetchStopped fn q || decide (left = 0) || decide (q.sqSize < left) || (s.controlRead fn queue).isSome
      || (s.tableRead fn queue).isSome then s
    else if s.ideBlocks fn (q.sqAddr q.fetch) then (s.reportTimeout fn queue 0).failControl fn queue q.fetch
    else (s.issueRead fn (.control queue q.fetch n) (64 * n)).getD s

/-- OWN_WAIT_RETRY (R426): the entry is read again once its wait has passed. -/
def execOwnWaitRetry (fn queue : Nat) (s : State) : Host.Outcome State Fault Refusal :=
  match s.queue? fn queue with
  | none => .next s
  | some q =>
    .next (if s.live (mDie fn) && q.ownWait && decide (q.ownSince + q.backoffUs * ticksPerUs ≤ s.dieTick (mDie fn)) then
      s.fetchBurst fn queue else s)

/-- One fetched entry, `left` entries of its burst from it on (R426, R434, R435): true when the fetcher goes on. It accepts an
entry only with a holding slot left for its completion, and none once the function is HALTED (R435, R439). The fragment table
of an indirect entry is a control fetch of its own, which `ready` says has come (R104, R443). -/
def State.takeEntry (s : State) (fn queue left : Nat) (ready : Bool) : State × Bool :=
  match s.queue? fn queue with
  | none => (s, false)
  | some q =>
    let b := s.hostRead fn (q.sqAddr q.fetch) 64
    if (s.func fn).halted || !s.slotsFor (mDie fn) q (q.inFlight + 1) then (s, false)
    else if bit (leAt b 3 1) 0 = false then
      let wait := if q.backoffUs = 0 then 1 else min 1000 (2 * q.backoffUs)
      (s.setQueue fn queue { q with ownWait := true, backoffUs := wait, ownSince := s.dieTick (mDie fn) }, false)
    else
      let f := s.func fn
      let dma := q.kind == .dma && leAt b 0 1 != 0x3F
      let addr := leAt b 0x20 8
      let size := 16 * leAt b 8 2
      if !dma && readsTable f q.kind b && !ready then
        if s.ideBlocks fn addr then ((s.reportTimeout fn queue 0).failControl fn queue q.fetch, false)
        else ((s.issueRead fn (.table queue q.fetch left) size).getD s, false)
      else
        let table := if !dma && readsTable f q.kind b then s.hostRead fn addr size else []
        let bad := if dma then checkDescriptor f true b else checkEntry f q.kind b table
        if bad ≠ 0 then (s.halt fn bad queue q.fetch, false)
        else
          let e := acceptEntry b table q.fetch
          let e := if dma then { e with frags := [], totalLen := 0, desc := b } else e
          let q' := { q with accepted := q.accepted ++ [e], fetch := (q.fetch + 1) % 65536, ownWait := false, backoffUs := 0,
                             retried := false }
          let s := s.setQueue fn queue q'
          let s := if q.kind == .tx && leAt b 0 1 != 0x3F then
              (s.issueRead fn (.payload queue e.index) e.totalLen).getD s else s
          (if dma then s.startQueueDma fn queue else s, true)

/-- Fetched entries taken one after another. -/
def State.takeEntries (s : State) (fn queue : Nat) : Nat → State
  | 0 => s
  | n + 1 =>
    match s.takeEntry fn queue (n + 1) false with
    | (s, true) => s.takeEntries fn queue n
    | (s, false) => s

/-- The entry whose fragment table has come, and the rest of its burst. -/
def State.takeTable (s : State) (fn queue n : Nat) : State :=
  match s.takeEntry fn queue n true with
  | (s, true) => s.takeEntries fn queue (n - 1)
  | (s, false) => s

/-- SQ_ENTRY_FETCHED (R426, R434): the fetched entries, or the fragment table of one, return and are checked. -/
def execSqEntryFetched (fn queue : Nat) (s : State) : Host.Outcome State Fault Refusal :=
  if s.live (mDie fn) && s.canIssue fn then
    match s.tableRead fn queue, s.controlRead fn queue with
    | some (k, _, n), _ => .next (({ s with tags := Tbl.del s.tags k }).takeTable fn queue n)
    | none, some (k, _, n) => .next (({ s with tags := Tbl.del s.tags k }).takeEntries fn queue n)
    | none, none => .next s
  else .next s

/-! ## Entries -/

/-- The accepted entry with an opcode that is still to be worked on. -/
def State.readyEntry (s : State) (fn queue index op : Nat) : Option (QueuePair × SubmitEntry) :=
  match s.queue? fn queue with
  | none => none
  | some q =>
    match q.entry? index with
    | some e => if e.phase = .reading ∧ e.opcode = op ∧ s.live (mDie fn) then some (q, e) else none
    | none => none

/-- The payload read of an accepted SEND or SEND_TSO ends; one that waits for a tag is issued once a tag is free (R93). An
element keeps one read outstanding at a time (log 110). -/
def State.sendWhenRead (s : State) (fn queue : Nat) (q : QueuePair) (e : SubmitEntry) : State :=
  match s.needRead fn (.payload queue e.index) e.totalLen with
  | some s => s.sendEntry fn queue q e
  | none => s

/-- SEND (R430): its payload reads end and its packet enters P1, unless the function is in forced pause (R444). -/
def execSend (fn queue index : Nat) (s : State) : Host.Outcome State Fault Refusal :=
  match s.readyEntry fn queue index 1 with
  | some (q, e) => .next (if s.canIssue fn && !q.forced then s.sendWhenRead fn queue q e else s)
  | none => .next s

/-- SEND_TSO (R432): one packet, split after the action program. -/
def execSendTso (fn queue index : Nat) (s : State) : Host.Outcome State Fault Refusal :=
  match s.readyEntry fn queue index 2 with
  | some (q, e) => .next (if s.canIssue fn && !q.forced then s.sendWhenRead fn queue q e else s)
  | none => .next s

/-- RX_POST (R433): one receive buffer is posted; a backlog that waited for it drains (R441). -/
def execRxPost (fn queue index : Nat) (s : State) : Host.Outcome State Fault Refusal :=
  match s.readyEntry fn queue index 0x10 with
  | some (q, _) =>
    let s := s.modQueue fn queue (fun q => q.modEntry index (fun e => { e with phase := .posted }))
    .next (if s.canIssue fn then s.drainBacklog fn queue q.backlog.length else s)
  | none => .next s

/-- NOP (Table 13.4): completes. -/
def execNop (fn queue index : Nat) (s : State) : Host.Outcome State Fault Refusal :=
  match s.readyEntry fn queue index 0x3F with
  | some _ => .next (s.finishEntry fn queue index 0 0)
  | none => .next s

/-- RX_DELIVER (R433, R441): a packet of the packet channel reaches a receive queue. -/
def execRxDeliver (fn queue : Nat) (pkt : TmPkt) (s : State) : Host.Outcome State Fault Refusal :=
  .next (if s.live (mDie fn) then s.deliverRx fn queue pkt else s)

/-- RX_HOLD_EXPIRY (R441): the oldest waiting packet, once RX_HOLD_US has passed it, is dropped. -/
def execRxHoldExpiry (fn queue : Nat) (s : State) : Host.Outcome State Fault Refusal :=
  match s.queue? fn queue with
  | none => .next s
  | some q =>
    match q.backlog with
    | [] => .next s
    | (since, p) :: rest =>
      if s.dieTick (mDie fn) < since + q.rxHoldUs * ticksPerUs then .next s
      else
        let s := s.setQueue fn queue { q with backlog := rest }
        let s := s.modFunc fn (fun f => { f.countNoSpace with rxHoldExpired := (f.rxHoldExpired + 1) % 2 ^ 64 })
        .next (s.freeTm (mDie fn) p)

/-- COMPLETION_WRITE (R436–R439): the slot it frees may let a waiting packet in (R441). -/
def execCompletionWrite (fn queue : Nat) (s : State) : Host.Outcome State Fault Refusal :=
  .next (if s.live (mDie fn) then (s.writeCompletion fn queue).drainBacklogs (mDie fn) else s)

/-- INTERRUPT_MODERATION_EXPIRY (R438): INT_USEC has passed since the first entry the host holds was written. -/
def execInterruptModerationExpiry (fn queue : Nat) (s : State) : Host.Outcome State Fault Refusal :=
  let due := fun (q : QueuePair) => q.writtenAt.head?.any (fun t => decide (t + q.intUsec * ticksPerUs ≤ s.dieTick (mDie fn)))
  .next (if s.live (mDie fn) && (s.queue? fn queue).any due then s.signalCheck fn queue true else s)

/-! ## DMA channels -/

/-- DMA_COPY (R446): up to `n` write requests of the COPY in progress. -/
def execDmaCopy (die chan n : Nat) (s : State) : Host.Outcome State Fault Refusal := .next (s.dmaStep die chan 0x20 n)

/-- DMA_FILL (R446). -/
def execDmaFill (die chan n : Nat) (s : State) : Host.Outcome State Fault Refusal := .next (s.dmaStep die chan 0x21 n)

/-- DMA_COMPARE (R446). -/
def execDmaCompare (die chan n : Nat) (s : State) : Host.Outcome State Fault Refusal := .next (s.dmaStep die chan 0x22 n)

/-- DMA_READ_BACK (R447): the read of the last written bytes completes. -/
def execDmaReadBack (die chan : Nat) (s : State) : Host.Outcome State Fault Refusal :=
  let k := dmaKey die chan
  let c := s.dmaCh k
  .next (if c.readBack && s.dmaLive k then (match s.dmaIssue k with
    | some s => s.endDma k 0 c.done
    | none => s) else s)

/-- DMA_PAUSE (R449): voluntary pause on or off. -/
def execDmaPause (die chan : Nat) (on : Bool) (s : State) : Host.Outcome State Fault Refusal :=
  .next (if s.live die then s.modDmaCh (dmaKey die chan) (fun c => { c with pause := on }) else s)

/-- DMA_ABORT (R449): the descriptor ends at once with ABORTED. -/
def execDmaAbort (die chan : Nat) (s : State) : Host.Outcome State Fault Refusal :=
  let k := dmaKey die chan
  let c := s.dmaCh k
  .next (if s.live die && c.busy then s.endDma k 0x07 c.done else s)

/-- A binder's GO: ignored while BUSY and from any other agent; a descriptor that fails its check halts the function
(R434, R445, R450, R453). -/
def State.dmaGo (s : State) (die chan binder : Nat) : State :=
  let k := dmaKey die chan
  let c := s.dmaCh k
  let host := match c.binder with
    | .none => true
    | .queue _ _ => true
    | _ => false
  let mine := match c.binder with
    | .thread t => mClass binder == 1 && mDie binder == die && mIndex binder / 72 == t % 432 / 72
    | b => b.identity == binder
  if host || c.busy || !mine then s
  else
    let bad := checkDescriptor (s.func (s.dmaFn k)) false c.elem
    if bad ≠ 0 then s.halt (s.dmaFn k) bad 0 0
    else
      let s := s.setDmaCh k { c with busy := true, i0 := 0, i1 := 0, i2 := 0, offset := 0, readBack := false }
      (s.dmaIssue k).getD s

/-- DMA_GO (R450). -/
def execDmaGo (die chan binder : Nat) (s : State) : Host.Outcome State Fault Refusal :=
  .next (if s.live die then s.dmaGo die chan binder else s)

/-- A binder's write of DMA_ELEM: while idle or paused; a write while BUSY and not paused only sets CFG_BUSY_WR
(R450, R453). -/
def State.dmaElemWrite (s : State) (die chan binder offset : Nat) (bytes : List Byte) : State :=
  let k := dmaKey die chan
  let c := s.dmaCh k
  let mine := match c.binder with
    | .thread t => mClass binder == 1 && mDie binder == die && mIndex binder / 72 == t % 432 / 72
    | .sequencer q => seqId q == binder
    | _ => false
  if !mine then s
  else if c.busy && !c.pause && !c.forced then s.setDmaCh k { c with cfgBusyWr := true }
  else s.setDmaCh k { c with elem := sub (overlay c.elem offset bytes) 0 64 }

/-- DMA_ELEM_WRITE (R450). -/
def execDmaElemWrite (die chan binder offset : Nat) (bytes : List Byte) (s : State) : Host.Outcome State Fault Refusal :=
  .next (if s.live die then s.dmaElemWrite die chan binder offset bytes else s)

/-! ## The command queue of PF0 -/

def Cmdq.slots (q : Cmdq) : Nat := 2 ^ q.log2Slots
def Cmdq.slotSize (q : Cmdq) : Nat := 2 ^ q.slotShift

/-- Host address of a slot: bits of the base below SLOT_SHIFT are ignored. -/
def Cmdq.slotAddr (q : Cmdq) (base i : Nat) : Nat := base / q.slotSize * q.slotSize + q.slotSize * (i % q.slots)

/-- Producer minus consumer, modulo 2^16 (R131). -/
def idxCount (producer consumer : Nat) : Nat := (producer + 65536 - consumer % 65536) % 65536

/-- The reply ring is full (R131). -/
def Cmdq.replyFull (q : Cmdq) : Bool := idxCount q.rplTail q.rplHead == q.slots

/-- A finished reply cannot be written, so fetching has stopped (R133). -/
def Cmdq.stalled (q : Cmdq) : Bool :=
  q.replyFull && (match q.replies with
    | (_, some _, _) :: _ => true
    | _ => false)

/-- CMDQ_CFG.IDLE. -/
def Cmdq.idle (q : Cmdq) : Bool := q.replies.isEmpty

/-- The fetch of the next request slot starts where one waits (R132, R133); one that an Insecure IDE stream would carry fails (R118). -/
def State.cmdqPump (s : State) (l : Nat) : State :=
  let q := s.cmdq l
  if q.enable && !q.fetching && q.reqTail != q.reqHead && !q.stalled && s.canIssue (pf0 l) then
    if s.ideBlocks (pf0 l) (q.slotAddr q.reqBase q.reqHead) then s.reportTimeout (pf0 l) 0x100 0
    else
      match s.issueRead (pf0 l) (.command q.reqHead) q.slotSize with
      | some s => s.setCmdq l { q with fetching := true }
      | none => s
  else s

end Sys2Proof.Machine
end

