-- ==== Sys2Proof/Machine/TmOps.lean ====
section
/-! DEFINITION. The tree of a traffic manager, admission to leaves and fabric lanes, shapers, and the gate schedule
(spec/10). -/

namespace Sys2Proof.Machine

/-! ## The tree -/

/-- Key of a node of levels 0–2. -/
def nodeKey (level index : Nat) : Nat := level * 65536 + index

def Tm.node? (t : Tm) (level index : Nat) : Option TmNode := Tbl.find t.nodes (nodeKey level index)
def Tm.setNode (t : Tm) (level index : Nat) (n : TmNode) : Tm := { t with nodes := Tbl.set t.nodes (nodeKey level index) n }
def Tm.leaf? (t : Tm) (i : Nat) : Option TmLeaf := Tbl.find t.leaves i
def Tm.setLeaf (t : Tm) (i : Nat) (l : TmLeaf) : Tm := { t with leaves := Tbl.set t.leaves i l }

/-- Indices of the nodes of a level below a parent, and of the leaves of a level-2 node, rising. -/
def Tm.below (t : Tm) (level parent : Nat) : List Nat :=
  (t.nodes.filter (fun (k, n) => k / 65536 == level && n.parent == parent)).map (fun e => e.1 % 65536)
def Tm.leavesOf (t : Tm) (l2 : Nat) : List Nat := (t.leaves.filter (fun (_, l) => l.parent == l2)).map (fun e => e.1)

/-- Leaves below a node. -/
def Tm.leavesBelow (t : Tm) (level index : Nat) : List Nat :=
  if level = 3 then [index]
  else if level = 2 then t.leavesOf index
  else if level = 1 then (t.below 2 index).flatMap t.leavesOf
  else (t.below 1 index).flatMap (fun i => (t.below 2 i).flatMap t.leavesOf)

/-- The port at the root of a node or leaf. -/
def Tm.portOf (t : Tm) (level index : Nat) : Option Nat :=
  let up1 := fun i => (t.node? 1 i).map (fun n => n.parent)
  let up2 := fun i => (t.node? 2 i).bind (fun n => up1 n.parent)
  if level = 0 then (t.node? 0 index).map (fun _ => index)
  else if level = 1 then up1 index
  else if level = 2 then up2 index
  else (t.leaf? index).bind (fun l => up2 l.parent)

/-- Cells and packets of a leaf. -/
def TmLeaf.cells (l : TmLeaf) : Nat := (l.queue.map TmPkt.cells).sum

/-- A node as a default tree makes it (R344). PRIO of levels 1 and 2 is not stated (log 21). -/
def defaultNode (parent lenAdjust : Nat) : TmNode :=
  { prio := 0, quantum := 144, parent := parent, lenAdjust := lenAdjust, shaper := Shaper.reset, deficit := 0, fresh := true,
    pointers := [], profile := false }

def defaultLeaf (parent tc : Nat) (profile : Bool) : TmLeaf :=
  { prio := tc, tc := tc, quantum := 144, parent := parent, maxCells := 16384, alpha := 3, dropCounter := none,
    shaper := Shaper.reset, deficit := 0, fresh := true, profile := profile, queue := [] }

/-- The default tree of a port is created (R344). -/
def Tm.createTree (t : Tm) (p : Nat) : Tm :=
  let t := ((t.setNode 0 p (defaultNode 0 20)).setNode 1 p (defaultNode p 0)).setNode 2 p (defaultNode p 0)
  (List.range 8).foldl (fun t c => t.setLeaf (8 * p + c) (defaultLeaf p c false)) t

/-- A packet of a leaf is discarded: its cells are freed and its stamp is not made. -/
def State.discardQueued (s : State) (die : Nat) (p : TmPkt) : State :=
  let s := (s.unqueueCells die p.cells).ingSub die p.ingKey p.cells
  match p.tx with
  | some x => s.stampEntry x none
  | none => s

/-- Every packet of a leaf is discarded and counted at the traffic manager, or at the port that went. -/
def State.flushLeaf (s : State) (die i : Nat) (port : Option Nat) : State :=
  match (s.tm die).leaf? i with
  | none => s
  | some l =>
    let s := s.modTm die (fun t => t.setLeaf i { l with queue := [], deficit := 0, fresh := true })
    l.queue.foldl (fun s p =>
      let s := match port with
        | some q => s.portStat q 0x1B8 1
        | none => s.tmStat die 0x18
      s.discardQueued die p) s

/-- Every node below a port is deleted, with its profiles and its gate control list (R345). -/
def State.deleteTree (s : State) (port : Nat) : State :=
  let die := port / 8
  let p := port % 8
  let t := s.tm die
  let leaves := t.leavesBelow 0 p
  let l1 := t.below 1 p
  let l2 := l1.flatMap (t.below 2)
  let s := leaves.foldl (fun s i => s.flushLeaf die i (some port)) s
  s.modTm die (fun t =>
    { t with
      leaves := t.leaves.filter (fun (k, _) => !leaves.contains k),
      nodes := t.nodes.filter (fun (k, _) => !(k == nodeKey 0 p || (k / 65536 == 1 && l1.contains (k % 65536))
        || (k / 65536 == 2 && l2.contains (k % 65536)))),
      profiles := t.profiles.filter (fun r => r.port != port), gates := Tbl.del t.gates p })

/-! ## Counter pairs (R292, R293) -/

/-- The updates of a line of four pairs held in the combining cache are written back (R293). -/
def Pipe.writeBack (p : Pipe) (line : Nat) : Pipe :=
  let mine := p.counterCache.filter (fun e => e.1 / 4 == line)
  { p with
    counters := mine.foldl (fun t (k, d) =>
      let v := Tbl.look (0, 0) t k
      Tbl.put (0, 0) t k ((v.1 + d.1) % 2 ^ 64, (v.2 + d.2) % 2 ^ 64)) p.counters,
    counterCache := p.counterCache.filter (fun e => e.1 / 4 != line) }

/-- An update of a pair by a packet of `n` bytes without FCS (R292) is combined with those held. A line that the cache does
not hold is asked of DRAM once, and the miss counts in second `sec` (R293). -/
def Pipe.update (p : Pipe) (sec pair n : Nat) : Pipe :=
  let d := Tbl.look (0, 0) p.counterCache pair
  let p := { p with counterCache := Tbl.put (0, 0) p.counterCache pair (d.1 + 1, d.2 + n + 4) }
  if p.counterLines.contains (pair / 4) || p.counterMisses.contains (pair / 4) then p
  else
    { p with
      counterMisses := p.counterMisses ++ [pair / 4], missSecond := sec,
      missCount := (if p.missSecond = sec then p.missCount else 0) + 1 }

/-- The line of a miss has come: with the 4,096 lines of the cache full it takes the place of line `victim`, whose changes
are written back (R293). -/
def Pipe.install (p : Pipe) (line victim : Nat) : Pipe :=
  let p := if p.counterLines.length < 4096 then p
    else { p.writeBack victim with counterLines := p.counterLines.filter (fun l => l != victim) }
  { p with counterLines := p.counterLines ++ [line], counterMisses := p.counterMisses.filter (fun l => l != line) }

/-- The second of a die's pipeline clock. -/
def State.secondOf (s : State) (die : Nat) : Nat := (s.dieTime die).tick / 1600000000

/-- A counter pair counts a packet (R292, R293). A die with no DRAM has no pairs (R295). -/
def State.countPair (s : State) (die pair n : Nat) : State :=
  if s.dramOf die = 0 then s else s.modPipe die (fun p => p.update (s.secondOf die) pair n)

/-- The action stage waits for counters: misses have passed 62,500,000 in the present second (R293, log 120). -/
def State.counterWaits (s : State) (die : Nat) : Bool :=
  decide ((s.pipe die).missSecond = s.secondOf die) && decide (62500000 < (s.pipe die).missCount)

/-! ## Admission (R346, R351–R353) -/

/-- Fields of a destination descriptor (Table 08.8). -/
def destKind (d : Nat) : Nat := bits d 31 28
def destPort (d : Nat) : Nat := bits d 27 22
def destLeaf (d : Nat) : Nat := bits d 15 0

/-- The leaf a packet for a port waits in (R346), none if it is dropped. -/
def Tm.leafFor (t : Tm) (p : TmPkt) : Option Nat :=
  let port := destPort p.dest
  let leaf := destLeaf p.dest
  let i :=
    if leaf ≠ 0xFFFF then leaf
    else
      match (if p.sourceKind = 1 then t.profiles.find? (fun r => r.fn == p.sourceId && r.port == port) else none) with
      | some r => r.leaves.getD p.tc 0xFFFF
      | none => 8 * (port % 8) + p.tc
  if (t.leaf? i).isSome ∧ t.portOf 3 i = some (port % 8) then some i else none

/-- The home die of a packet's source function is this one. -/
def TmPkt.homeHere (p : TmPkt) (die : Nat) : Bool := p.sourceKind == 1 && mDie p.sourceId == die

/-- The tests of R351–R353 for a queue of `queued` cells: none if the packet is admitted, or the counter of its drop. -/
def State.admits (s : State) (die queued maxCells alpha : Nat) (p : TmPkt) : Option Nat :=
  let free := s.sharedFree die
  let n := p.cells
  if ((s.tm die).cls p.ingressClass).lossless then none
  else if p.homeHere die then (if 0 < free then none else some 0x08)
  else if queued + n ≤ maxCells ∧ 8 * (queued + n) ≤ free * 2 ^ alpha then none
  else some 0x00

/-- A packet's cells, in PIPELINE, are freed and its drop counted. -/
def State.tmDrop (s : State) (die off : Nat) (p : TmPkt) : State :=
  let s := (s.tmStat die off).freeTm die p
  match p.tx with
  | some x => s.stampEntry x none
  | none => s

/-- A function's budget after a packet of it was queued on its home die (R352). -/
def State.budgetCheck (s : State) (die : Nat) (p : TmPkt) : State :=
  if p.homeHere die then
    let f := s.func p.sourceId
    if !f.txHeld && decide (f.txBudget ≤ s.txCells p.sourceId) then
      (s.setFunc p.sourceId { f with txHeld := true }).tmStat die 0x40
    else s
  else s

/-- A packet for a port reaches its die's traffic manager (R346, R351–R353): its cells are in PIPELINE. -/
def State.tmEnqueue (s : State) (die : Nat) (p : TmPkt) : State :=
  let t := s.tm die
  match t.leafFor p with
  | none => s.tmDrop die 0x10 p
  | some i =>
    match t.leaf? i with
    | none => s.tmDrop die 0x10 p
    | some l =>
      match s.admits die l.cells l.maxCells l.alpha p with
      | some off =>
        let s := s.tmDrop die off p
        match l.dropCounter, off with
        | some c, 0 => s.countPair die c p.bytes.length
        | _, _ => s
      | none =>
        let s := s.modTm die (fun t => t.setLeaf i { l with queue := l.queue ++ [p] })
        (s.queueCells die p.cells).budgetCheck die p

/-- A packet for another die joins the class lane of its fabric queue (R348, R351, R353). -/
def State.fabricEnqueue (s : State) (die dest : Nat) (p : TmPkt) : State :=
  let t := s.tm die
  let k := 8 * dest + p.tc
  let l := Tbl.look FabricLane.reset t.lanes k
  match s.admits die ((l.queue.map TmPkt.cells).sum) (t.cls p.tc).fabricMax 3 p with
  | some off => s.tmDrop die off p
  | none =>
    let s := s.modTm die (fun t => { t with lanes := Tbl.put FabricLane.reset t.lanes k { l with queue := l.queue ++ [p] } })
    (s.queueCells die p.cells).budgetCheck die p

/-! ## Shapers (R357–R359) -/

/-- One byte in token units. -/
def byteUnits : Nat := 12800000

/-- The time clock of a die, by which buckets are refilled. -/
def State.clockAt (s : State) (die : Nat) : Nat := (s.dieTime die).tick

/-- A bucket refilled for `dt` clocks. -/
def refill (tokens : Int) (rate size dt : Nat) : Int := min ((size * byteUnits : Nat) : Int) (tokens + ((dt * rate : Nat) : Int))

/-- A shaper brought up to date (R357). -/
def Shaper.at (h : Shaper) (now : Nat) : Shaper :=
  let dt := now - h.last
  { h with tokensC := refill h.tokensC h.cir h.cbs dt, tokensP := refill h.tokensP h.pir h.pbs dt, last := now }

/-- State of a shaper (R358): 0 COMMITTED, 1 EXCESS, 2 BLOCKED. -/
def Shaper.state (h : Shaper) : Nat :=
  if !h.enable then 0
  else if h.cir ≠ 0 ∧ 0 ≤ h.tokensC then 0
  else if h.pir = 0 ∨ 0 ≤ h.tokensP then 1
  else 2

/-- L_MAX in bytes (R356). -/
def schedMax : Nat := 9572

/-- Tokens less a packet of scheduling length `n`: a bucket never falls below −L_MAX (R357). -/
def spend (tokens : Int) (n : Nat) : Int := max (-((schedMax * byteUnits : Nat) : Int)) (tokens - ((n * byteUnits : Nat) : Int))

/-- A packet of scheduling length L is charged (R357). -/
def Shaper.charge (h : Shaper) (n : Nat) : Shaper :=
  if h.enable then { h with tokensC := spend h.tokensC n, tokensP := spend h.tokensP n } else h

/-- A shaper set by a change (R359): buckets full, or empty with RESET_TO. -/
def Shaper.start (enable : Bool) (cir cbs pir pbs : Nat) (zero : Bool) (now : Nat) : Shaper :=
  { enable := enable, cir := cir, cbs := cbs, pir := pir, pbs := pbs, tokensC := if zero then 0 else ((cbs * byteUnits : Nat) : Int),
    tokensP := if zero then 0 else ((pbs * byteUnits : Nat) : Int), last := now }

/-! ## Gate control lists (R361–R368) -/

/-- Offset in the cycle at a time (R361). -/
def GateList.offset (g : GateList) (t : Nat) : Nat := (((t : Int) - (g.base : Int)) % ((max 1 g.cycle : Nat) : Int)).toNat

/-- The first entry from `i` on whose cumulative interval exceeds `x`; the last stays in force to the end of the cycle. -/
def entryFrom : List (Nat × Nat × Nat) → Nat → Nat → Nat
  | [], i, _ => i - 1
  | (_, _, n) :: rest, i, x => if x < n then i else entryFrom rest (i + 1) (x - n)

/-- The entry in force at a time. -/
def GateList.entryAt (g : GateList) (t : Nat) : Nat := entryFrom g.entries 0 (g.offset t)

/-- Start of each entry in the cycle, entries that the cycle cuts off left out. -/
def GateList.starts (g : GateList) : List (Nat × Nat × Nat) :=
  (g.entries.foldl (fun (acc : List (Nat × Nat × Nat) × Nat) e =>
    (if acc.2 < g.cycle then acc.1 ++ [(acc.2, e.1, e.2.1)] else acc.1, acc.2 + e.2.2)) ([], 0)).1

/-- Nanoseconds from time `t` to the next instant at which the list has gate `c` closed (`want` false) or open. -/
def GateList.untilGate (g : GateList) (c t : Nat) (want : Bool) : Option Nat :=
  let x := g.offset t
  let hits := g.starts.filter (fun (_, _, m) => bit m c == want)
  let later := hits.filter (fun (st, _, _) => decide (x < st))
  match later, hits with
  | (st, _, _) :: _, _ => some (st - x)
  | [], (st, _, _) :: _ => some (g.cycle - x + st)
  | [], [] => none

/-- The cycle a list is in at a time. -/
def GateList.cycleOf (g : GateList) (t : Nat) : Int := ((t : Int) - (g.base : Int)) / ((max 1 g.cycle : Nat) : Int)

/-- The old list's last cycle boundary before TAKEOVER (R367). -/
def GateList.lastBoundary (g : GateList) (takeover : Nat) : Nat :=
  g.base + (takeover - 1 - g.base) / max 1 g.cycle * g.cycle

/-- The instant from which the old list changes no gate: TAKEOVER, or the boundary at which its last entry is extended (R367). -/
def GateList.lastRun (g : GateList) (takeover : Nat) : Nat :=
  if takeover - g.lastBoundary takeover < g.extension then g.lastBoundary takeover else takeover

/-- Entries that begin between entry `e0` of cycle `c0` and entry `e1` of cycle `c1`; a list that a step has moved begins its entry
for the new time (R361, R368). -/
def GateList.passed (g : GateList) (c0 : Int) (e0 : Nat) (c1 : Int) (e1 : Nat) : List Nat :=
  if c1 = c0 ∧ e0 ≤ e1 then (List.range (e1 + 1)).drop (e0 + 1)
  else if c1 = c0 + 1 then (List.range g.starts.length).drop (e0 + 1) ++ List.range (e1 + 1)
  else [e1]

/-- Nanoseconds to the next closing of gate `c` of a port, its pending list included (R364, R366, R367). -/
def GateCtl.untilClose (g : GateCtl) (c t : Nat) : Option Nat :=
  let now := g.running.bind (fun l => l.untilGate c t false)
  match g.next with
  | none => now
  | some n =>
    let left := n.takeover - t
    let first := match n.entries with
      | (_, m, _) :: _ => bit m c
      | [] => true
    let later := if first then (n.untilGate c n.takeover false).map (fun e => left + e) else some left
    match now, g.running with
    | some d, some l => if t + d < l.lastRun n.takeover then some d else later
    | _, _ => later

end Sys2Proof.Machine
end

