-- ==== Sys2Proof/Machine/PortOps.lean ====
section
/-! DEFINITION. What a port's MAC does to a frame on its way out, and the register values of a port (spec/06 R197–R206,
spec/11 R386–R392). Frames are held without their FCS. -/

namespace Sys2Proof.Machine

/-! ## Checksums (R206) -/

/-- Sum of the 16-bit big-endian words of a byte string, an odd last byte padded with zero. -/
def wordSum : List Byte → Nat
  | a :: b :: rest => a.toNat * 256 + b.toNat + wordSum rest
  | [a] => a.toNat * 256
  | [] => 0

/-- A sum folded to 16 bits in one's-complement arithmetic. -/
def fold16 (n : Nat) : Nat := if n = 0 then 0 else (n - 1) % 65535 + 1

/-- The checksum of a sum: its complement. -/
def csumOf (n : Nat) : Nat := 65535 - fold16 n

/-- Is the header at an offset IPv4? -/
def isIp4 (f : List Byte) (o : Nat) : Bool := beAt f o 1 / 16 == 4

/-- The IPv4 header checksum at an offset inserted. -/
def putIp4Csum (f : List Byte) (o : Nat) : List Byte :=
  if o = 0xFFFF then f
  else
    let len := beAt f o 1 % 16 * 4
    let h := overlay (sub f o len) 10 [0, 0]
    overlay f (o + 10) (toBe 2 (csumOf (wordSum h)))

/-- Sum of the pseudo-header of an L4 segment of `n` bytes. -/
def pseudoSum (f : List Byte) (l3 proto n : Nat) : Nat :=
  if isIp4 f l3 then wordSum (sub f (l3 + 12) 8) + proto + n
  else wordSum (sub f (l3 + 8) 32) + proto + n

/-- Length of the L4 segment at an offset by its IP header. -/
def segLen (f : List Byte) (l3 l4 : Nat) : Nat :=
  if isIp4 f l3 then beAt f (l3 + 2) 2 - (l4 - l3) else beAt f (l3 + 4) 2 + 40 - (l4 - l3)

/-- The protocol byte of the IP header at an offset. -/
def protoAt (f : List Byte) (l3 : Nat) : Nat := if isIp4 f l3 then beAt f (l3 + 9) 1 else beAt f (l3 + 6) 1

/-- The TCP or UDP checksum at an offset inserted (R206, R431): a UDP result of 0 is sent as 0xFFFF. -/
def putL4Csum (f : List Byte) (l3 l4 : Nat) : List Byte :=
  if l3 = 0xFFFF ∨ l4 = 0xFFFF then f
  else
    let proto := protoAt f l3
    let n := segLen f l3 l4
    if proto = 6 ∨ proto = 17 then
      let at_ := if proto = 6 then l4 + 16 else l4 + 6
      let seg := sub (overlay f at_ [0, 0]) l4 n
      let c := csumOf (wordSum seg + pseudoSum f l3 proto n)
      overlay f at_ (toBe 2 (if proto = 17 ∧ c = 0 then 0xFFFF else c))
    else f

/-- The checksums a submit entry asks for: inner first, then outer (R206, R431). -/
def insertCsums (x : TxInfo) (f : List Byte) : List Byte :=
  let o := fun i => x.offs.getD i 0
  let f := if bit x.csumFlags 2 then putIp4Csum f (o 2) else f
  let f := if bit x.csumFlags 3 then putL4Csum f (o 2) (o 3) else f
  let f := if bit x.csumFlags 0 then putIp4Csum f (o 0) else f
  if bit x.csumFlags 1 then putL4Csum f (o 0) (o 1) else f

/-! ## PTP event frames (R389–R392) -/

/-- Offset of the first byte after the Ethernet header and at most two VLAN tags, and its EtherType. -/
def afterTags (f : List Byte) : Nat × Nat :=
  let tag := fun t => t == 0x8100 || t == 0x88A8
  let t0 := beAt f 12 2
  if tag t0 then
    let t1 := beAt f 16 2
    if tag t1 then (22, beAt f 20 2) else (18, t1)
  else (14, t0)

/-- The PTP header of an event frame: its offset, and the offset of the UDP checksum if it has one (R389). -/
def ptpAt (f : List Byte) : Option (Nat × Option Nat) :=
  let (o, t) := afterTags f
  let found : Option (Nat × Option Nat) :=
    if t = 0x88F7 then some (o, none)
    else if t = 0x0800 ∧ beAt f o 1 = 0x45 ∧ beAt f (o + 6) 2 % 16384 = 0 ∧ beAt f (o + 9) 1 = 17 ∧ beAt f (o + 22) 2 = 319 then
      some (o + 28, some (o + 26))
    else if t = 0x86DD ∧ beAt f (o + 6) 1 = 17 ∧ beAt f (o + 42) 2 = 319 then some (o + 48, some (o + 46))
    else none
  match found with
  | some (p, u) => if p + 34 ≤ f.length ∧ beAt f (p + 1) 1 % 16 = 2 ∧ beAt f p 1 % 16 ≤ 3 then some (p, u) else none
  | none => none

/-- Residence in units of 2^-16 ns, to the nearest (R391). -/
def residence (rate inTick outTick : Nat) : Nat := ((outTick - inTick) * rate + 2 ^ 31) / 2 ^ 32

/-- correctionField raised by an amount, modulo 2^64. -/
def addCorrection (f : List Byte) (p n : Nat) : List Byte := overlay f (p + 8) (toBe 8 ((beAt f (p + 8) 8 + n) % 2 ^ 64))

/-- originTimestamp set from whole nanoseconds. -/
def setOrigin (f : List Byte) (p ns : Nat) : List Byte := overlay f (p + 34) (toBe 6 (ns / 1000000000) ++ toBe 4 (ns % 1000000000))

/-- The change of R390 to a recognised frame, none where nothing is changed; true where twoStepFlag keeps it. -/
def ptpChange (f : List Byte) (p : Nat) (forwarded : Bool) (oneStep : Bool) (tcMode stamp res : Nat) (peerDelay : Int) :
    Option (List Byte) × Bool :=
  let kind := beAt f p 1 % 16
  let twoStep := bit (beAt f (p + 6) 1) 1 && (kind == 0 || kind == 3)
  if twoStep then (none, true)
  else if forwarded then
    if tcMode = 1 then (some (addCorrection f p res), false)
    else if tcMode = 2 ∧ kind = 0 then (some (addCorrection f p (unsigned 64 ((res : Int) + peerDelay))), false)
    else (none, false)
  else if oneStep then
    if kind = 0 then (some (addCorrection (setOrigin f p (stamp / 65536)) p (stamp % 65536)), false)
    else if kind = 3 then (some (addCorrection f p (stamp % 2 ^ 64)), false)
    else (none, false)
  else (none, false)

/-- The UDP checksum updated for a changed PTP message (R392). -/
def ptpCsum (old new : List Byte) (p : Nat) : Option Nat → List Byte
  | none => new
  | some u =>
    let c := beAt old u 2
    if c = 0 then new
    else
      let d := wordSum (new.drop p) + (65535 - fold16 (wordSum (old.drop p)))
      let c' := csumOf (65535 - c + d)
      overlay new u (toBe 2 (if c' = 0 then 0xFFFF else c'))

/-! ## Sending -/

/-- A stamp moved by a signed number of picoseconds (R386). -/
def moveStamp (stamp : Nat) (ps : Int) : Nat := unsigned 80 ((stamp : Int) + ps * 65536 / 1000)

/-- A PTP counter of a port raised (Table 11.6). -/
def State.ptpStat (s : State) (port off : Nat) : State :=
  s.modPort port (fun p => { p with ptpCounters := Tbl.put 0 p.ptpCounters off ((Tbl.look 0 p.ptpCounters off + 1) % 2 ^ 64) })

/-- The one-step correction of a frame that leaves, with its counters (R390–R392). -/
def State.correct (s : State) (port stamp : Nat) (k : TmPkt) (f : List Byte) : State × List Byte :=
  match ptpAt f with
  | none => (s, f)
  | some (o, u) =>
    let p := s.port port
    let res := residence s.timeModel.rate k.inTick (s.tickAt (port / 8))
    let one := match k.tx with
      | some x => x.oneStep
      | none => false
    match ptpChange f o (k.sourceKind == 0) one p.ptp.inEffect.tcMode stamp res k.peerDelay with
    | (some g, _) => (s.ptpStat port 0x00, ptpCsum f g o u)
    | (none, true) => ((s.ptpStat port 0x08).ptpStat port 0x10, f)
    | (none, false) => (s.ptpStat port 0x10, f)

/-- Speed of a port in Gb/s by its code (Table 06.2). -/
def speedGbps (code : Nat) : Nat :=
  match code with
  | 7 => 800
  | 6 => 400
  | 5 => 200
  | 4 => 100
  | 3 => 50
  | 2 => 25
  | _ => 10

/-- Ticks of the time clock that a frame of `len` bytes takes on the line of a port. -/
def Port.lineTicks (p : Port) (len : Nat) : Nat := ceilDiv (len * 64) (5 * speedGbps p.speed)

/-- A frame of a class is preemptable now on a port (R200, R364). -/
def Port.preemptable (p : Port) (c : Nat) : Bool := p.preemptActive && !bit p.preempt.inEffect.expressPrio c

/-- A frame that the traffic manager starts on a port (R190, R199–R201, R206, R388): its cells are freed. A preemptable frame is
in progress until its end; any other is sent whole. -/
def State.transmit (s : State) (port : Nat) (k : TmPkt) : State :=
  let die := port / 8
  let s := (s.unqueueCells die k.cells).ingSub die k.ingKey k.cells
  let lost := fun (s : State) => match k.tx with
    | some x => s.stampEntry x none
    | none => s
  let p := (s.port port).txSafe
  if p.phase ≠ .up then lost (s.portStat port 0x1B8 1)
  else
    let s := (s.clearLine port (!p.preemptable k.tc)).modPort port Port.txSafe
    let len := k.bytes.length + 4
    if p.cfg.inEffect.maxFrame < len then lost (s.portStat port 0x1C0 1)
    else
      let stamp := moveStamp (s.stampAt die) p.ptp.inEffect.txAdj
      let f := match k.tx with
        | some x => insertCsums x k.bytes
        | none => k.bytes
      let (s, f) := s.correct port stamp k f
      let s := match k.tx with
        | some x => s.stampEntry x (some stamp)
        | none => s
      if p.preemptable k.tc then
        s.modPort port (fun p =>
          { p with partialTx := some { bytes := f, sent := 0, frame := p.txFrame, frag := 0, cut := false, tc := k.tc },
                   txFrame := (p.txFrame + 1) % 4 })
      else
        let ends := s.clockAt die + p.lineTicks len
        ((s.countSent port len (castOff f)).modPort port (fun p => { p with lastWhole := some (k.tc, ends) })).emit (.frame port f)

/-! ## Registers -/

/-- Lanes of a port as PORT_STATUS shows them: the replaced lane stands for lane 8. -/
def State.portLanes (s : State) (port : Nat) : Nat :=
  let p := s.port port
  (2 ^ p.lanes - 1) * 2 ^ (port % 8)

def State.portStatus (s : State) (port : Nat) : Nat :=
  let p := s.port port
  let up := decide (p.phase = .up)
  b2n up + 2 * (if up then p.speed else 0) + 2 ^ 4 * (if up || p.anDone then p.fec else 0) + 2 ^ 6 * b2n p.anDone + 2 ^ 7 * b2n p.sparingAvailable
    + 2 ^ 8 * b2n p.txSynce + 2 ^ 16 * s.portLanes port

def PortCfg.code (c : PortCfg) : Nat :=
  c.maxFrame + 2 ^ 14 * b2n c.filterMode + 2 ^ 15 * b2n c.acceptBcast + 2 ^ 16 * b2n c.acceptMcast + 2 ^ 17 * b2n c.udp6ZeroOk

def PreemptCfg.code (c : PreemptCfg) : Nat :=
  b2n c.enable + 2 * b2n c.verifyDisable + 4 * c.addFrag + 16 * c.verifyTime + 2 ^ 16 * c.expressPrio

def PfcCfg.code (c : PfcCfg) : Nat := c.mode + 2 ^ 8 * c.rxHonor + 2 ^ 16 * c.txAllow + 2 ^ 24 * c.watchdogMs

def Verify.code : Verify → Nat
  | .disabled => 0
  | .initial => 1
  | .verifying => 2
  | .succeeded => 3
  | .failed => 4

def Port.preemptStatus (p : Port) : Nat :=
  p.verify.code + 8 * b2n p.preemptActive + 16 * b2n (p.hold && p.preempt.inEffect.enable)

/-- SPARE_STATUS of a die. -/
def State.spareStatus (s : State) (die : Nat) : Nat :=
  let b := s.portBlock die
  b.sparePort + 2 ^ 6 * b2n b.spareWired + 2 ^ 7 * b2n b.spareInUse + 2 ^ 8 * b.replacedLane

/-- MAC_MATCH of a destination address (Table 06.7): the first octet of ADDRESS is in bits [7:0]. -/
def RxRules.macMatch (r : RxRules) (f : List Byte) : Nat :=
  let a := leAt f 0 6
  let hit := (List.range 64).find? (fun n =>
    let e := Tbl.look 0 r.filter n
    bit e 48 && e % 2 ^ 48 == a)
  match hit with
  | some n => n
  | none =>
    if beAt f 0 6 = 0xFFFFFFFFFFFF ∧ r.cfg.acceptBcast = true then 64
    else if bit (beAt f 0 1) 0 ∧ r.cfg.acceptMcast = true then 65
    else 127

/-- PCP of the first VLAN tag of a frame, 0 untagged: the ingress class of a frame from a port (R346). -/
def frameClass (f : List Byte) : Nat :=
  let t := beAt f 12 2
  if t = 0x8100 ∨ t = 0x88A8 then beAt f 14 1 / 32 else 0

/-- A frame goes out of the admission queue of its port with its ingress count. -/
def ingOfPort (port : Nat) (f : List Byte) : Nat := port % 8 * 8 + frameClass f

end Sys2Proof.Machine
end

