-- ==== Sys2Proof/Machine/Parser.lean ====
section
/-! DEFINITION. The parser of a pipeline: the walk of the parse graph, the layers of the onion, the header vector, the
checksum results (spec/07 R223–R230). -/

namespace Sys2Proof.Machine

/-! ## Tempo order (R311) -/

/-- Tempo `a` is earlier than tempo `b` (R311). -/
def earlier (a b : Nat) : Bool :=
  let d := (b + 2 ^ 32 - a % 2 ^ 32) % 2 ^ 32
  decide (1 ≤ d) && decide (d ≤ 2 ^ 31 - 1)

/-- A version is valid at a tempo (R311). -/
def validAt (born : Nat) (retired : Option Nat) (p : Nat) : Bool :=
  !earlier p born && (match retired with
    | none => true
    | some r => earlier p r)

/-! ## Headers -/

/-- Kinds of header (Table 07.2). -/
def hkEthernet : Nat := 1
def hkVlan : Nat := 2
def hkMpls : Nat := 3
def hkIp4 : Nat := 4
def hkIp6 : Nat := 5
def hkExt : Nat := 6
def hkSrh : Nat := 7
def hkUdp : Nat := 8
def hkTcp : Nat := 9
def hkVxlan : Nat := 10
def hkGeneve : Nat := 11
def hkGre : Nat := 12
def hkEsp : Nat := 13
def hkMacsec : Nat := 14

/-- A layer descriptor (Table 07.6); 0xFFFF is an offset not set. -/
structure Layer where
  l2 : Nat
  l3 : Nat
  l4 : Nat
  tunnel : Nat
  l3Kind : Nat
  l4Kind : Nat
  tunnelKind : Nat
  vlans : Nat
  mpls : Nat
  flags : Nat
  deriving DecidableEq, Repr

def Layer.empty : Layer :=
  { l2 := 0xFFFF, l3 := 0xFFFF, l4 := 0xFFFF, tunnel := 0xFFFF, l3Kind := 0, l4Kind := 0, tunnelKind := 0, vlans := 0, mpls := 0,
    flags := 0 }

/-- The 16 bytes of a layer descriptor; counts saturate at 15. -/
def Layer.bytes (l : Layer) : List Byte :=
  toLe 2 l.l2 ++ toLe 2 l.l3 ++ toLe 2 l.l4 ++ toLe 2 l.tunnel ++ toLe 1 l.l3Kind ++ toLe 1 l.l4Kind ++ toLe 1 l.tunnelKind ++
    toLe 1 (min 15 l.vlans + 16 * min 15 l.mpls) ++ toLe 1 l.flags ++ toLe 3 0

/-- A layer descriptor read back from its bytes. -/
def layerOf (b : List Byte) : Layer :=
  { l2 := leAt b 0 2, l3 := leAt b 2 2, l4 := leAt b 4 2, tunnel := leAt b 6 2, l3Kind := leAt b 8 1, l4Kind := leAt b 9 1,
    tunnelKind := leAt b 10 1, vlans := leAt b 11 1 % 16, mpls := leAt b 11 1 / 16, flags := leAt b 12 1 }

/-- Parse end codes (Table 07.3). -/
def peEnd : Nat := 0
def peDepth : Nat := 1
def peOnion : Nat := 2
def peStack : Nat := 3
def peTruncated : Nat := 4
def peNode : Nat := 5
def peSteps : Nat := 6

/-- A header of a graph at a place of the frame: what its node says of it there. -/
structure Hdr where
  kind : Nat
  newLayer : Bool
  terminal : Bool
  len : Nat
  stackMax : Nat
  next : Nat
  extracts : List (Nat × Nat × Nat)

/-- Where a header starts: a MACSEC header starts 2 bytes before the parser's position (R224). -/
def hdrStart (kind pos : Nat) : Nat := if kind = hkMacsec then pos - 2 else pos

/-- The length of a header whose kind fixes it (Table 07.2). -/
def kindLen (kind start : Nat) (f : List Byte) (other : Nat) : Nat :=
  if kind = hkGre then
    let b := beAt f start 1
    4 + 4 * (b2n (bit b 7) + b2n (bit b 5) + b2n (bit b 4))
  else if kind = hkMacsec then (if bit (beAt f (start + 2) 1) 5 then 16 else 8)
  else other

/-- A node of a custom graph at a position (Table 07.1). -/
def ParseNode.at (n : ParseNode) (f : List Byte) (pos : Nat) : Hdr :=
  let start := hdrStart n.kind pos
  let var := if n.varLen then (beAt f (start + n.lenOffset) 1 / 2 ^ n.lenShift &&& n.lenMask) * n.lenScale else 0
  let sel := beAt f (start + n.selOffset) 4 &&& n.selMask
  { kind := n.kind, newLayer := n.newLayer, terminal := n.terminal, len := kindLen n.kind start f (n.lenFixed + var),
    stackMax := n.stackMax,
    next := ((n.transitions.find? (fun t => t.1 == sel)).map (fun t => t.2)).getD n.defaultNext, extracts := n.extracts }

/-! ## The standard graph (R266, log 25)

A node is numbered by the kind of header, 14 more than the highest for the EtherType that follows a clear SecTAG, 16 more
where it begins a layer, and 32 for each layer. -/

/-- The node an EtherType leads to, within a layer. -/
def byEtype (t : Nat) : Nat :=
  if t = 0x8100 ∨ t = 0x88A8 then hkVlan
  else if t = 0x8847 ∨ t = 0x8848 then hkMpls
  else if t = 0x0800 then hkIp4
  else if t = 0x86DD then hkIp6
  else if t = 0x88E5 then hkMacsec
  else 0xFFFF

/-- The node an IP protocol number leads to. -/
def byProto (v6 : Bool) (p : Nat) : Nat :=
  if p = 6 then hkTcp
  else if p = 17 then hkUdp
  else if p = 47 then hkGre
  else if p = 50 then hkEsp
  else if p = 4 then 16 + hkIp4
  else if p = 41 then 16 + hkIp6
  else if p = 143 then 16 + hkEthernet
  else if p = 137 then 16 + hkMpls
  else if v6 ∧ p = 43 then hkSrh
  else if v6 ∧ (p = 0 ∨ p = 44 ∨ p = 60) then hkExt
  else 0xFFFF

/-- The node the protocol type of a GRE or Geneve header leads to: each begins a layer. -/
def byTunnel (t : Nat) : Nat :=
  if t = 0x6558 then 16 + hkEthernet
  else if t = 0x0800 then 16 + hkIp4
  else if t = 0x86DD then 16 + hkIp6
  else if t = 0x8847 then 16 + hkMpls
  else 0xFFFF

/-- A header of the standard graph. -/
def stdHdr (node : Nat) (f : List Byte) (pos : Nat) : Hdr :=
  let base := node % 16
  let kind := if node = 0 then hkEthernet else if base = 15 then 0 else base
  let start := hdrStart kind pos
  let byte := fun o => beAt f (start + o) 1
  let len :=
    if kind = hkEthernet then 14
    else if kind = 0 then 2
    else if kind = hkVlan ∨ kind = hkMpls then 4
    else if kind = hkIp4 then byte 0 % 16 * 4
    else if kind = hkIp6 then 40
    else if kind = hkExt ∨ kind = hkSrh then (byte 1 + 1) * 8
    else if kind = hkTcp then byte 12 / 16 * 4
    else if kind = hkGeneve then 8 + byte 0 % 64 * 4
    else kindLen kind start f 8
  let next :=
    if kind = hkEthernet then byEtype (beAt f (start + 12) 2)
    else if kind = hkVlan then byEtype (beAt f (start + 2) 2)
    else if kind = 0 then byEtype (beAt f start 2)
    else if kind = hkMpls then
      if !bit (byte 2) 0 then hkMpls
      else if byte 4 / 16 = 4 then hkIp4
      else if byte 4 / 16 = 6 then hkIp6
      else 0xFFFF
    else if kind = hkIp4 then byProto false (byte 9)
    else if kind = hkIp6 then byProto true (byte 6)
    else if kind = hkExt ∨ kind = hkSrh then byProto true (byte 0)
    else if kind = hkUdp then
      if beAt f (start + 2) 2 = 4789 then hkVxlan else if beAt f (start + 2) 2 = 6081 then hkGeneve else 0xFFFF
    else if kind = hkVxlan then 16 + hkEthernet
    else if kind = hkGre ∨ kind = hkGeneve then byTunnel (beAt f (start + 2) 2)
    else if kind = hkMacsec then 15
    else 0xFFFF
  { kind := kind, newLayer := decide (node / 16 % 2 = 1), terminal := false, len := len,
    stackMax := if kind = hkVlan then 2 else if kind = hkMpls ∨ kind = hkExt then 7 else 0, next := next, extracts := [] }

/-- A node of a bank at a position. -/
def Bank.hdr (b : Bank) (node : Nat) (f : List Byte) (pos : Nat) : Hdr :=
  if b.standard then stdHdr node f pos
  else match Tbl.find b.nodes node with
    | some n => n.at f pos
    | none => { kind := 0, newLayer := false, terminal := false, len := 0, stackMax := 0, next := 0xFFFE, extracts := [] }

/-- A header recorded: kind, layer and start. -/
abbrev HdrAt := Nat × Nat × Nat

/-- What the walk has found. -/
structure Parse where
  pos : Nat
  layer : Nat
  layers : List Layer
  vector : List Byte
  /-- Headers in parse order. -/
  hdrs : List HdrAt
  code : Nat
  deriving DecidableEq, Repr

/-- An IPv6 extension header is a Fragment header: the header before it names 44. -/
def isFragment (f : List Byte) (hdrs : List HdrAt) : Bool :=
  match hdrs.getLast? with
  | some (k, _, o) => if k = hkIp6 then beAt f (o + 6) 1 == 44 else (k == hkExt || k == hkSrh) && beAt f o 1 == 44
  | none => false

/-- The layer descriptor after a header of a kind at an offset (Table 07.2, R227). -/
def Layer.record (l : Layer) (kind start : Nat) (f : List Byte) (frag : Bool) : Layer :=
  if kind = hkEthernet then (if l.l2 = 0xFFFF then { l with l2 := start } else l)
  else if kind = hkVlan then { l with vlans := l.vlans + 1 }
  else if kind = hkMpls then { l with mpls := l.mpls + 1 }
  else if kind = hkIp4 then
    let fo := beAt f (start + 6) 2
    let fl := b2n (decide (5 < beAt f start 1 % 16)) * 4 + (if fo % 8192 ≠ 0 then 16 else if bit fo 13 then 8 else 0)
    let l := { l with flags := l.flags ||| fl }
    if l.l3 = 0xFFFF then { l with l3 := start, l3Kind := kind } else l
  else if kind = hkIp6 then (if l.l3 = 0xFFFF then { l with l3 := start, l3Kind := kind } else l)
  else if kind = hkExt then
    let fo := beAt f (start + 2) 2
    let fl := 2 + (if frag then (if fo / 8 ≠ 0 then 16 else if bit fo 0 then 8 else 0) else 0)
    { l with flags := l.flags ||| fl }
  else if kind = hkSrh then { l with flags := l.flags ||| 1 }
  else if kind = hkUdp ∨ kind = hkTcp then (if l.l4 = 0xFFFF then { l with l4 := start, l4Kind := kind } else l)
  else if kind = hkEsp ∨ (kind = hkMacsec ∧ bit (beAt f (start + 2) 1) 3) then { l with tunnel := start, tunnelKind := kind }
  else l

/-- A change of one layer. -/
def modLayer (ls : List Layer) (i : Nat) (g : Layer → Layer) : List Layer :=
  ls.zipIdx.map (fun (l, k) => if k = i then g l else l)

/-- A header ends the parse with END by its kind (Table 07.2). -/
def endsParse (kind start : Nat) (f : List Byte) (frag : Bool) : Bool :=
  (kind == hkIp4 && decide (beAt f (start + 6) 2 % 8192 ≠ 0)) || (kind == hkExt && frag && decide (beAt f (start + 2) 2 / 8 ≠ 0))
    || kind == hkEsp || (kind == hkMacsec && bit (beAt f (start + 2) 1) 3)

/-- What extraction command `i` reads at a header (Table 07.2, R230). -/
def extractBytes (kind start i src len : Nat) (f : List Byte) : List Byte :=
  if i = 0 ∧ kind = hkMpls then toBe 4 (beAt f start 4 / 2 ^ 12)
  else if i = 0 ∧ kind = hkSrh then
    let left := beAt f (start + 3) 1
    if left = 0 then List.replicate 16 0 else sub f (start + 8 + 16 * (left - 1)) 16
  else sub f (start + src) len

/-- Extraction commands of a header at its repetition `reps` (R230). -/
def runExtracts (v : List Byte) (h : Hdr) (start reps : Nat) (f : List Byte) : List Byte :=
  h.extracts.zipIdx.foldl (fun v ((src, len, dest), i) =>
    if len = 0 ∨ (0 < reps ∧ (0 < i ∨ 4 ≤ reps)) then v
    else
      let bs := extractBytes h.kind start i src len f
      let n := if i = 0 then len * reps else 0
      sub (overlay v (dest + n) bs) 0 512) v

/-- The walk of R224. `std` marks the standard graph, whose nodes are of one layer each; MPLS headers follow themselves
there wherever the first began a layer. -/
def walk (b : Bank) (f : List Byte) : Nat → Nat → Nat → Parse → Parse
  | 0, _, _, p => { p with code := peSteps }
  | fuel + 1, node, reps, p =>
    let h := b.hdr node f p.pos
    let start := hdrStart h.kind p.pos
    if 512 < start + h.len then { p with code := peDepth }
    else if f.length < start + h.len then { p with code := peTruncated }
    else
      let fresh := h.newLayer && decide (0 < p.pos)
      if fresh && decide (p.layer = 3) then { p with code := peOnion }
      else
        let layers := match fresh, p.hdrs.getLast? with
          | true, some (k, _, o) => modLayer p.layers p.layer (fun l => { l with tunnel := o, tunnelKind := k })
          | _, _ => p.layers
        let layer := if fresh then p.layer + 1 else p.layer
        let frag := isFragment f p.hdrs
        let p := { p with
          layer := layer, layers := modLayer layers layer (fun l => l.record h.kind start f frag),
          vector := runExtracts p.vector h start reps f, hdrs := p.hdrs ++ [(h.kind, layer, start)], pos := start + h.len }
        let next :=
          if b.standard ∧ h.next < 0xFFFE then h.next + 32 * (if 16 ≤ h.next then layer + 1 else layer) else h.next
        if endsParse h.kind start f frag || h.terminal || decide (next = 0xFFFF) then { p with code := peEnd }
        else if next = 0xFFFE then { p with code := peNode }
        else if next = node ∨ (b.standard ∧ next % 16 = hkMpls ∧ node % 16 = hkMpls) then
          if h.stackMax < reps + 1 then { p with code := peStack } else walk b f fuel next (reps + 1) p
        else walk b f fuel next 0 p

/-! ## Checksum results (R205, R228) -/

/-- IPv4 header result of a layer: 0 absent, 1 good, 2 bad. -/
def ip4Code (f : List Byte) (l : Layer) : Nat :=
  if l.l3Kind = hkIp4 then
    if fold16 (wordSum (sub f l.l3 (beAt f l.l3 1 % 16 * 4))) = 65535 then 1 else 2
  else 0

/-- L4 result of a layer: 1 good, 2 bad, 3 not checked. `zeroOk`: a zero UDP checksum over IPv6 is not checked. -/
def l4Code (f : List Byte) (l : Layer) (srh : Option Nat) (zeroOk : Bool) : Nat :=
  if l.l3 = 0xFFFF ∨ bit l.flags 3 ∨ bit l.flags 4 then 3
  else
    let v4 := decide (l.l3Kind = hkIp4)
    let udp := decide (l.l4Kind = hkUdp)
    if udp ∧ beAt f (l.l4 + 6) 2 = 0 then (if v4 || zeroOk then 3 else 2)
    else
      let n := if udp then beAt f (l.l4 + 4) 2 else segLen f l.l3 l.l4
      let seg := f.drop l.l4
      let proto := if udp then 17 else 6
      let pseudo := match srh with
        | some o => if v4 then pseudoSum f l.l3 proto n else wordSum (sub f (l.l3 + 8) 16) + wordSum (sub f (o + 8) 16) + proto + n
        | none => pseudoSum f l.l3 proto n
      if n < 8 ∨ seg.length < n then 2
      else if fold16 (wordSum (sub f l.l4 n) + pseudo) = 65535 then 1 else 2

/-- CSUM_STATUS (R228). -/
def csumStatus (f : List Byte) (p : Parse) (zeroOk : Bool) : Nat :=
  let ip := (p.layers.zipIdx.map (fun (l, i) => ip4Code f l * 2 ^ (2 * i))).sum
  let withL4 := p.layers.zipIdx.filter (fun (l, _) => decide (l.l4 ≠ 0xFFFF))
  let code := fun (e : Layer × Nat) =>
    let srh := (p.hdrs.find? (fun (k, ly, _) => k == hkSrh && ly == e.2)).map (fun h => h.2.2)
    l4Code f e.1 srh zeroOk
  match withL4.head?, withL4.getLast? with
  | some a, some z => ip + 2 ^ 8 * code a + 2 ^ 10 * code z
  | _, _ => ip

/-! ## The field area of the standard program (Table 07.7) -/

/-- Starts of the headers of a kind in a layer. -/
def Parse.starts (p : Parse) (kind layer : Nat) : List Nat :=
  (p.hdrs.filter (fun (k, l, _) => k == kind && l == layer)).map (fun h => h.2.2)

/-- Start of the first header of a kind in layers 0 and 1. -/
def Parse.first (p : Parse) (kind : Nat) : Option Nat :=
  (p.hdrs.find? (fun (k, l, _) => k == kind && decide (l ≤ 1))).map (fun h => h.2.2)

/-- EtherType after the last tag of a layer: that of the last Ethernet, VLAN or SecTAG header in parse order. -/
def Parse.etype (p : Parse) (f : List Byte) (layer : Nat) : Nat :=
  match (p.hdrs.filter (fun (k, l, _) => l == layer && (k == 0 || k == hkVlan || k == hkEthernet))).getLast? with
  | some (k, _, o) => beAt f (if k = hkEthernet then o + 12 else if k = hkVlan then o + 2 else o) 2
  | none => 0

/-- The upper-layer protocol of a layer (R266). -/
def Parse.proto (p : Parse) (f : List Byte) (layer : Nat) (l : Layer) : Nat :=
  if l.l3Kind = hkIp4 then beAt f (l.l3 + 9) 1
  else
    match (p.hdrs.filter (fun (k, ly, _) => (k == hkExt || k == hkSrh) && ly == layer)).getLast? with
    | some (_, _, o) => beAt f o 1
    | none => beAt f (l.l3 + 6) 1

/-- The fields of one layer written at their places: DMAC, ETYPE, SMAC, VLAN0, PROTO, SIP, DIP, SPORT. -/
def Parse.side (p : Parse) (f v : List Byte) (layer dmac etype smac vlan proto sip dip sport : Nat) : List Byte :=
  let l := p.layers.getD layer Layer.empty
  let v := match (p.starts hkEthernet layer).head? with
    | some o => overlay (overlay (overlay v dmac (sub f o 6)) smac (sub f (o + 6) 6)) etype (toBe 2 (p.etype f layer))
    | none => v
  let v := ((p.starts hkVlan layer).take 2).zipIdx.foldl (fun v (o, i) => overlay v (vlan + 2 * i) (sub f o 2)) v
  let v :=
    if l.l3Kind = hkIp4 then
      overlay (overlay (overlay v proto [f.getD (l.l3 + 9) 0, f.getD (l.l3 + 1) 0, f.getD (l.l3 + 8) 0]) sip
        (sub f (l.l3 + 12) 4)) dip (sub f (l.l3 + 16) 4)
    else if l.l3Kind = hkIp6 then
      overlay (overlay (overlay v proto (toBe 1 (p.proto f layer l) ++ toBe 1 (beAt f l.l3 2 / 16) ++ sub f (l.l3 + 7) 1)) sip
        (sub f (l.l3 + 8) 16)) dip (sub f (l.l3 + 24) 16)
    else v
  if l.l4 = 0xFFFF then v else overlay v sport (sub f l.l4 4)

/-- TUNNEL_ID of layer 0's tunnel header. -/
def tunnelId (f : List Byte) (l : Layer) : Nat :=
  let o := l.tunnel
  if l.tunnelKind = hkVxlan ∨ l.tunnelKind = hkGeneve then beAt f (o + 4) 3
  else if l.tunnelKind = hkGre then
    let b := beAt f o 1
    if bit b 5 then beAt f (if bit b 7 then o + 8 else o + 4) 4 else 0
  else if l.tunnelKind = hkEsp then beAt f o 4
  else 0

/-- The field area of the standard program. -/
def Parse.stdFields (p : Parse) (f : List Byte) : List Byte :=
  let l0 := p.layers.getD 0 Layer.empty
  let v := p.side f p.vector 0 0x080 0x086 0x088 0x090 0x094 0x0A8 0x0B8 0x0C8
  let inner := min p.layer 1
  let li := p.layers.getD inner Layer.empty
  let v := p.side f v inner 0x0F0 0x0F6 0x0F8 0x100 0x104 0x108 0x118 0x128
  let v := if li.l4Kind = hkTcp then overlay v 0x107 (sub f (li.l4 + 13) 1) else v
  let labels := p.starts hkMpls 0
  let v := match labels.head? with
    | some o => overlay v 0x08E [f.getD (o + 3) 0, BitVec.ofNat 8 (beAt f (o + 2) 1 / 2 % 8)]
    | none => v
  let v := (labels.take 4).zipIdx.foldl (fun v (o, i) => overlay v (0x098 + 4 * i) (toBe 4 (beAt f o 4 / 2 ^ 12))) v
  let v := overlay v 0x0CC (toBe 4 (tunnelId f l0))
  let v := match p.first hkSrh with
    | some o => overlay (overlay v 0x0D0 (extractBytes hkSrh o 0 0 0 f)) 0x0E0 (sub f (o + 3) 2)
    | none => v
  let v := match p.first hkMacsec with
    | some o =>
      let v := overlay v 0x0E2 (sub f (o + 2) 1)
      if bit (beAt f (o + 2) 1) 5 then overlay v 0x0E4 (sub f (o + 8) 8) else v
    | none => v
  match p.first hkEsp with
  | some o => overlay v 0x0EC (sub f (o + 4) 4)
  | none => v

/-! ## The header vector (R229) -/

/-- What a packet brings to the parser. -/
structure Arrival where
  tempo : Nat
  sourceKind : Nat
  sourceId : Nat
  macMatch : Nat
  /-- Class given by a submit entry, none for P0. -/
  tc : Option Nat
  /-- Ingress stamp in whole nanoseconds. -/
  stampNs : Nat
  zeroOk : Bool

/-- FLOW_HASH of a vector (Table 07.5). -/
def flowHash (v : List Byte) : Nat := crc32 (sub v 0x104 1 ++ sub v 0x108 36)

/-- The metadata of a parsed packet (Table 07.5). -/
def metaBytes (a : Arrival) (f : List Byte) (p : Parse) (hash : Nat) : List Byte :=
  let tc := match a.tc with
    | some c => c
    | none => ((p.hdrs.find? (fun (k, _, _) => k == hkVlan)).map (fun h => beAt f h.2.2 1 / 32)).getD 0
  toLe 4 a.tempo ++ toLe 2 f.length ++ toLe 1 a.sourceKind ++ toLe 1 0 ++ toLe 3 a.sourceId ++ toLe 1 a.macMatch ++
    toLe 1 (p.layer + 1) ++ toLe 1 p.code ++ toLe 2 p.pos ++ toLe 2 (csumStatus f p a.zeroOk) ++ toLe 1 tc ++ toLe 1 0 ++
    toLe 4 hash ++ toLe 8 a.stampNs

/-- The header vector of a frame, and how its parse ended. -/
def parseFrame (b : Bank) (root : Nat) (a : Arrival) (f : List Byte) : List Byte × Nat :=
  let p := walk b f 32 (if b.standard then 0 else root) 0
    { pos := 0, layer := 0, layers := List.replicate 4 Layer.empty, vector := List.replicate 512 0, hdrs := [], code := 0 }
  let v := if b.standard then p.stdFields f else p.vector
  let v := overlay v 0x040 (p.layers.flatMap Layer.bytes)
  (overlay v 0 (metaBytes a f p (flowHash v)), p.code)

end Sys2Proof.Machine
end

