-- ==== Sys2Proof/Machine/Lookup.lean ====
section
/-! DEFINITION. Tables and lookup stages of a pipeline, admission, and the flow cache (spec/07 R218–R257): table rows 106
and 107. -/

namespace Sys2Proof.Machine

/-! ## Tables -/

/-- The flow region of the standard program in GiB (R266): 0 for none. -/
def flowGib (dram : Nat) : Nat :=
  if dram < 2 then 0
  else if dram / 2 < 2 then 1
  else if dram / 2 < 4 then 2
  else if dram / 2 < 8 then 4
  else if dram / 2 < 16 then 8
  else 16

/-- Tables of the standard program (Table 07.14). -/
def stdDecls (gib : Nat) : List TableDecl :=
  let exact := fun (t k e c : Nat) =>
    ({ table := t, kind := .exact, keyLen := k, entrySize := e, capacity := c, blocks := 0, dataPlane := false } : TableDecl)
  let other := fun (t : Nat) (k : TableKind) (n c b : Nat) (d : Bool) =>
    ({ table := t, kind := k, keyLen := n, entrySize := if k = .flow then 128 else 0, capacity := c, blocks := b, dataPlane := d } :
      TableDecl)
  [exact 1 5 32 16384, exact 2 23 64 65536, exact 3 4 32 16384, other 4 .lpm6 18 0 0 false, exact 5 8 32 131072,
   exact 6 10 32 32768, other 7 .flow 39 gib 0 true, other 8 .lpm4 6 0 0 false, other 9 .lpm6 18 0 0 false,
   other 10 .tcam 60 0 16 false, other 11 .tcam 60 16 16 false]

/-- The tables a bank declares. -/
def Bank.tables (b : Bank) (dramGib : Nat) : List TableDecl := if b.standard then stdDecls (flowGib dramGib) else b.decls

def Bank.table? (b : Bank) (dramGib t : Nat) : Option TableDecl := (b.tables dramGib).find? (fun d => d.table == t)

/-- Segments of the standard keys (Table 07.14). -/
def aclSegments : List (Nat × Nat) :=
  [(0x020, 4), (0x008, 3), (0x00B, 1), (0x100, 44), (0x0F6, 2), (0x0CC, 4), (0x012, 1), (0x00C, 1)]

def stdSegments (t : Nat) : List (Nat × Nat) :=
  match t with
  | 1 => [(0x008, 3), (0x090, 2)]
  | 2 => [(0x020, 2), (0x0B8, 16), (0x04A, 1), (0x0CC, 4)]
  | 3 => [(0x098, 4)]
  | 4 => [(0x020, 2), (0x0B8, 16)]
  | 5 => [(0x022, 2), (0x0F0, 6)]
  | 6 => [(0x022, 2), (0x0F0, 6), (0x100, 2)]
  | 7 => [(0x020, 2), (0x104, 1), (0x108, 36)]
  | 8 => [(0x020, 2), (0x118, 4)]
  | 9 => [(0x020, 2), (0x118, 16)]
  | _ => aclSegments

/-- A lookup of the standard program (Table 07.15). -/
def stdLookup (pipe n : Nat) : Option LookupDef :=
  let d := fun (t cond arg chain : Nat) =>
    some { table := t, cond := cond, condArg := arg, chainLen := chain, chainDest := 0, segments := stdSegments t }
  match n with
  | 0 => d 1 0 0 4
  | 2 => d 2 0 0 4
  | 3 => d 3 0 0 2
  | 4 => d 4 0 0 2
  | 6 => d 5 0 0 0
  | 7 => d 6 0 0 0
  | 8 => d 7 0 0 0
  | 10 => d 8 3 4 0
  | 11 => d 9 3 5 0
  | 12 => d (if pipe = 0 then 10 else 11) 0 0 0
  | _ => none

/-- Lookup `n` of a pipeline, none if it has TABLE 0 (R231). -/
def Bank.lookup (b : Bank) (pipe n : Nat) : Option LookupDef :=
  if b.standard then stdLookup pipe n
  else (Tbl.find (if pipe = 0 then b.lookups0 else b.lookups1) n).bind (fun d => if d.table = 0 then none else some d)

/-! ## Finding entries -/

/-- An entry is valid at a tempo (R234, R311). -/
def TEntry.visible (e : TEntry) (tempo : Nat) : Bool := validAt e.born e.retired tempo

/-- Address bits beyond the prefix zeroed (R250): the address follows a 2-byte VRF. -/
def maskPrefix (key : List Byte) (len : Nat) : List Byte :=
  let a := key.drop 2
  let w := 8 * a.length
  key.take 2 ++ toBe a.length (be a / 2 ^ (w - len) * 2 ^ (w - len))

/-- Bytes equal under a mask. -/
def maskedEq (k key mask : List Byte) : Bool :=
  (key.zip mask).zipIdx.all (fun ((a, m), i) => (k.getD i 0 &&& m) == (a &&& m))

/-- The better of two TCAM matches (R254): larger priority, then lower address. -/
def tcamBetter (a b : TEntry) : TEntry :=
  if b.priority < a.priority ∨ (b.priority = a.priority ∧ a.place < b.place) then a else b

/-- The entry a lookup of a table finds at a tempo (R234, R250, R254). -/
def Pipe.find (p : Pipe) (d : TableDecl) (key : List Byte) (tempo : Nat) : Option TEntry :=
  let mine := p.entries.filter (fun e => e.table == d.table && e.visible tempo)
  match d.kind with
  | .exact | .flow => mine.find? (fun e => e.key == key)
  | .lpm4 | .lpm6 =>
    (mine.filter (fun e => maskPrefix key e.prefixLen == e.key)).foldl (fun a e =>
      match a with
      | none => some e
      | some x => if x.prefixLen < e.prefixLen then some e else a) none
  | .tcam =>
    (mine.filter (fun e => maskedEq key e.key e.mask)).foldl (fun a e =>
      match a with
      | none => some e
      | some x => some (tcamBetter x e)) none

/-! ## The flow table and its cache (R242–R249) -/

/-- The string both hash functions cover: the TABLE_ID byte and the key (R243). -/
def hashInput (table : Nat) (key : List Byte) : List Byte := BitVec.ofNat 8 table :: key

def flowH1 (table : Nat) (key : List Byte) : Nat := crc32c (hashInput table key)
def flowH2 (table : Nat) (key : List Byte) : Nat := crc32 (hashInput table key)

/-- Slots of a region. -/
def flowSlots (gib : Nat) : Nat := gib * 2 ^ 23

/-- Primary and secondary slot of a key in a region of `n` slots (R243). -/
def flowPrimary (n table : Nat) (key : List Byte) : Nat := flowH1 table key % n
def flowSecondary (n table : Nat) (key : List Byte) : Nat :=
  let a := flowPrimary n table key
  let b := flowH2 table key % n
  if b = a then a ^^^ 1 else b

/-- Cache set of a key (R244). -/
def cacheSet (table : Nat) (key : List Byte) : Nat := flowH1 table key % 2 ^ 14

/-- The way of the cache that holds a key. -/
def Pipe.wayOf (p : Pipe) (table : Nat) (key : List Byte) : Option (Nat × CacheWay) :=
  let st := cacheSet table key
  (p.cache.find? (fun (k, w) => k / 8 == st && w.table == table && w.key == key))

/-- A way used now. -/
def Pipe.touch (p : Pipe) (k : Nat) (w : CacheWay) : Pipe :=
  { p with cache := Tbl.set p.cache k { w with used := p.cacheClock + 1 }, cacheClock := p.cacheClock + 1 }

/-- The way a new key takes in its set: a free way, or the least recently used way that is not pinned (R244). -/
def Pipe.victim (p : Pipe) (st : Nat) : Option Nat :=
  match (List.range 8).find? (fun w => (Tbl.find p.cache (st * 8 + w)).isNone) with
  | some w => some (st * 8 + w)
  | none =>
    ((p.cache.filter (fun (k, w) => k / 8 == st && !w.pinned)).foldl (fun (a : Option (Nat × Nat)) (e : Nat × CacheWay) =>
      match a with
      | none => some (e.1, e.2.used)
      | some (_, u) => if e.2.used < u then some (e.1, e.2.used) else a) none).map (fun a => a.1)

/-- A key put in the cache, as an entry or a negative mark. -/
def Pipe.cachePut (p : Pipe) (table : Nat) (key : List Byte) (negative pinned : Bool) : Pipe :=
  let w : CacheWay := { table := table, key := key, negative := negative, pinned := pinned, used := 0 }
  match p.wayOf table key with
  | some (k, old) => p.touch k { w with pinned := pinned || (old.pinned && !negative) }
  | none =>
    match p.victim (cacheSet table key) with
    | some k => p.touch k w
    | none => p

/-- A key removed from the cache. -/
def Pipe.cacheDrop (p : Pipe) (table : Nat) (key : List Byte) : Pipe :=
  match p.wayOf table key with
  | some (k, _) => { p with cache := Tbl.del p.cache k }
  | none => p

/-- The key has a version in the table (visible or not). -/
def Pipe.holdsKey (p : Pipe) (table : Nat) (key : List Byte) : Bool := p.entries.any (fun e => e.table == table && e.key == key)

/-- A key was written: the cache follows, negative marks go, and a DRAM read in flight for it is to be made again
(R244, R248). -/
def Pipe.wrote (p : Pipe) (table : Nat) (key : List Byte) (pinned : Bool) : Pipe :=
  let p := if p.holdsKey table key then p.cachePut table key false pinned else p.cacheDrop table key
  { p with flowReads := p.flowReads.map (fun (t, k, w) => if t = table ∧ k = key then (t, k, true) else (t, k, w)) }

/-- A DRAM lookup of a flow key reads its secondary slot too: its primary slot holds another key and has OVERFLOW, which marks
that some key of this primary lives elsewhere (R243). -/
def Pipe.secondRead (p : Pipe) (slots table : Nat) (key : List Byte) : Bool :=
  let a := flowPrimary slots table key
  let mine := p.entries.filter (fun e => e.table == table)
  mine.any (fun e => e.key == key && e.place != a)
    || (mine.any (fun e => e.place == a && e.key != key) && mine.any (fun e => flowPrimary slots table e.key == a && e.place != a))

/-- The reads of one DRAM lookup of a flow key counted (R243, Table 07.17). -/
def Pipe.countReads (p : Pipe) (pipe slots table : Nat) (key : List Byte) : Pipe :=
  let p := p.count pipe 0x48
  if p.secondRead slots table key then p.count pipe 0x48 else p

/-! ## Lookup stages (R231–R233) -/

/-- Result word bits (Table 07.9). -/
def resultWord (hit skipped pending fault : Bool) (action : Nat) : Nat :=
  b2n hit + 2 * b2n skipped + 4 * b2n pending + 8 * b2n fault + 2 ^ 8 * action

/-- Result word `n` of a vector. -/
def resultOf (v : List Byte) (n : Nat) : Nat := leAt v (0x180 + 4 * n) 4

/-- Result word `n` written. -/
def putResult (v : List Byte) (n w : Nat) : List Byte := overlay v (0x180 + 4 * n) (toLe 4 w)

/-- Progress of the lookups of a packet. -/
structure Looked where
  pipe : Pipe
  vector : List Byte
  params : Tbl (List Byte)
  flows : List (Nat × Nat × List Byte)
  pending : Bool
  /-- Table and place of each entry read that the code could not correct. -/
  faults : List (Nat × Nat)

/-- The condition of a lookup on a vector (Table 07.8). -/
def LookupDef.runs (d : LookupDef) (v : List Byte) : Bool :=
  if d.cond = 1 then bit (resultOf v d.condArg) 0
  else if d.cond = 2 then !bit (resultOf v d.condArg) 0
  else if d.cond = 3 then leAt v (0x040 + 16 * (leAt v 0x0C 1 - 1) + 8) 1 == d.condArg
  else true

/-- The key of a lookup (R231). -/
def LookupDef.key (d : LookupDef) (v : List Byte) : List Byte := d.segments.flatMap (fun (o, n) => sub v o n)

/-- One lookup on the vector as its stage began; `bad`: the entry it reads cannot be corrected (R240). The second result
is the chain write of a hit, padded with zeros to its length. -/
def lookupOne (decl : Option TableDecl) (pipe tempo n : Nat) (d : LookupDef) (v : List Byte) (bad : Bool) (x : Looked) :
    Looked × List Byte :=
  if !d.runs v then ({ x with vector := putResult x.vector n (resultWord false true false false 0) }, [])
  else
    match decl with
    | none => ({ x with vector := putResult x.vector n 0 }, [])
    | some t =>
      let key := d.key v
      let found := x.pipe.find t key tempo
      let give := fun (x : Looked) => match found, bad with
        | some e, true =>
          ({ x with pipe := x.pipe.count pipe 0x78, vector := putResult x.vector n (resultWord false false false true 0),
                    faults := x.faults ++ [(t.table, e.place)] }, [])
        | some e, false =>
          ({ x with vector := putResult x.vector n (resultWord true false false false e.action),
                    params := Tbl.set x.params n e.params }, sub e.params 0 d.chainLen)
        | none, _ => ({ x with vector := putResult x.vector n 0 }, [])
      if t.kind ≠ .flow then give x
      else
        let x := { x with flows := x.flows ++ [(n, t.table, key)] }
        if t.capacity = 0 then ({ x with vector := putResult x.vector n 0 }, [])
        else
          match x.pipe.wayOf t.table key with
          | some (k, w) => ((give { x with pipe := (x.pipe.touch k w).count pipe 0x38 }).1, [])
          | none =>
            let wait := fun (x : Looked) =>
              ({ x with vector := putResult x.vector n (resultWord false false true false 0), pending := true }, [])
            if x.pipe.flowReads.any (fun (a, b, _) => a == t.table && b == key) then
              wait { x with pipe := x.pipe.count pipe 0x38 }
            else
              let p := (x.pipe.count pipe 0x40).countReads pipe (flowSlots t.capacity) t.table key
              wait { x with pipe := { p with flowReads := p.flowReads ++ [(t.table, key, false)] } }

/-- One stage: both units read the vector as it stands; unit B's chain write follows unit A's (R233). -/
def lookupStage (b : Bank) (dram pipe tempo : Nat) (faults : List Nat) (x : Looked) (stage : Nat) : Looked :=
  let v := x.vector
  let one := fun (x : Looked) (n : Nat) => match b.lookup pipe n with
    | none => ({ x with vector := putResult x.vector n 0 }, ([] : List Byte), 0)
    | some d =>
      let (x, ch) := lookupOne (b.table? dram d.table) pipe tempo n d v (faults.contains n) x
      (x, ch, d.chainDest)
  let (x, ca, da) := one x (2 * stage)
  let (x, cb, db) := one x (2 * stage + 1)
  { x with vector := overlay (overlay x.vector (0x020 + da) ca) (0x020 + db) cb }

/-- All sixteen stages. -/
def lookups (b : Bank) (dram pipe tempo : Nat) (faults : List Nat) (x : Looked) : Looked :=
  (List.range 16).foldl (lookupStage b dram pipe tempo faults) x

/-! ## PACKET_ADMIT (R218, R221, R310) -/

/-- A frame that enters a parser. -/
structure Entrant where
  sourceKind : Nat
  sourceId : Nat
  tc : Option Nat
  bytes : List Byte
  macMatch : Nat
  stamp : Nat
  inTick : Nat
  tx : Option TxInfo
  cells : Nat
  ing : Option Nat
  zeroOk : Bool
  deriving DecidableEq, Repr

/-- A packet in flight added. -/
def State.addFlight (s : State) (p : FlightPkt) : State :=
  { s with flight := Tbl.set s.flight s.nextPkt p, nextPkt := s.nextPkt + 1 }

def Verdict.none : Verdict := { dest := 0, mtu := 0, counter := 0xFFFFFFFF, cipherSlot := Option.none, decrypt := false, reinject := false }

/-- SOURCE_ID of a function's packets: the pair identity of a twin member (R491). -/
def State.pairIdentity (s : State) (fn : Nat) : Nat :=
  match s.twins.find? (fun e => e.2.memberA == fn || e.2.memberB == fn) with
  | some (_, t) => t.memberA
  | none => fn

/-- A frame enters the parser of a pipeline: it takes a hold place, is stamped with the current tempo, parsed, and looked
up (R221–R234, R310). -/
def State.enterPipe (s : State) (die pipe : Nat) (faults : List Nat) (f : Entrant) : State :=
  let bank := s.tempo.bank
  let b := s.bankOf bank
  let tempo := s.tempo.current
  let a : Arrival :=
    { tempo := tempo, sourceKind := f.sourceKind,
      sourceId := if f.sourceKind = 1 then s.pairIdentity f.sourceId else f.sourceId, macMatch := f.macMatch, tc := f.tc,
      stampNs := if pipe = 0 then f.stamp / 2 ^ 16 % 2 ^ 64 else 0, zeroOk := f.zeroOk }
  let (v, code) := parseFrame b (if pipe = 0 then b.rootP0 else b.rootP1) a f.bytes
  let p := (s.pipe die).count pipe 0x00
  let p := if code = 0 then p else p.count pipe (8 * code)
  let x := lookups b (s.dramOf die) pipe tempo faults
    { pipe := p, vector := v, params := [], flows := [], pending := false, faults := [] }
  let s := (s.setPipe die x.pipe).addFlight
    { die := die, pipe := pipe, tempo := tempo, bank := bank, phase := if x.pending then .flowWait else .hold,
      sourceKind := f.sourceKind, sourceId := f.sourceId, tc := leAt x.vector 0x12 1, stamp := f.stamp, original := f.bytes,
      frame := f.bytes, vector := x.vector, params := x.params, flowLookups := x.flows,
      fn := if f.sourceKind = 1 then f.sourceId else 0, verdict := Verdict.none, cells := f.cells, tx := f.tx, ing := f.ing,
      inTick := f.inTick }
  x.faults.foldl (fun s (t, place) => s.raise 0x0301 sevDegraded 0 die t place 0) s

/-- The port P0 grants its next clock (R218): the first from the rotor on with a frame waiting. -/
def State.nextPort (s : State) (die : Nat) : Option Nat :=
  let r := (s.portBlock die).rotor
  ((List.range 8).map (fun i => (r + i) % 8)).find? (fun i => !(s.port (8 * die + i)).admission.isEmpty)

/-- A source of P1 (R218). -/
def P1Frame.source (f : P1Frame) : Nat :=
  f.sourceKind * 2 ^ 40 + f.chan.getD f.sourceId * 2 ^ 8 + ((f.tx.map (fun x => x.queue)).getD 0)

/-- P1 takes the inject message of an admitted packet from its channel (R508, R513). -/
def State.takeInject (s : State) (f : P1Frame) : State :=
  match f.chan with
  | some k => (s.modChanOf k (fun c => { c with words := c.words.drop 4 })).settleDie (k / 1536)
  | none => s

/-- The source P1 grants its next clock: in rotating order of sources. -/
def Pipe.nextSource (p : Pipe) : Option Nat :=
  let keys := p.p1Queue.map P1Frame.source
  let least := fun (l : List Nat) => l.foldl (fun (a : Option Nat) k => match a with
    | none => some k
    | some x => some (min x k)) none
  match least (keys.filter (fun k => decide (p.p1Last < k))) with
  | some k => some k
  | none => least keys

/-- The list without its first element that meets a test. -/
def eraseFirst {α : Type} (g : α → Bool) : List α → List α
  | [] => []
  | x :: xs => if g x then xs else x :: eraseFirst g xs

/-- PACKET_ADMIT (R218, R221). `faults` are the lookups whose entry reads uncorrectable (R240). -/
def execPacketAdmit (die pipe : Nat) (faults : List Nat) (s : State) : Host.Outcome State Fault Refusal :=
  if !s.live die || decide (4096 ≤ s.holdUsed die pipe) || decide (2 ≤ pipe) then .next s
  else if pipe = 0 then
    match s.nextPort die with
    | none => .next s
    | some i =>
      let port := 8 * die + i
      match (s.port port).admission with
      | [] => .next s
      | f :: rest =>
        let s := s.modPortBlock die (fun b => { b with rotor := (i + 1) % 8 })
        let s := s.modPort port (fun p => { p with admission := rest })
        .next (s.enterPipe die 0 faults
          { sourceKind := 0, sourceId := port, tc := none, bytes := f.bytes, macMatch := f.macMatch, stamp := f.stamp,
            inTick := f.tick, tx := none, cells := cellsFor f.bytes.length, ing := some (ingOfPort port f.bytes),
            zeroOk := (s.port port).cfg.inEffect.udp6ZeroOk })
  else
    match (s.pipe die).nextSource with
    | none => .next s
    | some k =>
      match (s.pipe die).p1Queue.find? (fun f => f.source == k) with
      | none => .next s
      | some f =>
        let s := s.modPipe die (fun p => { p with p1Queue := eraseFirst (fun f => f.source == k) p.p1Queue, p1Last := k })
        let s := s.takeInject f
        .next (s.enterPipe die 1 faults
          { sourceKind := f.sourceKind, sourceId := f.sourceId, tc := some f.tc, bytes := f.bytes, macMatch := 127,
            stamp := f.stamp, inTick := f.inTick, tx := f.tx, cells := f.cells, ing := f.ing, zeroOk := true })

/-! ## FLOW_READ_RESULT (R244, R245, R248) -/

/-- The result word and the parameters that a flow read gives a lookup at a packet's tempo: `bad`, the entry could not be
corrected and counts as absent (R240). -/
def FlightPkt.putFlow (k : FlightPkt) (n : Nat) (e : Option TEntry) (bad : Bool) : FlightPkt :=
  match e, bad with
  | some e, false =>
    { k with vector := putResult k.vector n (resultWord true false false false e.action), params := Tbl.set k.params n e.params }
  | some _, true => { k with vector := putResult k.vector n (resultWord false false false true 0) }
  | none, _ => { k with vector := putResult k.vector n 0 }

/-- The lookups of a packet that wait for a flow key. -/
def FlightPkt.waitsFor (k : FlightPkt) (table : Nat) (key : List Byte) : List Nat :=
  if k.phase = .flowWait then
    (k.flowLookups.filter (fun (n, t, x) => t == table && x == key && bit (resultOf k.vector n) 2)).map (fun x => x.1)
  else []

/-- The result of a flow read reaches a packet that waits for it; with no lookup PENDING it waits no more (R245). -/
def FlightPkt.gotFlow (k : FlightPkt) (ns : List Nat) (e : Option TEntry) (bad : Bool) : FlightPkt :=
  let k := ns.foldl (fun k n => k.putFlow n e bad) k
  { k with phase := if k.flowLookups.any (fun (n, _, _) => bit (resultOf k.vector n) 2) then .flowWait else .hold }

/-- The version of an entry that a packet sees. -/
def Pipe.versionAt (p : Pipe) (table : Nat) (key : List Byte) (tempo : Nat) : Option TEntry :=
  p.entries.find? (fun e => e.table == table && e.key == key && e.visible tempo)

/-- The fault of a flow read: each lookup that would have seen the entry is counted, and a record names the place (R240). -/
def State.flowFault (s : State) (die table : Nat) (key : List Byte) (waiting : List (FlightPkt × List Nat)) : State :=
  let p := s.pipe die
  let hurt := waiting.filterMap (fun (k, ns) => (p.versionAt table key k.tempo).map (fun e => (k.pipe, ns.length, e.place)))
  match hurt with
  | [] => s
  | (_, _, place) :: _ =>
    let p := hurt.foldl (fun p (pipe, n, _) => (List.range n).foldl (fun p _ => p.count pipe 0x78) p) p
    (s.setPipe die p).raise 0x0301 sevDegraded 0 die table place 0

/-- FLOW_READ_RESULT (R240, R244, R245, R248): read `read.1` of those in flight returns; a key written meanwhile is read again.
`read.2`: the code cannot correct the entry that was read, which the cache does not take then (log 118). -/
def execFlowReadResult (die : Nat) (read : Nat × Bool) (s : State) : Host.Outcome State Fault Refusal :=
  let p := s.pipe die
  let (index, bad) := read
  match p.flowReads[index]? with
  | none => .next s
  | some (t, key, written) =>
    if !s.live die then .next s
    else
      let waiting := (s.flight.map (fun e => (e.2, if e.2.die = die then e.2.waitsFor t key else []))).filter (fun e => !e.2.isEmpty)
      let first := ((waiting.head?).map (fun e => e.1.pipe)).getD 0
      let p0 := { p with flowReads := p.flowReads.zipIdx.filterMap (fun (r, i) =>
        if i ≠ index then some r else if written then some (t, key, false) else none) }
      if written then
        let slots := flowSlots ((((s.bankOf s.tempo.bank).table? (s.dramOf die) t).map (fun d => d.capacity)).getD 0)
        .next (s.setPipe die (p0.countReads first slots t key))
      else
        let hit := bad && p0.holdsKey t key
        let p1 := if hit then p0 else p0.cachePut t key (!p0.holdsKey t key) false
        let flight := s.flight.map (fun (i, k) =>
          match (if k.die = die then k.waitsFor t key else []) with
          | [] => (i, k)
          | ns => (i, k.gotFlow ns (p1.versionAt t key k.tempo) bad))
        let s : State := { s.setPipe die p1 with flight := flight }
        .next (if hit then s.flowFault die t key waiting else s)

end Sys2Proof.Machine
end

