-- ==== Sys2Proof/Machine/Edit.lean ====
section
/-! DEFINITION. Editing a frame: insertions and removals with the layer descriptors, fields and checksums, tunnels, MPLS and
SRv6 (spec/08 R278–R284). -/

namespace Sys2Proof.Machine

/-! ## Drop reasons (Table 08.15) -/

def drNoDestination : Nat := 0x01
def drActionLimit : Nat := 0x02
def drUndefined : Nat := 0x03
def drActionEcc : Nat := 0x04
def drTtl : Nat := 0x05
def drEditLimit : Nat := 0x06
def drNoL2 : Nat := 0x07
def drDecapAbsent : Nat := 0x08
def drMtu : Nat := 0x09
def drMplsUnderflow : Nat := 0x0A
def drMplsPayload : Nat := 0x0B
def drNoSrh : Nat := 0x0C
def drSlZero : Nat := 0x0D
def drEmpty : Nat := 0x0E
def drRed : Nat := 0x0F
def drCipherKey : Nat := 0x10
def drCipherAuth : Nat := 0x11
def drNoBuffer : Nat := 0x12
def drDieDown : Nat := 0x13
def drAbsent : Nat := 0x14
def drPuntFull : Nat := 0x15
def drAclDeny : Nat := 0x16

/-! ## Frames under edit -/

/-- A frame under edit: its layers, the bytes that edits may reach, its length at parser entry, the header offsets of a
submit entry, and the reason for which it is dropped. -/
structure Edit where
  frame : List Byte
  layers : List Layer
  reach : Nat
  base : Nat
  offs : List Nat
  drop : Option Nat

/-- A frame as received, with its layers. -/
def editOf (f : List Byte) (layers : List Layer) (offs : List Nat) : Edit :=
  { frame := f, layers := layers, reach := 512, base := f.length, offs := offs, drop := none }

def Edit.fail (e : Edit) (code : Nat) : Edit := { e with drop := e.drop.orElse (fun _ => some code) }

/-- An operation on a frame not yet dropped. -/
def Edit.live (e : Edit) (g : Edit → Edit) : Edit := if e.drop.isSome then e else g e

def Edit.layer (e : Edit) (i : Nat) : Layer := e.layers.getD i Layer.empty
def Edit.modLayer (e : Edit) (i : Nat) (g : Layer → Layer) : Edit := { e with layers := Machine.modLayer e.layers i g }

/-- An offset after `n` bytes were inserted at `o`. -/
def shiftUp (o n x : Nat) : Nat := if x = 0xFFFF ∨ x < o then x else x + n

/-- An offset after `n` bytes were removed at `o`: a header in them reads 0xFFFF (R278). -/
def shiftDown (o n x : Nat) : Nat :=
  if x = 0xFFFF ∨ x < o then x else if x < o + n then 0xFFFF else x - n

/-- Layer offsets mapped; a header that is gone has no kind. -/
def Layer.map (l : Layer) (g : Nat → Nat) : Layer :=
  { l with l2 := g l.l2, l3 := g l.l3, l4 := g l.l4, tunnel := g l.tunnel,
           l3Kind := if g l.l3 = 0xFFFF then 0 else l.l3Kind, l4Kind := if g l.l4 = 0xFFFF then 0 else l.l4Kind,
           tunnelKind := if g l.tunnel = 0xFFFF then 0 else l.tunnelKind }

/-- Bytes inserted at an offset (R278). -/
def Edit.insert (e : Edit) (o : Nat) (bs : List Byte) : Edit :=
  e.live (fun e =>
    if e.reach < o ∨ e.base + 256 < e.frame.length + bs.length then e.fail drEditLimit
    else
      let g := shiftUp o bs.length
      { e with frame := insertAt e.frame o bs, layers := e.layers.map (fun l => l.map g), reach := e.reach + bs.length,
               offs := e.offs.map g })

/-- Bytes removed at an offset (R278). -/
def Edit.remove (e : Edit) (o n : Nat) : Edit :=
  e.live (fun e =>
    if e.reach < o + n then e.fail drEditLimit
    else
      let g := shiftDown o n
      { e with frame := removeAt e.frame o n, layers := e.layers.map (fun l => l.map g), reach := e.reach - n,
               offs := e.offs.map g })

/-- Bytes written over the frame, with no other effect. -/
def Edit.raw (e : Edit) (o : Nat) (bs : List Byte) : Edit :=
  e.live (fun e =>
    if e.reach < o + bs.length then e.fail drEditLimit else { e with frame := sub (overlay e.frame o bs) 0 e.frame.length })

/-! ## Fields and checksums (R279) -/

/-- A checksum updated for a change of what it covers (RFC 1624). -/
def incremental (c : Nat) (old new : List Byte) : Nat :=
  csumOf (65535 - c + wordSum new + (65535 - fold16 (wordSum old)))

/-- The bytes of an IPv4 header that its checksum covers, with the checksum itself zero. -/
def ip4Covered (f : List Byte) (o : Nat) : List Byte := overlay (sub f o (beAt f o 1 % 16 * 4)) 10 [0, 0]

/-- The fields of a layer whose change its L4 checksum follows (R279): the ports, the addresses and the IPv6 hop limit, as
16-bit words (log 28). -/
def l4Covered (f : List Byte) (l : Layer) : List Byte :=
  (if l.l3Kind = hkIp4 then sub f (l.l3 + 12) 8 else 0 :: sub f (l.l3 + 7) 33) ++ sub f l.l4 4

/-- The checksums of a layer follow a change of the frame from `f` to `g` in it (R279): a UDP checksum of 0 stays. -/
def fixCsums (f g : List Byte) (l : Layer) : List Byte :=
  let h :=
    if l.l3Kind = hkIp4 ∧ ip4Covered f l.l3 ≠ ip4Covered g l.l3 then
      overlay g (l.l3 + 10) (toBe 2 (incremental (beAt g (l.l3 + 10) 2) (ip4Covered f l.l3) (ip4Covered g l.l3)))
    else g
  if l.l3 = 0xFFFF ∨ l.l4 = 0xFFFF ∨ l4Covered f l = l4Covered g l then h
  else
    let o := l.l4 + (if l.l4Kind = hkUdp then 6 else 16)
    let c := beAt h o 2
    if l.l4Kind = hkUdp ∧ c = 0 then h
    else
      let c' := incremental c (l4Covered f l) (l4Covered g l)
      overlay h o (toBe 2 (if l.l4Kind = hkUdp ∧ c' = 0 then 0xFFFF else c'))

/-- Bytes written into a header of layer `i`, with the checksums of R279. -/
def Edit.write (e : Edit) (i o : Nat) (bs : List Byte) : Edit :=
  let e' := e.raw o bs
  if e'.drop.isSome then e'
  else { e' with frame := sub (fixCsums e.frame e'.frame (e.layer i)) 0 e.frame.length }

/-- Offset of a header of a layer by its number in SET_FIELD: 0 L2, 1 L3, 2 L4, 3 tunnel. -/
def Layer.header (l : Layer) (h : Nat) : Nat := if h = 0 then l.l2 else if h = 1 then l.l3 else if h = 2 then l.l4 else l.tunnel

/-- SET_FIELD (Table 08.4). -/
def Edit.setField (e : Edit) (layer header off width v : Nat) : Edit :=
  let o := (e.layer layer).header header
  if o = 0xFFFF then e else e.write layer (o + off) (toBe width v)

/-! ## Tags -/

/-- End of the frame's Ethernet header and its tags; 0 where the frame does not begin with one. -/
def Edit.l2End (e : Edit) : Nat :=
  let l := e.layer 0
  if l.l2 = 0 then 14 + 4 * l.vlans else 0

/-- The EtherType of the frame's Ethernet header set. -/
def Edit.setEtype (e : Edit) (t : Nat) : Edit := if e.l2End = 0 then e else e.raw (e.l2End - 2) (toBe 2 t)

/-- PUSH_VLAN (Table 08.4). -/
def Edit.pushVlan (e : Edit) (tpid tci : Nat) : Edit :=
  (e.insert 12 (toBe 2 tpid ++ toBe 2 tci)).live (fun e => e.modLayer 0 (fun l => { l with vlans := l.vlans + 1 }))

/-- POP_VLAN: the first tag, if any. -/
def Edit.popVlan (e : Edit) : Edit :=
  let l := e.layer 0
  if l.l2 = 0 ∧ 0 < l.vlans then
    (e.remove 12 4).live (fun e => e.modLayer 0 (fun l => { l with vlans := l.vlans - 1 }))
  else e

/-! ## MPLS and TTL (R283) -/

/-- TTL or hop limit of a layer's L3 header. -/
def layerTtl (f : List Byte) (l : Layer) : Nat :=
  if l.l3Kind = hkIp4 then beAt f (l.l3 + 8) 1 else if l.l3Kind = hkIp6 then beAt f (l.l3 + 7) 1 else 0

/-- PUSH_MPLS. -/
def Edit.pushMpls (e : Edit) (v : Nat) : Edit :=
  let l := e.layer 0
  let o := e.l2End
  let ttl := if v % 256 ≠ 0 then v % 256 else if 0 < l.mpls then beAt e.frame (o + 3) 1 else layerTtl e.frame l
  let entry := v / 512 * 512 + 256 * b2n (decide (l.mpls = 0)) + ttl
  ((e.insert o (toBe 4 entry)).live (fun e => e.modLayer 0 (fun l => { l with mpls := l.mpls + 1 }))).live
    (fun e => e.setEtype 0x8847)

/-- POP_MPLS. -/
def Edit.popMpls (e : Edit) (v : Nat) : Edit :=
  let l := e.layer 0
  let o := e.l2End
  if l.mpls = 0 then e.fail drMplsUnderflow
  else
    let bottom := bit (beAt e.frame (o + 2) 1) 0
    let nib := beAt e.frame (o + 4) 1 / 16
    let et := if v ≠ 0 then some v else if nib = 4 then some 0x0800 else if nib = 6 then some 0x86DD else none
    let e := (e.remove o 4).live (fun e => e.modLayer 0 (fun l => { l with mpls := l.mpls - 1 }))
    if !bottom then e
    else match et with
      | some t => e.live (fun e => e.setEtype t)
      | none => e.fail drMplsPayload

/-- SWAP_MPLS: the label replaced, TC and S kept, TTL decremented. -/
def Edit.swapMpls (e : Edit) (v : Nat) : Edit :=
  let o := e.l2End
  if (e.layer 0).mpls = 0 then e.fail drMplsUnderflow
  else
    let old := beAt e.frame o 4
    if old % 256 ≤ 1 then e.fail drTtl else e.raw o (toBe 4 (v / 4096 * 4096 + (old % 4096 - 1)))

/-- DEC_TTL of a layer. -/
def Edit.decTtl (e : Edit) (i : Nat) : Edit :=
  e.live (fun e =>
    let l := e.layer i
    if l.l3 = 0xFFFF then e
    else
      let o := l.l3 + (if l.l3Kind = hkIp4 then 8 else 7)
      let t := beAt e.frame o 1
      if t ≤ 1 then e.fail drTtl else e.write i o (toBe 1 (t - 1)))

/-! ## SRv6 (R284) -/

/-- The Segment Routing Header that follows an IPv6 header: `nh` is the Next Header byte met, `o` where it leads. -/
def findSrh (f : List Byte) : Nat → Nat → Nat → Option Nat
  | 0, _, _ => none
  | fuel + 1, nh, o =>
    if nh = 43 then some o
    else if nh = 0 ∨ nh = 44 ∨ nh = 60 then findSrh f fuel (beAt f o 1) (o + (beAt f (o + 1) 1 + 1) * 8)
    else none

/-- SRV6_END. -/
def Edit.srv6End (e : Edit) (i : Nat) : Edit :=
  e.live (fun e =>
    let l := e.layer i
    let srh := if l.l3Kind = hkIp6 ∧ bit l.flags 0 then findSrh e.frame 10 (beAt e.frame (l.l3 + 6) 1) (l.l3 + 40) else none
    match srh with
    | none => e.fail drNoSrh
    | some o =>
      let left := beAt e.frame (o + 3) 1
      if left = 0 then e.fail drSlZero
      else
        let seg := sub e.frame (o + 8 + 16 * (left - 1)) 16
        ((e.raw (o + 3) (toBe 1 (left - 1))).live (fun e => e.write i (l.l3 + 24) seg)).decTtl i)

/-! ## Tunnels (R281, R282) -/

/-- Fields of a template (Table 08.5). -/
def tplLen (t : List Byte) : Nat := leAt t 0 1
def tplFlags (t : List Byte) : Nat := leAt t 1 1

/-- Header bytes of a template; `next` is the template that continues a WIDE one. -/
def tplHeaders (t next : List Byte) : List Byte :=
  sub (sub t 8 120 ++ (if bit (tplFlags t) 0 then sub next 0 128 else [])) 0 (tplLen t)

/-- What a frame begins with, as SET_NEXT_PROTO names it. -/
def Edit.startsWith (e : Edit) : Nat :=
  let l := e.layer 0
  if l.l2 = 0 then 143
  else if l.mpls ≠ 0 then 137
  else if l.l3 = 0 ∧ l.l3Kind = hkIp4 then 4
  else if l.l3 = 0 ∧ l.l3Kind = hkIp6 then 41
  else 143

/-- TOS or traffic class, and TTL or hop limit, of the innermost L3 header. -/
def Edit.innerL3 (e : Edit) : Option (Nat × Nat) :=
  ((e.layers.filter (fun l => decide (l.l3 ≠ 0xFFFF))).getLast?).map (fun l =>
    (if l.l3Kind = hkIp4 then beAt e.frame (l.l3 + 1) 1 else beAt e.frame l.l3 2 / 16 % 256, layerTtl e.frame l))

/-- Tags that follow the addresses of the headers of a template. -/
def tagsIn (h : List Byte) : Nat :=
  let tag := fun (o : Nat) => beAt h o 2 == 0x8100 || beAt h o 2 == 0x88A8
  if tag 12 then (if tag 16 then 2 else 1) else 0

/-- ENCAP with a template (R281). An empty template drops the packet (R285). -/
def Edit.encap (e : Edit) (t next : List Byte) (hash : Nat) : Edit :=
  e.live (fun e =>
    let fl := tplFlags t
    let l3 := leAt t 2 1
    let l4 := leAt t 3 1
    let po := leAt t 4 1
    let h := tplHeaders t next
    if tplLen t = 0 then e.fail drEmpty
    else
      let proto := e.startsWith
      let inner := e.innerL3
      let e := e.insert 0 h
      e.live (fun e =>
        let n := e.frame.length
        let v4 := beAt e.frame l3 1 / 16 == 4
        let put := fun (c : Bool) (f : List Byte) (o : Nat) (bs : List Byte) => if c then overlay f o bs else f
        let f := e.frame
        let f := put (bit fl 1) f (if v4 then l3 + 2 else l3 + 4) (toBe 2 (if v4 then n - l3 else n - l3 - 40))
        let f := put (bit fl 3 && l4 != 0xFF) f (l4 + 4) (toBe 2 (n - l4))
        let f := put (bit fl 4 && l4 != 0xFF) f l4 (toBe 2 (0xC000 + hash % 2 ^ 14))
        let f := put (bit fl 5 && po != 0xFF) f po (toBe 1 proto)
        let f := match inner with
          | some (tos, ttl) =>
            let f := put (bit fl 6) f (if v4 then l3 + 1 else l3)
              (if v4 then toBe 1 tos else toBe 2 (beAt f l3 2 / 4096 * 4096 + tos * 16 + beAt f l3 2 % 16))
            put (bit fl 7) f (if v4 then l3 + 8 else l3 + 7) (toBe 1 ttl)
          | none => f
        let f := if bit fl 2 then putIp4Csum f l3 else f
        let outer : Layer :=
          { Layer.empty with l2 := 0, l3 := l3, l3Kind := if v4 then hkIp4 else hkIp6,
                             l4 := if l4 = 0xFF then 0xFFFF else l4, l4Kind := if l4 = 0xFF then 0 else hkUdp, vlans := tagsIn h }
        { e with frame := f, layers := (outer :: e.layers).take 4 }))

/-- DECAP to layer `i` (R282). -/
def Edit.decap (e : Edit) (i : Nat) (toL3 : Bool) : Edit :=
  e.live (fun e =>
    let l := e.layer i
    let o := if toL3 then l.l3 else l.l2
    if o = 0xFFFF then e.fail drDecapAbsent
    else
      (e.remove 0 o).live (fun e =>
        let ls := e.layers.drop i
        let ls := if toL3 then Machine.modLayer ls 0 (fun l => { l with vlans := 0, mpls := 0 }) else ls
        { e with layers := ls ++ List.replicate (4 - ls.length) Layer.empty }))

end Sys2Proof.Machine
end

