-- ==== Sys2Proof/Machine/Deliver.lean ====
section
/-! DEFINITION. Delivery of a packet to its destination: functions and twins, ports, threads, sequencers, other dies
(spec/08 R286–R291, spec/15 R490, spec/18 R561). -/

namespace Sys2Proof.Machine

/-- Counters of the ACTION block lie in its counter sets at 8 × code (Table 08.16). -/
def acMirrorCopies : Nat := 0x400 / 8
def acMirrorDrop : Nat := 0x408 / 8
def acPuntSent : Nat := 0x410 / 8
def acReinjected : Nat := 0x418 / 8

/-- Fields of a FUNCTION or SEQUENCER descriptor (Table 08.8). -/
def destDie (d : Nat) : Nat := bits d 27 25
def destFn (d : Nat) : Nat := fnId (bits d 27 25) 0 (bits d 24 13)
def destRss (d : Nat) : Bool := bit d 12
def destQueue (d : Nat) : Nat := bits d 7 0
def destContext (d : Nat) : Nat := bits d 17 0
def destPod (d : Nat) : Nat := bits d 24 22
def destChannel (d : Nat) : Nat := bits d 21 14

/-- A descriptor that names a function, keeping its other fields. -/
def putDestFn (d fn : Nat) : Nat := 2 ^ 28 + mDie fn * 2 ^ 25 + mIndex fn * 2 ^ 13 + d % 2 ^ 13

/-- A packet that is dropped: its cells, in PIPELINE, are freed, its reason is counted, and its submit entry completes. -/
def State.dropPkt (s : State) (die code : Nat) (p : TmPkt) : State :=
  let s := (s.countDrop die p.pipe code).freeTm die p
  match p.tx with
  | some x => s.stampEntry x none
  | none => s

/-- The queue of a function a packet goes to (R287, R442): none where the RSS table names none. -/
def State.rxQueueOf (s : State) (fn dest hash : Nat) : Nat :=
  if destRss dest then Tbl.look 0 (s.func fn).rss (hash % 128) else destQueue dest

/-- The member of a twin pair that receives a packet (R490). -/
def TwinPair.receiver (t : TwinPair) (hash : Nat) : Nat :=
  if t.activeActive then
    if t.seenA && t.seenB then
      if bit hash 31 = t.bTakesZero then t.memberA else t.memberB
    else if t.seenB then t.memberB
    else if t.seenA then t.memberA
    else if bit hash 31 = t.bTakesZero then t.memberA else t.memberB
  else if t.bActive then t.memberB else t.memberA

/-- The function a FUNCTION descriptor reaches. -/
def State.twinTarget (s : State) (fn hash : Nat) : Nat :=
  match s.twins.find? (fun e => e.2.memberA == fn || e.2.memberB == fn) with
  | some (_, t) => t.receiver hash
  | none => fn

/-- A frame joins the input queue of its sequencer (R291, R561): its cells stay in PIPELINE. -/
def State.enqueueSeq (s : State) (die ctx : Nat) (p : TmPkt) : State :=
  let k := die * 16 + ctx % 16
  let c := s.context (die * 262144 + ctx)
  if c.state = 0 ∨ c.state = 4 ∨ s.dramOf die < 2 then s.dropPkt die drAbsent p
  else if 4096 ≤ (s.seqOf k).input.length then
    ({ s with seqCounters := Tbl.put 0 s.seqCounters (die * 4) ((Tbl.look 0 s.seqCounters (die * 4) + 1) % 2 ^ 64) }).dropPkt die drNoBuffer p
  else
    s.modSeqOf k (fun q => { q with input := q.input ++ [{ context := ctx, bytes := p.bytes, cells := p.cells, ing := p.ingKey }] })

/-- What a punt message carries of a packet's metadata (Table 08.9). -/
structure PuntInfo where
  tempo : Nat
  hits : Nat
  user : List Byte
  sourceKind : Nat
  sourceId : Nat

/-- The 32 bytes of a punt message. -/
def puntBytes (cell : Nat) (p : TmPkt) (i : PuntInfo) : List Byte :=
  toLe 4 cell ++ toLe 2 p.bytes.length ++ toLe 1 p.tc ++ toLe 1 i.sourceKind ++ toLe 3 i.sourceId ++ toLe 1 0 ++ toLe 4 p.hash ++
    toLe 4 i.tempo ++ toLe 4 i.hits ++ sub i.user 0 8

/-- 64-bit words of a byte string. -/
def words64 : Nat → List Byte → List Word
  | 0, _ => []
  | n + 1, bs => BitVec.ofNat 64 (leAt bs 0 8) :: words64 n (bs.drop 8)

/-- A punt (R290, R512): the cells pass to the pod when the message commits. -/
def State.punt (s : State) (die : Nat) (p : TmPkt) (i : PuntInfo) : State :=
  let pod := destPod p.dest
  let k := chanKey die (pod * 256 + destChannel p.dest)
  let c := s.chanOf k
  let writes := c.writer == masterId 6 die 2 || c.writer == masterId 6 die p.pipe
  if decide (pod < 6) && c.enable && writes && decide (4 ≤ c.room) then
    let cell := s.newCell die
    let s := s.setPacket (die * 6 + pod) cell { bytes := p.bytes, cells := p.cells, ing := p.ingKey }
    let s := match p.tx with
      | some x => s.stampEntry x none
      | none => s
    (s.putMessage k (words64 4 (puntBytes cell p i))).countDrop die p.pipe acPuntSent
  else s.dropPkt die drPuntFull p

/-- Delivery on the die of the destination. -/
def State.deliverHere (s : State) (die : Nat) (p : TmPkt) : State :=
  if destKind p.dest = 1 then
    let fn := destFn p.dest
    if (s.func fn).provisioned = false then s.dropPkt die drAbsent p
    else
      let s := s.deliverRx fn (s.rxQueueOf fn p.dest p.hash) p
      match p.tx with
      | some x => s.stampEntry x none
      | none => s
  else if destKind p.dest = 2 then s.tmEnqueue die p
  else s.enqueueSeq die (destContext p.dest) p

/-- The descriptor's destination with the twin resolved, and its die. -/
def State.resolve (s : State) (dest hash : Nat) : Nat × Nat :=
  if destKind dest = 1 then
    let fn := s.twinTarget (destFn dest) hash
    (putDestFn dest fn, mDie fn)
  else if destKind dest = 2 then (dest, destPort dest / 8)
  else (dest, destDie dest)

/-- A packet with its cells in PIPELINE on a die is delivered to its destination (R287, R288). -/
def State.deliverPkt (s : State) (die : Nat) (p : TmPkt) (i : PuntInfo) : State :=
  if destKind p.dest = 3 then s.punt die p i
  else if destKind p.dest = 0 ∨ 4 < destKind p.dest then s.dropPkt die drNoDestination p
  else
    let (dest, t) := s.resolve p.dest p.hash
    let p := { p with dest := dest }
    if t = die then s.deliverHere die p
    else if s.dieWorks t then s.fabricEnqueue die t p
    else s.dropPkt die drDieDown p

end Sys2Proof.Machine
end

