-- ==== Sys2Proof/Machine/Actions.lean ====
section
/-! DEFINITION. Action programs: operands, primitives, next hops, mirrors, meters, the standard program, and the end of a
program (spec/08): table row 108. -/

namespace Sys2Proof.Machine

/-! ## Versions (R271) -/

def Versioned.newBorn (v : Versioned) : Nat := if v.newerB then v.bornB else v.bornA
def Versioned.newValue (v : Versioned) : List Byte := if v.newerB then v.valueB else v.valueA
def Versioned.oldValue (v : Versioned) : List Byte := if v.newerB then v.valueA else v.valueB

/-- The version a packet reads: the largest BORN that is not above its tempo. -/
def Versioned.read (v : Versioned) (tempo : Nat) : List Byte :=
  if earlier tempo v.newBorn then v.oldValue else v.newValue

/-- A change writes the other version, born at the commit tempo. -/
def Versioned.write (v : Versioned) (tempo : Nat) (bs : List Byte) : Versioned :=
  if v.newerB then { v with bornA := tempo, valueA := bs, newerB := false }
  else { v with bornB := tempo, valueB := bs, newerB := true }

/-- Parameter set and template of a die at a tempo; a number beyond the store is an empty record (Table 08.4). -/
def Pipe.set (p : Pipe) (n tempo : Nat) : List Byte :=
  if n < 8192 then sub ((Tbl.look Versioned.reset p.sets n).read tempo) 0 32 else List.replicate 32 0
def Pipe.template (p : Pipe) (n tempo : Nat) : List Byte :=
  if n < 2048 then sub ((Tbl.look Versioned.reset p.templates n).read tempo) 0 128 else List.replicate 128 0

/-! ## Policers (R296, R297) -/

/-- A policer refilled up to a clock. -/
def Policer.at (q : Policer) (now : Nat) : Policer :=
  let dt := now - q.last
  let c := q.tokensC + dt * q.cir
  let capC := q.cbs * byteUnits
  let capE := q.ebsPbs * byteUnits
  let e := if q.mode = 1 then q.tokensEp + (c - capC) else q.tokensEp + dt * q.pir
  { q with tokensC := min capC c, tokensEp := min capE e, last := now }

/-- The colour of a packet of `n` bytes with a pre-colour, and the policer after it: 0 green, 1 yellow, 2 red (R296). -/
def Policer.meter (q : Policer) (n pre : Nat) : Nat × Policer :=
  let b := n * byteUnits
  let pre := if q.colorAware then pre else 0
  if q.mode = 1 then
    if pre = 0 ∧ b ≤ q.tokensC then (0, { q with tokensC := q.tokensC - b })
    else if pre ≤ 1 ∧ b ≤ q.tokensEp then (1, { q with tokensEp := q.tokensEp - b })
    else (2, q)
  else if q.mode = 2 then
    if 2 ≤ pre ∨ q.tokensEp < b then (2, q)
    else if 1 ≤ pre ∨ q.tokensC < b then (1, { q with tokensEp := q.tokensEp - b })
    else (0, { q with tokensC := q.tokensC - b, tokensEp := q.tokensEp - b })
  else (0, q)

/-- A policer's buckets as its record sets them (R298). -/
def Policer.start (q : Policer) (now : Nat) : Policer :=
  { q with tokensC := if q.resetToZero then 0 else q.cbs * byteUnits,
           tokensEp := if q.resetToZero then 0 else q.ebsPbs * byteUnits, last := now }

/-! ## A program in progress -/

/-- The action stage at work on a packet. -/
structure Act where
  s : State
  k : FlightPkt
  e : Edit
  dest : Nat
  /-- MTU and COUNTER of each next hop applied. -/
  hops : List (Nat × Nat)
  /-- Mirror sessions asked for with EGRESS. -/
  mirrors : List Nat
  cipher : Option (Nat × Bool × Bool)
  done : Bool
  cells : Nat

def Act.fail (a : Act) (code : Nat) : Act := { a with e := a.e.fail code, done := true }
def Act.pipeOf (a : Act) : Pipe := a.s.pipe a.k.die

/-- Bytes of the frame with the FCS. -/
def Act.len (a : Act) : Nat := a.e.frame.length

/-- METADATA_USER and TC of the vector written. -/
def Act.putVector (a : Act) (o : Nat) (bs : List Byte) : Act := { a with k := { a.k with vector := overlay a.k.vector o bs } }

/-- An edit made; cells that growth needs are taken (R278). -/
def Act.edit (a : Act) (g : Edit → Edit) : Act :=
  let e := g a.e
  if e.drop.isSome then { a with e := e, done := true }
  else
    let need := cellsFor e.frame.length - a.cells
    if need = 0 then { a with e := e }
    else if need ≤ a.s.sharedFree a.k.die then
      { a with e := e, cells := a.cells + need, s := (a.s.takeCells a.k.die need).ingAdd a.k.die a.k.ing need }
    else { a with e := e }.fail drNoBuffer

/-- ENCAP with a template number (R281). -/
def Act.encap (a : Act) (n : Nat) : Act :=
  let p := a.pipeOf
  a.edit (fun e => e.encap (p.template n a.k.tempo) (p.template (n + 1) a.k.tempo) (leAt a.k.vector 0x14 4))

/-- COUNT (R292). -/
def Act.count (a : Act) (pair : Nat) : Act := { a with s := a.s.countPair a.k.die (pair % 4194304) a.len }

/-- METER with its COLOR (R296). -/
def Act.meter (a : Act) (n : Nat) (dropRed : Bool) : Act :=
  let n := n % 32768
  let q := (Tbl.look Policer.reset a.pipeOf.policers n).at (a.s.clockAt a.k.die)
  let (c, q) := q.meter (a.len + 4) (leAt a.k.vector 0x03F 1)
  let q := if q.mode = 0 then Tbl.look Policer.reset a.pipeOf.policers n else q
  let a := { a with s := a.s.modPipe a.k.die (fun p => { p with policers := Tbl.put Policer.reset p.policers n q }) }
  let a := a.putVector 0x03F (toLe 1 c)
  if dropRed ∧ c = 2 then a.fail drRed else a

/-- NEXTHOP (R285). -/
def Act.nextHop (a : Act) (n : Nat) : Act :=
  let r := a.pipeOf.set n a.k.tempo
  let fl := leAt r 1 1
  if leAt r 0 1 ≠ 1 then a.fail drEmpty
  else
    let inner := (a.e.layers.zipIdx.filter (fun (l, _) => decide (l.l3 ≠ 0xFFFF))).getLast?
    let a := match bit fl 0, inner with
      | true, some (_, i) => a.edit (fun e => e.decTtl i)
      | _, _ => a
    let a := if bit fl 3 && !a.done then a.encap (leAt r 0x16 2) else a
    let a := if bit fl 1 && !a.done then a.edit (fun e => e.raw 0 (sub r 8 12)) else a
    let a := if bit fl 2 && !a.done then a.edit (fun e => e.pushVlan 0x8100 (leAt r 0x14 2)) else a
    if a.done then a else { a with dest := leAt r 4 4, hops := a.hops ++ [(leAt r 2 2, leAt r 0x18 4)] }

/-- What a punt message carries of a packet. -/
def FlightPkt.punt (k : FlightPkt) : PuntInfo :=
  { tempo := k.tempo, hits := (List.range 32).foldl (fun h n => h + (if bit (resultOf k.vector n) 0 then 2 ^ n else 0)) 0,
    user := sub k.vector 0x020 8, sourceKind := leAt k.vector 6 1, sourceId := leAt k.vector 8 3 }

/-- Ingress count of a packet as the traffic manager's fields name it. -/
def FlightPkt.fromPort (k : FlightPkt) : Option Nat :=
  k.ing.bind (fun i => if i < 64 then some (8 * k.die + i / 8) else none)
def FlightPkt.fromDie (k : FlightPkt) : Option Nat := k.ing.bind (fun i => if i < 64 then none else some ((i - 64) / 8))

/-- A frame of the packet on its way out of the pipeline. -/
def FlightPkt.out (k : FlightPkt) (bytes : List Byte) (dest : Nat) (peer : Int) (tx : Option TxInfo) : TmPkt :=
  { bytes := bytes, tc := leAt k.vector 0x12 1 % 8,
    ingressClass := match k.ing with
      | some i => i % 8
      | none => k.tc % 8,
    sourceKind := k.sourceKind, sourceId := k.sourceId, dest := dest, pipe := k.pipe, fromDie := k.fromDie,
    fromPort := k.fromPort, inTick := k.inTick, peerDelay := peer, hash := leAt k.vector 0x14 4, stamp := k.stamp,
    csum := leAt k.vector 0x10 2, macMatch := leAt k.vector 0x0B 1, tx := tx }

/-- PEER_DELAY of the port a packet came in on (R390). -/
def State.peerDelayOf (s : State) (k : FlightPkt) : Int :=
  if k.sourceKind = 0 ∧ k.sourceId < 64 then (s.port k.sourceId).ptp.inEffect.peerDelay else 0

/-- One copy for a mirror session (R286): `f` is the frame copied, with its layers. -/
def Act.mirror (a : Act) (n : Nat) (f : List Byte) (layers : List Layer) : Act :=
  let die := a.k.die
  let r := a.pipeOf.set n a.k.tempo
  let lost := { a with s := a.s.countDrop die a.k.pipe acMirrorDrop }
  if leAt r 0 1 ≠ 2 then lost
  else
    let every := leAt r 0x0C 4
    let (x, s) := if every ≤ 1 then (0, a.s) else a.s.draw 32
    if 1 < every ∧ x % every ≠ 0 then { a with s := s }
    else
      let cut := leAt r 2 2
      let f := if cut = 0 then f else f.take cut
      let tpl := leAt r 8 2
      let p := a.pipeOf
      let e := editOf f layers []
      let e := if tpl = 0xFFFF then e
        else e.encap (p.template tpl a.k.tempo) (p.template (tpl + 1) a.k.tempo) (leAt a.k.vector 0x14 4)
      let cells := cellsFor e.frame.length
      if e.drop.isSome ∨ s.sharedFree die < cells then { lost with s := s.countDrop die a.k.pipe acMirrorDrop }
      else
        let copy := { { a.k with ing := none }.out e.frame (leAt r 4 4) (s.peerDelayOf a.k) none with sourceKind := 0, fromPort := none }
        let s := (s.takeCells die cells).countDrop die a.k.pipe acMirrorCopies
        let s := if leAt r 0x10 4 = 0xFFFFFFFF then s else s.countPair die (leAt r 0x10 4 % 4194304) e.frame.length
        { a with s := s.deliverPkt die copy a.k.punt }

/-- Layers of a packet as parsed. -/
def FlightPkt.layers (k : FlightPkt) : List Layer := (List.range 4).map (fun i => layerOf (sub k.vector (0x040 + 16 * i) 16))

/-- LEARN (R258): a request with the key of the pipeline's flow lookup, the first where it has several (log 118). -/
def Act.learn (a : Act) (n : Nat) (delete : Bool) : Act :=
  match a.k.flowLookups with
  | [] => a
  | (_, t, key) :: _ =>
    let r := a.pipeOf.set n a.k.tempo
    let req : LearnReq :=
      { table := t, key := key, mask := [], priority := 0, place := 0, action := leAt r 0 2,
        params := (sub r 2 30).take (116 - key.length), delete := delete, pipe := a.k.pipe }
    { a with s := a.s.askLearn a.k.die none req }

/-- ENCRYPT and DECRYPT (R299): the hand-over is made at the end of the program. -/
def Act.hand (a : Act) (slot : Nat) (decrypt reinject : Bool) : Act := { a with cipher := some (slot % 131072, decrypt, reinject) }

/-- HAIRPIN (R289). -/
def Act.hairpin (a : Act) : Act :=
  let d :=
    if a.k.pipe = 0 then 2 * 2 ^ 28 + a.k.sourceId % 64 * 2 ^ 22 + 0xFFFF
    else if a.k.sourceKind = 1 then putDestFn 0x1000 a.k.sourceId
    else 0
  { a with dest := d }

/-! ## Primitives (Table 08.4) -/

/-- Fields of a primitive. -/
def prOp (w : Nat) : Nat := bits w 5 0
def prSrc (w : Nat) : Nat := bits w 7 6
def prRw (w : Nat) : Nat := bits w 12 8
def prArg (w : Nat) : Nat := bits w 31 13

/-- Width code of ENTRY, VECTOR, SET_FIELD and SET_META. -/
def widthOf (c : Nat) : Nat := if c = 1 then 1 else if c = 2 then 2 else 4

/-- The operand V of a slot: none where the primitive does nothing because its result word has no HIT (R275). -/
def Act.operand (a : Act) (w : Nat) : Option Nat :=
  let g := prArg w
  if prSrc w = 0 then some (g % 65536)
  else if prSrc w = 1 then
    if bit (resultOf a.k.vector (prRw w)) 0 then
      some (leAt (Tbl.look [] a.k.params (prRw w)) (bits g 6 0) (widthOf (bits g 8 7)))
    else none
  else if prSrc w = 2 then some (leAt (a.pipeOf.set (bits g 12 0) a.k.tempo) (4 * bits g 15 13) 4)
  else some (beAt a.k.vector (bits g 8 0) (widthOf (bits g 10 9)))

/-- One primitive; `next` is the slot after it. The second result is how many further slots are skipped. -/
def Act.primitive (a : Act) (w next : Nat) : Act × Nat :=
  let op := prOp w
  let g := prArg w
  let fl := bits g 18 16
  let hit := bit (resultOf a.k.vector (prRw w)) 0
  let skip := fun (c : Bool) => (a, if c then fl else 0)
  if op = 0x14 then skip hit
  else if op = 0x15 then skip (!hit)
  else if op = 0x04 then (a.hairpin, 0)
  else if op = 0x09 then (a.edit (fun e => e.decap (fl % 4) (bit fl 2)), 0)
  else if op = 0x0C then (a.edit (fun e => e.popVlan), 0)
  else if op = 0x10 then (a.edit (fun e => e.decTtl (fl % 4)), 0)
  else if op = 0x11 then (a.edit (fun e => e.srv6End (fl % 4)), 0)
  else if op = 0x12 then
    match a.operand next with
    | some v => (a.edit (fun e => e.setField (bits g 1 0) (bits g 3 2) (bits g 9 4) (widthOf (bits g 11 10)) v), 1)
    | none => (a, 1)
  else if op = 0x13 then
    match a.operand next with
    | some v => (a.putVector (0x020 + bits g 4 0) (toBe (widthOf (bits g 6 5)) v), 1)
    | none => (a, 1)
  else if op = 0x00 ∨ op = 0x3F then (a, 0)
  else
    match a.operand w with
    | none => (a, 0)
    | some v =>
      if op = 0x01 then (a.fail (0x40 + v % 64), 0)
      else if op = 0x02 then ({ a with dest := v }, 0)
      else if op = 0x03 then (a.nextHop v, 0)
      else if op = 0x05 then
        (if bit fl 0 then { a with mirrors := a.mirrors ++ [v] } else a.mirror v a.k.original a.k.layers, 0)
      else if op = 0x06 then (a.count v, 0)
      else if op = 0x07 then (a.meter v (bit fl 0), 0)
      else if op = 0x08 then (a.putVector 0x12 (toLe 1 (v % 8)), 0)
      else if op = 0x0A then (a.encap v, 0)
      else if op = 0x0B then (a.edit (fun e => e.pushVlan (v / 65536) (v % 65536)), 0)
      else if op = 0x0D then (a.edit (fun e => e.pushMpls v), 0)
      else if op = 0x0E then (a.edit (fun e => e.popMpls (v % 65536)), 0)
      else if op = 0x0F then (a.edit (fun e => e.swapMpls v), 0)
      else if op = 0x16 then skip (decide (v ≠ 0))
      else if op = 0x17 then skip (decide (v = 0))
      else if op = 0x18 then (a.learn v (bit fl 0), 0)
      else if op = 0x19 then (a.hand v false false, 0)
      else if op = 0x1A then (a.hand v true (bit fl 0), 0)
      else (a, 0)

/-- The slots of a word from `i` on. -/
def Act.slots (a : Act) (ws : List Nat) : Nat → Nat → Act
  | 0, _ => a
  | fuel + 1, i =>
    if a.done ∨ 7 ≤ i then a
    else
      let (a, n) := a.primitive (ws.getD i 0) (ws.getD (i + 1) 0)
      a.slots ws fuel (i + 1 + n)

/-- A program from an action word on: at most eight words (R274). -/
def Act.run (b : Bank) : Nat → Nat → Act → Act
  | 0, _, a => a.fail drActionLimit
  | fuel + 1, addr, a =>
    match Tbl.find b.words addr with
    | none => a.fail drUndefined
    | some w =>
      let a := a.slots w.slots 7 0
      if a.done ∨ w.nextMode = 2 then a
      else
        let rw := resultOf a.k.vector w.result
        if w.nextMode = 1 ∧ bit rw 0 then
          let addr := Tbl.look 0 b.entryTable (bits rw 23 8)
          if addr = 0 then a.fail drUndefined else a.run b fuel addr
        else a.run b fuel w.next

/-! ## The standard program (R301, R302) -/

/-- Parameters of the entry a lookup of the standard program hit, with its entry number. -/
def Act.hit (a : Act) (n : Nat) : Option (Nat × List Byte) :=
  let w := resultOf a.k.vector n
  if bit w 0 then some (bits w 23 8, Tbl.look [] a.k.params n) else none

/-- The program ends. -/
def Act.stop (a : Act) : Act := { a with done := true }

def Act.countIf (a : Act) (c : Nat) : Act := if c = 0xFFFFFFFF ∨ a.done then a else a.count c
def Act.meterIf (a : Act) (p : Nat) : Act := if p = 0xFFFF ∨ a.done then a else a.meter p true
def Act.hopIf (a : Act) (n : Nat) : Act := if n = 0xFFFF ∨ a.done then a else a.nextHop n

/-- Step 1: the access control list. -/
def Act.stdAcl (a : Act) : Act :=
  match a.hit 12 with
  | none => a
  | some (_, b) =>
    let a := if leAt b 1 1 = 0xFF then a else a.putVector 0x12 (toLe 1 (leAt b 1 1 % 8))
    let a := (a.meterIf (leAt b 2 2)).countIf (leAt b 4 4)
    let a := if leAt b 8 2 = 0xFFFF ∨ a.done then a else a.mirror (leAt b 8 2) a.k.original a.k.layers
    if a.done then a
    else if leAt b 0 1 = 1 then a.fail drAclDeny
    else if leAt b 0 1 = 2 then { a with dest := leAt b 10 4 }.stop
    else a

/-- Step 2: SOURCE_MAP, TUNNEL_TERM, MPLS_LABEL, LOCAL_SID. -/
def Act.stdTunnels (a : Act) : Act :=
  let a := match a.hit 0 with
    | some (6, b) => if a.done then a else (a.hand (leAt b 8 4 + leAt a.k.vector 0x0E2 1 % 4) true true).stop
    | _ => a
  let a := if a.done then a else match a.hit 2 with
    | some (3, _) => a.edit (fun e => e.decap 1 false)
    | some (4, _) => a.edit (fun e => e.decap 1 true)
    | some (5, b) => (a.hand (leAt b 4 4) true true).stop
    | _ => a
  let a := if a.done then a else match a.hit 3 with
    | some (7, _) => a.edit (fun e => e.popMpls 0)
    | some (8, b) => ((a.edit (fun e => e.swapMpls (leAt b 4 4))).hopIf (leAt b 2 2)).stop
    | _ => a
  if a.done then a else match a.hit 4 with
    | some (9, b) => ((a.edit (fun e => e.srv6End 0)).hopIf (leAt b 0 2)).stop
    | some (10, _) => a.edit (fun e => e.decap 1 true)
    | some (11, b) => ((a.edit (fun e => e.decap 1 false)).hopIf (leAt b 0 2)).stop
    | _ => a

/-- Steps 3 to 8. -/
def Act.stdForward (a : Act) : Act :=
  if a.done then a
  else match a.hit 8, a.hit 7, a.hit 6, (a.hit 10).orElse (fun _ => a.hit 11), a.hit 0 with
    | some (_, b), _, _, _, _ =>
      let a := if leAt b 0 4 ≠ 0 then { a with dest := leAt b 0 4 } else a.hopIf (leAt b 4 2)
      ((a.countIf (leAt b 6 4)).meterIf (leAt b 10 2)).stop
    | none, some (_, b), _, _, _ => ((({ a with dest := leAt b 0 4 }).countIf (leAt b 4 4)).meterIf (leAt b 8 2)).stop
    | none, none, some (_, b), _, _ => { a with dest := leAt b 0 4 }.stop
    | none, none, none, some (_, b), _ => (a.hopIf (leAt b 0 2)).stop
    | none, none, none, none, some (_, b) => { a with dest := leAt b 4 4 }.stop
    | none, none, none, none, none => a.stop

/-- The program of a pipeline in its bank. -/
def Act.program (a : Act) (b : Bank) : Act :=
  if b.standard then a.stdAcl.stdTunnels.stdForward
  else
    let addr := Tbl.look 0 b.entryTable a.k.pipe
    if addr = 0 then a.fail drUndefined else a.run b 8 addr

/-! ## The end of a program -/

/-- The packet leaves flight. -/
def State.dropFlight (s : State) (id : Nat) : State := { s with flight := Tbl.del s.flight id }

/-- The submit entry of a packet that never reaches its traffic manager completes: NOT_SENT with STAMP, OK for a
SEND_TSO without (R430, R432). -/
def State.loseEntry (s : State) (tx : Option TxInfo) : State :=
  match tx with
  | none => s
  | some x => if x.wantStamp then s.stampEntry x none else if x.mss ≠ 0 then s.endEntry x 0 else s

/-- A packet in flight is discarded without a count. -/
def State.discardFlight (s : State) (id : Nat) (k : FlightPkt) (cells : Nat) : State :=
  ((s.dropFlight id).freePacket k.die cells k.ing).loseEntry k.tx

/-- A packet in flight is dropped for a reason (R305). -/
def State.dropInFlight (s : State) (id : Nat) (k : FlightPkt) (cells code : Nat) : State :=
  (s.countDrop k.die k.pipe code).discardFlight id k cells

/-- A packet holds exactly the cells its bytes need from here on. -/
def State.fitCells (s : State) (die cells : Nat) (ing : Option Nat) (need : Nat) : State :=
  if need < cells then s.freePacket die (cells - need) ing
  else if cells < need then (s.takeCells die (need - cells)).ingAdd die ing (need - cells)
  else s

/-- One segment of a SEND_TSO packet (R432). `hdr` is the length of the edited headers, `n` the number of segments. -/
def tsoSegment (f : List Byte) (layers : List Layer) (hdr mss n k : Nat) : List Byte :=
  let g := f.take hdr ++ (f.drop (hdr + k * mss)).take mss
  let len := g.length
  let fix := fun (g : List Byte) (l : Layer) =>
    let g :=
      if l.l3Kind = hkIp4 then
        overlay (overlay g (l.l3 + 2) (toBe 2 (len - l.l3))) (l.l3 + 4) (toBe 2 ((beAt g (l.l3 + 4) 2 + k) % 65536))
      else if l.l3Kind = hkIp6 then overlay g (l.l3 + 4) (toBe 2 (len - l.l3 - 40))
      else g
    if l.l4Kind = hkUdp then overlay g (l.l4 + 4) (toBe 2 (len - l.l4)) else g
  let g := layers.foldl fix g
  match (layers.filter (fun l => decide (l.l4Kind = hkTcp))).getLast? with
  | none => g
  | some l =>
    let g := overlay g (l.l4 + 4) (toBe 4 ((beAt g (l.l4 + 4) 4 + k * mss) % 2 ^ 32))
    let fl := beAt g (l.l4 + 13) 1
    let fl := if k + 1 < n then fl &&& 0xF6 else fl
    let fl := if 0 < k then fl &&& 0x7F else fl
    overlay g (l.l4 + 13) (toBe 1 fl)

/-- The frames a packet goes on as: itself, or the segments of a SEND_TSO; none where it cannot be split (R432). -/
def Act.frames (a : Act) : Option (List (List Byte × Option TxInfo)) :=
  match a.k.tx with
  | none => some [(a.e.frame, none)]
  | some x =>
    let x := { x with offs := a.e.offs }
    if x.mss = 0 then some [(a.e.frame, some x)]
    else
      let hdr := x.hdrLen + a.e.frame.length - a.e.base
      let n := max 1 (ceilDiv (a.e.frame.length - hdr) x.mss)
      match (a.e.layers.filter (fun l => decide (l.l4 ≠ 0xFFFF))).getLast? with
      | some l =>
        if l.l4Kind = hkTcp ∧ l.l4 + beAt a.e.frame (l.l4 + 12) 1 / 16 * 4 ≤ hdr then
          some ((List.range n).map (fun k =>
            (tsoSegment a.e.frame a.e.layers hdr x.mss n k, some { x with mss := 0, wantStamp := x.wantStamp && k == 0 })))
        else none
      | none => none

/-- The longest frame the packet goes on as, for the MTU check (R285, log 30). -/
def Act.mtuLen (a : Act) : Nat :=
  match a.k.tx with
  | some x => if x.mss = 0 then a.len else min a.len (x.hdrLen + a.len - a.e.base + x.mss)
  | none => a.len

/-- The reason for which a packet is dropped once its program has ended, in this order (R277, R278, R285, log 31). -/
def Act.endReason (a : Act) : Option Nat :=
  let re := match a.cipher with
    | some (_, dec, re) => dec && re
    | none => false
  let kind := destKind a.dest
  if a.e.drop.isSome then a.e.drop
  else if re then none
  else if kind = 0 ∨ 4 < kind then some drNoDestination
  else if (kind = 1 ∨ kind = 2) ∧ (a.e.layer 0).l2 ≠ 0 then some drNoL2
  else if a.hops.any (fun (m, _) => m != 0 && decide (m < a.mtuLen + 4)) then some drMtu
  else none

/-- Each frame is delivered, or waits for the cipher engine as a packet of its own in flight (R299, R413, R432). The cells
of the packet have been fitted to all of them. -/
def Act.send (a : Act) (fs : List (List Byte × Option TxInfo)) : State :=
  let peer := a.s.peerDelayOf a.k
  match a.cipher with
  | none => fs.foldl (fun s (f, tx) => s.deliverPkt a.k.die (a.k.out f a.dest peer tx) a.k.punt) a.s
  | some (slot, dec, re) =>
    fs.foldl (fun s (f, tx) => s.addFlight
      { a.k with phase := .cipherIn 0, frame := f, cells := cellsFor f.length, tx := tx,
                 vector := overlay a.k.vector 0x040 (a.e.layers.flatMap Layer.bytes),
                 verdict := { dest := a.dest, mtu := 0, counter := 0xFFFFFFFF, cipherSlot := some slot, decrypt := dec,
                              reinject := re } }) a.s

/-- The end of a program: copies of the frame as it stands, drops, counts, and the packet goes on. -/
def Act.finish (a : Act) (id : Nat) : State :=
  let a := a.mirrors.foldl (fun a n => a.mirror n a.e.frame a.e.layers) a
  match a.endReason with
  | some code => a.s.dropInFlight id a.k a.cells code
  | none =>
    let a := a.hops.foldl (fun a (_, c) => if c = 0xFFFFFFFF then a else a.count c) a
    if a.cipher.isSome && !a.s.boot.cipher then a.s.dropInFlight id a.k a.cells drCipherKey
    else
    match a.frames with
    | none =>
      let s := (a.s.dropFlight id).freePacket a.k.die a.cells a.k.ing
      (match a.k.tx with
        | some x => s.endEntry x 0x05
        | none => s)
    | some fs =>
      let need := (fs.map (fun (f, _) => cellsFor f.length)).sum
      if a.cells + a.s.sharedFree a.k.die < need then a.s.dropInFlight id a.k a.cells drNoBuffer
      else
        let s := (a.s.dropFlight id).fitCells a.k.die a.cells a.k.ing need
        let s := match a.k.tx with
          | some x => if x.mss ≠ 0 ∧ x.wantStamp = false then s.endEntry x 0 else s
          | none => s
        { a with s := s }.send fs

/-- Packets of a pipeline that wait before the cipher engine (R413). -/
def State.cipherQueue (s : State) (die pipe : Nat) : Nat :=
  (s.flight.filter (fun (_, k) => k.die == die && k.pipe == pipe && decide (k.phase = .cipherIn 0))).length

/-- Action memory's policers begin at this word, 32 bytes to a word (Table 08.1). -/
def policerWord : Nat := 0x18000

/-- Firmware rewrites a place of action memory that could not be read: a policer takes its configuration (Table 08.17). -/
def State.rewriteAction (s : State) (die place : Nat) : State :=
  if place < policerWord ∨ 32768 ≤ place - policerWord then s
  else
    let now := s.clockAt die
    s.modPipe die (fun p =>
      let n := place - policerWord
      { p with policers := Tbl.put Policer.reset p.policers n ((Tbl.look Policer.reset p.policers n).start now) })

/-- A packet's program may start: it has left no earlier packet of its source behind, but for those that wait on a flow
key (R246). -/
def State.programMayStart (s : State) (id : Nat) (k : FlightPkt) : Bool :=
  decide (k.phase = .hold) && !(s.flight.any (fun (i, j) => decide (i < id) && j.die == k.die && j.pipe == k.pipe
    && j.sourceKind == k.sourceKind && j.sourceId == k.sourceId && (decide (j.phase = .hold)
      || (decide (j.phase = .flowWait) && j.flowLookups.any (fun x => k.flowLookups.any (fun y => y.2 == x.2))))))

/-- The program of a packet run to its end. -/
def State.programOn (s : State) (k : FlightPkt) : Act :=
  let a : Act :=
    { s := s, k := k, e := editOf k.frame k.layers ((k.tx.map (fun x => x.offs)).getD []), dest := 0, hops := [],
      mirrors := [], cipher := none, done := false, cells := k.cells }
  a.program (s.bankOf k.bank)

/-- ACTION_PROGRAM (R274–R302): the program of packet `packet` runs. `fault` names a place of action memory that it read
and the code could not correct (R307). While the stage waits for counters no program starts (R293). -/
def execActionProgram (packet : Nat) (fault : Option Nat) (s : State) : Host.Outcome State Fault Refusal :=
  match Tbl.find s.flight packet with
  | none => .next s
  | some k =>
    if !s.live k.die || !s.programMayStart packet k || s.counterWaits k.die then .next s
    else
      match fault with
      | some place =>
        let s := (s.raise 0x0302 sevDegraded 0 k.die 0 place 0).dropInFlight packet k k.cells drActionEcc
        .next (s.rewriteAction k.die place)
      | none =>
        let a := s.programOn k
        if a.cipher.isSome && decide (2048 ≤ s.cipherQueue k.die k.pipe) then .next s
        else .next (a.finish packet)

end Sys2Proof.Machine
end

