-- ==== Sys2Proof/Machine/Regs.lean ====
section
/-! DEFINITION. Values of registers that are computed from the state and carried in replies (spec/01, 02, 05, 09, 11,
19). -/

namespace Sys2Proof.Machine

/-- BOOT_STATUS.STAGE codes (R57). -/
def Stage.code : Stage → Nat
  | .reset => 0
  | .selftest => 1
  | .chain => 2
  | .flash => 3
  | .verify => 4
  | .init => 5
  | .ready => 6
  | .noImage => 14
  | .failed => 15

/-- BOOT_STATUS.LIFECYCLE codes (Table 02.3). -/
def Lifecycle.code : Lifecycle → Nat
  | .manufacture => 0
  | .provisioned => 1
  | .owned => 2
  | .decommissioned => 3

/-- CHIP_IDENT (R6): stepping B1. -/
def State.chipIdent (s : State) : Nat := 0x21 + 2 ^ 8 * b2n s.boot.cipher + 2 ^ 16 * s.boot.part.number

/-- DIE_MAP (R47). -/
def State.dieMap (s : State) : Nat := s.boot.numberMask + 2 ^ 8 * s.boot.positionPassed

/-- BOOT_STATUS (R57). -/
def State.bootStatus (s : State) : Nat :=
  let b := s.boot
  b.stage.code + 2 ^ 4 * b.slot + 2 ^ 5 * b2n b.fallback + 2 ^ 6 * b.flashMode + 2 ^ 8 * b.failCause
    + 2 ^ 12 * b.fuses.lifecycle.code + 2 ^ 14 * b2n b.fuses.requirePq + 2 ^ 16 * b.fuses.minSvn + 2 ^ 24 * b.runningSvn

/-- The debug port lets its user in (Table 02.3, R77, R176): from the release of PKG_RESET_N; open in MANUFACTURE, closed in
DECOMMISSIONED, otherwise while a DEBUG_UNLOCK is in force. -/
def State.debugOpen (s : State) : Bool :=
  s.boot.railsGood && !s.boot.pkgReset && (match s.boot.fuses.lifecycle with
    | .manufacture => true
    | .decommissioned => false
    | _ => s.protect.debugUntil.isSome)

/-- What the IEEE 1149.1 port reads at an offset of block PACKAGE (R48, R57, R59): BOOT_STATUS and CHIP_IDENT, in every lifecycle
state. The table has no row for such a read (log 106). -/
def State.debugRead (s : State) (offset : Nat) : Option Nat :=
  if s.boot.railsGood = false ∨ s.boot.pkgReset = true then none
  else if offset = 0 then some s.chipIdent else if offset = 0x110 then some s.bootStatus else none

/-- PKG_ROLES (R34). -/
def State.pkgRoles (s : State) : Nat :=
  let r := s.roles
  r.lead + 2 ^ 4 * r.mirror + 2 ^ 7 * b2n r.substitute + 2 ^ 8 * (2 ^ s.dieCount - 1) + 2 ^ 16 * r.failed
    + 2 ^ 24 * s.dieCount + 2 ^ 28 * min 15 r.castlings

/-- The package is in bypass (R74): VAUX is absent, or BYPASS or RELEASE has put it there. -/
def State.inBypass (s : State) : Bool := !s.boot.vaux || s.chain.bypassed || s.chain.released

/-- CHAIN_STATUS. -/
def State.chainStatus (s : State) : Nat :=
  let c := s.chain
  c.address + 2 ^ 8 * c.rate + 2 ^ 10 * b2n s.inBypass + 2 ^ 11 * b2n c.clockSeen + 2 ^ 16 * c.fcsErrors

/-- TIME_STATUS of a die (R397). The reference die is aligned with itself from READY on (R383, log 92). -/
def State.timeStatus (s : State) (d : Nat) : Nat :=
  let m := s.timeModel
  let t := s.dieTime d
  b2n m.valid + 2 * b2n (t.aligned || (s.ready && d == m.refDie)) + 4 * b2n m.pending.isSome + 2 ^ 4 * m.refDie + 2 ^ 8 * min 0xFF t.alignErr
    + 2 ^ 16 * min 0xFFFF m.steps

/-- A die's PARTITION register of one tree (R478). -/
def State.partition (s : State) (die tree : Nat) : Partition :=
  (Tbl.find s.partitions (2 * die + tree)).getD (Partition.reset tree)

/-- Live proposals: PROPOSED or PENDING (R169). -/
def Protect.live (p : Protect) : Nat :=
  (p.proposals.filter (fun (_, q) => decide (q.state = .proposed) || decide (q.state = .pending))).length

/-- PROTECT_STATUS (spec/05). -/
def State.protectStatus (s : State) : Nat :=
  let p := s.protect
  p.live + 2 ^ 5 * b2n s.boot.fuses.authority.isSome + 2 ^ 6 * b2n s.boot.fuses.authorityPq.isSome
    + 2 ^ 7 * b2n p.debugUntil.isSome + 2 ^ 16 * p.sigFails + 2 ^ 32 * p.nextProposal

/-- Versions retired on a die and not yet reclaimed (TXN_STATUS.RECLAIM_PENDING): entries, roots of
longest-prefix tables, key slots. -/
def State.reclaimPending (s : State) (d : Nat) : Nat :=
  let keys := (s.cipherOf d).slots
  min 0xFFFFFFFF (((s.pipe d).entries.filter (fun e => e.retired.isSome)).length + (s.pipe d).roots.length
    + (keys.filter (fun e => e.2.newer.retired.isSome)).length + (keys.filter (fun e => e.2.older.retired.isSome)).length)

/-- ERR_STATUS (spec/19). -/
def State.errStatus (s : State) : Nat :=
  let e := s.errors
  let sev := match e.handling.head? with
    | none => 7
    | some n => ((e.records.find? (fun r => r.ersn == n)).map (fun r => r.severity)).getD 7
  b2n e.overflow + 2 * sev + 2 ^ 16 * (e.records.filter (fun r => r.isOpen)).length + 2 ^ 32 * e.lost

end Sys2Proof.Machine
end

