-- ==== Sys2Proof/Machine/Chain.lean ====
section
/-! DEFINITION. The Stollek chain (spec/02): table rows 24–30, 33, 34, 36. Rows that pass a command packet on are in
`Machine/Transport.lean`, TXN frames in `Machine/TxnFrames.lean`, ENDORSE frames in `Machine/Protect.lean`. -/

namespace Sys2Proof.Machine

/-- The island hears frames: VAUX is present and it forwards. -/
def State.chainAlive (s : State) : Bool := s.boot.vaux && s.chain.forwarding

/-- The package takes frames: it is alive and not in bypass (R74). -/
def State.chainTakes (s : State) : Bool := s.chainAlive && !s.inBypass

/-- A frame's DEST is this package's address, or that of every package (Table 02.5). -/
def State.chainDest (s : State) (dest : Nat) : Bool := (s.chain.address != 0 && dest == s.chain.address) || dest == 0xFF

/-- A frame names this package. One for every package is consumed and answered by the first that takes it, a point the spec leaves
open (log 107). -/
def State.chainNames (s : State) (dest : Nat) : Bool := s.chainTakes && s.chainDest dest

/-- Only BOOT_STATUS answers on the chain of a DECOMMISSIONED package (R59): it sends no other reply. -/
def State.chainAnswer (s : State) (seq : Nat) (payload : List Byte) : State :=
  if s.boot.fuses.lifecycle = .decommissioned then s else s.chainReply seq payload

/-- Firmware answers over the chain (Table 02.7): READY and not DECOMMISSIONED (R59). -/
def State.chainServes (s : State) (dest : Nat) : Bool := s.chainNames dest && s.decides

/-- The package is not READY and serves no command of the chain, but answers its frames (R67, R77). -/
def State.chainEarly (s : State) : Bool := s.chainTakes && !s.decides && decide (s.boot.fuses.lifecycle ≠ .decommissioned)

/-- The identity of the chain head's frames (R68). -/
def State.headId (s : State) : Nat := masterId 4 s.servingDie 0

/-- An ENUMERATE frame as it leaves the package: only the fields that the package changes differ. -/
def enumFrame (dest src seq next mode maxRate : Nat) (rest : List Byte) : List Byte :=
  chainFrame dest src 0x01 seq ([BitVec.ofNat 8 next, BitVec.ofNat 8 mode, BitVec.ofNat 8 maxRate] ++ rest)

/-- An ENUMERATE frame passes (R71–R74, R325): it ends the bypass of a RELEASE, the package takes an address where the mode says so, and
lowers MAX_RATE. A package in bypass keeps its address even in MODE RENUMBER, a point the spec leaves open (log 107). -/
def State.enumerate (s : State) (dest src seq next mode maxRate : Nat) (rest : List Byte) : State :=
  let s := if s.chainAlive && decide (mode ≤ 1) then { s with chain := { s.chain with released := false } } else s
  if s.chainTakes then
    let s := if mode = 1 then s.abortTxnsOf (masterId 4 0 0) else s
    let addr := if mode = 1 then 0 else s.chain.address
    let take := decide (addr = 0) && decide (next ≠ 0xFF) && decide (mode ≤ 1)
    let s := { s with chain := { s.chain with clockSeen := true, address := if take then next else addr } }
    s.emit (.chain (enumFrame dest src seq (if take then next + 1 else next) mode (min maxRate 2) rest))
  else s.emit (.chain (enumFrame dest src seq next mode maxRate rest))

/-- ENUMERATE (R71–R74). -/
def execEnumerate (seq next mode maxRate : Nat) (s : State) : Host.Outcome State Fault Refusal :=
  .next (s.enumerate 0xFF 0 seq next mode maxRate [])

/-- The chain runs at a rate code from here on (R70). -/
def State.setRate (s : State) (code : Nat) : State := { s with chain := { s.chain with rate := code, clockSeen := true } }

/-- RATE (R70, R71): the rate code of the chain. A code above the highest the package supports breaks R71, which
states no behaviour. -/
def execRate (seq code : Nat) (s : State) : Host.Outcome State Fault Refusal :=
  let f := Out.chain (chainFrame 0xFF 0 0x02 seq [BitVec.ofNat 8 code])
  if s.chainTakes then
    if code ≤ 2 then .next ((s.setRate code).emit f)
    else .fault (.notGuaranteed 71)
  else .next (s.emit f)

/-- A RELEASE that names the package: it answers, gives up its address and enters bypass (R67, R74). -/
def State.release (s : State) (seq : Nat) : State :=
  let s := s.chainAnswer seq []
  { s with chain := { s.chain with address := 0, released := true } }

/-- RELEASE (R67, R74). -/
def execRelease (dest seq : Nat) (s : State) : Host.Outcome State Fault Refusal :=
  .next (if s.chainNames dest then s.release seq else s.emit (.chain (chainFrame dest 0 0x03 seq [])))

/-- A BYPASS frame whose DEST is the package's (R67, R74): it enters bypass or leaves the bypass of an earlier BYPASS. In bypass the
frame passes on, and the package answers nothing. -/
def State.bypassFrame (s : State) (seq : Nat) (enter : Bool) (frame : List Byte) : State :=
  let s := if s.inBypass then s.emit (.chain frame) else s.chainAnswer seq []
  { s with chain := { s.chain with bypassed := enter } }

/-- BYPASS (R67, R74): byte 0 set enters, clear leaves. -/
def execBypass (dest seq : Nat) (enter : Bool) (s : State) : Host.Outcome State Fault Refusal :=
  let frame := chainFrame dest 0 0x04 seq [BitVec.ofNat 8 (b2n enter)]
  .next (if s.chainAlive && s.chainDest dest then s.bypassFrame seq enter frame else s.emit (.chain frame))

/-- The answer to STATUS (R57, Table 02.6): BOOT_STATUS, PKG_ROLES and CHAIN_STATUS. It clears no FCS_ERRORS, a point the spec leaves
open (log 107). In DECOMMISSIONED only BOOT_STATUS answers (R59). -/
def State.statusReply (s : State) (seq : Nat) : State :=
  if s.boot.fuses.lifecycle = .decommissioned then s.chainReply seq (toLe 4 s.bootStatus)
  else s.chainReply seq (toLe 4 s.bootStatus ++ toLe 4 s.pkgRoles ++ toLe 4 s.chainStatus)

/-- STATUS (R57, R65). -/
def execStatus (dest seq : Nat) (s : State) : Host.Outcome State Fault Refusal :=
  .next (if s.chainNames dest then s.statusReply seq else s.emit (.chain (chainFrame dest 0 0x05 seq [])))

/-- WAKE_N of the named links in D3cold (R76, R116). -/
def State.wakeLinks (s : State) (mask : Nat) : State :=
  (maskBits mask s.dieCount).foldl
    (fun s d => s.modLink d (fun l => { l with wakeFrame := true })) s

/-- A WAKE that names the package (R76, R116): honoured while WAKE_CFG.CHAIN_WAKE_EN is set. -/
def State.wakeFrame (s : State) (seq mask : Nat) : State :=
  let s := s.chainAnswer seq []
  if s.synce.chainWakeEn then s.wakeLinks mask else s

/-- WAKE (R76, R116). -/
def execWake (dest seq mask : Nat) (s : State) : Host.Outcome State Fault Refusal :=
  .next (if s.chainNames dest then s.wakeFrame seq mask else s.emit (.chain (chainFrame dest 0 0x06 seq [BitVec.ofNat 8 mask])))

/-- CHAIN_PARTIAL_COMMAND_TIMEOUT (R69). -/
def execChainPartialCommandTimeout (s : State) : Host.Outcome State Fault Refusal :=
  .next { s with chain := { s.chain with partialCmd := none } }

/-- CHAIN_REPLY_HOLD_TIMEOUT (R69). -/
def execChainReplyHoldTimeout (s : State) : Host.Outcome State Fault Refusal :=
  .next { s with chain := { s.chain with held := none } }

/-- CHAIN_CLOCK_LOSS (R71, R325). -/
def execChainClockLoss (s : State) : Host.Outcome State Fault Refusal :=
  let s := { s with chain := { s.chain with rate := 0, clockSeen := false } }
  .next (s.abortTxnsOf (masterId 4 0 0))

/-! ## SPDM (R62–R64, R117) -/

/-- The SPDM 1.2 requests the device supports and the code of each response (R62). -/
def spdmResponse (code : Nat) : Option Nat :=
  if code = 0x84 then some 0x04 else if code = 0xE1 then some 0x61 else if code = 0xE3 then some 0x63
  else if code = 0x81 then some 0x01 else if code = 0x82 then some 0x02 else if code = 0x83 then some 0x03
  else if code = 0xE0 then some 0x60 else if code = 0xE4 then some 0x64 else if code = 0xE5 then some 0x65
  else if code = 0xEC then some 0x6C else if code = 0xFE then some 0x7E else none

/-- The 20 bytes of a microword. -/
def microBytes (w : BitVec 160) : List Byte := toLe 20 w.toNat

/-- Bytes the measurement of the program banks covers (R63): for each bank whether it holds the standard program, its PROGRAM_ID and
the sections it was loaded from. -/
def Bank.bytes (b : Bank) : List Byte := toLe 1 (b2n b.standard) ++ toLe 2 b.programId ++ b.image
def State.bankBytes (s : State) : List Byte := (s.bankOf 0).bytes ++ (s.bankOf 1).bytes

/-- SPDM measurement block contents (Table 02.4). The 8 bytes of block 5 hold its four values one byte each and four zeros, a layout
the spec leaves open (log 107). -/
def State.measurement (s : State) (index : Nat) : Option (List Byte) :=
  if index = 1 then some (toBe 48 Config.bootRomDigest.toNat)
  else if index = 2 then some (toBe 48 s.boot.imageMeasure)
  else if index = 3 then
    let ws := if s.patch.activeHalf = 0 then s.patch.words0 else s.patch.words1
    some (toBe 48 (Config.sha384 (ws.flatMap microBytes)).toNat)
  else if index = 4 then some (toBe 48 (Config.sha384 s.bankBytes).toNat)
  else if index = 5 then
    let f := s.boot.fuses
    some (toLe 8 (f.lifecycle.code + 2 ^ 8 * b2n f.requirePq + 2 ^ 16 * f.minSvn + 2 ^ 24 * s.boot.numberMask))
  else none

/-- The certificate chain of slot 0 (R62): Volbor root, identity certificate, alias certificate. -/
def State.certChain (s : State) : List Byte := s.boot.fuses.rootCert ++ s.boot.fuses.identityCert ++ s.boot.aliasCert

/-- A signature by the alias key, which the boot image presents (R61, R62). -/
def State.aliasSign (s : State) (bs : List Byte) : List Byte :=
  match s.boot.aliasKey with
  | some k => Config.p384Sign (BitVec.ofNat 384 k) bs
  | none => []

/-- How far an SPDM connection has come: version, algorithms, key exchange, session. -/
def State.spdmPhase (s : State) : Option Nat → Bool × Bool × Bool × Bool
  | none => (s.chain.spdmVersion, s.chain.spdmAlgorithms, s.chain.spdmExchange, s.chain.spdmSession)
  | some l => ((s.link l).spdmVersion, (s.link l).spdmAlgorithms, (s.link l).spdmExchange, (s.link l).spdmSession)

/-- The SPDM connection of a link or of the chain set. -/
def State.setSpdm (s : State) (where_ : Option Nat) (v a e k : Bool) : State :=
  match where_ with
  | none => { s with chain := { s.chain with spdmVersion := v, spdmAlgorithms := a, spdmExchange := e, spdmSession := k } }
  | some l => s.modLink l (fun x => { x with spdmVersion := v, spdmAlgorithms := a, spdmExchange := e, spdmSession := k })

/-- IDE key management inside a secured session (R117): byte 0 names the stream, 0 the link stream; byte 1 holds the number of
address association blocks, up to four of a base and a limit of 8 bytes each; then come the 32 bytes of its key and its requester
identities, 3 bytes each. The stream becomes Secure. The message's layout is the model's (log 108). -/
def State.ideSetup (s : State) (l : Nat) (body : List Byte) : State :=
  let n := leAt body 0 1
  let k := leAt body 1 1
  if n ≤ 8 ∧ k ≤ 4 then
    let ranges := (List.range k).map (fun i => (leAt body (2 + 16 * i) 8, leAt body (10 + 16 * i) 8))
    let rest := body.drop (2 + 16 * k)
    let reqs := (List.range ((rest.length - 32) / 3)).map (fun i => leAt rest (32 + 3 * i) 3)
    let s := s.modLink l (fun x =>
      { x with ide := Tbl.set x.ide n { secure := true, requesters := reqs, ranges := ranges, key := leAt rest 0 32 } })
    (s.functionsOf l).foldl State.releaseHeld s
  else s

/-- A response sent where its request came from. -/
def State.spdmSend (s : State) (where_ : Option Nat) (seq code : Nat) (body : List Byte) : State :=
  match where_ with
  | none => s.chainReply seq (BitVec.ofNat 8 0x12 :: BitVec.ofNat 8 code :: body)
  | some l => s.emit (.spdm (some l) code body)

/-- The selections of ALGORITHMS (R62): measurements by SHA-384, base asymmetric ECDSA P-384, base hash SHA-384, by the codes of the
SPDM standard (log 108). -/
def spdmAlgorithmsBody : List Byte := [0, 0] ++ toLe 2 36 ++ [1, 0] ++ toLe 4 0x04 ++ toLe 4 0x80 ++ toLe 4 0x02 ++ List.replicate 16 0

/-- The DOE mailbox of PF0 is reached by configuration requests (R62, R105): after READY with the link up, FROZEN or not. A stream that
is Insecure does not bar it, since a session over it sets the stream up again (R118). -/
def State.doeReach (s : State) (l : Nat) : Bool := s.decides && s.linkUp l

/-- SPDM (R62–R64): requests before version and algorithms are agreed, FINISH before KEY_EXCHANGE, and unsupported ones, are answered
with ERROR. A chain frame that comes before READY is answered with ERROR Busy (R67, R77). What certificates and signatures hold is
the standard's (log 6, 108). -/
def execSpdm (link : Option Nat) (seq code : Nat) (body : List Byte) (s : State) :
    Host.Outcome State Fault Refusal :=
  let open_ := match link with
    | none => s.chainTakes && s.decides
    | some l => s.doeReach l
  let fails := fun (n : Nat) => Host.Outcome.next (s.spdmSend link seq 0x7F [BitVec.ofNat 8 n, 0])
  if open_ = false then
    if link.isNone ∧ s.chainTakes = true ∧ s.boot.fuses.lifecycle ≠ .decommissioned then fails 0x03 else .next s
  else
    let (v, a, e, k) := s.spdmPhase link
    match spdmResponse code with
    | none => fails 0x07
    | some r =>
      if code = 0x84 then .next ((s.setSpdm link true false false false).spdmSend link seq r [0, 1, 0x00, 0x12])
      else if v = false then fails 0x04
      else if code = 0xE1 then .next (s.spdmSend link seq r [])
      else if code = 0xE3 then .next ((s.setSpdm link true true false k).spdmSend link seq r spdmAlgorithmsBody)
      else if a = false then fails 0x04
      else if code = 0x81 then
        .next (s.spdmSend link seq r ([0, 1] ++ toBe 48 (Config.sha384 s.certChain).toNat))
      else if code = 0x82 then
        let part := (s.certChain.drop (leAt body 1 2)).take (leAt body 3 2)
        .next (s.spdmSend link seq r ([0, 0] ++ toLe 2 part.length ++ toLe 2 (s.certChain.length - leAt body 1 2 - part.length) ++ part))
      else if code = 0xE0 then
        match s.measurement (leAt body 0 1) with
        | some m => .next (s.spdmSend link seq r (m ++ s.aliasSign m))
        | none => fails 0x01
      else if code = 0xE4 then .next ((s.setSpdm link v a true k).spdmSend link seq r (s.aliasSign body))
      else if code = 0xE5 then
        if e then .next ((s.setSpdm link v a false true).spdmSend link seq r []) else fails 0x04
      else if code = 0xEC then .next ((s.setSpdm link v a false false).spdmSend link seq r [])
      else if code = 0xFE then
        match k, link with
        | true, some l => .next ((s.ideSetup l body).spdmSend link seq r [])
        | _, _ => fails 0x04
      else .next (s.spdmSend link seq r (s.aliasSign (BitVec.ofNat 8 code :: body)))

end Sys2Proof.Machine
end

