-- ==== Sys2Proof/Machine/TxnPart.lean ====
section
/-! DEFINITION. What a transactional command gives to a transaction: its check with its effect, and the objects it changes
(spec/09 R321, R322). -/

namespace Sys2Proof.Machine

/-- A change carried out in full as it stands from its commit tempo on: the failing status, or the state and the result
data. -/
abbrev PartResult := Except Nat (State × List Byte)

/-- Kinds of object (R322). -/
def objEntry : Nat := 1
def objSet : Nat := 2
def objTemplate : Nat := 3
def objPolicer : Nat := 4
def objNode : Nat := 5
def objLeaf : Nat := 6
def objClass : Nat := 7
def objShaper : Nat := 8
def objProfile : Nat := 9
def objMapping : Nat := 10
def objKeySlot : Nat := 11
def objBank : Nat := 12

/-- The key of an object on a die: its kind and its name. -/
def objKey (kind die : Nat) (name : List Byte) : Nat := le (name ++ [1]) * 2 ^ 16 + die * 2 ^ 8 + kind

/-- The die of an object key. -/
def objDie (k : Nat) : Nat := k / 2 ^ 8 % 2 ^ 8

/-- A numbered object. -/
def objNum (kind die n : Nat) : Nat := objKey kind die (toLe 4 n)

/-- The objects a transaction has staged changes of. -/
def Txn.objects (t : Txn) : List Nat := (t.staged.flatMap (fun c => c.objects.map (fun e => e.1))).eraseDups

/-- An object is locked by a SCHEDULED or PREPARED transaction other than `me` (R329). -/
def State.lockedBut (s : State) (me obj : Nat) : Bool :=
  s.tempo.txns.any (fun (k, t) => decide (k ≠ me) && (decide (t.state = .scheduled) || decide (t.state = .prepared))
    && t.objects.contains obj)

/-- The commit in progress changes an object. -/
def State.committing (s : State) (obj : Nat) : Bool :=
  s.tempo.inProgress.any (fun c =>
    let cs := match c.single with
      | some x => [x]
      | none => match Tbl.find s.tempo.txns c.txn with
        | some t => t.staged
        | none => []
    cs.any (fun x => x.objects.any (fun e => e.1 == obj)))

/-- A commit has taken effect on objects (R328). -/
def State.stampObjects (s : State) (objs : List Nat) : State :=
  let n := s.tempo.nextStamp
  { s with tempo := { s.tempo with lastCommit := objs.foldl (fun t o => Tbl.put 0 t o n) s.tempo.lastCommit, nextStamp := n + 1 } }

end Sys2Proof.Machine
end

