-- ==== Sys2Proof/Machine/CipherOps.lean ====
section
/-! DEFINITION. Key slots and their versions, the key page's writes, and the key commands (spec/12 R398–R406): table rows
117–119 and 122, parts of rows 120 and 121. -/

namespace Sys2Proof.Machine

/-! ## Slots and versions -/

def Cipher.slot (c : Cipher) (n : Nat) : KeySlot := Tbl.look KeySlot.reset c.slots n
def State.keySlot (s : State) (die n : Nat) : KeySlot := (s.cipherOf die).slot n
def State.setKeySlot (s : State) (die n : Nat) (k : KeySlot) : State :=
  s.modCipherOf die (fun c => { c with slots := Tbl.put KeySlot.reset c.slots n k })

/-- A counter of the engine raised (Table 12.8). -/
def State.cipherCount (s : State) (die off : Nat) : State :=
  s.modCipherOf die (fun c => { c with counters := Tbl.put 0 c.counters off ((Tbl.look 0 c.counters off + 1) % 2 ^ 64) })

/-- Fields of SLOT_CFG. -/
def KeyVersion.proto (v : KeyVersion) : Nat := bits v.cfg 3 0
def KeyVersion.algo (v : KeyVersion) : Nat := bits v.cfg 5 4
def KeyVersion.encrypts (v : KeyVersion) : Bool := bit v.cfg 6
def KeyVersion.extended (v : KeyVersion) : Bool := bit v.cfg 7
def KeyVersion.replayWindow (v : KeyVersion) : Nat := bits v.cfg 42 32

def KeyVersion.valid (v : KeyVersion) (tempo : Nat) : Bool := decide (v.state ≠ .empty) && validAt v.born v.retired tempo

/-- The version valid at a tempo (R402). -/
def KeySlot.at (k : KeySlot) (tempo : Nat) : Option KeyVersion :=
  if k.newer.valid tempo then some k.newer else if k.older.valid tempo then some k.older else none

/-- A version rewritten in place, found by its BORN. -/
def KeySlot.modVersion (k : KeySlot) (born : Nat) (f : KeyVersion → KeyVersion) : KeySlot :=
  if k.newer.state ≠ .empty ∧ k.newer.born = born then { k with newer := f k.newer }
  else if k.older.state ≠ .empty ∧ k.older.born = born then { k with older := f k.older }
  else k

/-- Tempos of everything in flight on a die (R315): packets, and units of other sources in the engine. -/
def State.flightTempos (s : State) (die : Nat) : List Nat :=
  (s.flight.filter (fun (_, k) => k.die == die)).map (fun e => e.2.tempo)
    ++ ((s.cipherOf die).units.filter (fun (_, u) => decide (u.phase ≠ .waiting))).map (fun e => e.2.tempo)

/-- The version an install must overwrite is still visible to a unit in flight (R403). -/
def State.slotWaits (s : State) (die n : Nat) : Bool :=
  let k := s.keySlot die n
  decide (k.older.state ≠ .empty) && (s.flightTempos die).any (fun t => validAt k.older.born k.older.retired t)

/-- SLOT_CFG holds a combination of Table 12.1 (R398). A REPLAY_WINDOW above its range is refused with it (log 36). -/
def cfgGood (cfg : Nat) : Bool :=
  let p := bits cfg 3 0
  let a := bits cfg 5 4
  let ext := bit cfg 7
  decide (bits cfg 42 32 ≤ 1024)
    && ((p == 1 && decide (a ≤ 1)) || (p == 2 && decide (a ≤ 2)) || (p == 3 && decide (a ≤ 2) && !ext) || (p == 4 && a == 1 && !ext))

/-- Bits of SLOT_CFG that a register write keeps. -/
def cfgMask (cfg : Nat) : Nat := bits cfg 12 0 + bits cfg 26 16 * 2 ^ 16 + bits cfg 42 32 * 2 ^ 32

/-- A new version (R404, R405, R409): a SEQ_START of 0 counts as 1 on an encrypting slot, but for TLS. -/
def newVersion (key salt ssci cfg id seq limit born : Nat) : KeyVersion :=
  { state := .active, key := key, salt := salt, ssci := ssci, cfg := cfg, slotId := id,
    seq := if seq = 0 ∧ bit cfg 6 = true ∧ bits cfg 3 0 ≠ 3 then 1 else seq, softLimit := limit, born := born, retired := none,
    window := [], authFails := 0, replayFails := 0 }

/-- A version retired at a tempo, if it was not retired before. -/
def KeyVersion.retireAt (v : KeyVersion) (tempo : Nat) : KeyVersion :=
  if v.state = .empty ∨ v.retired.isSome then v else { v with retired := some tempo }

/-- The new version takes the slot's other place (R403). -/
def KeySlot.put (k : KeySlot) (v : KeyVersion) : KeySlot := { k with older := k.newer.retireAt v.born, newer := v }

/-- The visible version retired at a tempo. -/
def KeySlot.retire (k : KeySlot) (tempo : Nat) : KeySlot :=
  if k.newer.valid tempo then { k with newer := k.newer.retireAt tempo }
  else { k with older := k.older.retireAt tempo }

/-! ## The key page (R404, R405) -/

/-- The function to which a page is bound (R176), and its BAR slot. -/
def State.pageBinding (s : State) (die page : Nat) : Option Nat := (Tbl.find s.protect.keyPages (die * 4096 + page)).map (fun b => b / 64)

/-- PROTOCOL 3 or 4 on a page bound to a function other than PF0. -/
def State.pageForbids (s : State) (die slot cfg : Nat) : Bool :=
  (bits cfg 3 0 == 3 || bits cfg 3 0 == 4) && (match s.pageBinding die (slot / 32) with
    | some f => decide (f ≠ pf0 die)
    | none => false)

/-- An INSTALL or RETIRE is ignored for a cause. -/
def KeySlot.refuse (k : KeySlot) (cause : Nat) : KeySlot := { k with installErr := true, errCause := cause }

/-- A staged version takes effect at the die's current tempo; KEY_MATERIAL is zeroed. It counts as a commit (R404). -/
def State.installNow (s : State) (die slot : Nat) : State :=
  let k := s.keySlot die slot
  let v := newVersion k.stKey k.stSalt k.stSsci k.stCfg k.stId k.stSeq k.stLimit s.tempo.current
  (s.setKeySlot die slot { k.put v with stKey := 0, stSalt := 0, stSsci := 0, installBusy := false }).stampObjects
    [objNum objKeySlot die slot]

/-- The function reaches a slot through its page. -/
def State.pageReach (s : State) (die slot fn : Nat) : Bool :=
  s.boot.cipher && s.live die && s.hostReach (mDie fn) && decide (mDie fn = die) && decide (slot < 131072)
    && s.pageBinding die (slot / 32) == some fn

/-- INSTALL (R405). A commit in progress on the slot has the slot's other version, as in Table 12.7 (log 122). -/
def execInstall (die slot fn : Nat) (s : State) : Host.Outcome State Fault Refusal :=
  if s.pageReach die slot fn then
    let k := s.keySlot die slot
    let refuse := fun (c : Nat) => s.setKeySlot die slot (k.refuse c)
    .next (
      if k.installBusy || s.committing (objNum objKeySlot die slot) then refuse 2
      else if !cfgGood k.stCfg then refuse 1
      else if s.lockedBut 0 (objNum objKeySlot die slot) then refuse 3
      else if s.pageForbids die slot k.stCfg then refuse 4
      else if s.slotWaits die slot then s.setKeySlot die slot { k with installBusy := true }
      else s.installNow die slot)
  else .next s

/-- RETIRE (R404). With no version visible it retires nothing. -/
def execRetire (die slot fn : Nat) (s : State) : Host.Outcome State Fault Refusal :=
  if s.pageReach die slot fn then
    let k := s.keySlot die slot
    let obj := objNum objKeySlot die slot
    .next (
      if k.installBusy || s.committing obj then s.setKeySlot die slot (k.refuse 2)
      else if s.lockedBut 0 obj then s.setKeySlot die slot (k.refuse 3)
      else if (k.at s.tempo.current).isNone then s
      else (s.setKeySlot die slot (k.retire s.tempo.current)).stampObjects [obj])
  else .next s

/-- INSTALL_WAIT_END (R403). -/
def execInstallWaitEnd (die slot : Nat) (s : State) : Host.Outcome State Fault Refusal :=
  .next (if s.live die && (s.keySlot die slot).installBusy && !s.slotWaits die slot then s.installNow die slot else s)

/-! ## Key commands (R404, Table 12.4) -/

/-- KEY_INSTALL as of a tempo. -/
def partKeyInstall (p : Packet) (tempo : Nat) (s : State) : PartResult :=
  let b := p.params
  let die := leAt b 0 1
  let slot := leAt b 4 4
  let cfg := leAt b 0x38 8
  if p.paramLen ≠ 88 ∨ leAt b 1 3 ≠ 0 ∨ 2 ^ 17 ≤ slot ∨ cfgGood cfg = false ∨ s.pageForbids die slot cfg = true then .error stBadParam
  else match s.dieStatus die with
    | some st => .error st
    | none =>
      let v := newVersion (leAt b 8 32) (leAt b 0x28 12) (leAt b 0x34 4) (cfgMask cfg) (leAt b 0x40 8) (leAt b 0x48 8)
        (leAt b 0x50 8) tempo
      .ok (s.setKeySlot die slot ((s.keySlot die slot).put v), [])

/-- KEY_RETIRE as of a tempo. -/
def partKeyRetire (p : Packet) (tempo : Nat) (s : State) : PartResult :=
  let b := p.params
  let die := leAt b 0 1
  let slot := leAt b 4 4
  if p.paramLen ≠ 8 ∨ leAt b 1 3 ≠ 0 ∨ 2 ^ 17 ≤ slot then .error stBadParam
  else match s.dieStatus die with
    | some st => .error st
    | none =>
      let k := s.keySlot die slot
      if (k.at tempo).isNone then .error stNotFound else .ok (s.setKeySlot die slot (k.retire tempo), [])

def objsKey (p : Packet) (_ : State) : List Nat := [objNum objKeySlot (leAt p.params 0 1) (leAt p.params 4 4)]

/-- KEYPAGE_MODE's answer (R401). -/
def runKeypageMode (p : Packet) (s : State) : Answer :=
  let b := p.params
  let die := leAt b 0 1
  let mode := leAt b 1 1
  let first := leAt b 4 2
  let n := leAt b 6 2
  if p.paramLen ≠ 8 ∨ 1 < mode ∨ leAt b 2 2 ≠ 0 ∨ n = 0 ∨ 4096 < n ∨ 4096 < first + n then s.fails stBadParam
  else match s.dieStatus die with
    | some st => s.fails st
    | none =>
      let out := fun (m : Nat) => decide (m < first) || decide (first + n ≤ m)
      (s.modCipherOf die (fun c =>
        let low := c.masked.filter (fun m => decide (m < first))
        let high := c.masked.filter (fun m => decide (first + n ≤ m))
        { c with masked := if mode = 1 then low ++ (List.range n).map (fun i => first + i) ++ high else c.masked.filter out })).answers []

/-- KEYPAGE_MODE (R401). -/
def execKeypageMode (p : Packet) (s : State) : Host.Outcome State Fault Refusal := runPlain 0x8701 p runKeypageMode s

/-! ## Forms on the wire (R407, R408) -/

/-- Where a header follows layer 0's L3 header and its IPv6 extension headers, and the place of the byte that names it. -/
def afterL3 (f : List Byte) (l3 : Nat) : Nat × Nat :=
  if isIp4 f l3 then (l3 + beAt f l3 1 % 16 * 4, l3 + 9) else go 8 (l3 + 40) (l3 + 6)
where
  go : Nat → Nat → Nat → Nat × Nat
    | 0, o, name => (o, name)
    | fuel + 1, o, name =>
      let nh := beAt f name 1
      if [0, 43, 44, 60, 135, 139, 140].contains nh = true ∧ o < f.length then
        go fuel (o + (if nh = 44 then 8 else 8 + 8 * beAt f (o + 1) 1)) o
      else (o, name)

/-- The payload-naming byte and the lengths of an IP header set for a frame, and its checksum (R407, R300). -/
def refit (f : List Byte) (l3 name proto : Nat) : List Byte :=
  let f := overlay f name (toBe 1 proto)
  if isIp4 f l3 then putIp4Csum (overlay f (l3 + 2) (toBe 2 (f.length - l3))) l3
  else overlay f (l3 + 4) (toBe 2 (f.length - l3 - 40))

/-- Bytes the engine adds to a frame of an encrypting slot. -/
def macsecGrowth (cfg : Nat) : Nat := if bit cfg 9 then 32 else 24

/-- The plaintext an ESP slot protects: payload, padding, Pad Length and Next Header. -/
def espPlain (f : List Byte) (l3 : Nat) : List Byte :=
  let (o, name) := afterL3 f l3
  let pay := f.drop o
  let pad := (4 - (pay.length + 2) % 4) % 4
  pay ++ (List.range pad).map (fun i => BitVec.ofNat 8 (i + 1)) ++ [BitVec.ofNat 8 pad, BitVec.ofNat 8 (beAt f name 1)]

/-- What an encrypting slot puts before a frame's protected region: the addresses and the SecTAG, or the frame up to the ESP header,
that header and the IV (R407). -/
def sealHead (v : KeyVersion) (f : List Byte) (l3 seq : Nat) : List Byte :=
  if v.proto = 1 then
    let n := f.length - 12
    let tci := b2n (bit v.cfg 9) * 32 + (if bit v.cfg 10 then 0 else 12) + bits v.cfg 12 11
    f.take 12 ++ toBe 2 0x88E5 ++ toBe 1 tci ++ toBe 1 (if n < 48 then n else 0) ++ toBe 4 seq
      ++ (if bit v.cfg 9 then toBe 8 v.slotId else [])
  else f.take (afterL3 f l3).1 ++ toBe 4 v.slotId ++ toBe 4 seq ++ toBe 8 seq

/-- The protected frame: `out` is the ciphertext and the tag, or with INTEGRITY_ONLY the tag alone. -/
def sealFrame (v : KeyVersion) (f : List Byte) (l3 seq : Nat) (out : List Byte) : List Byte :=
  if v.proto = 1 then
    let body := f.drop 12
    sealHead v f l3 seq ++ (if bit v.cfg 10 then body ++ sub out 0 16 else sub out 0 (body.length + 16))
  else refit (sealHead v f l3 seq ++ sub out 0 ((espPlain f l3).length + 16)) l3 (afterL3 f l3).2 50

/-- A received unit that fits its slot's protocol: identifier carried (none if it carries none), low sequence bits, where
the protected bytes begin and how many they are. -/
structure Opened where
  id : Option Nat
  low : Nat
  start : Nat
  len : Nat
  deriving DecidableEq, Repr

/-- Check 1 of R408. A SecTAG follows the source address (Table 12.2). -/
def openFrame (v : KeyVersion) (f : List Byte) (l3 : Nat) : Option Opened :=
  if v.proto = 1 then
    let sc := bit (beAt f 14 1) 5
    let start := if sc then 28 else 20
    let sl := beAt f 15 1 % 64
    let rest := f.length - start - 16
    if beAt f 12 2 ≠ 0x88E5 ∨ f.length < start + 16 ∨ rest < sl then none
    else
      some { id := if sc then some (beAt f 20 8) else if bit (beAt f 14 1) 6 then some (beAt f 6 6 * 65536 + 1) else none,
             low := beAt f 16 4, start := start, len := if sl = 0 then rest else sl }
  else if l3 = 0xFFFF then none
  else
    let (o, name) := afterL3 f l3
    let stop := if isIp4 f l3 then l3 + beAt f (l3 + 2) 2 else l3 + 40 + beAt f (l3 + 4) 2
    if beAt f name 1 ≠ 50 ∨ f.length < stop ∨ stop < o + 34 then none
    else some { id := some (beAt f o 4), low := beAt f (o + 4) 4, start := o + 16, len := stop - o - 32 }

/-- The whole sequence of a received unit (R408): the upper bits as IEEE 802.1AE-2018 and RFC 4303 Appendix A recover them. -/
def KeyVersion.wholeSeq (v : KeyVersion) (low : Nat) : Nat :=
  let t := v.seq
  let w := v.replayWindow
  let hi := t / 2 ^ 32
  let lo := t % 2 ^ 32
  if !v.extended then low
  else if v.proto = 1 then
    let next := t + 1
    (if next % 2 ^ 32 ≥ 2 ^ 31 ∧ low < 2 ^ 31 then next / 2 ^ 32 + 1 else next / 2 ^ 32) * 2 ^ 32 + low
  else if w ≤ lo + 1 then (if lo + 1 - w ≤ low then hi else hi + 1) * 2 ^ 32 + low
  else (if 2 ^ 32 + lo + 1 - w ≤ low then hi - 1 else hi) * 2 ^ 32 + low

/-- The replay test (R408). -/
def KeyVersion.fresh (v : KeyVersion) (seq : Nat) : Bool :=
  decide (seq ≠ 0) && decide (v.seq < seq + v.replayWindow) && !v.window.contains seq

/-! ## Nonce and associated data (R399, Table 12.2) -/

/-- What the cipher works on. -/
structure Sealing where
  nonce : List Byte
  aad : List Byte
  text : List Byte
  deriving DecidableEq, Repr

/-- Key and SALT as bytes, the lowest register byte first (log 122). -/
def KeyVersion.keyBytes (v : KeyVersion) : List Byte := toLe (if v.algo = 0 then 16 else 32) v.key
def KeyVersion.saltBytes (v : KeyVersion) (n : Nat) : List Byte := toLe n v.salt

/-- The nonce of a unit: `sci` of MACsec, `iv` of ESP. -/
def KeyVersion.nonce (v : KeyVersion) (die seq : Nat) (sci iv : List Byte) : List Byte :=
  let mix := fun (x : List Byte) => List.zipWith (fun a b => a ^^^ b) (v.saltBytes 12) x
  if v.proto = 1 then if v.extended then mix (toBe 4 v.ssci ++ toBe 8 seq) else sci ++ toBe 4 seq
  else if v.proto = 2 then v.saltBytes 4 ++ iv
  else if v.proto = 3 then mix (toBe 12 seq)
  else toLe 1 die ++ [0, 0, 0] ++ toBe 8 seq

/-- SPI and sequence of an ESP unit. -/
def espAad (v : KeyVersion) (spi seq : Nat) : List Byte :=
  toBe 4 spi ++ (if v.extended then toBe 4 (seq / 2 ^ 32) else []) ++ toBe 4 seq

/-- A frame to be encrypted. -/
def sealing (v : KeyVersion) (die : Nat) (f : List Byte) (l3 seq : Nat) : Sealing :=
  let nonce := v.nonce die seq (toBe 8 v.slotId) (toBe 8 seq)
  if v.proto = 1 then
    let head := sealHead v f l3 seq
    if bit v.cfg 10 then { nonce := nonce, aad := head ++ f.drop 12, text := [] }
    else { nonce := nonce, aad := head, text := f.drop 12 }
  else { nonce := nonce, aad := espAad v v.slotId seq, text := espPlain f l3 }

/-- A received frame: its text ends with its tag. MACsec without encryption authenticates its bytes in clear. -/
def opening (v : KeyVersion) (die : Nat) (f : List Byte) (x : Opened) (seq : Nat) : Sealing :=
  let nonce := v.nonce die seq (toBe 8 (x.id.getD v.slotId)) (sub f (x.start - 8) 8)
  if v.proto = 1 then
    if bit (beAt f 14 1) 3 then { nonce := nonce, aad := f.take x.start, text := sub f x.start (x.len + 16) }
    else { nonce := nonce, aad := f.take (x.start + x.len), text := sub f (x.start + x.len) 16 }
  else { nonce := nonce, aad := espAad v (x.id.getD 0) seq, text := sub f x.start (x.len + 16) }

/-- A sequence whose tag verified: the window and SLOT_SEQ advance. -/
def KeyVersion.accept (v : KeyVersion) (seq : Nat) : KeyVersion :=
  let t := max v.seq seq
  { v with seq := t, window := (seq :: v.window).filter (fun n => decide (t < n + v.replayWindow) || n == t) }

/-- The decrypted frame (R300): `out` is the plaintext of the protected region. -/
def unsealFrame (v : KeyVersion) (f : List Byte) (l3 : Nat) (x : Opened) (out : List Byte) : List Byte :=
  if v.proto = 1 then
    f.take 12 ++ (if bit (beAt f 14 1) 3 then sub out 0 x.len else sub f x.start x.len)
  else
    let plain := sub out 0 x.len
    let pad := beAt plain (x.len - 2) 1
    let nh := beAt plain (x.len - 1) 1
    let pay := plain.take (x.len - 2 - pad)
    let (o, name) := afterL3 f l3
    if bit v.cfg 8 then
      let eth := f.take l3
      let et := if beAt pay 0 1 / 16 = 6 then 0x86DD else 0x0800
      (if eth.isEmpty then [] else overlay eth (l3 - 2) (toBe 2 et)) ++ pay
    else refit (f.take o ++ pay) l3 name nh

/-- The last sequence of an encrypting version (Table 12.5). -/
def KeyVersion.lastSeq (v : KeyVersion) : Nat :=
  if v.proto = 3 ∧ v.algo ≠ 2 then 23726566
  else if v.proto = 3 ∨ v.proto = 4 ∨ v.extended = true then 2 ^ 64 - 1
  else 2 ^ 32 - 1

/-- An encrypting version assigns its next sequence (R409, R415). -/
def KeyVersion.assign (v : KeyVersion) : KeyVersion :=
  { v with seq := (v.seq + 1) % 2 ^ 64, state := if v.seq = v.lastSeq then .exhausted else v.state }

/-- No unit of the same slot entered the engine before it and has still to leave (R400). -/
def Cipher.leads (c : Cipher) (u : CipherUnit) : Bool :=
  !(c.units.any (fun (_, w) => w.slot == u.slot && decide (w.phase ≠ .waiting) && decide (w.order < u.order)))

/-- A unit joins the engine's queue, from a sequencer or a storage function. -/
def State.addUnit (s : State) (die : Nat) (u : CipherUnit) : State :=
  s.modCipherOf die (fun c =>
    { c with units := Tbl.set c.units (2 * c.nextUnit + 1) { u with order := c.nextUnit }, nextUnit := c.nextUnit + 1 })

end Sys2Proof.Machine
end

