-- ==== Sys2Proof/Machine/Host.lean ====
section
/-! DEFINITION. Events of a host link: training, loss and resets of the link, bus mastering, power states,
configuration requests, IDE and containment (spec/03). -/

namespace Sys2Proof.Machine

/-- LINK_STATUS.CUR_WIDTH takes a standard width (R79). -/
def standardWidth (w : Nat) : Bool := w == 1 || w == 2 || w == 4 || w == 8 || w == 16

/-- The longest run of consecutive lanes of sixteen that passed, `run` of them just before lane `n` of those still to look at. -/
def longestRun (failed : Nat) : Nat → Nat → Nat → Nat
  | 0, run, best => max run best
  | n + 1, run, best =>
    if bit failed (15 - n) then longestRun failed n 0 (max run best) else longestRun failed n (run + 1) best

/-- The widest standard width of at most `n` lanes (R79, R80). -/
def widestOf (n : Nat) : Nat :=
  if 16 ≤ n then 16 else if 8 ≤ n then 8 else if 4 ≤ n then 4 else if 2 ≤ n then 2 else n

/-- LINK_TRAINING (R41, R79, R80, R105, R112): the link comes up at the highest rate and the widest width that both ends support,
as far as the remaining consecutive lanes allow; at 64 GT/s it runs in FLIT mode. Links are held in reset until the PLLs lock. A
link that went down by surprise comes up still FROZEN. -/
def execLinkTraining (link speed width : Nat) (flit reversed : Bool) (failedLanes : Nat) (s : State) :
    Host.Outcome State Fault Refusal :=
  let l := s.link link
  let failed := failedLanes % 2 ^ 16
  let got := widestOf (min width (longestRun failed 16 0 0))
  if s.dieWorks link && !s.boot.pkgReset && s.boot.pllLocked && !l.perst && decide (1 ≤ speed) && decide (speed ≤ 6)
      && standardWidth width && decide (0 < got) then
    let s := s.setLink link { l with speed := speed, width := got, flit := flit || decide (speed = 6), reversed := reversed,
                                     failedLanes := failed, receiver := true, surpriseDown := false }
    .next (if failed = 0 then s else s.raise 0x0101 sevDegraded 0 link 0 failed 0)
  else .next s

/-- RECEIVER_DETECTION (R112): detection on a link that is down finds a root port, or none. -/
def execReceiverDetection (link : Nat) (present : Bool) (s : State) : Host.Outcome State Fault Refusal :=
  .next (if decide ((s.link link).speed = 0) && s.dieWorks link then
    s.modLink link (fun l => { l with receiver := present }) else s)

/-- The configuration of a function at its reset values, its device-side state kept (R112). -/
def Func.configLost (f : Func) : Func :=
  { f with busMaster := false, vfEnable := false, numVfs := 0, d3hot := false, pmeEnable := false, pmeStatus := false,
           bar0 := 0, bar2 := 0, vfBar0 := 0, vfBar2 := 0, relaxed := false, ido := false, ctoValue := 0, tag14 := false, tag10 := false, extTag := false, maxPayload := 128,
           maxRead := 512, msixEnable := false, funcMask := false }

/-- SURPRISE_LINK_DOWN (R104, R105, R112): the data link layer is lost; the link enters FROZEN with cause 1 and the
configuration of each of its functions is lost. -/
def execSurpriseLinkDown (link : Nat) (s : State) : Host.Outcome State Fault Refusal :=
  if s.linkUp link then
    let s := s.modLink link (fun l => { l with speed := 0, width := 0, flit := false, surpriseDown := true, receiver := false })
    let s := (s.functionsOf link).foldl (fun s f => (s.clearPme f).modFunc f Func.configLost) s
    .next (s.contain link 1 0 0 0)
  else .next s

/-- MALFORMED_TLP (R104). -/
def execMalformedTlp (link : Nat) (s : State) : Host.Outcome State Fault Refusal :=
  .next (if s.linkUp link then s.contain link 3 0 0 0 else s)

/-- HOST_PATH_INTERNAL_ERROR (R104). -/
def execHostPathInternalError (link : Nat) (s : State) : Host.Outcome State Fault Refusal :=
  .next (if s.dieWorks link && s.boot.pllLocked then s.contain link 4 0 0 0 else s)

/-- Containment ends: REPEAT and RELEASE_ARMED clear, CAUSE and CAUSE_FUNCTION are kept (R107). -/
def Link.thaw (l : Link) : Link := { l with frozen := false, armed := false, repeatCount := 0, surpriseDown := false }

/-- HOT_RESET (R107): every function of the link is reset and containment ends. -/
def execHotReset (link : Nat) (s : State) : Host.Outcome State Fault Refusal :=
  .next (if s.ready && s.linkUp link then ((s.resetLinkFunctions link).modLink link Link.thaw).mirrorCheck else s)

/-! ## Configuration of functions -/

/-- A function answers configuration requests: PF0 and PF1 always, a VF while it is enabled and its routing ID lies in
the buses the link was given (R83, R86, R87). One bus is captured by the first configuration request. -/
def State.configReach (s : State) (fn : Nat) : Bool :=
  let link := mDie fn
  let v := fnVf fn
  let pf := fnId link (fnPf fn) 0
  let total := (s.partition link 0).totalVfs
  let offset := if fnPf fn = 0 then 1 + v else 1 + total + v
  s.linkUp link && mClass fn == 0 && decide (fnPf fn < 2)
    && (v == 0 || ((s.func pf).vfEnable && decide (v ≤ (s.func pf).numVfs) && decide (offset < 256 * max 1 (s.link link).buses)))

/-- Outstanding reads of a function have their data discarded when they come (R98). -/
def State.discardReads (s : State) (fn : Nat) : State :=
  { s with tags := List.map (fun (e : Nat × HostTag) =>
      (e.1, if e.2.fn = fn then { e.2 with discard := true } else e.2)) s.tags }

/-- Bus Master Enable cleared (R98, R99). -/
def State.busMasterOff (s : State) (fn : Nat) : State :=
  let s := s.modFunc fn (fun f => { f with busMaster := false })
  ((s.discardReads fn).forcePause fn true).mirrorCheck

/-- Fetching of every queue pair of a function resumes where nothing stops it (R440). -/
def State.refetch (s : State) (fn : Nat) : State := (s.queuesOf fn).foldl (fun s q => s.fetchBurst fn q) s

/-- Reads whose data were discarded, or that waited, are issued again: the command queue's, those of the queue pairs, the payload of
their entries, and those of the DMA channels (R100, R440, R444). -/
def State.reread (s : State) (fn : Nat) : State :=
  let s := if fn = pf0 (mDie fn) then
      let q := s.cmdq (mDie fn)
      (if q.fetching && (s.readOf fn (.command q.reqHead)).isNone then s.setCmdq (mDie fn) { q with fetching := false } else s).cmdqPump
        (mDie fn)
    else s
  let s := s.refetch fn
  let payloads := (s.queuesOf fn).flatMap (fun q => (((s.queue? fn q).map (fun x => x.accepted)).getD []).filterMap (fun e =>
    if e.phase = .reading ∧ (e.opcode = 1 ∨ e.opcode = 2) then some (q, e) else none))
  let s := payloads.foldl (fun s (q, e) => (s.needRead fn (.payload q e.index) e.totalLen).getD s) s
  let s := (s.storage (mDie fn)).cmds.foldl (fun s (k, c) =>
    if c.fn = fn ∧ c.phase = .reading then (s.needRead fn (.storage c.sq k) (fragSum c.frags)).getD s else s) s
  ((s.channels.map (fun e => e.1)).filter (fun k => s.dmaOf k fn)).foldl (fun s k => (s.dmaIssue k).getD s) s

/-- A function that can issue requests again leaves forced pause: its discarded reads are issued again, then its held writes go
out (R100). -/
def State.resume (s : State) (fn : Nat) : State :=
  if s.canIssue fn then
    let s := if (s.func fn).mig ≠ .running then s else s.forcePause fn false
    (s.reread fn).releaseHeld fn
  else s

/-- Bus Master Enable set (R100). -/
def State.busMasterOn (s : State) (fn : Nat) : State := (s.modFunc fn (fun f => { f with busMaster := true })).resume fn

/-- BUS_MASTER_ENABLE_CLEAR (R98). -/
def execBusMasterEnableClear (fn : Nat) (s : State) : Host.Outcome State Fault Refusal :=
  .next (if s.ready && s.configReach fn then s.busMasterOff fn else s)

/-- BUS_MASTER_ENABLE_SET (R100). -/
def execBusMasterEnableSet (fn : Nat) (s : State) : Host.Outcome State Fault Refusal :=
  .next (if s.ready && s.configReach fn then s.busMasterOn fn else s)

/-- FUNCTION_LEVEL_RESET (R101–R103). -/
def execFunctionLevelReset (fn : Nat) (s : State) : Host.Outcome State Fault Refusal :=
  .next (if s.ready && s.configReach fn then s.resetFunction fn else s)

/-- VF Enable cleared: every VF of the PF is reset (R103, R481). -/
def State.vfEnableOff (s : State) (pf : Nat) : State :=
  let s := (s.vfsOf pf).foldl State.resetOne s
  s.modFunc pf (fun f => { f with vfEnable := false, numVfs := 0 })

/-- VF_ENABLE_CLEAR (R103). -/
def execVfEnableClear (pf : Nat) (s : State) : Host.Outcome State Fault Refusal :=
  .next (if s.ready && s.configReach pf && fnVf pf == 0 then s.vfEnableOff pf else s)

/-- D3hot entered: the function's channels and fetchers are held in forced pause (R114). -/
def State.enterD3hot (s : State) (fn : Nat) : State :=
  let s := s.modFunc fn (fun f => { f with d3hot := true })
  ((s.discardReads fn).forcePause fn true).mirrorCheck

/-- D0 from D3hot, without a reset (R114). -/
def State.leaveD3hot (s : State) (fn : Nat) : State := (s.modFunc fn (fun f => { f with d3hot := false })).resume fn

/-- D3HOT_ENTRY (R114). -/
def execD3hotEntry (fn : Nat) (s : State) : Host.Outcome State Fault Refusal :=
  .next (if s.ready && s.configReach fn then s.enterD3hot fn else s)

/-- D3HOT_EXIT (R114). -/
def execD3hotExit (fn : Nat) (s : State) : Host.Outcome State Fault Refusal :=
  .next (if s.ready && s.configReach fn then s.leaveD3hot fn else s)

/-- PME_EVENT (R105, R114, R116, R118): PME_Status is set and WAKE_N of the link asserted; a PME message is sent while the link is up,
not FROZEN and its link IDE stream Secure. -/
def execPmeEvent (fn : Nat) (s : State) : Host.Outcome State Fault Refusal :=
  let f := s.func fn
  if s.dieWorks (mDie fn) && f.d3hot && f.pmeEnable then
    let s := (s.setFunc fn { f with pmeStatus := true }).modLink (mDie fn) (fun l =>
      { l with wakeBy := if l.wakeBy.contains fn then l.wakeBy else l.wakeBy ++ [fn] })
    .next (if s.linkUp (mDie fn) && !(s.link (mDie fn)).frozen && !s.linkInsecure (mDie fn) then s.emit (.tlp (mDie fn) TlpKind.pmPme.code fn) else s)
  else .next s

/-- Fields of configuration space that a configuration request names in the model: identification (R84), the SR-IOV
capability (R85, R86), and the controls of the rules of this chapter. -/
def cfVendor : Nat := 0
def cfDevice : Nat := 1
def cfSubsystemVendor : Nat := 2
def cfSubsystem : Nat := 3
def cfRevision : Nat := 4
def cfClass : Nat := 5
def cfBusMaster : Nat := 6
def cfVfEnable : Nat := 7
def cfTotalVfs : Nat := 8
def cfFirstVfOffset : Nat := 9
def cfVfStride : Nat := 10
def cfPowerState : Nat := 11
def cfPmeEnable : Nat := 12
def cfPmeStatus : Nat := 13
def cfRelaxed : Nat := 14
def cfIdo : Nat := 15
def cfCtoValue : Nat := 16
def cfTag14 : Nat := 17
def cfTag10 : Nat := 18
def cfExtTag : Nat := 19
def cfMaxPayload : Nat := 20
def cfMaxRead : Nat := 21
def cfMsixEnable : Nat := 22
def cfFunctionMask : Nat := 23
def cfMsixTableSize : Nat := 24
def cfNoSoftReset : Nat := 25
def cfInterruptPin : Nat := 26
def cfBuses : Nat := 27
def cfNumVfs : Nat := 28

/-- What the capability structures say, each with its field (R81, R82, Table 03.1): ASPM (2: L1 and not L0s), the L1 PM substates (1:
L1.1 and not L1.2), L0p, the largest payload and read request, tags of 14 and 10 bits, SR-IOV, ARI, ATS and its invalidation
queue depth, PASID and its width, its execute and privileged modes, MSI-X, AER, DOE, IDE, power management, PRI, multicast,
completion timeout disable, and the enable bits of PRI and multicast. -/
def State.capability (fn field : Nat) : Nat :=
  let pf := b2n (fnVf fn == 0)
  let pf0 := b2n (mIndex fn == 0)
  match field with
  | 29 => 2
  | 30 => 1
  | 31 => 0
  | 32 => 512
  | 33 => 4096
  | 34 => 1
  | 35 => 1
  | 36 => pf
  | 37 => 1
  | 38 => 1
  | 39 => 32
  | 40 => 1
  | 41 => 20
  | 44 => 1
  | 45 => 1
  | 46 => pf0
  | 47 => pf0
  | 48 => 1
  | _ => 0

/-- Sizes of BAR0 and BAR2 of a function (Table 03.2), and of the VFs of a PF. -/
def barSize (fn n : Nat) : Nat :=
  if fnVf fn = 0 then if fnPf fn = 0 then 2 ^ 26 else if n = 0 then 2 ^ 16 else 0
  else if n = 0 then 2 ^ 16 else if fnPf fn = 0 then 2 ^ 18 else 0

/-- A BAR as it reads: its base above the low bits, which say 64-bit and non-prefetchable (R84); an absent one reads 0. -/
def barRead (size base : Nat) : Nat := if size = 0 then 0 else base / size * size + 4

/-- BAR fields: sizes of BAR0 and BAR2 (60, 61), the registers themselves (62, 63), the VF BARs of a PF (64, 65), and the Expansion ROM
BAR (66), which reads 0 (R82). The BARs of a VF are those of its PF's capability (log 111). -/
def State.barField (s : State) (fn field : Nat) : Nat :=
  let f := s.func fn
  let vf := fnId (mDie fn) (fnPf fn) 1
  match field with
  | 60 => barSize fn 0
  | 61 => barSize fn 2
  | 62 => if fnVf fn = 0 then barRead (barSize fn 0) f.bar0 else 0
  | 63 => if fnVf fn = 0 then barRead (barSize fn 2) f.bar2 else 0
  | 64 => if fnVf fn = 0 then barRead (barSize vf 0) f.vfBar0 else 0
  | 65 => if fnVf fn = 0 then barRead (barSize vf 2) f.vfBar2 else 0
  | _ => 0

/-- The value a configuration read returns; a field the function does not implement reads zero (R82). -/
def State.configRead (s : State) (fn field : Nat) : Nat :=
  let f := s.func fn
  let link := mDie fn
  let pf := fnPf fn = 0
  let vf := fnVf fn ≠ 0
  match field with
  | 0 => 0x1D7A
  | 1 => if pf then (if vf then 0x806A else 0x8064) else (if vf then 0x806B else 0x8065)
  | 2 => 0x1D7A
  | 3 => s.boot.part.number
  | 4 => 0x21
  | 5 => if pf then 0x020000 else 0x010802
  | 6 => b2n f.busMaster
  | 7 => b2n f.vfEnable
  | 8 => if vf then 0 else (s.partition link (fnPf fn)).totalVfs
  | 9 => if vf then 0 else if pf then 2 else (s.partition link 0).totalVfs + 1
  | 10 => if vf then 0 else 1
  | 11 => if f.d3hot then 3 else 0
  | 12 => b2n f.pmeEnable
  | 13 => b2n f.pmeStatus
  | 14 => b2n f.relaxed
  | 15 => b2n f.ido
  | 16 => f.ctoValue
  | 17 => b2n f.tag14
  | 18 => b2n f.tag10
  | 19 => b2n f.extTag
  | 20 => f.maxPayload
  | 21 => f.maxRead
  | 22 => b2n f.msixEnable
  | 23 => b2n f.funcMask
  | 24 => if f.provisioned then max 1 f.vectorsInEffect else 1
  | 25 => 1
  | 27 => if vf then 0 else (s.link link).buses
  | 28 => f.numVfs
  | n => if n < 60 then State.capability fn n else s.barField fn n

/-- Vectors that became free to go are sent (R98, R100). -/
def State.unmask (s : State) (fn : Nat) : State := s.releaseHeld fn

/-- A configuration write: controls take effect as their rules say, read-only fields do not change. -/
def State.configWrite (s : State) (fn field v : Nat) : State :=
  let b := decide (v % 2 = 1)
  match field with
  | 6 => if b then s.busMasterOn fn else s.busMasterOff fn
  | 7 => if fnVf fn ≠ 0 then s else if b then s.modFunc fn (fun f => { f with vfEnable := true }) else s.vfEnableOff fn
  | 11 => if v % 4 = 3 then s.enterD3hot fn else if v % 4 = 0 then s.leaveD3hot fn else s
  | 12 => s.modFunc fn (fun f => { f with pmeEnable := b })
  | 13 => if b then
      s.clearPme fn else s
  | 14 => s.modFunc fn (fun f => { f with relaxed := b })
  | 15 => s.modFunc fn (fun f => { f with ido := b })
  | 16 => s.modFunc fn (fun f => { f with ctoValue := v % 16 })
  | 17 => s.modFunc fn (fun f => { f with tag14 := b })
  | 18 => s.modFunc fn (fun f => { f with tag10 := b })
  | 19 => s.modFunc fn (fun f => { f with extTag := b })
  | 20 => if v = 128 ∨ v = 256 ∨ v = 512 then s.modFunc fn (fun f => { f with maxPayload := v }) else s
  | 21 => if v = 128 ∨ v = 256 ∨ v = 512 ∨ v = 1024 ∨ v = 2048 ∨ v = 4096 then
      s.modFunc fn (fun f => { f with maxRead := v }) else s
  | 22 => (s.modFunc fn (fun f => { f with msixEnable := b })).unmask fn
  | 23 => (s.modFunc fn (fun f => { f with funcMask := b })).unmask fn
  | 27 => if fnVf fn = 0 then s.modLink (mDie fn) (fun l => { l with buses := v % 256 }) else s
  | 28 => if fnVf fn = 0 ∧ (s.func fn).vfEnable = false then
      s.modFunc fn (fun f => { f with numVfs := min v (s.partition (mDie fn) (fnPf fn)).totalVfs }) else s
  | 62 => if fnVf fn = 0 then s.modFunc fn (fun f => { f with bar0 := v % 2 ^ 64 }) else s
  | 63 => if fnVf fn = 0 then s.modFunc fn (fun f => { f with bar2 := v % 2 ^ 64 }) else s
  | 64 => if fnVf fn = 0 then s.modFunc fn (fun f => { f with vfBar0 := v % 2 ^ 64 }) else s
  | 65 => if fnVf fn = 0 then s.modFunc fn (fun f => { f with vfBar2 := v % 2 ^ 64 }) else s
  | _ => s

/-- CONFIGURATION_REQUEST (R43, R105): before READY it is completed with Request Retry Status; a function that does not
answer is an Unsupported Request. A FROZEN link serves it normally; one whose link IDE stream is Insecure accepts none (R118), but
for the DOE requests that set the stream up again (log 112). -/
def execConfigurationRequest (fn : Nat) (write : Bool) (field value : Nat) (s : State) :
    Host.Outcome State Fault Refusal :=
  let link := mDie fn
  if !s.linkUp link || s.linkInsecure link then .next s
  else if !s.ready then .next (s.emit (.tlp link TlpKind.retryStatus.code fn))
  else if !s.configReach fn then .next (s.emit (.tlp link TlpKind.unsupported.code fn))
  else if write then .next ((s.configWrite fn field value).emit (.tlp link TlpKind.successful.code fn))
  else .next (s.emit (.tlp link TlpKind.successful.code (s.configRead fn field)))

/-! ## IDE -/

/-- IDE_CHECK_FAILURE (R118): the TLP is discarded, the stream becomes Insecure, AER reports it and a CONTAINED record
names the stream. -/
def execIdeCheckFailure (link stream : Nat) (s : State) : Host.Outcome State Fault Refusal :=
  match Tbl.find (s.link link).ide stream with
  | none => .next s
  | some i =>
    if s.linkUp link then
      let s := s.modLink link (fun l => { l with ide := Tbl.set l.ide stream { i with secure := false } })
      .next ((s.emit (.tlp link TlpKind.aerIde.code stream)).raise 0x0104 sevContained 0 link stream 0 0)
    else .next s

/-! ## Releasing containment -/

/-- Functions of a link go on after a release by writes, by the cause (R108). -/
def State.afterRelease (s : State) (link : Nat) : State :=
  let l := s.link link
  if l.cause = 1 then s.resetLinkFunctions link
  else
    let s := if l.cause = 2 then s.halt l.causeFn haltPoisoned l.causeQueue l.causeIndex else s
    (s.functionsOf link).foldl State.resume s

/-- A write of CONTAINMENT_RELEASE by PF0 of the link, or by another function (R110): ignored unless FROZEN; the next step
of the sequence, or its cancelling with a new nonce. -/
def State.releaseWrite (s : State) (link : Nat) (byPf0 : Bool) (v : Nat) : State :=
  let l := s.link link
  if !l.frozen then s
  else if byPf0 && !l.armed && v == 0xA5A50000 + s.nonceOf link then s.setLink link { l with armed := true }
  else if byPf0 && l.armed && v == 0x5A5A0000 + s.nonceOf link then
    (s.setLink link l.thaw).afterRelease link
  else
    let (n, s) := s.draw 16
    s.setLink link { l with armed := false, nonce := some n }

/-- CONTAINMENT_RELEASE (R110): PF0 of the link writes the register. A FROZEN link takes writes of its containment block;
a link that is down carries none. -/
def execContainmentRelease (link value : Nat) (s : State) : Host.Outcome State Fault Refusal :=
  .next (if s.ready && s.linkUp link then s.releaseWrite link true (value % 2 ^ 32) else s)

/-- RELEASE_ARM_TIMEOUT (R110): 1 ms after an accepted first write the sequence is cancelled and the nonce redrawn. -/
def execReleaseArmTimeout (link : Nat) (s : State) : Host.Outcome State Fault Refusal :=
  if (s.link link).frozen && (s.link link).armed then
    let (n, s) := s.draw 16
    .next (s.modLink link (fun l => { l with armed := false, nonce := some n }))
  else .next s

end Sys2Proof.Machine
end

