-- ==== Sys2Proof/Machine/Mailbox.lean ====
section
/-! DEFINITION. Mailboxes and the command queue of PF0 (spec/04). The rows that hand a finished message or a fetched
packet to the lead are in `Machine/Transport.lean`. -/

namespace Sys2Proof.Machine

/-! ## Mailboxes

A mailbox is named by the identity of its function, or by 2^24 + 256 × die + number for an inter-agent mailbox. -/

def agentBoxBase : Nat := 2 ^ 24

/-- A function's registers are reached by its host: it answers configuration requests, is not in D3hot, and memory
requests reach the package (R43, R105, R114). -/
def State.memReach (s : State) (fn : Nat) : Bool :=
  s.hostReach (mDie fn) && s.configReach fn && !(s.func fn).d3hot

/-- An agent reaches the blocks of a die through BAR0 of PF0, or through the memory map of a thread or sequencer of the
die. -/
def State.agentReach (s : State) (die who : Nat) : Bool :=
  s.live die && mDie who == die &&
    (who == pf0 die && s.memReach who || isThreadId who || (mClass who == 2 && decide (mIndex who < 16)))

/-- A word stored in a queue of 16: in a full queue it replaces the newest, marked COLLISION (R121). -/
def pushWord (q : List MbxWord) (w : MbxWord) : List MbxWord × Bool :=
  if q.length < 16 then (q ++ [w], false) else (q.dropLast ++ [{ w with collided := true }], true)

/-- A word stored in the inbound queue of a function's mailbox (R120, R121). -/
def State.sendFunction (s : State) (fn : Nat) (w : MbxWord) : State :=
  let b := s.fnBox fn
  let (q, hit) := pushWord b.inbound w
  s.setFnBox fn { b with inbound := q, fwCollision := b.fwCollision || hit, sendOverrun := b.sendOverrun || hit }

/-- A word stored in an inter-agent mailbox, or rejected (R121, R122, R127, R128). Words that reach the queue in one clock are two
commands one after the other, in the order of R122 (log 113). -/
def State.sendAgent (s : State) (k : Nat) (w : MbxWord) : State :=
  let b := s.agentBox k
  if b.enable && (w.stamp == b.senderA || w.stamp == b.senderB) then
    let (q, hit) := pushWord b.queue w
    let s := s.setAgentBox k
      { b with queue := q, collision := b.collision || hit, nextIsB := b.rotate 1 }
    s.wakeReceiver k
  else s.setAgentBox k { b with rejects := satAdd 0xFF b.rejects 1 }

/-- A word written to MBX_SEND or MBX_SEND_END. -/
def State.mbxWrite (s : State) (box writer : Nat) (v : Word32) (last : Bool) : State :=
  let w : MbxWord := { word := v, stamp := writer, last := last, collided := false }
  if box < agentBoxBase then
    if writer = box ∧ s.memReach box then s.sendFunction box w else s
  else
    let k := box - agentBoxBase
    if s.agentReach (k / 256) writer then s.sendAgent k w else s

/-- A command packet from its bytes (Table 04.4); bytes that are missing read zero (log 18). -/
def packetOf (route : Route) (sender die : Nat) (b : List Byte) : Packet :=
  { route := route, sender := sender, die := die, opcode := leAt b 0 2, paramLen := leAt b 2 2, flags := leAt b 4 2,
    txn := leAt b 6 2, token := leAt b 8 8, sequence := leAt b 0x10 4, reserved := leAt b 0x14 12, params := b.drop 32 }

/-- The packet of a mailbox message, and whether it passes R124. Its sender is the stamp of its END word (R129). -/
def messagePacket (route : Route) (die : Nat) (ws : List MbxWord) : Packet × Bool :=
  let bs := ws.flatMap (fun w => toLe 4 w.word.toNat)
  let sender := (ws.getLast?.map (fun w => w.stamp)).getD 0
  let p := packetOf route sender die bs
  (p, decide (ws.length ≤ 16) && ws.all (fun w => !w.collided) && ws.all (fun w => w.stamp == sender)
    && decide (4 * ws.length = 32 + p.paramLen))

/-- The words of the oldest message of a queue, up to the word that carries END, and the words after it (R124). -/
def firstMessage : List MbxWord → Option (List MbxWord × List MbxWord)
  | [] => none
  | w :: rest => if w.last then some ([w], rest) else (firstMessage rest).map (fun (m, r) => (w :: m, r))

/-- The message that firmware takes from a mailbox it receives from, once a word with END is there. -/
def State.takeMessage (s : State) (box : Nat) : Option (State × Packet × Bool) :=
  if box < agentBoxBase then
    let b := s.fnBox box
    (firstMessage b.inbound).map (fun (m, rest) =>
      let (p, ok) := messagePacket (.mailbox box) (mDie box) m
      (s.setFnBox box { b with inbound := rest }, p, ok))
  else
    let k := box - agentBoxBase
    let b := s.agentBox k
    if b.receiver = fwId (k / 256) then
      (firstMessage b.queue).map (fun (m, rest) =>
        let (p, ok) := messagePacket (.agent (k / 256) (k % 256)) (k / 256) m
        (s.setAgentBox k { b with queue := rest }, p, ok))
    else none

/-- MBX_SEND (R120–R122, R127). -/
def execMbxSend (box writer : Nat) (value : Word32) (s : State) : Host.Outcome State Fault Refusal :=
  .next (s.mbxWrite box writer value false)

/-- What a read of MBX_RECV returns and what it leaves (R123, R127). -/
def State.mbxRead (s : State) (box reader : Nat) : Nat × State :=
  if box < agentBoxBase then
    let b := s.fnBox box
    match b.outbound with
    | w :: rest =>
      if reader = box ∧ s.memReach box then (w.word.toNat, (s.setFnBox box { b with outbound := rest }).fillOutbound box)
      else (0, s)
    | [] => (0, s)
  else
    let k := box - agentBoxBase
    let b := s.agentBox k
    match b.queue with
    | w :: rest =>
      if reader = b.receiver ∧ s.agentReach (k / 256) reader then
        (w.word.toNat, (s.setAgentBox k { b with queue := rest }).fillAgent k)
      else (0, s)
    | [] => (0, s)

/-- MBX_RECV (R127): the head word is returned and removed; 0 from an empty queue, or to another agent. -/
def execMbxRecv (box reader : Nat) (s : State) : Host.Outcome State Fault Refusal :=
  let (v, s) := s.mbxRead box reader
  .next (s.emit (.read reader v))

/-! ## The command queue -/

/-- CMDQ_REQUEST_DOORBELL (R131, R132): a write of CMDQ_REQ_INDEX.TAIL. -/
def execCmdqRequestDoorbell (link tail : Nat) (s : State) : Host.Outcome State Fault Refusal :=
  if s.memReach (pf0 link) then
    let q := s.cmdq link
    if idxCount (tail % 65536) q.reqHead ≤ q.slots then
      .next ((s.setCmdq link { q with reqTail := tail % 65536 }).cmdqPump link)
    else .next (s.setCmdq link { q with indexErr := true })
  else .next s

/-- CMDQ_REPLY_HEAD_WRITE (R131, R133): a write of CMDQ_RPL_INDEX.HEAD. -/
def execCmdqReplyHeadWrite (link head : Nat) (s : State) : Host.Outcome State Fault Refusal :=
  if s.memReach (pf0 link) then
    let q := s.cmdq link
    if idxCount q.rplTail (head % 65536) ≤ q.slots then
      .next ((s.setCmdq link { q with rplHead := head % 65536 }).cmdqPump link)
    else .next (s.setCmdq link { q with indexErr := true })
  else .next s

/-- The read of a request slot that is in progress has its data discarded. -/
def State.dropFetch (s : State) (l : Nat) : State :=
  { s with tags := List.map (fun (e : Nat × HostTag) =>
      (e.1, match e.2.use with
        | .command _ => if e.2.fn = pf0 l then { e.2 with discard := true } else e.2
        | _ => e.2)) s.tags }

/-- CMDQ_CFG.ENABLE written (R135). -/
def State.cmdqEnable (s : State) (l : Nat) (on : Bool) : State :=
  let q := s.cmdq l
  if on = q.enable then s
  else if on then s.setCmdq l { q with enable := true, reqTail := 0, reqHead := 0, rplHead := 0, rplTail := 0 }
  else (s.dropFetch l).setCmdq l { q with enable := false, fetching := false }

/-- CMDQ_ENABLE (R135). -/
def execCmdqEnable (link : Nat) (on : Bool) (s : State) : Host.Outcome State Fault Refusal :=
  .next (if s.memReach (pf0 link) then s.cmdqEnable link on else s)

/-- The packet of the request slot being fetched; HEAD advances and the command awaits its reply (R132). -/
def State.fetchPacket (s : State) (l : Nat) : Option (State × Packet) :=
  let s := s.cmdqPump l
  let q := s.cmdq l
  let fn := pf0 l
  if q.fetching && s.canIssue fn && (s.readOf fn (.command q.reqHead)).isSome then
    let a := q.slotAddr q.reqBase q.reqHead
    let head := s.hostRead fn a 32
    let len := min (leAt head 2 2) (q.slotSize - 32)
    let p := packetOf (.queue l q.fetched) fn l (head ++ s.hostRead fn (a + 32) len)
    let s := s.retireRead fn (.command q.reqHead)
    some ((s.setCmdq l { q with fetching := false, reqHead := (q.reqHead + 1) % 65536, fetched := q.fetched + 1,
                                 replies := q.replies ++ [(q.fetched, none, bit p.flags 1)] }).cmdqPump l, p)
  else none

/-- COMMAND_REPLY_WRITE (R133, R134): the oldest fetched command's reply, once it is finished, into the next reply
slot. -/
def execCommandReplyWrite (link : Nat) (s : State) : Host.Outcome State Fault Refusal :=
  let q := s.cmdq link
  let fn := pf0 link
  match q.replies with
  | (_, some r, irq) :: rest =>
    if q.replyFull || !s.canIssue fn then .next s
    else
      let s := s.hostWrite fn (q.slotAddr q.rplBase q.rplTail) r.bytes
      let s := s.setCmdq link { q with replies := rest, rplTail := (q.rplTail + 1) % 65536 }
      let s := if irq then s.msi fn q.vector else s
      .next (s.cmdqPump link)
  | _ => .next s

end Sys2Proof.Machine
end

