-- ==== Sys2Proof/Machine/Journal.lean ====
section
/-! DEFINITION. Device and journal commands, the host mirror of the journal, and PF1's COMMAND_REPLY (spec/04). -/

namespace Sys2Proof.Machine

/-- DEVICE_INFO's answer (R143). -/
def runDeviceInfo (p : Packet) (s : State) : Answer :=
  if p.paramLen ≠ 0 then s.fails stBadParam
  else
    s.answers (toLe 4 s.chipIdent ++ toLe 4 s.bootStatus ++ toLe 4 s.pkgRoles ++ toLe 4 s.journal.bootId ++ toLe 3 p.sender
      ++ toLe 1 s.chain.address ++ toLe 2 1 ++ toLe 2 0 ++ toLe 8 s.journal.next)

/-- DEVICE_INFO (R143). -/
def execDeviceInfo (p : Packet) (s : State) : Host.Outcome State Fault Refusal := runPlain 0x0001 p runDeviceInfo s

/-- Entries examined one by one until the destination is full: those that belong to the asker, and the JSN after the last
one examined (R144). -/
def examine (mine : JEntry → Bool) : List JEntry → Nat → List JEntry → Nat → List JEntry × Nat
  | [], _, got, next => (got, next)
  | e :: rest, cap, got, next =>
    if cap ≤ got.length then (got, next)
    else examine mine rest cap (if mine e then got ++ [e] else got) (e.jsn + 1)

/-- JOURNAL_QUERY's answer (R144). -/
def runJournalQuery (p : Packet) (s : State) : Answer :=
  let b := p.params
  let count := leAt b 8 2
  let len := leAt b 0x0C 4
  let addr := leAt b 0x10 8
  if p.paramLen ≠ 24 ∨ count = 0 ∨ 4096 < count ∨ leAt b 0x0A 2 ≠ 0 ∨ (addr = 0 ∧ len ≠ 0)
    ∨ (addr ≠ 0 ∧ mClass p.sender ≠ 0) then s.fails stBadParam
  else
    let j := s.journal
    let start := max (leAt b 0 8) j.first
    let all := decide (p.sender = pf0 (mDie p.sender)) || mClass p.sender == 4
    let cap := if addr = 0 then 62 else len / 64
    let (got, next) := examine (fun e => all || sameMaster e.master p.sender)
      ((j.entries.filter (fun e => decide (start ≤ e.jsn))).take count) cap [] start
    let bytes := got.flatMap JEntry.bytes
    let res := toLe 8 j.first ++ toLe 8 j.next ++ toLe 4 got.length ++ toLe 4 0 ++ toLe 8 next
    if addr = 0 then s.answers (res ++ bytes)
    else (if bytes.isEmpty then s else s.hostWrite p.sender addr bytes).answers res

/-- JOURNAL_QUERY (R144). -/
def execJournalQuery (p : Packet) (s : State) : Host.Outcome State Fault Refusal := runPlain 0x0002 p runJournalQuery s

/-- JOURNAL_MIRROR_SET's check (R145). -/
def runMirrorSet (p : Packet) (s : State) : Answer :=
  let b := p.params
  let d := leAt b 0 1
  let a := leAt b 8 8
  if p.paramLen ≠ 16 ∨ 2 ≤ leAt b 1 1 ∨ leAt b 2 6 ≠ 0 ∨ s.dieCount ≤ d then s.fails stBadParam
  else if d ≠ mDie p.sender then s.fails stNotPermitted
  else if a = 0 ∨ a % 4096 ≠ 0 then s.fails stBadParam
  else match s.dieStatus d with
    | some st => s.fails st
    | none => s.answers []

/-- Replies that wait for a confirming read that will not come any more, or has come, go out (R155). -/
def State.releaseConfirmed (s : State) : State :=
  let j := s.journal
  let stays := fun (e : Packet × Reply) => decide (e.2.jsn ∈ j.unconfirmed)
  (j.waiting.filter (fun e => !stays e)).foldl (fun s (p, r) => s.sendReply p r)
    { s with journal := { j with waiting := j.waiting.filter stays } }

/-- The mirror becomes ACTIVE and is filled from JOURNAL_FIRST upward; one that is replaced is no longer read (R145, R154). -/
def State.startMirror (b : List Byte) (s : State) : State :=
  let j := s.journal
  { s with journal := { j with
      mirror := .active, mirrorSync := bit (leAt b 1 1) 0, mirrorDie := leAt b 0 1, mirrorBase := leAt b 8 8,
      mirrorNext := j.first, confirmFailed := false, unconfirmed := [] } }.mirrorStep.releaseConfirmed

/-- JOURNAL_MIRROR_SET (R145). -/
def execJournalMirrorSet (p : Packet) (s : State) : Host.Outcome State Fault Refusal :=
  let p := { p with opcode := 0x0003 }
  .next (s.submit p (runMirrorSet p) (State.startMirror p.params))

/-- JOURNAL_MIRROR_CLEAR's check (R145). -/
def runMirrorClear (p : Packet) (s : State) : Answer :=
  if p.paramLen ≠ 0 then s.fails stBadParam
  else if s.journal.mirror = .off then s.fails stNotFound
  else if p.sender ≠ pf0 s.journal.mirrorDie then s.fails stNotPermitted
  else s.answers []

/-- Mirroring stops (R145). -/
def State.stopMirror (s : State) : State :=
  ({ s with journal := { s.journal with mirror := .off, confirmFailed := false, unconfirmed := [] } }).releaseConfirmed

/-- JOURNAL_MIRROR_CLEAR (R145). -/
def execJournalMirrorClear (p : Packet) (s : State) : Host.Outcome State Fault Refusal :=
  let p := { p with opcode := 0x0004 }
  .next (s.submit p (runMirrorClear p) State.stopMirror)

/-- JOURNAL_MARK's answer (R146). -/
def runJournalMark (p : Packet) (s : State) : Answer :=
  if p.paramLen ≠ 8 then s.fails stBadParam else s.answers (p.params.take 4)

/-- JOURNAL_MARK (R146). -/
def execJournalMark (p : Packet) (s : State) : Host.Outcome State Fault Refusal := runPlain 0x0005 p runJournalMark s

/-! ## The host mirror -/

/-- The confirming read of the oldest unconfirmed write succeeded: its reply goes out, and the next entry is read (R155). -/
def State.confirmReplies (s : State) : State :=
  let s := { s with journal := { s.journal with unconfirmed := s.journal.unconfirmed.drop 1 } }
  s.releaseConfirmed.mirrorRead

/-- A confirming read failed: the mirror is SUSPENDED with that entry the first unwritten one, and the replies go out
with MIRROR_LAGGING (R155, R156). -/
def State.confirmBad (s : State) : State :=
  let j := s.journal
  { s with journal := { j with mirror := .suspended, confirmFailed := true, unconfirmed := [],
                               mirrorNext := min j.mirrorNext (j.unconfirmed.headD j.next) } }.releaseWaiting

/-- The backlog is written and the mirror is ACTIVE again, with its firmware entry (R151, R156). -/
def State.mirrorBack (s : State) : State :=
  let s := s.mirrorFlush
  { s with journal := { s.journal with mirror := .active, confirmFailed := false } }.firmwareEntry eventMirrorActive

/-- A confirming read ended (R155, R156): that of the oldest unconfirmed write of an ACTIVE mirror, or the one that tries a
SUSPENDED mirror again. -/
def State.mirrorConfirm (s : State) (good : Bool) : State :=
  let j := s.journal
  if j.mirror = .active then
    if j.unconfirmed.isEmpty then s else if good then s.confirmReplies else s.confirmBad
  else if j.mirror = .suspended ∧ j.confirmFailed = true ∧ good = true ∧ s.mirrorCan then s.mirrorBack
  else s

/-- The confirming read that is outstanding: its tag key and its JSN. -/
def State.mirrorReading (s : State) : Option (Nat × Nat) :=
  s.tags.findSome? (fun (k, t) => match t.use with
    | .mirror n => if t.fn = pf0 s.journal.mirrorDie ∧ t.quarantined = false ∧ t.discard = false then some (k, n) else none
    | _ => none)

/-- MIRROR_CONFIRM_READ (R155, R156): the outstanding confirming read ends. -/
def execMirrorConfirmRead (good : Bool) (s : State) : Host.Outcome State Fault Refusal :=
  match s.mirrorReading with
  | some (k, _) => .next (({ s with tags := Tbl.del s.tags k }).mirrorConfirm good)
  | none => .next s.mirrorRead

/-- MIRROR_RETRY (R156): the backlog is written again and read once more; it counts as written only once that read confirms
it. -/
def execMirrorRetry (s : State) : Host.Outcome State Fault Refusal :=
  let j := s.journal
  if j.mirror = .suspended ∧ j.confirmFailed = true ∧ s.mirrorCan then
    let s := s.mirrorFlush
    let s := { s with journal := { s.journal with mirrorNext := j.mirrorNext, unconfirmed := [] } }
    .next ((s.needRead (pf0 j.mirrorDie) (.mirror j.mirrorNext) 0).getD s)
  else .next s

/-- MIRROR_RESUME (R156): the mirror's function can issue again. -/
def execMirrorResume (s : State) : Host.Outcome State Fault Refusal :=
  let j := s.journal
  if j.mirror = .suspended ∧ j.confirmFailed = false ∧ s.mirrorCan then .next s.mirrorBack else .next s

end Sys2Proof.Machine
end

