-- ==== Sys2Proof/Machine/Ports.lean ====
section
/-! DEFINITION. Ethernet ports: modes, negotiation, the spare lane, reception, pauses, synchronous Ethernet, statistics
and the wake port (spec/06): table rows 87–105 and the release of the PFC watchdog. -/

namespace Sys2Proof.Machine

/-! ## Link state -/

/-- Lanes of a PHY type by its speed code (Table 06.2). -/
def speedLanes (code : Nat) : Nat := if code = 7 then 8 else if code = 6 then 4 else if code = 5 then 2 else 1

/-- The PHY type exists for the port: its lane count and ceiling (R187). -/
def Port.speedFits (p : Port) (code : Nat) : Bool :=
  decide (1 ≤ code) && decide (code ≤ 7) && decide (code ≤ p.ceiling) && speedLanes code == p.lanes

/-! ## Layouts (R180–R185) -/

/-- Ports of a layout in a group: first lane, lanes, ceiling. -/
def layoutPorts (layout group : Nat) (speeds : List Nat) : List (Nat × Nat × Nat) :=
  let b := 4 * group
  if layout = 1 then [(0, 8, 7)]
  else if layout = 2 then [(b, 4, 6)]
  else if layout = 3 then [(b, 2, 5), (b + 2, 2, 5)]
  else if layout = 4 then [(b, 1, 4), (b + 1, 1, 4), (b + 2, 1, 4), (b + 3, 1, 4)]
  else if layout = 5 then ((List.range 4).map (fun i => (b + i, 1, speeds.getD i 0))).filter (fun e => e.2.2 != 0)
  else []

/-- A new port in the defaults of R183. Registers that no default names keep their values. -/
def Port.fresh (old : Port) (lanes ceiling : Nat) (wired : Bool) : Port :=
  { Port.reset with
    present := true, lanes := lanes, ceiling := ceiling, phase := .negotiating, spareEn := wired, serExp := 4,
    admission := old.admission, admitLimit := old.admitLimit, admitLimitWritten := old.admitLimitWritten,
    admitDrop := old.admitDrop, ptp := old.ptp, ptpCounters := old.ptpCounters }

/-- A port of an old layout ceases to exist; frames held for it are discarded (R185, R345). -/
def State.removePort (s : State) (port : Nat) : State :=
  if (s.port port).present then
    let s := (s.portDown port).deleteTree port
    s.modPort port (fun p =>
      { p with present := false, lanes := 0, ceiling := 0, phase := .idle, speed := 0, anDone := false, txSynce := false, pauseReq := 0 })
  else s

/-- The lanes of a die that a change of layout touches. -/
def touched (group layout old0 : Nat) : List Nat :=
  if layout = 1 ∨ old0 = 1 then List.range 8 else (List.range 4).map (fun i => 4 * group + i)

/-- PORT_SET_MODE takes effect (R183, R185, R196). -/
def State.applyLayout (s : State) (die group layout : Nat) (speeds : List Nat) : State :=
  let b := s.portBlock die
  let lanes := touched group layout b.layout0
  let s := lanes.foldl (fun s i => s.removePort (8 * die + i)) s
  let spare := b.spareInUse && lanes.contains (b.spareFor % 8)
  let b := { b with
    layout0 := if group = 0 then layout else b.layout0, layout1 := if layout = 1 then 0 else if group = 1 then layout else b.layout1,
    laneSpeed := (List.range 4).foldl (fun t i => Tbl.put 0 t (4 * group + i) (speeds.getD i 0)) b.laneSpeed,
    spareInUse := b.spareInUse && !spare, replacedLane := if spare then 0 else b.replacedLane }
  let s := s.setPortBlock die b
  let s := lanes.foldl (fun s i => s.modPort (8 * die + i) (fun p => { p with stats := [], snapValid := false })) s
  (layoutPorts layout group speeds).foldl (fun s (i, n, c) =>
    let port := 8 * die + i
    let s := s.modPort port (fun p => p.fresh n c (b.spareWired && b.sparePort == port))
    s.modTm die (fun t => t.createTree i)) s

/-- PORT_SET_MODE's answer (R183, R184). -/
def runPortSetMode (p : Packet) (s : State) : Answer :=
  let b := p.params
  let die := leAt b 0 1
  let group := leAt b 1 1
  let layout := leAt b 2 1
  let speeds := (List.range 4).map (fun i => leAt b (4 + i) 1)
  if p.paramLen ≠ 8 then s.fails stBadParam
  else match s.dieStatus die with
    | some st => s.fails st
    | none =>
      let old := (s.portBlock die).layout0
      if 1 < group ∨ 5 < layout ∨ leAt b 3 1 ≠ 0 ∨ (layout = 1 ∧ group ≠ 0) ∨ speeds.any (fun v => decide (4 < v))
        ∨ (layout ≠ 5 ∧ speeds.any (fun v => decide (v ≠ 0))) then s.fails stBadParam
      else if old = 1 ∧ (group = 1 ∨ (layout ≠ 1 ∧ layout ≠ 0)) then s.fails stWrongState
      else (s.applyLayout die group layout speeds).answers []

/-- PORT_SET_MODE (R183). -/
def execPortSetMode (p : Packet) (s : State) : Host.Outcome State Fault Refusal := runPlain 0x0301 p runPortSetMode s

/-- A command that names a port: its failing status, or none (R653; a port no layout holds is absent, log 22). -/
def State.portStatusOf (s : State) (port : Nat) : Option Nat :=
  if 64 ≤ port then some stBadParam
  else (s.dieStatus (port / 8)).orElse (fun _ => if (s.port port).present then none else some stNotFound)

/-- PORT_QUERY's answer (R185); a staged field reads as written last (R11). -/
def runPortQuery (p : Packet) (s : State) : Answer :=
  let port := leAt p.params 0 1
  if p.paramLen ≠ 4 ∨ leAt p.params 1 3 ≠ 0 then s.fails stBadParam
  else match s.portStatusOf port with
    | some st => s.fails st
    | none =>
      let q := s.port port
      s.answers (toLe 4 (s.portStatus port) ++ toLe 4 q.cfg.written.code ++ toLe 4 q.preempt.written.code
        ++ toLe 4 q.preemptStatus ++ toLe 8 q.pfc.written.code ++ toLe 4 (s.spareStatus (port / 8)) ++ toLe 4 0)

/-- PORT_QUERY (R185). -/
def execPortQuery (p : Packet) (s : State) : Host.Outcome State Fault Refusal := runPlain 0x0302 p runPortQuery s

/-! ## Expert settings (R186, R199) -/

/-- An FEC choice fits a port that runs, or may negotiate, a speed (Table 06.2). -/
def fecFits (speed choice : Nat) : Bool :=
  choice == 0 || (speed == 2 && decide (choice ≤ 3)) || (speed == 1 && (choice == 1 || choice == 2))

/-- The PHY fields of a PORT_SET_LANES are in range. -/
def Port.phyGood (p : Port) (b : List Byte) : Bool :=
  let forced := leAt b 2 1 == 1
  let fec := leAt b 4 1
  decide (leAt b 2 1 ≤ 1) && (!forced || p.speedFits (leAt b 3 1))
    && (if forced then fecFits (leAt b 3 1) fec
        else (List.range 8).any (fun c => p.speedFits c && fecFits c fec))
    && decide (leAt b 5 1 < 16) && (!bit (leAt b 5 1) 3 || decide (leAt b 6 1 < p.lanes))
    && decide (2 ≤ leAt b 7 1) && decide (leAt b 7 1 ≤ 8)

/-- Registers in register layout. -/
def preemptOf (v : Nat) : PreemptCfg :=
  { enable := bit v 0, verifyDisable := bit v 1, addFrag := bits v 3 2, verifyTime := bits v 10 4, expressPrio := bits v 23 16 }
def pfcOf (v : Nat) : PfcCfg :=
  { mode := bits v 1 0, rxHonor := bits v 15 8, txAllow := bits v 23 16, watchdogMs := bits v 33 24 }

/-- A lane of a port has failed, or is to be retired (R192, R195, R196): its link goes down; where the spare can take it, the
next negotiation names it. `lane` is a lane of the port. -/
def State.laneFailed (s : State) (port lane : Nat) : State :=
  let p := s.port port
  let b := s.portBlock (port / 8)
  if p.sparingAvailable && !p.anForced && !b.spareInUse then
    (s.modPort port (fun p => { p with retireLane := some lane })).portDown port
  else (s.raise 0x0202 sevContained 0 (port / 8) port (port % 8 + lane) 0).portDown port

/-- The selected groups of a PORT_SET_LANES are applied (R186, R191). A command that stages PREEMPT_CFG or PFC_CFG has all its
fields wait for the transmit safe point (R199, log 116). -/
def State.applyLanes (s : State) (port : Nat) (b : List Byte) : State :=
  let sel := leAt b 1 1
  let fl := leAt b 5 1
  let s := if bit sel 1 then
      s.modPort port (fun p => { p with macTx := bit sel 2 || bit sel 3, cfg := { p.cfg with written :=
        { p.cfg.written with maxFrame := leAt b 8 2, udp6ZeroOk := bit (leAt b 0x0A 1) 0 } } })
    else s
  let s := if bit sel 2 then
      s.modPort port (fun p => { p with preempt := { p.preempt with written := preemptOf (leAt b 0x0C 4) } })
    else s
  let s := if bit sel 3 then
      s.modPort port (fun p => { p with pfc := { p.pfc with written := pfcOf (leAt b 0x10 8) } })
    else s
  let s := s.modPort port Port.settle
  if bit sel 0 then
    let s := s.modPort port (fun p =>
      { p with anForced := leAt b 2 1 == 1, forcedSpeed := leAt b 3 1, fecChoice := leAt b 4 1, spareEn := bit fl 1,
               wantSynce := bit fl 2, serExp := leAt b 7 1 })
    let s := s.modPortBlock (port / 8) (fun x =>
      if bit fl 0 then { x with spareWired := true, sparePort := port }
      else if x.sparePort = port then { x with spareWired := false } else x)
    if bit fl 3 then s.laneFailed port (leAt b 6 1) else s.portDown port
  else s

/-- PORT_SET_LANES's answer (R186, Table 06.4). -/
def runPortSetLanes (p : Packet) (s : State) : Answer :=
  let b := p.params
  let port := leAt b 0 1
  let sel := leAt b 1 1
  if p.paramLen ≠ 24 ∨ 16 ≤ sel ∨ leAt b 0x0B 1 ≠ 0 then s.fails stBadParam
  else match s.portStatusOf port with
    | some st => s.fails st
    | none =>
      let pre := leAt b 0x0C 4
      let pfc := leAt b 0x10 8
      if (bit sel 0 && !(s.port port).phyGood b)
        || (bit sel 1 && (decide (leAt b 8 2 < 1518) || decide (9216 < leAt b 8 2) || decide (2 ≤ leAt b 0x0A 1)))
        || (bit sel 2 && (decide (bits pre 15 11 ≠ 0) || decide (bits pre 31 24 ≠ 0) || decide (bits pre 10 4 = 0)))
        || (bit sel 3 && (decide (bits pfc 1 0 = 3) || decide (bits pfc 7 2 ≠ 0) || decide (bits pfc 63 34 ≠ 0)
            || decide (1000 < bits pfc 33 24))) then s.fails stBadParam
      else (s.applyLanes port b).answers []

/-- PORT_SET_LANES (R186). -/
def execPortSetLanes (p : Packet) (s : State) : Host.Outcome State Fault Refusal := runPlain 0x8301 p runPortSetLanes s

/-- PORT_SET_FILTER's answer (R199). -/
def runPortSetFilter (p : Packet) (s : State) : Answer :=
  let b := p.params
  let port := leAt b 0 1
  let fl := leAt b 1 1
  let first := leAt b 2 1
  let n := leAt b 3 1
  if p.paramLen ≠ 4 + 8 * n ∨ 8 ≤ fl ∨ 64 < first + n
    ∨ ((List.range n).any (fun i => decide (2 ^ 49 ≤ leAt b (4 + 8 * i) 8))) then s.fails stBadParam
  else match s.portStatusOf port with
    | some st => s.fails st
    | none =>
      let entries := fun (t : Tbl Nat) =>
        (List.range n).foldl (fun t i => Tbl.put 0 t (first + i) (leAt b (4 + 8 * i) 8)) t
      (s.modPort port (fun p =>
        { p with
          cfg := { p.cfg with written :=
            { p.cfg.written with filterMode := bit fl 0, acceptBcast := bit fl 1, acceptMcast := bit fl 2 } },
          filter := { p.filter with written := entries p.filter.written } }.settle)).answers []

/-- PORT_SET_FILTER (R199). -/
def execPortSetFilter (p : Packet) (s : State) : Host.Outcome State Fault Refusal := runPlain 0x8302 p runPortSetFilter s

/-! ## Negotiation and training -/

/-- FEC of a resolved speed (R187, Table 06.2): `asked` is the strongest the partner requests. -/
def Port.fecFor (p : Port) (speed asked : Nat) : Nat :=
  let limit := if p.fecChoice = 0 then 2 else p.fecChoice - 1
  if speed ≤ 2 then min (min limit asked) speed else 3

/-- The lane of the link that a negotiation replaces: the lowest named by either end (R194). -/
def lowest (l : List (Option Nat)) : Option Nat :=
  l.foldl (fun a b => match a, b with
    | some x, some y => some (min x y)
    | some x, none => some x
    | none, y => y) none

/-- AUTO_NEGOTIATION (R187, R193, R194): the highest common type, the FEC asked for, and the partner's sparing page. Lane 8 that
another port of the die holds by SPARE_WIRED, or that stands in for another port's lane, serves none but that port (R191, log
115). -/
def execAutoNegotiation (port speed fec : Nat) (page : Option SparingPage) (s : State) :
    Host.Outcome State Fault Refusal :=
  let p := s.port port
  let b := s.portBlock (port / 8)
  if s.live (port / 8) && p.present && decide (p.phase = .negotiating) && p.speedFits speed then
    let mine := b.spareWired && b.sparePort == port
    let avail := match page with
      | some g => p.spareEn && g.capable && (mine || (g.wired && !b.spareWired))
      | none => false
    let free := !b.spareInUse || b.spareFor == port
    let own := if b.spareInUse ∧ b.spareFor = port then some (b.replacedLane - port % 8) else none
    let names := match page with
      | some g => [p.retireLane, own, g.retire, g.spared]
      | none => []
    .next (s.setPort port
      { p with phase := .training, speed := speed, fec := p.fecFor speed fec, anDone := true, sparingAvailable := avail,
               retireLane := if avail && free then lowest names else none })
  else .next s

/-- AUTO_NEGOTIATION_TIMEOUT (R189). -/
def execAutoNegotiationTimeout (port : Nat) (s : State) : Host.Outcome State Fault Refusal :=
  let p := s.port port
  if s.live (port / 8) && p.present && (decide (p.phase = .negotiating) || decide (p.phase = .training)) then
    .next (s.setPort port p.retrain)
  else .next s

/-- PORT_LINK_UP (R189, R195, R200, R211): a substitution that is new is recorded. -/
def execPortLinkUp (port : Nat) (s : State) : Host.Outcome State Fault Refusal :=
  let p := s.port port
  let die := port / 8
  if s.live die && p.present && decide (p.phase = .training) then
    let s := s.setPort port
      { p with phase := .up, txSynce := p.wantSynce && !s.synce.refLost, retireLane := none, verifyTries := 0 }
    let s : State := match p.retireLane with
      | some l =>
        let b := s.portBlock die
        let lane := port % 8 + l
        if b.spareInUse ∧ b.spareFor = port ∧ b.replacedLane = lane then s
        else
          let s := s.setPortBlock die { b with spareFor := port, spareInUse := true, replacedLane := lane }
          s.raise 0x0201 sevDegraded 0 die port lane 0
      | none => s
    .next (s.squelch port true)
  else .next s

/-- PORT_LINK_DOWN (R190). -/
def execPortLinkDown (port : Nat) (s : State) : Host.Outcome State Fault Refusal :=
  .next (if s.live (port / 8) && (s.port port).present then s.portDown port else s)

/-- The port a lane of a die serves: lane 8 serves the port whose lane it replaces. -/
def State.portOfLane (s : State) (die lane : Nat) : Option Nat :=
  let b := s.portBlock die
  let l := if lane = 8 then b.replacedLane else lane
  if lane = 8 ∧ b.spareInUse = false then none
  else ((List.range 8).find? (fun i =>
    let p := s.port (8 * die + i)
    p.present && decide (i ≤ l) && decide (l < i + p.lanes))).map (fun i => 8 * die + i)

/-- LANE_FAILURE (R192, R195, R196). -/
def execLaneFailure (die lane : Nat) (s : State) : Host.Outcome State Fault Refusal :=
  match s.portOfLane die lane with
  | some port =>
    let l := if lane = 8 then (s.portBlock die).replacedLane else lane
    .next (if s.live die && decide ((s.port port).phase = .up) then s.laneFailed port (l - port % 8) else s)
  | none => .next s

/-- PREEMPT_VERIFY (R200): a verify request is sent every VERIFY_TIME until it is answered, three times at most. -/
def execPreemptVerify (port : Nat) (answered : Bool) (s : State) : Host.Outcome State Fault Refusal :=
  let p := s.port port
  let c := p.preempt.inEffect
  if s.live (port / 8) && decide (p.phase = .up) && c.enable && !c.verifyDisable
    && (decide (p.verify = .initial) || decide (p.verify = .verifying)) then
    if answered then .next (s.setPort port { p with verify := .succeeded })
    else if 3 ≤ p.verifyTries then .next (s.setPort port { p with verify := .failed })
    else .next ((s.setPort port { p with verify := .verifying, verifyTries := p.verifyTries + 1 }).emit (.verify port))
  else .next s

/-! ## Reception -/

/-- A received pause frame (R207, R210): PFC carries a class vector and eight times, PAUSE one time for all. -/
def Port.pauseFrame (p : Port) (f : List Byte) : Port :=
  let h := p.pfc.inEffect.honoured
  let set := fun (p : Port) c (t : Nat) =>
    if bit h c && !bit p.tripped c then { p with paused := setBit p.paused c (decide (t ≠ 0)) } else p
  if beAt f 14 2 = 0x0001 then
    if p.pfc.inEffect.mode = 1 then (List.range 8).foldl (fun p c => set p c (beAt f 16 2)) p else p
  else if p.pfc.inEffect.mode = 2 then
    (List.range 8).foldl (fun p c => if bit (beAt f 16 2) c then set p c (beAt f (18 + 2 * c) 2) else p) p
  else p

/-- A frame is a pause frame of either kind. -/
def isPause (f : List Byte) : Bool :=
  beAt f 0 6 == 0x0180C2000001 && beAt f 12 2 == 0x8808 && (beAt f 14 2 == 0x0001 || beAt f 14 2 == 0x0101)

/-- Statistics of a good frame (R214). -/
def State.countGood (s : State) (port : Nat) (f : List Byte) : State :=
  let len := f.length + 4
  ((((s.portStat port 0x000 len).portStat port 0x008 1).portStat port (0x010 + castOff f) 1).portStat port
    (0x0A0 + 8 * sizeBin len) 1)

/-- Statistics and effect of a pause frame; it ends in the MAC (log 23). -/
def State.takePause (s : State) (port : Nat) (f : List Byte) : State :=
  let s := if beAt f 14 2 = 0x0001 then s.portStat port 0x058 1
    else (List.range 8).foldl (fun s c => if bit (beAt f 16 2) c then s.portStat port (0x060 + 8 * c) 1 else s) s
  s.modPort port (fun p => p.pauseFrame f)

/-- Cells of a port's admission queue. -/
def Port.admitted (p : Port) : Nat := (p.admission.map (fun f => cellsFor f.bytes.length)).sum

/-- The ingress stamp and tick of a frame whose first bit crosses the reference plane now (R386, R387). -/
def State.ingressStamp (s : State) (port : Nat) : Nat × Nat :=
  (moveStamp (s.stampAt (port / 8)) (s.port port).ptp.inEffect.rxAdj, s.tickAt (port / 8))

/-- A good frame joins its port's admission queue, or is dropped (R198, R219, R353); `r` and `at_` were fixed at its start. -/
def State.admitFrame (s : State) (port : Nat) (r : RxRules) (at_ : Nat × Nat) (f : List Byte) : State :=
  let die := port / 8
  let p := s.port port
  let m := r.macMatch f
  if r.cfg.filterMode ∧ m = 127 then s.portStat port 0x050 1
  else if p.admitLimit ≤ p.admitted then s.setPort port { p with admitDrop := (p.admitDrop + 1) % 2 ^ 64 }
  else
    let key := ingOfPort port f
    match s.findCells die key (cellsFor f.length) with
    | (s, true) =>
      s.modPort port (fun p => { p with admission := p.admission ++ [{ bytes := f, macMatch := m, stamp := at_.1, tick := at_.2 }] })
    | (s, false) =>
      if ((s.tm die).cls (frameClass f)).lossless then
        (s.tmStat die 0x20).raise 0x0303 sevDegraded 0 die port (frameClass f) 0
      else s.modPort port (fun p => { p with admitDrop := (p.admitDrop + 1) % 2 ^ 64 })

/-- The wake frame (R217): WAKE_N of the links named that are in D3cold. No length is asked of it. -/
def State.wakeCheck (s : State) (f : List Byte) : State :=
  let y := s.synce
  if y.wakeEnable && leAt f 0 6 == y.wakeAddr && beAt f 12 2 == 0x88B5 && leAt f 14 8 == y.wakePattern then
    s.wakeLinks ((List.range s.dieCount).foldl (fun m d => if (s.link d).d3cold then m else setBit m d false) y.wakeFrameLinks)
  else s

/-- A whole frame at a MAC, judged by the settings of its start (R197–R199, R207, R214, R217). -/
def State.wholeFrame (s : State) (port : Nat) (r : RxRules) (at_ : Nat × Nat) (f : List Byte) (good : Bool) : State :=
  let s := if good && port == 8 * s.boot.numberMask then s.wakeCheck f else s
  let len := f.length + 4
  if len < 64 then s.portStat port (if good then 0x030 else 0x038) 1
  else if r.cfg.maxFrame < len then s.portStat port (if good then 0x040 else 0x048) 1
  else if !good then s.portStat port 0x028 1
  else
    let s := s.countGood port f
    if isPause f then s.takePause port f else s.admitFrame port r at_ f

/-- A frame that begins and ends now (R199). -/
def State.frameNow (s : State) (port : Nat) (f : List Byte) (good : Bool) : State :=
  let s := s.modPort port Port.rxSafe
  s.wholeFrame port (s.port port).rules (s.ingressStamp port) f good

/-- A fragment at a MAC (R203). -/
def State.fragment (s : State) (port : Nat) (f : List Byte) (good : Bool) : Fragment → State
  | .express => s.frameNow port f good
  | .unknownSmd => s.portStat port 0x220 1
  | .start n complete =>
    let s := if (s.port port).partialRx.isSome then s.portStat port 0x218 1 else s
    let s := s.modPort port (fun p => { p with partialRx := none })
    if complete then s.frameNow port f good
    else if good then
      let s := s.modPort port Port.rxSafe
      let (stamp, tick) := s.ingressStamp port
      let q : PartialRx := { count := n % 4, next := 0, bytes := f, rules := (s.port port).rules, stamp := stamp, tick := tick }
      (s.modPort port (fun p => { p with partialRx := some q })).portStat port 0x208 1
    else s.portStat port 0x218 1
  | .continue n k complete =>
    match (s.port port).partialRx with
    | none => s.portStat port 0x218 1
    | some q =>
      if q.count = n % 4 ∧ q.next = k % 4 ∧ (good = true ∨ complete = true) then
        let bytes := q.bytes ++ f
        if complete then
          ((s.modPort port (fun p => { p with partialRx := none })).portStat port 0x210 1).wholeFrame port q.rules (q.stamp, q.tick)
            bytes good
        else
          (s.modPort port (fun p => { p with partialRx := some { q with next := (q.next + 1) % 4, bytes := bytes } })).portStat
            port 0x208 1
      else (s.modPort port (fun p => { p with partialRx := none })).portStat port 0x218 1

/-- FRAME_RECEIVE (R197–R203, R219). -/
def execFrameReceive (port : Nat) (bytes : List Byte) (fcsGood : Bool) (frag : Fragment) (s : State) :
    Host.Outcome State Fault Refusal :=
  let p := s.port port
  .next (if s.live (port / 8) && p.present && decide (p.phase = .up) then s.fragment port bytes fcsGood frag else s)

/-- PAUSE_EXPIRY (R208). -/
def execPauseExpiry (port cls : Nat) (s : State) : Host.Outcome State Fault Refusal :=
  .next (s.modPort port (fun p => if cls < 8 then { p with paused := setBit p.paused cls false } else p))

/-- PFC_WATCHDOG_TRIP (R210). -/
def execPfcWatchdogTrip (port cls : Nat) (s : State) : Host.Outcome State Fault Refusal :=
  let p := s.port port
  if s.live (port / 8) && decide (cls < 8) && bit p.paused cls && !bit p.tripped cls
    && decide (p.pfc.inEffect.watchdogMs ≠ 0) then
    let s := s.setPort port { p with tripped := setBit p.tripped cls true, paused := setBit p.paused cls false }
    .next ((s.portStat port 0x358 1).raise 0x0203 sevDegraded 0 (port / 8) port cls 0)
  else .next s

/-- PFC_WATCHDOG_RELEASE (R210): no pause for the class has arrived for WATCHDOG_MS, and pause is honoured again. -/
def execPfcWatchdogRelease (port cls : Nat) (s : State) : Host.Outcome State Fault Refusal :=
  .next (s.modPort port (fun p => if cls < 8 then { p with tripped := setBit p.tripped cls false } else p))

/-- PAUSE_REFRESH (R209): each pause still asked for is sent again. -/
def execPauseRefresh (port : Nat) (s : State) : Host.Outcome State Fault Refusal :=
  let ask := (s.port port).pauseReq
  .next (if s.live (port / 8) then (maskBits ask 8).foldl (fun s c => s.sendPause port c true) s else s)

/-! ## Synchronous Ethernet, statistics, wake port -/

/-- SYNCE_REF_LOSS (R213). -/
def execSynceRefLoss (s : State) : Host.Outcome State Fault Refusal :=
  if s.synce.refLost || !s.ready then .next s
  else
    let ports := s.ports.map (fun (k, p) => (k, { p with txSynce := false }))
    let s := { s with synce := { s.synce with refLost := true }, ports := ports }
    .next (s.raise 0x0204 sevDegraded 0 s.roles.lead 0 0 0)

/-- SYNCE_REF_RETURN (R213): good for 1 s. -/
def execSynceRefReturn (s : State) : Host.Outcome State Fault Refusal :=
  let ports := s.ports.map (fun (k, p) => (k, { p with txSynce := p.present && p.wantSynce }))
  .next { s with synce := { s.synce with refLost := false }, ports := ports }

/-- Offsets of the FEC counters among a port's counters (Table 06.10). -/
def fecOffsets : List Nat := (List.range 10).map (fun i => 0x300 + 8 * i)

/-- A port's counters as a capture sees them: those of the FEC are free values, since the codewords on a line are not in the model
(log 125). -/
def State.statsNow (s : State) (port : Nat) : Tbl Nat :=
  fecOffsets.foldl (fun t off => Tbl.put 0 t off (Config.fecCount (port * 4096 + off) (s.dieTick (port / 8))).toNat) (s.port port).stats

/-- STATS_SNAPSHOT (R215): PF0 of the die writes STATS_CTRL.SNAPSHOT. -/
def execStatsSnapshot (port : Nat) (s : State) : Host.Outcome State Fault Refusal :=
  .next (if s.memReach (pf0 (port / 8)) then s.modPort port (fun p => { p with snap := s.statsNow port, snapValid := true }) else s)

/-- STATS_CLEAR (R215). -/
def execStatsClear (port : Nat) (s : State) : Host.Outcome State Fault Refusal :=
  .next (if s.memReach (pf0 (port / 8)) then s.modPort port (fun p => { p with stats := [] }) else s)

/-- WAKE_FRAME (R216, R217): a frame with a good FCS on the wake port. While VIN is present it is an ordinary frame of the
lane's port as well; in standby the wake MAC forwards nothing. -/
def execWakeFrame (bytes : List Byte) (s : State) : Host.Outcome State Fault Refusal :=
  let port := 8 * s.boot.numberMask
  let p := s.port port
  .next (if s.boot.vaux then
      if s.boot.vin && s.live (port / 8) && p.present && decide (p.phase = .up) then s.frameNow port bytes true
      else s.wakeCheck bytes
    else s)

end Sys2Proof.Machine
end

