-- ==== Sys2Proof/Machine/Sched.lean ====
section
/-! DEFINITION. The scheduler of a port and its gate control list (spec/10 R355–R368): table rows 123, 128–130. -/

namespace Sys2Proof.Machine

/-! ## Gates -/

/-- Gate control of a port. -/
def State.gateOf (s : State) (port : Nat) : GateCtl := Tbl.look GateCtl.reset (s.tm (port / 8)).gates (port % 8)
def State.setGate (s : State) (port : Nat) (g : GateCtl) : State :=
  s.modTm (port / 8) (fun t => { t with gates := Tbl.put GateCtl.reset t.gates (port % 8) g })

/-- Scheduling length of a packet (R356). -/
def State.schedLen (s : State) (port : Nat) (p : TmPkt) : Nat :=
  p.bytes.length + 4 + (((s.tm (port / 8)).node? 0 (port % 8)).map (fun n => n.lenAdjust)).getD 0

/-- A frame of `n` bytes ends within an interval at the port's speed (R364). -/
def Port.fits (p : Port) (n ns : Nat) : Bool := decide (n * 8 ≤ ns * speedGbps p.speed)

/-- The head frame of a leaf may start (R202, R355, R362, R364). -/
def State.mayStart (s : State) (port : Nat) (l : TmLeaf) : Bool :=
  let p := s.port port
  let g := s.gateOf port
  let c := l.tc
  match l.queue with
  | [] => false
  | k :: _ =>
    bit g.gates c && !(bit p.paused c && !bit p.tripped c)
      && (if p.preemptable c then !(p.hold && p.preempt.inEffect.enable) && !p.partialTx.any (fun q => q.cut && !bit g.gates q.tc)
          else match g.untilClose c (s.nsAt (port / 8)) with
            | none => true
            | some ns => decide (p.phase ≠ .up) || p.fits (s.schedLen port k) ns)

/-- When a gate opens, a head frame that its whole opening could not carry is dropped (R365). -/
def State.gateOpened (s : State) (port c : Nat) : State :=
  let die := port / 8
  let p := s.port port
  match (s.gateOf port).untilClose c (s.nsAt die) with
  | none => s
  | some ns =>
    ((s.tm die).leavesBelow 0 (port % 8)).foldl (fun s i =>
      match (s.tm die).leaf? i with
      | some l =>
        (match l.queue with
          | k :: rest =>
            if l.tc = c ∧ p.preemptable c = false ∧ p.fits (s.schedLen port k) ns = false then
              let s := s.modTm die (fun t => t.setLeaf i { l with queue := rest })
              (s.tmStat die 0x28).discardQueued die k
            else s
          | [] => s)
      | none => s) s

/-- A gate closes on the frame on the line (R364, R365): a preemptable frame in progress is preempted, and any other finishes and
is counted in GATE_OVERRUN. -/
def State.gateClosed (s : State) (port c : Nat) : State :=
  let p := s.port port
  let s := if p.partialTx.any (fun q => q.tc == c) then s.preemptTx port else s
  match p.lastWhole with
  | some (k, ends) =>
    if k = c ∧ s.clockAt (port / 8) < ends then
      (s.modPort port (fun p => { p with lastWhole := none })).tmStat (port / 8) 0x30
    else s
  | none => s

/-- Hold after the operations of entries that have begun, in their order (R363). -/
def holdAfter (ops : List Nat) (hold : Bool) : Bool := ops.foldl (fun h op => if op = 1 then true else if op = 2 then false else h) hold

/-- Entries of the running list begin (R361, R363): the gates are those of the last. A hold asserted preempts the frame in progress
(R202). -/
def State.applyEntries (s : State) (port : Nat) (is : List Nat) : State :=
  let g := s.gateOf port
  match g.running.bind (fun l => (is.getLast?).bind (fun i => (l.entries[i]?).map (fun e => (l, i, e.2.1)))) with
  | none => s
  | some (l, i, gates) =>
    let ops := is.filterMap (fun i => (l.entries[i]?).map (fun e => e.1))
    let hold := holdAfter ops g.hold
    let s := s.setGate port
      { g with gates := gates, hold := hold, entry := i, extending := false, cycleNo := l.cycleOf (s.nsAt (port / 8)) }
    let s := s.portStat port 0x228 (ops.filter (fun op => op == 1)).length
    let s := s.modPort port (fun p => { p with hold := hold })
    let s := if ops.contains 1 ∧ (s.port port).preempt.inEffect.enable = true then s.preemptTx port else s
    let s := ((List.range 8).filter (fun c => bit g.gates c && !bit gates c)).foldl (fun s c => s.gateClosed port c) s
    ((List.range 8).filter (fun c => bit gates c && !bit g.gates c)).foldl (fun s c => s.gateOpened port c) s

/-- A pending list takes over with its entry 0 (R367): hold is released unless that entry asserts it. -/
def State.takeOver (s : State) (port : Nat) (n : GateList) : State :=
  let g := s.gateOf port
  let now := s.nsAt (port / 8)
  let s := s.setGate port { g with running := some n, next := none, hold := false, extending := false }
  (s.modPort port (fun p => { p with hold := false })).applyEntries port
    (0 :: n.passed (n.cycleOf n.takeover) 0 (n.cycleOf now) (n.entryAt now))

/-- The gates of a port brought to the present network time (R361, R366–R368). -/
def State.gateRefresh (s : State) (port : Nat) : State :=
  let g := s.gateOf port
  let now := s.nsAt (port / 8)
  let run := fun (s : State) => match g.running with
    | some l =>
      if l.cycleOf now = g.cycleNo ∧ l.entryAt now = g.entry then s
      else s.applyEntries port (l.passed g.cycleNo g.entry (l.cycleOf now) (l.entryAt now))
    | none => s
  match g.next with
  | some n =>
    if n.takeover ≤ now then s.takeOver port n
    else
      match g.running with
      | some l =>
        if l.lastRun n.takeover ≤ now then s.setGate port { g with extending := true } else run s
      | none => s
  | none => run s

/-- GATE_ENTRY_CHANGE (R361, R363, R365). -/
def execGateEntryChange (port : Nat) (s : State) : Host.Outcome State Fault Refusal :=
  .next (if s.live (port / 8) then s.gateRefresh port else s)

/-- GATE_TAKEOVER (R367). -/
def execGateTakeover (port : Nat) (s : State) : Host.Outcome State Fault Refusal :=
  match (s.gateOf port).next with
  | some n =>
    .next (if s.live (port / 8) && decide (n.takeover ≤ s.nsAt (port / 8)) then s.takeOver port n else s)
  | none => .next s

/-! ## Choice (R355) -/

/-- An eligible child at a node: `st` is the state of its shaper, `len` the scheduling length it would send. -/
structure Child where
  id : Nat
  prio : Nat
  st : Nat
  deficit : Nat
  fresh : Bool
  quantum : Nat
  len : Nat
  deriving DecidableEq, Repr

/-- The member that follows a place in cyclic order of indices. -/
def nextMember (set : List Child) (c : Nat) : Nat :=
  match set.find? (fun x => decide (c < x.id)) with
  | some x => x.id
  | none => ((set.head?).map (fun x => x.id)).getD 0

/-- Deficit round robin over a set (R355). -/
def drr (set : List Child) (ptr : Nat) : Nat → Option (Nat × List Child)
  | 0 => none
  | fuel + 1 =>
    let move := fun (set : List Child) =>
      let n := nextMember set ptr
      (n, set.map (fun x => if x.id = n then { x with fresh := true } else x))
    match set.find? (fun x => x.id == ptr) with
    | none =>
      let (n, set) := move set
      drr set n fuel
    | some c =>
      let d := if c.fresh then c.deficit + c.quantum * 64 else c.deficit
      let set := set.map (fun x => if x.id = ptr then { x with deficit := d, fresh := false } else x)
      if c.len ≤ d then some (ptr, set)
      else
        let (n, set) := move set
        drr set n fuel

/-- The choice of a node among its eligible children: committed before excess, then by priority (R355). -/
def chooseChild (children : List Child) (pointers : Tbl Nat) : Option (Nat × Tbl Nat × List Child) :=
  let order := [0, 1].flatMap (fun st => [7, 6, 5, 4, 3, 2, 1, 0].map (fun p => (st, p)))
  order.findSome? (fun (st, p) =>
    let set := children.filter (fun c => c.st == st && c.prio == p)
    if set.isEmpty then none
    else (drr set (Tbl.look 0 pointers p) (400 * (set.length + 1))).map (fun (id, set) => (id, Tbl.put 0 pointers p id, set)))

/-- The children's deficits and pointer of a node written back. -/
def Tm.putChoice (t : Tm) (level index : Nat) (ptrs : Tbl Nat) (set : List Child) : Tm :=
  let t := match t.node? level index with
    | some n => t.setNode level index { n with pointers := ptrs }
    | none => t
  set.foldl (fun t c =>
    if level = 2 then
      match t.leaf? c.id with
      | some l => t.setLeaf c.id { l with deficit := c.deficit, fresh := c.fresh }
      | none => t
    else
      match t.node? (level + 1) c.id with
      | some n => t.setNode (level + 1) c.id { n with deficit := c.deficit, fresh := c.fresh }
      | none => t) t

/-- The leaf a level-2 node would send from, with the packet's length, and the tree after the choice. -/
def State.chooseLeaf (s : State) (port : Nat) (t : Tm) (l2 : Nat) : Option (Nat × Nat × Tm) :=
  let now := s.clockAt (port / 8)
  let kids := (t.leavesOf l2).filterMap (fun i =>
    match t.leaf? i with
    | some l =>
      let st := (l.shaper.at now).state
      (match l.queue with
        | k :: _ =>
          if st ≠ 2 ∧ s.mayStart port l then
            some { id := i, prio := l.prio, st := st, deficit := l.deficit, fresh := l.fresh, quantum := l.quantum,
                   len := s.schedLen port k }
          else none
        | [] => none)
    | none => none)
  match t.node? 2 l2 with
  | none => none
  | some n => (chooseChild kids n.pointers).map (fun (id, ptrs, set) =>
      (id, ((kids.find? (fun c => c.id == id)).map (fun c => c.len)).getD 0, t.putChoice 2 l2 ptrs set))

/-- The same for a level-1 node and for the port node: `down` chooses below a child. -/
def State.chooseNode (s : State) (port level : Nat) (t : Tm) (index : Nat) (down : Tm → Nat → Option (Nat × Nat × Tm)) :
    Option (Nat × Nat × Tm) :=
  let now := s.clockAt (port / 8)
  let kids := (t.below (level + 1) index).filterMap (fun i =>
    match t.node? (level + 1) i, down t i with
    | some n, some (_, len, _) =>
      let st := (n.shaper.at now).state
      if st ≠ 2 then
        some { id := i, prio := n.prio, st := st, deficit := n.deficit, fresh := n.fresh, quantum := n.quantum, len := len }
      else none
    | _, _ => none)
  match t.node? level index with
  | none => none
  | some n =>
    (chooseChild kids n.pointers).bind (fun (id, ptrs, set) => down (t.putChoice level index ptrs set) id)

/-- The leaf a port sends from next (R355): a BLOCKED port node starts no packet (R358). -/
def State.choosePort (s : State) (port : Nat) : Option (Nat × Nat × Tm) :=
  let t := s.tm (port / 8)
  match t.node? 0 (port % 8) with
  | none => none
  | some n =>
    if (n.shaper.at (s.clockAt (port / 8))).state = 2 then none
    else s.chooseNode port 0 t (port % 8) (fun t l1 => s.chooseNode port 1 t l1 (fun t l2 => s.chooseLeaf port t l2))

/-- A started packet is charged to every shaper and deficit of its path; a child with no packet left loses its deficit
(R355, R357). -/
def State.chargePath (s : State) (die : Nat) (t : Tm) (leaf len : Nat) : Tm :=
  let now := s.clockAt die
  match t.leaf? leaf with
  | none => t
  | some l =>
    let rest := l.queue.drop 1
    let t := t.setLeaf leaf
      { l with queue := rest, shaper := (l.shaper.at now).charge len,
               deficit := if rest.isEmpty then 0 else l.deficit - len, fresh := l.fresh || rest.isEmpty }
    let step := fun (t : Tm) (level index : Nat) => match t.node? level index with
      | some n =>
        let dry := (t.leavesBelow level index).all (fun i => ((t.leaf? i).map (fun l => l.queue.isEmpty)).getD true)
        t.setNode level index
          { n with shaper := (n.shaper.at now).charge len, deficit := if dry then 0 else n.deficit - len,
                   fresh := n.fresh || dry }
      | none => t
    let l1 := ((t.node? 2 l.parent).map (fun n => n.parent)).getD 0
    let p := ((t.node? 1 l1).map (fun n => n.parent)).getD 0
    step (step (step t 2 l.parent) 1 l1) 0 p

/-- SCHEDULE (R355): the MAC can accept a frame, and the head packet of the leaf chosen starts. The choice is by the settings
that take effect at that start (R199, R204). With no frame to start, the preemptable frame in progress is sent to its end, unless
hold or its closed gate keeps it preempted (R202, R364). The gates are those of the present network time (R361). -/
def execSchedule (port : Nat) (s : State) : Host.Outcome State Fault Refusal :=
  let die := port / 8
  if s.live die && (s.port port).present then
    let s := s.gateRefresh port
    let next := s.modPort port Port.txSafe
    match next.choosePort port with
    | none =>
      let p := s.port port
      let kept := p.partialTx.any (fun q =>
        q.cut && ((p.hold && p.preempt.inEffect.enable) || !bit (s.gateOf port).gates q.tc))
      .next (if kept then s else s.finishTx port)
    | some (leaf, len, t) =>
      match (t.leaf? leaf).bind (fun l => l.queue.head?) with
      | none => .next s
      | some k =>
        let s := s.setTm die (next.chargePath die t leaf len)
        let s := s.transmit port k
        .next (if k.homeHere die then s.refreshBudget k.sourceId else s)
  else .next s

/-- TM_ENQUEUE (R346): a packet for a port reaches its die's traffic manager. Cells it does not hold yet are taken first
(log 24). `leaf` is TM_LEAF. -/
def execTmEnqueue (die leaf : Nat) (pkt : TmPkt) (s : State) : Host.Outcome State Fault Refusal :=
  if s.live die then
    let lack := pkt.cells - (s.tm die).pipeline
    let s := s.takeCells die lack
    let dest := 2 * 2 ^ 28 + destPort pkt.dest * 2 ^ 22 + leaf % 65536
    .next (s.tmEnqueue die { pkt with dest := dest, tc := pkt.tc % 8, ingressClass := pkt.ingressClass % 8 })
  else .next s

end Sys2Proof.Machine
end

