-- ==== Sys2Proof/Machine/TmCmds.lean ====
section
/-! DEFINITION. Commands of the traffic manager (spec/10 R366, R369–R371). The transactional ones give their part;
their meanings are in `Machine/TxnOps.lean`. -/

namespace Sys2Proof.Machine

/-- Rates that SHAPER_SET refuses (R358). -/
def badRates (cir cbs pir pbs : Nat) : Bool :=
  decide (800000000 < cir) || decide (800000000 < pir) || (pir != 0 && decide (pir < cir))
    || (cir != 0 && decide (cbs < 64)) || (pir != 0 && decide (pbs < 64))

/-- Bytes of a bucket of a rate profile (R370): the rate for 100 µs, at least 9,600. -/
def profileBucket (rate : Nat) : Nat := max 9600 (rate / 80)

/-- The shaper of a rate profile (R370). -/
def profileShaper (cir pir now : Nat) : Shaper :=
  Shaper.start true cir (profileBucket cir) pir (profileBucket pir) false now

/-- The lowest `n` free keys from `first` on, below `limit`. -/
def freeKeys {α : Type} (t : Tbl α) (first limit : Nat) : Nat → List Nat
  | 0 => []
  | n + 1 =>
    match Tbl.firstFree t first (limit - first) with
    | some k => k :: freeKeys t (k + 1) limit n
    | none => []

/-! ## RATE_PROFILE_SET -/

/-- A profile removed with its queued packets (R370). -/
def State.removeProfile (s : State) (die : Nat) (r : RateProfile) : State :=
  let s := r.leaves.foldl (fun s i => s.flushLeaf die i none) s
  s.modTm die (fun t =>
    { t with leaves := t.leaves.filter (fun (k, _) => !r.leaves.contains k), nodes := Tbl.del t.nodes (nodeKey 2 r.node),
             profiles := t.profiles.filter (fun x => !(x.fn == r.fn && x.port == r.port)) })

/-- A new profile below level-1 node p of its port (R370). -/
def State.addProfile (s : State) (port fn cir pir : Nat) : Option (State × Nat) :=
  let die := port / 8
  let p := port % 8
  let t := s.tm die
  match (Tbl.firstFree t.nodes (nodeKey 2 8) (8192 - 8)).map (fun k => k - nodeKey 2 0) with
  | none => none
  | some i =>
    let ls := freeKeys t.leaves 64 65535 8
    if ls.length < 8 ∨ (t.node? 1 p).isNone then none
    else
      let node := { defaultNode p 0 with shaper := profileShaper cir pir (s.clockAt die), profile := true }
      let t := t.setNode 2 i node
      let t := ls.zipIdx.foldl (fun (t : Tm) (k, c) => t.setLeaf k (defaultLeaf i c true)) t
      let t := { t with profiles := t.profiles ++ [{ fn := fn, port := port, node := i, leaves := ls }] }
      some (s.setTm die t, i)

/-- RATE_PROFILE_SET (R369, R370). -/
def partRateProfile (p : Packet) (s : State) : PartResult :=
  let b := p.params
  let fn := leAt b 0 3
  let op := leAt b 3 1
  let port := leAt b 4 1
  let cir := leAt b 8 4
  let pir := leAt b 0x0C 4
  let budget := leAt b 0x10 4
  if p.paramLen ≠ 24 ∨ 1 < op ∨ leAt b 5 3 ≠ 0 ∨ leAt b 0x14 4 ≠ 0 ∨ (op = 1 ∧ !allZero (sub b 8 12)) ∨ mClass fn ≠ 0
    ∨ 1 < fnPf fn then .error stBadParam
  else match (s.portStatusOf port).or (s.dieStatus (mDie fn)) with
    | some st => .error st
    | none =>
      if badRates cir (profileBucket cir) pir (profileBucket pir) || (budget != 0 && (decide (budget < 64) || decide (196608 < budget)))
      then .error stBadParam
      else if (s.func fn).provisioned = false then .error stNotFound
      else
        let die := port / 8
        let old := (s.tm die).profiles.find? (fun r => r.fn == fn && r.port == port)
        let fund := fun (s : State) => if budget = 0 then s else s.setBudget fn budget
        match op, old with
        | 1, none => .error stNotFound
        | 1, some r => .ok (s.removeProfile die r, toLe 4 r.node)
        | _, some r =>
          let now := s.clockAt die
          let s := s.modTm die (fun t => match t.node? 2 r.node with
            | some n => t.setNode 2 r.node { n with shaper := profileShaper cir pir now }
            | none => t)
          .ok (fund s, toLe 4 r.node)
        | _, none =>
          match s.addProfile port fn cir pir with
          | none => .error stNoResource
          | some (s, i) => .ok (fund s, toLe 4 i)

def objsRateProfile (p : Packet) (s : State) : List Nat :=
  let port := leAt p.params 4 1
  match (s.tm (port / 8)).profiles.find? (fun r => r.fn == leAt p.params 0 3 && r.port == port) with
  | some r => [objKey objProfile (port / 8) (sub p.params 0 3 ++ sub p.params 4 1), objKey objShaper (port / 8) (toLe 4 r.node ++ [2])]
  | none => [objKey objProfile (port / 8) (sub p.params 0 3 ++ sub p.params 4 1)]

/-! ## TM_NODE_SET -/

/-- A node that a default tree owns. -/
def isDefault (level index : Nat) : Bool := if level = 3 then decide (index < 64) else decide (index < 8)

/-- Indices of a level (Table 10.1). -/
def levelSize (level : Nat) : Nat := if level = 0 then 8 else if level = 1 then 1024 else if level = 2 then 8192 else 65535

/-- A PARENT for a node of a level: the failing status (R371). `old` is the node's present port. -/
def Tm.badParent (t : Tm) (level parent : Nat) (old : Option Nat) : Option Nat :=
  if levelSize (level - 1) ≤ parent then some stBadParam
  else if (t.node? (level - 1) parent).isNone then some stNotFound
  else match old with
    | some q => if t.portOf (level - 1) parent ≠ some q then some stBadParam else none
    | none => none

/-- A set of a node of levels 0–2 (R371). -/
def State.setTmNode (s : State) (die level index : Nat) (b : List Byte) : PartResult :=
  let t := s.tm die
  let prio := leAt b 8 1
  let quantum := leAt b 0x0A 2
  let parent := leAt b 0x0C 4
  let adj := leAt b 0x10 1
  match t.node? level index with
  | some n =>
    if n.profile then .error stNotPermitted
    else if level = 0 then
      if 63 < adj then .error stBadParam else .ok (s.setTm die (t.setNode 0 index { n with lenAdjust := adj }), [])
    else if 7 < prio ∨ quantum = 0 ∨ adj ≠ 0 then .error stBadParam
    else match t.badParent level parent (t.portOf level index) with
      | some st => .error st
      | none =>
        let moved := decide (n.parent ≠ parent) || decide (n.quantum ≠ quantum)
        .ok (s.setTm die (t.setNode level index
          { n with prio := prio, quantum := quantum, parent := parent, deficit := if moved then 0 else n.deficit }), [])
  | none =>
    if level = 0 then .error stNotFound
    else if isDefault level index ∨ 7 < prio ∨ quantum = 0 ∨ adj ≠ 0 then .error stBadParam
    else match t.badParent level parent none with
      | some st => .error st
      | none =>
        .ok (s.setTm die (t.setNode level index
          { defaultNode parent 0 with prio := prio, quantum := quantum, shaper := { Shaper.reset with last := s.clockAt die } }), [])

/-- A set of a leaf (R371). -/
def State.setTmLeaf (s : State) (die index : Nat) (b : List Byte) : PartResult :=
  let t := s.tm die
  let prio := leAt b 8 1
  let tc := leAt b 9 1
  let quantum := leAt b 0x0A 2
  let parent := leAt b 0x0C 4
  let maxCells := leAt b 0x10 4
  let alpha := leAt b 0x14 1
  let drop := leAt b 0x18 4
  if 7 < prio ∨ 7 < tc ∨ quantum = 0 ∨ maxCells = 0 ∨ 196608 < maxCells ∨ 7 < alpha
    ∨ (4194304 ≤ drop ∧ drop ≠ 0xFFFFFFFF) then .error stBadParam
  else
    let set := fun (l : TmLeaf) => { l with
      prio := prio, tc := tc, quantum := quantum, parent := parent, maxCells := maxCells, alpha := alpha,
      dropCounter := if drop = 0xFFFFFFFF then none else some drop }
    match t.leaf? index with
    | some l =>
      if l.profile then .error stNotPermitted
      else match t.badParent 3 parent (t.portOf 3 index) with
        | some st => .error st
        | none =>
          let moved := decide (l.parent ≠ parent) || decide (l.quantum ≠ quantum)
          .ok (s.setTm die (t.setLeaf index { set l with deficit := if moved then 0 else l.deficit }), [])
    | none =>
      if isDefault 3 index then .error stBadParam
      else match t.badParent 3 parent none with
        | some st => .error st
        | none =>
          .ok (s.setTm die (t.setLeaf index
            { set (defaultLeaf parent tc false) with shaper := { Shaper.reset with last := s.clockAt die } }), [])

/-- A delete of a node or leaf (R371). -/
def State.deleteTmNode (s : State) (die level index : Nat) : PartResult :=
  let t := s.tm die
  if level = 0 ∨ isDefault level index then .error stBadParam
  else if level = 3 then
    match t.leaf? index with
    | none => .error stNotFound
    | some l =>
      if l.profile then .error stNotPermitted
      else .ok ((s.flushLeaf die index none).modTm die (fun t => { t with leaves := Tbl.del t.leaves index }), [])
  else
    match t.node? level index with
    | none => .error stNotFound
    | some n =>
      if n.profile then .error stNotPermitted
      else if !(if level = 1 then t.below 2 index else t.leavesOf index).isEmpty then .error stWrongState
      else .ok (s.modTm die (fun t => { t with nodes := Tbl.del t.nodes (nodeKey level index) }), [])

/-- Pause requests of every ingress count of a die brought up to date after a class record changed (R353). -/
def State.recheckClass (s : State) (die c : Nat) : State :=
  (List.range 16).foldl (fun s i => s.pauseCheck die (8 * i + c)) s

/-- A set of a class record (R371). -/
def State.setTmClass (s : State) (die c : Nat) (b : List Byte) : PartResult :=
  let r : TmClass :=
    { lossless := bit (leAt b 8 1) 0, xoff := leAt b 0x0C 4, xon := leAt b 0x10 4, headroom := leAt b 0x14 4,
      fabricMax := leAt b 0x18 4 }
  if 1 < leAt b 8 1 ∨ r.xoff ≤ r.xon then .error stBadParam
  else
    let s := s.modTm die (fun t => { t with classes := Tbl.put TmClass.reset t.classes c r })
    .ok (s.recheckClass die c, [])

/-- TM_NODE_SET (R369, R371). Bytes that the object's form does not use must be zero. -/
def partTmNode (p : Packet) (s : State) : PartResult :=
  let b := p.params
  let die := leAt b 0 1
  let obj := leAt b 1 1
  let op := leAt b 2 1
  let level := leAt b 3 1
  let index := leAt b 4 4
  if p.paramLen ≠ 32 ∨ 2 < obj ∨ 1 < op then .error stBadParam
  else match s.dieStatus die with
    | some st => .error st
    | none =>
      let unused :=
        if op = 1 then sub b 8 24
        else if obj = 0 then sub b 9 1 ++ sub b 0x11 15
        else if obj = 1 then sub b 0x15 3 ++ sub b 0x1C 4
        else sub b 9 3 ++ sub b 0x1C 4
      if !allZero unused ∨ (obj ≠ 0 ∧ level ≠ 0) ∨ 2 < level then .error stBadParam
      else if obj = 2 then
        if 7 < index ∨ op = 1 then .error stBadParam else s.setTmClass die index b
      else
        let lv := if obj = 1 then 3 else level
        if levelSize lv ≤ index then .error stBadParam
        else if op = 1 then s.deleteTmNode die lv index
        else if obj = 1 then s.setTmLeaf die index b
        else s.setTmNode die level index b

def objsTmNode (p : Packet) (_ : State) : List Nat :=
  let b := p.params
  let kind := if leAt b 1 1 = 0 then objNode else if leAt b 1 1 = 1 then objLeaf else objClass
  [objKey kind (leAt b 0 1) (sub b 3 5)]

/-! ## SHAPER_SET -/

/-- SHAPER_SET (R358, R359, R369). -/
def partShaper (p : Packet) (s : State) : PartResult :=
  let b := p.params
  let die := leAt b 0 1
  let level := leAt b 1 1
  let fl := leAt b 2 1
  let index := leAt b 4 4
  let cir := leAt b 8 4
  let cbs := leAt b 0x0C 4
  let pir := leAt b 0x10 4
  let pbs := leAt b 0x14 4
  if p.paramLen ≠ 24 ∨ 3 < level ∨ 4 ≤ fl ∨ leAt b 3 1 ≠ 0 then .error stBadParam
  else match s.dieStatus die with
    | some st => .error st
    | none =>
      if badRates cir cbs pir pbs then .error stBadParam
      else
        let t := s.tm die
        let h := Shaper.start (bit fl 0) cir cbs pir pbs (bit fl 1) (s.clockAt die)
        if level = 3 then
          match t.leaf? index with
          | none => .error stNotFound
          | some l => .ok (s.setTm die (t.setLeaf index { l with shaper := h }), [])
        else if levelSize level ≤ index then .error stNotFound
        else
          match t.node? level index with
          | none => .error stNotFound
          | some n => .ok (s.setTm die (t.setNode level index { n with shaper := h }), [])

def objsShaper (p : Packet) (_ : State) : List Nat :=
  [objKey objShaper (leAt p.params 0 1) (sub p.params 4 4 ++ sub p.params 1 1)]

/-! ## TM_QUERY and GATE_LIST_SET -/

/-- Whole bytes of a bucket, as a 32-bit field. -/
def wholeBytes (tokens : Int) : Nat := unsigned 32 (tokens / (byteUnits : Int))

/-- TM_QUERY's answer (Table 10.6). -/
def runTmQuery (p : Packet) (s : State) : Answer :=
  let b := p.params
  let die := leAt b 0 1
  let level := leAt b 1 1
  let index := leAt b 4 4
  if p.paramLen ≠ 8 ∨ 3 < level ∨ leAt b 2 2 ≠ 0 then s.fails stBadParam
  else match s.dieStatus die with
    | some st => s.fails st
    | none =>
      let t := s.tm die
      let found : Option (Shaper × Nat × Nat × Nat × Bool) :=
        if level = 3 then (t.leaf? index).map (fun l => (l.shaper, l.deficit, l.prio, l.tc, l.profile))
        else if levelSize level ≤ index then none
        else (t.node? level index).map (fun n => (n.shaper, n.deficit, n.prio, 0, n.profile))
      match found with
      | none => s.fails stNotFound
      | some (h, deficit, prio, tc, prof) =>
        let h := h.at (s.clockAt die)
        let ls := (t.leavesBelow level index).filterMap t.leaf?
        s.answers (toLe 4 (ls.map TmLeaf.cells).sum ++ toLe 4 (ls.map (fun l => l.queue.length)).sum
          ++ toLe 4 (wholeBytes h.tokensC) ++ toLe 4 (wholeBytes h.tokensP) ++ toLe 4 deficit ++ toLe 1 h.state ++ toLe 1 prio
          ++ toLe 1 tc ++ toLe 1 (b2n h.enable + 2 * b2n prof + 4 * b2n (isDefault level index)) ++ toLe 4 h.cir ++ toLe 4 h.pir)

/-- TM_QUERY (R369). -/
def execTmQuery (p : Packet) (s : State) : Host.Outcome State Fault Refusal := runPlain 0x0502 p runTmQuery s

/-- TAKEOVER of a new list decided at a time (R366). -/
def takeoverAt (base cycle decided : Nat) : Nat :=
  let e := decided + 50000
  if e ≤ base then base else base + max 1 (ceilDiv (e - base) (max 1 cycle)) * cycle

/-- The list is removed: every gate opens and hold is released (R366). -/
def State.removeGates (s : State) (port : Nat) : State :=
  (s.setGate port GateCtl.reset).modPort port (fun p => { p with hold := false })

/-- GATE_LIST_SET's answer (R366, Table 10.5). -/
def runGateListSet (p : Packet) (s : State) : Answer :=
  let b := p.params
  let port := leAt b 0 1
  let on := bit (leAt b 1 1) 0
  let n := leAt b 2 2
  let base := leAt b 8 8
  let cycle := leAt b 0x10 4
  let ext := leAt b 0x14 4
  let es := (List.range n).map (fun k =>
    (leAt b (0x18 + 8 * k) 1, leAt b (0x19 + 8 * k) 1, leAt b (0x1C + 8 * k) 4))
  if p.paramLen ≠ 24 + 8 * n ∨ 2 ≤ leAt b 1 1 ∨ leAt b 4 4 ≠ 0 then s.fails stBadParam
  else match s.portStatusOf port with
    | some st => s.fails st
    | none =>
      if on then
        if n = 0 ∨ 1024 < n ∨ cycle < 1000 ∨ 1000000000 < cycle ∨ cycle < ext
          ∨ es.any (fun (op, _, i) => decide (2 < op) || decide (i < 10) || decide (1000000000 < i))
          ∨ (List.range n).any (fun k => decide (leAt b (0x1A + 8 * k) 2 ≠ 0)) then s.fails stBadParam
        else
          let at_ := takeoverAt base cycle (s.nsAt s.roles.lead)
          let l : GateList := { base := base, cycle := cycle, extension := ext, entries := es, takeover := at_ }
          (s.setGate port { s.gateOf port with next := some l }).answers (toLe 8 at_)
      else if n ≠ 0 ∨ base ≠ 0 ∨ cycle ≠ 0 ∨ ext ≠ 0 then s.fails stBadParam
      else (s.removeGates port).answers (toLe 8 0)

/-- GATE_LIST_SET (R366). -/
def execGateListSet (p : Packet) (s : State) : Host.Outcome State Fault Refusal := runPlain 0x8503 p runGateListSet s

end Sys2Proof.Machine
end

