-- ==== Sys2Proof/Machine/Tables.lean ====
section
/-! DEFINITION. Table commands and data-plane writes of tables (spec/07 R235–R263): table rows 109–113 and the parts of rows
136–138. -/

namespace Sys2Proof.Machine

/-! ## Entry parameter blocks (Table 07.13) -/

/-- Round up to a multiple of 4. -/
def pad4 (n : Nat) : Nat := (n + 3) / 4 * 4

/-- What an entry command asks for. -/
structure EntrySpec where
  decl : TableDecl
  dies : Nat
  key : List Byte
  mask : List Byte
  prefixLen : Nat
  priority : Nat
  action : Nat
  params : List Byte
  pinned : Bool
  replace : Bool
  at_ : Option Nat
  /-- The transaction that makes the change, 0 for a single command, none for a write that is no command's. -/
  txn : Option Nat
  deriving DecidableEq, Repr

/-- The least parameter length of an entry number in a table of the standard program, none where the table does not take
it (Table 08.11). -/
def stdLayout (table action : Nat) : Option Nat :=
  match table, action with
  | 1, 2 => some 8
  | 1, 6 => some 12
  | 2, 3 => some 4
  | 2, 4 => some 4
  | 2, 5 => some 8
  | 3, 7 => some 2
  | 3, 8 => some 8
  | 4, 9 => some 2
  | 4, 10 => some 2
  | 4, 11 => some 2
  | 5, 2 => some 4
  | 6, 2 => some 10
  | 7, 14 => some 12
  | 8, 12 => some 2
  | 9, 12 => some 2
  | 10, 13 => some 14
  | 11, 13 => some 14
  | _, _ => none

/-- An entry number is defined in a bank (R273). -/
def Bank.defines (b : Bank) (action : Nat) : Bool :=
  if b.standard then decide (action ≤ 14) else decide (action < 4096) && decide (Tbl.look 0 b.entryTable action ≠ 0)

/-- ACTION and PARAM_BYTES fit a table (R241, R242, R250, R273, R301, Table 07.12). -/
def Bank.paramsFit (b : Bank) (d : TableDecl) (action n : Nat) : Bool :=
  decide (action < 4096) && b.defines action
    && (!b.standard || (match stdLayout d.table action with
      | some m => decide (m ≤ n)
      | none => false))
    && (match d.kind with
      | .exact => decide (d.keyLen + n ≤ d.entrySize - 12)
      | .flow => decide (d.keyLen + n ≤ 116)
      | .lpm4 | .lpm6 => decide (n = 2)
      | .tcam => decide (n ≤ 16))

def TableKind.isLpm : TableKind → Bool
  | .lpm4 => true
  | .lpm6 => true
  | _ => false

/-- A longest-prefix key is in range (R250). -/
def lpmBad (d : TableDecl) (key : List Byte) (len : Nat) : Bool :=
  d.kind.isLpm && (decide (4096 ≤ leAt key 0 2) || decide (8 * (d.keyLen - 2) < len))

/-- The block of an entry command (Table 07.13): 0 insert, 1 delete, 2 modify. A table that the bank in force does not
declare is a bad parameter (log 32). -/
def parseEntry (cmd : Nat) (p : Packet) (s : State) : Except Nat EntrySpec :=
  let b := p.params
  let bank := s.bankOf s.tempo.bank
  match bank.table? (s.dramOf s.roles.lead) (leAt b 0 1) with
  | none => .error stBadParam
  | some d =>
    let fl := leAt b 2 1
    let kl := pad4 d.keyLen
    let tcam := decide (d.kind = .tcam)
    let n := leAt b 6 1
    let o := 0x10 + (if tcam then 2 * kl else kl)
    let key := sub b 0x10 d.keyLen
    let mask := if tcam then sub b (0x10 + kl) d.keyLen else []
    let len := leAt b 7 1
    let prio := leAt b 8 2
    let addr := leAt b 0x0A 2
    let action := leAt b 4 2
    let at_ := bit fl 1
    let padding := sub b (0x10 + d.keyLen) (kl - d.keyLen) ++ (if tcam then sub b (0x10 + kl + d.keyLen) (kl - d.keyLen) else [])
      ++ sub b (o + n) (pad4 n - n)
    if p.paramLen ≠ o + pad4 n ∨ leAt b 3 1 ≠ d.keyLen ∨ 8 ≤ fl ∨ leAt b 0x0C 4 ≠ 0 ∨ !allZero padding
      ∨ (bit fl 0 ∧ (d.kind ≠ .flow ∨ cmd = 1)) ∨ (at_ ∧ (!tcam ∨ cmd ≠ 2)) ∨ (bit fl 2 ∧ cmd ≠ 2)
      ∨ (len ≠ 0 ∧ !d.kind.isLpm) ∨ (prio ≠ 0 ∧ (!tcam ∨ cmd = 1)) ∨ (addr ≠ 0 ∧ !at_) ∨ lpmBad d key len
      ∨ (cmd = 1 ∧ (action ≠ 0 ∨ n ≠ 0)) ∨ (cmd ≠ 1 ∧ !bank.paramsFit d action n)
      ∨ (at_ ∧ (addr < 1024 * d.capacity ∨ 1024 * (d.capacity + d.blocks) ≤ addr)) then .error stBadParam
    else
      match s.diesStatus (leAt b 1 1) with
      | some st => .error st
      | none =>
        .ok { decl := d, dies := leAt b 1 1, key := if d.kind.isLpm then maskPrefix key len else key, mask := mask,
              prefixLen := len, priority := prio, action := action, params := sub b o n, pinned := bit fl 0,
              replace := bit fl 2, at_ := if at_ then some addr else none, txn := some p.txn }

/-! ## Places -/

/-- The same entry: key, with mask or prefix length (R238). -/
def TEntry.same (e : TEntry) (x : EntrySpec) : Bool :=
  e.table == x.decl.table && e.key == x.key && (x.decl.kind != .tcam || e.mask == x.mask)
    && (!x.decl.kind.isLpm || e.prefixLen == x.prefixLen)

/-- The visible entries a command names: a TCAM may hold several of one key and mask where the data plane wrote them. -/
def Pipe.named (p : Pipe) (x : EntrySpec) (tempo : Nat) : List TEntry :=
  p.entries.filter (fun e => e.same x && e.visible tempo)

/-- Commands that hold places reserved for them (R321): those staged in live transactions and the single one whose commit is in
progress, without those of `me`. -/
def State.stagedBut (s : State) (me : Option Nat) : List StagedCmd :=
  let txns := (s.tempo.txns.filter (fun (n, t) => t.state.live && me != some n)).flatMap (fun e => e.2.staged)
  match s.tempo.inProgress.bind (fun c => c.single) with
  | some c => if me = some 0 then txns else txns ++ [c]
  | none => txns

/-- A staged command puts an entry into a table of a die. -/
def State.putsInto (s : State) (die table : Nat) (c : StagedCmd) : Bool :=
  let b := c.packet.params
  let entry := c.packet.opcode == 0x0401 || c.packet.opcode == 0x8401
  let steer := c.packet.opcode == 0x0404 && leAt b 2 1 == 0
  (s.namedDies (leAt b 1 1)).contains die
    && ((entry && leAt b 0 1 == table) || (steer && ((leAt b 0 1 == 0 && table == 6) || (leAt b 0 1 == 1 && table == 1))))

/-- How many places of a table of a die are reserved, and the TCAM addresses among them (R239, R321). -/
def State.reservedCount (s : State) (me : Option Nat) (die table : Nat) : Nat :=
  ((s.stagedBut me).filter (s.putsInto die table)).length
def State.reserved (s : State) (me : Option Nat) (die table : Nat) : List Nat :=
  ((s.stagedBut me).filter (s.putsInto die table)).filterMap (fun c => c.handle)

/-- Places of a pool in use: those of one table, or of every longest-prefix table of the die. -/
def Pipe.placesOf (p : Pipe) (tables : List Nat) : List Nat :=
  (p.entries.filter (fun e => tables.contains e.table)).map (fun e => e.place)

/-- The lowest number from `n` on that is not in a list. -/
def lowestFree (used : List Nat) (n : Nat) : Nat → Option Nat
  | 0 => none
  | fuel + 1 => if used.contains n then lowestFree used (n + 1) fuel else some n

/-- Longest-prefix tables of both banks. -/
def State.lpmTables (s : State) : List TableDecl :=
  ((s.bankOf 0).tables 64 ++ (s.bankOf 1).tables 64).filter (fun d => d.kind.isLpm)

/-- What prefixes of a die take of the pool (R251): prefixes not retired. -/
def State.poolUse (s : State) (die : Nat) : Nat :=
  let ts := s.lpmTables
  (((s.pipe die).entries.filter (fun e => e.retired.isNone)).map (fun e =>
    match ts.find? (fun d => d.table == e.table) with
    | some d => if d.kind = .lpm4 then 5 else 10
    | none => 0)).sum

/-- The place of a new flow entry (R243): its primary slot, else its secondary, else the next free slot (log 26). -/
def Pipe.flowPlace (p : Pipe) (gib table : Nat) (key : List Byte) : Nat :=
  let n := flowSlots gib
  let used := p.placesOf [table]
  let a := flowPrimary n table key
  let b := flowSecondary n table key
  if !used.contains a then a
  else if !used.contains b then b
  else ((lowestFree used (b + 1) (used.length + 1)).getD 0) % n

/-- Pinned entries of a cache set (R249). -/
def Pipe.pinnedIn (p : Pipe) (table : Nat) (key : List Byte) : Nat :=
  (p.entries.filter (fun e => e.table == table && e.pinned && e.retired.isNone
    && cacheSet table e.key == cacheSet table key)).length

/-- A declaration as it stands on a die: the size of a flow region follows the die's DRAM (R266, R621). -/
def State.declOn (s : State) (die : Nat) (d : TableDecl) : TableDecl :=
  if d.kind = .flow then ((s.bankOf s.tempo.bank).table? (s.dramOf die) d.table).getD d else d

/-- What prefixes reserved by staged changes will take of the pool (R251). -/
def State.poolReserved (s : State) (me : Option Nat) (die : Nat) : Nat :=
  (s.lpmTables.eraseDups.map (fun d => s.reservedCount me die d.table * (if d.kind = .lpm4 then 5 else 10))).sum

/-- The place of a new entry on a die, or the failing status (R239, R241, R242, R249, R251, R255). Places reserved by others count
as used. -/
def State.placeFor (s : State) (die : Nat) (x : EntrySpec) (tcam : Nat) : Except Nat Nat :=
  let p := s.pipe die
  let d := s.declOn die x.decl
  let used := p.placesOf [d.table]
  let taken := used.length + s.reservedCount x.txn die d.table
  match d.kind with
  | .exact => if d.capacity ≤ taken then .error stNoResource
    else .ok ((lowestFree used 0 (used.length + 1)).getD 0)
  | .flow =>
    if 8 * taken ≥ 7 * flowSlots d.capacity ∨ (x.pinned ∧ 2 ≤ p.pinnedIn d.table x.key) then .error stNoResource
    else .ok (p.flowPlace d.capacity d.table x.key)
  | .lpm4 | .lpm6 =>
    let ls := p.placesOf (s.lpmTables.map (fun d => d.table))
    if 10485760 < s.poolUse die + s.poolReserved x.txn die + (if d.kind = .lpm4 then 5 else 10) then .error stNoResource
    else .ok ((lowestFree ls 0 (ls.length + 1)).getD 0)
  | .tcam => .ok tcam

/-! ## Changes at a tempo -/

/-- A root version of a longest-prefix table is replaced at a tempo (R252). -/
def Pipe.newRoot (p : Pipe) (d : TableDecl) (tempo : Nat) : Pipe :=
  if d.kind.isLpm && !p.roots.contains (d.table, tempo) then { p with roots := p.roots ++ [(d.table, tempo)] } else p

/-- The flow cache follows a change of a key (R244). -/
def Pipe.follow (p : Pipe) (d : TableDecl) (key : List Byte) (pinned : Bool) : Pipe :=
  if d.kind = .flow then p.wrote d.table key pinned else p

/-- An entry retired at a tempo; pinning ends with it (R249). An entry born at that very tempo leaves no version. -/
def Pipe.retire (p : Pipe) (d : TableDecl) (e : TEntry) (tempo : Nat) : Pipe :=
  let es := if e.born = tempo ∧ !e.dataPlane then p.entries.filter (fun x => x != e)
    else p.entries.map (fun x => if x = e then { x with retired := some tempo } else x)
  let p := { p with entries := es }
  let unpin := fun (x : Nat × CacheWay) =>
    if x.2.table = d.table ∧ x.2.key = e.key then (x.1, { x.2 with pinned := false }) else x
  let p := { p with cache := p.cache.map unpin }
  (p.newRoot d tempo).follow d e.key false

/-- A new version of an entry. -/
def Pipe.addEntry (p : Pipe) (x : EntrySpec) (place tempo : Nat) (dataPlane : Bool) : Pipe :=
  let e : TEntry :=
    { table := x.decl.table, key := x.key, mask := x.mask, prefixLen := x.prefixLen, priority := x.priority, place := place,
      born := tempo, retired := none, action := x.action, dataPlane := dataPlane, pinned := x.pinned, params := x.params }
  (({ p with entries := p.entries ++ [e] }).newRoot x.decl tempo).follow x.decl x.key x.pinned

/-- Entries of a die retired at a tempo. -/
def State.retireAll (s : State) (die : Nat) (d : TableDecl) (es : List TEntry) (tempo : Nat) : State :=
  es.foldl (fun s e => s.modPipe die (fun p => p.retire d e tempo)) s

/-- One insert on one die at a tempo (R238): data-plane entries of the key are retired. -/
def State.insertOn (s : State) (die : Nat) (x : EntrySpec) (tcam tempo : Nat) : Except Nat State :=
  let old := (s.pipe die).named x tempo
  if old.any (fun e => !e.dataPlane) then .error stExists
  else
    let s := s.retireAll die x.decl old tempo
    (s.placeFor die x tcam).map (fun n => s.modPipe die (fun p => p.addEntry x n tempo false))

/-- One replacement on one die (R262): the place of the new version is found while the old one holds its own (R239). -/
def State.replaceOn (s : State) (die : Nat) (x : EntrySpec) (tcam tempo : Nat) : Except Nat State :=
  let old := (s.pipe die).named x tempo
  if old.isEmpty then .error stNotFound
  else
    (s.placeFor die { x with pinned := x.pinned && !old.any (fun e => e.pinned) } tcam).map (fun n =>
      (s.retireAll die x.decl old tempo).modPipe die (fun p => p.addEntry x n tempo false))

/-- A change made on every die of a list, or on none. -/
def onDies (dies : List Nat) (f : State → Nat → Except Nat State) (s : State) : Except Nat State :=
  dies.foldl (fun a d => match a with
    | .ok s => f s d
    | .error e => .error e) (.ok s)

/-- Whether an address of a TCAM table is free on every die named (R255). -/
def State.tcamFree (s : State) (dies : List Nat) (table n : Nat) : Bool :=
  dies.all (fun d => !((s.pipe d).placesOf [table]).contains n)

/-- The TCAM address of a new entry (R255): the one given, the one reserved at staging, or the lowest that is free on every
die named and not reserved. -/
def State.tcamPlace (s : State) (dies : List Nat) (x : EntrySpec) (handle : Option Nat) : Except Nat Nat :=
  if x.decl.kind ≠ .tcam then .ok 0
  else
    let t := x.decl.table
    let held := dies.flatMap (fun d => s.reserved x.txn d t)
    match x.at_, handle with
    | some a, _ => if s.tcamFree dies t a && (handle == some a || !held.contains a) then .ok a else .error stWrongState
    | none, some h => if s.tcamFree dies t h then .ok h else .error stNoResource
    | none, none =>
      let used := dies.flatMap (fun d => (s.pipe d).placesOf [t]) ++ held
      match lowestFree used (1024 * x.decl.capacity) (min (used.length + 1) (1024 * x.decl.blocks)) with
      | some n => .ok n
      | none => .error stNoResource

/-- TABLE_INSERT and TABLE_MODIFY as of a tempo, with the TCAM address reserved at staging (R255, R260, R262). -/
def partPut (cmd : Nat) (p : Packet) (tempo : Nat) (handle : Option Nat) (s : State) : PartResult :=
  match parseEntry cmd p s with
  | .error st => .error st
  | .ok x =>
    let dies := s.namedDies x.dies
    if x.replace ∧ dies.any (fun d => ((s.pipe d).named x tempo).isEmpty) then .error stNotFound
    else if !x.replace ∧ dies.any (fun d => ((s.pipe d).named x tempo).any (fun e => !e.dataPlane)) then .error stExists
    else
      match s.tcamPlace dies x handle with
      | .error st => .error st
      | .ok n =>
        (onDies dies (fun s d => if x.replace then s.replaceOn d x n tempo else s.insertOn d x n tempo) s).map
          (fun s => (s, toLe 4 n))

/-- TABLE_INSERT, TABLE_MODIFY and TABLE_DELETE (R260–R262). -/
def partTableInsert (p : Packet) (tempo : Nat) (handle : Option Nat) (s : State) : PartResult := partPut 0 p tempo handle s
def partTableModify (p : Packet) (tempo : Nat) (handle : Option Nat) (s : State) : PartResult := partPut 2 p tempo handle s

def partTableDelete (p : Packet) (tempo : Nat) (s : State) : PartResult :=
  match parseEntry 1 p s with
  | .error st => .error st
  | .ok x =>
    let dies := s.namedDies x.dies
    if dies.any (fun d => ((s.pipe d).named x tempo).isEmpty) then .error stNotFound
    else .ok (dies.foldl (fun s d => s.retireAll d x.decl ((s.pipe d).named x tempo) tempo) s, [])

/-- The objects a table command changes (R322). -/
def objsEntry (p : Packet) (s : State) : List Nat :=
  match parseEntry (if p.opcode = 0x0402 then 1 else if p.opcode = 0x8401 then 2 else 0) p s with
  | .error _ => []
  | .ok x => (s.namedDies x.dies).map (fun d =>
      objKey objEntry d (BitVec.ofNat 8 x.decl.table :: BitVec.ofNat 8 x.prefixLen :: (x.key ++ x.mask)))

/-! ## Data-plane writes (R256–R258) -/

/-- A data-plane change of an entry on a die, at its current tempo. The second result is whether it was made. A TCAM address that a
staged command holds reserved is not free (log 118). -/
def State.dataPlaneWrite (s : State) (die : Nat) (d : TableDecl) (r : LearnReq) : State × Bool :=
  let tempo := s.tempo.current
  let x : EntrySpec :=
    { decl := d, dies := 0, key := r.key, mask := r.mask, prefixLen := 0, priority := r.priority, action := r.action,
      params := r.params, pinned := false, replace := false, at_ := none, txn := none }
  let p := s.pipe die
  if d.kind = .tcam then
    let here := p.entries.find? (fun e => e.table == d.table && e.place == r.place && e.visible tempo)
    let taken := p.entries.any (fun e => e.table == d.table && e.place == r.place && !e.dataPlane)
    if taken || (!r.delete && (s.reserved none die d.table).contains r.place) then (s, false)
    else if r.delete then
      match here with
      | some e => (s.setPipe die (p.retire d e tempo), true)
      | none => (s, false)
    else
      let p := { p with entries := p.entries.filter (fun e => !(e.table == d.table && e.place == r.place)) }
      (s.setPipe die (p.addEntry x r.place tempo true), true)
  else
    match p.named x tempo, r.delete with
    | e :: _, true => if e.dataPlane then (s.setPipe die (p.retire d e tempo), true) else (s, false)
    | [], true => (s, false)
    | _ :: _, false => (s, false)
    | [], false =>
      match s.placeFor die x 0 with
      | .ok n => (s.setPipe die (p.addEntry x n tempo true), true)
      | .error _ => (s, false)

/-- The declaration of a table that the data plane may write in the bank in force. -/
def State.dataPlaneTable (s : State) (t : Nat) : Option TableDecl :=
  ((s.bankOf s.tempo.bank).table? (s.dramOf s.roles.lead) t).bind (fun d => if d.dataPlane then some d else none)

/-- A request that a thread of the die makes, or an action program for a TCAM write: neither has a form of its own in the spec,
so the command that serves the queue brings it (log 119). A thread asks only while it runs. -/
def State.mayAsk (s : State) (die : Nat) (who : Option Nat) : Bool :=
  match who with
  | none => true
  | some t => threadDie t == die && decide ((s.thread t).state = .running)

/-- LEARN_APPLY (R258): the oldest request of the learn queue is accepted, or an insert of a visible key is discarded. A request
asked in this clock joins the queue first, and a thread that stalled takes the place that is free now. -/
def execLearnApply (q : LearnService) (s : State) : Host.Outcome State Fault Refusal :=
  let die := q.die
  if !s.live die then .next s
  else
    let s := match q.asked with
      | some (t, r) => if s.mayAsk die (some t) then s.askLearn die (some t) { r with pipe := 1 } else s
      | none => s
    match (s.pipe die).learn with
    | [] => .next s
    | r :: rest =>
      let s := (s.modPipe die (fun p => { p with learn := rest })).learnRoom die
      match s.dataPlaneTable r.table with
      | none => .next (s.modPipe die (fun p => p.count r.pipe 0x70))
      | some d =>
        let (s, ok) := s.dataPlaneWrite die d r
        .next (s.modPipe die (fun p => p.count r.pipe (if ok || r.delete then 0x68 else 0x70)))

/-- TCAM_DATA_PLANE_WRITE (R256, R257): the oldest queued write takes the search slot of its pipeline. A request asked in this
clock, by a thread or by a program of its pipeline, joins the queue first. -/
def execTcamDataPlaneWrite (q : TcamService) (s : State) : Host.Outcome State Fault Refusal :=
  let die := q.die
  if !s.live die then .next s
  else
    let s := match q.asked with
      | some (who, r) => if s.mayAsk die who then s.askTcam die who { r with pipe := if who.isSome then 1 else r.pipe % 2 } else s
      | none => s
    match (s.pipe die).tcamWrites with
    | [] => .next s
    | r :: rest =>
      let s := (s.modPipe die (fun p => { p with tcamWrites := rest })).tcamRoom die
      match s.dataPlaneTable r.table with
      | none => .next (s.modPipe die (fun p => p.count r.pipe 0x60))
      | some d =>
        let inBlocks := decide (1024 * d.capacity ≤ r.place) && decide (r.place < 1024 * (d.capacity + d.blocks))
        let (s, ok) := if inBlocks then s.dataPlaneWrite die d r else (s, false)
        .next (s.modPipe die (fun p =>
          let p := p.count r.pipe 0x58
          if ok then p else p.count r.pipe 0x60))

/-- ENTRY_REWRITE (R240): an uncorrectable entry is rewritten from its DRAM copy, which holds what it held; a data-plane
entry is deleted. -/
def execEntryRewrite (die table index : Nat) (s : State) : Host.Outcome State Fault Refusal :=
  let p := s.pipe die
  match p.entries.find? (fun e => e.table == table && e.place == index && e.dataPlane) with
  | some e =>
    if s.live die then
      let p := { p with entries := p.entries.filter (fun x => x != e) }
      .next (s.setPipe die (p.wrote table e.key false))
    else .next s
  | none => .next s

/-- COUNTER_CACHE_MISS (R293): the line of `pair`, which a miss asked of DRAM, has come. The spec does not say which line
gives way to it in a full cache: one is drawn (log 120). -/
def execCounterCacheMiss (die pair : Nat) (s : State) : Host.Outcome State Fault Refusal :=
  let p := s.pipe die
  if !s.live die || !p.counterMisses.contains (pair / 4) then .next s
  else
    let (r, s) := s.draw 16
    .next (s.modPipe die (fun p => p.install (pair / 4) ((p.counterLines[r % p.counterLines.length]?).getD 0)))

/-- POLICER_SWEEP (R297): every policer is refilled to the present clock. -/
def execPolicerSweep (die : Nat) (s : State) : Host.Outcome State Fault Refusal :=
  let now := s.clockAt die
  .next (if s.live die then
    s.modPipe die (fun p => { p with policers := p.policers.map (fun (k, q) => (k, if q.mode = 0 then q else q.at now)) })
  else s)

/-! ## TABLE_QUERY (R263) -/

/-- The record of an entry: BORN, RETIRED (0 where not retired), and the block that re-creates it. -/
def TEntry.record (e : TEntry) (d : TableDecl) : List Byte :=
  let padTo := fun (bs : List Byte) => sub bs 0 (pad4 bs.length)
  toLe 4 e.born ++ toLe 4 (e.retired.getD 0) ++ toLe 1 e.table ++ toLe 1 0 ++ toLe 1 (b2n e.pinned) ++ toLe 1 d.keyLen ++
    toLe 2 e.action ++ toLe 1 e.params.length ++ toLe 1 e.prefixLen ++ toLe 2 e.priority ++ toLe 2 0 ++ toLe 4 0 ++
    padTo e.key ++ (if d.kind = .tcam then padTo e.mask else []) ++ padTo e.params

/-- Entries by ascending place. -/
def byPlace : List TEntry → List TEntry
  | [] => []
  | e :: rest => place e (byPlace rest)
where
  place (e : TEntry) : List TEntry → List TEntry
    | [] => [e]
    | x :: xs => if e.place ≤ x.place then e :: x :: xs else x :: place e xs

/-- Records written whole while the buffer holds them: bytes, count, and the entries left. -/
def takeRecords (d : TableDecl) : List TEntry → Nat → List Byte × Nat × List TEntry
  | [], _ => ([], 0, [])
  | e :: rest, room =>
    let r := e.record d
    if r.length ≤ room then
      let (bs, n, left) := takeRecords d rest (room - r.length)
      (r ++ bs, n + 1, left)
    else ([], 0, e :: rest)

/-- TABLE_QUERY's answer. A key or a handle that names no entry is NOT_FOUND (log 33). -/
def runTableQuery (p : Packet) (s : State) : Answer :=
  let b := p.params
  let die := leAt b 1 1
  let mode := leAt b 2 1
  let len := leAt b 3 1
  let cursor := leAt b 4 4
  let addr := leAt b 8 8
  match (s.bankOf s.tempo.bank).table? (s.dramOf s.roles.lead) (leAt b 0 1) with
  | none => s.fails stBadParam
  | some d =>
    let tcam := decide (d.kind = .tcam)
    let kl := pad4 d.keyLen
    let want := if mode = 0 then 0x14 + (if tcam then 2 * kl else kl) else 0x14
    let key := sub b 0x14 d.keyLen
    if 2 < mode ∨ p.paramLen ≠ want ∨ addr = 0 ∨ (len ≠ 0 ∧ (mode ≠ 0 ∨ !d.kind.isLpm)) ∨ (mode = 0 ∧ cursor ≠ 0)
      ∨ (mode = 0 ∧ lpmBad d key len) ∨ (mode = 1 ∧ !tcam) then s.fails stBadParam
    else match s.dieStatus die with
      | some st => s.fails st
      | none =>
        let mine := byPlace ((s.pipe die).entries.filter (fun e => e.table == d.table))
        let x : EntrySpec :=
          { decl := d, dies := 0, key := if d.kind.isLpm then maskPrefix key len else key, mask := sub b (0x14 + kl) d.keyLen,
            prefixLen := len, priority := 0, action := 0, params := [], pinned := false, replace := false, at_ := none, txn := none }
        let sel := if mode = 0 then mine.filter (fun e => e.same x)
          else if mode = 1 then mine.filter (fun e => e.place == cursor)
          else mine.filter (fun e => decide (cursor ≤ e.place))
        if mode ≠ 2 ∧ sel.isEmpty then s.fails stNotFound
        else
          let (bs, n, left) := takeRecords d sel (leAt b 0x10 4)
          let next := match mode, left with
            | 2, e :: _ => e.place
            | _, _ => 0xFFFFFFFF
          let s := if bs.isEmpty then s else s.hostWrite (pf0 die) addr bs
          s.answers (toLe 4 n ++ toLe 4 next)

/-- TABLE_QUERY (R263). -/
def execTableQuery (p : Packet) (s : State) : Host.Outcome State Fault Refusal := runPlain 0x0403 p runTableQuery s

end Sys2Proof.Machine
end

