-- ==== Sys2Proof/Machine/Steer.lean ====
section
/-! DEFINITION. STEER_SET and ACTION_PARAM_SET (spec/08 R271, R272, R294, R295, R298, R303, R304): parts of table rows 140
and 141. -/

namespace Sys2Proof.Machine

/-! ## Record writes -/

/-- A parameter set, a template or a policer written at a tempo on a die (R271, R272, R298). -/
def State.putSet (s : State) (die n tempo : Nat) (bs : List Byte) : State :=
  s.modPipe die (fun p => { p with sets := Tbl.put Versioned.reset p.sets n ((Tbl.look Versioned.reset p.sets n).write tempo bs) })

def State.putTemplate (s : State) (die n tempo : Nat) (bs : List Byte) : State :=
  s.modPipe die (fun p =>
    { p with templates := Tbl.put Versioned.reset p.templates n ((Tbl.look Versioned.reset p.templates n).write tempo bs) })

/-- A policer of the configuration bytes 0x00–0x13 of Table 08.10. -/
def policerOf (b : List Byte) : Policer :=
  { mode := leAt b 0 1, colorAware := bit (leAt b 1 1) 0, resetToZero := bit (leAt b 1 1) 1, cir := leAt b 4 4,
    pir := leAt b 8 4, cbs := leAt b 0x0C 4, ebsPbs := leAt b 0x10 4, tokensC := 0, tokensEp := 0, last := 0 }

def State.putPolicer (s : State) (die n : Nat) (q : Policer) : State :=
  s.modPipe die (fun p => { p with policers := Tbl.put Policer.reset p.policers n (q.start (s.clockAt die)) })

/-- A policer record that is refused (R298, Table 08.10): CBS is held to 1,518 bytes in every mode (log 34). -/
def policerBad (b : List Byte) : Bool :=
  let q := policerOf b
  decide (2 < q.mode) || decide (4 ≤ leAt b 1 1) || decide (leAt b 2 2 ≠ 0) || (q.mode == 1 && decide (q.pir ≠ 0))
    || decide (q.cbs < 1518) || (q.mode == 1 && decide (q.ebsPbs ≠ 0) && decide (q.ebsPbs < 1518))
    || (q.mode == 2 && (decide (q.ebsPbs < q.cbs) || decide (q.pir < q.cir)))

/-! ## STEER_SET -/

/-- The failing status of a record that names a die (R653). -/
def State.namedDie (s : State) (d : Nat) : Option Nat :=
  if s.dieCount ≤ d then some stBadParam else if bit s.roles.failed d then some stWrongState else none

/-- The failing status of a destination descriptor in a record (R303), the die it names first (R653). -/
def State.destStatus (s : State) (d : Nat) : Option Nat :=
  if destKind d = 1 then
    (s.namedDie (mDie (destFn d))).or (if (s.func (destFn d)).provisioned then none else some stNotFound)
  else if destKind d = 2 then
    (s.namedDie (destPort d / 8)).or (if (s.port (destPort d)).present then none else some stNotFound)
  else if destKind d = 4 then s.namedDie (d / 2 ^ 25 % 8)
  else none

/-- Header bytes of a tunnel body (Table 08.13), with the places of the outer IP header and what follows it. -/
structure TunnelBuild where
  eth : List Byte
  ip : List Byte
  rest : List Byte
  protoOff : Nat
  l4 : Bool
  flags : Nat

/-- An IPv4 header with no options. -/
def ip4Header (tos ttl proto : Nat) (src dst : List Byte) : List Byte :=
  [0x45, BitVec.ofNat 8 tos] ++ toBe 2 0 ++ toBe 4 0 ++ toBe 1 ttl ++ toBe 1 proto ++ toBe 2 0 ++ src ++ dst

/-- An IPv6 header. -/
def ip6Header (tos ttl proto : Nat) (src dst : List Byte) : List Byte :=
  toBe 4 (6 * 2 ^ 28 + tos * 2 ^ 20) ++ toBe 2 0 ++ toBe 1 proto ++ toBe 1 ttl ++ src ++ dst

/-- The headers of a tunnel type. Segment lists are stored in reverse order; H.Encaps.Red leaves the first segment out of
the list, so its SRH holds one segment less than it visits (Table 08.13). -/
def tunnelBuild (b : List Byte) : TunnelBuild :=
  let type := leAt b 0 1
  let n := leAt b 1 1
  let ttl := leAt b 2 1
  let tos := if leAt b 3 1 = 0xFF then 0 else leAt b 3 1
  let tci := leAt b 0x10 2
  let vni := leAt b 0x14 4
  let v6 := decide (type ≠ 1) && decide (type ≠ 4)
  let src := sub b 0x18 (if v6 then 16 else 4)
  let dst := sub b 0x28 (if v6 then 16 else 4)
  let eth := sub b 4 12 ++ (if tci ≠ 0 then toBe 2 0x8100 ++ toBe 2 tci else []) ++ toBe 2 (if v6 then 0x86DD else 0x0800)
  let udp := fun (port : Nat) => toBe 2 0 ++ toBe 2 port ++ toBe 4 0
  let copy := if leAt b 3 1 = 0xFF then 2 ^ 6 else 0
  let segs := (List.range n).map (fun i => sub b (0x38 + 16 * i) 16)
  let listed := (if type = 6 then segs.drop 1 else segs).reverse
  let m := listed.length
  let srh := [0, BitVec.ofNat 8 (2 * m), 4, BitVec.ofNat 8 (n - 1), BitVec.ofNat 8 (m - 1), 0, 0, 0] ++ listed.flatten
  if type = 1 then
    { eth := eth, ip := ip4Header tos ttl 17 src dst, rest := udp 4789 ++ toBe 4 0x08000000 ++ toBe 4 (vni * 256),
      protoOff := 0xFF, l4 := true, flags := 2 + 4 + 8 + 16 + copy }
  else if type = 2 then
    { eth := eth, ip := ip6Header tos ttl 17 src dst, rest := udp 4789 ++ toBe 4 0x08000000 ++ toBe 4 (vni * 256),
      protoOff := 0xFF, l4 := true, flags := 2 + 8 + 16 + copy }
  else if type = 3 then
    { eth := eth, ip := ip6Header tos ttl 17 src dst, rest := udp 6081 ++ toBe 4 0x00006558 ++ toBe 4 (vni * 256),
      protoOff := 0xFF, l4 := true, flags := 2 + 8 + 16 + copy }
  else if type = 4 then
    { eth := eth, ip := ip4Header tos ttl 47 src dst, rest := toBe 2 0x2000 ++ toBe 2 0x6558 ++ toBe 4 vni,
      protoOff := 0xFF, l4 := false, flags := 2 + 4 + copy }
  else
    { eth := eth, ip := ip6Header tos ttl 43 src (segs.headD []), rest := srh, protoOff := eth.length + 40, l4 := false,
      flags := 2 + 32 + copy }

/-- The template, or the two records of a WIDE one, of a tunnel body. -/
def tunnelRecords (b : List Byte) : List Byte × Option (List Byte) :=
  let t := tunnelBuild b
  let h := t.eth ++ t.ip ++ t.rest
  let wide := decide (120 < h.length)
  let l4 := if t.l4 then t.eth.length + t.ip.length else 0xFF
  (toLe 1 h.length ++ toLe 1 (t.flags + b2n wide) ++ toLe 1 t.eth.length ++ toLe 1 l4 ++ toLe 1 t.protoOff ++ toLe 3 0 ++ sub h 0 120,
   if wide then some (sub h 120 128) else none)

/-- A tunnel body that is refused (Table 08.13). -/
def tunnelBad (b : List Byte) (n index : Nat) : Bool :=
  let type := leAt b 0 1
  let segs := leAt b 1 1
  let fits := if type = 5 then decide (1 ≤ segs) && decide (segs ≤ 11)
    else if type = 6 then decide (2 ≤ segs) && decide (segs ≤ 12) else segs == 0
  decide (type = 0) || decide (6 < type) || !fits || decide (n ≠ 0x38 + 16 * segs) || decide (leAt b 0x12 2 ≠ 0)
    || (decide (type ≤ 3) && decide (2 ^ 24 ≤ leAt b 0x14 4)) || ((tunnelRecords b).2.isSome && index % 2 == 1)

/-- The entry that kinds 0 and 1 write (Table 08.12). A bank that declares the table otherwise is a bad parameter (log 32). -/
def State.steerEntry (s : State) (txn : Option Nat) (kind dies : Nat) (b : List Byte) : Except Nat EntrySpec :=
  let bank := s.bankOf s.tempo.bank
  let table := if kind = 0 then 6 else 1
  let key := if kind = 0 then sub b 0 2 ++ sub b 4 6 ++ (sub b 2 2).reverse else sub b 0 3 ++ (sub b 4 2).reverse
  let params := if kind = 0 then sub b 0x0C 10 else sub b 6 4 ++ sub b 0x0C 4
  match bank.table? (s.dramOf s.roles.lead) table with
  | none => .error stBadParam
  | some d =>
    if d.kind ≠ .exact ∨ d.keyLen ≠ key.length ∨ !bank.paramsFit d 2 params.length then .error stBadParam
    else
      .ok { decl := d, dies := dies, key := key, mask := [], prefixLen := 0, priority := 0, action := 2, params := params,
            pinned := false, replace := false, at_ := none, txn := txn }

/-- A set of a table entry replaces one with its key. -/
def State.setOn (x : EntrySpec) (tempo : Nat) (s : State) (die : Nat) : Except Nat State :=
  if !((s.pipe die).named x tempo).isEmpty then s.replaceOn die x 0 tempo else s.insertOn die x 0 tempo

/-- Kinds 0 and 1. -/
def State.steerTable (s : State) (txn : Option Nat) (kind dies op tempo : Nat) (b : List Byte) : PartResult :=
  match s.steerEntry txn kind dies b with
  | .error st => .error st
  | .ok x =>
    let ds := s.namedDies dies
    if op = 1 then
      if ds.all (fun d => ((s.pipe d).named x tempo).isEmpty) then .error stNotFound
      else .ok (ds.foldl (fun s d => s.retireAll d x.decl ((s.pipe d).named x tempo) tempo) s, [])
    else
      match s.destStatus (leAt b 0x0C 4) with
      | some st => .error st
      | none => (onDies ds (State.setOn x tempo) s).map (fun s => (s, []))

/-- Sizes of the stores of kinds 2 to 5. -/
def steerLimit (kind : Nat) : Nat := if kind = 4 then 32768 else if kind = 5 then 2048 else 8192

/-- The record of a set of kinds 2 to 4, none where it is refused (Table 08.12). -/
def steerRecord (kind : Nat) (b : List Byte) : Option (List Byte) :=
  if kind = 2 then
    if leAt b 0 1 ≠ 1 ∨ 16 ≤ leAt b 1 1 ∨ leAt b 0x1C 4 ≠ 0 then none
    else some (if leAt b 2 2 = 0 then overlay (sub b 0 32) 2 (toLe 2 9216) else sub b 0 32)
  else if kind = 3 then
    let t := leAt b 2 2
    if leAt b 0 1 ≠ 2 ∨ leAt b 1 1 ≠ 0 ∨ leAt b 0x0A 2 ≠ 0 ∨ !allZero (sub b 0x14 12) ∨ (0 < t ∧ t < 64) ∨ 9216 < t then none
    else some (sub b 0 32)
  else if policerBad b then none else some (sub b 0 20)

/-- Kinds 2 to 5 at a tempo. -/
def State.steerStore (s : State) (kind dies op index tempo : Nat) (b : List Byte) : PartResult :=
  let ds := s.namedDies dies
  let each := fun (f : State → Nat → State) => (.ok (ds.foldl f s, []) : PartResult)
  if op = 1 then
    each (fun s d => if kind = 4 then s.putPolicer d index Policer.reset
      else if kind = 5 then s.putTemplate d index tempo [] else s.putSet d index tempo [])
  else if kind = 5 then
    let (r, next) := tunnelRecords b
    each (fun s d =>
      let s := s.putTemplate d index tempo r
      match next with
      | some r2 => s.putTemplate d (index + 1) tempo r2
      | none => s)
  else if kind = 4 then each (fun s d => s.putPolicer d index (policerOf b))
  else
    match steerRecord kind b, s.destStatus (leAt b 4 4) with
    | none, _ => .error stBadParam
    | some _, some st => .error st
    | some r, none =>
      if kind = 2 ∧ bit (leAt b 1 1) 3 = true ∧ ds.any (fun d => tplLen ((s.pipe d).template (leAt b 0x16 2) tempo) == 0)
        then .error stNotFound
      else each (fun s d => s.putSet d index tempo r)

/-- Body lengths of Table 08.12. -/
def steerBody (kind : Nat) (b : List Byte) : Nat :=
  if kind = 0 then 24 else if kind = 1 then 16 else if kind ≤ 3 then 32 else if kind = 4 then 20 else 0x38 + 16 * leAt b 1 1

/-- STEER_SET as of a tempo (R303). A remove of kinds 2 to 5 needs no body. -/
def partSteerSet (p : Packet) (tempo : Nat) (s : State) : PartResult :=
  let h := p.params
  let b := h.drop 8
  let kind := leAt h 0 1
  let op := leAt h 2 1
  let index := leAt h 4 4
  let n := p.paramLen - 8
  let reserved := if kind = 0 then decide (leAt b 0x0A 2 ≠ 0) || decide (leAt b 0x16 2 ≠ 0)
    else if kind = 1 then decide (leAt b 3 1 ≠ 0) || decide (leAt b 0x0A 2 ≠ 0) else false
  let bodyBad := if op = 0 ∨ kind ≤ 1 then decide (n ≠ steerBody kind b)
    else decide (n ≠ 0) && decide (n ≠ steerBody kind b)
  let recordBad := decide (op = 0) && (if kind = 5 then tunnelBad b n index
    else if 2 ≤ kind then (steerRecord kind b).isNone else false)
  if p.paramLen < 8 ∨ 5 < kind ∨ 1 < op ∨ leAt h 3 1 ≠ 0 ∨ bodyBad ∨ reserved ∨ (kind ≤ 1 ∧ index ≠ 0)
    ∨ (2 ≤ kind ∧ steerLimit kind ≤ index) ∨ recordBad then .error stBadParam
  else match s.diesStatus (leAt h 1 1) with
    | some st => .error st
    | none =>
      if kind ≤ 1 then s.steerTable (some p.txn) kind (leAt h 1 1) op tempo b else s.steerStore kind (leAt h 1 1) op index tempo b

/-- The objects STEER_SET changes (R322). -/
def objsSteerSet (p : Packet) (s : State) : List Nat :=
  let h := p.params
  let b := h.drop 8
  let kind := leAt h 0 1
  let index := leAt h 4 4
  (s.namedDies (leAt h 1 1)).flatMap (fun d =>
    if kind ≤ 1 then
      match s.steerEntry (some p.txn) kind (leAt h 1 1) b with
      | .ok x => [objKey objEntry d (BitVec.ofNat 8 x.decl.table :: 0 :: x.key)]
      | .error _ => []
    else if kind = 4 then [objNum objPolicer d index]
    else if kind = 5 then
      objNum objTemplate d index :: (if leAt h 2 1 = 0 ∧ (tunnelRecords b).2.isSome then [objNum objTemplate d (index + 1)] else [])
    else [objNum objSet d index])

/-! ## ACTION_PARAM_SET -/

/-- Sizes of a store and of its records by OBJECT (R304). -/
def paramStore (obj : Nat) : Nat := if obj = 0 then 8192 else if obj = 1 then 2048 else if obj = 2 then 32768 else 4194304
def paramSize (obj : Nat) : Nat := if obj = 1 then 128 else 32

/-- A template record outside its own bounds, or WIDE at an odd index (R304, Table 08.5). -/
def templateBad (r : List Byte) (index : Nat) : Bool :=
  let n := tplLen r
  let wide := bit (tplFlags r) 0
  let off := fun (o need : Nat) => decide (n < o + need)
  if n = 0 then wide && index % 2 == 1
  else
    decide (n < 14) || decide ((if wide then 248 else 120) < n) || decide (leAt r 5 3 ≠ 0) || (wide && index % 2 == 1)
      || off (leAt r 2 1) 1 || (decide (leAt r 3 1 ≠ 0xFF) && off (leAt r 3 1) 1) || (decide (leAt r 4 1 ≠ 0xFF) && off (leAt r 4 1) 1)

/-- The records are well formed. The record that continues a WIDE template is header bytes, judged by no field: it follows
in the same command, or the template before it is WIDE already. -/
def recordsBad (s : State) (ds : List Nat) (obj first tempo : Nat) : List (List Byte) → Nat → Bool → Bool
  | [], _, _ => false
  | r :: rest, i, cont =>
    let idx := first + i
    let cont := cont || (decide (i = 0) && idx % 2 == 1
      && ds.all (fun d => bit (tplFlags ((s.pipe d).template (idx - 1) tempo)) 0))
    let bad := if obj = 1 then !cont && templateBad r idx
      else if obj = 2 then policerBad r || !allZero (sub r 0x14 12) else false
    bad || recordsBad s ds obj first tempo rest (i + 1) (decide (obj = 1) && !cont && bit (tplFlags r) 0)

/-- Pairs of a range zeroed. -/
def Pipe.clearPairs (p : Pipe) (first n : Nat) : Pipe :=
  let out := fun (e : Nat × Nat × Nat) => decide (e.1 < first) || decide (first + n ≤ e.1)
  { p with counters := p.counters.filter out, counterCache := p.counterCache.filter out }

/-- ACTION_PARAM_SET as of a tempo (R304). -/
def partActionParam (p : Packet) (tempo : Nat) (s : State) : PartResult :=
  let b := p.params
  let obj := leAt b 0 1
  let count := leAt b 2 2
  let first := leAt b 4 4
  let size := paramSize obj
  let ds := s.namedDies (leAt b 1 1)
  let rs := (List.range count).map (fun i => sub b (8 + size * i) size)
  let pairs := leAt b 8 4
  if 3 < obj ∨ count = 0 ∨ 256 < count ∨ (obj = 3 ∧ p.txn ≠ 0) then .error stBadParam
  else if obj = 3 then
    if p.paramLen ≠ 12 ∨ paramStore 3 < first + pairs then .error stBadParam
    else match s.diesStatus (leAt b 1 1) with
      | some st => .error st
      | none => .ok (ds.foldl (fun s d => s.modPipe d (fun p => p.clearPairs first pairs)) s, [])
  else if p.paramLen ≠ 8 + size * count ∨ paramStore obj < first + count then .error stBadParam
  else match s.diesStatus (leAt b 1 1) with
    | some st => .error st
    | none =>
      if recordsBad s ds obj first tempo rs 0 false then .error stBadParam
      else
        let put := fun (s : State) (d : Nat) (r : List Byte × Nat) =>
          if obj = 0 then s.putSet d (first + r.2) tempo r.1
          else if obj = 1 then s.putTemplate d (first + r.2) tempo r.1
          else s.putPolicer d (first + r.2) (policerOf r.1)
        .ok (ds.foldl (fun s d => rs.zipIdx.foldl (fun s r => put s d r) s) s, [])

/-- The objects ACTION_PARAM_SET changes (R322); counter clears are not transactional (R304). -/
def objsActionParam (p : Packet) (s : State) : List Nat :=
  let b := p.params
  let obj := leAt b 0 1
  if obj = 3 then []
  else
    let kind := if obj = 0 then objSet else if obj = 1 then objTemplate else objPolicer
    (s.namedDies (leAt b 1 1)).flatMap (fun d => (List.range (leAt b 2 2)).map (fun i => objNum kind d (leAt b 4 4 + i)))

end Sys2Proof.Machine
end

