-- ==== Sys2Proof/Machine/Image.lean ====
section
/-! DEFINITION. Linug images (spec/16 R535) and PROGRAM_LOAD (spec/07 R223–R237, R253, R264, R265; spec/08 R273–R276): a part
of table row 139. -/

namespace Sys2Proof.Machine

/-! ## The container (R535) -/

/-- A section: TYPE, TARGET and its body. -/
structure Section where
  type : Nat
  target : Nat
  body : List Byte

/-- The sections of an image, none where the container breaks R535. -/
def linugSections (stepping : Nat) (b : List Byte) : Option (List Section) :=
  let n := leAt b 6 2
  let len := leAt b 8 4
  let step := leAt b 0x10 4
  let raw := (List.range n).map (fun i => sub b (0x40 + 16 * i) 16)
  if leAt b 0 4 ≠ 0x47554E4C ∨ leAt b 4 2 ≠ 1 ∨ b.length < len ∨ len < 0x40 + 16 * n ∨ leAt b 0x0E 2 ≠ 0
    ∨ (step ≠ 0 ∧ step ≠ stepping) ∨ !allZero (sub b 0x14 12) ∨ sub b 0x20 32 ≠ sha256 (sub b 0x40 (len - 0x40))
    ∨ raw.any (fun e => decide (leAt e 2 2 ≠ 0) || decide (leAt e 4 4 < 0x40 + 16 * n) || decide (len < leAt e 4 4 + leAt e 8 4))
    then none
  else some (raw.map (fun e => { type := leAt e 0 2, target := leAt e 12 4, body := sub b (leAt e 4 4) (leAt e 8 4) }))

/-- Consecutive records of `n` bytes. -/
def records (n : Nat) (b : List Byte) : List (List Byte) := (List.range (b.length / n)).map (fun i => sub b (n * i) n)

/-- Bodies of the sections of a type, joined. -/
def bodyOf (ss : List Section) (type : Nat) : List Byte := (ss.filter (fun x => x.type == type)).flatMap (fun x => x.body)

/-! ## Parse graph (Tables 07.1, 07.2, R230) -/

def nodeOf (b : List Byte) : ParseNode :=
  let fl := leAt b 1 1
  let ts := (List.range 8).filterMap (fun i =>
    let t := leAt b (0x10 + 8 * i) 8
    if bit t 48 then some (bits t 31 0 , bits t 47 32) else none)
  let xs := (List.range 8).map (fun i =>
    let x := leAt b (0x50 + 4 * i) 4
    (bits x 7 0, bits x 13 8, bits x 24 16))
  { kind := leAt b 0 1, newLayer := bit fl 0, terminal := bit fl 1, varLen := bit fl 2, lenFixed := leAt b 2 2,
    lenOffset := leAt b 4 1, lenShift := leAt b 5 1, lenMask := leAt b 6 1, lenScale := leAt b 7 1, selOffset := leAt b 8 1,
    stackMax := leAt b 9 1, defaultNext := leAt b 0x0A 2, selMask := leAt b 0x0C 4, transitions := ts, extracts := xs }

/-- A NEXT that is a node, the end or an error. -/
def nextGood (n : Nat) : Bool := decide (n < 256) || n == 0xFFFF || n == 0xFFFE

/-- An extraction writes only to the areas R230 opens; command 0 of a repeated node writes up to four copies, and that of an MPLS
or SRH node 4 or 16 bytes whatever its LENGTH (Table 07.2). -/
def extractGood (n : ParseNode) (i : Nat) (x : Nat × Nat × Nat) : Bool :=
  let width := if i = 0 ∧ n.kind = hkMpls then 4 else if i = 0 ∧ n.kind = hkSrh then 16 else x.2.1
  let len := x.2.1 * (if i = 0 then min 3 n.stackMax else 0) + width
  let dest := x.2.2
  x.2.1 == 0 || (decide (x.2.1 ≤ 32)
    && ((decide (0x20 ≤ dest) && decide (dest + len ≤ 0x40)) || (decide (0x80 ≤ dest) && decide (dest + len ≤ 0x180))))

def nodeBad (b : List Byte) : Bool :=
  let n := nodeOf b
  decide (14 < n.kind) || decide (8 ≤ leAt b 1 1) || decide (512 < n.lenFixed) || decide (7 < n.lenShift) || decide (16 < n.stackMax)
    || !nextGood n.defaultNext || n.transitions.any (fun t => !nextGood t.2) || !allZero (sub b 0x70 16)
    || (List.range 8).any (fun i => decide (2 ^ 49 ≤ leAt b (0x10 + 8 * i) 8))
    || (List.range 8).any (fun i => let x := leAt b (0x50 + 4 * i) 4; decide (2 ^ 25 ≤ x) || decide (bits x 15 14 ≠ 0))
    || n.extracts.zipIdx.any (fun (x, i) => !extractGood n i x)

/-! ## Tables and lookups (Tables 07.8, 07.10, R231–R233, R253) -/

def declOf (b : List Byte) : Option TableDecl :=
  let kind := leAt b 1 1
  let kl := leAt b 2 1
  let es := leAt b 3 1
  let cap := leAt b 4 4
  let mk := fun (k : TableKind) (e c n : Nat) =>
    some ({ table := leAt b 0 1, kind := k, keyLen := kl, entrySize := e, capacity := c, blocks := n, dataPlane := bit (leAt b 8 1) 0 } :
      TableDecl)
  let key := decide (1 ≤ kl) && decide (kl ≤ 64)
  if leAt b 0 1 = 0 ∨ 2 ≤ leAt b 8 1 ∨ !allZero (sub b 9 7) then none
  else if kind = 1 ∧ key = true ∧ es ≤ 2 then mk .exact (32 * 2 ^ es) cap 0
  else if kind = 2 ∧ key = true ∧ es = 2 ∧ [1, 2, 4, 8, 16].contains cap = true then mk .flow 128 cap 0
  else if kind = 3 ∧ kl = 6 ∧ es = 0 ∧ cap = 0 then mk .lpm4 0 0 0
  else if kind = 4 ∧ kl = 18 ∧ es = 0 ∧ cap = 0 then mk .lpm6 0 0 0
  else if kind = 5 ∧ key = true ∧ es = 0 ∧ bits cap 7 5 = 0 ∧ cap < 2 ^ 14 ∧ 1 ≤ cap / 256 ∧ cap % 32 + cap / 256 ≤ 32 then
    mk .tcam 0 (cap % 32) (cap / 256)
  else none

/-- Two TCAM tables share a block. -/
def tcamOverlap (a b : TableDecl) : Bool :=
  a.kind == .tcam && b.kind == .tcam && decide (a.capacity < b.capacity + b.blocks) && decide (b.capacity < a.capacity + a.blocks)

/-- Declarations that break a rule of spec/07. -/
def declsBad (ds : List TableDecl) : Bool :=
  decide (ds.length ≠ (ds.map (fun d => d.table)).eraseDups.length) || decide (1 < (ds.filter (fun d => d.kind == .flow)).length)
    || ds.any (fun a => ds.any (fun b => decide (a.table < b.table) && tcamOverlap a b))

def lookupOf (b : List Byte) : LookupDef :=
  let segs := (List.range (leAt b 5 1)).map (fun i => let x := leAt b (8 + 2 * i) 2; (bits x 8 0, bits x 15 9))
  { table := leAt b 0 1, cond := leAt b 1 1, condArg := leAt b 2 1, chainLen := leAt b 3 1, chainDest := leAt b 4 1, segments := segs }

/-- A lookup reads result word `f` in its condition or its key. -/
def LookupDef.names (d : LookupDef) (f : Nat) : Bool :=
  ((d.cond == 1 || d.cond == 2) && d.condArg == f)
    || d.segments.any (fun x => decide (x.1 < 0x180 + 4 * f + 4) && decide (0x180 + 4 * f < x.1 + x.2))

def lookupBad (ds : List TableDecl) (n : Nat) (b : List Byte) : Bool :=
  let d := lookupOf b
  if d.table = 0 then false
  else
    match ds.find? (fun t => t.table == d.table) with
    | none => true
    | some t =>
      decide (3 < d.cond) || ((d.cond == 1 || d.cond == 2) && decide (n / 2 ≤ d.condArg / 2)) || decide (8 < d.chainLen)
        || decide (32 < d.chainDest + d.chainLen) || d.segments.isEmpty || decide (8 < d.segments.length) || decide (leAt b 6 2 ≠ 0)
        || decide (leAt b 0x18 8 ≠ 0) || d.segments.any (fun x => x.2 == 0 || decide (64 < x.2) || decide (512 < x.1 + x.2))
        || decide ((d.segments.map (fun x => x.2)).sum ≠ t.keyLen) || (t.kind == .flow && decide (d.chainLen ≠ 0))

/-- The 32 definitions of one pipeline break a rule. -/
def lookupsBad (ds : List TableDecl) (bs : List (List Byte)) : Bool :=
  let kindOf := fun (d : LookupDef) => (ds.find? (fun t => t.table == d.table)).map (fun t => t.kind)
  let ls := bs.map lookupOf
  bs.zipIdx.any (fun (b, n) => lookupBad ds n b)
    || decide (1 < (ls.filter (fun d => kindOf d == some .tcam)).length)
    || ls.zipIdx.any (fun (f, i) => kindOf f == some .flow && (ls.drop (i + 1)).any (fun d => decide (d.table ≠ 0) && d.names i))

/-! ## Action programs (Tables 08.2–08.4, R274, R276) -/

def actionWordOf (b : List Byte) : ActionWord :=
  let w := leAt b 0 4
  { next := bits w 15 0, nextMode := bits w 17 16, result := bits w 22 18, slots := (List.range 7).map (fun i => leAt b (4 + 4 * i) 4) }

/-- Primitives that take an operand of their own. -/
def opOperand (op : Nat) : Bool := [0x01, 0x02, 0x03, 0x05, 0x06, 0x07, 0x08, 0x0A, 0x0B, 0x0D, 0x0E, 0x0F, 0x16, 0x17, 0x18, 0x19,
  0x1A, 0x3F].contains op

/-- An operand source whose width code is reserved. -/
def operandBad (x : Nat) : Bool :=
  let a := bits x 31 13
  (bits x 7 6 == 1 && bits a 8 7 == 3) || (bits x 7 6 == 3 && bits a 10 9 == 3)

/-- A slot that breaks R276; `next` is the slot after it in the same word, none at the end. -/
def slotBad (flow cipherPart : Bool) (x : Nat) (next : Option Nat) : Bool :=
  let op := bits x 5 0
  let src := bits x 7 6
  let a := bits x 31 13
  let w := if op = 0x12 then bits a 11 10 else bits a 6 5
  let wide := if w = 0 then 4 else w
  (decide (0x1A < op) && op != 0x3F)
    || (!opOperand op && (decide (src ≠ 0) || (op != 0x14 && op != 0x15 && decide (bits x 12 8 ≠ 0))))
    || (opOperand op && operandBad x)
    || ((op == 0x12 || op == 0x13) && (w == 3 || (next.map (fun n => bits n 5 0)) != some 0x3F))
    || (op == 0x13 && decide (32 < bits a 4 0 + wide))
    || (op == 0x09 && bits a 17 16 == 0)
    || (decide (0x14 ≤ op) && decide (op ≤ 0x17) && (bits a 18 16 == 0 || bits a 18 16 == 7))
    || ((op == 0x16 || op == 0x17) && src == 0)
    || (op == 0x18 && !flow) || ((op == 0x19 || op == 0x1A) && !cipherPart)

/-- How many primitives of a kind a path through the slots from `i` on may hold at most, with whether it may reach the end
of the word: a path that ends in DROP goes no further. -/
def slotMax (counts : Nat → Bool) (ws : List Nat) : Nat → Nat → Nat × Option Nat
  | 0, _ => (0, some 0)
  | fuel + 1, i =>
    if 7 ≤ i then (0, some 0)
    else
      let x := ws.getD i 0
      let op := bits x 5 0
      let here := b2n (counts op)
      let best := fun (a b : Nat × Option Nat) => (max a.1 b.1, match a.2, b.2 with
        | some m, some n => some (max m n)
        | some m, none => some m
        | none, r => r)
      if op = 0x01 then (if bits x 7 6 = 1 then slotMax counts ws fuel (i + 1) else (0, none))
      else if 0x14 ≤ op ∧ op ≤ 0x17 then
        best (slotMax counts ws fuel (i + 1)) (slotMax counts ws fuel (i + 1 + bits (x / 2 ^ 13) 18 16))
      else
        let r := slotMax counts ws fuel (i + 1)
        (here + r.1, r.2.map (fun n => here + n))

/-- The greatest number on a path of at most `n` words from each word, and from any entry. -/
def pathMax (counts : Nat → Bool) (words : Tbl ActionWord) (entries : List Nat) : Nat → Tbl Nat
  | 0 => []
  | n + 1 =>
    let below := pathMax counts words entries n
    let anyEntry := entries.foldl (fun m e => max m (Tbl.look 0 below e)) 0
    words.map (fun (e : Nat × ActionWord) =>
      let r := slotMax counts e.2.slots 7 0
      let onward := if e.2.nextMode = 2 then 0
        else max (Tbl.look 0 below e.2.next) (if e.2.nextMode = 1 then anyEntry else 0)
      (e.1, max r.1 (match r.2 with
        | some m => m + onward
        | none => 0)))

/-- A path may hold more primitives of a kind than R276 allows. -/
def pathBad (words : Tbl ActionWord) (entries : List Nat) (limit : Nat) (counts : Nat → Bool) : Bool :=
  (pathMax counts words entries 8).any (fun e => decide (limit < e.2))

/-- Words and entry table that break a rule of spec/08. -/
def programBad (flow cipherPart : Bool) (words : Tbl ActionWord) (entryTable : List Nat) : Bool :=
  let entries := entryTable.filter (fun e => decide (e ≠ 0))
  let has := fun (a : Nat) => (Tbl.find words a).isSome
  entries.any (fun e => !has e)
    || words.any (fun e =>
      e.2.nextMode == 3 || (e.2.nextMode != 2 && !has e.2.next)
        || e.2.slots.zipIdx.any (fun (x, i) => slotBad flow cipherPart x e.2.slots[i + 1]?))
    || pathBad words entries 4 (fun op => op == 0x06 || op == 0x03) || pathBad words entries 2 (fun op => op == 0x07)
    || pathBad words entries 2 (fun op => op == 0x05) || pathBad words entries 1 (fun op => op == 0x19 || op == 0x1A)

/-- The bank that the pipeline sections of an image hold, none where it breaks a rule (R264). -/
def bankOfImage (cipherPart : Bool) (programId : Nat) (ss : List Section) : Option Bank :=
  let roots := bodyOf ss 0x10
  let nodes := records 128 (bodyOf ss 0x11)
  let looks := records 32 (bodyOf ss 0x12)
  let declB := records 16 (bodyOf ss 0x13)
  let decls := declB.filterMap declOf
  let et := (List.range 4096).map (fun i => leAt (bodyOf ss 0x14) (2 * i) 2)
  let wordSecs := ss.filter (fun x => x.type == 0x15)
  let words := (wordSecs.flatMap (fun x => (records 32 x.body).zipIdx.map (fun (b, i) => (x.target + i, b))))
  let tbl : Tbl ActionWord := words.foldl (fun t e => Tbl.set t e.1 (actionWordOf e.2)) []
  let l0 := looks.take 32
  let l1 := looks.drop 32
  let known := fun (t : Nat) => [1, 2, 3, 4, 5, 0x10, 0x11, 0x12, 0x13, 0x14, 0x15].contains t
  let flow := decls.any (fun d => d.kind == .flow)
  let sizesBad : Bool := decide (roots.length ≠ 4 ∨ (bodyOf ss 0x11).length % 128 ≠ 0 ∨ nodes.isEmpty ∨ 256 < nodes.length
    ∨ 256 ≤ leAt roots 0 2 ∨ 256 ≤ leAt roots 2 2 ∨ (bodyOf ss 0x12).length ≠ 2048 ∨ (bodyOf ss 0x13).length % 16 ≠ 0
    ∨ decls.length ≠ declB.length ∨ (bodyOf ss 0x14).length ≠ 8192 ∨ words.length ≠ tbl.length)
  let wordsBad : Bool := wordSecs.any (fun x => decide (x.body.length % 32 ≠ 0))
    || words.any (fun e => decide (e.1 < 0x200) || decide (0xFFFF < e.1) || decide (2 ^ 23 ≤ leAt e.2 0 4))
  if (ss.any (fun x => !known x.type) || sizesBad || wordsBad || nodes.any nodeBad || declsBad decls || lookupsBad decls l0
    || lookupsBad decls l1 || programBad flow cipherPart tbl et) = true then none
  else
    some { standard := false, programId := programId, rootP0 := leAt roots 0 2, rootP1 := leAt roots 2 2,
           nodes := nodes.zipIdx.map (fun (b, i) => (i, nodeOf b)), lookups0 := l0.zipIdx.map (fun (b, i) => (i, lookupOf b)),
           lookups1 := l1.zipIdx.map (fun (b, i) => (i, lookupOf b)), decls := decls,
           entryTable := et.zipIdx.filterMap (fun (a, i) => if a = 0 then none else some (i, a)), words := tbl,
           image := ss.flatMap (fun x => toLe 4 x.type ++ toLe 4 x.target ++ toLe 4 x.body.length ++ x.body) }

/-! ## PROGRAM_LOAD (R264, R265, R273) -/

/-- Bytes of the exact-match partition a table takes (R241). -/
def exactBytes (d : TableDecl) : Nat :=
  if d.kind = .exact then ceilDiv (ceilDiv (d.capacity * d.entrySize * 5) 4) 65536 * 65536 else 0

/-- Action words of a bank. -/
def Bank.wordCount (b : Bank) : Nat := if b.standard then Config.stdActionWords % 65025 else b.words.length

/-- Two flow regions overlap: a region of S GiB is [S, 2S), and its size is a power of two (R242). -/
def flowOverlap (a b : TableDecl) : Bool := a.kind == .flow && b.kind == .flow && decide (0 < a.capacity) && a.capacity == b.capacity

/-- The tables of two banks cannot fit together, or their action words (R242, R253, R264, R273). Tables declared identically
are shared. -/
def banksUnfit (dram : Nat) (old new : Bank) : Bool :=
  let os := old.tables dram
  let added := (new.tables dram).filter (fun d => !os.contains d)
  decide (15 * 2 ^ 20 < ((os ++ added).map exactBytes).sum) || added.any (fun d => os.any (tcamOverlap d))
    || added.any (fun d => d.kind == .flow && (decide (dram < 2 * d.capacity) || os.any (flowOverlap d)))
    || decide (65024 < old.wordCount + new.wordCount)

/-- A table in use is declared otherwise in the new bank or absent from it, or holds an entry number the new bank leaves
undefined (R265, R273). -/
def State.bankClash (s : State) (old new : Bank) : Bool :=
  (List.range s.dieCount).any (fun d => let dram := s.dramOf d; (s.pipe d).entries.any (fun e =>
    (old.table? dram e.table).isSome && (old.table? dram e.table != new.table? dram e.table || !new.defines e.action)))

/-- The bank not in force. -/
def State.otherBank (s : State) : Nat := 1 - s.tempo.bank

/-- A packet in flight uses a bank. -/
def State.bankUsed (s : State) (n : Nat) : Bool := s.flight.any (fun e => e.2.bank == n)

/-- The bank that a PROGRAM_LOAD writes, or the failing status. STANDARD is taken on a -N part too, though entries 5 and 6 of the
standard program hand packets to the cipher engine: R5 speaks of images, and whether it means STANDARD the spec leaves open
(DESIGN CHOICE, log 118). -/
def programOf (p : Packet) (s : State) : Except Nat Bank :=
  let b := p.params
  let std := bit (leAt b 0x0C 4) 0
  let image := sub (s.hostRead p.sender (leAt b 0 8) (leAt b 8 4)) 0 (leAt b 8 4)
  if p.paramLen ≠ 16 ∨ 2 ≤ leAt b 0x0C 4 then .error stBadParam
  else if s.tempo.bankClaim.isSome then .error stWrongState
  else if s.bankUsed s.otherBank then .error stBusy
  else if std then .ok Bank.reset
  else if !s.canIssue p.sender || s.ideBlocks p.sender (leAt b 0 8) then .error stDeviceFault
  else
    match (linugSections (s.chipIdent % 256) image).bind (bankOfImage s.boot.cipher (leAt image 0x0C 2)) with
    | some k => .ok k
    | none => .error stBadParam

/-- PROGRAM_LOAD's checks and the bank it writes. -/
def partProgramLoad (p : Packet) (s : State) : Except Nat Bank :=
  match programOf p s with
  | .error st => .error st
  | .ok new =>
    let old := s.bankOf s.tempo.bank
    if s.bankClash old new then .error stWrongState
    else if s.workingDies.any (fun d => banksUnfit (s.dramOf d) old new) then .error stNoResource
    else .ok new

/-- Entries of a die whose table the new bank does not share: none that is written before the switch survives it, since a
table declared in the new bank only starts empty (R265). -/
def Pipe.keepShared (p : Pipe) (dram : Nat) (old new : Bank) : Pipe :=
  let shared := fun (t : Nat) => (old.table? dram t).isSome && old.table? dram t == new.table? dram t
  { p with entries := p.entries.filter (fun e => shared e.table), cache := p.cache.filter (fun w => shared w.2.table) }

/-- The bank that was written takes over at a tempo (R223, R264, R265). -/
def State.switchBank (s : State) (tempo : Nat) : State :=
  let old := s.bankOf s.tempo.bank
  let new := s.bankOf s.otherBank
  let s := (List.range s.dieCount).foldl (fun s d =>
    if (s.pipe d).entries.isEmpty && (s.pipe d).cache.isEmpty then s else s.modPipe d (fun p => p.keepShared (s.dramOf d) old new)) s
  { s with tempo := { s.tempo with bank := s.otherBank, bankBorn := tempo, bankClaim := none } }

end Sys2Proof.Machine
end

