-- ==== Sys2Proof/Machine/PodOps.lean ====
section
/-! DEFINITION. Operations of a pod: registers of the POD block, packet views, locks, commits, interrupts and the stalemate
detector (spec/16, spec/17 R548–R552). -/

namespace Sys2Proof.Machine

/-! ## Register values -/

def ThreadState.code : ThreadState → Nat
  | .unloaded => 0
  | .running => 1
  | .blocked => 2
  | .stopped => 3
  | .faulted => 4
  | .killed => 5
  | .outOfService => 6

def WaitKind.code : WaitKind → Nat
  | .none => 0
  | .channelRead => 1
  | .messageCommit => 2
  | .eventWait => 3
  | .lockSpin => 4
  | .externalStall => 5

/-- A thread is spinning on a lock (R520): it shows WAIT_KIND lock spin and counts as BLOCKED for stalemate only. -/
def Thread.spins (th : Thread) : Bool := decide (th.state = .running) && th.spin.isSome

/-- THREAD_STATE[63:0]. -/
def Thread.stateLow (th : Thread) : Nat :=
  let wait := if th.spins then WaitKind.lockSpin else th.wait
  let object := if th.spins then th.spin.getD 0 else th.object
  th.state.code + 2 ^ 4 * wait.code + 2 ^ 8 * object + 2 ^ 16 * th.objectPod + 2 ^ 19 * b2n th.breakHit
    + 2 ^ 20 * th.staging.length + 2 ^ 24 * th.faultCause + 2 ^ 32 * th.waitMask

/-- THREAD_STATE, 16 bytes. -/
def Thread.stateBytes (th : Thread) : List Byte := toLe 8 th.stateLow ++ toLe 8 th.pc

/-- POD_STATUS.DMA_SLOTS. -/
def Pod.slotBytes (p : Pod) : List Byte := (List.range 8).flatMap (fun i => toLe 1 (Tbl.look 0xFF p.slots i))

/-- POD_STATUS, 16 bytes. -/
def State.podStatus (s : State) (pod : Nat) : List Byte :=
  let p := s.podOf pod
  toLe 8 (pod % 6 + 2 ^ 3 * b2n p.spareAvailable + 2 ^ 4 * podThread (s.supervisor pod) + 2 ^ 16 * p.slots.length
    + 2 ^ 32 * p.cells) ++ p.slotBytes

/-! ## Packet views (R507) -/

def State.modView (s : State) (t v : Nat) (f : PktView → PktView) : State :=
  s.modThread t (fun th => th.setView v (f (th.view v)))

/-- A packet of `n` bytes of which the first are given: bytes that nothing has written are free values. -/
def State.fillPacket (s : State) (bs : List Byte) (n : Nat) : List Byte × State :=
  let k := n - bs.length
  (bs.take n ++ (List.range k).map (fun i => Config.freeByte (s.freeCtr + i)), { s with freeCtr := s.freeCtr + k })

/-- A write of FIRST_CELL. -/
def State.viewOpen (s : State) (t v cell : Nat) : State :=
  match Tbl.find (s.podOf (threadPod t)).packets cell with
  | some _ => s.modView t v (fun w => { w with firstCell := cell, isOpen := true, stale := false })
  | none => s.modView t v (fun w => { w with notOwned := true })

/-- A write of LENGTH: above 9,472, or in a view that has no packet, it is ignored. -/
def State.viewLength (s : State) (t v n : Nat) : State :=
  let pod := threadPod t
  let die := threadDie t
  match s.viewPacket t v with
  | none => s
  | some p =>
    let need := cellsFor n
    if 9472 < n then s
    else if p.cells + s.sharedFree die < need then s.modView t v (fun w => { w with noCell := true })
    else
      let s := if need < p.cells then s.freePacket die (p.cells - need) p.ing
        else (s.takeCells die (need - p.cells)).ingAdd die p.ing (need - p.cells)
      let (bs, s) := s.fillPacket p.bytes n
      s.setPacket pod ((s.thread t).view v).firstCell { p with bytes := bs, cells := need }

/-- ALLOC: a new packet of one cell and LENGTH 0. -/
def State.viewAlloc (s : State) (t v : Nat) : State :=
  let die := threadDie t
  if s.sharedFree die = 0 then s.modView t v (fun w => { w with noCell := true })
  else
    let cell := s.newCell die
    let s := (s.takeCells die 1).setPacket (threadPod t) cell { bytes := [], cells := 1, ing := none }
    s.modView t v (fun w => { w with firstCell := cell, isOpen := true, stale := false })

/-- FREE: the open packet's cells are free, the view closes, and any other view of the packet faults from here on. -/
def State.viewFree (s : State) (t v : Nat) : State :=
  let pod := threadPod t
  match s.viewPacket t v with
  | none => s
  | some p =>
    let cell := ((s.thread t).view v).firstCell
    let s := (s.freePacket (threadDie t) p.cells p.ing).modPodOf pod (fun x => { x with packets := Tbl.del x.packets cell })
    let s := s.mapViews pod (fun _ w => if w.isOpen && w.firstCell == cell then { w with stale := true } else w)
    s.modView t v PktView.close

/-! ## Locks (R518–R520) -/

/-- The position of a reader in a lock's rotating priority (R519): pod threads of the pod, and firmware. PF0 has none, so
its read takes no lock. -/
def lockPosition (pod reader : Nat) : Option Nat :=
  if isThreadId reader ∧ threadOfId reader / 72 = pod then some (threadOfId reader % 72)
  else if reader = fwId (pod / 6) then some 72
  else none

/-- The register value LOCK n shows. -/
def Lock.value (l : Lock) : Nat := b2n l.held + 2 ^ 8 * l.owner

/-- A thread's read of a lock marks it spinning, or no longer (R520). -/
def State.noteSpin (s : State) (reader n : Nat) (held : Bool) : State :=
  if isThreadId reader then
    s.modThread (threadOfId reader) (fun th =>
      { th with spin := if held then some n else none, spinAt := s.dieTick (threadDie (threadOfId reader)) })
  else s

/-- A read of a lock: the value returned, and the state with the lock taken if it was free (R518, R519). -/
def State.readLock (s : State) (pod n reader : Nat) : Nat × State :=
  let k := pod * 64 + n
  let l := s.lockOf k
  match lockPosition pod reader with
  | none => (l.value, s)
  | some _ =>
    let s := if l.held then s
      else s.setLockOf k { held := true, owner := reader, pointer := (l.pointer + 1) % 73 }
    (l.value, (s.noteSpin reader n l.held).settleDie (pod / 6))

/-- Readers of a lock in one clock, from the position its pointer names on; those without a position come last (R519). -/
def State.lockOrder (s : State) (pod n : Nat) (readers : List Nat) : List Nat :=
  let first := (s.lockOf (pod * 64 + n)).pointer
  (List.range 73).flatMap (fun i => readers.filter (fun r => lockPosition pod r == some ((first + i) % 73)))
    ++ readers.filter (fun r => (lockPosition pod r).isNone)

/-- Reads of a lock one after another, each answered. -/
def State.readLocks (s : State) (pod n : Nat) : List Nat → State
  | [] => s
  | r :: rest =>
    let (v, s) := s.readLock pod n r
    (s.emit (.read r v)).readLocks pod n rest

/-- A write of 0 to HELD (R518): released, or refused to the writer. -/
def State.writeLock (s : State) (pod n writer : Nat) : State × Bool :=
  let k := pod * 64 + n
  let l := s.lockOf k
  if l.owner = writer ∧ l.held = true ∨ writer = fwId (pod / 6) ∨ writer = threadId (s.supervisor pod) then
    ((s.setLockOf k { l with held := false, owner := 0 }).settleDie (pod / 6), true)
  else (s, false)

/-! ## Thread control (R503, R522, R531) -/

/-- RESUME of a FAULTED thread; a BREAK it faulted on runs once as a no-op (R553). -/
def State.resumeThread (s : State) (t : Nat) : State :=
  let th := s.thread t
  if th.state = .faulted then
    let s := s.setThread t { th with state := .running, breakNop := if th.faultCause = fcBreak then some th.pc else th.breakNop }
    (s.modPodOf (threadPod t) (fun p => { p with faultPending := setBit p.faultPending (podThread t) false })).fetchCheck t
  else s

/-- The actions of a write of THREAD_CTRL, bit by bit. -/
def State.threadCtrl (s : State) (t v : Nat) : State :=
  let s := if bit v 3 then s.releaseLocks t else s
  if bit v 2 then s.killThread t
  else if bit v 1 then s.restartThread t
  else if bit v 0 then s.resumeThread t
  else s

/-- A thread of the pod that may not do what it tried faults; the device ignores any other writer. -/
def State.writerFault (s : State) (pod writer cause addr : Nat) : State :=
  if isThreadId writer ∧ threadOfId writer / 72 = pod ∧ (s.thread (threadOfId writer)).state = .running then
    s.threadFault (threadOfId writer) cause (some addr)
  else s

/-- The writer is the pod's supervisor, running. -/
def State.bySupervisor (s : State) (pod writer : Nat) : Bool := writer == threadId (s.supervisor pod)

/-! ## Waits -/

/-- A BLOCKED thread taken out of its wait, the waiting operation not performed and its staged words kept (R517, R528). -/
def Thread.unwait (th : Thread) (st : ThreadState) : Thread :=
  { th with state := st, wait := .none, object := 0, objectPod := 0, waitMask := 0, waitRd := 0, endWord := 0 }

/-- The interrupt is due at the boundary (R517, R552). A thread under STEP takes it after RESUME (R529, Table 17.8). -/
def State.intDue (s : State) (t : Nat) : Bool :=
  let th := s.thread t
  s.intPending t && bit th.eventMask 8 && !th.stepping

/-- The interrupt taken (R552). -/
def State.takeInt (s : State) (t : Nat) : State :=
  (s.modThread t (fun th =>
    { th.unwait .running with intReturn := th.pc, eventMask := setBit th.eventMask 8 false, pc := th.intHandler,
                              intSignal := false })).fetchCheck t

/-- A breakpoint of the pod stands at the thread's next instruction (R532). -/
def State.atBreak (s : State) (t : Nat) : Bool :=
  let th := s.thread t
  !th.breakSkip && (s.podOf (threadPod t)).breakpoints.any (fun e => e.2 == th.pc)

/-- The thread stops before the instruction (R532). -/
def State.hitBreak (s : State) (t : Nat) : State :=
  s.modThread t (fun th => { th with state := .stopped, breakHit := true })

/-! ## Commits (R508, R510, R512) -/

/-- What a commit comes to: no room yet, a fault, or done. -/
inductive CommitEnd where
  | wait
  | bad (s : State)
  | done (s : State)

/-- A thread commits its staged words with `last` as the END word. -/
def State.commit (s : State) (t k : Nat) (last : Word) : CommitEnd :=
  let th := s.thread t
  let c := s.chanOf k
  let ws := th.staging ++ [last]
  let out := s.setThread t { th with staging := [] }
  if c.room < ws.length then .wait
  else if mClass c.reader = 6 then
    match s.injectMessage (threadPod t) ws with
    | none => .bad out
    | some (cell, p, len, tc) => .done ((out.inject k (threadPod t) (threadId t) cell p len tc).putMessage k ws)
  else if mClass c.reader = 5 then
    if ws.length ≠ 8 then .bad s
    else .done ((out.putMessage k ws).pumpDma (dmaKey (k / 1536) (mIndex c.reader % 64)))
  else .done (out.putMessage k ws)

/-! ## Stalemate (R524–R526) -/

/-- The waker an identity stands for: a pod thread number, or none for an external waker. -/
def wakerOf (pod m : Nat) : Option Nat :=
  if isThreadId m ∧ threadOfId m / 72 = pod then some (threadOfId m % 72) else none

/-- The wakers of one event input of a thread (Table 16.4). -/
def State.inputWakers (s : State) (t i : Nat) : List (Option Nat) :=
  let th := s.thread t
  let pod := threadPod t
  let n := th.srcIndex i
  match th.srcKind i with
  | 1 => [if n < 72 then some n else none]
  | 2 => [wakerOf pod (s.chanOf (chanKey (threadDie t) n)).writer]
  | 3 => [wakerOf pod (s.chanOf (chanKey (threadDie t) n)).reader]
  | 4 =>
    (s.agentMbx.filter (fun e => e.1 / 256 == threadDie t && e.2.enable && e.2.receiver == threadId t && e.2.event == i)).flatMap
      (fun e => [wakerOf pod e.2.senderA, wakerOf pod e.2.senderB])
  | 5 => [none]
  | 6 => [none]
  | 7 => [none]
  | 8 => [wakerOf pod (s.lockOf (pod * 64 + n % 64)).owner]
  | _ => []

/-- The wakers of a thread (R524), external ones as none. -/
def State.wakers (s : State) (t : Nat) : List (Option Nat) :=
  let th := s.thread t
  let pod := threadPod t
  let chan := s.chanOf (chanKey (threadDie t) (th.objectPod * 256 + th.object))
  match th.state with
  | .running => match th.spin with
    | some n => [wakerOf pod (s.lockOf (pod * 64 + n)).owner]
    | none => []
  | .blocked => match th.wait with
    | .channelRead => [wakerOf pod chan.writer]
    | .messageCommit => [wakerOf pod chan.reader]
    | .eventWait => (maskBits th.waitMask 8).flatMap (s.inputWakers t)
    | .externalStall => [none]
    | _ => []
  | .stopped => [none]
  | .faulted => [if s.isSupervisor t then none else some (podThread (s.supervisor pod))]
  | _ => []

/-- Members of a candidate set all of whose wakers are in it. -/
def State.closedPart (s : State) (pod : Nat) (l : List Nat) : List Nat :=
  l.filter (fun t => (s.wakers (pod * 72 + t)).all (fun w => match w with
    | some x => l.contains x
    | none => false))

/-- The largest closed set, reached after as many rounds as the pod has threads. -/
def State.closedSet (s : State) (pod : Nat) : Nat → List Nat → List Nat
  | 0, l => l
  | n + 1, l => s.closedSet pod n (s.closedPart pod l)

/-- U, the union of the pod's stalemate sets, as a list of pod thread numbers. A thread that has no waker and that no member
waits for is left out (log 38). -/
def State.stalemateSet (s : State) (pod : Nat) : List Nat :=
  let th := fun (t : Nat) => s.thread (pod * 72 + t)
  let start := (List.range 72).filter (fun t => decide ((th t).state ≠ .running) || (th t).spins)
  let l := s.closedSet pod 72 start
  let waits := fun (t : Nat) => decide ((th t).state = .blocked) || (th t).spins
  let named := l.flatMap (fun t => (s.wakers (pod * 72 + t)).filterMap (fun w => w))
  if l.any waits then l.filter (fun t => waits t || decide ((th t).state = .faulted) || named.contains t) else []

/-- A mask of pod threads. -/
def maskOf (l : List Nat) : Nat := l.foldl (fun a t => setBit a t true) 0

/-- The stalemate set of a pod is watched: a set that changes starts its time afresh (R525). -/
def State.watchPod (s : State) (pod : Nat) : State :=
  let m := maskOf (s.stalemateSet pod)
  s.modPodOf pod (fun p => if p.watched = m then p else { p with watched := m, watchedAt := s.dieTick (pod / 6) })

/-- The set has held unchanged for 1,024 core clocks (R525). -/
def State.stalemateHeld (s : State) (pod : Nat) : Bool :=
  let p := s.podOf pod
  p.watched == maskOf (s.stalemateSet pod) && decide (1024 ≤ coreClocks p.watchedAt (s.dieTick (pod / 6)))

/-- The report of a stalemate (R525, R526). -/
def State.reportStalemate (s : State) (pod : Nat) : State :=
  let u := s.stalemateSet pod
  let p := s.podOf pod
  let m := maskOf u
  if u.isEmpty || (m == p.members && (p.stalemate || p.toFirmware)) then s
  else
    let snap : Tbl (Nat × Nat) := (List.range 72).foldl (fun t i =>
      let th := s.thread (pod * 72 + i)
      Tbl.put (0, 0) t i (th.stateLow, th.pc)) []
    let fw := u.contains (podThread (s.supervisor pod))
    let s := s.setPodOf pod { p with snapshot := snap, members := m, reports := satAdd 0xFFFF p.reports 1,
                                     stalemate := p.stalemate || !fw, toFirmware := fw }
    if fw then s.raise 0x0602 sevContained (threadId (s.supervisor pod)) (pod / 6) (pod % 6) (bits m 63 0) (bits m 71 64) else s

/-! ## Cores (R533, R534) -/

/-- A core of a position fails: the spare takes the position, or its threads go out of service. -/
def State.coreFails (s : State) (pod pos : Nat) : State :=
  let p := s.podOf pod
  let die := pod / 6
  let core := 9 * (pod % 6) + pos
  let ts := (List.range 8).map (fun i => pod * 72 + 8 * pos + i)
  if p.spareAvailable then
    let locks := ts.foldl (fun a t => a ||| s.locksOf t) 0
    let s := s.setPodOf pod { p with spareAvailable := false, coreChange := p.coreChange || s.ready }
    let s := ts.foldl State.releaseLocks s
    let s := ts.foldl (fun s t => if (s.thread t).state = .unloaded then s else s.restartThread t) s
    s.raise 0x0603 sevDegraded 0 die core locks 0
  else
    let s := s.setPodOf pod { p with lostPositions := setBit p.lostPositions pos true, coreChange := p.coreChange || s.ready }
    let s := ts.foldl (fun s t => s.modThread t (fun th => { th.killed with state := .outOfService })) s
    (s.raise 0x0604 sevContained 0 die core 0 0).settleDie die

end Sys2Proof.Machine
end

