-- ==== Sys2Proof/Machine/Threads.lean ====
section
/-! DEFINITION. Commands on threads and the events of pods (spec/16): table rows 232–259. THREAD_DEBUG_STEP is in
`Machine/IsaDecode.lean`, since it runs an instruction. -/

namespace Sys2Proof.Machine

/-! ## THREAD_LOAD (R505, R509, R535, R536) -/

/-- An endpoint of an enabled channel of a pod keeps R509 (Table 16.3); `slots` DMA channels are bound. -/
def endpointGood (pod slots m : Nat) (reader : Bool) : Bool :=
  mDie m == pod / 6 &&
    (match mClass m with
      | 1 => isThreadId m && (!reader || threadOfId m / 72 == pod)
      | 2 => decide (mIndex m < 16)
      | 5 => decide (mIndex m < slots)
      | 6 => if reader then mIndex m == 1 else decide (mIndex m < 3)
      | _ => false)

/-- A record in CHAN_CFG layout: WRITER, READER, ENABLE. -/
def chanRecord (b : List Byte) : Nat × Nat × Bool := (leAt b 0 3, leAt b 4 3, bit (leAt b 7 1) 0)

/-- Thread sections of an image. -/
structure ThreadImage where
  podMem : List (Nat × List Byte)
  shared : List (Nat × List Byte)
  threads : List (List Byte)
  chans : List (Nat × Nat × Bool)
  dramBase : Nat
  dramSize : Nat
  dma : Nat
  deriving DecidableEq, Repr

/-- The thread sections, none where one breaks a rule. -/
def threadImage (pod : Nat) (ss : List Section) : Option ThreadImage :=
  let of := fun (t : Nat) => ss.filter (fun x => x.type == t)
  let known := fun (t : Nat) => [1, 2, 3, 4, 5, 0x10, 0x11, 0x12, 0x13, 0x14, 0x15].contains t
  let res := bodyOf ss 5
  let dma := leAt res 0x10 1
  let chans := (records 16 (bodyOf ss 4)).map chanRecord
  let mems := fun (t size : Nat) => (of t).any (fun x => decide (size < x.target + x.body.length))
  let sizes := fun (t n : Nat) => decide ((bodyOf ss t).length ≠ 0) && decide ((bodyOf ss t).length ≠ n)
  if (ss.any (fun x => !known x.type) || mems 1 0x200000 || mems 2 0x400000 || sizes 3 2048 || sizes 4 4096 || sizes 5 32
    || decide (8 < dma) || !allZero (sub res 0x11 15)
    || chans.any (fun c => c.2.2 && !(endpointGood pod dma c.1 false && endpointGood pod dma c.2.1 true))) = true then none
  else
    some { podMem := (of 1).map (fun x => (x.target, x.body)), shared := (of 2).map (fun x => (x.target, x.body)),
           threads := records 32 (bodyOf ss 3), chans := chans, dramBase := leAt res 0 8, dramSize := leAt res 8 8, dma := dma }

/-- Two spans overlap. -/
def spansMeet (a n b m : Nat) : Bool := decide (0 < n) && decide (0 < m) && decide (a < b + m) && decide (b < a + n)

/-- Ranges of a die's DRAM that no window may overlap (R242, R292, R464, R558). -/
def State.dramTaken (s : State) (pod : Nat) : List (Nat × Nat) :=
  let die := pod / 6
  let gib := s.dramOf die
  let others := ((List.range 6).map (fun k => die * 6 + k)).filter (fun k => k != pod && (s.podOf k).loaded)
  let flow := (((s.bankOf s.tempo.bank).tables gib).filter (fun d => d.kind == .flow)).map (fun d => (d.capacity * 2 ^ 30, d.capacity * 2 ^ 30))
  (if 0 < gib then [(0, 0x4000000)] else []) ++ (if 2 ≤ gib then [(0x4000000, 0x10000000), (0x14000000, 0x4000000)] else [])
    ++ flow ++ others.map (fun k => ((s.podOf k).dramBase, (s.podOf k).dramSize))

/-- The image asks for what is not to be had (R505, R536). -/
def State.imageUnfit (s : State) (pod sender : Nat) (im : ThreadImage) : Bool :=
  let die := pod / 6
  let spans := ((List.range 6).map (fun k => die * 6 + k)).flatMap (fun k => if k = pod then [] else (s.podOf k).sharedSpans)
  (s.dramTaken pod).any (fun (a, n) => spansMeet im.dramBase im.dramSize a n)
    || (decide (0 < im.dramSize) && decide (s.dramOf die * 2 ^ 30 < im.dramBase + im.dramSize))
    || decide ((s.freeDma sender).length < im.dma)
    || im.shared.any (fun (a, b) => spans.any (fun (c, n) => spansMeet a b.length c n))

/-- A channel endpoint with a DMA slot turned into its channel number (Table 16.7). -/
def bindEnd (slots : List Nat) (m : Nat) : Nat :=
  if mClass m = 5 then masterId 5 (mDie m) (slots.getD (mIndex m) 0) else m

/-- A thread at load: its record's ENTRY, INT_HANDLER and EVENT_SRC. -/
def loadThread (start : Bool) (b : List Byte) : Thread :=
  let entry := leAt b 0 8
  let th := { Thread.reset with entryPc := entry, intHandler := leAt b 8 8, imageSrc := leAt b 0x10 16 }
  if entry = 0xFFFFFFFFFFFFFFFF then th else th.atEntry (if start then .running else .stopped)

/-- The image loaded into a pod. -/
def State.loadPod (s : State) (pod sender : Nat) (start : Bool) (im : ThreadImage) : State :=
  let die := pod / 6
  let slots := (s.freeDma sender).take im.dma
  let s := im.podMem.foldl (fun s (a, b) => s.writeBytes (.pod pod) a b) s
  let s := im.shared.foldl (fun s (a, b) => s.writeBytes (.shared die) a b) s
  let s := im.chans.zipIdx.foldl (fun s (c, n) =>
    s.setChanOf (pod * 256 + n) { writer := bindEnd slots c.1, reader := bindEnd slots c.2.1, enable := c.2.2, words := [] }) s
  let s := slots.foldl (fun s c => s.modDmaCh (dmaKey die c) (fun x => { x with binder := .thread (pod * 72) })) s
  let s := s.modPodOf pod (fun p =>
    { p with loaded := true, slots := slots.zipIdx.map (fun (c, i) => (i, c)), dramBase := im.dramBase, dramSize := im.dramSize,
             reports := 0, sharedSpans := im.shared.map (fun (a, b) => (a, b.length)) })
  let s := im.threads.zipIdx.foldl (fun s (b, i) =>
    let t := pod * 72 + i
    if (s.thread t).state = .outOfService then s else (s.setThread t (loadThread start b)).fetchCheck t) s
  s.settleDie die

/-- THREAD_LOAD's parameters name a pod PF0 of the link may load (R536). -/
def State.podStatusOf (s : State) (p : Packet) : Except Nat Nat :=
  let b := p.params
  let die := leAt b 0 1
  if p.paramLen ≠ 16 ∨ 5 < leAt b 1 1 ∨ 3 < leAt b 2 1 ∨ leAt b 3 1 ≠ 0 then .error stBadParam
  else
    match s.dieStatus die with
    | some st => .error st
    | none => if p.sender ≠ pf0 die then .error stNotPermitted else .ok (die * 6 + leAt b 1 1)

/-- THREAD_LOAD without UNLOAD. -/
def loadAnswer (p : Packet) (s : State) : Answer :=
  let b := p.params
  match s.podStatusOf p with
  | .error st => s.fails st
  | .ok pod =>
    let idle := (List.range 72).all (fun i =>
      let st := (s.thread (pod * 72 + i)).state
      decide (st = .unloaded) || decide (st = .outOfService))
    if !idle then s.fails stWrongState
    else if !s.canIssue p.sender || s.ideBlocks p.sender (leAt b 8 8) then s.fails stDeviceFault
    else
      let image := s.hostRead p.sender (leAt b 8 8) (leAt b 4 4)
      match (linugSections (s.chipIdent % 256) image).bind (threadImage pod) with
      | none => s.fails stBadParam
      | some im =>
        if s.imageUnfit pod p.sender im then s.fails stNoResource
        else
          let s := s.loadPod pod p.sender (bit (leAt b 2 1) 0) im
          s.answers (s.podOf pod).slotBytes

/-- A pod is unloaded (R537). -/
def State.unloadPod (s : State) (pod : Nat) : State :=
  let die := pod / 6
  let ts := (List.range 72).map (fun i => pod * 72 + i)
  let s := ts.foldl State.killThread s
  let s := (List.range 256).foldl (fun s n => s.modChanOf (pod * 256 + n) (fun c => { c with enable := false, words := [] })) s
  let s := s.modPipe die (fun x => { x with p1Queue := x.p1Queue.map (fun (f : P1Frame) =>
    if f.chan.any (fun k => k / 256 == pod) then { f with chan := none } else f) })
  let s := (s.podOf pod).packets.foldl (fun s (_, p) => s.freePacket die p.cells p.ing) s
  let s := (s.podOf pod).slots.foldl (fun s (_, c) =>
    let k := dmaKey die c
    (s.dmaDrop k).modDmaCh k (fun x =>
      { x with binder := .none, busy := false, readBack := false, waiting := none, status := if x.busy then 0x07 else x.status })) s
  let s := s.modPodOf pod (fun p => { p with loaded := false, packets := [], slots := [], sharedSpans := [], dramBase := 0, dramSize := 0 })
  ts.foldl (fun s t => if (s.thread t).state = .outOfService then s else s.setThread t Thread.reset) s

/-- THREAD_LOAD with UNLOAD. -/
def unloadAnswer (p : Packet) (s : State) : Answer :=
  match s.podStatusOf p with
  | .error st => s.fails st
  | .ok pod => (s.unloadPod pod).answers ((s.unloadPod pod).podOf pod).slotBytes

/-- THREAD_LOAD by its FLAGS. -/
def runThreadLoad (p : Packet) (s : State) : Answer := if bit (leAt p.params 2 1) 1 then unloadAnswer p s else loadAnswer p s

/-- THREAD_LOAD (R536). -/
def execThreadLoad (p : Packet) (s : State) : Host.Outcome State Fault Refusal := runPlain 0x0901 p runThreadLoad s

/-- THREAD_UNLOAD (R537). -/
def execThreadUnload (p : Packet) (s : State) : Host.Outcome State Fault Refusal := runPlain 0x0901 p runThreadLoad s

/-- THREAD_QUERY's answer (R538). -/
def runThreadQuery (p : Packet) (s : State) : Answer :=
  let b := p.params
  let die := leAt b 0 1
  let pod := die * 6 + leAt b 1 1
  if p.paramLen ≠ 4 ∨ 5 < leAt b 1 1 ∨ 71 < leAt b 2 1 ∨ leAt b 3 1 ≠ 0 then s.fails stBadParam
  else
    match s.dieStatus die with
    | some st => s.fails st
    | none =>
      if mClass p.sender ≠ 0 ∧ mDie p.sender ≠ die then s.fails stNotPermitted
      else s.answers ((s.thread (pod * 72 + leAt b 2 1)).stateBytes ++ s.podStatus pod)

/-- THREAD_QUERY (R538). -/
def execThreadQuery (p : Packet) (s : State) : Host.Outcome State Fault Refusal := runPlain 0x0902 p runThreadQuery s

/-! ## THREAD_DEBUG (R527–R532) -/

/-- Table 16.6 with OP fixed: the thread a THREAD_DEBUG acts on, or its failing status. -/
def State.debugTarget (s : State) (p : Packet) : Except Nat Nat :=
  let b := p.params
  let op := leAt b 0 1
  let reg := leAt b 2 1
  let m := leAt b 4 3
  let regBad := if op = 5 then decide (reg < 1) || decide (32 < reg) else if 6 ≤ op then decide (3 < reg) else decide (reg ≠ 0)
  if p.paramLen ≠ 24 ∨ 7 < op ∨ 2 ≤ leAt b 1 1 ∨ (op ≠ 3 ∧ leAt b 1 1 ≠ 0) ∨ regBad = true ∨ leAt b 3 1 ≠ 0 ∨ leAt b 7 1 ≠ 0
    ∨ leAt b 0x10 8 ≠ 0 then .error stBadParam
  else if isThreadId m = false then .error stBadParam
  else
    match s.dieStatus (mDie m) with
    | some st => .error st
    | none => if p.sender ≠ pf0 (mDie m) then .error stNotPermitted else .ok (threadOfId m)

/-- The answer of an operation that shows THREAD_STATE. -/
def State.showsThread (s : State) (t : Nat) : Answer := s.answers (s.thread t).stateBytes

/-- STOP: a RUNNING or BLOCKED thread enters STOPPED (R528). -/
def debugStop (_ : Packet) (t : Nat) (s : State) : Answer :=
  let th := s.thread t
  if th.state = .running ∨ th.state = .blocked then
    ((s.setThread t { th.unwait .stopped with stepping := false }).settleDie (threadDie t)).showsThread t
  else if th.state = .stopped then s.showsThread t
  else s.fails stWrongState

/-- RESUME of a STOPPED thread: one stopped at a breakpoint goes on past it (R528, R532). -/
def debugResume (_ : Packet) (t : Nat) (s : State) : Answer :=
  let th := s.thread t
  if th.state = .stopped then
    ((s.setThread t { th with state := .running, breakSkip := th.breakHit, breakHit := false }).fetchCheck t).showsThread t
  else s.fails stWrongState

/-- STEP: `step` runs the instruction at the thread's address (R529). -/
def debugStep (step : Nat → State → State) (_ : Packet) (t : Nat) (s : State) : Answer :=
  let th := s.thread t
  if th.state = .stopped then
    let s := (s.setThread t { th with state := .running, breakSkip := true, breakHit := false, stepping := true }).fetchCheck t
    (step t s).showsThread t
  else s.fails stWrongState

/-- KILL (R531). The reply is the mask of locks that the thread held. -/
def debugKill (p : Packet) (t : Nat) (s : State) : Answer :=
  if (s.thread t).state = .outOfService then s.fails stWrongState
  else
    let locks := s.locksOf t
    let s := s.killThread t
    let s := if bit (leAt p.params 1 1) 0 then s.releaseLocks t else s
    s.answers (toLe 8 locks)

/-- READ (R530): 344 bytes. -/
def debugRead (_ : Packet) (t : Nat) (s : State) : Answer :=
  let th := s.thread t
  s.answers ((List.range 32).flatMap (fun n => toLe 8 (th.reg n).toNat) ++ toLe 8 th.pc ++ th.stateBytes
    ++ sub (th.staging.flatMap (fun w => toLe 8 w.toNat)) 0 64)

/-- WRITE_REG of a STOPPED thread (R528). -/
def debugWriteReg (p : Packet) (t : Nat) (s : State) : Answer :=
  let th := s.thread t
  let reg := leAt p.params 2 1
  let v := leAt p.params 8 8
  if th.state ≠ .stopped then s.fails stWrongState
  else (s.setThread t (if reg = 32 then { th with pc := v } else th.setReg reg (BitVec.ofNat 64 v))).showsThread t

/-- BREAK_SET (R532). -/
def debugBreakSet (p : Packet) (t : Nat) (s : State) : Answer :=
  (s.modPodOf (threadPod t) (fun x =>
    { x with breakpoints := Tbl.set x.breakpoints (leAt p.params 2 1) (leAt p.params 8 8) })).showsThread t

/-- BREAK_CLEAR (R532). -/
def debugBreakClear (p : Packet) (t : Nat) (s : State) : Answer :=
  (s.modPodOf (threadPod t) (fun x => { x with breakpoints := Tbl.del x.breakpoints (leAt p.params 2 1) })).showsThread t

/-- A THREAD_DEBUG operation under the checks of R527. -/
def debugWith (op : Packet → Nat → State → Answer) (p : Packet) (s : State) : Answer :=
  match s.debugTarget p with
  | .error st => s.fails st
  | .ok t => op p t s

/-- THREAD_DEBUG by its OP. -/
def runThreadDebug (step : Nat → State → State) (p : Packet) (s : State) : Answer :=
  match leAt p.params 0 1 with
  | 0 => debugWith debugStop p s
  | 1 => debugWith debugResume p s
  | 2 => debugWith (debugStep step) p s
  | 3 => debugWith debugKill p s
  | 4 => debugWith debugRead p s
  | 5 => debugWith debugWriteReg p s
  | 6 => debugWith debugBreakSet p s
  | _ => debugWith debugBreakClear p s

/-- A packet with the OP byte of a row. -/
def Packet.withOp (p : Packet) (op : Nat) : Packet := { p with params := overlay p.params 0 (toLe 1 op) }

/-- THREAD_DEBUG_STOP (R528). -/
def execThreadDebugStop (p : Packet) (s : State) : Host.Outcome State Fault Refusal :=
  runPlain 0x8901 (p.withOp 0) (debugWith debugStop) s

/-- THREAD_DEBUG_RESUME (R528). -/
def execThreadDebugResume (p : Packet) (s : State) : Host.Outcome State Fault Refusal :=
  runPlain 0x8901 (p.withOp 1) (debugWith debugResume) s

/-- THREAD_DEBUG_KILL (R531). -/
def execThreadDebugKill (p : Packet) (s : State) : Host.Outcome State Fault Refusal :=
  runPlain 0x8901 (p.withOp 3) (debugWith debugKill) s

/-- THREAD_DEBUG_READ (R530). -/
def execThreadDebugRead (p : Packet) (s : State) : Host.Outcome State Fault Refusal :=
  runPlain 0x8901 (p.withOp 4) (debugWith debugRead) s

/-- THREAD_DEBUG_WRITE_REG (R528). -/
def execThreadDebugWriteReg (p : Packet) (s : State) : Host.Outcome State Fault Refusal :=
  runPlain 0x8901 (p.withOp 5) (debugWith debugWriteReg) s

/-- THREAD_DEBUG_BREAK_SET (R532). -/
def execThreadDebugBreakSet (p : Packet) (s : State) : Host.Outcome State Fault Refusal :=
  runPlain 0x8901 (p.withOp 6) (debugWith debugBreakSet) s

/-- THREAD_DEBUG_BREAK_CLEAR (R532). -/
def execThreadDebugBreakClear (p : Packet) (s : State) : Host.Outcome State Fault Refusal :=
  runPlain 0x8901 (p.withOp 7) (debugWith debugBreakClear) s

/-! ## THREAD_CTRL (R503, R522) -/

/-- A write of THREAD_CTRL for a thread by an agent: only the supervisor's acts; another thread faults. -/
def State.ctrlWrite (s : State) (t writer v : Nat) : State :=
  let pod := threadPod t
  if !s.live (pod / 6) then s
  else if s.bySupervisor pod writer then s.threadCtrl t v
  else s.writerFault pod writer fcPrivilege 0

/-- THREAD_CTRL_RESUME. -/
def execThreadCtrlResume (t writer : Nat) (s : State) : Host.Outcome State Fault Refusal := .next (s.ctrlWrite t writer 1)

/-- THREAD_CTRL_RESTART. -/
def execThreadCtrlRestart (t writer : Nat) (s : State) : Host.Outcome State Fault Refusal := .next (s.ctrlWrite t writer 2)

/-- THREAD_CTRL_KILL. -/
def execThreadCtrlKill (t writer : Nat) (s : State) : Host.Outcome State Fault Refusal := .next (s.ctrlWrite t writer 4)

/-- THREAD_CTRL_RELEASE_LOCKS. -/
def execThreadCtrlReleaseLocks (t writer : Nat) (s : State) : Host.Outcome State Fault Refusal := .next (s.ctrlWrite t writer 8)

/-! ## Timers (R516) -/

/-- A write of DEADLINE arms the timer. -/
def State.armTimer (s : State) (t v : Nat) : State := s.modThread t (fun th => { th with deadline := v, armed := true })

/-- THREAD_EVENT_DEADLINE: a thread writes its own, the supervisor every thread's; another thread faults (R540). -/
def execThreadEventDeadline (t writer value : Nat) (s : State) : Host.Outcome State Fault Refusal :=
  .next (if !s.live (threadDie t) then s
    else if writer = threadId t ∨ s.bySupervisor (threadPod t) writer = true then s.armTimer t (value % 2 ^ 64)
    else s.writerFault (threadPod t) writer fcAccess (0x1003000 + 0x20 * podThread t + 0x10))

/-- THREAD_TIMER: the tick of the die has reached DEADLINE; the timer raises TIMER and disarms. -/
def execThreadTimer (t : Nat) (s : State) : Host.Outcome State Fault Refusal :=
  let th := s.thread t
  .next (if s.live (threadDie t) && th.armed && decide (th.deadline ≤ s.tickAt (threadDie t)) then
      (s.setThread t { th.raised 5 0 with armed := false }).settleThread t
    else s)

/-! ## Packet views (R507) -/

/-- PKT_VIEW_OPEN. -/
def execPktViewOpen (t view cell : Nat) (s : State) : Host.Outcome State Fault Refusal :=
  .next (if s.live (threadDie t) then s.viewOpen t view cell else s)

/-- PKT_VIEW_LENGTH. -/
def execPktViewLength (t view length : Nat) (s : State) : Host.Outcome State Fault Refusal :=
  .next (if s.live (threadDie t) then s.viewLength t view length else s)

/-- ALLOC. -/
def execAlloc (t view : Nat) (s : State) : Host.Outcome State Fault Refusal :=
  .next (if s.live (threadDie t) then s.viewAlloc t view else s)

/-- FREE. -/
def execFree (t view : Nat) (s : State) : Host.Outcome State Fault Refusal :=
  .next (if s.live (threadDie t) then s.viewFree t view else s)

/-! ## Locks (R518, R519) -/

/-- LOCK_READ: reads of a lock in one clock. The first of them in the lock's rotating priority takes a free lock, and every other
one reads HELD 1. -/
def execLockRead (pod lock : Nat) (readers : List Nat) (s : State) : Host.Outcome State Fault Refusal :=
  .next (if s.live (pod / 6) then s.readLocks pod (lock % 64) (s.lockOrder pod (lock % 64) readers) else s)

/-- LOCK_RELEASE: by the owner, the supervisor or firmware; another thread faults with ACCESS. -/
def execLockRelease (pod lock writer : Nat) (s : State) : Host.Outcome State Fault Refusal :=
  if !s.live (pod / 6) then .next s
  else
    match s.writeLock pod (lock % 64) writer with
    | (s, true) => .next s
    | (s, false) => .next (s.writerFault pod writer fcAccess (0x1000100 + 8 * (lock % 64)))

/-! ## Commits, interrupts and breakpoints -/

/-- MESSAGE_COMMIT (R510): a CHWE that waits commits once its channel has room. -/
def execMessageCommit (t : Nat) (s : State) : Host.Outcome State Fault Refusal :=
  let th := s.thread t
  let k := chanKey (threadDie t) (th.objectPod * 256 + th.object)
  let c := s.chanOf k
  if s.live (threadDie t) ∧ th.state = .blocked ∧ th.wait = .messageCommit ∧ c.enable = true ∧ c.writer = threadId t then
    match s.commit t k th.endWord with
    | .wait => .next s
    | .bad s => .next (s.threadFault t fcMessage none)
    | .done s => .next (s.modThread t (fun th => th.complete (th.pc + 4)))
  else .next s

/-- INTERRUPT_TAKE (R552). -/
def execInterruptTake (t : Nat) (s : State) : Host.Outcome State Fault Refusal :=
  let th := s.thread t
  .next (if s.live (threadDie t) && (decide (th.state = .running) || decide (th.state = .blocked)) && s.intDue t then s.takeInt t else s)

/-- BREAKPOINT_HIT (R532). -/
def execBreakpointHit (t : Nat) (s : State) : Host.Outcome State Fault Refusal :=
  .next (if s.live (threadDie t) && decide ((s.thread t).state = .running) && s.atBreak t then s.hitBreak t else s)

/-- STALEMATE_REPORT (R525, R526): the pod's stalemate set has held unchanged for 1,024 core clocks. -/
def execStalemateReport (pod : Nat) (s : State) : Host.Outcome State Fault Refusal :=
  .next (if s.live (pod / 6) && s.stalemateHeld pod then s.reportStalemate pod else s)

/-- CORE_FAILURE (R533, R534). -/
def execCoreFailure (pod position : Nat) (s : State) : Host.Outcome State Fault Refusal :=
  .next (if s.dieWorks (pod / 6) && decide (position < 8) && !bit (s.podOf pod).lostPositions position then s.coreFails pod position else s)

end Sys2Proof.Machine
end

