-- ==== Sys2Proof/Machine/TxnOps.lean ====
section
/-! DEFINITION. Transactions: their life, staging, conflicts, phase one and the commit point (spec/09): table rows 136–146,
148, 149, 152, 153, 120, 121, 128, 130, 131, 167. The rows that end a commit are in `Machine/Transport.lean`, since the
commands that waited for it then run. -/

namespace Sys2Proof.Machine

/-! ## The transactional commands (Table 09.3) -/

/-- QUEUE_SET_MAPPING at its switch instant (R442, R451). -/
def partMapping (p : Packet) (s : State) : PartResult :=
  match s.checkMapping p with
  | some st => .error st
  | none => .ok (s.applyMapping p.params, [])

/-- Entries of a queue mapping that a command changes. -/
def objsMapping (p : Packet) (_ : State) : List Nat :=
  let b := p.params
  let die := mDie (leAt b 0 3)
  if leAt b 3 1 = 0 then (List.range (leAt b 5 1)).map (fun i => objKey objMapping die (sub b 0 3 ++ toLe 2 (leAt b 4 1 + i)))
  else [objKey objMapping die (sub b 0 3 ++ toLe 2 (0x100 + leAt b 4 1))]

/-- A transactional command's effect as of a tempo, with the place reserved for it. PROGRAM_LOAD's part is that the bank it
wrote takes over. -/
def partOf (p : Packet) (tempo : Nat) (handle : Option Nat) (s : State) : PartResult :=
  if p.opcode = 0x0401 then partTableInsert p tempo handle s
  else if p.opcode = 0x0402 then partTableDelete p tempo s
  else if p.opcode = 0x8401 then partTableModify p tempo handle s
  else if p.opcode = 0x0404 then partSteerSet p tempo s
  else if p.opcode = 0x8403 then partActionParam p tempo s
  else if p.opcode = 0x0501 then partRateProfile p s
  else if p.opcode = 0x8501 then partTmNode p s
  else if p.opcode = 0x8502 then partShaper p s
  else if p.opcode = 0x8201 then partMapping p s
  else if p.opcode = 0x0701 then partKeyInstall p tempo s
  else if p.opcode = 0x0702 then partKeyRetire p tempo s
  else if p.opcode = 0x8402 then
    if s.tempo.bankBorn = tempo ∧ s.tempo.current ≠ tempo then .ok (s, [])
    else if s.bankClash (s.bankOf s.tempo.bank) (s.bankOf s.otherBank) then .error stWrongState
    else .ok (s.switchBank tempo, [])
  else .error stBadOpcode

/-- The objects a command changes (R322). -/
def objsOf (p : Packet) (s : State) : List Nat :=
  if p.opcode = 0x0401 ∨ p.opcode = 0x0402 ∨ p.opcode = 0x8401 then objsEntry p s
  else if p.opcode = 0x0404 then objsSteerSet p s
  else if p.opcode = 0x8403 then objsActionParam p s
  else if p.opcode = 0x0501 then objsRateProfile p s
  else if p.opcode = 0x8501 then objsTmNode p s
  else if p.opcode = 0x8502 then objsShaper p s
  else if p.opcode = 0x8201 then objsMapping p s
  else if p.opcode = 0x8402 then [objNum objBank 0 0]
  else objsKey p s

/-- The packet with the changes for dies that have left service lapsed, none where nothing is left (R334, R341). -/
def State.lapse (s : State) (p : Packet) : Option Packet :=
  if [0x0401, 0x0402, 0x8401, 0x0404, 0x8403].contains p.opcode then
    let m := leAt p.params 1 1
    if m = 0 then some p
    else
      let m' := ((List.range 8).filter (fun d => bit m d && s.dieWorks d)).foldl (fun a d => a + 2 ^ d) 0
      if m' = 0 then none else some { p with params := overlay p.params 1 (toLe 1 m') }
  else if p.opcode = 0x8402 then some p
  else
    let d := if p.opcode = 0x8201 then mDie (leAt p.params 0 3)
      else if p.opcode = 0x0501 then mDie (leAt p.params 0 3) else leAt p.params 0 1
    if s.dieWorks d then some p else none

/-- A staged command's effect, with lapsed changes left out. -/
def State.redo (s : State) (c : StagedCmd) (tempo : Nat) : PartResult :=
  match s.lapse c.packet with
  | none => .ok (s, [])
  | some p => partOf p tempo c.handle s

/-- Staged changes in staging order; one that no longer holds is passed over. -/
def State.applyStaged (s : State) (cs : List StagedCmd) (tempo : Nat) : State :=
  cs.foldl (fun s c => match s.redo c tempo with
    | .ok (t, _) => t
    | .error _ => s) s

/-- The first staged change that fails when checked again: its JSN and status. -/
def State.recheck (s : State) (tempo : Nat) : List StagedCmd → Option (Nat × Nat)
  | [] => none
  | c :: rest => match s.redo c tempo with
    | .ok (t, _) => t.recheck tempo rest
    | .error st => some (c.jsn, st)

/-- The tempo a commit decided now would take. -/
def State.nextTempo (s : State) : Nat := (s.tempo.current + 1) % 2 ^ 32

/-! ## Life of a transaction -/

def TxnState.code : TxnState → Nat
  | .opened => 0
  | .scheduled => 1
  | .prepared => 2
  | .committed => 3
  | .aborted => 4
  | .expired => 5

/-- An OPEN transaction expires (R323). -/
def State.expireTxn (s : State) (n : Nat) : State :=
  match Tbl.find s.tempo.txns n with
  | some t => if t.state = .opened then s.finishTxn n t .expired else s
  | none => s

/-- Transactions whose timeout has passed expire before a command is decided (R323, R341). -/
def State.expireTxns (s : State) : State :=
  let due := s.tempo.txns.filter (fun (_, t) => decide (t.state = .opened) && decide (t.deadline ≤ s.leadTick))
  due.foldl (fun s e => s.expireTxn e.1) s

/-- A command of its owner is decided in a transaction: its timeout restarts (R323, Table 09.8, log 121). -/
def State.touchTxn (s : State) (n : Nat) : State :=
  match Tbl.find s.tempo.txns n with
  | some t => if t.state = .opened then s.setTxn n { t with deadline := s.leadTick + t.timeoutMs * ticksPerMs } else s
  | none => s

/-- TXN_EXPIRY (R323): its deadline has passed. -/
def execTxnExpiry (txn : Nat) (s : State) : Host.Outcome State Fault Refusal :=
  .next (match Tbl.find s.tempo.txns txn with
    | some t => if t.deadline ≤ s.leadTick then s.expireTxn txn else s
    | none => s)

/-- The next transaction number (R320). -/
def nextTxnNumber (txns : Tbl Txn) (n : Nat) : Nat → Nat
  | 0 => n
  | fuel + 1 => if (Tbl.find txns n).isSome then nextTxnNumber txns (n % 65535 + 1) fuel else n

/-- TXN_BEGIN's answer (R318, R319, Table 09.2). With no parameters at all, every parameter is zero (log 95). -/
def runTxnBegin (p : Packet) (s : State) : Answer :=
  let s := s.expireTxns
  let b := p.params
  let ms := leAt b 0 4
  let fl := leAt b 4 1
  let cross := bit fl 0
  if p.txn ≠ 0 ∨ (p.paramLen ≠ 16 ∧ p.paramLen ≠ 0) ∨ 4 ≤ fl ∨ leAt b 5 3 ≠ 0 ∨ leAt b 0x0C 4 ≠ 0 ∨ (ms ≠ 0 ∧ (ms < 1000 ∨ 3600000 < ms))
    ∨ (cross = false ∧ leAt b 8 4 ≠ 0) then s.fails stBadParam
  else if cross ∧ mClass p.sender ≠ 4 then s.fails stNotPermitted
  else if 64 ≤ (s.tempo.txns.filter (fun e => e.2.state.live)).length then s.fails stNoResource
  else
    let n := nextTxnNumber s.tempo.txns s.tempo.nextTxn 400
    let ms := if ms = 0 then 30000 else ms
    let t : Txn :=
      { state := .opened, owner := p.sender, crossPackage := cross, abortOnReset := bit fl 1, group := leAt b 8 4, timeoutMs := ms,
        deadline := s.leadTick + ms * ticksPerMs, staged := [], instant := 0, tempo := 0, late := false, failJsn := 0,
        failStatus := 0, commitCmd := none, commitPoint := false }
    let s := s.setTxn n t
    { s with tempo := { s.tempo with nextTxn := n % 65535 + 1 } }.answers (toLe 2 n ++ toLe 2 0 ++ toLe 4 ms)

/-- TXN_BEGIN (R319). -/
def execTxnBegin (p : Packet) (s : State) : Host.Outcome State Fault Refusal := runPlain 0x0B01 p runTxnBegin s

/-! ## Staging (R321, R322, R327) -/

/-- The TCAM address that a staged insert reserves: its HANDLE. -/
def State.handleOf (s : State) (p : Packet) (result : List Byte) : Option Nat :=
  if p.opcode = 0x0401 ∨ p.opcode = 0x8401 then
    match (s.bankOf s.tempo.bank).table? (s.dramOf s.roles.lead) (leAt p.params 0 1) with
    | some d => if d.kind = .tcam then some (leAt result 0 4) else none
    | none => none
  else none

/-- Whether a transaction's sender owns it. -/
def Txn.ownedBy (t : Txn) (m : Nat) : Bool := sameMaster t.owner m

/-- The failing status of a command that names a transaction which must be OPEN (R321). -/
def Txn.notOpen (t : Txn) : Option Nat :=
  if t.state = .opened then none else if t.state = .expired then some stExpired else some stWrongState

/-- The state that a transaction's earlier staged changes make of the committed state. -/
def State.folded (s : State) (t : Txn) : State := s.applyStaged t.staged s.nextTempo

/-- A bank is written into the place not in force (R264). -/
def State.writeBank (s : State) (b : Bank) : State := s.setBankOf s.otherBank b

/-- What a transactional command would do now on top of a state: its result, and the bank it writes. -/
def State.tryPart (s : State) (p : Packet) (onto : State) : Except Nat (List Byte × Option Bank) :=
  if p.opcode = 0x8402 then
    let claim := if s.tempo.bankClaim = some p.txn then none else s.tempo.bankClaim
    (partProgramLoad p { onto with tempo := { onto.tempo with bank := s.tempo.bank, bankClaim := claim } }).map (fun b => ([], some b))
  else (partOf p s.nextTempo none onto).map (fun r => (r.2, none))

/-- A command staged in its transaction. -/
def State.stage (p : Packet) (n : Nat) (t : Txn) (s : State) : Answer :=
  let onto := s.folded t
  let s := if bit p.flags 0 then s else s.touchTxn n
  match s.tryPart p onto with
  | .error st => s.fails st
  | .ok (result, bank) =>
    let objs := (objsOf p onto).eraseDups
    if 1048576 < (t.objects ++ objs).eraseDups.length then s.fails stNoResource
    else if bit p.flags 0 then s.fails stStaged
    else
      let c : StagedCmd :=
        { packet := p, jsn := s.journal.next, objects := objs.map (fun o => (o, s.tempo.nextStamp)), handle := onto.handleOf p result }
      let s := match bank with
        | some b => let s := s.writeBank b; { s with tempo := { s.tempo with bankClaim := some n } }
        | none => s
      let t := (Tbl.find s.tempo.txns n).getD t
      { state := s.setTxn n { t with staged := t.staged ++ [c] }, status := some stStaged, result := result }

/-! ## Phase one (R331) -/

/-- The commands of a commit. -/
def State.commitCmds (s : State) (c : Commit) : List StagedCmd :=
  match c.single with
  | some x => [x]
  | none => ((Tbl.find s.tempo.txns c.txn).map (fun t => t.staged)).getD []

/-- Working dies that a commit's changes name. -/
def State.commitDies (s : State) (objs : List Nat) : List Nat :=
  if objs.contains (objNum objBank 0 0) then s.workingDies else s.workingDies.filter (fun d => objs.any (fun o => objDie o == d))

def State.setCommit (s : State) (c : Option Commit) : State := { s with tempo := { s.tempo with inProgress := c } }

/-- The instant of the commit point plus 2 µs, or the stated instant (R332, R337). -/
def State.switchInstant (s : State) (c : Commit) : Nat :=
  match Tbl.find s.tempo.txns c.txn with
  | some t => if t.instant = 0 then s.nowNs + 2000 else t.instant
  | none => s.nowNs + 2000

/-- Ticks in 2 µs. -/
def switchTicks : Nat := 3200

/-- The tick before which a commit makes no switch: 2 µs after its commit point, or after the last switch where its instant is
stated (R313, R332). -/
def State.switchFloor (s : State) (c : Commit) : Nat :=
  match Tbl.find s.tempo.txns c.txn, s.tempo.switchTick with
  | some t, some k => if t.instant = 0 then s.leadTick + switchTicks else k + switchTicks
  | some t, none => if t.instant = 0 then s.leadTick + switchTicks else 0
  | none, _ => s.leadTick + switchTicks

/-- The switch of a commit is due: its commit point and its instant have passed (R333, R337). -/
def State.switchDue (s : State) (c : Commit) : Bool :=
  c.committed && decide (c.notBefore ≤ s.leadTick) && (match Tbl.find s.tempo.txns c.txn with
    | some t => decide (t.instant ≤ s.nowNs)
    | none => true)

/-- Result data of a successful TXN_COMMIT (R330). -/
def commitResult (tempo : Nat) (late : Bool) (instant : Nat) : List Byte := toLe 4 tempo ++ toLe 1 (b2n late) ++ toLe 3 0 ++ toLe 8 instant

/-- The commit point: the journal entry is recorded and the switch instant chosen (R331). A cross-package transaction was
recorded when COMMIT came (R339). The commit is LATE where INSTANT has been reached before phase one was complete (R337). -/
def State.commitPoint (s : State) (c : Commit) : State :=
  let at_ := s.switchInstant c
  let jsn := s.journal.next
  let c := { c with notBefore := s.switchFloor c }
  match c.single, Tbl.find s.tempo.txns c.txn with
  | some x, _ =>
    let result := match s.redo x c.tempo with
      | .ok (_, r) => r
      | .error _ => []
    let s := s.recordCommand x.packet stOk s.tempo.current result
    { s with tempo := { s.tempo with switchPending := true, inProgress := some { c with committed := true, jsn := jsn, result := result, switchAt := at_ } } }
  | none, some t =>
    let late := t.late || (decide (t.instant ≠ 0) && decide (t.instant < s.nowNs))
    let result := commitResult c.tempo late at_
    let s := s.setTxn c.txn { t with late := late }
    let s := match t.commitCmd with
      | some p => s.recordCommand p stOk s.tempo.current result
      | none => s
    { s with tempo := { s.tempo with switchPending := true, inProgress := some { c with committed := true, jsn := jsn, result := result, switchAt := at_ } } }
  | none, none => s.setCommit none

/-- Phase one begins: the new tempo is assigned and PREPARE sent to each named die. With none named, the commit point
follows at once. -/
def State.beginPhaseOne (s : State) (txn : Nat) (single : Option StagedCmd) (objs : List Nat) : State :=
  let dies := s.commitDies objs
  let c : Commit :=
    { txn := txn, single := single, tempo := s.nextTempo, waiting := dies.foldl (fun a d => a + 2 ^ d) 0, prepared := 0, failed := none,
      committed := false, jsn := 0, result := [], switchAt := 0, notBefore := 0 }
  if dies.isEmpty then s.commitPoint c else s.setCommit (some c)

/-- Kind and name of an object. -/
def objKind (o : Nat) : Nat := o % 2 ^ 8
def objIndex (o : Nat) : Nat := o / 2 ^ 16 % 2 ^ 32

/-- A die must wait before it writes a commit's changes: a version that a change must overwrite is still visible (R271,
R403), or a table would take a seventeenth root version (R252). -/
def State.mustWait (s : State) (die : Nat) (objs : List Nat) : Bool :=
  let p := s.pipe die
  let inPipe := (s.flight.filter (fun (_, k) => k.die == die && (decide (k.phase = .hold) || decide (k.phase = .flowWait)))).map
    (fun e => e.2.tempo)
  let dual := fun (v : Versioned) => inPipe.any (fun t => earlier t v.newBorn)
  objs.any (fun o => objDie o == die && (
    (objKind o == objSet && dual (Tbl.look Versioned.reset p.sets (objIndex o)))
      || (objKind o == objTemplate && dual (Tbl.look Versioned.reset p.templates (objIndex o)))
      || (objKind o == objKeySlot && s.slotWaits die (objIndex o))
      || (objKind o == objEntry && decide (15 ≤ (p.roots.filter (fun r => r.1 == o / 2 ^ 16 % 2 ^ 8)).length))))

/-- PREPARE (R331): a named die writes its changes into their reserved places, waiting where it must. -/
def execPrepare (die : Nat) (s : State) : Host.Outcome State Fault Refusal :=
  match s.tempo.inProgress with
  | none => .next s
  | some c =>
    if c.committed || !bit c.waiting die || bit c.prepared die || !s.live die then .next s
    else
      let objs := ((s.commitCmds c).flatMap (fun x => x.objects.map (fun e => e.1)))
      if s.mustWait die objs then .next (s.modPipe die (fun p => { p with commitWait := true }))
      else
        .next ((s.modPipe die (fun p => { p with commitWait := false })).setCommit (some { c with prepared := setBit c.prepared die true }))

/-! ## Single commands (R326) -/

/-- A transactional command that carries no transaction: it is committed as one of its own. -/
def State.commitSingle (p : Packet) (s : State) : Answer :=
  match s.tryPart p s with
  | .error st => s.fails st
  | .ok (result, bank) =>
    let objs := (objsOf p s).eraseDups
    if objs.any (s.lockedBut 0) then
      if bit p.flags 0 then s.fails stConflict
      else { s with tempo := { s.tempo with conflictCount := satAdd 0xFFFF s.tempo.conflictCount 1 } }.fails stConflict
    else if bit p.flags 0 then s.answers []
    else
      let c : StagedCmd := { packet := p, jsn := 0, objects := objs.map (fun o => (o, 0)), handle := s.handleOf p result }
      let s := match bank with
        | some b => s.writeBank b
        | none => s
      { state := s.beginPhaseOne 0 (some c) objs, status := none, result := [] }

/-- A transactional command: staged in its transaction, or committed on its own (R321, R326). Counter clears are neither
(R304). -/
def runTransactional (p : Packet) (s : State) : Answer :=
  if p.opcode = 0x8403 ∧ leAt p.params 0 1 = 3 then
    match partActionParam p s.tempo.current s with
    | .error st => s.fails st
    | .ok (t, r) => if bit p.flags 0 then s.answers r else t.answers r
  else
    let s := s.expireTxns
    if p.txn = 0 then s.commitSingle p
    else
      match Tbl.find s.tempo.txns p.txn with
      | none => s.fails stNotFound
      | some t =>
        if !t.ownedBy p.sender then s.fails stNotPermitted
        else match t.notOpen with
          | some st => s.fails st
          | none => s.stage p p.txn t

/-- TABLE_INSERT (R260). -/
def execTableInsert (p : Packet) (s : State) : Host.Outcome State Fault Refusal := runPlain 0x0401 p runTransactional s
/-- TABLE_DELETE (R261). -/
def execTableDelete (p : Packet) (s : State) : Host.Outcome State Fault Refusal := runPlain 0x0402 p runTransactional s
/-- TABLE_MODIFY (R262). -/
def execTableModify (p : Packet) (s : State) : Host.Outcome State Fault Refusal := runPlain 0x8401 p runTransactional s
/-- PROGRAM_LOAD (R264). -/
def execProgramLoad (p : Packet) (s : State) : Host.Outcome State Fault Refusal := runPlain 0x8402 p runTransactional s
/-- STEER_SET (R303). -/
def execSteerSet (p : Packet) (s : State) : Host.Outcome State Fault Refusal := runPlain 0x0404 p runTransactional s
/-- ACTION_PARAM_SET (R304). -/
def execActionParamSet (p : Packet) (s : State) : Host.Outcome State Fault Refusal := runPlain 0x8403 p runTransactional s
/-- RATE_PROFILE_SET (R370). -/
def execRateProfileSet (p : Packet) (s : State) : Host.Outcome State Fault Refusal := runPlain 0x0501 p runTransactional s
/-- TM_NODE_SET (R371). -/
def execTmNodeSet (p : Packet) (s : State) : Host.Outcome State Fault Refusal := runPlain 0x8501 p runTransactional s
/-- SHAPER_SET (R369). -/
def execShaperSet (p : Packet) (s : State) : Host.Outcome State Fault Refusal := runPlain 0x8502 p runTransactional s
/-- QUEUE_SET_MAPPING (R451). -/
def execQueueSetMapping (p : Packet) (s : State) : Host.Outcome State Fault Refusal := runPlain 0x8201 p runTransactional s
/-- KEY_INSTALL (R404). -/
def execKeyInstall (p : Packet) (s : State) : Host.Outcome State Fault Refusal := runPlain 0x0701 p runTransactional s
/-- KEY_RETIRE (R404). -/
def execKeyRetire (p : Packet) (s : State) : Host.Outcome State Fault Refusal := runPlain 0x0702 p runTransactional s

/-! ## TXN_COMMIT (R328–R337) -/

/-- The first staged change that conflicts: another commit took effect on an object of it, or locks it (R328, R329). -/
def State.conflictIn (s : State) (n : Nat) (t : Txn) : Option Nat :=
  (t.staged.find? (fun c => c.objects.any (fun (o, _) =>
    let first := ((t.staged.filterMap (fun c => (c.objects.find? (fun e => e.1 == o)).map (fun e => e.2))).head?).getD 0
    decide (first ≤ Tbl.look 0 s.tempo.lastCommit o) || s.lockedBut n o))).map (fun c => c.jsn)

/-- A commit fails: the transaction is ABORTED and nothing has taken effect. -/
def State.failCommit (s : State) (n : Nat) (t : Txn) (jsn status : Nat) : State :=
  s.finishTxn n { t with failJsn := jsn, failStatus := status } .aborted

/-- PREPARE_LEAD in nanoseconds (R335). -/
def State.prepareLead (s : State) (t : Txn) : Nat :=
  let objs := t.objects
  let most := (List.range s.dieCount).foldl (fun m d => max m (objs.filter (fun o => objDie o == d)).length) 0
  200000 + 100 * most

/-- The failing status of a stated instant (R335, R336). -/
def State.instantStatus (s : State) (t : Txn) (at_ : Nat) : Option Nat :=
  let now := s.nowNs
  let held := s.tempo.txns.filter (fun e => decide (e.2.state = .scheduled) || decide (e.2.state = .prepared))
  if at_ < now + max 1000000 (s.prepareLead t + 500000) ∨ now + 10000000000 < at_ then some stBadParam
  else if held.any (fun e => decide (at_ ≤ e.2.instant + 50000) && decide (e.2.instant ≤ at_ + 50000)) then some stWrongState
  else if 16 ≤ held.length then some stNoResource
  else none

/-- TXN_COMMIT's answer (R330). With no parameters at all, every parameter is zero (log 95). -/
def runTxnCommit (p : Packet) (s : State) : Answer :=
  let s := s.expireTxns
  let b := p.params
  let fl := leAt b 0 1
  let timed := bit fl 0
  let at_ := leAt b 8 8
  let n := p.txn
  let dry := bit p.flags 0
  if (p.paramLen ≠ 16 ∧ p.paramLen ≠ 0) ∨ 2 ≤ fl ∨ leAt b 1 7 ≠ 0 ∨ (timed = false ∧ at_ ≠ 0) then s.fails stBadParam
  else
    match Tbl.find s.tempo.txns n with
    | none => s.fails stNotFound
    | some t =>
      if t.crossPackage then s.fails stWrongState
      else if !t.ownedBy p.sender then s.fails stNotPermitted
      else match t.notOpen with
        | some st => s.fails st
        | none =>
          let s := if dry then s else s.touchTxn n
          match if timed then s.instantStatus t at_ else none with
          | some st => s.fails st
          | none =>
            match s.conflictIn n t, s.recheck s.nextTempo t.staged with
            | some j, _ =>
              if dry then s.fails stConflict
              else
                let s := s.failCommit n t j stConflict
                { state := { s with tempo := { s.tempo with conflictCount := satAdd 0xFFFF s.tempo.conflictCount 1 } },
                  status := some stConflict, result := failResult j stConflict }
            | none, some (j, st) =>
              if dry then s.fails stTxnAborted
              else { state := s.failCommit n t j st, status := some stTxnAborted, result := failResult j st }
            | none, none =>
              if dry then s.answers []
              else
                let t := { (Tbl.find s.tempo.txns n).getD t with commitCmd := some p.answered }
                if timed then
                  let s := s.setTxn n { t with state := .scheduled, instant := at_ }
                  let s := match p.route with
                    | .chain _ => s.deliver p (p.reply stBusy 0 0 0 [])
                    | _ => s.setTxn n { t with state := .scheduled, instant := at_, commitCmd := some p }
                  { state := s, status := none, result := [] }
                else
                  { state := (s.setTxn n { t with commitCmd := some p }).beginPhaseOne n none t.objects, status := none, result := [] }

/-- TXN_COMMIT (R330). -/
def execTxnCommit (p : Packet) (s : State) : Host.Outcome State Fault Refusal := runPlain 0x0B02 p runTxnCommit s

/-- PHASE_ONE (R331, R336, R337): at INSTANT − PREPARE_LEAD a transaction with a stated instant begins its phase one, the
earliest instant first, once no other commit is in progress. -/
def execPhaseOne (txn : Nat) (s : State) : Host.Outcome State Fault Refusal :=
  let due := fun (t : Txn) => decide (t.state = .scheduled) || (decide (t.state = .prepared) && t.commitPoint)
  match Tbl.find s.tempo.txns txn with
  | none => .next s
  | some t =>
    let earlierOne := s.tempo.txns.any (fun e => due e.2 && decide (e.2.instant < t.instant))
    if !s.decides || s.leadBusy || s.tempo.inProgress.isSome || !due t || earlierOne
      || decide (s.nowNs + s.prepareLead t < t.instant) then .next s
    else .next (s.beginPhaseOne txn none t.objects)

/-! ## TXN_ABORT, TXN_QUERY -/

/-- TXN_ABORT's answer (R324). The chain head may abort any transaction that is not CROSS_PACKAGE. -/
def runTxnAbort (p : Packet) (s : State) : Answer :=
  let s := s.expireTxns
  match Tbl.find s.tempo.txns p.txn with
  | none => s.fails stNotFound
  | some t =>
    if p.paramLen ≠ 0 then s.fails stBadParam
    else if !t.ownedBy p.sender && !(mClass p.sender == 4 && !t.crossPackage) then s.fails stNotPermitted
    else if t.state ≠ .opened ∧ t.state ≠ .scheduled then s.fails stWrongState
    else if bit p.flags 0 then s.answers []
    else (s.abortTxn p.txn t).answers []

/-- TXN_ABORT (R324). -/
def execTxnAbort (p : Packet) (s : State) : Host.Outcome State Fault Refusal := runPlain 0x0B03 p runTxnAbort s

/-- A transaction record (Table 09.9). -/
def State.txnRecord (s : State) (n : Nat) (t : Txn) : List Byte :=
  let detail := match t.state with
    | .committed => t.instant
    | .scheduled => t.instant
    | .prepared => t.instant
    | .aborted => t.failJsn
    | _ => 0
  let left := if t.state = .opened then (t.deadline - s.leadTick) / ticksPerMs else 0
  toLe 2 n ++ toLe 1 t.state.code ++ toLe 1 (b2n t.crossPackage + 2 * b2n t.abortOnReset + 4 * b2n t.late) ++ toLe 3 t.owner
    ++ toLe 1 0 ++ toLe 4 t.objects.length ++ toLe 4 left ++ toLe 4 (if t.state = .committed then t.tempo else 0) ++ toLe 4 t.group
    ++ toLe 8 detail

/-- TXN_QUERY's answer (R342). -/
def runTxnQuery (p : Packet) (s : State) : Answer :=
  let s := s.expireTxns
  let all := decide (mClass p.sender = 4)
  if p.paramLen ≠ 0 then s.fails stBadParam
  else if p.txn = 0 then
    s.answers ((s.tempo.txns.filter (fun e => e.2.state.live && (all || e.2.ownedBy p.sender))).flatMap (fun e => s.txnRecord e.1 e.2))
  else
    match Tbl.find s.tempo.txns p.txn with
    | none => s.fails stNotFound
    | some t => if all || t.ownedBy p.sender then s.answers (s.txnRecord p.txn t) else s.fails stNotPermitted

/-- TXN_QUERY (R342). -/
def execTxnQuery (p : Packet) (s : State) : Host.Outcome State Fault Refusal := runPlain 0x0B04 p runTxnQuery s

/-! ## The end of a commit -/

/-- UNDO: a die answered FAIL (R331). -/
def State.undoCommit (s : State) (c : Commit) (jsn status : Nat) : State :=
  let calm := fun (e : Nat × Pipe) => (e.1, { e.2 with commitWait := false })
  let s := { s with pipes := s.pipes.map calm }
  let s := s.setCommit none
  let j := s.journal.next
  match c.single, Tbl.find s.tempo.txns c.txn with
  | some x, _ =>
    (s.recordCommand x.packet stTxnAborted s.tempo.current []).deliver x.packet (x.packet.reply stTxnAborted 0 j 0 [])
  | none, some t =>
    let s := s.failCommit c.txn t jsn status
    let res := failResult jsn status
    match t.commitCmd with
    | some p => (s.recordCommand p stTxnAborted s.tempo.current res).deliver p (p.reply stTxnAborted 0 j 0 res)
    | none => s
  | none, none => s

/-- A die's answer (R331). `ready` is false where the die found a failure of its own. -/
def State.prepareAnswer (s : State) (die : Nat) (ready : Bool) : State :=
  match s.tempo.inProgress with
  | none => s
  | some c =>
    if c.committed || !bit c.waiting die || !bit c.prepared die then s
    else
      let again := s.recheck c.tempo (s.commitCmds c)
      let failed := match c.failed, again with
        | some f, _ => some f
        | none, some f => some f
        | none, none => if ready then none else some (0, 0)
      let c := { c with waiting := setBit c.waiting die false, failed := failed }
      if c.waiting ≠ 0 then s.setCommit (some c)
      else match failed with
        | some (j, st) => s.undoCommit c j st
        | none => s.commitPoint c

/-- The switch (R331, R333, R337): every working die takes the new tempo, and the changes are those of the commit. -/
def State.switchTempo (s : State) : State :=
  match s.tempo.inProgress with
  | none => s
  | some c =>
    if !c.committed then s
    else
      let cs := s.commitCmds c
      let now := max s.nowNs c.switchAt
      let s := (s.applyStaged cs c.tempo).stampObjects ((cs.flatMap (fun x => x.objects.map (fun e => e.1))).eraseDups)
      let s := { s with tempo := { s.tempo with
        current := c.tempo, switchTime := now, switchPending := false, inProgress := none, switchTick := some s.leadTick,
        committedCount := satAdd 0xFFFF s.tempo.committedCount 1 } }
      match c.single, Tbl.find s.tempo.txns c.txn with
      | some x, _ => s.deliver x.packet (x.packet.reply stOk 0 c.jsn c.tempo c.result)
      | none, some t =>
        let s := s.finishTxn c.txn { t with tempo := c.tempo, instant := now } .committed
        match t.commitCmd with
        | some p => s.deliver p (p.reply stOk 0 c.jsn c.tempo (commitResult c.tempo t.late now))
        | none => s
      | none, none => s

/-! ## Ageing and reclamation (R314, R316) -/

/-- The oldest in-flight tempo of a die (R315). -/
def State.oldestTempo (s : State) (die : Nat) : Nat :=
  (s.flightTempos die).foldl (fun a t => if earlier t a then t else a) s.tempo.current

/-- BORN rewritten to the oldest in-flight tempo where it is earlier than the current tempo by 2^29 or more. -/
def agedBorn (current oldest born : Nat) : Nat :=
  let d := (current + 2 ^ 32 - born % 2 ^ 32) % 2 ^ 32
  if 2 ^ 29 ≤ d ∧ d ≤ 2 ^ 31 - 1 then oldest else born

/-- AGEING_SWEEP (R314). -/
def execAgeingSweep (die : Nat) (s : State) : Host.Outcome State Fault Refusal :=
  if s.live die then
    let cur := s.tempo.current
    let age := agedBorn cur (s.oldestTempo die)
    let ver := fun (e : Nat × Versioned) => (e.1, { e.2 with bornA := age e.2.bornA, bornB := age e.2.bornB })
    let key := fun (e : Nat × KeySlot) =>
      (e.1, { e.2 with newer := { e.2.newer with born := age e.2.newer.born }, older := { e.2.older with born := age e.2.older.born } })
    let s := s.modPipe die (fun p =>
      { p with entries := p.entries.map (fun e => { e with born := age e.born }), sets := p.sets.map ver,
               templates := p.templates.map ver })
    .next ((s.modCipherOf die (fun c => { c with slots := c.slots.map key }))
      |> fun s => { s with tempo := { s.tempo with bankBorn := age s.tempo.bankBorn } })
  else .next s

/-- A key version that retirement has made invisible is erased (R406). -/
def KeyVersion.reclaim (v : KeyVersion) (oldest : Nat) : KeyVersion :=
  match v.retired with
  | some r => if earlier oldest r then v else KeyVersion.reset
  | none => v

/-- RECLAIM (R316): versions retired at tempos that the oldest packet in flight has reached. -/
def execReclaim (die : Nat) (s : State) : Host.Outcome State Fault Refusal :=
  if s.live die then
    let old := s.oldestTempo die
    let kept := fun (r : Nat) => earlier old r
    let s := s.modPipe die (fun p =>
      let stays := fun (e : TEntry) => match e.retired with
        | some r => kept r
        | none => true
      { p with entries := p.entries.filter stays, roots := p.roots.filter (fun r => kept r.2) })
    let slot := fun (e : Nat × KeySlot) => (e.1, { e.2 with newer := e.2.newer.reclaim old, older := e.2.older.reclaim old })
    .next (s.modCipherOf die (fun c => { c with slots := (c.slots.map slot).filter (fun e => decide (e.2 ≠ KeySlot.reset)) }))
  else .next s

end Sys2Proof.Machine
end

