-- ==== Sys2Proof/Machine/Time.lean ====
section
/-! DEFINITION. The time unit: changes of the model, alignment of the dies, capture, and the PPS pins (spec/11): table rows
154–163. -/

namespace Sys2Proof.Machine

/-! ## Commands (R380–R382) -/

/-- TIME_QUERY's answer: read at one time clock of the lead. -/
def runTimeQuery (p : Packet) (s : State) : Answer :=
  if p.paramLen ≠ 0 then s.fails stBadParam
  else
    let d := s.roles.lead
    s.answers (toLe 8 (s.tickAt d) ++ toLe 12 (s.timeModel.full (s.tickAt d)) ++ toLe 4 (s.timeStatus d) ++ toLe 8 s.timeModel.rate)

/-- TIME_QUERY (R382). -/
def execTimeQuery (p : Packet) (s : State) : Host.Outcome State Fault Refusal := runPlain 0x0601 p runTimeQuery s

/-- The pending change: its tick, step, new rate (0: unchanged), whether it sets the time, and to what. -/
def State.setPending (s : State) (k : Nat) (step : Int) (rate : Nat) (isSet : Bool) (value : Nat) : State :=
  { s with timeModel := { s.timeModel with pending := some (k, step, rate, isSet, value) } }

/-- TIME_SET's answer (R381): the change tick is 3,200 ticks ahead. -/
def runTimeSet (p : Packet) (s : State) : Answer :=
  let b := p.params
  if s.timeModel.pending.isSome then s.fails stBusy
  else if p.paramLen ≠ 16 ∨ leAt b 10 6 ≠ 0 then s.fails stBadParam
  else
    let k := s.leadTick + 3200
    (s.setPending k 0 0 true (leAt b 0 8 * 2 ^ 16 + leAt b 8 2)).answers (toLe 8 k)

/-- TIME_SET (R381). -/
def execTimeSet (p : Packet) (s : State) : Host.Outcome State Fault Refusal := runPlain 0x0602 p runTimeSet s

/-- Nominal RATE, and how far a new rate may lie from it (R382). -/
def nominalRate : Nat := 0xA00000000000
def rateSpan : Nat := 175921860444

/-- TIME_ADJUST's answer (R382, Table 11.1). -/
def runTimeAdjust (p : Packet) (s : State) : Answer :=
  let b := p.params
  let fl := leAt b 0 1
  let step := signed 64 (leAt b 0x10 8)
  let rate := leAt b 0x18 8
  let now := s.leadTick
  let k := if bit fl 2 then leAt b 8 8 else now + 3200
  if s.timeModel.pending.isSome then s.fails stBusy
  else if p.paramLen ≠ 32 ∨ 8 ≤ fl ∨ leAt b 1 7 ≠ 0 ∨ fl % 4 = 0 ∨ k < now + 3200 ∨ now + 1600000000 < k
    ∨ (bit fl 1 = true ∧ (rate + rateSpan < nominalRate ∨ nominalRate + rateSpan < rate))
    ∨ (bit fl 0 = true ∧ (s.timeModel.full k : Int) + step < 0)
    ∨ (bit fl 2 = false ∧ leAt b 8 8 ≠ 0) ∨ (bit fl 0 = false ∧ leAt b 0x10 8 ≠ 0) ∨ (bit fl 1 = false ∧ rate ≠ 0)
    then s.fails stBadParam
  else (s.setPending k (if bit fl 0 then step else 0) (if bit fl 1 then rate else 0) false (b2n (bit fl 0))).answers (toLe 8 k)

/-- TIME_ADJUST (R382). -/
def execTimeAdjust (p : Packet) (s : State) : Host.Outcome State Fault Refusal := runPlain 0x8601 p runTimeAdjust s

/-! ## The change tick (R379) -/

/-- The model rebased at a change tick. A TIME_ADJUST's value field tells whether it steps. -/
def TimeModel.rebase (m : TimeModel) : TimeModel :=
  match m.pending with
  | none => m
  | some (k, step, rate, isSet, value) =>
    let e := (k - m.baseTick) * m.rate + m.offsetSub
    let steps := isSet || value == 1
    { m with
      offset := if isSet then value % 2 ^ 96 else unsigned 96 ((m.offset + e / 2 ^ 32 : Nat) + step),
      offsetSub := if isSet then 0 else e % 2 ^ 32, rate := if rate = 0 then m.rate else rate, baseTick := k, pending := none,
      valid := m.valid || steps, steps := if steps then satAdd 0xFFFF m.steps 1 else m.steps }

/-- Transactions whose phase one a step passes are LATE (R337). -/
def State.markLate (s : State) (was : Nat) : State :=
  let now := s.nowNs
  let mark := fun (e : Nat × Txn) =>
    let start := e.2.instant - s.prepareLead e.2
    if (e.2.state = .scheduled ∨ e.2.state = .prepared) ∧ was < start ∧ start < now then (e.1, { e.2 with late := true }) else e
  { s with tempo := { s.tempo with txns := s.tempo.txns.map mark } }

/-- The time of the die that serves the PPS pins, moved by OUT_ADJ, in whole nanoseconds (R394). -/
def State.ppsTime (s : State) : Nat := moveStamp (s.stampAt s.servingDie) (signed 16 s.pps.cfg.inEffect.outAdj) / 65536

/-- PPS_OUT awaits the first multiple of its period at or after the present time (R394). -/
def State.ppsAfresh (s : State) : State := { s with pps := { s.pps with outFrom := s.ppsTime } }

/-- TIME_CHANGE_TICK (R379): every die uses the new model from tick K on, and gate lists follow network time (R368). -/
def execTimeChangeTick (s : State) : Host.Outcome State Fault Refusal :=
  match s.timeModel.pending with
  | none => .next s
  | some (k, _) =>
    if !s.ready || !s.workingDies.all (fun d => decide (k ≤ s.tickAt d)) then .next s
    else
      let was := s.nowNs
      let stepped := s.timeModel.pending.any (fun (_, _, _, isSet, value) => isSet || value == 1)
      let s := { s with timeModel := s.timeModel.rebase }
      let s := if stepped then s.ppsAfresh else s
      let ports := (List.range 64).filter (fun p => (s.port p).present)
      .next (ports.foldl State.gateRefresh (s.markLate was))

/-! ## Alignment (R383, R384) -/

/-- A die is no longer aligned. -/
def State.unalign (s : State) (die offset : Nat) : State :=
  (s.modDieTime die (fun t => { t with aligned := false, goodRuns := 0 })).raise 0x0902 sevDegraded 0 die 0 offset 0

/-- ALIGNMENT_MEASUREMENT (R383, R384): `offset` is the die's package tick less the reference's. A correction holds the
package tick for one clock, or advances it by two. -/
def execAlignmentMeasurement (die : Nat) (offset : Int) (s : State) : Host.Outcome State Fault Refusal :=
  if !s.live die || decide (die = s.timeModel.refDie) then .next s
  else
    let n := offset.natAbs
    let s := s.modDieTime die (fun t =>
      let c := if offset < 0 then t.correction + 1 else if 0 < offset then t.correction - 1 else t.correction
      let good := if n ≤ 4 then min 16 (t.goodRuns + 1) else 0
      { t with tick := if offset = 0 then t.tick else t.tick + 1, correction := c, alignErr := min 0xFF n, goodRuns := good,
               measured := t.tick, aligned := t.aligned || decide (16 ≤ good) })
    .next (if 8 < n then (if (s.dieTime die).aligned then s.unalign die n else s.modDieTime die (fun t => { t with goodRuns := 0 })) else s)

/-- ALIGNMENT_TIMEOUT (R384): no measurement for 10 ms. -/
def execAlignmentTimeout (die : Nat) (s : State) : Host.Outcome State Fault Refusal :=
  .next (if s.live die && decide (die ≠ s.timeModel.refDie) && (s.dieTime die).aligned
    && decide ((s.dieTime die).measured + 10 * ticksPerMs ≤ (s.dieTime die).tick) then s.unalign die (s.dieTime die).alignErr else s)

/-- TIME_CAPTURE (R397): PF0 of the die writes CAPTURE. -/
def execTimeCapture (die : Nat) (s : State) : Host.Outcome State Fault Refusal :=
  .next (if s.hostReach die then
    s.modDieTime die (fun t => { t with capTick := s.tickAt die, capTime := s.timeModel.full (s.tickAt die) })
  else s)

/-! ## Pulse per second (R393, R394) -/

def pinPpsOut : Nat := 2

/-- PPS_CFG from its register layout. -/
def ppsOf (v : Nat) : PpsCfg :=
  { inEnable := bit v 0, inFalling := bit v 1, outEnable := bit v 2, outWaitValid := bit v 3, inAdj := bits v 31 16,
    outAdj := bits v 47 32, vector := bits v 58 48, widthNs := bits v 95 64, periodNs := bits v 127 96 }

/-- PPS_CONFIG's answer. -/
def runPpsConfig (p : Packet) (s : State) : Answer :=
  let c := ppsOf (leAt p.params 0 16)
  if p.paramLen ≠ 16 ∨ c.periodNs < 1000 ∨ 1000000000 < c.periodNs ∨ c.widthNs = 0 ∨ c.periodNs ≤ c.widthNs then s.fails stBadParam
  else
    if s.pps.out then { s with pps := { s.pps with cfg := { s.pps.cfg with written := c } } }.answers []
    else ({ s with pps := { s.pps with cfg := Staged.both c } } : State).ppsAfresh.answers []

/-- PPS_CONFIG (R394). -/
def execPpsConfig (p : Packet) (s : State) : Host.Outcome State Fault Refusal := runPlain 0x8602 p runPpsConfig s

/-- PPS_IN_EDGE (R393): an edge in a phase of 8 of the present tick. -/
def execPpsInEdge (edge : PpsEdge) (s : State) : Host.Outcome State Fault Refusal :=
  let c := s.pps.cfg.inEffect
  let d := s.servingDie
  let t := s.tickAt d
  let soon := match s.pps.lastEdge with
    | some l => decide (t < l + 1600)
    | none => false
  if !s.live d || !c.inEnable || edge.rising == c.inFalling || soon then .next s
  else
    let at_ := s.stampAt d + edge.phase % 8 * s.timeModel.rate / 8 / 2 ^ 32
    let stamp := moveStamp at_ (-(signed 16 c.inAdj))
    let s := { s with pps := { s.pps with stamp := stamp, count := (s.pps.count + 1) % 2 ^ 16, new := true, lastEdge := some t } }
    .next (if c.vector = 0x7FF then s else s.msi (pf0 d) c.vector)

/-- The first multiple of the period that PPS_OUT awaits (R394). -/
def Pps.nextRise (p : Pps) : Nat := ceilDiv p.outFrom (max 1 p.cfg.inEffect.periodNs) * p.cfg.inEffect.periodNs

/-- PPS_OUT_PULSE (R394): the pulse rises at a multiple of PERIOD_NS and stays for WIDTH_NS, by ticks; its end is the safe point of
PPS_CFG. -/
def execPpsOutPulse (rise : Bool) (s : State) : Host.Outcome State Fault Refusal :=
  let c := s.pps.cfg.inEffect
  let t := s.tickAt s.servingDie
  if !s.live s.servingDie then .next s
  else if rise then
    if s.pps.out || !c.outEnable || (c.outWaitValid && !s.timeModel.valid) || decide (s.ppsTime < s.pps.nextRise) then .next s
    else
      .next ({ s with pps := { s.pps with out := true, outTick := t, outFrom := s.ppsTime + 1 } }.emit (.pin pinPpsOut true))
  else if s.pps.out && decide (s.pps.outTick + ceilDiv (8 * c.widthNs) 5 ≤ t) then
    .next ({ s with pps := { s.pps with out := false, cfg := Staged.both s.pps.cfg.written } }.emit (.pin pinPpsOut false))
  else .next s

end Sys2Proof.Machine
end

