-- ==== Sys2Proof/Machine/Blocks.lean ====
section
/-! DEFINITION. The POD, MAILBOX and DMA blocks as a thread reaches them: 8-byte words read, and bytes written field by field
(spec/16 R504, R540, spec/04 R127, spec/13 R450, R453). -/

namespace Sys2Proof.Machine

/-! ## Fields of a written value -/

/-- A write of `n` bytes at byte `lo` of a register: the register's bits with the written ones replaced. -/
def mergeBits (old lo n v : Nat) : Nat :=
  old / 2 ^ (8 * (lo + n)) * 2 ^ (8 * (lo + n)) + v % 2 ^ (8 * n) * 2 ^ (8 * lo) + old % 2 ^ (8 * lo)

/-- The written bits in place, the others zero: what W1C and W1S fields act on. -/
def writtenBits (lo n v : Nat) : Nat := v % 2 ^ (8 * n) * 2 ^ (8 * lo)

/-- The write covers bits `hi` down to `low` of the register at least in part. -/
def covers (lo n hi low : Nat) : Bool := decide (8 * lo ≤ hi) && decide (low < 8 * (lo + n))

/-! ## POD -/

/-- POD_INT as a number. -/
def Pod.intValue (p : Pod) : Nat :=
  p.faultPending + 2 ^ 72 * b2n p.stalemate + 2 ^ 73 * b2n p.coreChange + 2 ^ 74 * b2n p.toFirmware

/-- PKT_VIEW as a number. -/
def State.viewValue (s : State) (t v : Nat) : Nat :=
  let w := (s.thread t).view v
  let len := ((s.viewPacket t v).map (fun p => p.bytes.length)).getD 0
  w.firstCell + 2 ^ 32 * len + 2 ^ 48 * b2n w.isOpen + 2 ^ 51 * b2n w.noCell + 2 ^ 52 * b2n w.notOwned

/-- CHAN_CFG as a number. -/
def Channel.value (c : Channel) : Nat := c.writer + 2 ^ 32 * c.reader + 2 ^ 56 * b2n c.enable + 2 ^ 64 * c.words.length

/-- THREAD_EVENT as a number. -/
def State.eventValue (s : State) (t : Nat) : Nat :=
  let th := s.thread t
  th.eventSrc + 2 ^ 128 * th.deadline + 2 ^ 192 * b2n th.armed + 2 ^ 193 * s.pendingBits t + 2 ^ 201 * b2n (s.intPending t)

/-- Word `i` of a wide register. -/
def wordOf (v i : Nat) : Nat := v / 2 ^ (64 * i) % 2 ^ 64

/-- The 8-byte word at an offset of a POD block, but for LOCK, whose read acts (R540). -/
def State.podWord (s : State) (pod off : Nat) : Nat :=
  let p := s.podOf pod
  let t := fun (base size : Nat) => pod * 72 + (off - base) / size
  if off < 0x10 then leAt (s.podStatus pod) off 8
  else if off < 0x20 then wordOf p.intValue ((off - 0x10) / 8)
  else if off < 0x30 then wordOf (p.members + 2 ^ 80 * p.reports) ((off - 0x20) / 8)
  else if 0x100 ≤ off ∧ off < 0x300 then (s.lockOf (pod * 64 + (off - 0x100) / 8)).value
  else if 0x1000 ≤ off ∧ off < 0x1480 then leAt (s.thread (t 0x1000 0x10)).stateBytes (off % 0x10) 8
  else if 0x1800 ≤ off ∧ off < 0x1C80 then
    let e := Tbl.look (0, 0) p.snapshot ((off - 0x1800) / 0x10)
    if off % 0x10 = 0 then e.1 else e.2
  else if 0x3000 ≤ off ∧ off < 0x3900 then wordOf (s.eventValue (t 0x3000 0x20)) (off % 0x20 / 8)
  else if 0x4000 ≤ off ∧ off < 0x4480 then s.viewValue (t 0x4000 0x10) (off % 0x10 / 8)
  else if 0x8000 ≤ off ∧ off < 0x9000 then wordOf (s.chanOf (pod * 256 + (off - 0x8000) / 0x10)).value (off % 0x10 / 8)
  else 0

/-- A read of `n` bytes of a POD block by an agent: a read that covers HELD reads the lock (R518). -/
def State.podRead (s : State) (pod off n reader : Nat) : Nat × State :=
  let base := off / 8 * 8
  if 0x100 ≤ base ∧ base < 0x300 ∧ off % 8 = 0 then
    let (v, s) := s.readLock pod ((base - 0x100) / 8) reader
    (v % 2 ^ (8 * n), s)
  else (s.podWord pod base / 2 ^ (8 * (off % 8)) % 2 ^ (8 * n), s)

/-- What a store to a register block comes to: done, or a fault of its writer. -/
inductive StoreEnd where
  | done (s : State)
  | bad (cause : Nat)
  deriving DecidableEq, Repr

/-- A write of POD_INT by the supervisor (R503). -/
def Pod.clearInt (p : Pod) (w : Nat) : Pod :=
  { p with faultPending := p.faultPending &&& (2 ^ 72 - 1 - w % 2 ^ 72), stalemate := p.stalemate && !bit w 72,
           coreChange := p.coreChange && !bit w 73 }

/-- A write of PKT_VIEW: sticky flags clear first, then the fields in order of their bits (R507). -/
def State.viewWrite (s : State) (t v lo n x : Nat) : State :=
  let old := s.viewValue t v
  let new := mergeBits old lo n x
  let w := writtenBits lo n x
  let s := s.modView t v (fun y => { y with noCell := y.noCell && !bit w 51, notOwned := y.notOwned && !bit w 52 })
  let s := if covers lo n 17 0 then s.viewOpen t v (bits new 17 0) else s
  let s := if covers lo n 45 32 then s.viewLength t v (bits new 45 32) else s
  let s := if bit w 49 then s.viewAlloc t v else s
  if bit w 50 then s.viewFree t v else s

/-- A write of THREAD_EVENT: EVENT_SRC, and DEADLINE, which arms the timer (R514, R516). -/
def State.eventWrite (s : State) (t off lo n x : Nat) : State :=
  let th := s.thread t
  let i := off / 8
  if i < 2 then
    let new := mergeBits th.eventSrc (8 * i + lo) n x
    let keep := (List.range 8).foldl (fun a j => setBit a (16 * j + 15) false) new
    (s.setThread t { th with eventSrc := keep }).settleThread t
  else if i = 2 then s.armTimer t (mergeBits th.deadline lo n x)
  else s

/-- A store of `n` bytes to a POD block by a thread of the pod (R503, R518, R540). -/
def State.podStore (s : State) (t off n x : Nat) : StoreEnd :=
  let pod := threadPod t
  let sup := s.isSupervisor t
  let base := off / 8 * 8
  let lo := off % 8
  let at_ := fun (b size : Nat) => pod * 72 + (base - b) / size
  if 0x10 ≤ base ∧ base < 0x20 then
    if sup then .done (s.modPodOf pod (fun p => p.clearInt (writtenBits (base - 0x10 + lo) n x))) else .bad fcPrivilege
  else if 0x100 ≤ base ∧ base < 0x300 then
    if lo = 0 ∧ x % 2 = 0 then
      match s.writeLock pod ((base - 0x100) / 8) (threadId t) with
      | (s, true) => .done s
      | (_, false) => .bad fcAccess
    else .done s
  else if 0x2000 ≤ base ∧ base < 0x2240 then
    if sup then .done (s.threadCtrl (at_ 0x2000 8) (writtenBits lo n x)) else .bad fcPrivilege
  else if 0x3000 ≤ base ∧ base < 0x3900 then
    if sup || at_ 0x3000 0x20 == t then .done (s.eventWrite (at_ 0x3000 0x20) (base % 0x20) lo n x) else .bad fcAccess
  else if 0x4000 ≤ base ∧ base < 0x4480 then
    if sup || at_ 0x4000 0x10 == t then .done (s.viewWrite (at_ 0x4000 0x10) (base % 0x10 / 8) lo n x) else .bad fcAccess
  else .done s

/-! ## MAILBOX: the inter-agent groups and the binding table -/

/-- MBX_RECV_ID of a queue's head (R120). -/
def recvId (q : List MbxWord) : Nat :=
  match q with
  | w :: _ => w.stamp + 2 ^ 24 * b2n w.last + 2 ^ 25 * b2n w.collided + 2 ^ 26
  | [] => 0

/-- MBX_STATUS of an inter-agent group. -/
def AgentMailbox.status (b : AgentMailbox) : Nat :=
  b.queue.length + 2 ^ 8 * (16 - b.queue.length) + 2 ^ 16 * b2n b.collision + 2 ^ 24 * b.rejects

/-- MBX_BIND as a number. -/
def AgentMailbox.bind (b : AgentMailbox) : Nat :=
  b.receiver + 2 ^ 24 * b.event + 2 ^ 32 * b.senderA + 2 ^ 64 * b.senderB + 2 ^ 96 * b2n b.enable

/-- The 4-byte word at an offset of a die's MAILBOX block, as a read with no effect sees it. -/
def State.mbxWord (s : State) (die off who : Nat) : Nat :=
  if 0x2000 ≤ off ∧ off < 0x3000 then (s.agentBox (die * 256 + (off - 0x2000) / 16)).bind / 2 ^ (8 * (off % 16)) % 2 ^ 32
  else if 0x4000 ≤ off ∧ off < 0x6000 then
    let b := s.agentBox (die * 256 + (off - 0x4000) / 32)
    match off % 32 with
    | 0x08 => if who = b.receiver then ((b.queue.head?).map (fun w => w.word.toNat)).getD 0 else 0
    | 0x0C => recvId b.queue
    | 0x10 => b.status
    | _ => 0
  else 0

/-- A read of `n` bytes of the MAILBOX block by a thread: a read that covers MBX_RECV takes the head word (R127). -/
def State.mbxLoad (s : State) (die off n who : Nat) : Nat × State :=
  let base := off / 4 * 4
  let v := s.mbxWord die base who + (if n = 8 then 2 ^ 32 * s.mbxWord die (base + 4) who else 0)
  let s := if 0x4000 ≤ base ∧ base < 0x6000 ∧ base % 32 = 8 then
      (s.mbxRead (agentBoxBase + die * 256 + (base - 0x4000) / 32) who).2
    else s
  (v / 2 ^ (8 * (off % 4)) % 2 ^ (8 * n), s)

/-- A command that a thread or sequencer may issue (R142), by its opcode. -/
def runFromThread (p : Packet) (s : State) : Answer :=
  match p.opcode with
  | 0x0001 => runDeviceInfo p s
  | 0x0002 => runJournalQuery p s
  | 0x0005 => runJournalMark p s
  | 0x0601 => runTimeQuery p s
  | 0x0902 => runThreadQuery p s
  | _ => s.fails stNotPermitted

/-- Firmware takes a finished message of a thread and answers it (R124, R128, R129). -/
def State.serveThreadBox (s : State) (box : Nat) : State :=
  match s.takeMessage box with
  | none => s
  | some (s, p, true) => s.submit p (runFromThread p) (fun s => s)
  | some (s, p, false) => s.deliver p (p.reply stBadParam flagMailboxFault 0 0 [])

/-- A 4-byte store to the MAILBOX block by a thread. COLLISION of an inter-agent group is cleared by its receiver only (DESIGN
CHOICE, log 117). -/
def State.mbxStore4 (s : State) (die off who x : Nat) : State :=
  if 0x4000 ≤ off ∧ off < 0x6000 then
    let k := die * 256 + (off - 0x4000) / 32
    match off % 32 with
    | 0x00 => s.mbxWrite (agentBoxBase + k) who (BitVec.ofNat 32 x) false
    | 0x04 => (s.mbxWrite (agentBoxBase + k) who (BitVec.ofNat 32 x) true).serveThreadBox (agentBoxBase + k)
    | 0x10 => if bit x 16 ∧ who = (s.agentBox k).receiver then s.modAgentBox k (fun b => { b with collision := false }) else s
    | _ => s
  else s

/-- A store of `n` bytes: narrower ones are ignored, an 8-byte one is two in ascending order (R645). -/
def State.mbxStore (s : State) (die off n who x : Nat) : State :=
  if n = 4 then s.mbxStore4 die off who x
  else if n = 8 then (s.mbxStore4 die off who (x % 2 ^ 32)).mbxStore4 die (off + 4) who (x / 2 ^ 32)
  else s

/-! ## DMA -/

/-- DMA_CTRL as a number. -/
def State.dmaCtrl (s : State) (k : Nat) : Nat :=
  let c := s.dmaCh k
  b2n c.pause + 2 ^ 3 * b2n (c.busy && (c.pause || c.forced)) + 2 ^ 4 * b2n c.forced + 2 ^ 5 * b2n c.busy + 2 ^ 6 * b2n c.cfgBusyWr
    + 2 ^ 7 * b2n c.underflow + 2 ^ 16 * c.binder.code + 2 ^ 32 * c.binder.identity

/-- The 8-byte word at an offset of a die's DMA block. -/
def State.dmaWord (s : State) (die off : Nat) : Nat :=
  let k := dmaKey die (off / 0x80)
  let c := s.dmaCh k
  if 0x2000 ≤ off then 0
  else
    match off % 0x80 with
    | 0x00 => s.dmaCtrl k
    | 0x08 => c.i0 + 2 ^ 16 * c.i1 + 2 ^ 32 * c.i2
    | 0x10 => c.offset + 2 ^ 32 * c.status
    | 0x18 => c.lastAddr
    | 0x20 => c.high.written + 2 ^ 32 * c.low.written
    | 0x28 => c.level
    | 0x30 => 0
    | r => if 0x40 ≤ r then leAt c.elem (r - 0x40) 8 else 0

/-- The channel is bound to the pod (Table 16.1). -/
def State.podHolds (s : State) (pod k : Nat) : Bool :=
  match (s.dmaCh k).binder with
  | .thread t => threadPod t == pod
  | _ => false

/-- A write of DMA_CTRL by the binder: W1C flags, PAUSE, ABORT, GO (R449, R450). -/
def State.dmaCtrlWrite (s : State) (die chan lo n x who : Nat) : State :=
  let k := dmaKey die chan
  if lo ≠ 0 then s
  else
    let w := writtenBits lo n x
    let s := s.modDmaCh k (fun c =>
      { c with cfgBusyWr := c.cfgBusyWr && !bit w 6, underflow := c.underflow && !bit w 7, pause := bit w 0 })
    let s := if bit w 1 && (s.dmaCh k).busy then s.endDma k 0x07 (s.dmaCh k).done else s
    if bit w 2 then s.dmaGo die chan who else s

/-- A store of `n` bytes to the DMA block by a thread: only to a channel bound to its pod, and not narrower than 4 bytes. -/
def State.dmaStore (s : State) (t off n x : Nat) : State :=
  let die := threadDie t
  let chan := off / 0x80
  let k := dmaKey die chan
  let lo := off % 8
  if n < 4 ∨ 0x2000 ≤ off ∨ s.podHolds (threadPod t) k = false then s
  else
    let c := s.dmaCh k
    match off % 0x80 / 8 * 8 with
    | 0x00 => s.dmaCtrlWrite die chan lo n x (threadId t)
    | 0x20 =>
      let v := mergeBits (c.high.written + 2 ^ 32 * c.low.written) lo n x
      s.setDmaCh k { c with high := { c.high with written := v % 2 ^ 32 }, low := { c.low with written := v / 2 ^ 32 } }
    | 0x30 => if lo = 0 then s.setDmaCh k (c.ack (x % 2 ^ 32)) else s
    | r => if 0x40 ≤ r then s.dmaElemWrite die chan (threadId t) (off % 0x80 - 0x40) (toLe n x) else s

end Sys2Proof.Machine
end

