-- ==== Sys2Proof/Machine/Flags.lean ====
section
/-! DEFINITION. The ALU of a transport sequencer and its flags (spec/18 R563, Table 18.2). -/

namespace Sys2Proof.Machine

/-- What an ALU operation gives: the result (none for CMP32, which writes no register), ZERO, NEGATIVE, and CARRY where the
operation has one (log 42). -/
structure AluOut where
  value : Option Word
  zero : Bool
  negative : Bool
  carry : Option Bool
  deriving DecidableEq, Repr

/-- A 64-bit result. -/
def wide (v : Word) (carry : Option Bool) : AluOut :=
  { value := some v, zero := v == 0, negative := v.msb, carry := carry }

/-- A 32-bit result, extended with zeros. -/
def narrow (v : Word32) (carry : Option Bool) : AluOut :=
  { value := some (v.setWidth 64), zero := v == 0, negative := v.msb, carry := carry }

/-- Carry out of a sum of `n` bits. -/
def carryOut (n : Nat) (a b : Nat) : Bool := decide (2 ^ n ≤ a + b)

/-- The bytes of the low 32 and of the low 16 bits in reverse order, extended with zeros. -/
def bswap32 (a : Word) : Word :=
  let v := a.toNat
  BitVec.ofNat 64 (v % 256 * 2 ^ 24 + v / 2 ^ 8 % 256 * 2 ^ 16 + v / 2 ^ 16 % 256 * 2 ^ 8 + v / 2 ^ 24 % 256)
def bswap16 (a : Word) : Word := BitVec.ofNat 64 (a.toNat % 256 * 256 + a.toNat / 256 % 256)

/-- Serial-number comparison modulo 2^32: NEGATIVE when `a` comes before `b` (R563). -/
def cmp32 (a b : Word32) : AluOut := { value := none, zero := a == b, negative := (a - b).msb, carry := none }

/-- The ALU. A shift of 64 or more gives `shifted`, which the spec leaves open (log 42). -/
def alu (op : Nat) (a b shifted : Word) : AluOut :=
  let a32 := a.setWidth 32
  let b32 := b.setWidth 32
  match op with
  | 0 => wide a none
  | 1 => wide (a + b) (some (carryOut 64 a.toNat b.toNat))
  | 2 => wide (a - b) none
  | 3 => wide (a &&& b) none
  | 4 => wide (a ||| b) none
  | 5 => wide (a ^^^ b) none
  | 6 => wide (if b.toNat < 64 then a <<< b.toNat else shifted) none
  | 7 => wide (if b.toNat < 64 then a >>> b.toNat else shifted) none
  | 8 => narrow (a32 + b32) (some (carryOut 32 a32.toNat b32.toNat))
  | 9 => narrow (a32 - b32) none
  | 10 => cmp32 a32 b32
  | 11 => wide (if a.toNat ≤ b.toNat then a else b) none
  | 12 => wide (if a.toNat ≤ b.toNat then b else a) none
  | 13 => wide (bswap32 a) none
  | _ => wide (bswap16 a) none

end Sys2Proof.Machine
end

