-- ==== Sys2Proof/Machine/Protect.lean ====
section
/-! DEFINITION. Dual control of protection set-up (spec/05, with the bodies of FUNC_PARTITION in 15 and MICROCODE in
18): table rows 35, 80–86. -/

namespace Sys2Proof.Machine

/-! ## Checks of each kind (R166, R172) -/

/-- Die-scope kinds (Table 05.1). -/
def dieScope (kind : Nat) : Bool := decide (1 ≤ kind) && decide (kind ≤ 3)

/-- Grants already made in a tree of a die: queue pairs, vectors, DMA channels. -/
def State.treeGrants (s : State) (die tree : Nat) : Nat × Nat × Nat :=
  (s.funcs.filter (fun (f, x) => mDie f == die && fnPf f == tree && x.provisioned)).foldl
    (fun (a, b, c) (_, x) => (a + x.queuePairs, b + x.vectors, c + x.dmaChannels)) (0, 0, 0)

/-- A PARTITION register from its 32 bytes (R478). -/
def partitionOf (b : List Byte) : Partition :=
  { totalVfs := leAt b 0 2, queuePairs := leAt b 2 2, vectors := leAt b 4 2, dmaChannels := leAt b 6 1,
    pfDmaChannels := leAt b 7 1, keyPages := leAt b 8 2, namespaces := leAt b 10 2, pfQueuePairs := leAt b 12 2,
    pfVectors := leAt b 14 2, vfQueuePairsMax := leAt b 16 2, vfVectorsMax := leAt b 18 2,
    stageTotalMib := leAt b 20 2, stageMaxMib := leAt b 22 2 }

/-- Ranges of one tree's record (R479). -/
def Partition.inRange (t : Partition) : Bool :=
  decide (t.totalVfs ≤ 1024) && decide (t.dmaChannels ≤ 48) && decide (t.pfDmaChannels ≤ 8)
    && decide (t.pfDmaChannels ≤ t.dmaChannels) && decide (1 ≤ t.pfQueuePairs) && decide (t.pfQueuePairs ≤ 256)
    && decide (t.pfQueuePairs ≤ t.queuePairs) && decide (1 ≤ t.pfVectors) && decide (t.pfVectors ≤ 2048)
    && decide (t.pfVectors ≤ t.vectors) && decide (1 ≤ t.vfQueuePairsMax) && decide (t.vfQueuePairsMax ≤ 256)
    && decide (t.vfQueuePairsMax ≤ t.queuePairs) && decide (1 ≤ t.vfVectorsMax) && decide (t.vfVectorsMax ≤ 2048)
    && decide (t.vfVectorsMax ≤ t.vectors)

/-- A provisioned VF of the tree that the new record would not allow (R479). -/
def State.partitionStrands (s : State) (die tree : Nat) (t : Partition) : Bool :=
  s.funcs.any (fun (f, x) => mDie f == die && fnPf f == tree && fnVf f != 0 && x.provisioned
    && (decide (t.vfQueuePairsMax < x.queuePairs) || decide (t.vfVectorsMax < x.vectors) || decide (t.totalVfs < fnVf f)))

/-- Queue pairs that exist for a function. -/
def State.queueCount (s : State) (fn : Nat) : Nat := (s.queues.filter (fun (k, _) => k / 256 == fn)).length

/-- DMA channels bound to a function's queue pairs. -/
def State.channelCount (s : State) (fn : Nat) : Nat :=
  (s.channels.filter (fun (_, c) => match c.binder with
    | .queue f _ => f == fn
    | _ => false)).length

/-- Namespaces and staging in MiB, of which a part counts as one, that a tree's functions hold on a die. -/
def State.treeNamespaces (s : State) (die : Nat) : Nat := (s.storage die).namespaces.length
def State.treeStage (s : State) (die : Nat) : Nat :=
  ceilDiv ((s.storage die).cmds.foldl (fun n (_, c) => n + c.stage) 0) (2 ^ 20)

/-- The check of a FUNC_PARTITION body (R479). -/
def State.checkPartition (s : State) (die : Nat) (body : List Byte) : Option Nat :=
  let a := partitionOf (body.take 32)
  let b := partitionOf (body.drop 32)
  let (qa, va, ca) := s.treeGrants die 0
  let (qb, vb, cb) := s.treeGrants die 1
  let vfOn := (s.func (pf0 die)).vfEnable || (s.func (pf1 die)).vfEnable
  if body.length ≠ 64 ∨ leAt body 24 8 ≠ 0 ∨ leAt body 56 8 ≠ 0 then some stBadParam
  else if a.queuePairs + b.queuePairs > 16384 ∨ a.vectors + b.vectors > 20480 ∨ a.dmaChannels + b.dmaChannels > 48
      ∨ a.keyPages + b.keyPages > 4096 ∨ a.namespaces + b.namespaces > 8192 ∨ a.stageTotalMib + b.stageTotalMib > 256
      ∨ a.totalVfs + b.totalVfs > 1024 then some stBadParam
  else if b.keyPages ≠ 0 ∨ b.dmaChannels ≠ 0 ∨ b.pfDmaChannels ≠ 0 ∨ a.namespaces ≠ 0 ∨ a.stageTotalMib ≠ 0
      ∨ a.stageMaxMib ≠ 0 then some stBadParam
  else if a.inRange = false ∨ b.inRange = false then some stBadParam
  else if a.queuePairs < qa ∨ b.queuePairs < qb ∨ a.vectors < va ∨ b.vectors < vb ∨ a.dmaChannels < ca
      ∨ b.dmaChannels < cb then some stWrongState
  else if a.pfQueuePairs < s.queueCount (pf0 die) ∨ b.pfQueuePairs < (s.nvme (pf1 die)).cqs.length
      ∨ a.pfDmaChannels < s.channelCount (pf0 die) then some stWrongState
  else if s.partitionStrands die 0 a ∨ s.partitionStrands die 1 b then some stWrongState
  else if b.namespaces < s.treeNamespaces die ∨ b.stageTotalMib < s.treeStage die then some stWrongState
  else if vfOn ∧ (a.totalVfs ≠ (s.partition die 0).totalVfs ∨ b.totalVfs ≠ (s.partition die 1).totalVfs) then
    some stWrongState
  else none

/-- Pages bound in the PF0 tree of a die. -/
def State.boundPages (s : State) (die : Nat) : Nat := (s.protect.keyPages.filter (fun (k, _) => k / 4096 == die)).length

/-- The check of a KEYPAGE_BIND body (Table 05.3): a network function of the scope die that is provisioned, a page and
slot in range, a BAR_SLOT no other page of the function holds, and room in KEY_PAGES. -/
def State.checkKeyPage (s : State) (die : Nat) (body : List Byte) : Option Nat :=
  let page := leAt body 0 2
  let slot := leAt body 2 1
  let fn := leAt body 4 3
  let key := die * 4096 + page
  if body.length ≠ 8 ∨ leAt body 3 1 ≠ 0 ∨ leAt body 7 1 ≠ 0 ∨ 4096 ≤ page ∨ 64 ≤ slot then some stBadParam
  else if fn = 0 then (if (Tbl.find s.protect.keyPages key).isSome then none else some stNotFound)
  else if mClass fn ≠ 0 ∨ mDie fn ≠ die ∨ fnPf fn ≠ 0 ∨ 1024 < fnVf fn then some stBadParam
  else if (s.func fn).provisioned = false then some stNotFound
  else if s.protect.keyPages.any (fun (k, b) => k != key && k / 4096 == die && b == fn * 64 + slot) then some stExists
  else if (Tbl.find s.protect.keyPages key).isNone ∧ (s.partition die 0).keyPages ≤ s.boundPages die then
    some stNoResource
  else none

/-- The check of an MBX_BIND body (Table 05.3, MBX_BIND layout): reserved bits are zero. -/
def checkMbxBind (body : List Byte) : Option Nat :=
  if body.length ≠ 20 ∨ leAt body 1 3 ≠ 0 ∨ 8 ≤ leAt body 7 1 ∨ leAt body 11 1 ≠ 0 ∨ leAt body 15 1 ≠ 0
    ∨ 2 ≤ leAt body 16 4 ∨ reservedClass (leAt body 4 3) ∨ reservedClass (leAt body 8 3) ∨ reservedClass (leAt body 12 3) then
    some stBadParam else none

/-- Fuses as a FIRMWARE change would leave them (Table 05.3). -/
def Fuses.burn (f : Fuses) (minSvn flags : Nat) : Fuses :=
  { f with minSvn := max f.minSvn (min 64 minSvn), requirePq := f.requirePq || bit flags 0,
           rootRevoked := f.rootRevoked ||| (flags / 16 % 16) }

/-- An image read from the source link is valid against fuses as they will stand (R54, R176): digests are computed, the
signatures' outcome is given. PF0 of the source link must be able to read it. -/
def State.imageGood (s : State) (f : Fuses) (die addr digest : Nat) (sig : SigResult) : Bool :=
  let h := s.hostRead (pf0 die) addr 0x2000
  let hd := headerOf h
  let body := s.hostRead (pf0 die) (addr + 0x2000) hd.imageLen
  s.canIssue (pf0 die) && le (sha256 h) == digest && imageValid f hd (le (sha256 body)) sig.imageVerifies sig.imageVerifies

/-- The check of a FIRMWARE body made at PROPOSE; the image itself is checked at commit (R176). -/
def checkFirmware (body : List Byte) : Option Nat :=
  if body.length ≠ 44 ∨ leAt body 42 2 ≠ 0 ∨ leAt body 0 8 % 4096 ≠ 0 ∨ 64 < leAt body 40 1
    ∨ leAt body 41 1 / 2 % 8 ≠ 0 then some stBadParam else none

/-- The check of a DIE_ROLES body. -/
def State.checkRoles (s : State) (body : List Byte) : Option Nat :=
  let d := leAt body 0 1
  if body.length ≠ 4 ∨ leAt body 1 3 ≠ 0 ∨ s.dieCount ≤ d then some stBadParam
  else if s.dieWorks d = false ∨ d = s.roles.lead ∨ s.roles.moveTo.isSome then some stWrongState
  else none

/-- The check of a LIFECYCLE body (R58): the state moves forward through the states one by one, or stays to replace keys. No command
enters PROVISIONED: Volbor does that at final test (log 106). -/
def State.checkLifecycle (s : State) (body : List Byte) : Option Nat :=
  let target := leAt body 0 1
  let flags := leAt body 1 1
  let cur := s.boot.fuses.lifecycle.code
  if 2 ≤ flags ∨ leAt body 2 2 ≠ 0 ∨ body.length ≠ (if flags = 1 then 2980 else 388) then some stBadParam
  else if 3 < target then some stBadParam
  else if target = cur ∨ (target = cur + 1 ∧ 2 ≤ target) then none
  else some stWrongState

/-- The check of a DEBUG_UNLOCK body. -/
def checkUnlock (body : List Byte) : Option Nat :=
  if body.length ≠ 4 ∨ leAt body 0 4 < 1 ∨ 86400 < leAt body 0 4 then some stBadParam else none

/-- The microword at an index of a patch image body (R568): after 32 match entries of 8 bytes. -/
def patchWord (body : List Byte) (i : Nat) : BitVec 160 := BitVec.ofNat 160 (leAt body (256 + 20 * i) 20)

/-- A microword obeys R563: no reserved value, no non-zero reserved field. -/
def microLegal (w : BitVec 160) : Bool :=
  let v := w.toNat
  decide (bits v 17 15 ≤ 5) && decide (bits v 22 18 ≤ 13) && decide (bits v 25 25 = 0) && decide (bits v 30 26 ≤ 14)
    && decide (bits v 82 80 ≤ 6) && decide (bits v 101 98 ≤ 12) && decide (bits v 112 110 ≤ 2)
    && decide (bits v 159 134 = 0)

/-- A patch image read from the source link and valid (R568): its words and enabled match registers. -/
def State.patchImage (s : State) (die addr digest : Nat) (sig : SigResult) :
    Option (List (BitVec 160) × Tbl MatchReg) :=
  let h := s.hostRead (pf0 die) addr 0x2000
  let hd := headerOf h
  let n := (hd.imageLen - 256) / 20
  let body := s.hostRead (pf0 die) (addr + 0x2000) hd.imageLen
  let ws := (List.range n).map (patchWord body)
  let raw := (List.range 32).map (fun i => (i, leAt body (8 * i) 8))
  let ms := raw.filterMap (fun (i, e) =>
    if bit e 31 then some (i, ({ romAddr := bits e 13 0, target := bits e 24 16 } : MatchReg)) else none)
  let ok := hd.magic == 0x48435450 && hd.headerLen == 0x2000 && decide (hd.flags < 2) && hd.reservedZero
    && decide (hd.keyIndex < 4) && decide (256 ≤ hd.imageLen) && decide (hd.imageLen = 256 + 20 * n)
    && decide (n ≤ 512) && le (sha256 (h ++ body)) == digest && hd.bodyDigest == le (sha256 body)
    && s.boot.fuses.accepts hd sig.imageVerifies sig.imageVerifies && s.canIssue (pf0 die)
    && ws.all microLegal && ws.all (fun w => decide (bits w.toNat 14 0 < 0x4000 + n))
    && raw.all (fun (_, e) => decide (bits e 15 14 = 0) && decide (bits e 30 25 = 0) && decide (bits e 63 32 = 0)
        && (!bit e 31 || decide (bits e 24 16 < n)))
  if ok then some (ws, ms) else none

/-- The check of a MICROCODE body: a page-aligned address and a digest; both zero propose the empty set. -/
def checkMicrocode (body : List Byte) : Option Nat :=
  if body.length ≠ 40 ∨ leAt body 0 8 % 4096 ≠ 0 ∨ (leAt body 0 8 = 0 ∧ leAt body 8 32 ≠ 0) then some stBadParam
  else none

/-- The check of a change, made at PROPOSE and again at commit (R166, R172). -/
def State.checkChange (s : State) (kind scope : Nat) (body : List Byte) : Option Nat :=
  if kind = 1 then s.checkPartition scope body
  else if kind = 2 then checkMbxBind body
  else if kind = 3 then s.checkKeyPage scope body
  else if kind = 4 then checkFirmware body
  else if kind = 5 then checkMicrocode body
  else if kind = 6 then s.checkRoles body
  else if kind = 7 then s.checkLifecycle body
  else if kind = 8 then checkUnlock body
  else some stBadParam

/-! ## Effects of each kind (R176) -/

/-- The number of the object a proposal changes, for its change count (R175). -/
def objectOf (kind scope : Nat) (body : List Byte) : Nat :=
  let sel := if kind = 2 then leAt body 0 1 else if kind = 3 then leAt body 0 2 else 0
  (kind * 256 + scope) * 65536 + sel

/-- FUNC_PARTITION (R479): PF_VECTORS is granted at once and takes effect at the PF's next reset (R88). -/
def State.applyPartition (s : State) (die : Nat) (body : List Byte) : State :=
  let a := partitionOf (body.take 32)
  let b := partitionOf (body.drop 32)
  let set := fun (t : Tbl Partition) (k : Nat) (v d : Partition) => if v = d then Tbl.del t k else Tbl.set t k v
  let parts := set (set s.partitions (2 * die) a (Partition.reset 0)) (2 * die + 1) b (Partition.reset 1)
  let grant := fun (p : Partition) (f : Func) =>
    { f with queuePairs := p.pfQueuePairs, vectors := p.pfVectors, stageMax := p.stageMaxMib }
  let s := { s with partitions := parts }
  let s := (s.modFunc (pf0 die) (grant a)).modFunc (pf1 die) (grant b)
  let s := (s.vfsOf (pf1 die)).foldl (fun s f => s.modFunc f (fun x => if x.provisioned then { x with stageMax := b.stageMaxMib } else x)) s
  (s.grantChannels (pf0 die) a.pfDmaChannels).grantChannels (pf1 die) b.pfDmaChannels

/-- MBX_BIND (R122, R130): the binding changes and the mailbox is emptied; reply words that firmware still holds for it go too, a
point R130 leaves open (log 114). -/
def State.applyMbxBind (s : State) (die : Nat) (body : List Byte) : State :=
  let v := leAt body 4 16
  s.setAgentBox (die * 256 + leAt body 0 1)
    { AgentMailbox.reset with
      receiver := bits v 23 0, event := bits v 26 24, senderA := bits v 55 32, senderB := bits v 87 64,
      enable := bit v 96 }

/-- KEYPAGE_BIND (R176): the page's 32 slots are erased, then the binding takes hold. -/
def State.applyKeyPage (s : State) (die : Nat) (body : List Byte) : State :=
  let page := leAt body 0 2
  let fn := leAt body 4 3
  let key := die * 4096 + page
  let s := s.modCipherOf die (fun c => { c with slots := c.slots.filter (fun (k, _) => k / 32 != page) })
  let pages := if fn = 0 then Tbl.del s.protect.keyPages key else Tbl.set s.protect.keyPages key (fn * 64 + leAt body 2 1)
  { s with protect := { s.protect with keyPages := pages } }

/-- FIRMWARE (R53, R176): the image goes to the slot that did not boot, then the fuses are blown. A slot marked failed stays so until the
next loss of VIN (R56). -/
def State.applyFirmware (s : State) (die : Nat) (body : List Byte) : State :=
  let addr := leAt body 0 8
  let fuses := s.boot.fuses.burn (leAt body 40 1) (leAt body 41 1)
  if addr = 0 then { s with boot := { s.boot with fuses := fuses } }
  else
    let h := s.hostRead (pf0 die) addr 0x2000
    let bytes := h ++ s.hostRead (pf0 die) (addr + 0x2000) (headerOf h).imageLen
    let b := if s.boot.slot = 0 then { s.boot with flashB := some bytes } else { s.boot with flashA := some bytes }
    { s with boot := { b with fuses := fuses } }

/-- NEXT of a patch word moved into half 1 (R569). -/
def relocate (w : BitVec 160) : BitVec 160 :=
  if 0x4000 ≤ bits w.toNat 14 0 then w + 0x200 else w

/-- MICROCODE (R569): the inactive half and its match registers are written and PATCH_SWITCH is raised in every
sequencer of every working die. -/
def State.applyMicrocode (s : State) (ws : List (BitVec 160)) (ms : Tbl MatchReg) (digest : Nat) : State :=
  let p := s.patch
  let half := 1 - p.activeHalf
  let p := if half = 0 then { p with words0 := ws, matches0 := ms }
    else { p with words1 := ws.map relocate, matches1 := ms }
  let s := { s with patch := { p with target := some half, digest := digest } }
  s.workingDies.foldl (fun s d => (List.range 16).foldl (fun s i =>
    s.modSeqOf (d * 16 + i) (fun q => { q with switch := true })) s) s

/-- Erasure on entry to DECOMMISSIONED (R59): key slots, keys derived from the device secret and the journal; the secret can no longer
be read. -/
def State.decommission (s : State) : State :=
  let cs := s.ciphers.map (fun (k, c) => (k, { c with slots := ([] : Tbl KeySlot) }))
  { s with ciphers := cs, journal := { Journal.reset with bootId := s.journal.bootId },
           boot := { s.boot with aliasKey := none, aliasCert := [],
                                 fuses := { s.boot.fuses with secretBlocked := true, deviceSecret := 0 } } }

/-- LIFECYCLE (R58, R59, R480): fuses blown forward, authority keys installed; entering OWNED restores the partition's
reset values. -/
def State.applyLifecycle (s : State) (body : List Byte) : State :=
  let target := leAt body 0 1
  let f := s.boot.fuses
  let next := if target = 2 then Lifecycle.owned else if target = 3 then .decommissioned else f.lifecycle
  let pq := if leAt body 1 1 = 1 then some (le (sha256 (sub body 0x184 2592))) else none
  let f' := { f with lifecycle := next, authority := some (le (sha256 (sub body 4 384))), authorityPq := pq }
  let s' := { s with boot := { s.boot with fuses := f' } }
  let s' := if f.lifecycle = .provisioned ∧ next = .owned then { s' with partitions := [] } else s'
  if next = .decommissioned ∧ f.lifecycle ≠ .decommissioned then s'.decommission else s'

/-- A change applied on every die concerned (R172, R176). `src` is the source die of FIRMWARE and MICROCODE; the answer
is the failing status or the new state. -/
def State.applyChange (s : State) (kind scope src : Nat) (body : List Byte) (sig : SigResult) : State × Option Nat :=
  if (kind = 4 ∨ kind = 5) ∧ s.dieWorks src = false then (s, some stWrongState)
  else match s.checkChange kind scope body with
  | some st => (s, some st)
  | none =>
    if kind = 1 then (s.applyPartition scope body, none)
    else if kind = 2 then (s.applyMbxBind scope body, none)
    else if kind = 3 then (s.applyKeyPage scope body, none)
    else if kind = 4 then
      let fuses := s.boot.fuses.burn (leAt body 40 1) (leAt body 41 1)
      if leAt body 0 8 = 0 ∨ s.imageGood fuses src (leAt body 0 8) (leAt body 8 32) sig = true then
        (s.applyFirmware src body, none)
      else (s, some stBadParam)
    else if kind = 5 then
      if leAt body 0 8 = 0 then (s.applyMicrocode [] [] 0, none)
      else match s.patchImage src (leAt body 0 8) (leAt body 8 32) sig with
      | some (ws, ms) => (s.applyMicrocode ws ms (leAt body 8 32), none)
      | none => (s, some stBadParam)
    else if kind = 6 then
      ({ s with roles := { s.roles with moveTo := some (leAt body 0 1) } }, none)
    else if kind = 7 then (s.applyLifecycle body, none)
    else ({ s with protect := { s.protect with
        debugUntil := some (s.leadTick + leAt body 0 4 * ticksPerSec) } }, none)

/-- A commit counts the change of its object (R175). -/
def State.countChange (s : State) (obj : Nat) : State :=
  { s with protect := { s.protect with counts := Tbl.bump s.protect.counts obj 1 } }

/-! ## Proposals -/

/-- The proposals kept: the live ones and the final states of the latest 256 (R170). -/
def keepProposals (t : Tbl Proposal) : Tbl Proposal :=
  let final := t.filter (fun (_, q) => decide (q.state ≠ .proposed) && decide (q.state ≠ .pending))
  let old := (final.take (final.length - 256)).map (fun e => e.1)
  t.filter (fun (k, _) => !old.contains k)

/-- A proposal's state set. -/
def State.setProposal (s : State) (n : Nat) (q : Proposal) : State :=
  { s with protect := { s.protect with proposals := keepProposals (Tbl.set s.protect.proposals n q) } }

/-- The host party of a proposal (R161). -/
def State.hostParty (s : State) (kind scope : Nat) : Nat := if dieScope kind then pf0 scope else pf0 s.roles.lead

/-- Ticks until a proposal expires (R170). -/
def proposalTicks : Nat := 60 * ticksPerSec

/-- What PROPOSE refuses because of its sender and the lifecycle (R58, R161, R165, R169). -/
def State.proposeRefused (s : State) (p : Packet) (kind scope : Nat) : Option Nat :=
  let lc := s.boot.fuses.lifecycle
  let chain := decide (mClass p.sender = 4)
  if dieScope kind = true ∧ scope = 0xFF then some stBadParam
  else if dieScope kind = false ∧ scope ≠ 0xFF then some stBadParam
  else if kind = 0 ∨ 8 < kind then some stBadParam
  else match (if dieScope kind then s.dieStatus scope else none) with
  | some st => some st
  | none =>
    if lc = .provisioned ∧ ¬ (kind = 8 ∨ (kind = 7 ∧ leAt p.params 8 1 = 2)) then some stWrongState
    else if chain = false ∧ p.sender ≠ s.hostParty kind scope then some stNotPermitted
    else if lc = .provisioned ∧ chain = false then some stNotPermitted
    else none

/-- PROPOSE (R165–R169): `sig` is used only where a MANUFACTURE proposal commits at once. -/
def runPropose (sig : SigResult) (p : Packet) (s : State) : Answer :=
  let kind := leAt p.params 0 2
  let scope := leAt p.params 2 1
  let body := p.params.drop 8
  if p.params.length < 8 ∨ leAt p.params 3 1 ≠ 0 ∨ leAt p.params 4 4 ≠ body.length then s.fails stBadParam
  else match s.proposeRefused p kind scope with
  | some st => s.fails st
  | none =>
    match s.checkChange kind scope body with
    | some st => s.fails st
    | none =>
      if 16 ≤ s.protect.live then s.fails stNoResource
      else
        let (nonce, s1) := s.draw 128
        let n := s1.protect.nextProposal
        let digest := le (sha256 p.params)
        let chain := decide (mClass p.sender = 4)
        let obj := objectOf kind scope body
        let q : Proposal :=
          { kind := kind, scope := scope, params := p.params, nonce := nonce, digest := digest,
            state := if chain then .proposed else .pending, byAuthority := chain,
            deadline := s1.leadTick + proposalTicks, sourceDie := s1.roles.lead,
            objCount := Tbl.look 0 s1.protect.counts obj, fails := 0 }
        let result := toLe 4 n ++ toLe 4 60000 ++ toLe 16 nonce ++ toLe 32 digest
        let s2 := { s1 with protect := { s1.protect with nextProposal := n + 1 } }
        if s.boot.fuses.lifecycle = .manufacture then
          match s2.applyChange kind scope s2.roles.lead body sig with
          | (_, some st) => s.fails st
          | (s3, none) =>
            let s4 := (s3.setProposal n { q with state := .committed }).countChange obj
            { state := s4, status := some stOk, result := result }
        else
          { state := s2.setProposal n q, status := some stNeedsEndorsement, result := result }

/-- PROPOSE (R166): what checking the signatures of an image found matters in MANUFACTURE alone (R165). -/
def execPropose (p : ProposePacket) (s : State) : Host.Outcome State Fault Refusal :=
  runPlain 0x0C01 p.packet (runPropose p.good) s

/-- Why an act on a proposal that is not live is refused (R170, R174, Table 05.6). -/
def Proposal.refusal (q : Proposal) : Option Nat :=
  match q.state with
  | .proposed => none
  | .pending => none
  | .expired => some stExpired
  | _ => some stWrongState

/-- A live proposal whose deadline has come expires before the act is decided (R170). -/
def State.expireDue (s : State) (n : Nat) : State :=
  match Tbl.find s.protect.proposals n with
  | some q => if q.refusal = none ∧ q.deadline ≤ s.leadTick then s.setProposal n { q with state := .expired } else s
  | none => s

/-- A failed endorsement: SIG_FAILS counts it and the fourth of one proposal withdraws it (R173). -/
def State.sigFail (s : State) (n : Nat) (countsFor : Bool) : State :=
  let s := { s with protect := { s.protect with sigFails := satAdd 0xFFFF s.protect.sigFails 1 } }
  match Tbl.find s.protect.proposals n, countsFor with
  | some q, true =>
    let q := { q with fails := q.fails + 1 }
    s.setProposal n (if 4 ≤ q.fails ∧ q.refusal = none then { q with state := .withdrawn } else q)
  | _, _ => s

/-- An authority statement is valid for a live proposal (R163, R165). In PROVISIONED the keys are those the LIFECYCLE proposal carries,
or the Volbor service key, an RSA key alone. -/
def State.statementValid (s : State) (st : List Byte) (sig : SigResult) : Bool :=
  match Tbl.find s.protect.proposals (leAt st 8 4) with
  | none => false
  | some q =>
    let pq := bit (leAt st 5 1) 0
    let own := decide (s.boot.fuses.lifecycle = .provisioned)
    let pqKey := if own then q.kind == 7 && bit (leAt q.params 9 1) 0 else s.boot.fuses.authorityPq.isSome
    decide (st.length ≥ if pq then 5107 else 480) && leAt st 0 4 == 0x53544131 && decide (leAt st 5 1 < 2)
      && leAt st 6 2 == 0 && decide (q.refusal = none) && leAt st 16 16 == q.nonce && leAt st 32 32 == q.digest
      && leAt st 12 4 == s.journal.bootId && leAt st 0x40 32 == le (sha256 s.boot.fuses.identityPublic) && sig.rsaVerifies
      && (if pqKey then pq && sig.pqVerifies else !pq)

/-- A PENDING proposal commits, or fails with the status of its check (R172, R175). The reply to a MICROCODE commit waits until
every sequencer has switched; another MICROCODE commit meanwhile is answered BUSY_RETRY (R569, log 40). -/
def State.commitProposal (s : State) (p : Packet) (n : Nat) (q : Proposal) (sig : SigResult) : Answer :=
  let body := q.params.drop 8
  let obj := objectOf q.kind q.scope body
  if Tbl.look 0 s.protect.counts obj ≠ q.objCount then
    { state := s.setProposal n { q with state := .failed }, status := some stConflict, result := [] }
  else if q.kind = 5 ∧ s.patch.target.isSome then s.fails stBusy
  else match s.applyChange q.kind q.scope q.sourceDie body sig with
  | (_, some st) =>
    { state := s.setProposal n { q with state := .failed }, status := some st, result := [] }
  | (s', none) =>
    let s' := (s'.setProposal n { q with state := .committed }).countChange obj
    if q.kind = 5 ∧ bit p.flags 0 = false then { state := { s' with patch := { s'.patch with waiting := some p } }, status := none, result := [] }
    else { state := s', status := some stOk, result := [] }

/-- ENDORSE by a statement with ACT 2, or by the host party's parameters (R164, R171–R173). -/
def runEndorse (sig : SigResult) (p : Packet) (s : State) : Answer :=
  let chain := decide (mClass p.sender = 4)
  let n := if chain then leAt p.params 8 4 else leAt p.params 0 4
  let s := s.expireDue n
  if chain = false ∧ (p.params.length ≠ 56 ∨ leAt p.params 4 4 ≠ 0) then s.fails stBadParam
  else match Tbl.find s.protect.proposals n with
  | none => if chain then (s.sigFail n false).fails stNotPermitted else s.fails stNotFound
  | some q =>
    match q.refusal with
    | some st => s.fails st
    | none =>
      if chain then
        if s.statementValid p.params sig = false ∨ leAt p.params 4 1 ≠ 2 then (s.sigFail n true).fails stNotPermitted
        else if q.byAuthority then s.fails stNotPermitted
        else s.commitProposal p n q sig
      else if p.sender ≠ s.hostParty q.kind q.scope then s.fails stNotPermitted
      else if q.byAuthority = false then s.fails stNotPermitted
      else if leAt p.params 8 16 ≠ q.nonce ∨ leAt p.params 24 32 ≠ q.digest then (s.sigFail n true).fails stNotPermitted
      else if q.state ≠ .pending then s.fails stWrongState
      else s.commitProposal p n q sig

/-- ENDORSE (R171, R172). -/
def execEndorse (p : Packet) (good : SigResult) (s : State) : Host.Outcome State Fault Refusal :=
  runPlain 0x0C02 p (runEndorse good) s

/-- AUTHORITY_CONFIRM: a statement with ACT 1 moves the chain head's proposal to PENDING (R168). -/
def runConfirm (sig : SigResult) (p : Packet) (s : State) : Answer :=
  let n := leAt p.params 8 4
  let s := s.expireDue n
  match Tbl.find s.protect.proposals n with
  | none => (s.sigFail n false).fails stNotPermitted
  | some q =>
    match q.refusal with
    | some st => s.fails st
    | none =>
      if mClass p.sender ≠ 4 then s.fails stNotPermitted
      else if s.statementValid p.params sig = false ∨ leAt p.params 4 1 ≠ 1 then (s.sigFail n true).fails stNotPermitted
      else if q.state ≠ .proposed then s.fails stWrongState
      else (s.setProposal n { q with state := .pending }).answers []

/-- AUTHORITY_CONFIRM (R168). -/
def execAuthorityConfirm (p : Packet) (good : SigResult) (s : State) : Host.Outcome State Fault Refusal :=
  runPlain 0x0C02 p (runConfirm good) s

/-- State codes that PROPOSAL_QUERY returns (log 13). -/
def PropState.code : PropState → Nat
  | .proposed => 0
  | .pending => 1
  | .committed => 2
  | .failed => 3
  | .expired => 4
  | .withdrawn => 5

/-- PROPOSAL_QUERY (R170): state, KIND, SCOPE, proposer, REMAINING_MS, NONCE, CHANGE_DIGEST, for FIRMWARE and MICROCODE
the source die, and the parameter block. The layout is the model's (log 13). -/
def runProposalQuery (p : Packet) (s : State) : Answer :=
  let s := s.expireDue (leAt p.params 0 4)
  match Tbl.find s.protect.proposals (leAt p.params 0 4) with
  | none => s.fails stNotFound
  | some q =>
    let left := if q.refusal = none then (q.deadline - s.leadTick) / ticksPerMs else 0
    let src := if q.kind = 4 ∨ q.kind = 5 then q.sourceDie else 0
    s.answers (toLe 4 (leAt p.params 0 4) ++ toLe 1 q.state.code ++ toLe 1 (b2n q.byAuthority) ++ toLe 2 src
      ++ toLe 4 left ++ toLe 4 q.params.length ++ toLe 16 q.nonce ++ toLe 32 q.digest ++ q.params)

/-- PROPOSAL_QUERY. -/
def execProposalQuery (p : Packet) (s : State) : Host.Outcome State Fault Refusal :=
  runPlain 0x0C03 p runProposalQuery s

/-- PROPOSAL_WITHDRAW (R174). -/
def runWithdraw (sig : SigResult) (p : Packet) (s : State) : Answer :=
  let chain := decide (mClass p.sender = 4)
  let n := if chain then leAt p.params 8 4 else leAt p.params 0 4
  let s := s.expireDue n
  if chain = false ∧ (p.params.length ≠ 24 ∨ leAt p.params 4 4 ≠ 0) then s.fails stBadParam
  else match Tbl.find s.protect.proposals n with
  | none => s.fails stNotFound
  | some q =>
    if q.refusal ≠ none then s.fails stWrongState
    else if chain then
      if s.statementValid p.params sig = false ∨ leAt p.params 4 1 ≠ 3 then (s.sigFail n false).fails stNotPermitted
      else (s.setProposal n { q with state := .withdrawn }).answers []
    else if p.sender ≠ s.hostParty q.kind q.scope ∨ leAt p.params 8 16 ≠ q.nonce then s.fails stNotPermitted
    else (s.setProposal n { q with state := .withdrawn }).answers []

/-- PROPOSAL_WITHDRAW: a chain head's statement is taken as verifying under the authority's keys unless the frame says
otherwise; over a command packet the outcome of its signatures is that of a good statement (log 13). -/
def execProposalWithdraw (p : Packet) (good : SigResult) (s : State) : Host.Outcome State Fault Refusal :=
  runPlain 0x0C04 p (runWithdraw good) s

/-- PROPOSAL_EXPIRY (R170): a live proposal at its deadline. -/
def execProposalExpiry (proposal : Nat) (s : State) : Host.Outcome State Fault Refusal :=
  .next (s.expireDue proposal)

/-- DEBUG_UNLOCK_EXPIRY (R176): SECONDS have passed, and the debug port closes. -/
def execDebugUnlockExpiry (s : State) : Host.Outcome State Fault Refusal :=
  .next (if s.protect.debugUntil.any (fun t => decide (t ≤ s.leadTick)) then { s with protect := { s.protect with debugUntil := none } } else s)

/-- A reassembled statement handled as the act it names (R171); before READY it is answered BUSY_RETRY (R67, R77). -/
def State.statement (s : State) (seq : Nat) (st : List Byte) (sig : SigResult) : State :=
  let act := leAt st 4 1
  let pad := st ++ List.replicate ((4 - st.length % 4) % 4) 0
  let op := if act = 3 then 0x0C04 else 0x0C02
  let p : Packet :=
    { route := .chain seq, sender := s.headId, die := s.servingDie, opcode := op, paramLen := pad.length, flags := 0,
      txn := 0, token := 0, sequence := 0, reserved := 0, params := pad }
  if s.decides then
    s.submit p (if act = 3 then runWithdraw sig p else if act = 1 then runConfirm sig p else runEndorse sig p) (fun s => s)
  else s.sendReply p (p.reply stBusy 0 0 0 [])

/-- ENDORSE_FRAME (R171): fragments are reassembled as those of a command are (R69), and the last one hands the
statement on. -/
def execEndorseFrame (seq byte0 : Nat) (data : List Byte) (good : SigResult) (s : State) :
    Host.Outcome State Fault Refusal :=
  if s.chainTakes = false ∨ s.boot.fuses.lifecycle = .decommissioned then .next s
  else
    let idx := byte0 % 128
    let more := bit byte0 7
    let part := match s.chain.partialStmt with
      | some (n, bs) => if idx = n then some bs else none
      | none => none
    let again := s.chain.partialStmt.any (fun e => decide (idx ≠ 0) && e.1 == idx + 1)
    let have_ := if idx = 0 then some [] else part
    if again then .next (s.chainReply seq [BitVec.ofNat 8 (0x80 + idx)])
    else match have_ with
    | none =>
      let s := { s with chain := { s.chain with partialStmt := none } }
      .next (s.chainReply seq (0 :: (Reply.bytes (Packet.reply
        { route := .chain seq, sender := s.headId, die := s.servingDie, opcode := 0, paramLen := 0, flags := 0, txn := 0,
          token := 0, sequence := 0, reserved := 0, params := [] } stBadParam 0 0 0 []))))
    | some bs =>
      if more then
        let s := { s with chain := { s.chain with partialStmt := some (idx + 1, bs ++ data) } }
        .next (s.chainReply seq [BitVec.ofNat 8 (0x80 + idx)])
      else
        let s := { s with chain := { s.chain with partialStmt := none } }
        .next (s.statement seq (bs ++ data) good)

end Sys2Proof.Machine
end

