-- ==== Sys2Proof/Machine/SeqOps.lean ====
section
/-! DEFINITION. Transport contexts and their connections: creation, FLOW entries, service requests (spec/18 R558–R561). -/

namespace Sys2Proof.Machine

/-- Key of a context. -/
def ctxKey (die n : Nat) : Nat := die * 262144 + n

/-- A die with less than 2 GiB of DRAM has no context region and no staging region (R464, R558). -/
def State.hasRegions (s : State) (die : Nat) : Bool := decide (2 ≤ s.dramOf die)

/-- Context numbers of a die that are not FREE, of one sequencer. -/
def State.contextsOf (s : State) (die q : Nat) : List Nat :=
  (s.contexts.filter (fun (k, c) => k / 262144 == die && k % 16 == q && c.state != 0)).map (fun e => e.1 % 262144)

/-- The number a new context takes (R560): of the sequencer with the fewest open contexts, the lowest on a tie, its lowest
free number. -/
def State.newContext (s : State) (die : Nat) : Option Nat :=
  let counts := (List.range 16).map (fun q => (s.contextsOf die q).length)
  let least := counts.foldl min 16384
  match (List.range 16).find? (fun q => counts.getD q 0 == least) with
  | none => none
  | some q =>
    let used := s.contextsOf die q
    if s.hasRegions die = false ∨ 16384 ≤ used.length then none
    else ((List.range (used.length + 1)).find? (fun i => !used.contains (16 * i + q))).map (fun i => 16 * i + q)

/-- Contexts of a die that are not in use. -/
def State.freeContexts (s : State) (die : Nat) : Nat :=
  if s.hasRegions die then 262144 - ((List.range 16).map (fun q => (s.contextsOf die q).length)).sum else 0

/-- Key of a connection's FLOW entry: VRF, protocol, addresses and ports as its packets arrive (R463, Table 07.14, log 41). -/
def Context.flowKey (c : Context) : List Byte :=
  let proto := if c.kind = 1 ∨ c.kind = 4 then 6 else 17
  toLe 2 c.vrf ++ toLe 1 proto ++ sub c.remoteAddress 0 16 ++ sub c.localAddress 0 16 ++ toBe 2 c.remotePort ++ toBe 2 c.localPort

/-- Descriptor of kind SEQUENCER (Table 08.8). -/
def seqDest (die n : Nat) : Nat := 4 * 2 ^ 28 + die * 2 ^ 25 + n

/-- The FLOW entry of a connection: entry 14, with no next hop, counter or policer. None where the bank in force declares no
such table (log 41). -/
def State.flowSpec (s : State) (die n : Nat) (c : Context) : Option EntrySpec :=
  match (s.bankOf s.tempo.bank).table? (s.dramOf s.roles.lead) 7 with
  | none => none
  | some d =>
    if d.kind = .flow ∧ d.keyLen = 39 then
      some { decl := d, dies := 0, key := c.flowKey, mask := [], prefixLen := 0, priority := 0, action := 14,
             params := toLe 4 (seqDest die n) ++ toLe 2 0 ++ toLe 4 0xFFFFFFFF ++ toLe 2 0xFFFF, pinned := false,
             replace := false, at_ := none, txn := none }
    else none

/-- The FLOW entries of a connection written on every working die where they find a place, or deleted. -/
def State.writeFlows (s : State) (die n : Nat) (c : Context) : State :=
  match s.flowSpec die n c with
  | none => s
  | some x => s.workingDies.foldl (fun s d => match State.setOn x s.tempo.current s d with
      | .ok s' => s'
      | .error _ => s) s
def State.dropFlows (s : State) (die n : Nat) (c : Context) : State :=
  match s.flowSpec die n c with
  | none => s
  | some x => s.workingDies.foldl (fun s d => s.retireAll d x.decl ((s.pipe d).named x s.tempo.current) s.tempo.current) s

/-- A new context opens its connection at once. -/
def State.openContext (s : State) (die n : Nat) (c : Context) : State :=
  (s.setContext (ctxKey die n) { c with state := 1 }).writeFlows die n c

/-- A context is deleted: CONTEXT_CLOSE is raised in its sequencer (Table 18.3). A FAILED one stays so until then. -/
def State.closeContext (s : State) (die n : Nat) : State :=
  let k := die * 16 + n % 16
  let c := s.context (ctxKey die n)
  if c.state = 0 ∨ (s.seqOf k).closes.contains n then s
  else
    (s.setContext (ctxKey die n) { c with state := if c.state = 4 then 4 else 3 }).modSeqOf k
      (fun q => { q with closes := q.closes ++ [n] })

/-- A change of a cached context raises CONTEXT_UPDATE (Table 18.3). -/
def State.updateContext (s : State) (die n : Nat) : State :=
  s.modSeqOf (die * 16 + n % 16) (fun q =>
    if q.cache.contains n && !q.updates.contains n then { q with updates := q.updates ++ [n] } else q)

/-- A counter of the SEQ block raised (Table 18.8). -/
def State.seqCount (s : State) (die i : Nat) : State :=
  { s with seqCounters := Tbl.put 0 s.seqCounters (die * 4 + i) ((Tbl.look 0 s.seqCounters (die * 4 + i) + 1) % 2 ^ 64) }

/-- A connection of a storage path, its first sequences chosen by routines the spec does not give (log 6). -/
def State.openStorage (s : State) (die : Nat) (fn kind flags vrf remotePort : Nat) (loc remote : List Byte) :
    Option (State × Nat) :=
  match s.newContext die with
  | none => none
  | some n =>
    let (seq, s) := s.draw 32
    let (port, s) := s.draw 16
    let c : Context :=
      { Context.reset with kind := kind, state := 1, owner := fn, txNext := seq, lastActivity := s.nsAt die, flags := flags % 2,
                           vrf := vrf, localPort := port, remotePort := remotePort, localAddress := loc, remoteAddress := remote }
    some (s.openContext die n c, n)

end Sys2Proof.Machine
end

