-- ==== Sys2Proof/Machine/Nvme.lean ====
section
/-! DEFINITION. NVMe controllers of storage functions: registers, queues, data pointers and admin commands (spec/14
R454–R459): table rows 194, 202–210 and 375. -/

namespace Sys2Proof.Machine

/-! ## Statuses (Table 14.8): SC in [7:0], SCT in [10:8], DNR in bit 14 -/

def dnr : Nat := 2 ^ 14
def nvBadOpcode : Nat := dnr + 0x01
def nvBadField : Nat := dnr + 0x02
def nvTransfer : Nat := 0x04
def nvInternal : Nat := dnr + 0x06
def nvAborted : Nat := 0x07
def nvSqDeleted : Nat := 0x08
def nvBadNs : Nat := dnr + 0x0B
def nvSequence : Nat := dnr + 0x0C
def nvSglSegment : Nat := dnr + 0x0D
def nvSglLength : Nat := dnr + 0x0F
def nvPrpOffset : Nat := dnr + 0x13
def nvProtected : Nat := dnr + 0x20
def nvTransient : Nat := 0x22
def nvRange : Nat := dnr + 0x80
def nvInaccessible : Nat := 0x302
def nvUnrecovered : Nat := dnr + 0x281
def nvMiscompare : Nat := dnr + 0x285
def nvBadCq : Nat := dnr + 0x100
def nvBadQueue : Nat := dnr + 0x101
def nvQueueSize : Nat := dnr + 0x102
def nvBadVector : Nat := dnr + 0x108
def nvQueueDelete : Nat := dnr + 0x10C
def nvReadOnlyFeature : Nat := dnr + 0x10E

/-! ## The controller -/

/-- A storage function: PF1, or a provisioned storage VF. -/
def State.isStorage (s : State) (fn : Nat) : Bool := mClass fn == 0 && fnPf fn == 1 && (s.func fn).provisioned

/-- The controller is enabled and ready. -/
def Nvme.ready (v : Nvme) : Bool := bit v.cc 0 && bit v.csts 0

/-- CSTS as read: CFS is 1 while the function is HALTED (R459). -/
def State.nvmeCsts (s : State) (fn : Nat) : Nat := setBit (s.nvme fn).csts 1 (s.func fn).halted

/-- CC.EN goes from 0 to 1: the admin queues of AQA, ASQ and ACQ exist and the controller is ready (R454). -/
def State.nvmeEnable (s : State) (fn : Nat) : State :=
  let v := s.nvme fn
  if bit v.cc 0 || bit v.csts 0 then s
  else
    let sq : NvmeQueue :=
      { base := v.asq, size := bits v.aqa 11 0 + 1, head := 0, tail := 0, peer := 0, intEnable := false, phase := false, held := [], retried := false }
    let cq : NvmeQueue :=
      { base := v.acq, size := bits v.aqa 27 16 + 1, head := 0, tail := 0, peer := 0, intEnable := true, phase := true, held := [], retried := false }
    s.setNvme fn { v with cc := setBit v.cc 0 true, csts := 1, sqs := [(0, sq)], cqs := [(0, cq)], disabling := false }

/-- CC_EN_SET (R454). -/
def execCcEnSet (fn : Nat) (s : State) : Host.Outcome State Fault Refusal :=
  .next (if s.hostReach (mDie fn) && s.isStorage fn && !(s.func fn).halted then s.nvmeEnable fn else s)

/-- A disabled controller clears CSTS.RDY once none but writes remain among its orphaned commands (R457). -/
def State.nvmeSettle (s : State) (fn : Nat) : State :=
  let v := s.nvme fn
  let left := (s.storage (mDie fn)).cmds.any (fun (_, c) => c.fn == fn && c.orphan && c.opcode != 1)
  if v.disabling && !left then s.setNvme fn { v with csts := 0, disabling := false } else s

/-- The fetch is one of a submission queue of a controller. -/
def HostTag.dropFetch (t : HostTag) (fn : Nat) (sq : Nat → Bool) : HostTag :=
  let mine := match t.use with
    | .control q _ _ => decide (256 ≤ q) && sq (q - 256)
    | .table q _ _ => decide (256 ≤ q) && sq (q - 256)
    | _ => false
  if t.fn == fn && mine then { t with discard := true } else t

/-- Outstanding fetches of submission queues that end have their data discarded. -/
def State.dropFetches (s : State) (fn : Nat) (sq : Nat → Bool) : State :=
  { s with tags := List.map (fun (e : Nat × HostTag) => (e.1, e.2.dropFetch fn sq)) s.tags }

/-- CC.EN goes from 1 to 0 (R457). -/
def State.nvmeDisable (s : State) (fn : Nat) : State :=
  let v := s.nvme fn
  if !bit v.cc 0 then s
  else
    let s := s.dropStorageCommands fn
    let v' : Nvme := { v with cc := setBit v.cc 0 false, sqs := [], cqs := [], asyncReqs := [] }
    let v' := { v' with disabling := true, disabledAt := s.dieTick (mDie fn) }
    ((s.dropFetches fn (fun _ => true)).setNvme fn v').nvmeSettle fn

/-- CC_EN_CLEAR (R457). -/
def execCcEnClear (fn : Nat) (s : State) : Host.Outcome State Fault Refusal :=
  .next (if s.hostReach (mDie fn) && s.isStorage fn then s.nvmeDisable fn else s)

/-! ## Asynchronous events -/

/-- Dword 0 of an asynchronous event: type, information, log page. -/
def asyncDword (type info page : Nat) : Nat := type + 2 ^ 8 * info + 2 ^ 16 * page

/-- An event is posted on an outstanding Asynchronous Event Request. With none outstanding it is not reported. -/
def State.asyncEvent (s : State) (fn dw : Nat) : State :=
  let v := s.nvme fn
  match v.asyncReqs with
  | [] => s
  | cid :: rest => (s.setNvme fn { v with asyncReqs := rest }).nvmePost fn 0 cid dw 0

/-- Namespace Attribute Changed (R460): posted if the controller is enabled. -/
def State.nsChanged (s : State) (fn nsid : Nat) : State :=
  let v := s.nvme fn
  if v.ready then
    let s := s.setNvme fn { v with changedNs := if v.changedNs.contains nsid then v.changedNs else v.changedNs ++ [nsid] }
    s.asyncEvent fn (asyncDword 2 0 4)
  else s

/-! ## Doorbells -/

/-- A submission queue's tail doorbell: an unknown queue or a tail beyond it is an error event of NVMe. -/
def State.nvmeSqTail (s : State) (fn q tail : Nat) : State :=
  match Tbl.find (s.nvme fn).sqs q with
  | none => s.asyncEvent fn (asyncDword 0 0 1)
  | some x =>
    if x.size ≤ tail then s.asyncEvent fn (asyncDword 0 1 1)
    else s.modNvme fn (fun v => { v with sqs := Tbl.set v.sqs q { x with tail := tail } })

/-- A completion queue's head doorbell. -/
def State.nvmeCqHead (s : State) (fn q head : Nat) : State :=
  match Tbl.find (s.nvme fn).cqs q with
  | none => s.asyncEvent fn (asyncDword 0 0 1)
  | some x =>
    if x.size ≤ head then s.asyncEvent fn (asyncDword 0 1 1)
    else (s.modNvme fn (fun v => { v with cqs := Tbl.set v.cqs q { x with head := head } })).nvmeDrain fn q x.held.length

/-! ## Fetching -/

/-- The completion queue of a submission queue can take one more holding slot (R439, R440, R455). -/
def State.nvmeSlotFree (s : State) (fn sq : Nat) : Bool :=
  match (Tbl.find (s.nvme fn).sqs sq).bind (fun q => Tbl.find (s.nvme fn).cqs q.peer) with
  | none => false
  | some c => decide (c.held.length < 64) && (decide (c.held.length < 2) || decide (0 < s.sharedSlots (mDie fn)))

/-- A command of a submission queue waits for staging, so the queue stops fetching (R464). -/
def State.stagingWaits (s : State) (fn sq : Nat) : Bool :=
  (s.storage (mDie fn)).cmds.any (fun (_, c) => c.fn == fn && c.sq == sq && decide (c.phase = .staging))

/-- The entry at the head of a submission queue, if the device fetches from it now (R440, R457, R493). -/
def State.nvmeHead (s : State) (fn sq : Nat) : Option (NvmeQueue × List Byte) :=
  match Tbl.find (s.nvme fn).sqs sq with
  | none => none
  | some q =>
    if s.live (mDie fn) && s.isStorage fn && (s.nvme fn).ready && s.canIssue fn && !(s.func fn).halted
      && decide ((s.func fn).mig = .running) && q.head != q.tail && s.nvmeSlotFree fn sq && !s.stagingWaits fn sq
      && ((s.controlRead fn (256 + sq)).isSome || s.tagFree (mDie fn)) && !s.ideBlocks fn (q.base + 64 * q.head)
    then some (q, s.hostRead fn (q.base + 64 * q.head) 64) else none

/-- The fetched entry is consumed; its fetches retire. -/
def State.nvmeTake (s : State) (fn sq : Nat) (q : NvmeQueue) : State :=
  let next := if q.size ≤ q.head + 1 then 0 else q.head + 1
  let s : State := match s.tableRead fn (256 + sq) with
    | some (k, _, _) => { s with tags := Tbl.del s.tags k }
    | none => s
  (match s.controlRead fn (256 + sq) with
    | some (k, _, _) => { s with tags := Tbl.del s.tags k }
    | none => s).modNvme fn (fun v => { v with sqs := Tbl.set v.sqs sq { q with head := next, retried := false } })

/-- Fields of a submission queue entry. -/
def sqeOpcode (b : List Byte) : Nat := leAt b 0 1
def sqeCid (b : List Byte) : Nat := leAt b 2 2
def sqeNsid (b : List Byte) : Nat := leAt b 4 4
def sqeDw (b : List Byte) (n : Nat) : Nat := leAt b (4 * n) 4

/-- Reserved bits common to every entry: FUSE (no fused commands, R468), bits 13:10 of dword 0, PSDT 3 and dwords 2 and 3. -/
def sqeReserved (b : List Byte) : Bool :=
  let w := leAt b 0 4
  decide (bits w 13 8 ≠ 0) || decide (bits w 15 14 = 3) || decide (leAt b 8 8 ≠ 0)

/-! ## Doorbells and fetches of every function (spec/13, R454) -/

/-- SQ_DOORBELL (R427, R92, R426): TAIL, or INDEX_ERR where it would leave more than S entries. A storage function's doorbells
are those of NVMe (R454). -/
def execSqDoorbell (fn queue index : Nat) (s : State) : Host.Outcome State Fault Refusal :=
  if s.hostReach (mDie fn) = false then .next s
  else if s.isStorage fn then .next (s.nvmeSqTail fn queue (index % 65536))
  else
    .next (s.modQueue fn queue (fun q =>
      if q.sqSize < ringCount (index % 65536) q.sqHead then { q with indexErr := true }
      else { q with sqTail := index % 65536, ownWait := false, backoffUs := 0 }))

/-- CQ_DOORBELL (R427, R438): HEAD and ARM, or INDEX_ERR. -/
def execCqDoorbell (fn queue index : Nat) (arm : Bool) (s : State) : Host.Outcome State Fault Refusal :=
  if s.hostReach (mDie fn) = false then .next s
  else if s.isStorage fn then .next (s.nvmeCqHead fn queue (index % 65536))
  else
    match s.queue? fn queue with
    | none => .next s
    | some q =>
      let head := index % 65536
      if q.mode = .ownWb ∨ q.hostHeld < ringCount q.cqTail head then .next (s.setQueue fn queue { q with indexErr := true })
      else
        let left := ringCount q.cqTail head
        let q' := { q with cqHead := head, armed := q.armed || arm, writtenAt := q.writtenAt.drop (q.writtenAt.length - left) }
        .next ((s.setQueue fn queue q').signalCheck fn queue false)

/-- The fetch at the head of a submission queue would be carried by an Insecure IDE stream (R118). -/
def State.nvmeBlocked (s : State) (fn sq : Nat) : Bool :=
  (Tbl.find (s.nvme fn).sqs sq).any (fun q => s.live (mDie fn) && s.canIssue fn && !(s.func fn).halted && q.head != q.tail
    && s.ideBlocks fn (q.base + 64 * q.head))

/-- The control fetch of an NVMe submission queue is issued, or fails where an Insecure IDE stream would carry it (R93, R118,
R443). -/
def State.nvmeFetch (s : State) (fn sq : Nat) : State :=
  match s.nvmeHead fn sq with
  | none =>
    if s.nvmeBlocked fn sq then
      (s.reportTimeout fn sq 0).failControl fn (256 + sq) (((Tbl.find (s.nvme fn).sqs sq).map (fun q => q.head)).getD 0)
    else s
  | some (q, _) =>
    if (s.controlRead fn (256 + sq)).isSome then s else (s.issueRead fn (.control (256 + sq) q.head 1) 64).getD s

/-- SQ_FETCH (R426, R440): not while an unposted entry is waited on. -/
def execSqFetch (fn queue : Nat) (s : State) : Host.Outcome State Fault Refusal :=
  if s.isStorage fn then .next (s.nvmeFetch fn queue)
  else
    match s.queue? fn queue with
    | none => .next s
    | some q => .next (if s.live (mDie fn) && !q.ownWait then s.fetchBurst fn queue else s)

/-- CONTROL_FETCH_RETRY (R443): the control fetch that failed is issued once more. -/
def execControlFetchRetry (fn queue index : Nat) (s : State) : Host.Outcome State Fault Refusal :=
  if s.isStorage fn then .next (s.nvmeFetch fn queue)
  else
    match s.queue? fn queue with
    | none => .next s
    | some q => .next (if s.live (mDie fn) && q.retried && q.fetch == index then s.fetchBurst fn queue else s)

/-! ## Data pointers (R459, Table 14.3) -/

/-- What a data pointer comes to: host ranges, a halt with its REASON, or a status. -/
inductive Ranges where
  | ok (l : List (Nat × Nat))
  | halt (reason : Nat)
  | status (st : Nat)
  deriving DecidableEq, Repr

/-- Page size of the controller (CC.MPS). -/
def Nvme.page (v : Nvme) : Nat := 2 ^ (12 + bits v.cc 10 7)

/-- Entries of PRP lists: the last entry of a list page names the next list while more are needed. -/
def State.prpList (s : State) (fn page addr left : Nat) : Nat → Ranges
  | 0 => .halt haltLength
  | fuel + 1 =>
    if left = 0 then .ok []
    else if addr % 8 ≠ 0 then .halt haltLength
    else if !(s.func fn).inWindow addr 8 then .halt haltWindow
    else
      let e := leAt (s.hostRead fn addr 8) 0 8
      if (addr + 8) % page = 0 ∧ page < left then
        if e % page ≠ 0 then .halt haltNested else s.prpList fn page e left fuel
      else if e % page ≠ 0 then .status nvPrpOffset
      else if !(s.func fn).inWindow e (min page left) then .halt haltWindow
      else
        match s.prpList fn page (addr + 8) (left - page) fuel with
        | .ok l => .ok ((e, min page left) :: l)
        | x => x

/-- Ranges of a PRP pair. -/
def State.prpRanges (s : State) (fn page prp1 prp2 len : Nat) : Ranges :=
  let first := min len (page - prp1 % page)
  let left := len - first
  if !(s.func fn).inWindow prp1 first then .halt haltWindow
  else if left = 0 then .ok [(prp1, first)]
  else if left ≤ page then
    if prp2 % page ≠ 0 then .status nvPrpOffset
    else if !(s.func fn).inWindow prp2 left then .halt haltWindow
    else .ok [(prp1, first), (prp2, left)]
  else
    match s.prpList fn page prp2 left 1024 with
    | .ok l => .ok ((prp1, first) :: l)
    | x => x

/-- Type of an SGL descriptor (0 data block, 2 segment, 3 last segment); other types and sub-types read 15. -/
def sglType (d : List Byte) : Nat :=
  let t := leAt d 15 1
  if t = 0 then 0 else if t = 0x20 then 2 else if t = 0x30 then 3 else 15

/-- Descriptors of one segment: data blocks, and the segment that follows. -/
def State.sglSegment (s : State) (fn : Nat) (last : Bool) : List (List Byte) → Ranges × Option (List Byte)
  | [] => if last then (.ok [], none) else (.status nvSglSegment, none)
  | d :: rest =>
    let t := sglType d
    if t = 15 then (.halt haltLength, none)
    else if t = 0 then
      if !(s.func fn).inWindow (leAt d 0 8) (leAt d 8 4) then (.halt haltWindow, none)
      else
        match s.sglSegment fn last rest with
        | (.ok l, n) => (.ok ((leAt d 0 8, leAt d 8 4) :: l), n)
        | x => x
    else if last ∨ !rest.isEmpty then (.halt haltNested, none)
    else (.ok [], some d)

/-- 16-byte descriptors of a byte string. -/
def sglSplit : Nat → List Byte → List (List Byte)
  | 0, _ => []
  | n + 1, bs => sub bs 0 16 :: sglSplit n (bs.drop 16)

/-- A chain of segments from a segment descriptor: at most 16 (Table 14.3). -/
def State.sglChain (s : State) (fn : Nat) (d : List Byte) : Nat → Ranges
  | 0 => .halt haltNested
  | fuel + 1 =>
    let a := leAt d 0 8
    let n := leAt d 8 4
    if n = 0 ∨ n % 16 ≠ 0 then .halt haltLength
    else if !(s.func fn).inWindow a n then .halt haltWindow
    else
      match s.sglSegment fn (sglType d == 3) (sglSplit (n / 16) (s.hostRead fn a n)) with
      | (.ok l, none) => .ok l
      | (.ok l, some d') =>
        match s.sglChain fn d' fuel with
        | .ok l' => .ok (l ++ l')
        | x => x
      | (x, _) => x

/-- Ranges of a command's data of `len` bytes. -/
def State.hostRanges (s : State) (fn : Nat) (b : List Byte) (len : Nat) : Ranges :=
  if len = 0 then .ok []
  else if bits (leAt b 0 4) 15 14 = 0 then s.prpRanges fn (s.nvme fn).page (leAt b 24 8) (leAt b 32 8) len
  else
    let d := sub b 24 16
    let r : Ranges :=
      if sglType d = 15 then .halt haltLength
      else if sglType d = 0 then
        if !(s.func fn).inWindow (leAt d 0 8) (leAt d 8 4) then .halt haltWindow else .ok [(leAt d 0 8, leAt d 8 4)]
      else s.sglChain fn d 16
    match r with
    | .ok l => if fragSum l = len then .ok l else .status nvSglLength
    | x => x

/-- The PRP list or SGL segment of an entry at the head of a submission queue is a control fetch of its own: the state with it
issued, or failed where an Insecure IDE stream would carry it; none once it has come, or where there is none to fetch in a window of
the function (R443, R459). A list of several pages or segments counts as one fetch (log 123). -/
def State.fetchList (s : State) (fn sq index : Nat) (b : List Byte) (len : Nat) : Option State :=
  let page := (s.nvme fn).page
  let left := len - min len (page - leAt b 24 8 % page)
  let prp := bits (leAt b 0 4) 15 14 == 0
  let listed := if prp then decide (page < left) else decide (len ≠ 0) && (sglType (sub b 24 16) == 2 || sglType (sub b 24 16) == 3)
  let addr := if prp then leAt b 32 8 else leAt b 24 8
  let size := if prp then 8 * ceilDiv left page else leAt b 32 4
  if !listed || (s.tableRead fn (256 + sq)).isSome || !(s.func fn).inWindow addr size then none
  else if s.ideBlocks fn addr then some ((s.reportTimeout fn sq 0).failControl fn (256 + sq) index)
  else some ((s.issueRead fn (.table (256 + sq) index 1) size).getD s)

/-- The function halts on the entry just fetched from a submission queue, which stays unconsumed (R435, R459): the record
names the queue and the entry. -/
def State.nvmeHalt (s : State) (fn sq reason : Nat) : State :=
  match Tbl.find (s.nvme fn).sqs sq with
  | none => s
  | some q =>
    let at_ := if q.head = 0 then q.size - 1 else q.head - 1
    (s.modNvme fn (fun v => { v with sqs := Tbl.set v.sqs sq { q with head := at_ } })).halt fn reason sq at_

/-! ## Admin commands -/

/-- Opcodes a controller has in its admin queue (Table 14.2). -/
def State.adminKnown (_s : State) (fn op : Nat) : Bool :=
  [0x00, 0x01, 0x02, 0x04, 0x05, 0x06, 0x08, 0x09, 0x0A, 0x0C].contains op
    || (fn == pf1 (mDie fn) && (op == 0xC1 || op == 0xC2))

/-- Bytes of host data an admin command moves. -/
def adminLen (b : List Byte) : Nat :=
  match sqeOpcode b with
  | 0x02 => 4 * (bits (sqeDw b 10) 31 16 + 65536 * bits (sqeDw b 11) 15 0 + 1)
  | 0x06 => 4096
  | 0xC1 => sqeDw b 10
  | 0xC2 => sqeDw b 11
  | _ => 0

/-- An admin command at the head of the admin queue, the list of its data pointer fetched (R443). Any admin row meets an unknown opcode there, and completes it so (R459). -/
def State.runAdmin (s : State) (fn opcode : Nat) (run : State → List Byte → State) : State :=
  match s.nvmeHead fn 0 with
  | none => s
  | some (q, b) =>
    if !s.adminKnown fn (sqeOpcode b) then (s.nvmeTake fn 0 q).nvmePost fn 0 (sqeCid b) 0 nvBadOpcode
    else if sqeOpcode b ≠ opcode then s
    else if let some s' := s.fetchList fn 0 q.head b (adminLen b) then s'
    else
      let s := s.nvmeTake fn 0 q
      if sqeReserved b then s.nvmePost fn 0 (sqeCid b) 0 nvBadField else run s b

/-- Completion of an admin command. -/
def State.adminDone (s : State) (fn : Nat) (b : List Byte) (dw0 status : Nat) : State := s.nvmePost fn 0 (sqeCid b) dw0 status

/-- Data of an admin command written to its buffer, then its completion. -/
def State.adminData (s : State) (fn : Nat) (b data : List Byte) : State :=
  match s.hostRanges fn b data.length with
  | .status st => s.adminDone fn b 0 st
  | .halt r => s.nvmeHalt fn 0 r
  | .ok l => if s.fragsBlocked fn l then (s.reportTimeout fn 0 0).adminDone fn b 0 nvTransfer
    else (s.writeFrags fn 0 l data).adminDone fn b 0 0

/-- Queues other than the admin pair. -/
def Nvme.ioCqs (v : Nvme) : Nat := (v.cqs.filter (fun e => e.1 != 0)).length

/-- A queue of CREATE_IO_SQ or CREATE_IO_CQ: common checks of NVMe, or the failing status. -/
def badQueue (v : Nvme) (b : List Byte) (list : Tbl NvmeQueue) : Option Nat :=
  let qid := bits (sqeDw b 10) 15 0
  let size := bits (sqeDw b 10) 31 16
  if qid = 0 ∨ 256 ≤ qid ∨ (Tbl.find list qid).isSome then some nvBadQueue
  else if size = 0 ∨ 0x7FFF < size then some nvQueueSize
  else if bit (sqeDw b 11) 0 = false then some nvBadField
  else if leAt b 24 8 % v.page ≠ 0 then some nvPrpOffset
  else none

/-- A contiguous queue lies in a window of the function, or the function halts (Table 14.3). -/
def State.queueBase (s : State) (fn : Nat) (b : List Byte) (bytes : Nat) (go : State → State) : State :=
  if (s.func fn).inWindow (leAt b 24 8) bytes then go s
  else s.nvmeHalt fn 0 haltWindow

/-- Create I/O Completion Queue: it draws one queue pair of the function's grant (R455). -/
def runCreateCq (fn : Nat) (s : State) (b : List Byte) : State :=
  let v := s.nvme fn
  let qid := bits (sqeDw b 10) 15 0
  let n := bits (sqeDw b 10) 31 16 + 1
  let w := sqeDw b 11
  match badQueue v b v.cqs with
  | some st => s.adminDone fn b 0 st
  | none =>
    if (s.func fn).queuePairs ≤ v.cqs.length ∨ 256 ≤ v.cqs.length ∨ s.sharedSlots (mDie fn) < 2 then s.adminDone fn b 0 nvBadQueue
    else if (s.func fn).vectorsInEffect ≤ bits w 31 16 then s.adminDone fn b 0 nvBadVector
    else if bits w 15 2 ≠ 0 then s.adminDone fn b 0 nvBadField
    else s.queueBase fn b (16 * n) (fun s =>
      let c : NvmeQueue :=
        { base := leAt b 24 8, size := n, head := 0, tail := 0, peer := bits w 31 16, intEnable := bit w 1, phase := true, held := [], retried := false }
      (s.modNvme fn (fun v => { v with cqs := Tbl.set v.cqs qid c })).adminDone fn b 0 0)

/-- Create I/O Submission Queue. -/
def runCreateSq (fn : Nat) (s : State) (b : List Byte) : State :=
  let v := s.nvme fn
  let qid := bits (sqeDw b 10) 15 0
  let n := bits (sqeDw b 10) 31 16 + 1
  let w := sqeDw b 11
  let cq := bits w 31 16
  match badQueue v b v.sqs with
  | some st => s.adminDone fn b 0 st
  | none =>
    if cq = 0 ∨ (Tbl.find v.cqs cq).isNone then s.adminDone fn b 0 nvBadCq
    else if 256 ≤ v.sqs.length then s.adminDone fn b 0 nvBadQueue
    else if bits w 15 3 ≠ 0 then s.adminDone fn b 0 nvBadField
    else s.queueBase fn b (64 * n) (fun s =>
      let q : NvmeQueue :=
        { base := leAt b 24 8, size := n, head := 0, tail := 0, peer := cq, intEnable := false, phase := false, held := [], retried := false }
      (s.modNvme fn (fun v => { v with sqs := Tbl.set v.sqs qid q })).adminDone fn b 0 0)

/-- Delete I/O Submission Queue: commands of the queue complete as aborted by the deletion; those at a target are orphaned. -/
def runDeleteSq (fn : Nat) (s : State) (b : List Byte) : State :=
  let v := s.nvme fn
  let qid := bits (sqeDw b 10) 15 0
  if qid = 0 ∨ (Tbl.find v.sqs qid).isNone then s.adminDone fn b 0 nvBadQueue
  else if bits (sqeDw b 10) 31 16 ≠ 0 then s.adminDone fn b 0 nvBadField
  else
    let die := mDie fn
    let mine := fun (c : NvmeCmd) => c.fn == fn && c.sq == qid && !c.orphan
    let hit := (s.storage die).cmds.filter (fun e => mine e.2)
    let s := hit.foldl (fun s (_, c) => s.nvmePost fn qid c.cid 0 nvSqDeleted) s
    let s := s.modStorage die (fun st => { st with
      cmds := (st.cmds.filter (fun e => !mine e.2 || e.2.atTarget)).map (fun e =>
        (e.1, if mine e.2 then { e.2 with orphan := true } else e.2)) })
    let gone := (hit.filter (fun e => !e.2.atTarget)).map (fun e => e.1)
    let s := s.modCipherOf die (fun c => { c with units := c.units.filter (fun (_, u) => match u.source with
      | .block f k => f != fn || !gone.contains k
      | _ => true) })
    let s := (hit.filter (fun e => e.2.atTarget)).foldl (fun s _ => s.storCount die 0x18 1) (s.sweepReads die)
    ((s.dropFetches fn (fun q => q == qid)).modNvme fn (fun v => { v with sqs := Tbl.del v.sqs qid })).adminDone fn b 0 0

/-- Delete I/O Completion Queue: refused while a submission queue feeds it. -/
def runDeleteCq (fn : Nat) (s : State) (b : List Byte) : State :=
  let v := s.nvme fn
  let qid := bits (sqeDw b 10) 15 0
  if qid = 0 ∨ (Tbl.find v.cqs qid).isNone then s.adminDone fn b 0 nvBadQueue
  else if bits (sqeDw b 10) 31 16 ≠ 0 then s.adminDone fn b 0 nvBadField
  else if v.sqs.any (fun e => e.2.peer == qid) then s.adminDone fn b 0 nvQueueDelete
  else (s.modNvme fn (fun v => { v with cqs := Tbl.del v.cqs qid })).adminDone fn b 0 0

/-- Bytes that the spec does not state, of a page of a function or of a twin pair (log 6). -/
def freeBytes (tag o n : Nat) : List Byte := (List.range n).map (fun i => Config.freeByte (tag * 65536 + o + i))

/-- Identify Controller (Table 14.1, R492): twins present one SUBNQN. Bytes the spec does not state are free. -/
def State.identifyController (s : State) (fn : Nat) : List Byte :=
  let put := fun (o : Nat) (v : List Byte) (bs : List Byte) => overlay bs o v
  let tag := 2 ^ 32 + fn
  put 768 (freeBytes (2 ^ 33 + s.pairIdentity fn) 768 256) <| put 536 (toLe 4 1) <| put 525 [0x01] <| put 522 (toLe 2 0) <|
    put 520 (toLe 2 0x000D) <| put 516 (toLe 4 256) <| put 512 [0x66, 0x44] <| put 256 (toLe 2 0) <| put 111 [1] <|
    put 80 (toLe 4 0x00020000) <| put 77 [8] <| put 0 (toLe 2 0x1D7A ++ toLe 2 0x1D7A) <| freeBytes tag 0 4096

/-- The namespace a function sees under an NSID. -/
def State.namespaceOf (s : State) (fn nsid : Nat) : Option Namespace :=
  ((s.storage (mDie fn)).namespaces.find? (fun e => e.2.fn == fn && e.2.nsid == nsid)).map (fun e => e.2)

/-- NGUID: equal on twins (R492); the value is free. -/
def State.nguid (s : State) (fn nsid : Nat) : List Byte := freeBytes (2 ^ 34 + s.pairIdentity fn * 512 + nsid) 104 16

/-- Identify Namespace (Table 14.1): an NSID with no namespace gives zeros. -/
def State.identifyNamespace (s : State) (fn nsid : Nat) : List Byte :=
  match s.namespaceOf fn nsid with
  | none => List.replicate 4096 0
  | some x =>
    let put := fun (o : Nat) (v : List Byte) (bs : List Byte) => overlay bs o v
    put 128 (toLe 2 0 ++ toLe 1 x.lbads) <| put 104 (s.nguid fn nsid) <| put 25 [0, 0] <|
      put 0 (toLe 8 x.blocks ++ toLe 8 x.blocks) <| freeBytes (2 ^ 35 + fn * 512 + nsid) 0 4096

/-- Active NSIDs of a function above one, ascending, at most 1,024. -/
def State.activeNsids (s : State) (fn after : Nat) : List Nat :=
  (List.range 257).filter (fun n => decide (after < n) && (s.namespaceOf fn n).isSome)

/-- Identify (R454). -/
def runIdentify (fn : Nat) (s : State) (b : List Byte) : State :=
  let cns := bits (sqeDw b 10) 7 0
  let nsid := sqeNsid b
  if bits (sqeDw b 10) 15 8 ≠ 0 then s.adminDone fn b 0 nvBadField
  else if cns = 0 then
    if nsid = 0 ∨ 256 < nsid then s.adminDone fn b 0 nvBadNs else s.adminData fn b (s.identifyNamespace fn nsid)
  else if cns = 1 then s.adminData fn b (s.identifyController fn)
  else if cns = 2 then
    if 0xFFFFFFFE ≤ nsid then s.adminDone fn b 0 nvBadNs
    else s.adminData fn b (sub ((s.activeNsids fn nsid).flatMap (toLe 4)) 0 4096)
  else if cns = 3 then
    if (s.namespaceOf fn nsid).isNone then s.adminDone fn b 0 nvBadNs
    else s.adminData fn b (sub ([2, 16, 0, 0] ++ s.nguid fn nsid) 0 4096)
  else s.adminDone fn b 0 nvBadField

/-- Get Log Page (R454): Error Information and SMART contents are free; reading the Changed Namespace List clears it unless
Retain Asynchronous Event is set. -/
def runGetLogPage (fn : Nat) (s : State) (b : List Byte) : State :=
  let page := bits (sqeDw b 10) 7 0
  let n := 4 * (bits (sqeDw b 10) 31 16 + 65536 * bits (sqeDw b 11) 15 0 + 1)
  let from_ := leAt b 48 8
  let data : Option (List Byte) :=
    if page = 1 ∨ page = 2 then some (freeBytes (2 ^ 36 + fn * 4 + page) 0 (from_ + n))
    else if page = 4 then some ((s.nvme fn).changedNs.flatMap (toLe 4))
    else none
  match data with
  | none => s.adminDone fn b 0 nvBadField
  | some bs =>
    if from_ % 4 ≠ 0 then s.adminDone fn b 0 nvBadField
    else
      let s := s.adminData fn b (sub bs from_ n)
      if page = 4 ∧ bit (sqeDw b 10) 15 = false then s.modNvme fn (fun v => { v with changedNs := [] }) else s

/-- Value of a feature: none where the controller has no such feature. -/
def Nvme.feature (v : Nvme) (fid arg : Nat) : Option Nat :=
  if fid = 0x06 then some v.featVwc
  else if fid = 0x07 then some v.featQueues
  else if fid = 0x08 then some v.featCoalesce
  else if fid = 0x09 then some (bits arg 15 0 + Tbl.look 0 v.featVector (bits arg 15 0) * 2 ^ 16)
  else if fid = 0x0B then some v.featAsync
  else none

/-- Set Features (R454): the write cache is read only; the number of queues is set before I/O queues exist. -/
def runSetFeatures (fn : Nat) (s : State) (b : List Byte) : State :=
  let v := s.nvme fn
  let fid := bits (sqeDw b 10) 7 0
  let w := sqeDw b 11
  if bits (sqeDw b 10) 31 8 ≠ 0 then s.adminDone fn b 0 nvBadField
  else if fid = 0x06 then s.adminDone fn b 0 nvReadOnlyFeature
  else if fid = 0x07 then
    if 0 < v.ioCqs ∨ 1 < v.sqs.length then s.adminDone fn b 0 nvSequence
    else if bits w 15 0 = 0xFFFF ∨ bits w 31 16 = 0xFFFF then s.adminDone fn b 0 nvBadField
    else
      let cqs := min (bits w 31 16) (min 255 ((s.func fn).queuePairs - 1) - 1)
      let got := min (bits w 15 0) 254 + 2 ^ 16 * cqs
      (s.setNvme fn { v with featQueues := got }).adminDone fn b got 0
  else if fid = 0x08 then (s.setNvme fn { v with featCoalesce := bits w 15 0 }).adminDone fn b 0 0
  else if fid = 0x09 then
    if (s.func fn).vectorsInEffect ≤ bits w 15 0 then s.adminDone fn b 0 nvBadField
    else (s.setNvme fn { v with featVector := Tbl.put 0 v.featVector (bits w 15 0) (bits w 16 16) }).adminDone fn b 0 0
  else if fid = 0x0B then (s.setNvme fn { v with featAsync := w }).adminDone fn b 0 0
  else s.adminDone fn b 0 nvBadField

/-- Get Features (R454): the current value. -/
def runGetFeatures (fn : Nat) (s : State) (b : List Byte) : State :=
  match (s.nvme fn).feature (bits (sqeDw b 10) 7 0) (sqeDw b 11) with
  | some x => if bits (sqeDw b 10) 31 8 ≠ 0 then s.adminDone fn b 0 nvBadField else s.adminDone fn b x 0
  | none => s.adminDone fn b 0 nvBadField

/-- Abort (R456): it succeeds only for a command not yet sent to a target. -/
def runAbort (fn : Nat) (s : State) (b : List Byte) : State :=
  let die := mDie fn
  let sq := bits (sqeDw b 10) 15 0
  let cid := bits (sqeDw b 10) 31 16
  let mine := fun (c : NvmeCmd) => c.fn == fn && c.sq == sq && c.cid == cid && !c.orphan
  let hit := (s.storage die).cmds.filter (fun e => mine e.2)
  let unsent := fun (c : NvmeCmd) => (decide (c.phase = .staging) || decide (c.phase = .reading) || decide (c.phase = .behind) || decide (c.phase = .encrypt)
    || decide (c.phase = .path)) && c.reissues == 0 && c.pos == 0
  if hit.isEmpty ∨ hit.any (fun e => !unsent e.2) then s.adminDone fn b 1 0
  else
    let keys := hit.map (fun e => e.1)
    let s := (s.modStorage die (fun st => { st with cmds := st.cmds.filter (fun e => !mine e.2) })).sweepReads die
    let s := s.modCipherOf die (fun c => { c with units := c.units.filter (fun (_, u) => match u.source with
      | .block f k => f != fn || !keys.contains k
      | _ => true) })
    (s.nvmePost fn sq cid 0 nvAborted).adminDone fn b 0 0

/-- Asynchronous Event Request (R454). -/
def runAsyncRequest (fn : Nat) (s : State) (b : List Byte) : State :=
  s.modNvme fn (fun v => { v with asyncReqs := v.asyncReqs ++ [sqeCid b] })

/-- CREATE_IO_SQ (R455). -/
def execCreateIoSq (fn : Nat) (s : State) : Host.Outcome State Fault Refusal := .next (s.runAdmin fn 0x01 (runCreateSq fn))

/-- DELETE_IO_SQ (R455). -/
def execDeleteIoSq (fn : Nat) (s : State) : Host.Outcome State Fault Refusal := .next (s.runAdmin fn 0x00 (runDeleteSq fn))

/-- CREATE_IO_CQ (R455). -/
def execCreateIoCq (fn : Nat) (s : State) : Host.Outcome State Fault Refusal := .next (s.runAdmin fn 0x05 (runCreateCq fn))

/-- DELETE_IO_CQ (R455). -/
def execDeleteIoCq (fn : Nat) (s : State) : Host.Outcome State Fault Refusal := .next (s.runAdmin fn 0x04 (runDeleteCq fn))

/-- IDENTIFY (R454, R492). -/
def execIdentify (fn : Nat) (s : State) : Host.Outcome State Fault Refusal := .next (s.runAdmin fn 0x06 (runIdentify fn))

/-- GET_LOG_PAGE (R454). -/
def execGetLogPage (fn : Nat) (s : State) : Host.Outcome State Fault Refusal := .next (s.runAdmin fn 0x02 (runGetLogPage fn))

/-- SET_FEATURES (R454). -/
def execSetFeatures (fn : Nat) (s : State) : Host.Outcome State Fault Refusal := .next (s.runAdmin fn 0x09 (runSetFeatures fn))

/-- GET_FEATURES (R454). -/
def execGetFeatures (fn : Nat) (s : State) : Host.Outcome State Fault Refusal := .next (s.runAdmin fn 0x0A (runGetFeatures fn))

/-- ASYNCHRONOUS_EVENT_REQUEST (R454). -/
def execAsynchronousEventRequest (fn : Nat) (s : State) : Host.Outcome State Fault Refusal :=
  .next (s.runAdmin fn 0x0C (runAsyncRequest fn))

/-- NVME_ABORT (R456). -/
def execNvmeAbort (fn : Nat) (s : State) : Host.Outcome State Fault Refusal := .next (s.runAdmin fn 0x08 (runAbort fn))

end Sys2Proof.Machine
end

