-- ==== Sys2Proof/Machine/StorageOps.lean ====
section
/-! DEFINITION. How I/O commands of storage functions move: staging, encryption, paths and targets, data to the host,
completion (spec/14 R456–R473). -/

namespace Sys2Proof.Machine

/-! ## Commands of a die -/

def State.cmd? (s : State) (die k : Nat) : Option NvmeCmd := Tbl.find (s.storage die).cmds k
def State.setCmd (s : State) (die k : Nat) (c : NvmeCmd) : State :=
  s.modStorage die (fun t => { t with cmds := Tbl.set t.cmds k c })

/-- A command's blocks are written at the target. -/
def NvmeCmd.writes (c : NvmeCmd) : Bool := c.opcode == 1 || c.opcode == 8

/-- Units of the cipher engine that belong to a command. -/
def CipherUnit.ofCmd (u : CipherUnit) (fn k : Nat) : Bool := decide (u.source = .block fn k)
def State.cmdUnits (s : State) (die fn k : Nat) : Tbl CipherUnit := (s.cipherOf die).units.filter (fun e => e.2.ofCmd fn k)
def State.dropUnits (s : State) (die fn k : Nat) : State :=
  s.modCipherOf die (fun c => { c with units := c.units.filter (fun e => !e.2.ofCmd fn k) })

/-- A namespace being destroyed is gone once no fetched command of it is left (R462). -/
def State.sweepNamespaces (s : State) (die : Nat) : State :=
  s.modStorage die (fun t => { t with
    namespaces := t.namespaces.filter (fun (_, x) => !x.destroying
      || t.cmds.any (fun (_, c) => c.fn == x.fn && c.nsid == x.nsid)) })

/-- A command is over: its staging and units are free. -/
def State.removeCmd (s : State) (die k : Nat) (c : NvmeCmd) : State :=
  let s := ((s.dropUnits die c.fn k).modStorage die (fun t => { t with cmds := Tbl.del t.cmds k })).sweepReads die
  (s.sweepNamespaces die).nvmeSettle c.fn

/-- A command completes to the host with a status (R473). A Flush of several namespaces completes with its last part, and
with the first failing status of its parts. -/
def State.completeCmd (s : State) (die k status : Nat) : State :=
  match s.cmd? die k with
  | none => s
  | some c =>
    let s := s.removeCmd die k c
    let st := if c.status ≠ 0 then c.status else status
    let rest := (s.storage die).cmds.filter (fun (_, x) => c.opcode == 0 && x.opcode == 0 && x.fn == c.fn && x.sq == c.sq
      && x.cid == c.cid && !x.orphan)
    if rest.isEmpty then
      let s := if c.opcode = 2 then s.storCount die 0 1 else if c.writes then s.storCount die 8 1 else s
      s.nvmePost c.fn c.sq c.cid 0 st
    else rest.foldl (fun s (i, x) => s.setCmd die i { x with status := if x.status = 0 then st else x.status }) s

/-! ## Paths (R461, R466) -/

/-- A remote namespace serves a local one (R461). -/
def RemoteNs.fits (r : RemoteNs) (x : Namespace) : Bool :=
  r.lbads == x.lbads && decide (x.remoteOffset + x.blocks ≤ r.blocks) && (!x.protect || (decide (24 ≤ r.metaBytes) && !r.protection))

/-- LIVE paths of a target that have read a remote namespace. -/
def Target.livePaths (t : Target) (nsid : Nat) : List (Nat × Path × RemoteNs) :=
  t.paths.filterMap (fun (i, p) =>
    if p.state = .live then (Tbl.find p.remotes nsid).map (fun r => (i, p, r)) else none)

/-- Paths of the best ANA state available. -/
def Target.bestPaths (t : Target) (nsid : Nat) : List (Nat × Path × RemoteNs) :=
  let l := t.livePaths nsid
  let o := l.filter (fun e => decide (e.2.2.ana = .optimized))
  if o.isEmpty then l.filter (fun e => decide (e.2.2.ana = .nonOptimized)) else o

/-- The path a command takes (R466). -/
def Target.choose (t : Target) (nsid : Nat) : Option (Nat × Path × RemoteNs) :=
  let l := t.bestPaths nsid
  if t.policy = 1 then
    match l.find? (fun e => decide (t.rotor < e.1)) with
    | some e => some e
    | none => l.head?
  else
    let least := l.foldl (fun a e => min a e.2.1.priority) 4
    l.find? (fun e => e.2.1.priority == least)

/-- Every LIVE path of the namespace is INACCESSIBLE (Table 14.8). -/
def Target.allInaccessible (t : Target) (nsid : Nat) : Bool := !(t.livePaths nsid).isEmpty && (t.bestPaths nsid).isEmpty

def State.target? (s : State) (die n : Nat) : Option Target := Tbl.find (s.storage die).targets n
def State.setTarget (s : State) (die n : Nat) (t : Target) : State :=
  s.modStorage die (fun x => { x with targets := Tbl.set x.targets n t })

/-- Commands at a target by an I/O connection of a path. -/
def State.onConnection (s : State) (die target path queues conn : Nat) : Nat :=
  ((s.storage die).cmds.filter (fun (_, c) => c.target == target && decide (c.phase = .sent path) && c.sq % queues == conn)).length

/-- What a command sends: opcode and data (R468, R469, Table 14.7). A protected block's metadata is filled up with zeros. -/
def wireOf (c : NvmeCmd) (x : Namespace) (r : RemoteNs) : Nat × List Byte :=
  let size := 2 ^ x.lbads
  if c.opcode = 2 ∨ c.opcode = 5 then (2, [])
  else if c.opcode = 8 ∧ c.data.isEmpty then (8, [])
  else if x.protect ∧ c.writes then
    (1, (List.range c.part).flatMap (fun i => sub c.data (i * (size + 24)) (size + 24) ++ List.replicate (r.metaBytes - 24) 0))
  else (if c.opcode = 8 then 1 else c.opcode, c.data)

/-- The command goes to a target if a path is open to it (R466). -/
def State.sendCmd (s : State) (die k : Nat) : State :=
  match s.cmd? die k with
  | none => s
  | some c =>
    match s.namespaceOf c.fn c.nsid, s.target? die c.target with
    | some x, some t =>
      match t.choose x.remoteNsid with
      | none => s
      | some (i, p, r) =>
        let busy := ((s.storage die).cmds.filter (fun e => e.2.atTarget)).length
        if p.qdepth ≤ s.onConnection die c.target i p.queues (c.sq % p.queues) ∨ 65536 ≤ busy then s
        else
          let s := s.setCmd die k { c with phase := .sent i, again := false, reissues := c.reissues + b2n c.again, since := s.dieTick die }
          let s := s.setTarget die c.target
            { t with rotor := if t.policy = 1 then i else t.rotor, reissued := (t.reissued + b2n c.again) % 2 ^ 32 }
          let w := wireOf c x r
          s.emit (.target die c.target i k w.1 x.remoteNsid (x.remoteOffset + c.lba + c.pos) c.part w.2)
    | _, _ => s

/-! ## Staging and encryption -/

/-- Staging bytes held on a die by one function, or by all. -/
def State.stageUsed (s : State) (die : Nat) (fn : Option Nat) : Nat :=
  (((s.storage die).cmds.filter (fun (_, c) => fn.isNone || fn == some c.fn)).map (fun e => e.2.stage)).sum

/-- Staging bytes a command of a namespace needs for `n` blocks. -/
def stageNeed (x : Namespace) (n : Nat) : Nat := n * (2 ^ x.lbads + if x.protect then 24 else 0)

/-- The function may hold that much more (R464, R478). -/
def State.stageRoom (s : State) (fn n : Nat) : Bool :=
  let die := mDie fn
  decide (s.stageUsed die (some fn) + n ≤ (s.func fn).stageMax * 2 ^ 20)
    && decide (s.stageUsed die none + n ≤ min 256 (s.partition die 1).stageTotalMib * 2 ^ 20)

/-- An orphaned write of the function and namespace overlaps the command's blocks (R458). -/
def State.orphanOverlaps (s : State) (die : Nat) (c : NvmeCmd) : Bool :=
  (c.writes || c.opcode == 5) && (s.storage die).cmds.any (fun (_, o) => o.orphan && o.writes && o.fn == c.fn
    && o.nsid == c.nsid && decide (o.lba < c.lba + c.blocks) && decide (c.lba < o.lba + o.blocks))

/-- A unit of a block given to the cipher engine: its associated data are the namespace and the local block number (R470). -/
def State.blockUnit (s : State) (die slot : Nat) (c : NvmeCmd) (k index seq : Nat) (encrypt : Bool) (bytes : List Byte) : State :=
  s.addUnit die
    { source := .block c.fn k, slot := slot, born := 0, encrypt := encrypt, reinject := false, phase := .waiting, seq := seq,
      bytes := bytes, aad := toBe 4 c.nsid ++ toBe 8 (c.lba + c.pos + index), verify := 0, tempo := s.tempo.current, klass := 3, index := index, out := [], order := 0 }

/-- A command with its data staged goes on: a protected write is encrypted block by block, others seek a path (R470, R471). -/
def State.beginCmd (s : State) (die k : Nat) : State :=
  match s.cmd? die k with
  | none => s
  | some c =>
    match s.namespaceOf c.fn c.nsid with
    | none => s
    | some x =>
      if x.protect ∧ c.writes then
        match (s.keySlot die x.writeSlot).at s.tempo.current with
        | none => s.completeCmd die k nvInternal
        | some v =>
          if v.state ≠ .active then s.completeCmd die k nvInternal
          else
            let size := 2 ^ x.lbads
            let s := s.setCmd die k { c with phase := .encrypt }
            (List.range c.part).foldl (fun s i =>
              s.blockUnit die x.writeSlot c k i 0 true (sub c.data (i * size) size)) s
      else (s.setCmd die k { c with phase := .path, since := s.dieTick die }).sendCmd die k

/-- A command with staging waits behind an orphaned write, or goes on (R458). -/
def State.orderCmd (s : State) (die k : Nat) (c : NvmeCmd) : State :=
  if s.orphanOverlaps die c then (s.setCmd die k { c with phase := .behind }).storCount die 0x20 1
  else (s.setCmd die k c).beginCmd die k

/-- The data of a write have come from the host (R464). -/
def State.dataCame (s : State) (die k : Nat) : State :=
  match s.cmd? die k with
  | none => s
  | some c =>
    if c.phase = .reading then s.orderCmd die k { c with data := s.readFrags c.fn c.frags } else s

/-- A command takes its staging if it can, and a write begins to read its data from the host once a tag is free (R93, R464). Write
Zeroes that is written has its zeros filled, one part of at most 1 MiB at a time (R469). -/
def State.stageCmd (s : State) (die k : Nat) : State :=
  match s.cmd? die k with
  | none => s
  | some c =>
    match s.namespaceOf c.fn c.nsid with
    | none => s
    | some x =>
      let zeroes := c.opcode = 8 ∧ (x.protect ∨ !((s.target? die c.target).any (fun t =>
        (t.paths.any (fun (_, p) => (Tbl.find p.remotes x.remoteNsid).any (fun r => r.writeZeroes))))))
      let most := if c.opcode = 8 then 2 ^ 20 / 2 ^ x.lbads else c.blocks
      let part := if c.opcode = 8 ∧ ¬ zeroes then c.blocks else min most (c.blocks - c.pos)
      let need := if c.opcode = 1 ∨ c.opcode = 2 ∨ c.opcode = 5 ∨ zeroes then stageNeed x part else 0
      if s.stageRoom c.fn need = false ∨ (c.opcode = 1 ∧ s.canIssue c.fn = false) then s
      else if c.opcode = 1 then
        if s.fragsBlocked c.fn c.frags then (s.reportTimeout c.fn c.sq 0).completeCmd die k nvTransfer
        else
          match s.needRead c.fn (.storage c.sq k) (fragSum c.frags) with
          | none => s
          | some s => s.setCmd die k { c with stage := need, part := part, phase := .reading }
      else
        let data := if zeroes then List.replicate (part * 2 ^ x.lbads) 0 else c.data
        s.orderCmd die k { c with stage := need, data := data, part := part }

/-- The data read of a write failed: Data Transfer Error (R95, R473). -/
def State.failStorage (s : State) (fn k : Nat) : State :=
  let die := mDie fn
  match s.cmd? die k with
  | some c => if c.fn = fn ∧ c.phase = .reading then s.completeCmd die k nvTransfer else s
  | none => s

/-! ## Data back to the host -/

/-- The part of host ranges from an offset. -/
def sliceFrags : List (Nat × Nat) → Nat → Nat → List (Nat × Nat)
  | [], _, _ => []
  | (a, n) :: rest, o, len =>
    if len = 0 then []
    else if n ≤ o then sliceFrags rest (o - n) len
    else
      let take := min (n - o) len
      (a + o, take) :: sliceFrags rest 0 (len - take)

/-- Data of a Read go to the host; those of a Compare are compared with it. True when they differ (R468). -/
def State.placeData (s : State) (c : NvmeCmd) (o : Nat) (bs : List Byte) : State × Bool :=
  let l := sliceFrags c.frags o bs.length
  if c.opcode = 5 then (s, s.readFrags c.fn l != bs) else (s.writeFrags c.fn c.sq l bs, false)

/-- Data of an unprotected Read or Compare, or of one whose blocks are all unwritten: copied or compared once the function
can issue (R464, R468, R475). -/
def State.copyCmd (s : State) (die k : Nat) : State :=
  match s.cmd? die k with
  | none => s
  | some c =>
    if s.canIssue c.fn = false then s
    else if s.fragsBlocked c.fn c.frags then (s.reportTimeout c.fn c.sq 0).completeCmd die k nvTransfer
    else
      let (s, differ) := s.placeData c 0 c.data
      s.completeCmd die k (if differ then nvMiscompare else 0)

/-- One block of a protected namespace as the target returned it: data, metadata (Table 14.7). -/
def blockAt (data : List Byte) (stride i : Nat) : List Byte := sub data (i * stride) stride

/-- Data of a protected Read or Compare arrived: written blocks are decrypted; unwritten ones read as zeros (R470, R471). -/
def State.openBlocks (s : State) (die k : Nat) (c : NvmeCmd) (x : Namespace) (data : List Byte) : State :=
  let size := 2 ^ x.lbads
  let stride := max (size + 24) (data.length / max 1 c.blocks)
  let written := (List.range c.blocks).filter (fun i => !allZero (blockAt data stride i))
  if written.isEmpty then
    (s.setCmd die k { c with phase := .copy, data := List.replicate (c.blocks * size) 0 }).copyCmd die k
  else
    let s := s.setCmd die k { c with phase := .decrypt, data := data }
    written.foldl (fun s i =>
      let b := blockAt data stride i
      s.blockUnit die x.readSlot c k i (leAt b size 8) false (sub b 0 size ++ sub b (size + 8) 16)) s

/-- Blocks of a command may leave the verify buffer: all of them have passed, so that none goes to the host before a failing one
(Table 14.11), or there are more than FUNC_MAX lets a function hold, so that they leave one by one (log 123). -/
def State.allVerified (s : State) (die fn k : Nat) (c : NvmeCmd) (x : Namespace) : Bool :=
  (s.cmdUnits die fn k).all (fun e => decide (e.2.phase = .verified))
    || decide ((s.cipherOf die).funcMax.written < c.blocks * (2 ^ x.lbads / 256))

/-- A verified block leaves the verify buffer for the host; with the last one the unwritten blocks follow as zeros and the
command completes (R411, R468, R471). -/
def State.departBlock (s : State) (die u : Nat) : State :=
  match Tbl.find (s.cipherOf die).units u with
  | none => s
  | some w =>
    match w.source with
    | .block fn k =>
      match s.cmd? die k, (s.cmd? die k).bind (fun c => s.namespaceOf c.fn c.nsid) with
      | some c, some x =>
        let all := s.cmdUnits die fn k
        if s.canIssue fn = false ∨ w.phase ≠ .verified ∨ (s.cipherOf die).leads w = false ∨ s.allVerified die fn k c x = false then s
        else if s.fragsBlocked fn c.frags then (s.reportTimeout fn c.sq 0).completeCmd die k nvTransfer
        else
          let size := 2 ^ x.lbads
          let stride := max (size + 24) (c.data.length / max 1 c.blocks)
          let (s, differ) := s.placeData c (w.index * size) (sub w.out 0 size)
          let s := s.modCipherOf die (fun y => { y with units := Tbl.del y.units u })
          if differ then s.completeCmd die k nvMiscompare
          else if 1 < all.length then s
          else
            let (s, differ) := (List.range c.blocks).foldl (fun (a : State × Bool) i =>
              if allZero (blockAt c.data stride i) then
                let r := a.1.placeData c (i * size) (List.replicate size 0)
                (r.1, a.2 || r.2)
              else a) (s, false)
            s.completeCmd die k (if differ then nvMiscompare else 0)
      | _, _ => s.modCipherOf die (fun y => { y with units := Tbl.del y.units u })
    | _ => s

/-- A block's encryption is done: its ciphertext, WRITE_COUNT and tag take their place in staging, and the last one lets the
command seek a path (R470). -/
def State.sealBlock (s : State) (die u : Nat) (out : List Byte) : State :=
  match Tbl.find (s.cipherOf die).units u with
  | none => s
  | some w =>
    let s := s.modCipherOf die (fun y => { y with units := Tbl.del y.units u })
    match w.source with
    | .block fn k =>
      match s.cmd? die k, (s.cmd? die k).bind (fun c => s.namespaceOf c.fn c.nsid) with
      | some c, some x =>
        let size := 2 ^ x.lbads
        let sealed := sub out 0 size ++ toLe 8 w.seq ++ sub out size 16
        -- plaintext blocks become sealed ones at the end of the part, so each keeps its place by its index
        let done := c.data.drop (c.part * size)
        let plain := c.data.take (c.part * size)
        let all := if done.isEmpty then List.replicate (c.part * (size + 24)) 0 else done
        let c' := { c with data := plain ++ overlay all (w.index * (size + 24)) sealed }
        if (s.cmdUnits die fn k).isEmpty then
          (s.setCmd die k { c' with data := c'.data.drop (c.part * size), phase := .path, since := s.dieTick die }).sendCmd die k
        else s.setCmd die k c'
      | _, _ => s
    | _ => s

/-- A unit of a command fails: the whole command fails with a status (R411, R473). -/
def State.failBlock (s : State) (die u status : Nat) : State :=
  match Tbl.find (s.cipherOf die).units u with
  | none => s
  | some w =>
    let s := s.modCipherOf die (fun y => { y with units := Tbl.del y.units u })
    match w.source with
    | .block _ k => s.completeCmd die k status
    | _ => s

/-! ## Settling -/

/-- A waiting command goes on if it can now. -/
def State.advanceCmd (s : State) (die k : Nat) : State :=
  match s.cmd? die k with
  | none => s
  | some c =>
    if c.orphan then s
    else
      match c.phase with
      | .staging => s.stageCmd die k
      | .reading => if s.canIssue c.fn then (s.needRead c.fn (.storage c.sq k) (fragSum c.frags)).getD s else s
      | .behind => if s.orphanOverlaps die c then s else s.beginCmd die k
      | .path => s.sendCmd die k
      | .copy => s.copyCmd die k
      | _ => s

/-- Every waiting command of a die goes on if it can, the oldest first. -/
def State.storageSettle (s : State) (die : Nat) : State :=
  ((s.storage die).cmds.map (fun e => e.1)).foldl (fun s k => s.advanceCmd die k) s

/-! ## Connections of paths (R463, R467) -/

/-- The connections of a path opened: one admin and QUEUES I/O connections, one context each. None is opened where contexts
lack. -/
def State.openConnections (s : State) (die owner : Nat) (p : Path) : Nat → Option (State × List Nat)
  | 0 => some (s, [])
  | n + 1 =>
    match s.openStorage die owner p.transport p.flags p.vrf p.port p.localAddress p.address with
    | none => none
    | some (s, c) => (s.openConnections die owner p n).map (fun (s, l) => (s, c :: l))

/-- A path begins to connect. -/
def State.connectPath (s : State) (die owner : Nat) (p : Path) : Option (State × Path) :=
  (s.openConnections die owner p (p.queues + 1)).map (fun (s, l) => (s, { p with state := .connecting, contexts := l }))

/-- The connections of a path end. -/
def State.closePath (s : State) (die : Nat) (p : Path) : State := p.contexts.foldl (fun s n => s.closeContext die n) s

/-- Commands on a path are re-issued: those that write after FENCE_MS if `fence`; with re-issues used up they complete
(R463, R467). -/
def State.reissue (s : State) (die target path : Nat) (fence : Bool) : State :=
  let hit := (s.storage die).cmds.filter (fun (_, c) => c.target == target && decide (c.phase = .sent path) && !c.orphan)
  hit.foldl (fun s (k, c) =>
    if 3 ≤ c.reissues then s.completeCmd die k nvTransient
    else if fence && (c.writes || c.opcode == 9) then s.setCmd die k { c with phase := .fence path, again := true, since := s.dieTick die }
    else s.setCmd die k { c with phase := .path, again := true, since := s.dieTick die }) s

/-- A path goes DOWN (R467). -/
def State.pathFails (s : State) (die target path : Nat) : State :=
  match s.target? die target with
  | none => s
  | some t =>
    match Tbl.find t.paths path with
    | none => s
    | some p =>
      if p.state = .down ∨ p.state = .absent then s
      else
        let s := s.closePath die p
        let t' := { t with paths := Tbl.set t.paths path { p with state := .down, contexts := [], downAt := s.dieTick die } }
        let s := s.setTarget die target t'
        let other := t'.paths.any (fun e => decide (e.2.state = .live))
        let s := if other then s.raise 0x0502 sevDegraded 0 die target path 0 else s.raise 0x0503 sevContained 0 die target 0 0
        (s.reissue die target path true).storageSettle die

/-- The path that a context belongs to. -/
def State.pathOf (s : State) (die n : Nat) : Option (Nat × Nat) :=
  (s.storage die).targets.findSome? (fun (t, x) =>
    (x.paths.find? (fun e => e.2.contexts.contains n)).map (fun e => (t, e.1)))

end Sys2Proof.Machine
end

