-- ==== Sys2Proof/Machine/Storage.lean ====
section
/-! DEFINITION. Commands and events of storage functions (spec/14): table rows 191–193, 195–200 and 211–218. -/

namespace Sys2Proof.Machine

/-! ## Targets and namespaces -/

/-- An entry of Table 14.6 (48 bytes), none where a field is outside its range. -/
def pathEntry (b : List Byte) : Option Path :=
  let tr := leAt b 0 1
  let q := leAt b 2 1
  let d := leAt b 4 2
  let port := leAt b 6 2
  if tr = 0 ∨ 2 < tr ∨ 4 ≤ leAt b 1 1 ∨ q = 0 ∨ 16 < q ∨ 3 < leAt b 3 1 ∨ d < 16 ∨ 1024 < d ∨ leAt b 0x0A 6 ≠ 0 then none
  else
    some { transport := tr, flags := leAt b 1 1, queues := q, priority := leAt b 3 1, qdepth := d,
           port := if port = 0 then 4420 else port, vrf := leAt b 8 2, address := sub b 0x10 16, localAddress := sub b 0x20 16,
           state := .connecting, remotes := [], contexts := [], downAt := 0 }

/-- The same path entry. -/
def Path.sameEntry (a b : Path) : Bool :=
  { a with state := .connecting, remotes := [], contexts := [], downAt := 0 } ==
    { b with state := .connecting, remotes := [], contexts := [], downAt := 0 }

/-- Path entries of TARGET_PATH_SET, by index: entries beyond PATHS are zero. -/
def pathEntries (b : List Byte) (n : Nat) : Option (Tbl Path) :=
  if !allZero (sub b (48 * n) (48 * (4 - n))) then none
  else (List.range n).foldr (fun i a => match a, pathEntry (sub b (48 * i) 48) with
    | some l, some p => some ((i, p) :: l)
    | _, _ => none) (some [])

/-- A new target with its paths connecting, none where contexts lack. -/
def State.newTarget (s : State) (die n owner : Nat) (t : Target) : Option State :=
  (t.paths.foldl (fun (a : Option (State × Tbl Path)) (i, p) => match a with
    | none => none
    | some (s, l) => (s.connectPath die owner p).map (fun (s, p) => (s, Tbl.set l i p))) (some (s, []))).map
    (fun (s, l) => s.setTarget die n { t with paths := l })

/-- Contexts the paths of a target need. -/
def pathContexts (l : Tbl Path) : Nat := (l.map (fun e => e.2.queues + 1)).sum

/-- The lowest number no target of a die has. -/
def State.freeTarget (s : State) (die : Nat) : Option Nat :=
  (List.range 1024).find? (fun n => (s.target? die n).isNone)

/-- A slot named by a protected namespace (R460): its page bound to the die's PF0, and its protocol, algorithm and direction. -/
def State.slotServes (s : State) (die slot : Nat) (encrypt : Bool) : Bool :=
  decide (slot < 131072) && s.pageBinding die (slot / 32) == some (pf0 die) && (match (s.keySlot die slot).at s.tempo.current with
    | some v => v.proto == 4 && v.algo == 1 && v.encrypts == encrypt
    | none => false)

/-- NAMESPACE_CREATE (R460). -/
def runNamespaceCreate (p : Packet) (s : State) : Answer :=
  let b := p.params
  let fn := leAt b 0 3
  let flags := leAt b 3 1
  let nsid := leAt b 4 2
  let lbads := leAt b 6 1
  let tgt := leAt b 0x10 2
  let die := mDie fn
  let protect := bit flags 0
  let st := s.storage die
  let inline_ := decide (tgt = 0xFFFF)
  let entry := pathEntry (sub b 0x1E8 48)
  if p.paramLen ≠ (if inline_ then 0x218 else 0x28) then s.fails stBadParam
  else if reservedClass fn then s.fails stBadParam
  else if fnPf p.sender = 1 ∧ (mDie fn ≠ mDie p.sender ∨ fnPf fn ≠ 1 ∨ mClass fn ≠ 0) then s.fails stNotPermitted
  else if protect ∧ (fnPf p.sender = 1 ∨ !s.boot.cipher) then s.fails stNotPermitted
  else if mClass fn ≠ 0 ∨ fnPf fn ≠ 1 ∨ 4 ≤ flags ∨ nsid = 0 ∨ 256 < nsid ∨ (lbads ≠ 9 ∧ lbads ≠ 12) ∨ leAt b 7 1 ≠ 0
    ∨ leAt b 8 8 = 0 ∨ leAt b 0x12 2 ≠ 0 ∨ (1024 ≤ tgt ∧ !inline_) then s.fails stBadParam
  else if !protect ∧ (leAt b 0x20 4 ≠ 0 ∨ leAt b 0x24 4 ≠ 0) then s.fails stBadParam
  else if protect ∧ (!s.slotServes die (leAt b 0x20 4) true ∨ !s.slotServes die (leAt b 0x24 4) false) then s.fails stBadParam
  else if inline_ ∧ entry.isNone then s.fails stBadParam
  else match s.dieStatus die with
  | some e => s.fails e
  | none =>
    if (s.func fn).provisioned = false then s.fails stNotFound
    else if (s.namespaceOf fn nsid).isSome then s.fails stExists
    else if !inline_ ∧ (s.target? die tgt).isNone then s.fails stNotFound
    else if (s.partition die 1).namespaces ≤ st.namespaces.length ∨ 8192 ≤ st.namespaces.length ∨ !s.hasRegions die then
      s.fails stNoResource
    else
      let n := if inline_ then s.freeTarget die else some tgt
      let made : Option (State × Nat) := match n, entry with
        | some t, some e =>
          if inline_ then
            (s.newTarget die t p.sender
              { policy := 0, ioHoldS := 30, cmdTimeoutMs := 10000, fenceMs := 1000, subnqn := sub b 0x28 224,
                hostnqn := sub b 0x108 224, paths := [(0, e)], reissued := 0, rotor := 0 }).map (fun s => (s, t))
          else some (s, t)
        | some t, none => some (s, t)
        | none, _ => none
      match made with
      | none => s.fails stNoResource
      | some (s, t) =>
        let x : Namespace :=
          { fn := fn, nsid := nsid, protect := protect, readOnly := bit flags 1, lbads := lbads, blocks := leAt b 8 8, target := t,
            remoteNsid := leAt b 0x14 4, remoteOffset := leAt b 0x18 8, writeSlot := leAt b 0x20 4, readSlot := leAt b 0x24 4,
            destroying := false }
        let k := (Tbl.firstFree st.namespaces 0 8192).getD 0
        ((s.modStorage die (fun y => { y with namespaces := Tbl.set y.namespaces k x })).nsChanged fn nsid).answers (toLe 2 t ++ toLe 2 0)

/-- NAMESPACE_CREATE (R460). -/
def execNamespaceCreate (p : Packet) (s : State) : Host.Outcome State Fault Refusal := runPlain 0x0801 p runNamespaceCreate s

/-- NAMESPACE_DESTROY (R462). -/
def runNamespaceDestroy (p : Packet) (s : State) : Answer :=
  let b := p.params
  let fn := leAt b 0 3
  let nsid := leAt b 4 2
  let die := mDie fn
  if p.paramLen ≠ 8 ∨ leAt b 3 1 ≠ 0 ∨ leAt b 6 2 ≠ 0 ∨ nsid = 0 ∨ 256 < nsid then s.fails stBadParam
  else if reservedClass fn then s.fails stBadParam
  else if fnPf p.sender = 1 ∧ (mDie fn ≠ mDie p.sender ∨ fnPf fn ≠ 1 ∨ mClass fn ≠ 0) then s.fails stNotPermitted
  else if mClass fn ≠ 0 ∨ fnPf fn ≠ 1 then s.fails stBadParam
  else match s.dieStatus die with
  | some e => s.fails e
  | none =>
    if ((s.namespaceOf fn nsid).map (fun x => x.destroying)).getD true then s.fails stNotFound
    else
      ((s.modStorage die (fun y => { y with namespaces := y.namespaces.map (fun (k, x) =>
        (k, if x.fn = fn ∧ x.nsid = nsid then { x with destroying := true } else x)) })).sweepNamespaces die).answers []

/-- NAMESPACE_DESTROY (R462). -/
def execNamespaceDestroy (p : Packet) (s : State) : Host.Outcome State Fault Refusal := runPlain 0x0802 p runNamespaceDestroy s

/-- A path of a set target: kept if its entry is unchanged, otherwise closed and opened again (R463). -/
def State.resetPath (s : State) (die n owner : Nat) (old : Tbl Path) (i : Nat) (new : Option Path) : Option (State × Option Path) :=
  match Tbl.find old i, new with
  | some a, some b =>
    if a.sameEntry b then some (s, some a)
    else (((s.closePath die a).reissue die n i false).connectPath die owner b).map (fun (s, p) => (s, some p))
  | some a, none => some ((s.closePath die a).reissue die n i false, none)
  | none, some b => (s.connectPath die owner b).map (fun (s, p) => (s, some p))
  | none, none => some (s, none)

/-- TARGET_PATH_SET (R463, Table 14.5). -/
def runTargetPathSet (p : Packet) (s : State) : Answer :=
  let b := p.params
  let die := leAt b 0 1
  let op := leAt b 1 1
  let n := leAt b 2 2
  let paths := leAt b 5 1
  if p.paramLen ≠ 0x290 ∨ 1 < op ∨ 1024 ≤ n then s.fails stBadParam
  else match s.dieStatus die with
  | some e => s.fails e
  | none =>
    if op = 1 then
      match s.target? die n with
      | none => s.fails stNotFound
      | some t =>
        if (s.storage die).namespaces.any (fun e => e.2.target == n) then s.fails stWrongState
        else
          let s := t.paths.foldl (fun s e => s.closePath die e.2) s
          (s.modStorage die (fun y => { y with targets := Tbl.del y.targets n })).answers []
    else
      let hold := leAt b 6 2
      let tmo := leAt b 8 4
      match pathEntries (sub b 0x1D0 192) paths with
      | none => s.fails stBadParam
      | some l =>
        if 1 < leAt b 4 1 ∨ paths = 0 ∨ 4 < paths ∨ hold = 0 ∨ 3600 < hold ∨ tmo < 100 ∨ 600000 < tmo ∨ 60000 < leAt b 0x0C 4 then
          s.fails stBadParam
        else if !s.hasRegions die then s.fails stNoResource
        else
          let t : Target :=
            { policy := leAt b 4 1, ioHoldS := hold, cmdTimeoutMs := tmo, fenceMs := leAt b 0x0C 4, subnqn := sub b 0x10 224,
              hostnqn := sub b 0xF0 224, paths := l, reissued := 0, rotor := 0 }
          match s.target? die n with
          | none =>
            match s.newTarget die n p.sender t with
            | none => s.fails stNoResource
            | some s' => s'.answers []
          | some old =>
            let r := (List.range 4).foldl (fun (a : Option (State × Tbl Path)) i => match a with
              | none => none
              | some (x, acc) => (x.resetPath die n p.sender old.paths i (Tbl.find l i)).map (fun (x, q) => (x, match q with
                  | some q => Tbl.set acc i q
                  | none => acc))) (some (s, []))
            match r with
            | none => s.fails stNoResource
            | some (s', acc) =>
              ((s'.setTarget die n { t with paths := acc, reissued := ((s'.target? die n).getD old).reissued, rotor := old.rotor }).storageSettle
                die).answers []

/-- TARGET_PATH_SET (R463). -/
def execTargetPathSet (p : Packet) (s : State) : Host.Outcome State Fault Refusal := runPlain 0x8801 p runTargetPathSet s

/-! ## I/O commands -/

/-- A command of a namespace accepted: it takes a number and seeks its staging. -/
def State.acceptCmd (s : State) (fn sq : Nat) (b : List Byte) (x : Namespace) (lba blocks : Nat) (frags : List (Nat × Nat))
    (data : List Byte) : State :=
  let die := mDie fn
  let k := (s.storage die).nextCmd
  let c : NvmeCmd :=
    { fn := fn, sq := sq, cid := sqeCid b, opcode := sqeOpcode b, nsid := x.nsid, lba := lba, blocks := blocks, frags := frags,
      phase := .staging, target := x.target, orphan := false, reissues := 0, again := false, stage := 0, data := data, pos := 0,
      part := blocks, status := 0, since := 0 }
  let s := s.modStorage die (fun t => { t with nextCmd := k + 1, cmds := Tbl.set t.cmds k c })
  s.stageCmd die k

/-- Completion of a command that does not run. -/
def State.ioDone (s : State) (fn sq : Nat) (b : List Byte) (status : Nat) : State := s.nvmePost fn sq (sqeCid b) 0 status

/-- The namespace a command names, unless it is unknown or being destroyed (R462). -/
def State.openNamespace (s : State) (fn nsid : Nat) : Option Namespace :=
  match s.namespaceOf fn nsid with
  | some x => if x.destroying then none else some x
  | none => none

/-- I/O opcodes a controller has (Table 14.2). -/
def ioKnown (op : Nat) : Bool := [0x00, 0x01, 0x02, 0x05, 0x08, 0x09].contains op

/-- Bytes of host data an I/O command moves (R464, R469). -/
def State.ioLen (s : State) (fn : Nat) (b : List Byte) : Nat :=
  match s.openNamespace fn (sqeNsid b) with
  | none => 0
  | some x =>
    if [1, 2, 5].contains (sqeOpcode b) then (bits (sqeDw b 12) 15 0 + 1) * 2 ^ x.lbads
    else if sqeOpcode b = 9 then 16 * (bits (sqeDw b 10) 7 0 + 1)
    else 0

/-- An I/O command at the head of its submission queue; any I/O row completes an unknown opcode it meets there (R459). A PRP list or
SGL segment of the command is fetched first (R443). -/
def State.runIo (s : State) (fn sq opcode : Nat) (run : State → List Byte → State) : State :=
  if sq = 0 then s
  else
    match s.nvmeHead fn sq with
    | none => s
    | some (q, b) =>
      if !ioKnown (sqeOpcode b) then (s.nvmeTake fn sq q).ioDone fn sq b nvBadOpcode
      else if sqeOpcode b ≠ opcode then s
      else if let some s' := s.fetchList fn sq q.head b (s.ioLen fn b) then s'
      else
        let s := s.nvmeTake fn sq q
        if sqeReserved b then s.ioDone fn sq b nvBadField else run s b

/-- First block and number of blocks. -/
def sqeLba (b : List Byte) : Nat := leAt b 40 8
def sqeBlocks (b : List Byte) : Nat := bits (sqeDw b 12) 15 0 + 1

/-- Read, Write, Compare and Write Zeroes after their checks: NSID, range, MDTS, write protection, then the data pointer
(R459, R469, R473). -/
def runBlocks (fn sq : Nat) (s : State) (b : List Byte) : State :=
  let op := sqeOpcode b
  match s.openNamespace fn (sqeNsid b) with
  | none => s.ioDone fn sq b nvBadNs
  | some x =>
    let n := sqeBlocks b
    let len := if op = 8 then 0 else n * 2 ^ x.lbads
    if x.blocks < sqeLba b + n then s.ioDone fn sq b nvRange
    else if 2 ^ 20 < len then s.ioDone fn sq b nvBadField
    else if x.readOnly ∧ (op = 1 ∨ op = 8) then s.ioDone fn sq b nvProtected
    else
      match s.hostRanges fn b len with
      | .status st => s.ioDone fn sq b st
      | .halt r => s.nvmeHalt fn sq r
      | .ok l => s.acceptCmd fn sq b x (sqeLba b) n l []

/-- NVME_READ (R464). -/
def execNvmeRead (fn sq : Nat) (s : State) : Host.Outcome State Fault Refusal := .next (s.runIo fn sq 2 (runBlocks fn sq))

/-- NVME_WRITE (R464). -/
def execNvmeWrite (fn sq : Nat) (s : State) : Host.Outcome State Fault Refusal := .next (s.runIo fn sq 1 (runBlocks fn sq))

/-- NVME_COMPARE (R468). -/
def execNvmeCompare (fn sq : Nat) (s : State) : Host.Outcome State Fault Refusal := .next (s.runIo fn sq 5 (runBlocks fn sq))

/-- NVME_WRITE_ZEROES (R469). -/
def execNvmeWriteZeroes (fn sq : Nat) (s : State) : Host.Outcome State Fault Refusal := .next (s.runIo fn sq 8 (runBlocks fn sq))

/-- Flush (R456): one part for each namespace it names. -/
def runFlush (fn sq : Nat) (s : State) (b : List Byte) : State :=
  if sqeNsid b = 0xFFFFFFFF then
    let l := ((s.storage (mDie fn)).namespaces.map (fun e => e.2)).filter (fun x => x.fn == fn && !x.destroying)
    if l.isEmpty then s.ioDone fn sq b 0 else l.foldl (fun s x => s.acceptCmd fn sq b x 0 0 [] []) s
  else
    match s.openNamespace fn (sqeNsid b) with
    | none => s.ioDone fn sq b nvBadNs
    | some x => s.acceptCmd fn sq b x 0 0 [] []

/-- NVME_FLUSH (R456). -/
def execNvmeFlush (fn sq : Nat) (s : State) : Host.Outcome State Fault Refusal := .next (s.runIo fn sq 0 (runFlush fn sq))

/-- Ranges of Dataset Management: context attributes, length, starting block; shifted to the remote namespace. -/
def dsmRanges (x : Namespace) (bs : List Byte) (n : Nat) : List Byte :=
  (List.range n).flatMap (fun i => sub bs (16 * i) 8 ++ toLe 8 (leAt bs (16 * i + 8) 8 + x.remoteOffset))

/-- Dataset Management (R469): Deallocate goes to the target of an unprotected namespace; anything else has no effect. -/
def runDsm (fn sq : Nat) (s : State) (b : List Byte) : State :=
  match s.openNamespace fn (sqeNsid b) with
  | none => s.ioDone fn sq b nvBadNs
  | some x =>
    let n := bits (sqeDw b 10) 7 0 + 1
    match s.hostRanges fn b (16 * n) with
    | .status st => s.ioDone fn sq b st
    | .halt r => s.nvmeHalt fn sq r
    | .ok l =>
      let bs := s.readFrags fn l
      if s.fragsBlocked fn l then (s.reportTimeout fn sq 0).ioDone fn sq b nvTransfer
      else if (List.range n).any (fun i => decide (x.blocks < leAt bs (16 * i + 8) 8 + leAt bs (16 * i + 4) 4)) then
        s.ioDone fn sq b nvRange
      else if x.protect ∨ bit (sqeDw b 11) 2 = false then s.ioDone fn sq b 0
      else s.acceptCmd fn sq b x 0 0 l (dsmRanges x bs n)

/-- NVME_DATASET_MANAGEMENT (R469). -/
def execNvmeDatasetManagement (fn sq : Nat) (s : State) : Host.Outcome State Fault Refusal :=
  .next (s.runIo fn sq 9 (runDsm fn sq))

/-! ## Targets answer -/

/-- A command's target answered OK. -/
def State.targetOk (s : State) (die k : Nat) (c : NvmeCmd) (data : List Byte) : State :=
  if c.opcode = 2 ∨ c.opcode = 5 then
    match s.namespaceOf c.fn c.nsid with
    | none => s.removeCmd die k c
    | some x =>
      if x.protect then s.openBlocks die k c x data
      else (s.setCmd die k { c with phase := .copy, data := sub data 0 (c.blocks * 2 ^ x.lbads) }).copyCmd die k
  else if c.opcode = 8 ∧ c.pos + c.part < c.blocks then
    (s.setCmd die k { c with phase := .staging, pos := c.pos + c.part, stage := 0, data := [], reissues := 0 }).stageCmd die k
  else s.completeCmd die k 0

/-- TARGET_COMPLETION (R473): a status of the target passes through unchanged; the completion of an orphan is discarded and
what waited on it goes on (R458). -/
def execTargetCompletion (die cmd status : Nat) (data : List Byte) (s : State) : Host.Outcome State Fault Refusal :=
  match s.cmd? die cmd with
  | none => .next s
  | some c =>
    match c.phase with
    | .sent _ =>
      if !s.live die then .next s
      else
        let s := if c.orphan then s.removeCmd die cmd c
          else if status ≠ 0 then s.completeCmd die cmd status
          else s.targetOk die cmd c data
        .next (s.storageSettle die)
    | _ => .next s

/-- A time in milliseconds has passed on a die since a count of its time clock. -/
def State.passedMs (s : State) (die since ms : Nat) : Bool := decide (since + ms * ticksPerMs ≤ s.dieTick die)

/-- ORPHAN_TIMEOUT (R458): CMD_TIMEOUT_MS of the target has passed since the command was sent. -/
def execOrphanTimeout (die cmd : Nat) (s : State) : Host.Outcome State Fault Refusal :=
  match s.cmd? die cmd with
  | none => .next s
  | some c =>
    let due := (s.target? die c.target).all (fun t => s.passedMs die c.since t.cmdTimeoutMs)
    .next (if c.orphan && s.live die && due then (s.removeCmd die cmd c).storageSettle die else s)

/-- IO_HOLD_EXPIRY (R467, Table 14.8): the command has found no LIVE path of a usable ANA state for IO_HOLD_S. -/
def execIoHoldExpiry (die cmd : Nat) (s : State) : Host.Outcome State Fault Refusal :=
  match s.cmd? die cmd with
  | none => .next s
  | some c =>
    if c.phase = .path ∧ s.live die then
      match s.namespaceOf c.fn c.nsid, s.target? die c.target with
      | some x, some t =>
        if (t.choose x.remoteNsid).isSome ∨ s.passedMs die c.since (1000 * t.ioHoldS) = false then .next s
        else .next ((s.completeCmd die cmd (if t.allInaccessible x.remoteNsid then nvInaccessible else nvTransient)).storageSettle die)
      | _, _ => .next ((s.completeCmd die cmd nvTransient).storageSettle die)
    else .next s

/-! ## Paths -/

/-- A path of a target changed, if it has it. -/
def State.onPath (s : State) (die target path : Nat) (f : State → Target → Path → State) : State :=
  match s.target? die target with
  | none => s
  | some t =>
    match Tbl.find t.paths path with
    | none => s
    | some p => if s.live die then f s t p else s

/-- A context that carries a connection is OPEN. -/
def State.contextsOpen (s : State) (die : Nat) (p : Path) : State :=
  p.contexts.foldl (fun s n => s.modContext (ctxKey die n) (fun c => if c.state = 1 then { c with state := 2 } else c)) s

/-- PATH_CONNECT (R461, R466): the path's connections are open and the device has read Identify Namespace and the ANA log:
LIVE, or MISMATCH where a namespace of the target does not fit. A LIVE path reads again. -/
def execPathConnect (die target path : Nat) (remotes : Tbl RemoteNs) (s : State) : Host.Outcome State Fault Refusal :=
  .next (s.onPath die target path (fun s t p =>
    if p.state ≠ .connecting ∧ p.state ≠ .live then s
    else
      let mine := (s.storage die).namespaces.filter (fun e => e.2.target == target)
      let bad := mine.any (fun (_, x) => match Tbl.find remotes x.remoteNsid with
        | some r => !r.fits x
        | none => false)
      let p' := { p with state := if bad then PathState.mismatch else .live, remotes := remotes }
      let s := (s.contextsOpen die p).setTarget die target { t with paths := Tbl.set t.paths path p' }
      s.storageSettle die))

/-- ANA_CHANGE (R466): the states of a LIVE path are read again. -/
def execAnaChange (die target path : Nat) (states : List (Nat × Ana)) (s : State) : Host.Outcome State Fault Refusal :=
  .next (s.onPath die target path (fun s t p =>
    if p.state ≠ .live then s
    else
      let new := p.remotes.map (fun (n, r) => (n, match states.find? (fun e => e.1 == n) with
        | some e => { r with ana := e.2 }
        | none => r))
      (s.setTarget die target { t with paths := Tbl.set t.paths path { p with remotes := new } }).storageSettle die))

/-- PATH_DOWN (R467). -/
def execPathDown (die target path : Nat) (s : State) : Host.Outcome State Fault Refusal :=
  .next (if s.live die then s.pathFails die target path else s)

/-- PATH_RECONNECT (R467): a DOWN path connects again, 2 s after its connections ended, if contexts can be had. -/
def execPathReconnect (die target path : Nat) (s : State) : Host.Outcome State Fault Refusal :=
  .next (s.onPath die target path (fun s t p =>
    if p.state ≠ .down ∨ s.passedMs die p.downAt 2000 = false then s
    else
      match s.connectPath die (pf0 die) p with
      | none => s
      | some (s, p') => s.setTarget die target { t with paths := Tbl.set t.paths path p' }))

/-- FENCE_EXPIRY (R467): the writes of the path whose FENCE_MS has passed are re-issued from their staged bytes. -/
def execFenceExpiry (die target path : Nat) (s : State) : Host.Outcome State Fault Refusal :=
  if s.live die then
    let due := fun (c : NvmeCmd) => c.target == target && decide (c.phase = .fence path) && !c.orphan
      && (s.target? die target).all (fun t => s.passedMs die c.since t.fenceMs)
    let s := s.modStorage die (fun t => { t with cmds := t.cmds.map (fun (k, c) =>
      (k, if due c then { c with phase := .path, since := s.dieTick die } else c)) })
    .next (s.storageSettle die)
  else .next s

/-! ## Registers (R476) -/

/-- STOR_STATUS. -/
def State.storStatus (s : State) (die : Nat) : Nat :=
  let t := s.storage die
  t.namespaces.length + 2 ^ 16 * t.targets.length + 2 ^ 27 * b2n (s.hasRegions die) + 2 ^ 32 * s.stageUsed die none

/-- Codes of a path in TARGET_STATUS. -/
def PathState.code : PathState → Nat
  | .absent => 0
  | .connecting => 1
  | .live => 2
  | .down => 3
  | .mismatch => 4

/-- TARGET_STATUS. -/
def State.targetStatus (s : State) (die n : Nat) : Nat :=
  match s.target? die n with
  | none => 0
  | some t =>
    let path := fun (i : Nat) => ((Tbl.find t.paths i).map (fun p => p.state.code)).getD 0
    let out := ((s.storage die).cmds.filter (fun (_, c) => c.target == n && (match c.phase with
      | .sent _ => true
      | _ => false))).length
    path 0 + 2 ^ 3 * path 1 + 2 ^ 6 * path 2 + 2 ^ 9 * path 3 + 2 ^ 16 * min 0xFFFF out + 2 ^ 32 * t.reissued

end Sys2Proof.Machine
end

