-- ==== Sys2Proof/Machine/Seq.lean ====
section
/-! DEFINITION. Transport sequencers: microwords, service requests, faults and commands (spec/18): table rows 344–350. -/

namespace Sys2Proof.Machine

/-! ## Context records (Table 18.1) -/

/-- The 256 bytes of a context. -/
def Context.bytes (c : Context) (seq : Nat) : List Byte :=
  toLe 1 c.kind ++ toLe 1 c.state ++ toLe 1 seq ++ toLe 1 0 ++ toLe 3 c.owner ++ toLe 1 0 ++ toLe 4 c.txNext ++ toLe 4 c.rxNext ++
    toLe 4 c.retransmits ++ toLe 2 c.faults ++ toLe 2 0 ++ toLe 8 c.lastActivity ++
    (List.range 224).map (fun i => Tbl.look 0 c.body (32 + i))

/-- A context whose record is these bytes; SEQUENCER and reserved fields keep their values. -/
def Context.ofBytes (c : Context) (b : List Byte) : Context :=
  { c with kind := leAt b 0 1, state := leAt b 1 1, owner := leAt b 4 3, txNext := leAt b 8 4, rxNext := leAt b 0x0C 4,
           retransmits := leAt b 0x10 4, faults := leAt b 0x14 2, lastActivity := leAt b 0x18 8,
           body := (List.range 224).filterMap (fun i => let v := b.getD (32 + i) 0; if v = 0 then none else some (32 + i, v)) }

/-! ## Microwords (Table 18.2) -/

/-- A microword's fields. -/
structure Micro where
  next : Nat
  seq : Nat
  cond : Nat
  condInv : Bool
  safe : Bool
  alu : Nat
  srcA : Nat
  srcB : Nat
  dest : Nat
  bImm : Bool
  setFlags : Bool
  imm : Nat
  mem : Nat
  memAddr : Nat
  memWidth : Nat
  memIndex : Bool
  io : Nat
  ioArg : Nat
  crc : Nat
  crcSrc : Nat
  trace : Bool
  moveSrc : Nat
  moveDst : Nat
  moveEn : Bool
  dispShift : Nat
  deriving DecidableEq, Repr

/-- A microword read. -/
def microOf (w : BitVec 160) : Micro :=
  let v := w.toNat
  { next := bits v 14 0, seq := bits v 17 15, cond := bits v 22 18, condInv := bit v 23, safe := bit v 24, alu := bits v 30 26,
    srcA := bits v 35 31, srcB := bits v 40 36, dest := bits v 45 41, bImm := bit v 46, setFlags := bit v 47, imm := bits v 79 48,
    mem := bits v 82 80, memAddr := bits v 94 83, memWidth := 2 ^ bits v 96 95, memIndex := bit v 97, io := bits v 101 98,
    ioArg := bits v 109 102, crc := bits v 112 110, crcSrc := bits v 117 113, trace := bit v 118, moveSrc := bits v 123 119,
    moveDst := bits v 128 124, moveEn := bit v 129, dispShift := bits v 133 130 }

/-- A microregister: mreg 0 reads zero. -/
def Sequencer.mreg (q : Sequencer) (n : Nat) : Word := if n = 0 then 0 else Tbl.look 0 q.mregs n
def Sequencer.setMreg (q : Sequencer) (n : Nat) (v : Word) : Sequencer :=
  if n = 0 then q else { q with mregs := Tbl.put 0 q.mregs n v }

/-- The address a fetch goes to: a ROM address that an enabled match register of the sequencer's set names is redirected to
its target word; the lowest-numbered register prevails (R564). A word held on a WAIT is not fetched again. -/
def State.fetchAddr (s : State) (q : Sequencer) : Nat :=
  let ms := if q.half = 0 then s.patch.matches0 else s.patch.matches1
  if q.state = .waiting ∨ 0x4000 ≤ q.upc then q.upc
  else
    match ms.find? (fun e => e.2.romAddr == q.upc) with
    | some (_, m) => 0x4000 + 0x200 * q.half + m.target
    | none => q.upc

/-- The word at an address of the control store (R564). Words that nothing gave a value are free (log 6). -/
def State.controlWord (s : State) (a : Nat) : BitVec 160 :=
  let l := if a < 0x4200 then s.patch.words0 else s.patch.words1
  if a < 0x4000 then Config.romWord a
  else (l[(a - 0x4000) % 0x200]?).getD (Config.romWord a)

/-- Channels of the context in work: the one written and the one read (Table 18.6). -/
def State.seqChan (s : State) (k : Nat) (q : Sequencer) (read : Bool) : Option Nat :=
  match q.current with
  | none => none
  | some n =>
    let c := s.context (ctxKey (k / 16) n)
    let ch := chanKey (k / 16) (c.channel + b2n read)
    let x := s.chanOf ch
    if x.enable && (if read then x.reader else x.writer) == seqId k then some ch else none

/-- The DMA channel of a sequencer (R562). -/
def seqDma (k : Nat) : Nat := dmaKey (k / 16) (48 + k % 16)

/-- The condition of a microword (Table 18.2). -/
def State.seqCond (s : State) (k : Nat) (q : Sequencer) (n : Nat) : Bool :=
  let die := k / 16
  match n with
  | 0 => true
  | 1 => q.flagZ
  | 2 => q.flagC
  | 3 => q.flagN
  | 4 => !q.input.isEmpty
  | 5 => (match s.seqChan k q false with
      | some c => decide (q.staged.length < (s.chanOf c).room)
      | none => false)
  | 6 => (match s.seqChan k q true with
      | some c => !(s.chanOf c).words.isEmpty
      | none => false)
  | 7 => !(s.dmaCh (seqDma k)).busy
  | 8 => q.cipherBack.isSome
  | 9 => q.cipherBack == some false
  | 10 => (match q.current with
      | some c => q.cache.contains c
      | none => false)
  | 11 => (match q.timer with
      | some t => decide (t ≤ s.tickAt die)
      | none => false)
  | 12 => q.switch || !q.updates.isEmpty || !q.closes.isEmpty || !q.flushes.isEmpty
  | _ => s.p1Admits die

/-! ## Service requests (R566, Table 18.3) -/

/-- The switch is over once every sequencer in service has switched: the new half is active, and the ENDORSE command that
installed it is recorded and answered (R569). -/
def State.settlePatch (s : State) : State :=
  match s.patch.target with
  | none => s
  | some h =>
    let left := s.workingDies.any (fun d => (List.range 16).any (fun i =>
      let q := s.seqOf (d * 16 + i)
      q.switch && decide (q.state ≠ .outOfService)))
    if left then s
    else
      let w := s.patch.waiting
      let s := { s with patch := { s.patch with activeHalf := h, target := none, waiting := none } }
      match w with
      | none => s
      | some p =>
        let jsn := s.journal.next
        (s.recordCommand p stOk s.tempo.current []).deliver p (p.reply stOk 0 jsn s.tempo.current [])

/-- Frames of a sequencer that are dropped because their context is gone (R561, R571). -/
def State.dropFrames (s : State) (die : Nat) (l : List SeqFrame) : State :=
  l.foldl (fun s f => (s.countDrop die 1 drAbsent).freePacket die f.cells f.ing) s

/-- The current work is abandoned and its frame window discarded. -/
def State.abandon (s : State) (k : Nat) : State :=
  let q := s.seqOf k
  let s := match q.window with
    | some f => s.freePacket (k / 16) f.cells f.ing
    | none => s
  s.modSeqOf k (fun q => { q with window := none, current := none, staged := [], stack := [] })

/-- A context is freed: its frames are dropped, its FLOW entries deleted, and its records in the cipher engine discarded
(R463, R571). -/
def State.freeContext (s : State) (k n : Nat) : State :=
  let die := k / 16
  let q := s.seqOf k
  let c := s.context (ctxKey die n)
  let s := s.dropFlows die n c
  let s := s.dropFrames die (q.input.filter (fun f => f.context == n))
  let s := s.modSeqOf k (fun q => { q with input := q.input.filter (fun f => f.context != n), cache := q.cache.filter (fun m => m != n) })
  let s := if q.current = some n then
      (s.abandon k).modCipherOf die (fun x => { x with units := x.units.filter (fun (_, u) => decide (u.source ≠ .record k)) })
    else s
  s.setContext (ctxKey die n) Context.reset

/-- One service request taken, the one of highest priority. -/
def State.takeRequest (s : State) (k : Nat) : State :=
  let q := s.seqOf k
  let taken := fun (s : State) => s.seqCount (k / 16) 3
  if q.switch then
    (taken (s.setSeqOf k { q with switch := false, half := s.patch.target.getD s.patch.activeHalf })).settlePatch
  else
    match q.updates, q.closes, q.flushes with
    | _ :: rest, _, _ => taken (s.setSeqOf k { q with updates := rest })
    | [], n :: rest, _ => taken ((s.setSeqOf k { q with closes := rest }).freeContext k n)
    | [], [], _ :: rest => taken (s.setSeqOf k { q with flushes := rest })
    | [], [], [] => s

/-- SERVICE_REQUEST (R566): at a safe point; one is taken at each. -/
def execServiceRequest (die seq : Nat) (s : State) : Host.Outcome State Fault Refusal :=
  let k := die * 16 + seq
  let q := s.seqOf k
  if s.live die ∧ seq < 16 ∧ q.state ≠ .outOfService ∧ (q.safe || decide (q.state = .waiting)) = true then
    let s := s.takeRequest k
    .next (if q.state = .running then s.modSeqOf k (fun q => { q with safe := false }) else s)
  else .next s

/-! ## Faults (R567) -/

/-- A storage connection that fails takes its path DOWN (R467). -/
def State.contextFails (s : State) (die n : Nat) : State :=
  match s.pathOf die n with
  | some (t, p) => s.pathFails die t p
  | none => s

/-- A microcode fault is taken at once: the work is abandoned, the current context FAILED, the record written, and the
sequencer restarts at 0 (R567). -/
def State.microFault (s : State) (k cause addr : Nat) : State :=
  let die := k / 16
  let q := s.seqOf k
  let s := s.abandon k
  let s := (s.seqCount die 1).raise 0x0701 sevContained 0 die (k % 16) (addr * 16 + cause) (q.current.getD 0)
  let s := s.modSeqOf k (fun q => { q with state := .running, upc := 0, gap := 0, safe := false, crc := 0 })
  match q.current with
  | none => s
  | some n =>
    (s.modContext (ctxKey die n) (fun c => { c with state := 4, faults := satAdd 0xFFFF c.faults 1 })).contextFails die n

/-- An uncorrectable read of ROM takes the sequencer out of service with its contexts (R567). -/
def State.loseSequencer (s : State) (k : Nat) : State :=
  let die := k / 16
  let ns := s.contextsOf die (k % 16)
  let s := s.modSeqOf k (fun q => { q with state := .outOfService, switch := false })
  let s := ns.foldl (fun s n => s.modContext (ctxKey die n) (fun c => { c with state := 4 })) s
  let s := s.raise 0x0703 sevContained 0 die (k % 16) 0 0
  (ns.foldl (fun s n => s.contextFails die n) s).settlePatch

/-- MICROCODE_FAULT (R567): a fault found by the hardware, ECC of the control store or of a context, or a planted one. -/
def execMicrocodeFault (die seq cause : Nat) (ofContext : Bool) (s : State) : Host.Outcome State Fault Refusal :=
  let k := die * 16 + seq
  let q := s.seqOf k
  if s.live die ∧ seq < 16 ∧ q.state ≠ .outOfService ∧ 1 ≤ cause ∧ cause ≤ 6 then
    let a := s.fetchAddr q
    if cause = 4 ∧ ofContext = false ∧ a < 0x4000 then .next ((s.microFault k cause a).loseSequencer k)
    else if cause = 4 ∧ ofContext = false then .next ((s.microFault k cause a).raise 0x0702 sevDegraded 0 die 0 a 0)
    else .next (s.microFault k cause a)
  else .next s

/-! ## Contexts -/

/-- A context becomes the most recently used cached one; a 65th takes the place of the least recently used (R559). -/
def Sequencer.cachePut (q : Sequencer) (n : Nat) : Sequencer :=
  let l := q.cache.filter (fun m => m != n)
  { q with cache := (if 64 ≤ l.length then l.drop 1 else l) ++ [n] }

/-- CONTEXT_LOAD (R559). -/
def execContextLoad (die context : Nat) (s : State) : Host.Outcome State Fault Refusal :=
  let k := die * 16 + context % 16
  let q := s.seqOf k
  if s.live die ∧ s.hasRegions die = true ∧ context < 262144 ∧ q.state ≠ .outOfService ∧ q.cache.contains context = false then
    .next ((s.setSeqOf k (q.cachePut context)).seqCount die 2)
  else .next s

/-- A frame that the action program sends to a sequencer's context. -/
def seqPacket (die context : Nat) (frame : List Byte) : TmPkt :=
  { bytes := frame, tc := 0, ingressClass := 0, sourceKind := 0, sourceId := 0, dest := seqDest die context, pipe := 0,
    fromDie := none, fromPort := none, inTick := 0, peerDelay := 0, hash := 0, stamp := 0, csum := 0, macMatch := 127, tx := none }

/-- SEQUENCER_FRAME_ENQUEUE (R561): the row takes the cells of the frame (log 24). -/
def execSequencerFrameEnqueue (die context : Nat) (frame : List Byte) (s : State) : Host.Outcome State Fault Refusal :=
  if s.live die ∧ context < 262144 then
    let p := seqPacket die context frame
    .next ((s.takeCells die p.cells).enqueueSeq die context p)
  else .next s

/-! ## One microword (R563) -/

/-- Byte offset of a memory operation. -/
def Micro.offset (m : Micro) (q : Sequencer) : Nat := m.memAddr + if m.memIndex then (q.mreg m.srcA).toNat else 0

/-- Size of the area of a memory operation. -/
def Micro.area (m : Micro) : Nat := if m.mem ≤ 2 then 256 else 4096

/-- A memory operation reaches beyond its area, or needs a cached context and has none (log 42). -/
def Micro.memBad (m : Micro) (q : Sequencer) : Bool :=
  m.mem != 0 && (decide (m.area < m.offset q + m.memWidth)
    || (decide (m.mem ≤ 2) && !(q.current.any (fun n => q.cache.contains n))))

/-- The value a memory read gives: network order in the frame window, little-endian elsewhere. -/
def State.microRead (s : State) (k : Nat) (q : Sequencer) (m : Micro) : Option Word :=
  let o := m.offset q
  let w := m.memWidth
  if m.mem = 1 then
    q.current.map (fun n => BitVec.ofNat 64 (leAt ((s.context (ctxKey (k / 16) n)).bytes (k % 16)) o w))
  else if m.mem = 3 then some (BitVec.ofNat 64 (beAt ((q.window.map (fun f => f.bytes)).getD []) o w))
  else if m.mem = 5 then some (BitVec.ofNat 64 (le ((List.range w).map (fun i => Tbl.look 0 q.scratch (o + i)))))
  else none

/-- Bytes put in the scratch store. -/
def Sequencer.putScratch (q : Sequencer) (o : Nat) (bs : List Byte) : Sequencer :=
  { q with scratch := bs.zipIdx.foldl (fun t (b, i) => Tbl.put 0 t (o + i) b) q.scratch }
def Sequencer.scratchBytes (q : Sequencer) (o n : Nat) : List Byte := (List.range n).map (fun i => Tbl.look 0 q.scratch (o + i))

/-- Bytes put in the frame window; a window with no frame begins an empty one. -/
def Sequencer.putFrame (q : Sequencer) (o : Nat) (bs : List Byte) : Sequencer :=
  let f := q.window.getD { context := q.current.getD 0, bytes := [], cells := 0, ing := none }
  { q with window := some { f with bytes := overlay f.bytes o bs } }

/-- A memory write. -/
def State.microWrite (s : State) (k : Nat) (q : Sequencer) (m : Micro) : State :=
  let o := m.offset q
  let v := (q.mreg m.srcB).toNat
  if m.mem = 2 then
    match q.current with
    | some n => s.modContext (ctxKey (k / 16) n) (fun c => c.ofBytes (overlay (c.bytes (k % 16)) o (toLe m.memWidth v)))
    | none => s
  else if m.mem = 4 then s.modSeqOf k (fun q => q.putFrame o (toBe m.memWidth v))
  else if m.mem = 6 then s.modSeqOf k (fun q => q.putScratch o (toLe m.memWidth v))
  else s

/-- The register operand of an IO operation (log 42). -/
def Micro.ioReg (m : Micro) : Nat := m.ioArg % 32

/-- The record a CIPHER operation describes in its register: slot in [16:0], scratch offset in [31:20], length in [47:32]. It begins
with its header of 5 bytes (log 42). -/
def cipherArgs (v : Nat) : Nat × Nat × Nat := (bits v 16 0, bits v 31 20, bits v 47 32)

/-- The fault an IO operation meets: none, ACCESS (2) or CHANNEL (5) (R562, Table 18.4). -/
def State.ioFault (s : State) (k : Nat) (q : Sequencer) (m : Micro) : Nat :=
  let die := k / 16
  let v := (q.mreg m.ioReg).toNat
  if m.io = 3 then
    if 4096 < v + 64 ∨ checkDescriptor (s.func (s.dmaFn (seqDma k))) false (q.scratchBytes v 64) ≠ 0 then 2 else 0
  else if m.io = 4 then
    let (slot, o, n) := cipherArgs v
    let good := match (s.keySlot die slot).at s.tempo.current with
      | some x => x.proto == 3 || x.proto == 4
      | none => false
    if 4096 < o + n ∨ s.boot.cipher = false ∨ s.pageBinding die (slot / 32) ≠ some (pf0 die) ∨ good = false then 2 else 0
  else if m.io = 5 ∨ m.io = 6 then
    if (s.seqChan k q false).isNone ∨ 8 ≤ q.staged.length then 5 else 0
  else if m.io = 7 then if (s.seqChan k q true).isNone then 5 else 0
  else if m.io = 10 then if v % 16 ≠ k % 16 ∨ 262144 ≤ v ∨ s.hasRegions (k / 16) = false then 2 else 0
  else 0

/-- The operation cannot be made yet, so the sequencer stays on its word: no frame, no room in P1 or in a channel, no word to
read (R561, R562). -/
def State.ioHeld (s : State) (k : Nat) (q : Sequencer) (m : Micro) : Bool :=
  if m.io = 1 then q.input.isEmpty
  else if m.io = 2 then !s.p1Admits (k / 16)
  else if m.io = 6 then (match s.seqChan k q false with
    | some c => decide ((s.chanOf c).room < q.staged.length + 1)
    | none => false)
  else if m.io = 7 then (match s.seqChan k q true with
    | some c => (s.chanOf c).words.isEmpty
    | none => false)
  else false

/-- The frame in the window injected into P1: SOURCE_KIND 3 and the sequencer's own identity (R561). -/
def State.seqInject (s : State) (k : Nat) (q : Sequencer) (len tc : Nat) : State :=
  let die := k / 16
  let f := q.window.getD { context := q.current.getD 0, bytes := [], cells := 0, ing := none }
  let n := cellsFor len
  let s := s.modSeqOf k (fun q => { q with window := none })
  let s := if f.cells < n then s.takeCells die (n - f.cells) else s.freePacket die (f.cells - n) f.ing
  (s.ingSub die f.ing (min n f.cells)).offerP1 die
    { sourceKind := 3, sourceId := seqId k, tc := tc, bytes := sub f.bytes 0 len, tx := none, cells := n, ing := none, stamp := 0,
      inTick := 0 }

/-- An IO operation. `q` holds the registers as they stood. -/
def State.seqIo (s : State) (k : Nat) (q : Sequencer) (m : Micro) : State :=
  let die := k / 16
  let v := (q.mreg m.ioReg).toNat
  let w := q.mreg m.ioReg
  match m.io with
  | 1 =>
    match q.input with
    | [] => s
    | f :: rest =>
      let s := match q.window with
        | some g => s.freePacket die g.cells g.ing
        | none => s
      s.modSeqOf k (fun x => { (x.setMreg m.ioReg (BitVec.ofNat 64 (f.context + 2 ^ 32 * f.bytes.length))) with
        input := rest, window := some f, current := some f.context })
  | 2 => s.seqInject k q (bits v 15 0) (bits v 18 16)
  | 3 => (s.dmaElemWrite die (48 + k % 16) (seqId k) 0 (q.scratchBytes v 64)).dmaGo die (48 + k % 16) (seqId k)
  | 4 =>
    let (slot, o, n) := cipherArgs v
    let enc := match (s.keySlot die slot).at s.tempo.current with
      | some x => x.encrypts
      | none => true
    (s.modSeqOf k (fun x => { x with cipherBack := none })).addUnit die
      { source := .record k, slot := slot, born := 0, encrypt := enc, reinject := false, phase := .waiting, seq := 0,
        bytes := q.scratchBytes (o + 5) (n - 5), aad := q.scratchBytes o 5, verify := 0, tempo := s.tempo.current, klass := 2,
        index := o + 5, out := [], order := 0 }
  | 5 => s.modSeqOf k (fun x => { x with staged := q.staged ++ [w] })
  | 6 =>
    match s.seqChan k q false with
    | some c => (s.modSeqOf k (fun x => { x with staged := [] })).putMessage c (q.staged ++ [w])
    | none => s
  | 7 =>
    match s.seqChan k q true with
    | some c =>
      match (s.chanOf c).words with
      | [] => s
      | (x, _) :: rest =>
        ((s.modChanOf c (fun y => { y with words := rest })).modSeqOf k (fun y => y.setMreg m.ioReg x)).settleDie die
    | none => s
  | 8 =>
    let ts := (s.threads.map (fun e => e.1)).filter (fun t => threadDie t == die)
    ts.foldl (fun s t => s.raiseInput t (m.ioArg % 8) 7 (k % 16)) s
  | 9 => s.modSeqOf k (fun x => { x with timer := some (s.tickAt die + v) })
  | 10 => s.modSeqOf k (fun x => { x with current := some v })
  | 11 => s.modSeqOf k (fun x => { x with current := none })
  | 12 => if m.safe then s.takeRequest k else s
  | _ => s

/-- CRC over the eight bytes of a microregister, least significant first. -/
def crcWord (poly : Word32) (crc v : Word) : Word :=
  ((toLe 8 v.toNat).foldl (crcByte poly) (crc.setWidth 32)).setWidth 64

/-- The next address (Table 18.2), or none for a STACK fault. `taken` is the condition. -/
def Micro.target (m : Micro) (q : Sequencer) (a : Nat) (taken : Bool) : Option (Nat × List Nat) :=
  match m.seq with
  | 0 => some (m.next, q.stack)
  | 1 => some (if taken then m.next else a + 1, q.stack)
  | 2 => some (m.next + (q.mreg m.srcA).toNat / 2 ^ (4 * m.dispShift) % 16, q.stack)
  | 3 => if 8 ≤ q.stack.length then none else some (m.next, (a + 1) :: q.stack)
  | 4 => (match q.stack with
      | [] => none
      | r :: rest => some (r, rest))
  | _ => some (m.next, q.stack)

/-- The operations of one microword at address `a`, with every register as it stood. CARRY and the result of a long shift are
free where the spec gives none (log 42). -/
def State.microRun (s : State) (k a : Nat) (q : Sequencer) (m : Micro) (nextAddr : Nat) (stack : List Nat) : State :=
  let (f, s) := s.draw 65
  let b := if m.bImm then BitVec.ofNat 64 m.imm else q.mreg m.srcB
  let out := alu m.alu (q.mreg m.srcA) b (BitVec.ofNat 64 f)
  let read := s.microRead k q m
  let s := (s.microWrite k q m).seqIo k q m
  let s := s.modSeqOf k (fun x =>
    let x := if m.moveEn then x.setMreg m.moveDst (q.mreg m.moveSrc) else x
    let x := match read, out.value with
      | some v, _ => x.setMreg m.dest v
      | none, some v => x.setMreg m.dest v
      | none, none => x
    let x := if m.crc = 1 then { x with crc := crcWord crc32cPoly q.crc (q.mreg m.crcSrc) }
      else if m.crc = 2 then { x with crc := crcWord crc32Poly q.crc (q.mreg m.crcSrc) } else x
    let x := if m.setFlags || m.alu == 10 then
        { x with flagZ := out.zero, flagN := out.negative, flagC := out.carry.getD (bit f 64) } else x
    let x := if m.trace then { x with trace := x.trace ++ [(a, q.mreg m.dest)] } else x
    let x := if (m.mem = 1 ∨ m.mem = 2) ∧ q.current.isSome then x.cachePut (q.current.getD 0) else x
    { x with upc := nextAddr, stack := stack, state := .running, safe := m.safe, gap := if m.safe then 0 else q.gap + 1 })
  if (s.seqOf k).gap < 256 then s else s.microFault k 6 a

/-- A sequencer's clock (R563–R567). -/
def State.microStep (s : State) (k : Nat) : State :=
  let q := s.seqOf k
  let a := s.fetchAddr q
  let w := s.controlWord a
  let m := microOf w
  let taken := s.seqCond k q m.cond != m.condInv
  if 0x4400 ≤ a then s.microFault k 2 a
  else if !microLegal w then s.microFault k 1 a
  else if m.seq = 5 ∧ taken = false then
    s.setSeqOf k { q with state := .waiting, upc := a, gap := 0 }
  else if m.memBad q then s.microFault k 2 a
  else
    match s.ioFault k q m, m.target q a taken with
    | 0, some (n, stack) =>
      if s.ioHeld k q m then s.setSeqOf k { q with state := .running, upc := a, safe := false }
      else s.microRun k a q m n stack
    | 0, none => s.microFault k 3 a
    | c, _ => s.microFault k c a

/-- MICROWORD (R563). -/
def execMicroword (die seq : Nat) (s : State) : Host.Outcome State Fault Refusal :=
  let k := die * 16 + seq
  if s.live die ∧ seq < 16 ∧ (s.seqOf k).state ≠ .outOfService then .next (s.microStep k) else .next s

/-! ## Commands (R570) -/

/-- A context with the parameters of Table 18.6. -/
def contextOf (b : List Byte) (old : Context) : Context :=
  { old with kind := leAt b 2 1, flags := leAt b 3 1, vrf := leAt b 8 2, channel := leAt b 0x0A 2, localPort := leAt b 0x0C 2,
             remotePort := leAt b 0x0E 2, remoteQpn := leAt b 0x10 4, txSlot := leAt b 0x14 4, rxSlot := leAt b 0x18 4,
             localAddress := sub b 0x20 16, remoteAddress := sub b 0x30 16 }

/-- Ranges of Table 18.6. -/
def contextBad (b : List Byte) : Bool :=
  let kind := leAt b 2 1
  let roce := decide (kind = 3)
  decide (2 ≤ leAt b 3 1) || decide (131072 ≤ leAt b 0x14 4) || decide (131072 ≤ leAt b 0x18 4)
    || (roce && (decide (leAt b 0x0E 2 ≠ 4791) || decide (2 ^ 24 ≤ leAt b 0x10 4) || decide (leAt b 0x14 4 ≠ 0) || decide (leAt b 0x18 4 ≠ 0)))
    || (!roce && decide (leAt b 0x10 4 ≠ 0))

/-- CHANNEL names sequencer `q` of the die as WRITER of one channel and READER of the next. -/
def State.channelServes (s : State) (die ch q : Nat) : Bool :=
  decide (ch < 1535) && (s.chanOf (chanKey die ch)).enable && (s.chanOf (chanKey die (ch + 1))).enable
    && (s.chanOf (chanKey die ch)).writer == seqId (die * 16 + q) && (s.chanOf (chanKey die (ch + 1))).reader == seqId (die * 16 + q)

/-- SEQ_CONTEXT_SET (R570). -/
def runSeqContextSet (p : Packet) (s : State) : Answer :=
  let b := p.params
  let die := leAt b 0 1
  let op := leAt b 1 1
  let kind := leAt b 2 1
  let n := leAt b 4 4
  let new := decide (n = 0xFFFFFFFF) && op == 0
  if p.paramLen ≠ 64 ∨ 1 < op ∨ kind = 0 ∨ 4 < kind ∨ (262144 ≤ n ∧ !new) then s.fails stBadParam
  else match s.dieStatus die with
  | some e => s.fails e
  | none =>
    let old := s.context (ctxKey die n)
    if kind ≤ 2 ∨ (!new ∧ (old.kind = 1 ∨ old.kind = 2)) then s.fails stNotPermitted
    else if op = 1 ∧ old.state ≠ 0 ∧ p.sender ≠ old.owner ∧ p.sender ≠ pf0 die then s.fails stNotPermitted
    else if !new ∧ old.state = 0 then s.fails stNotFound
    else if op = 1 then (s.closeContext die n).answers (toLe 4 n)
    else if contextBad b then s.fails stBadParam
    else if new then
      match s.newContext die with
      | none => s.fails stNoResource
      | some i =>
        if !s.channelServes die (leAt b 0x0A 2) (i % 16) then s.fails stBadParam
        else
          let c := { contextOf b Context.reset with owner := p.sender, txNext := leAt b 0x1C 4, lastActivity := s.nsAt die }
          (s.openContext die i c).answers (toLe 4 i)
    else if !s.channelServes die (leAt b 0x0A 2) (n % 16) then s.fails stBadParam
    else
      let c := { contextOf b old with txNext := leAt b 0x1C 4 }
      ((((s.dropFlows die n old).setContext (ctxKey die n) c).writeFlows die n c).updateContext die n).answers (toLe 4 n)

/-- SEQ_CONTEXT_SET (R570). -/
def execSeqContextSet (p : Packet) (s : State) : Host.Outcome State Fault Refusal := runPlain 0x8A01 p runSeqContextSet s

/-- SEQ_STATUS (R572). -/
def State.seqStatus (s : State) (k : Nat) : Nat :=
  let q := s.seqOf k
  let st := match q.state with
    | .idle => 0
    | .running => 1
    | .waiting => 2
    | .outOfService => 3
  let sr := if q.switch then 1 else if !q.updates.isEmpty then 2 else if !q.closes.isEmpty then 3
    else if !q.flushes.isEmpty then 4 else 0
  st + 2 ^ 4 * sr + 2 ^ 8 * q.upc + 2 ^ 24 * q.cache.length + 2 ^ 32 * (s.contextsOf (k / 16) (k % 16)).length

/-- PATCH_STATUS (R572). -/
def State.patchStatus (s : State) : Nat :=
  let h := s.patch.activeHalf
  let ws := if h = 0 then s.patch.words0 else s.patch.words1
  let ms := if h = 0 then s.patch.matches0 else s.patch.matches1
  h + 2 * b2n s.patch.target.isSome + 2 ^ 16 * ws.length + 2 ^ 26 * ms.length

/-- SEQ_QUERY (R570): CONTEXT_FLUSH is raised where the context is cached. -/
def runSeqQuery (p : Packet) (s : State) : Answer :=
  let b := p.params
  let die := leAt b 0 1
  let mode := leAt b 1 1
  let n := leAt b 4 4
  if p.paramLen ≠ 8 ∨ 1 < mode ∨ leAt b 2 2 ≠ 0 ∨ (mode = 0 ∧ 16 ≤ n) ∨ (mode = 1 ∧ 262144 ≤ n) then s.fails stBadParam
  else match s.dieStatus die with
  | some e => s.fails e
  | none =>
    if mode = 0 then s.answers (sub (toLe 8 (s.seqStatus (die * 16 + n))) 0 32)
    else
      let k := die * 16 + n % 16
      let q := s.seqOf k
      let s' := if q.cache.contains n && !q.flushes.contains n then s.setSeqOf k { q with flushes := q.flushes ++ [n] } else s
      s'.answers (((s.context (ctxKey die n)).bytes (n % 16)).take 32)

/-- SEQ_QUERY (R570). -/
def execSeqQuery (p : Packet) (s : State) : Host.Outcome State Fault Refusal := runPlain 0x0A01 p runSeqQuery s

end Sys2Proof.Machine
end

