-- ==== Sys2Proof/Machine/CipherRun.lean ====
section
/-! DEFINITION. The cipher engine at work: units enter a lane, leave it, and depart from the verify buffer (spec/12
R399–R415, spec/08 R299, R300): table rows 114–116. Texts and tags are values of the cipher functions of Config (log 6). -/

namespace Sys2Proof.Machine

def State.cipherUnit (s : State) (die u : Nat) : Option CipherUnit := Tbl.find (s.cipherOf die).units u
def State.setUnit (s : State) (die u : Nat) (w : CipherUnit) : State :=
  s.modCipherOf die (fun c => { c with units := Tbl.set c.units u w })
def State.dropUnit (s : State) (die u : Nat) : State := s.modCipherOf die (fun c => { c with units := Tbl.del c.units u })

/-- The version a unit uses, by its BORN, unless it was erased (R406). -/
def KeySlot.bornAt (k : KeySlot) (born : Nat) : Option KeyVersion :=
  if k.newer.state ≠ .empty ∧ k.newer.born = born then some k.newer
  else if k.older.state ≠ .empty ∧ k.older.born = born then some k.older
  else none

def State.modKey (s : State) (die slot born : Nat) (f : KeyVersion → KeyVersion) : State :=
  s.setKeySlot die slot ((s.keySlot die slot).modVersion born f)

/-! ## Shares of the verify buffer (R412) -/

/-- The class of a unit: 0 network, 1 TLS, 2 STORAGE. -/
def classOf (klass : Nat) : Nat := klass - 1

def Cipher.used (c : Cipher) (cls : Nat) : Nat :=
  ((c.units.filter (fun (_, u) => classOf u.klass == cls)).map (fun e => e.2.verify)).sum

def Cipher.usedBy (c : Cipher) (fn : Nat) : Nat := ((c.units.filter (fun (_, u) => u.ofFn fn)).map (fun e => e.2.verify)).sum

/-- VERIFY_CFG as written takes effect at the start of a decrypt. -/
def Cipher.latch (c : Cipher) : Cipher :=
  { c with netShare := Staged.both c.netShare.written, tlsShare := Staged.both c.tlsShare.written,
           storShare := Staged.both c.storShare.written, funcMax := Staged.both c.funcMax.written }

def Cipher.share (c : Cipher) (cls : Nat) : Nat :=
  if cls = 0 then c.netShare.written else if cls = 1 then c.tlsShare.written else c.storShare.written

/-- Verify units a plaintext takes. -/
def verifyUnits (n : Nat) : Nat := max 1 (ceilDiv n 256)

/-- The class has room for a decrypt, and a STORAGE unit's function holds fewer than FUNC_MAX units. -/
def Cipher.roomFor (c : Cipher) (cls need : Nat) : Bool := decide (c.used cls + need ≤ c.share cls)
def Cipher.funcRoom (c : Cipher) (w : CipherUnit) : Bool :=
  match w.source with
  | .block fn _ => decide (c.usedBy fn < c.funcMax.written)
  | _ => true

/-! ## Packets at the engine (R299, R408) -/

/-- Offset of layer 0's L3 header. -/
def FlightPkt.l3 (k : FlightPkt) : Nat := ((k.layers.head?).map (fun l => l.l3)).getD 0xFFFF

/-- Plaintext bytes of a decrypt in the queue; an unreadable one takes none, for it is dropped. -/
def State.plainLen (s : State) (k : FlightPkt) : Nat :=
  match (k.verdict.cipherSlot).bind (fun n => (s.keySlot k.die n).at k.tempo) with
  | none => 0
  | some v => ((openFrame v k.frame k.l3).map (fun x => x.len)).getD 0

/-- A decrypt in an input queue that cannot start for want of verify space. -/
def State.decryptStuck (s : State) (k : FlightPkt) : Bool :=
  k.verdict.decrypt && !(s.cipherOf k.die).roomFor 0 (verifyUnits (s.plainLen k))

/-- The packet stands at the head of what may start: earlier packets of its pipeline have started, but for decrypts that
cannot; and no decrypt starts behind one that cannot (R412, R413). -/
def State.cipherTurn (s : State) (id : Nat) (k : FlightPkt) : Bool :=
  !(s.flight.any (fun (i, j) => decide (i < id) && j.die == k.die && decide (j.phase = .cipherIn 0)
    && (if s.decryptStuck j then k.verdict.decrypt else j.pipe == k.pipe)))

/-- The slot is one that the packet's program may name (R299). -/
def State.slotAllowed (s : State) (k : FlightPkt) (slot : Nat) (v : KeyVersion) : Bool :=
  let bound := match s.pageBinding k.die (slot / 32) with
    | some f => f == k.fn || f == pf0 k.die
    | none => false
  (bound || !(k.pipe == 1 && k.sourceKind == 1)) && (v.proto == 1 || v.proto == 2) && v.encrypts == !k.verdict.decrypt

/-- The event of SOFT_LIMIT (R414). -/
def State.softEvent (s : State) (die slot : Nat) (v : KeyVersion) : State :=
  if v.seq = v.softLimit then
    let s := s.setKeySlot die slot { s.keySlot die slot with soft := true }
    let vec := bits v.cfg 26 16
    if vec = 0x7FF then s else s.msi ((s.pageBinding die (slot / 32)).getD (pf0 die)) vec
  else s

/-- A sequence assigned to a unit of an encrypting version (R409, R414, R415). -/
def State.assignSeq (s : State) (die slot : Nat) (v : KeyVersion) : State :=
  (s.modKey die slot v.born KeyVersion.assign).softEvent die slot v.assign

/-- The engine has eight lanes, and each processes one unit at a time (R400). -/
def Cipher.laneFree (c : Cipher) : Bool := decide ((c.units.filter (fun (_, u) => decide (u.phase = .lane))).length < 8)

/-- Length of the protected frame. -/
def sealedLen (v : KeyVersion) (f : List Byte) (l3 : Nat) : Nat :=
  if v.proto = 1 then f.length + macsecGrowth v.cfg else (afterL3 f l3).1 + 32 + (espPlain f l3).length

/-- A unit put into a lane: its place in the order of its slot is the present one. -/
def State.enterLane (s : State) (die key : Nat) (w : CipherUnit) : State :=
  s.modCipherOf die (fun c =>
    { c.latch with units := Tbl.set c.units key { w with phase := .lane, order := c.nextUnit }, nextUnit := c.nextUnit + 1 })

/-- The engine's unit of a packet. -/
def FlightPkt.unit (k : FlightPkt) (id slot : Nat) (v : KeyVersion) (seq verify : Nat) : CipherUnit :=
  { source := .packet id, slot := slot, born := v.born, encrypt := !k.verdict.decrypt, reinject := k.verdict.reinject,
    phase := .waiting, seq := seq, bytes := k.frame, aad := [], verify := verify, tempo := k.tempo, klass := k.pipe, index := 0,
    out := [], order := 0 }

/-- An encrypt starts: cells for its growth, then its sequence (R407, R409, R415). -/
def State.startSeal (s : State) (id : Nat) (k : FlightPkt) (slot : Nat) (v : KeyVersion) : State :=
  let need := cellsFor (sealedLen v k.frame k.l3)
  if v.proto = 2 ∧ k.l3 = 0xFFFF then s.dropInFlight id k k.cells drCipherKey
  else if v.state = .exhausted then (s.cipherCount k.die 0x20).dropInFlight id k k.cells drCipherKey
  else if k.cells + s.sharedFree k.die < need then s.dropInFlight id k k.cells drNoBuffer
  else
    let s := s.fitCells k.die k.cells k.ing need
    let s := { s with flight := Tbl.set s.flight id { k with phase := .cipher 0, cells := need } }
    (s.enterLane k.die (2 * id) (k.unit id slot v v.seq 0)).assignSeq k.die slot v

/-- A decrypt starts: its three checks, then verify space (R408, R412). -/
def State.startOpen (s : State) (id : Nat) (k : FlightPkt) (slot : Nat) (v : KeyVersion) : State :=
  match openFrame v k.frame k.l3 with
  | none => s.dropInFlight id k k.cells drCipherKey
  | some x =>
    let seq := v.wholeSeq x.low
    let same := match x.id with
      | some i => i == (if v.proto = 2 then v.slotId % 2 ^ 32 else v.slotId)
      | none => true
    if v.slotId ≠ 0 ∧ same = false then s.dropInFlight id k k.cells drCipherKey
    else if v.fresh seq = false then
      let s := s.modKey k.die slot v.born (fun v => { v with replayFails := satAdd 0xFFFFFFFF v.replayFails 1 })
      (s.cipherCount k.die 0x18).dropInFlight id k k.cells drCipherAuth
    else
      let need := verifyUnits x.len
      if (s.cipherOf k.die).roomFor 0 need then
        let s := { s with flight := Tbl.set s.flight id { k with phase := .cipher 0 } }
        s.enterLane k.die (2 * id) (k.unit id slot v seq need)
      else s

/-- A packet at the head of an input queue enters a lane. -/
def State.startPacket (s : State) (die id : Nat) : State :=
  match Tbl.find s.flight id with
  | none => s
  | some k =>
    match k.verdict.cipherSlot with
    | none => s
    | some slot =>
      if k.die ≠ die ∨ k.phase ≠ .cipherIn 0 ∨ s.cipherTurn id k = false then s
      else
        match (s.keySlot die slot).at k.tempo with
        | none => s.dropInFlight id k k.cells drCipherKey
        | some v =>
          if v.state = .faulted ∨ s.slotAllowed k slot v = false then s.dropInFlight id k k.cells drCipherKey
          else if k.verdict.decrypt then s.startOpen id k slot v
          else s.startSeal id k slot v

/-! ## Units of sequencers and storage functions -/

/-- A unit that fails goes back to its source (R402, R411, R415). -/
def State.failUnit (s : State) (die key status : Nat) : State :=
  match s.cipherUnit die key with
  | none => s
  | some w =>
    match w.source with
    | .block _ _ => s.failBlock die key status
    | .record q => (s.dropUnit die key).modSeqOf q (fun x => { x with cipherBack := some false })
    | .packet _ => s.dropUnit die key

/-- The unit has its turn: blocks of a write are encrypted in order, and a decrypt waits behind one of its class that cannot
start for its share, or of its function that cannot for FUNC_MAX (R412, R471). -/
def State.unitTurn (s : State) (die : Nat) (w : CipherUnit) : Bool :=
  let c := s.cipherOf die
  !(c.units.any (fun (_, u) => decide (u.phase = .waiting) && u.klass == w.klass && decide (u.order < w.order)
    && (if w.encrypt then u.encrypt && u.slot == w.slot
        else !u.encrypt && (!c.roomFor (classOf u.klass) (verifyUnits (u.bytes.length - 16))
          || (match u.source with
              | .block fn _ => w.ofFn fn && !c.funcRoom u
              | _ => false)))))

/-- Its function can issue the DMA that its plaintext will wait for (R98). -/
def State.unitMayOpen (s : State) (w : CipherUnit) : Bool :=
  match w.source with
  | .block fn _ => s.canIssue fn
  | _ => true

/-- A unit of a sequencer or a storage function enters a lane under the version valid now (R402, R409). -/
def State.startUnit (s : State) (die key : Nat) : State :=
  match s.cipherUnit die key with
  | none => s
  | some w =>
    if w.phase ≠ .waiting ∨ s.unitTurn die w = false then s
    else
      match (s.keySlot die w.slot).at s.tempo.current with
      | none => s.failUnit die key nvInternal
      | some v =>
        let w := { w with born := v.born, tempo := s.tempo.current }
        if v.state = .faulted ∨ v.encrypts ≠ w.encrypt ∨ (w.klass = 3 ∧ v.proto ≠ 4) then s.failUnit die key nvInternal
        else if w.encrypt then
          if v.state = .exhausted then (s.cipherCount die 0x20).failUnit die key nvInternal
          else (s.enterLane die key { w with seq := v.seq }).assignSeq die w.slot v
        else
          let need := verifyUnits (w.bytes.length - 16)
          let c := s.cipherOf die
          let seq := if v.proto = 3 then v.seq else w.seq
          if c.roomFor (classOf w.klass) need && c.funcRoom w && s.unitMayOpen w then
            s.enterLane die key { w with seq := seq, verify := need }
          else s

/-- CIPHER_UNIT_START (R402, R408, R409, R412): unit 2n is packet n in flight, odd numbers are units of sequencers and
storage functions. -/
def execCipherUnitStart (die unit : Nat) (s : State) : Host.Outcome State Fault Refusal :=
  if s.boot.cipher && s.live die && (s.cipherOf die).laneFree then
    .next (if unit % 2 = 0 then s.startPacket die (unit / 2) else s.startUnit die unit)
  else .next s

/-! ## Leaving a lane (R400, R411) -/

/-- A tag failed (R411): the plaintext is erased, and the unit is dropped or failed back. -/
def State.tagFails (s : State) (die key : Nat) (w : CipherUnit) : State :=
  let s := (s.cipherCount die 0x10).modKey die w.slot w.born (fun v => { v with authFails := satAdd 0xFFFFFFFF v.authFails 1 })
  match w.source with
  | .packet id =>
    match Tbl.find s.flight id with
    | none => s.dropUnit die key
    | some k => (s.dropUnit die key).dropInFlight id k k.cells drCipherAuth
  | .record _ => s.failUnit die key 0
  | .block _ _ => (s.storCount die 0x10 1).failUnit die key nvUnrecovered

/-- A version that a unit needs was erased (R406). -/
def State.keyGone (s : State) (die key : Nat) (w : CipherUnit) : State :=
  match w.source with
  | .packet id =>
    match Tbl.find s.flight id with
    | none => s.dropUnit die key
    | some k => (s.dropUnit die key).dropInFlight id k k.cells drCipherKey
  | _ => s.failUnit die key nvInternal

/-- A packet goes on to its destination with the engine's frame; its cells are fitted to it (R299, R300). -/
def State.leaveEngine (s : State) (die key id : Nat) (k : FlightPkt) (f : List Byte) : State :=
  let s := (s.dropUnit die key).dropFlight id
  let s := s.fitCells die k.cells k.ing (cellsFor f.length)
  s.deliverPkt die (k.out f k.verdict.dest (s.peerDelayOf k) k.tx) k.punt

/-- An encrypted unit leaves (R407). -/
def State.sealUnit (s : State) (die key : Nat) (w : CipherUnit) (v : KeyVersion) (out : List Byte) : State :=
  let s := s.cipherCount die 0x00
  match w.source with
  | .packet id =>
    match Tbl.find s.flight id with
    | none => s.dropUnit die key
    | some k => s.leaveEngine die key id k (sealFrame v k.frame k.l3 w.seq out)
  | .record q =>
    (s.dropUnit die key).modSeqOf q (fun x =>
      { (x.putScratch w.index (sub out 0 (w.bytes.length + 16))) with cipherBack := some true })
  | .block _ _ => s.sealBlock die key out

/-- What a verified tag does to the version: the window and SLOT_SEQ advance (R408, R409). -/
def KeyVersion.verified (v : KeyVersion) (seq : Nat) : KeyVersion :=
  if v.proto = 3 then { v with seq := (v.seq + 1) % 2 ^ 64 }
  else if v.proto = 4 then { v with seq := max v.seq seq }
  else v.accept seq

/-- What the cipher works on for a unit in a lane (Table 12.2): a packet's frame, or the text of a record or a block. -/
def State.sealingOf (s : State) (die : Nat) (w : CipherUnit) (v : KeyVersion) : Sealing :=
  let own : Sealing := { nonce := v.nonce die w.seq [] [], aad := w.aad, text := w.bytes }
  match w.source with
  | .packet id =>
    match Tbl.find s.flight id with
    | none => own
    | some k =>
      if w.encrypt then sealing v die k.frame k.l3 w.seq
      else match openFrame v k.frame k.l3 with
        | some x => opening v die k.frame x w.seq
        | none => own
  | _ => own

/-- Ciphertext and tag of a unit, and its text where the tag checks. -/
def State.sealedText (s : State) (die : Nat) (w : CipherUnit) (v : KeyVersion) : List Byte :=
  let x := s.sealingOf die w v
  Config.aeadSeal v.algo v.keyBytes x.nonce x.aad x.text
def State.openedText (s : State) (die : Nat) (w : CipherUnit) (v : KeyVersion) : Option (List Byte) :=
  let x := s.sealingOf die w v
  Config.aeadOpen v.algo v.keyBytes x.nonce x.aad x.text

/-- A decrypt's tag has checked: the plaintext waits in the verify buffer (R411). -/
def State.tagChecks (s : State) (die key : Nat) (w : CipherUnit) (out : List Byte) : State :=
  let s := (s.modKey die w.slot w.born (fun v => v.verified w.seq)).setUnit die key { w with phase := .verified, out := out }
  match w.source with
  | .packet id =>
    match Tbl.find s.flight id with
    | some k => { s with flight := Tbl.set s.flight id { k with phase := .verify true } }
    | none => s
  | _ => s

/-- CIPHER_UNIT_DONE (R399, R400, R411): a unit leaves its lane. Encrypted units of a slot leave in the order in which they
entered. The operands name what the cipher found: the text and tag of an encrypt, or whether the tag of a decrypt checks and the
plaintext. A row that names another result than the cipher's does nothing (log 5). -/
def execCipherUnitDone (die unit : Nat) (tagGood : Bool) (output : List Byte) (s : State) : Host.Outcome State Fault Refusal :=
  match s.cipherUnit die unit with
  | none => .next s
  | some w =>
    if !s.live die || decide (w.phase ≠ .lane) then .next s
    else
      match (s.keySlot die w.slot).bornAt w.born with
      | none => .next (s.keyGone die unit w)
      | some v =>
        .next (if w.encrypt then
            (if (s.cipherOf die).leads w && tagGood && decide (output = s.sealedText die w v) then s.sealUnit die unit w v output else s)
          else match s.openedText die w v with
            | some out => if tagGood && decide (output = out) then s.tagChecks die unit w output else s
            | none => if tagGood || !output.isEmpty then s else s.tagFails die unit w)

/-! ## Departure (R300, R411) -/

/-- A decrypted packet departs: over its own cells to its destination, or into P1 as a new packet. -/
def State.departPacket (s : State) (die key id : Nat) (w : CipherUnit) (v : KeyVersion) (k : FlightPkt) : State :=
  match openFrame v k.frame k.l3 with
  | none => s.keyGone die key w
  | some x =>
    let f := unsealFrame v k.frame k.l3 x w.out
    if w.reinject then
      if s.p1Admits die then
        let s := ((s.dropUnit die key).dropFlight id).fitCells die k.cells k.ing (cellsFor f.length)
        let s := (s.cipherCount die 0x08).countDrop die k.pipe acReinjected
        s.offerP1 die
          { sourceKind := 0, sourceId := 0x800000 + w.slot, tc := k.tc, bytes := f, tx := k.tx, cells := cellsFor f.length,
            ing := k.ing, stamp := k.stamp, inTick := k.inTick }
      else s
    else (s.cipherCount die 0x08).leaveEngine die key id k f

/-- PLAINTEXT_DEPART (R411): in the order of the slot. -/
def execPlaintextDepart (die unit : Nat) (s : State) : Host.Outcome State Fault Refusal :=
  match s.cipherUnit die unit with
  | none => .next s
  | some w =>
    if !s.live die || decide (w.phase ≠ .verified) || !(s.cipherOf die).leads w then .next s
    else
      match w.source with
      | .packet id =>
        match Tbl.find s.flight id, (s.keySlot die w.slot).bornAt w.born with
        | some k, some v => .next (s.departPacket die unit id w v k)
        | _, _ => .next (s.keyGone die unit w)
      | .record q =>
        .next (((s.dropUnit die unit).cipherCount die 0x08).modSeqOf q (fun x =>
          { (x.putScratch w.index w.out) with cipherBack := some true }))
      | .block _ _ =>
        let s' := s.departBlock die unit
        .next (if (s'.cipherUnit die unit).isNone then s'.cipherCount die 0x08 else s')

end Sys2Proof.Machine
end

