-- ==== Sys2Proof/Machine/Fabric.lean ====
section
/-! DEFINITION. The Dunyth links: fabric queues, flits, routing and fabric pauses (spec/01 R17–R30, spec/10 R348–R353): table
rows 124–127. -/

namespace Sys2Proof.Machine

/-- Receive buffer of a channel, or of its detour lane, in flits (Table 01.3, R26). -/
def chanFlits (chan : Nat) (detour : Bool) : Nat :=
  if detour then 32 else if chan = 2 then 1024 else if chan = 3 then 64 else 256

/-- The receiver of a lane has a free buffer, and so the sender a credit (R23). A credit is the sender's again as soon as the
receiver frees the buffer (log 101). -/
def Lane.credit (x : Lane) (chan : Nat) (detour : Bool) : Bool := decide (x.buffer.length < chanFlits chan detour)

/-- Bytes of messages in a flit (R18). -/
def flitBytes : Nat := 125

/-- The parts that go into one flit, and what still waits: messages are packed without regard to flit boundaries (R18). -/
def packFlit : Nat → List MsgPart → List MsgPart × List MsgPart
  | _, [] => ([], [])
  | n, m :: q =>
    if n = 0 then ([], m :: q)
    else if m.bytes ≤ n then
      let (now, later) := packFlit (n - m.bytes) q
      (m :: now, later)
    else ([{ m with bytes := n, load := none }], { m with bytes := m.bytes - n } :: q)

/-- FABRIC_ENQUEUE (R348): a packet for another die joins the class lane of its fabric queue, or is dropped. Cells it does
not hold yet are taken first (log 24). -/
def execFabricEnqueue (die dest : Nat) (pkt : TmPkt) (s : State) : Host.Outcome State Fault Refusal :=
  if s.live die && decide (dest < s.dieCount) && decide (dest ≠ die) then
    let s := s.takeCells die (pkt.cells - (s.tm die).pipeline)
    let p := { pkt with tc := pkt.tc % 8, ingressClass := pkt.ingressClass % 8 }
    .next (if s.dieWorks dest then s.fabricEnqueue die dest p else s.dropPkt die drDieDown p)
  else .next s

/-! ## Sending -/

/-- The classes of a fabric queue that may send, as children of its round robin: the lanes that hold a packet and are not
paused, with a quantum of 9,600 bytes (R348, R353). -/
def State.fabricKids (s : State) (die dest : Nat) : List Child :=
  let t := s.tm die
  (List.range 8).filterMap (fun c =>
    let l := Tbl.look FabricLane.reset t.lanes (8 * dest + c)
    match l.queue with
    | [] => none
    | p :: _ =>
      if bit (Tbl.look 0 t.pausedByDest dest) c then none
      else some { id := c, prio := 0, st := 0, deficit := l.deficit, fresh := l.fresh, quantum := 150, len := p.bytes.length + 4 })

/-- The packet a fabric queue sends next, with the traffic manager after the choice. -/
def State.fabricChoice (s : State) (die dest : Nat) : Option (TmPkt × Tm) :=
  let t := s.tm die
  let kids := s.fabricKids die dest
  (drr kids (Tbl.look 0 t.lanePtr dest) (4 * (kids.length + 1))).bind (fun (c, set) =>
    let t := { t with lanePtr := Tbl.put 0 t.lanePtr dest c }
    let t := set.foldl (fun t (x : Child) =>
      let l := Tbl.look FabricLane.reset t.lanes (8 * dest + x.id)
      { t with lanes := Tbl.put FabricLane.reset t.lanes (8 * dest + x.id) { l with deficit := x.deficit, fresh := x.fresh } }) t
    let l := Tbl.look FabricLane.reset t.lanes (8 * dest + c)
    match l.queue with
    | [] => none
    | p :: rest =>
      let d := if rest.isEmpty then 0 else l.deficit - (p.bytes.length + 4)
      let left : FabricLane := { queue := rest, deficit := d, fresh := l.fresh || rest.isEmpty }
      some (p, { t with lanes := Tbl.put FabricLane.reset t.lanes (8 * dest + c) left }))

/-- Destinations whose packets leave a die through a dimension (R21, R26). -/
def State.destsThrough (s : State) (die dim : Nat) : List Nat :=
  (List.range s.dieCount).filter (fun t => decide (t ≠ die) && !(s.fabricKids die t).isEmpty
    && (match s.nextHop die t false with
      | some (k, _) => k == dim
      | none => false))

/-- A packet of a fabric queue joins what a link sends, with its 16-byte fabric header: its cells are in TRANSIT until the
destination has stored it (R19, R349). Its FCS crosses too (log 101). -/
def State.sendPacket (s : State) (die dim dest : Nat) : State :=
  match s.fabricChoice die dest with
  | none => s
  | some (p, t) =>
    let det := match s.nextHop die dest false with
      | some (_, b) => b
      | none => false
    let s := (s.setTm die t).transitCells die p.cells
    let m : MsgPart :=
      { msg := s.nextMsg, src := die, dst := dest, detoured := det, bytes := p.bytes.length + 20, load := some (.packet p) }
    let s := ({ s with nextMsg := s.nextMsg + 1 } : State).modLaneOf (laneKey die dim 2 false) (fun x => { x with sendQ := x.sendQ ++ [m] })
    if p.homeHere die then s.refreshBudget p.sourceId else s

/-- Bytes that wait at the sender of a lane. -/
def Lane.waiting (x : Lane) : Nat := (x.sendQ.map (fun m => m.bytes)).sum

/-- Packets join the packet channel of a link until a whole flit waits. Where several fabric queues have a packet for the link,
the spec gives no order among them: one is drawn (log 35). -/
def State.pullPackets (s : State) (die dim : Nat) : Nat → State
  | 0 => s
  | n + 1 =>
    if flitBytes ≤ (s.laneOf (laneKey die dim 2 false)).waiting then s
    else
      match s.destsThrough die dim with
      | [] => s
      | [t] => (s.sendPacket die dim t).pullPackets die dim n
      | ts =>
        let (r, s) := s.draw 8
        (s.sendPacket die dim (ts.getD (r % ts.length) 0)).pullPackets die dim n

/-- A lane has a flit ready and a credit for it. -/
def State.laneReady (s : State) (die dim chan : Nat) (detour : Bool) : Bool :=
  let x := s.laneOf (laneKey die dim chan detour)
  x.credit chan detour && (!x.sendQ.isEmpty || (chan == 2 && !detour && !(s.destsThrough die dim).isEmpty))

/-- The lane of a channel that sends: the detour lane before the other, an order the spec leaves open (log 101). -/
def State.readyLane (s : State) (die dim chan : Nat) : Option Bool :=
  [true, false].find? (fun det => s.laneReady die dim chan det)

/-- The channel that owns a slot of a frame of 16: 2 for requests, 2 for responses, 11 for packets, 1 for management (R24). The
spec gives the shares, not the places in the frame (log 101). -/
def slotChan (slot : Nat) : Nat := if slot < 2 then 0 else if slot < 4 then 1 else if slot < 15 then 2 else 3

/-- The channel and lane that a slot goes to: its own, or else the first that can use it, of response, request, packet and
management (R24). -/
def State.arbitrate (s : State) (die dim slot : Nat) : Option (Nat × Bool) :=
  (slotChan slot :: [1, 0, 2, 3]).findSome? (fun c => (s.readyLane die dim c).map (fun det => (c, det)))

def State.linkEnd (s : State) (die dim : Nat) : LinkEnd := Tbl.look LinkEnd.reset s.linkEnds (die * 3 + dim)
def State.setLinkEnd (s : State) (die dim : Nat) (e : LinkEnd) : State :=
  { s with linkEnds := Tbl.put LinkEnd.reset s.linkEnds (die * 3 + dim) e }

/-- A flit of a lane is sent: it takes a credit, carries the credits freed for the lane's opposite direction, and the sequence count
of the link (R18, R23). -/
def State.sendFlit (s : State) (die dim chan : Nat) (detour : Bool) : State :=
  let s := if chan = 2 ∧ detour = false then s.pullPackets die dim 3 else s
  let e := s.linkEnd die dim
  let back := laneKey (die ^^^ 2 ^ dim) dim chan detour
  let freed := (s.laneOf back).freed
  let s := s.modLaneOf back (fun x => { x with freed := 0 })
  let s := s.modLaneOf (laneKey die dim chan detour) (fun x =>
    let (now, later) := packFlit flitBytes x.sendQ
    { x with sendQ := later, buffer := x.buffer ++ [{ chan := chan, credits := freed, seq := e.seq, parts := now }] })
  s.setLinkEnd die dim { e with seq := (e.seq + 1) % 2 ^ 8 }

/-- FABRIC_SEND (R18, R23, R24): one flit slot of a direction of a link passes, and the channel that takes it sends a flit. The operands
name the channel and the lane that the slot goes to; where it goes to others, the row does nothing (log 5). -/
def execFabricSend (die dim chan : Nat) (detour : Bool) (s : State) : Host.Outcome State Fault Refusal :=
  if s.ready && s.dunythUp die dim then
    let e := s.linkEnd die dim
    let t := s.setLinkEnd die dim { e with slot := (e.slot + 1) % 16 }
    .next (match s.arbitrate die dim e.slot with
      | none => t
      | some (c, det) => if c = chan ∧ det = detour then t.sendFlit die dim chan detour else s)
  else .next s

/-! ## Receiving -/

/-- A fabric pause or release from die `src` at die `die` (R353). -/
def State.takeFabricPause (s : State) (die src c : Nat) (pause : Bool) : State :=
  s.modTm die (fun t => { t with pausedByDest := Tbl.put 0 t.pausedByDest src (setBit (Tbl.look 0 t.pausedByDest src) c pause) })

/-- A packet reaches its destination die and is stored in its cells, freeing those of its source (R349, R350, R353). -/
def State.storePacket (s : State) (die src : Nat) (p : TmPkt) : State :=
  let s := (s.arriveCells src p.cells).ingSub src p.ingKey p.cells
  let q := { p with fromDie := some src, fromPort := none }
  let (s, ok) := s.findCells die (64 + 8 * src + p.ingressClass % 8) p.cells
  if ok then s.deliverHere die q
  else
    let s := if ((s.tm die).cls p.ingressClass).lossless then
        (s.tmStat die 0x20).raise 0x0303 sevDegraded 0 die (0x100 + src) 0 0
      else s.tmStat die 0x08
    match p.tx with
    | some x => s.stampEntry x none
    | none => s

/-- A load that has reached its destination. -/
def State.deliverLoad (s : State) (die src : Nat) : FlitLoad → State
  | .packet p => s.storePacket die src p
  | .message kind v => if kind = msgFabricPause then s.takeFabricPause die src (v / 2 % 8) (v % 2 == 1) else s

/-- Lane and dimension by which a part goes onward from a die (R21, R26): none where it has no way. -/
def State.onward (s : State) (die : Nat) (detour : Bool) (m : MsgPart) : Option (Nat × Bool) :=
  s.nextHop die m.dst (detour || m.detoured)

/-- A part of a flit can leave the receive buffer: it is for this die, or the link it goes on by has room for it to wait. -/
def State.partMoves (s : State) (die chan : Nat) (detour : Bool) (m : MsgPart) : Bool :=
  m.dst == die || (match s.onward die detour m with
    | none => false
    | some (n, _) => decide ((s.laneOf (laneKey die n chan (detour || m.detoured))).waiting ≤ flitBytes))

/-- A part of a flit that has reached a die: with the last one its message is delivered; another die's goes onward. -/
def State.takePart (s : State) (die chan : Nat) (detour : Bool) (m : MsgPart) : State :=
  if m.dst = die then
    match m.load with
    | some l => s.deliverLoad die m.src l
    | none => s
  else
    match s.onward die detour m with
    | none => s
    | some (n, det) =>
      let lane := detour || m.detoured
      s.modLaneOf (laneKey die n chan lane) (fun y => { y with sendQ := y.sendQ ++ [{ m with detoured := det || lane }] })

/-- FLIT_RECEIVE (R21, R23, R26): the oldest flit on a lane of a link reaches die `die`: what it carries is delivered there or goes
onward, and its buffer is free, which returns a credit. Past its detour hop it travels in the detour lanes. A flit of which a part
cannot go onward yet stays in its buffer. -/
def execFlitReceive (die dim chan : Nat) (detour : Bool) (s : State) : Host.Outcome State Fault Refusal :=
  let k := laneKey (die ^^^ 2 ^ dim) dim chan detour
  let x := s.laneOf k
  match x.buffer with
  | [] => .next s
  | f :: rest =>
    if s.ready && s.dunythUp die dim && decide (chan < 4) && f.parts.all (s.partMoves die chan detour) then
      .next (f.parts.foldl (fun s m => s.takePart die chan detour m) (s.setLaneOf k { x with buffer := rest, freed := x.freed + 1 }))
    else .next s

/-- FABRIC_PAUSE (R353). -/
def execFabricPause (die fromDie cls : Nat) (pause : Bool) (s : State) : Host.Outcome State Fault Refusal :=
  .next (if s.live die && decide (cls < 8) && decide (fromDie < s.dieCount) then s.takeFabricPause die fromDie cls pause else s)

end Sys2Proof.Machine
end

