-- ==== Sys2Proof/Machine/Virtual.lean ====
section
/-! DEFINITION. Virtual functions, twin pairs and migration (spec/15): table rows 219–231 and VF_ENABLE_SET. -/

namespace Sys2Proof.Machine

/-! ## Provisioning (R481–R486) -/

/-- The function a FUNC command names, as PF0 may name it: of its own link, in one of its two trees (R142, R487). -/
def namesOwn (sender fn : Nat) : Bool :=
  decide (fn < 2 ^ 24) && mClass fn == 0 && mDie fn == mDie sender && decide (fnPf fn < 2)

/-- One window over every address (Table 15.2). -/
def basicWindows : List (Nat × Nat) := [(0, 2 ^ 64 - 1)]

/-- FUNC_CREATE's effect (R482, Table 15.2). -/
def runFuncCreate (p : Packet) (s : State) : Answer :=
  let b := p.params
  let die := mDie p.sender
  let pf := leAt b 0 1
  let want := leAt b 2 2
  let t := s.partition die pf
  if p.paramLen ≠ 4 ∨ 1 < pf ∨ leAt b 1 1 ≠ 0 ∨ t.totalVfs < want then s.fails stBadParam
  else if want ≠ 0 ∧ (s.func (fnId die pf want)).provisioned = true then s.fails stExists
  else if s.boot.fuses.lifecycle = .provisioned then s.fails stWrongState
  else
    let free := (List.range t.totalVfs).find? (fun v => !(s.func (fnId die pf (v + 1))).provisioned)
    match (if want ≠ 0 then some want else free.map (fun v => v + 1)) with
    | none => s.fails stNoResource
    | some vf =>
      let fn := fnId die pf vf
      let (qs, vs, cs) := s.treeGrants die pf
      if t.queuePairs < qs + 8 ∨ t.vectors < vs + 9 then s.fails stNoResource
      else
        let s := s.modFunc fn (fun f =>
          { f with provisioned := true, queuePairs := 8, vectors := 9, vectorsInEffect := 9,
                   stageMax := if pf = 1 then t.stageMaxMib else 0, txBudget := 1024, windows := basicWindows })
        let s := if pf = 0 ∧ cs < t.dmaChannels then s.grantChannels fn 1 else s
        s.answers (toLe 4 fn)

/-- FUNC_CREATE (R482). -/
def execFuncCreate (p : Packet) (s : State) : Host.Outcome State Fault Refusal := runPlain 0x0101 p runFuncCreate s

/-- A key page or a namespace is bound to the function, or it is a twin member (R485). -/
def State.tied (s : State) (fn : Nat) : Bool :=
  s.protect.keyPages.any (fun (_, b) => b / 64 == fn) || (s.storage (mDie fn)).namespaces.any (fun (_, n) => n.fn == fn)
    || s.twins.any (fun (_, t) => t.memberA == fn || t.memberB == fn)

/-- FUNC_DESTROY's effect (R485). -/
def runFuncDestroy (p : Packet) (s : State) : Answer :=
  let fn := leAt p.params 0 4
  if p.paramLen ≠ 4 ∨ reservedClass fn then s.fails stBadParam
  else if namesOwn p.sender fn = false then s.fails stNotPermitted
  else if fnVf fn = 0 then s.fails stBadParam
  else if (s.func fn).provisioned = false then s.fails stNotFound
  else if s.tied fn then s.fails stWrongState
  else
    let s := s.resetOne fn
    (s.modFunc fn (fun f => { f with
      provisioned := false, queuePairs := 0, vectors := 0, vectorsInEffect := 0, dmaChannels := 0, channels := [],
      stageMax := 0, txBudget := 1024, windows := [] })).answers []

/-- FUNC_DESTROY (R485). -/
def execFuncDestroy (p : Packet) (s : State) : Host.Outcome State Fault Refusal := runPlain 0x0102 p runFuncDestroy s

/-- The pair of a function. -/
def State.pairOf (s : State) (fn : Nat) : Option TwinPair :=
  (s.twins.find? (fun (_, t) => t.memberA == fn || t.memberB == fn)).map (fun e => e.2)

/-- A member is available (R489); one that is PAUSING already drops its packets (R493). -/
def State.available (s : State) (fn : Nat) : Bool :=
  (s.func fn).provisioned && s.canIssue fn && !(s.func fn).halted && decide ((s.func fn).mig = .running)

/-- The member receives packets under R490: the active one, or in ACTIVE_ACTIVE one that can be chosen. -/
def TwinPair.active (t : TwinPair) (fn : Nat) : Bool :=
  if t.activeActive then
    if fn = t.memberA then t.seenA || !t.seenB else t.seenB || !t.seenA
  else if t.bActive then fn == t.memberB else fn == t.memberA

def MigState.code : MigState → Nat
  | .running => 0
  | .pausing => 1
  | .paused => 2

/-- FUNC_STATUS of a function (R500). -/
def State.funcStatus (s : State) (fn : Nat) : Nat :=
  let f := s.func fn
  if f.provisioned = false then 0
  else
    let pair := s.pairOf fn
    let other := match pair with
      | some t => if t.memberA = fn then t.memberB else t.memberA
      | none => 0
    let act := match pair with
      | some t => t.active fn
      | none => false
    1 + 2 * f.mig.code + 2 ^ 3 * b2n f.halted + 2 ^ 4 * b2n pair.isSome + 2 ^ 5 * b2n act + 2 ^ 6 * b2n (s.available fn)
      + 2 ^ 8 * f.queuePairs + 2 ^ 17 * f.vectorsInEffect + 2 ^ 32 * f.dmaChannels + 2 ^ 36 * f.windows.length
      + 2 ^ 40 * other

/-- Bytes 0x04–0x0F of Table 15.3 for a function. -/
def Func.attributes (f : Func) : List Byte :=
  toLe 2 f.queuePairs ++ toLe 2 f.vectors ++ toLe 1 f.dmaChannels ++ toLe 1 f.windows.length ++ toLe 2 0 ++ toLe 4 f.txBudget

/-- FUNC_QUERY's answer (R486). -/
def runFuncQuery (p : Packet) (s : State) : Answer :=
  let fn := leAt p.params 0 4
  let f := s.func fn
  let cls := issuerOf p.sender
  if p.paramLen ≠ 4 ∨ reservedClass fn then s.fails stBadParam
  else if namesOwn p.sender fn = false ∨ (s.partition (mDie fn) (fnPf fn)).totalVfs < fnVf fn then s.fails stNotFound
  else if (cls = isV ∧ fn ≠ p.sender) ∨ (cls = isS ∧ fnPf fn ≠ 1) then s.fails stNotPermitted
  else if f.provisioned = false then s.answers (toLe 32 0)
  else s.answers (toLe 8 (s.funcStatus fn) ++ f.attributes ++ toLe 2 f.stageMax ++ toLe 10 0)

/-- FUNC_QUERY (R486). -/
def execFuncQuery (p : Packet) (s : State) : Host.Outcome State Fault Refusal := runPlain 0x0103 p runFuncQuery s

/-- The WINDOW entries of Table 15.3, if they are well formed. -/
def windowsOf (b : List Byte) : Option (List (Nat × Nat)) :=
  let n := leAt b 9 1
  let w := (List.range 4).map (fun i => (leAt b (16 + 16 * i) 8, leAt b (24 + 16 * i) 8))
  let bad := (w.take n).any (fun (lo, hi) => decide (lo % 4096 ≠ 0) || decide ((hi + 1) % 4096 ≠ 0) || decide (hi < lo))
  if n = 0 ∨ 4 < n ∨ bad = true ∨ (w.drop n).any (fun (lo, hi) => lo != 0 || hi != 0) then none else some (w.take n)

/-- Queue pairs that exist for a function: NVMe completion queues for a storage function (R455, R483). -/
def State.pairsHeld (s : State) (fn : Nat) : Nat := if fnPf fn = 0 then s.queueCount fn else (s.nvme fn).cqs.length

/-- The failing status of the COUNTS group for a VF (R483). -/
def State.countsStatus (s : State) (fn : Nat) (b : List Byte) : Option Nat :=
  let f := s.func fn
  let t := s.partition (mDie fn) (fnPf fn)
  let (qs, vs, cs) := s.treeGrants (mDie fn) (fnPf fn)
  let q := leAt b 4 2
  let v := leAt b 6 2
  let c := leAt b 8 1
  if q = 0 ∨ 256 < q ∨ t.vfQueuePairsMax < q ∨ v = 0 ∨ 2048 < v ∨ t.vfVectorsMax < v ∨ 8 < c ∨ (fnPf fn = 1 ∧ c ≠ 0) then
    some stBadParam
  else if q < s.pairsHeld fn ∨ c < s.channelCount fn then some stWrongState
  else if t.queuePairs + f.queuePairs < qs + q ∨ t.vectors + f.vectors < vs + v ∨ t.dmaChannels + f.dmaChannels < cs + c then
    some stNoResource
  else none

/-- FUNC_SET_RESOURCES' effect (R483, R484): vectors take effect at the next function-level reset. -/
def runFuncSetResources (p : Packet) (s : State) : Answer :=
  let b := p.params
  let fn := leAt b 0 3
  let sel := leAt b 3 1
  let counts := bit sel 0 && fnVf fn != 0
  let budget := leAt b 0xC 4
  if p.paramLen ≠ 80 ∨ reservedClass fn then s.fails stBadParam
  else if namesOwn p.sender fn = false then s.fails stNotPermitted
  else if 8 ≤ sel ∨ leAt b 0xA 2 ≠ 0 then s.fails stBadParam
  else if (s.func fn).provisioned = false then s.fails stNotFound
  else if (bit sel 1 ∧ (windowsOf b).isNone) ∨ (bit sel 2 ∧ (budget < 64 ∨ 196608 < budget)) then s.fails stBadParam
  else
    match (if counts then s.countsStatus fn b else none) with
    | some st => s.fails st
    | none =>
      let s := if counts then
          (s.modFunc fn (fun f => { f with queuePairs := leAt b 4 2, vectors := leAt b 6 2 })).grantChannels fn (leAt b 8 1)
        else s
      let s := if bit sel 1 then s.modFunc fn (fun f => { f with windows := (windowsOf b).getD [] }) else s
      let s := if bit sel 2 then s.setBudget fn budget else s
      s.answers []

/-- FUNC_SET_RESOURCES (R483). -/
def execFuncSetResources (p : Packet) (s : State) : Host.Outcome State Fault Refusal :=
  runPlain 0x8101 p runFuncSetResources s

/-- VF_ENABLE_SET (R85, R481): the host sets VF Enable, or changes NumVFs. -/
def execVfEnableSet (pf count : Nat) (s : State) : Host.Outcome State Fault Refusal :=
  .next (if s.ready && s.configReach pf && fnVf pf == 0 then
    s.modFunc pf (fun f => { f with vfEnable := true, numVfs := min count (s.partition (mDie pf) (fnPf pf)).totalVfs }) else s)

/-! ## Twin pairs (R488–R492) -/

/-- In ACTIVE_STANDBY the other member becomes active when the active one is not available and the other is (R490). -/
def TwinPair.settle (t : TwinPair) : TwinPair :=
  if t.activeActive then t
  else if t.bActive && !t.seenB && t.seenA then { t with bActive := false }
  else if !t.bActive && !t.seenA && t.seenB then { t with bActive := true }
  else t

def State.setTwin (s : State) (t : TwinPair) : State := { s with twins := Tbl.set s.twins t.memberA t }

/-- An identity cannot be a twin member: it is no VF of a link. -/
def badMember (m : Nat) : Bool := decide (2 ^ 24 ≤ m) || mClass m != 0 || decide (1 < fnPf m) || fnVf m == 0

/-- TWIN_PAIR with OP 0 (R488). -/
def runTwinPair (p : Packet) (s : State) : Answer :=
  let b := p.params
  let x := leAt b 4 4
  let y := leAt b 8 4
  if p.paramLen ≠ 12 ∨ leAt b 0 1 ≠ 0 ∨ 1 < leAt b 1 1 ∨ leAt b 2 2 ≠ 0 ∨ badMember x = true ∨ badMember y = true
      ∨ mDie x = mDie y ∨ fnPf x ≠ fnPf y then s.fails stBadParam
  else
    match (s.dieStatus (mDie x)).orElse (fun _ => s.dieStatus (mDie y)) with
    | some st => s.fails st
    | none =>
      if (s.func x).provisioned = false ∨ (s.func y).provisioned = false then s.fails stNotFound
      else if (s.pairOf x).isSome ∨ (s.pairOf y).isSome then s.fails stExists
      else
        let t : TwinPair :=
          { memberA := x, memberB := y, activeActive := decide (leAt b 1 1 = 1), bActive := false, bTakesZero := false,
            seenA := s.available x, seenB := s.available y }
        (s.setTwin t.settle).answers []

/-- Unpair and swap: the pair that MEMBER_A names, or the failing status (R488). -/
def State.namedPair (s : State) (p : Packet) (op : Nat) : Except Nat TwinPair :=
  let b := p.params
  let x := leAt b 4 4
  if p.paramLen ≠ 12 ∨ leAt b 0 1 ≠ op ∨ leAt b 1 1 ≠ 0 ∨ leAt b 2 2 ≠ 0 ∨ leAt b 8 4 ≠ 0 ∨ badMember x = true then .error stBadParam
  else
    match s.dieStatus (mDie x) with
    | some st => .error st
    | none =>
      match s.pairOf x with
      | none => .error stNotFound
      | some t => .ok t

/-- TWIN_PAIR with OP 1. -/
def runTwinUnpair (p : Packet) (s : State) : Answer :=
  match s.namedPair p 1 with
  | .error st => s.fails st
  | .ok t => { s with twins := Tbl.del s.twins t.memberA }.answers []

/-- TWIN_PAIR with OP 2. -/
def runTwinSwap (p : Packet) (s : State) : Answer :=
  match s.namedPair p 2 with
  | .error st => s.fails st
  | .ok t =>
    let t := if t.activeActive then { t with bTakesZero := !t.bTakesZero } else { t with bActive := !t.bActive }
    (s.setTwin t.settle).answers []

/-- TWIN_PAIR by its OP; an OP above 2 is out of range. -/
def runTwinPairAny (p : Packet) (s : State) : Answer :=
  match leAt p.params 0 1 with
  | 0 => runTwinPair p s
  | 1 => runTwinUnpair p s
  | 2 => runTwinSwap p s
  | _ => s.fails stBadParam

/-- TWIN_PAIR_PAIR (R488). -/
def execTwinPairPair (p : Packet) (s : State) : Host.Outcome State Fault Refusal := runPlain 0x8102 p runTwinPair s

/-- TWIN_PAIR_UNPAIR (R488). -/
def execTwinPairUnpair (p : Packet) (s : State) : Host.Outcome State Fault Refusal := runPlain 0x8102 p runTwinUnpair s

/-- TWIN_PAIR_SWAP (R488). -/
def execTwinPairSwap (p : Packet) (s : State) : Host.Outcome State Fault Refusal := runPlain 0x8102 p runTwinSwap s

/-- What the delivering logic has observed of one member is brought up to date (R489, R490). -/
def State.observeTwin (s : State) (t : TwinPair) (bMember : Bool) : State :=
  let t := if bMember then { t with seenB := s.available t.memberB } else { t with seenA := s.available t.memberA }
  s.setTwin t.settle

/-- AVAILABILITY_OBSERVE (R489, R652): the instant is the environment's. -/
def execAvailabilityObserve (pair : Nat) (bMember : Bool) (s : State) : Host.Outcome State Fault Refusal :=
  match Tbl.find s.twins pair with
  | none => .next s
  | some t => .next (if s.ready then s.observeTwin t bMember else s)

/-! ## Freezing (R493) -/

/-- None of the entry's effects has begun. -/
def SubmitEntry.unbegun (e : SubmitEntry) : Bool :=
  decide (e.phase = .reading) || decide (e.phase = .table) || decide (e.phase = .posted)

/-- Entries not begun, behind every begun one, are left unconsumed: fetching goes back to the first of them. -/
def QueuePair.rewindFresh (q : QueuePair) : QueuePair :=
  let keep := (q.accepted.reverse.dropWhile SubmitEntry.unbegun).reverse
  let next := match (q.accepted.drop keep.length).head? with
    | some e => e.index
    | none => q.fetch
  let q := { q with accepted := keep, fetch := next, ownWait := false, backoffUs := 0, backlog := [] }
  if q.accepted.isEmpty then q.closeBatch else q

/-- The work of a VF that is left once it is frozen: a paused DMA descriptor, and a finished entry in order behind one, are none (R493). -/
def State.workLeft (s : State) (fn : Nat) : Bool :=
  (s.queues.any (fun (k, q) => k / 256 == fn && q.accepted.any (fun e => decide (e.phase ≠ .running) && decide (e.phase ≠ .finished))))
    || (s.storage (mDie fn)).cmds.any (fun (_, c) => c.fn == fn && !c.orphan)

/-- A VF with no queue pair and no enabled controller: a freeze takes it to PAUSED at once (R497). -/
def State.idleVf (s : State) (fn : Nat) : Bool :=
  (s.queuesOf fn).isEmpty && !bit (s.nvme fn).cc 0 && !s.workLeft fn && s.canIssue fn

/-- FUNC_FREEZE: fetching stops, what has not begun is rewound, waiting packets are dropped and counted. -/
def State.freeze (s : State) (fn : Nat) : State :=
  let lost := ((s.queues.filter (fun (k, _) => k / 256 == fn)).map (fun e => e.2.backlog.length)).sum
  let s := (s.dropBacklogs fn).modFunc fn (fun f =>
    { f with mig := .pausing, rxNoSpace := (f.rxNoSpace + lost) % 2 ^ 64 })
  let s := { s with
    queues := List.map (fun (e : Nat × QueuePair) => (e.1, if e.1 / 256 = fn then e.2.rewindFresh else e.2)) s.queues,
    channels := List.map (fun (e : Nat × DmaChannel) =>
      (e.1, match e.2.binder with
        | .queue f _ => if f = fn then e.2.force else e.2
        | _ => e.2)) s.channels }
  s.discardReads fn

/-- The function of a migration command: a provisioned VF of the sender's link, or the failing status (R493–R498). -/
def State.migTarget (s : State) (p : Packet) (len : Nat) : Except Nat Nat :=
  let fn := leAt p.params 0 4
  if p.paramLen ≠ len ∨ reservedClass fn then .error stBadParam
  else if namesOwn p.sender fn = false then .error stNotPermitted
  else if fnVf fn = 0 then .error stBadParam
  else if (s.func fn).provisioned = false then .error stNotFound
  else .ok fn

/-- The zero-length read of a VF that no work is left of is issued, if it is not outstanding and a tag is free (R493). -/
def State.freezeRead (s : State) (fn : Nat) : State := (s.needRead fn .freeze 0).getD s

def runFuncFreeze (p : Packet) (s : State) : Answer :=
  match s.migTarget p 4 with
  | .error st => s.fails st
  | .ok fn =>
    if (s.func fn).halted = true ∨ (s.func fn).mig ≠ .running then s.fails stWrongState
    else
      let idle := s.idleVf fn
      let s := s.freeze fn
      (if idle then s.modFunc fn (fun f => { f with mig := .paused })
        else if s.workLeft fn || !s.canIssue fn then s else s.freezeRead fn).answers []

/-- FUNC_FREEZE (R493). -/
def execFuncFreeze (p : Packet) (s : State) : Host.Outcome State Fault Refusal := runPlain 0x0E01 p runFuncFreeze s

/-- FREEZE_READ_DONE (R493): the zero-length read ends, and the VF is PAUSED; one that is not yet outstanding is issued. Both only
while the VF can issue requests and no work is left. -/
def execFreezeReadDone (fn : Nat) (s : State) : Host.Outcome State Fault Refusal :=
  let f := s.func fn
  .next (if s.live (mDie fn) && decide (f.mig = .pausing) && !f.halted && s.canIssue fn && !s.workLeft fn then
    (if (s.readOf fn .freeze).isSome then (s.retireRead fn .freeze).setFunc fn { f with mig := .paused } else s.freezeRead fn)
    else s)

/-! ## Snapshots (R495, Tables 15.4, 15.5) -/

/-- A section of a snapshot: none where it has no record. -/
def snapSection (type count : Nat) (body : List Byte) : List (List Byte) :=
  if count = 0 then [] else [toLe 2 type ++ toLe 2 count ++ toLe 4 body.length ++ body]

/-- ATTRIBUTES: Table 15.3 with FUNCTION and SELECT zero. -/
def Func.snapAttributes (f : Func) : List Byte :=
  sub (toLe 4 0 ++ f.attributes ++ f.windows.flatMap (fun (a, b) => toLe 8 a ++ toLe 8 b)) 0 80

def QueueKind.code : QueueKind → Nat
  | .tx => 0
  | .rx => 1
  | .dma => 2

def CplMode.code : CplMode → Nat
  | .entry => 0
  | .batch => 1
  | .ownWb => 2

/-- QUEUE_PAIR record. -/
def QueuePair.snapRecord (q : QueuePair) (n : Nat) : List Byte :=
  sub (toLe 1 n ++ toLe 1 q.kind.code ++ toLe 1 (q.log2Sq + 16 * q.log2Cq) ++ toLe 1 (q.mode.code + 4 * b2n q.armed)
    ++ toLe 2 (q.vector.getD 0xFFFF) ++ toLe 2 q.intUsec ++ toLe 8 q.sqBase ++ toLe 8 q.cqBase ++ toLe 8 q.wbAddr
    ++ toLe 2 q.sqHead ++ toLe 2 q.sqTail ++ toLe 2 q.cqTail ++ toLe 2 q.cqHead ++ (q.attr n).drop 1) 0 64

/-- HELD records of queue pairs. -/
def QueuePair.snapHeld (q : QueuePair) (n : Nat) : List (List Byte) :=
  q.held.map (fun (bs, _, _) => toLe 1 n ++ toLe 7 0 ++ sub bs 0 32)

/-- HELD records of an NVMe completion queue, with the phase each entry would be written with. -/
def NvmeQueue.snapHeld (c : NvmeQueue) (n : Nat) : List (List Byte) :=
  c.held.zipIdx.map (fun ((dw0, head, sq, cid, status), i) =>
    let ph := if (c.tail + i) / c.size % 2 = 0 then c.phase else !c.phase
    toLe 1 n ++ toLe 7 0 ++ toLe 4 dw0 ++ toLe 4 0 ++ toLe 2 head ++ toLe 2 sq ++ toLe 2 cid ++ toLe 2 (b2n ph + 2 * status)
      ++ toLe 16 0)

/-- MSIX: the table entries, then the Pending Bit Array. -/
def Func.snapMsix (f : Func) : List Byte :=
  let n := f.vectorsInEffect
  let vec := fun v => Tbl.look MsixVec.reset f.msix v
  (List.range n).flatMap (fun v => toLe 8 (vec v).address ++ toLe 4 (vec v).data ++ toLe 4 (b2n (vec v).masked))
    ++ toLe (8 * ceilDiv n 64) (((List.range n).map (fun v => b2n (vec v).pending * 2 ^ v)).sum)

/-- DMA_CHANNEL record: the descriptor as rewound. -/
def DmaChannel.snapRecord (c : DmaChannel) (queue : Nat) : List Byte :=
  sub c.elem 0 64 ++ toLe 2 c.i0 ++ toLe 2 c.i1 ++ toLe 2 c.i2 ++ toLe 1 queue ++ toLe 1 0

/-- DMA channels with a descriptor in progress, with their queue pairs. -/
def State.busyChannels (s : State) (fn : Nat) : List (Nat × DmaChannel) :=
  s.channels.filterMap (fun (_, c) => match c.binder with
    | .queue f q => if f = fn ∧ c.busy = true then some (q, c) else none
    | _ => none)

/-- MAILBOX record: the outbound queue. -/
def FnMailbox.snapRecord (b : FnMailbox) : List Byte :=
  sub (toLe 1 b.outbound.length ++ toLe 7 0 ++ b.outbound.flatMap (fun w =>
    toLe 4 w.word.toNat ++ toLe 3 w.stamp ++ toLe 1 (b2n w.last + 2 * b2n w.collided))) 0 136

/-- NVME_CONTROLLER record; the spec gives its contents and not their places (log 43). -/
def Nvme.snapRecord (v : Nvme) : List Byte :=
  sub (toLe 4 v.cc ++ toLe 4 v.aqa ++ toLe 8 v.asq ++ toLe 8 v.acq ++ toLe 4 v.intms ++ toLe 4 v.featQueues
    ++ toLe 4 v.featCoalesce ++ toLe 4 v.featAsync ++ toLe 4 v.asyncReqs.length) 0 64

/-- NVME_QUEUE record. -/
def NvmeQueue.snapRecord (q : NvmeQueue) (n : Nat) (cq : Bool) : List Byte :=
  sub (toLe 2 n ++ toLe 2 (b2n cq + 2 * b2n q.phase + 4 * b2n q.intEnable) ++ toLe 4 q.size ++ toLe 8 q.base
    ++ toLe 2 q.head ++ toLe 2 q.tail ++ toLe 2 q.peer) 0 32

/-- KEY_SEQUENCES records of the pages bound to a function. -/
def State.snapKeys (s : State) (fn : Nat) : List (List Byte) :=
  (s.protect.keyPages.filter (fun (k, b) => b / 64 == fn && k / 4096 == mDie fn)).map (fun (k, b) =>
    let slot := fun i => (Tbl.look KeySlot.reset (s.cipherOf (mDie fn)).slots (k % 4096 * 32 + i)).newer.seq
    toLe 1 (b % 64) ++ toLe 7 0 ++ (List.range 32).flatMap (fun i => toLe 8 (slot i)))

/-- The sections of a VF's snapshot in ascending TYPE. -/
def State.snapSections (s : State) (fn : Nat) : List (List Byte) :=
  let f := s.func fn
  let v := s.nvme fn
  let net := decide (fnPf fn = 0)
  let qs := s.queues.filter (fun (k, _) => k / 256 == fn)
  let qp := qs.map (fun (k, q) => q.snapRecord (k % 256))
  let held := if net then qs.flatMap (fun (k, q) => q.snapHeld (k % 256)) else v.cqs.flatMap (fun (n, c) => c.snapHeld n)
  let rss := (List.range 128).map (fun i => BitVec.ofNat 8 (Tbl.look 0 f.rss i))
  let dma := (s.busyChannels fn).map (fun (q, c) => c.snapRecord q)
  let nq := v.sqs.map (fun (n, q) => q.snapRecord n false) ++ v.cqs.map (fun (n, q) => q.snapRecord n true)
  let keys := s.snapKeys fn
  snapSection 1 1 f.snapAttributes ++ snapSection 2 qp.length qp.flatten ++ snapSection 3 held.length held.flatten
    ++ snapSection 4 (b2n net) rss ++ snapSection 5 f.vectorsInEffect f.snapMsix ++ snapSection 6 dma.length dma.flatten
    ++ snapSection 7 1 (s.fnBox fn).snapRecord ++ snapSection 8 (b2n (!net)) v.snapRecord
    ++ snapSection 9 nq.length nq.flatten ++ snapSection 10 keys.length keys.flatten

/-- The snapshot of a VF: header and sections (R495). -/
def State.snapshot (s : State) (fn : Nat) : List Byte :=
  let secs := s.snapSections fn
  let body := secs.flatten
  toLe 4 0x31504E53 ++ toLe 2 1 ++ toLe 1 (fnPf fn) ++ toLe 1 secs.length ++ toLe 4 (64 + body.length) ++ toLe 4 fn
    ++ toLe 4 s.journal.bootId ++ toLe 4 (s.chipIdent % 256) ++ toLe 8 s.journal.next ++ sha256 body ++ body

def runFuncSave (p : Packet) (s : State) : Answer :=
  match s.migTarget p 20 with
  | .error st => s.fails st
  | .ok fn =>
    let f := s.func fn
    let bs := s.snapshot fn
    if leAt p.params 4 4 ≠ 0 then s.fails stBadParam
    else if f.mig = .pausing ∧ f.halted = false then s.fails stBusy
    else if f.mig ≠ .paused then s.fails stWrongState
    else if leAt p.params 0x10 4 < bs.length then s.fails stNoResource
    else (s.hostWrite (pf0 (mDie fn)) (leAt p.params 8 8) bs).answers (toLe 4 bs.length ++ (bs.drop 0x20).take 32)

/-- FUNC_SAVE (R494). -/
def execFuncSave (p : Packet) (s : State) : Host.Outcome State Fault Refusal := runPlain 0x0E02 p runFuncSave s

/-! ## Restoring (R497) -/

/-- Bytes of one record of a section TYPE, and whether the kind of VF has it. -/
def snapSize (type : Nat) : Nat :=
  match type with
  | 1 => 80
  | 2 => 64
  | 3 => 40
  | 4 => 128
  | 6 => 72
  | 7 => 136
  | 8 => 64
  | 9 => 32
  | 10 => 264
  | _ => 0

def snapForKind (kind type : Nat) : Bool :=
  if kind = 0 then type != 8 && type != 9 else type != 2 && type != 4 && type != 6 && type != 10

/-- The sections of a snapshot: TYPE, COUNT, body; none where one is malformed. -/
def snapParse (kind last : Nat) (bs : List Byte) : Nat → Option (List (Nat × Nat × List Byte))
  | 0 => if bs.isEmpty then some [] else none
  | n + 1 =>
    let type := leAt bs 0 2
    let count := leAt bs 2 2
    let len := leAt bs 4 4
    let body := (bs.drop 8).take len
    let want := if type = 5 then 16 * count + 8 * ceilDiv count 64 else count * snapSize type
    let single := type == 1 || type == 4 || type == 7 || type == 8
    if bs.length < 8 + len ∨ type ≤ last ∨ 10 < type ∨ count = 0 ∨ len ≠ want ∨ snapForKind kind type = false
        ∨ (single = true ∧ count ≠ 1) then none
    else (snapParse kind type (bs.drop (8 + len)) n).map (fun l => (type, count, body) :: l)

/-- The records of a TYPE. -/
def snapRecords (l : List (Nat × Nat × List Byte)) (type : Nat) : List (List Byte) :=
  match l.find? (fun e => e.1 == type) with
  | some (_, n, b) => (List.range n).map (fun i => sub b (i * snapSize type) (snapSize type))
  | none => []

/-- The body of a TYPE with its count. -/
def snapBody (l : List (Nat × Nat × List Byte)) (type : Nat) : Option (Nat × List Byte) :=
  (l.find? (fun e => e.1 == type)).map (fun e => (e.2.1, e.2.2))

/-- A QUEUE_PAIR record holds a value that QUEUE_CREATE or QUEUE_SET_MAPPING would refuse, or a ring base outside the
windows. -/
def badQueueRecord (f : Func) (r : List Byte) : Bool :=
  let m := leAt r 3 1
  let create := sub r 0 3 ++ toLe 1 (m % 4) ++ (r.drop 4)
  let bc := leAt r 0x28 1
  let hs := leAt r 0x29 2
  let ic := leAt r 0x2B 2
  let pa := leAt r 0x2F 4
  let ch := leAt r 0x33 1
  let out := !f.inWindow (leAt r 8 8) (64 * 2 ^ (leAt r 2 1 % 16))
    || (m % 4 != 2 && !f.inWindow (leAt r 0x10 8) (32 * 2 ^ (leAt r 2 1 / 16)))
  badQueueParams create || decide (8 ≤ m) || decide (bc = 0) || decide (63 < bc) || decide (hs < 2) || decide (4096 < hs)
    || decide (ic = 0) || decide (4096 < ic) || decide (10000 < leAt r 0x2D 2) || decide (pa / 2 ^ 20 % 2 ^ 11 ≠ 0)
    || (decide (63 < ch) && ch != 0xFF) || !allZero (r.drop 0x34) || out

/-- Values of the other sections that the destination refuses: records of queues that the snapshot lacks, an RSS entry that
names no RX queue pair, an ATTRIBUTES record or a ring that no command would take. -/
def badRecords (f : Func) (l : List (Nat × Nat × List Byte)) : Bool :=
  let qs := snapRecords l 2
  let kindOf := fun n => (qs.find? (fun r => leAt r 0 1 == n)).map (fun r => leAt r 1 1)
  let dup := qs.any (fun r => decide ((qs.filter (fun x => leAt x 0 1 == leAt r 0 1)).length ≠ 1))
  let rss := match snapBody l 4 with
    | some (_, b) => !allZero b && b.any (fun x => kindOf x.toNat != some 1)
    | none => false
  let nq := snapRecords l 9
  let cqs := (nq.filter (fun r => bit (leAt r 2 2) 0)).map (fun r => leAt r 0 2)
  let heldBad := (snapRecords l 3).any (fun r =>
    leAt r 1 7 != 0 || (if (snapBody l 8).isSome then !cqs.contains (leAt r 0 1) else (kindOf (leAt r 0 1)).isNone))
  let dmaBad := (snapRecords l 6).any (fun r => kindOf (leAt r 0x46 1) != some 2 || leAt r 0x47 1 != 0)
  let nqBad := nq.any (fun r =>
    let e := if bit (leAt r 2 2) 0 then 16 else 64
    decide (leAt r 4 4 < 2) || !f.inWindow (leAt r 8 8) (e * leAt r 4 4) || decide (leAt r 4 4 ≤ leAt r 16 2)
      || decide (leAt r 4 4 ≤ leAt r 18 2) || (!bit (leAt r 2 2) 0 && !cqs.contains (leAt r 20 2)))
  let attr := (snapRecords l 1).any (fun r => (windowsOf r).isNone || decide (leAt r 0xC 4 < 64)
    || decide (196608 < leAt r 0xC 4) || leAt r 0 4 != 0 || leAt r 0xA 2 != 0)
  let box := (snapRecords l 7).any (fun r => decide (16 < leAt r 0 1) || leAt r 1 7 != 0)
  qs.any (badQueueRecord f) || dup || rss || heldBad || dmaBad || nqBad || attr || box

/-- Grants of the destination fall short of the snapshot (R497). -/
def State.restoreLacks (s : State) (fn : Nat) (l : List (Nat × Nat × List Byte)) : Bool :=
  let f := s.func fn
  let qs := snapRecords l 2
  let held := snapRecords l 3
  let dma := (qs.filter (fun r => leAt r 1 1 == 2)).length
  let attr := (snapRecords l 1).any (fun r => decide (f.queuePairs < leAt r 4 2) || decide (f.vectors < leAt r 6 2)
    || decide (f.dmaChannels < leAt r 8 1))
  let nCqs := ((snapRecords l 9).filter (fun r => bit (leAt r 2 2) 0)).length
  let vecs := ((snapBody l 5).map (fun e => e.1)).getD 0
  let share := qs.any (fun r => decide (leAt r 0x29 2 < (held.filter (fun h => leAt h 0 1 == leAt r 0 1)).length))
  attr || decide (f.queuePairs < qs.length + nCqs) || decide (f.vectorsInEffect < vecs) || decide ((s.freeDma fn).length < dma) || share
    || decide (s.sharedSlots (mDie fn) < 2 * (qs.length + nCqs) + held.length)

/-- Entries that a completion covers (Table 13.6). -/
def cplCovers (bs : List Byte) : Nat := if bit (leAt bs 3 1) 3 then leAt bs 18 2 else 1

/-- A queue pair re-created from its records: its held completions, and the descriptor in progress; what the host holds counts as
written now. -/
def restoreQueue (r : List Byte) (held : List (List Byte)) (dma : Option (List Byte)) (chan : Option Nat) (forced : Bool)
    (now : Nat) : QueuePair :=
  let m := leAt r 3 1
  let h := held.map (fun x => (x.drop 8, false, cplCovers (x.drop 8)))
  let sqHead := leAt r 0x20 2
  let next := (sqHead + (h.map (fun x => x.2.2)).sum) % 65536
  let run := match dma with
    | some d => [{ acceptEntry (d.take 64) [] next with frags := [], totalLen := 0, phase := EntryPhase.running }]
    | none => []
  let q := newQueue (sub r 0 3 ++ toLe 1 (m % 4) ++ r.drop 4) chan
  { q with
    armed := bit m 2, sqHead := sqHead, sqTail := leAt r 0x22 2, cqTail := leAt r 0x24 2, cqHead := leAt r 0x26 2,
    fetch := (next + run.length) % 65536, batchCount := leAt r 0x28 1, holdShare := leAt r 0x29 2, intCount := leAt r 0x2B 2,
    rxHoldUs := leAt r 0x2D 2, pasid := leAt r 0x2F 4, accepted := run, held := h, forced := forced,
    writtenAt := List.replicate (ringCount (leAt r 0x24 2) (leAt r 0x26 2)) now }

/-- One QUEUE_PAIR record applied: a DMA queue pair takes the lowest free channel of the function, which resumes its
descriptor once the VF is thawed. -/
def State.restoreOne (s : State) (fn : Nat) (l : List (Nat × Nat × List Byte)) (r : List Byte) : State :=
  let n := leAt r 0 1
  let dma := (snapRecords l 6).find? (fun d => leAt d 0x46 1 == n)
  let chan := if leAt r 1 1 = 2 then (s.freeDma fn).head? else none
  let held := (snapRecords l 3).filter (fun h => leAt h 0 1 == n)
  let s := s.setQueue fn n (restoreQueue r held dma chan (!s.canIssue fn) (s.dieTick (mDie fn)))
  match chan with
  | none => s
  | some c =>
    s.modDmaCh (dmaKey (mDie fn) c) (fun x =>
      match dma with
      | some d =>
        { x with binder := .queue fn n, busy := true, forced := true, elem := d.take 64, i0 := leAt d 0x40 2,
                 i1 := leAt d 0x42 2, i2 := leAt d 0x44 2, offset := 0, readBack := false }
      | none => { x with binder := .queue fn n })

/-- An MSIX section's table. -/
def restoreMsix (n : Nat) (b : List Byte) : Tbl MsixVec :=
  (List.range n).foldl (fun t v =>
    let e : MsixVec :=
      { address := leAt b (16 * v) 8, data := leAt b (16 * v + 8) 4, masked := bit (leAt b (16 * v + 12) 4) 0,
        pending := bit (leAt b (16 * n + v / 8) 1) (v % 8) }
    Tbl.put MsixVec.reset t v e) []

/-- A MAILBOX record's outbound queue. -/
def restoreBox (r : List Byte) : List MbxWord :=
  (List.range (leAt r 0 1)).map (fun i =>
    { word := BitVec.ofNat 32 (leAt r (8 + 8 * i) 4), stamp := leAt r (12 + 8 * i) 3, last := bit (leAt r (15 + 8 * i) 1) 0,
      collided := bit (leAt r (15 + 8 * i) 1) 1 })

/-- An NVME_QUEUE record's queue with its held completions. -/
def restoreNvmeQueue (r : List Byte) (held : List (List Byte)) : NvmeQueue :=
  let fl := leAt r 2 2
  { base := leAt r 8 8, size := leAt r 4 4, head := leAt r 16 2, tail := leAt r 18 2, peer := leAt r 20 2,
    intEnable := bit fl 2, phase := bit fl 1, retried := false,
    held := held.map (fun h => (leAt h 8 4, leAt h 16 2, leAt h 18 2, leAt h 20 2, leAt h 22 2 / 2)) }

/-- NVME_CONTROLLER and NVME_QUEUE records applied; the command identifiers of outstanding Asynchronous Event Requests are
not in a snapshot, and are free values (log 43). -/
def State.restoreNvme (s : State) (fn : Nat) (l : List (Nat × Nat × List Byte)) (r : List Byte) : State :=
  let qs := snapRecords l 9
  let held := fun n => (snapRecords l 3).filter (fun h => leAt h 0 1 == n)
  let table := fun (cq : Bool) => (qs.filter (fun q => bit (leAt q 2 2) 0 == cq)).foldl (fun (t : Tbl NvmeQueue) q =>
    Tbl.set t (leAt q 0 2) (restoreNvmeQueue q (if cq then held (leAt q 0 2) else []))) []
  let n := leAt r 0x28 4 % 65536
  let cids := (List.range n).map (fun i => (Config.freeValue (s.freeCtr + i)).toNat % 65536)
  let v : Nvme :=
    { Nvme.reset with
      cc := leAt r 0 4, csts := b2n (bit (leAt r 0 4) 0), aqa := leAt r 4 4, asq := leAt r 8 8, acq := leAt r 16 8,
      intms := leAt r 24 4, featQueues := leAt r 28 4, featCoalesce := leAt r 32 4, featAsync := leAt r 36 4,
      asyncReqs := cids, sqs := table false, cqs := table true }
  ({ s with freeCtr := s.freeCtr + n }).setNvme fn v

/-- A snapshot's state re-created in a PAUSED VF (R496, R497). -/
def State.restore (s : State) (fn : Nat) (l : List (Nat × Nat × List Byte)) : State :=
  let s := (snapRecords l 2).foldl (fun s r => s.restoreOne fn l r) s
  let s := (snapRecords l 1).foldl (fun s r =>
    (s.modFunc fn (fun f => { f with windows := (windowsOf r).getD [] })).setBudget fn (leAt r 0xC 4)) s
  let s := s.rewriteRss fn
  let s := match snapBody l 4 with
    | some (_, b) =>
      let t := (List.range 128).foldl (fun (t : Tbl Nat) i => Tbl.put 0 t i (leAt b i 1)) []
      s.modFunc fn (fun f => { f with rss := t, rssWritten := decide (t ≠ f.rss) })
    | none => s
  let s := match snapBody l 5 with
    | some (n, b) => s.modFunc fn (fun f => { f with msix := restoreMsix n b })
    | none => s
  let s := (snapRecords l 7).foldl (fun s r => s.modFnBox fn (fun x => { x with outbound := restoreBox r })) s
  (snapRecords l 8).foldl (fun s r => s.restoreNvme fn l r) s

def runFuncRestore (p : Packet) (s : State) : Answer :=
  match s.migTarget p 20 with
  | .error st => s.fails st
  | .ok fn =>
    let f := s.func fn
    let owner := pf0 (mDie fn)
    let len := leAt p.params 0x10 4
    let bs := s.hostRead owner (leAt p.params 8 8) len
    let n := leAt bs 8 4
    let secs := snapParse (fnPf fn) 0 ((bs.take n).drop 64) (leAt bs 7 1)
    if leAt p.params 4 4 ≠ 0 then s.fails stBadParam
    else if f.mig ≠ .paused ∨ s.pairsHeld fn ≠ 0 then s.fails stWrongState
    else if s.canIssue owner = false then s.fails stDeviceFault
    else if len < 64 ∨ leAt bs 0 4 ≠ 0x31504E53 ∨ leAt bs 4 2 ≠ 1 ∨ leAt bs 6 1 ≠ fnPf fn ∨ n < 64 ∨ len < n
        ∨ leAt bs 0x14 4 ≠ s.chipIdent % 256 ∨ (bs.drop 0x20).take 32 ≠ sha256 ((bs.take n).drop 64) then s.fails stBadParam
    else
      match secs with
      | none => s.fails stBadParam
      | some l =>
        if badRecords f l then s.fails stBadParam
        else if s.restoreLacks fn l then s.fails stNoResource
        else (s.restore fn l).answers []

/-- FUNC_RESTORE (R497). -/
def execFuncRestore (p : Packet) (s : State) : Host.Outcome State Fault Refusal := runPlain 0x0E03 p runFuncRestore s

/-! ## Thawing (R498) -/

/-- The VF runs again: channels leave their forced pause, held completions are written, fetching resumes. -/
def State.thaw (s : State) (fn : Nat) : State :=
  let s := s.modFunc fn (fun f => { f with mig := .running })
  let s := if s.canIssue fn then s.forcePause fn false else s
  let s := (s.queuesOf fn).foldl (fun s q => s.writeCompletions fn q (((s.queue? fn q).map (fun x => x.held.length)).getD 0)) s
  let s := (s.queuesOf fn).foldl (fun s q => s.startQueueDma fn q) s
  (if fnPf fn = 1 then s.nvmeDrainAll fn else s).refetch fn

def runFuncThaw (p : Packet) (s : State) : Answer :=
  match s.migTarget p 4 with
  | .error st => s.fails st
  | .ok fn => if (s.func fn).mig = .running then s.fails stWrongState else (s.thaw fn).answers []

/-- FUNC_THAW (R498). -/
def execFuncThaw (p : Packet) (s : State) : Host.Outcome State Fault Refusal := runPlain 0x0E04 p runFuncThaw s

end Sys2Proof.Machine
end

