-- ==== Sys2Proof/Machine/Failover.lean ====
section
/-! DEFINITION. Dies out of service, reachability, castling, mirroring, and the clocks and management pairs whose loss removes
a die (spec/19 R588–R601): table rows 19, 21, 362, 364–369, 372. -/

namespace Sys2Proof.Machine

/-! ## Loads on the Dunyth links -/

/-- A message that will not arrive: the cells of a packet, in TRANSIT on its source die, are freed (R617). -/
def State.loseLoad (s : State) (m : MsgPart) : State :=
  match m.load with
  | some (.packet p) => (s.arriveCells m.src p.cells).ingSub m.src p.ingKey p.cells
  | _ => s

/-- A part of a message that waits at a die is put on the route it now has (R25–R27). -/
def State.reroutePart (s : State) (die chan : Nat) (detour : Bool) (m : MsgPart) : State :=
  match s.nextHop die m.dst (detour || m.detoured) with
  | none => s.loseLoad m
  | some (k, det) =>
    let lane := detour || m.detoured
    s.modLaneOf (laneKey die k chan lane) (fun x => { x with sendQ := x.sendQ ++ [{ m with detoured := det || lane }] })

/-- The parts of messages that a lane holds, oldest first. -/
def Lane.parts (x : Lane) : List MsgPart := x.buffer.flatMap (fun f => f.parts) ++ x.sendQ

/-- Parts of the key of a lane: sending die, dimension, channel, detour lane. -/
def laneDie (k : Nat) : Nat := k / 24
def laneDim (k : Nat) : Nat := k / 8 % 3
def laneChan (k : Nat) : Nat := k / 2 % 4
def laneDetour (k : Nat) : Bool := k % 2 == 1

/-- A link has gone out of service: nothing on it is dropped (R30), so its loads take their new routes from the sending end
(log 44). -/
def State.emptyLink (s : State) (die dim : Nat) : State :=
  let hit := s.fabric.filter (fun (k, _) => laneDim k == dim && (laneDie k == die || laneDie k == die ^^^ 2 ^ dim))
  let s := { s with fabric := s.fabric.filter (fun (k, _) => !(laneDim k == dim && (laneDie k == die || laneDie k == die ^^^ 2 ^ dim))) }
  hit.foldl (fun s (k, x) => x.parts.foldl (fun s m => s.reroutePart (laneDie k) (laneChan k) (laneDetour k) m) s) s

/-- What a removed die takes with it: all it had sent or was to forward, and all that was for it. A message of which a part is lost
is lost whole. What its neighbours were still to send through it takes another route. -/
def State.emptyDie (s : State) (d : Nat) : State :=
  let all := s.fabric
  let toDie := fun (k : Nat) => laneDie k ^^^ 2 ^ laneDim k == d
  let gone := all.flatMap (fun (k, x) =>
    (if laneDie k = d then x.parts
     else x.parts.filter (fun m => m.dst == d) ++ (if toDie k then x.buffer.flatMap (fun f => f.parts) else [])).map (fun m => m.msg))
  let keep := fun (m : MsgPart) => !gone.contains m.msg
  let s := { s with
    fabric := all.filterMap (fun (k, x) =>
      let y : Lane := { x with sendQ := x.sendQ.filter keep, buffer := x.buffer.map (fun f => { f with parts := f.parts.filter keep }) }
      if laneDie k == d || toDie k || decide (y = Lane.reset) then none else some (k, y)),
    linkEnds := s.linkEnds.filter (fun e => e.1 / 3 != d) }
  let s := (all.flatMap (fun e => e.2.parts.filter (fun m => !keep m))).foldl State.loseLoad s
  all.foldl (fun s (k, x) =>
    if laneDie k ≠ d ∧ toDie k = true then
      (x.sendQ.filter keep).foldl (fun s m => s.reroutePart (laneDie k) (laneChan k) (laneDetour k) m) s
    else s) s

/-! ## What a removal changes (Table 19.4) -/

/-- Cells of a queued packet back in PIPELINE. -/
def State.requeueCells (s : State) (d n : Nat) : State :=
  s.modTm d (fun t => { t with queued := t.queued - n, pipeline := t.pipeline + min n t.queued })

/-- A packet of a fabric queue for a die that left: to the twin, or dropped with DEST_DIE_DOWN (R288). -/
def State.redirect (s : State) (die : Nat) (p : TmPkt) : State :=
  let s := s.requeueCells die p.cells
  let (dest, t) := s.resolve p.dest p.hash
  if s.dieWorks t then
    let p := { p with dest := dest }
    if t = die then s.deliverHere die p else s.fabricEnqueue die t p
  else s.dropPkt die drDieDown p

/-- The fabric queue of a die for a removed die is emptied, and its fabric pauses lapse. -/
def State.dropFabricQueue (s : State) (die gone : Nat) : State :=
  let lanes := (s.tm die).lanes.filter (fun (k, _) => k / 8 == gone)
  let s := s.modTm die (fun t =>
    { t with lanes := t.lanes.filter (fun (k, _) => k / 8 != gone), lanePtr := Tbl.del t.lanePtr gone,
             pausedByDest := Tbl.del t.pausedByDest gone, pausingSource := Tbl.del t.pausingSource gone })
  lanes.foldl (fun s (_, l) => l.queue.foldl (fun s p => s.redirect die p) s) s

/-- What die `d` alone held, part one: its link, functions and rings. -/
def State.forgetLink (s : State) (d : Nat) : State :=
  let here := fun (fn : Nat) => mDie fn != d
  let l := s.link d
  let s := s.setLink d { Link.reset with perst := l.perst, nonce := l.nonce, wakeFrame := l.wakeFrame, surpriseDown := decide (l.speed ≠ 0) }
  { s with
    funcs := s.funcs.filter (fun e => here e.1), queues := s.queues.filter (fun e => here (e.1 / 256)),
    nvmes := s.nvmes.filter (fun e => here e.1), fnMbx := s.fnMbx.filter (fun e => here e.1),
    agentMbx := s.agentMbx.filter (fun e => e.1 / 256 != d), cmdqs := Tbl.del s.cmdqs d,
    tags := s.tags.filter (fun e => e.1 / 32768 != d), channels := s.channels.filter (fun e => e.1 / 64 != d),
    storages := Tbl.del s.storages d, ciphers := Tbl.del s.ciphers d, partitions := s.partitions.filter (fun e => e.1 / 2 != d),
    protect := { s.protect with keyPages := s.protect.keyPages.filter (fun e => e.1 / 4096 != d) } }

/-- What die `d` alone held, part two: its ports, tables, traffic manager, threads and sequencers, and its error latches. Its DIE_TEMP
keeps the values it held (R640). -/
def State.forgetBlocks (s : State) (d : Nat) : State :=
  { s with
    ports := s.ports.filter (fun e => e.1 / 8 != d), portBlocks := Tbl.del s.portBlocks d, pipes := Tbl.del s.pipes d,
    flight := s.flight.filter (fun e => e.2.die != d), tms := Tbl.del s.tms d, pods := s.pods.filter (fun e => e.1 / 6 != d),
    threads := s.threads.filter (fun e => e.1 / 432 != d), locks := s.locks.filter (fun e => e.1 / 384 != d),
    chans := s.chans.filter (fun e => e.1 / 1536 != d), seqs := s.seqs.filter (fun e => e.1 / 16 != d),
    contexts := s.contexts.filter (fun e => e.1 / 262144 != d), seqCounters := s.seqCounters.filter (fun e => e.1 / 4 != d),
    dram := s.dram.filter (fun e => e.1 / 4 != d), sram := s.sram.filter (fun e => e.1 / 32 != d),
    ledgers := Tbl.del s.ledgers d,
    errors := { s.errors with latched := s.errors.latched.filter (fun l => l.die != d) } }

/-- Twin pairs with a member on die `d` deliver to the other member (R489, R490). -/
def State.loseTwins (s : State) (d : Nat) : State :=
  { s with twins := s.twins.map (fun (k, t) =>
      (k, (({ t with seenA := t.seenA && mDie t.memberA != d, seenB := t.seenB && mDie t.memberB != d } : TwinPair)).settle)) }

/-- Die-scope proposals for die `d` are WITHDRAWN (Table 05.6). -/
def State.withdrawFor (s : State) (d : Nat) : State :=
  { s with protect := { s.protect with proposals := s.protect.proposals.map (fun (k, q) =>
      (k, if dieScope q.kind && q.scope == d && decide (q.refusal = none) then { q with state := .withdrawn } else q)) } }

/-- Changes staged for a die that left service lapse (R341, R653, Table 09.8). The inactive bank is no die's own. -/
def State.lapseStaged (s : State) (d : Nat) : State :=
  let keep := fun (e : Nat × Nat) => objDie e.1 != d || objKind e.1 == objBank
  { s with tempo := { s.tempo with txns := s.tempo.txns.map (fun (n, t) =>
      (n, { t with staged := t.staged.map (fun c => { c with objects := c.objects.filter keep }) })) } }

/-- A named die other than the lead leaves service during phase one: the commit goes on for the others (R334). -/
def State.commitWithout (s : State) (d : Nat) : State :=
  match s.tempo.inProgress with
  | none => s
  | some c =>
    if c.committed || !bit c.waiting d || d == s.roles.lead then s
    else
      let c := { c with waiting := setBit c.waiting d false }
      if c.waiting ≠ 0 then s.setCommit (some c)
      else match c.failed with
        | some (j, st) => s.undoCommit c j st
        | none => s.commitPoint c

/-! ## Roles (R597–R602) -/

/-- The package stops; the lowest-numbered working die decides it (R602). -/
def State.stopFor (s : State) (reason : Nat) : State := s.packageStop reason ((s.workingDies.head?).getD 0)

/-- Roles after die `d` has left: the package stops, the lead is gone until CASTLING, or the lead appoints and fills another
mirror (R598, R600, R602). -/
def State.rolesWithout (s : State) (d : Nat) (filled : Bool) : State :=
  let r := s.roles
  if bit r.failed 0 && bit r.failed 1 then s.stopFor 2
  else if bit r.failed r.lead && r.lead != d then (if r.mirror = d then s.stopFor 1 else s)
  else if r.lead = d then
    if r.mirror = d ∨ filled = false ∨ bit r.failed r.mirror = true then s.stopFor 1 else s
  else if r.mirror = d then
    let s := s.appoint r.lead
    { s with roles := { s.roles with filled := s.roles.mirror == s.roles.lead, unreachable := false } }
  else s

/-- Routes through a removed die detour: each neighbour reports its link (R26, R27). -/
def State.detourRecords (s : State) (d : Nat) : State :=
  if 2 ≤ s.workingDies.length then
    (List.range s.boot.part.dims).foldl (fun s k =>
      let n := d ^^^ 2 ^ k
      if s.dieWorks n then s.raise 0x0901 sevDegraded 0 n (n * 4 + k) 0 0 else s) s
  else s

/-- One die leaves service (R596). -/
def State.removeOne (s : State) (d reason : Nat) : State :=
  if !s.dieWorks d || s.boot.stopped then s
  else
    let filled := s.roles.filled
    let s := { s with roles := { s.roles with failed := setBit s.roles.failed d true,
                                              moveTo := if s.roles.moveTo = some d then none else s.roles.moveTo } }
    let s := s.modDieHealth d (fun h => { h with condemned := none })
    let next := s.errors.next
    let s := s.recordNow 0x0A01 sevDieFatal 0 d 0 reason 0
    let s := if reason = 5 then
        { s with errors := { s.errors with records := s.errors.records.map (fun r => if next ≤ r.ersn then { r with injected := true } else r) } }
      else s
    let s := (List.range 8).foldl (fun s i => s.portDown (8 * d + i)) s
    let s := (s.forgetLink d).forgetBlocks d
    let s := (s.loseTwins d).withdrawFor d
    let s := (s.emptyDie d).forgetBlocks d
    let s := s.workingDies.foldl (fun s w => s.dropFabricQueue w d) s
    let s := ((s.lapseStaged d).commitWithout d).settlePatch
    let s := s.detourRecords d
    (s.rolesWithout d filled).mirrorCheck

/-- A message from one die reaches another by the routes of R21 and R26: at most one detour hop (R595). -/
def State.reaches (s : State) : Nat → Nat → Nat → Bool → Bool
  | 0, _, _, _ => false
  | n + 1, a, b, detoured =>
    if a = b then true
    else match s.nextHop a b detoured with
      | none => false
      | some (k, det) => s.reaches n (a ^^^ 2 ^ k) b (detoured || det)

/-- The highest-numbered die, neither LEAD nor BUDDY, of a pair of working dies of which one cannot reach the other. -/
def State.isolated (s : State) : Option Nat :=
  let ws := s.workingDies
  let cut := fun (a b : Nat) => !(s.reaches 8 a b false && s.reaches 8 b a false)
  let spare := fun (a : Nat) => a != s.roles.lead && a != s.roles.lead ^^^ 1
  (ws.filter (fun a => spare a && ws.any (fun b => a != b && cut a b))).reverse.head?

/-- While some pair cannot reach each other, such dies leave service with reason 3 (R595). -/
def State.reachability (s : State) : Nat → State
  | 0 => s
  | n + 1 =>
    if s.boot.stopped || s.leadGone then s
    else match s.isolated with
      | none => s
      | some d => (s.removeOne d 3).reachability n

/-- A die leaves service, and the check of reachability follows (R595, R596). -/
def State.removeDie (s : State) (d reason : Nat) : State := (s.removeOne d reason).reachability 8

/-- DIE_REMOVAL (R596): with the reason that was decided for the die, or the one the row gives. -/
def execDieRemoval (die reason : Nat) (s : State) : Host.Outcome State Fault Refusal :=
  if s.live die then .next (s.removeDie die ((s.dieHealth die).condemned.getD reason)) else .next s

/-- The tick of the die that watches a die for silence: the lead, or the mirroring die where it is the lead (R594). -/
def State.watchTick (s : State) (die : Nat) : Nat := s.dieTick (if die = s.roles.lead then s.roles.mirror else s.roles.lead)

/-- A die is silent: its alive bit has been clear in 5 successive tokens, or no heartbeat has come for 100 µs (R594). -/
def State.silent (s : State) (die : Nat) : Bool :=
  let h := s.dieHealth die
  decide (5 ≤ h.aliveMisses) || decide (h.beatTick + 100 * ticksPerUs ≤ s.watchTick die)

/-- DIE_SILENT (R594): the removal of a silent die is decided, with reason 2. -/
def execDieSilent (die : Nat) (s : State) : Host.Outcome State Fault Refusal :=
  if s.live die && s.silent die then .next (s.modDieHealth die (fun h => { h with condemned := some (h.condemned.getD 2) })) else .next s

/-- DIE_HEARTBEAT (R593, R594): a heartbeat of the die has come over the fabric (`none`), or a token of the die chain with its
alive bit. The fifth token in succession with that bit clear decides its removal (log 46). -/
def execDieHeartbeat (die : Nat) (alive : Option Nat) (s : State) : Host.Outcome State Fault Refusal :=
  if s.live die then
    let h := s.dieHealth die
    match alive with
    | none => .next (s.setDieHealth die { h with beatTick := s.watchTick die })
    | some bit =>
      let n := if bit = 0 then h.aliveMisses + 1 else 0
      .next (s.setDieHealth die { h with aliveMisses := n, condemned := if 5 ≤ n then some (h.condemned.getD 2) else h.condemned })
  else .next s

/-! ## Castling and mirroring -/

/-- The reply to a packet is not sent: its sender resubmits (R597). -/
def Packet.unanswered (p : Packet) : Packet := { p with route := .chain (2 ^ 16) }

/-- Commits at castling (R334): one before its commit point is as it was before TXN_COMMIT, one after it is completed and its
sender, who resubmits, is not answered. -/
def State.castCommit (s : State) : State :=
  match s.tempo.inProgress with
  | none => s
  | some c =>
    let calm := fun (e : Nat × Pipe) => (e.1, { e.2 with commitWait := false })
    let s := { s with pipes := s.pipes.map calm }
    match Tbl.find s.tempo.txns c.txn with
    | some t =>
      if c.committed then s.setTxn c.txn { t with commitCmd := none }
      else if t.commitPoint then s.setCommit none
      else (s.setTxn c.txn { t with state := .opened, commitCmd := none, instant := 0 }).setCommit none
    | none =>
      if c.committed then
        match c.single with
        | some x => s.setCommit (some { c with single := some { x with packet := x.packet.unanswered } })
        | none => s
      else s.setCommit none

/-- A die takes the lead role: PKG_ROLES, the mirror of R32, the time reference, and the firmware event (R32, R34, R385,
Table 04.9). A recorded move of the lead to another die stays to be completed (R150, Table 05.6). -/
def State.takeLead (s : State) (d : Nat) : State :=
  let s := s.appoint d
  let s := { s with roles := { s.roles with castlings := s.roles.castlings + 1, unreachable := false,
                                            moveTo := if s.roles.moveTo = some d then none else s.roles.moveTo },
                    timeModel := { s.timeModel with refDie := d } }
  s.firmwareEntry (eventCastling d)

/-- CASTLING (R597): forwarded commands that were not recorded are discarded, and the new mirror is to be filled (R598). -/
def execCastling (s : State) : Host.Outcome State Fault Refusal :=
  if s.ready && s.leadGone && s.dieWorks s.roles.mirror then
    let s := { s with journal := { s.journal with entries := s.journal.copy, waiting := [], buffered := [] },
                      patch := { s.patch with waiting := s.patch.waiting.map Packet.unanswered } }
    let s := (s.castCommit).takeLead s.roles.mirror
    let s := { s with roles := { s.roles with filled := s.roles.mirror == s.roles.lead } }
    .next (s.reachability 8)
  else .next s

/-- MIRROR_UNREACHABLE (R599): no heartbeat of the mirroring die for 100 µs while the die chain shows it alive: the lead stops deciding, and the mirroring die decides its removal with reason 2. -/
def execMirrorUnreachable (s : State) : Host.Outcome State Fault Refusal :=
  let r := s.roles
  let h := s.dieHealth r.mirror
  if s.live r.lead && s.dieWorks r.mirror && r.mirror != r.lead && decide (h.aliveMisses < 5)
    && decide (h.beatTick + 100 * ticksPerUs ≤ s.dieTick r.lead) then
    let s := { s with roles := { r with unreachable := true } }
    .next (s.modDieHealth r.lead (fun h => { h with condemned := some 2 }))
  else .next s

/-- The mirroring die holds the journal, and all else that R598 fills it with. -/
def State.fillMirror (s : State) : State :=
  { s with roles := { s.roles with filled := true },
           journal := { s.journal with copy := if s.roles.mirror = s.roles.lead then [] else s.journal.entries } }

/-- MIRROR_FILL_DONE (R176, R598): the mirror is filled, or NEW_LEAD and its mirror are, and the role moves. -/
def execMirrorFillDone (s : State) : Host.Outcome State Fault Refusal :=
  if s.live s.roles.lead then
    match s.roles.moveTo with
    | some d => .next (s.takeLead d).fillMirror
    | none => .next s.fillMirror
  else .next s

/-! ## Links, clocks and management pairs -/

/-- DUNYTH_LINK_OUT_OF_SERVICE (R26, R27, R595). -/
def execDunythLinkOutOfService (die dim : Nat) (s : State) : Host.Outcome State Fault Refusal :=
  if s.ready && s.dunythUp die dim then
    let s := s.modDieHealth die (fun h => { h with linkDown := setBit h.linkDown dim true })
    let s := (s.emptyLink die dim).raise 0x0901 sevDegraded 0 die (die * 4 + dim) 0 0
    .next (s.reachability 8)
  else .next s

/-- The active root PLL of a die loses lock (R590). -/
def State.pllLost (s : State) (die : Nat) (standbyOk : Bool) : State :=
  let h := s.dieHealth die
  if standbyOk && !h.otherPllLost then
    (s.setDieHealth die { h with onStandbyPll := !h.onStandbyPll, otherPllLost := true }).raise 0x0905 sevDegraded 0 die 0 0 0
  else s.removeDie die 1

/-- PLL_LOCK_LOSS (R590). -/
def execPllLockLoss (die : Nat) (standbyOk : Bool) (s : State) : Host.Outcome State Fault Refusal :=
  .next (if s.live die then s.pllLost die standbyOk else s)

/-- THERMAL_TRIP (R592): THERMTRIP_N is asserted and the die leaves service with reason 4. -/
def execThermalTrip (die : Nat) (s : State) : Host.Outcome State Fault Refusal :=
  if s.dieWorks die then .next ({ s with boot := { s.boot with thermtrip := true } }.removeDie die 4) else .next s

/-- A mismatch of a management pair (R588, R589): the pair restarts; a second mismatch within 1 s of a restart removes the die. -/
def State.pairMismatch (s : State) (die : Nat) : State :=
  let h := s.dieHealth die
  let again := match h.pairRestartTick with
    | some t => decide (s.tickAt die < t + ticksPerSec)
    | none => false
  if h.pairRestarting then s
  else if again then s.removeDie die 1
  else s.setDieHealth die { h with pairRestarting := true }

/-- LOCKSTEP_MISMATCH (R588). -/
def execLockstepMismatch (die : Nat) (s : State) : Host.Outcome State Fault Refusal :=
  .next (if s.live die then s.pairMismatch die else s)

end Sys2Proof.Machine
end

