-- ==== Sys2Proof/Machine/Errors.lean ====
section
/-! DEFINITION. Error records, memory codes, ledgers and their audits (spec/19 R573–R587, spec/20 R613–R617): table rows
351–361. -/

namespace Sys2Proof.Machine

/-! ## The record queue (R574–R583) -/

/-- ERROR_ACK's effect (R575). -/
def runErrorAck (p : Packet) (s : State) : Answer :=
  let n := leAt p.params 0 8
  let e := s.errors
  if p.paramLen ≠ 8 ∨ e.next ≤ n then s.fails stBadParam
  else if n < e.first then s.answers []
  else
    { s with errors := { e with records := e.records.filter (fun r => decide (n < r.ersn)), first := n + 1,
                                handling := e.handling.filter (fun k => decide (n < k)) } }.answers []

/-- ERROR_ACK (R575). -/
def execErrorAck (p : Packet) (s : State) : Host.Outcome State Fault Refusal := runPlain 0x0D01 p runErrorAck s

/-- ERROR_QUERY's answer (R582). -/
def runErrorQuery (p : Packet) (s : State) : Answer :=
  let b := p.params
  let first := leAt b 0 8
  let count := leAt b 8 1
  let least := leAt b 9 1
  if p.paramLen ≠ 12 ∨ count = 0 ∨ 14 < count ∨ 4 < least ∨ leAt b 0x0A 2 ≠ 0 then s.fails stBadParam
  else
    let rs := (s.errors.records.filter (fun r => decide (first ≤ r.ersn) && decide (least ≤ r.severity))).take count
    s.answers (toLe 8 s.errors.first ++ toLe 8 s.errors.next ++ rs.flatMap ErrRecord.bytes)

/-- ERROR_QUERY (R582). -/
def execErrorQuery (p : Packet) (s : State) : Host.Outcome State Fault Refusal := runPlain 0x0D03 p runErrorQuery s

/-- The latched error that firmware handles next: the highest severity, and the earliest within it (R578). -/
def nextLatched (l : List Latched) : Option Latched :=
  l.foldl (fun a e => match a with
    | none => some e
    | some x => if x.severity < e.severity then some e else some x) none

/-- The severity of the record in hand. -/
def Errors.inHand (e : Errors) : Option Nat :=
  (e.handling.head?).bind (fun n => (e.records.find? (fun r => r.ersn == n)).map (fun r => r.severity))

/-- Handling begins: the record is created, or the one of its area coalesces (R577, R578). -/
def State.beginHandling (s : State) (l : Latched) : State :=
  let s := { s with errors := { s.errors with latched := s.errors.latched.filter (fun x => !x.sameArea l) } }
  let (s, n) := s.makeRecord l false
  match n with
  | none => s
  | some k => { s with errors := { s.errors with handling := k :: s.errors.handling.filter (fun m => m != k) } }

/-- Handling ends: HANDLED is set, and a handler that was pre-empted resumes with PREEMPTED in its record (R579). -/
def State.endHandling (s : State) : State :=
  match s.errors.handling with
  | [] => s
  | k :: rest =>
    let back := rest.head?
    let mark := fun (r : ErrRecord) =>
      if r.ersn = k then { r with handled := true }
      else if back = some r.ersn then { r with preempted := true } else r
    { s with errors := { s.errors with records := s.errors.records.map mark, handling := rest } }

/-- ERROR_HANDLE (R578, R579): firmware takes up the next latched error, if nothing of its severity or higher is in hand, or
(with `done`) has finished the one in hand. -/
def execErrorHandle (done : Bool) (s : State) : Host.Outcome State Fault Refusal :=
  if s.ready && !s.leadGone then
    if done then .next s.endHandling
    else match nextLatched s.errors.latched with
      | none => .next s
      | some l =>
        if s.errors.inHand.any (fun v => decide (l.severity ≤ v)) then .next s else .next (s.beginHandling l)
  else .next s

/-- RECORD_CLOSE (R577): a record whose area has seen no repeat for 1 s. -/
def execRecordClose (ersn : Nat) (s : State) : Host.Outcome State Fault Refusal :=
  .next { s with errors := { s.errors with records := s.errors.records.map (fun r =>
    if r.ersn = ersn && r.quiet s.nowNs then { r with isOpen := false } else r) } }

/-! ## SRAM and DRAM (R584–R587) -/

/-- Key of an SRAM bank. Bank 32 stands for the store of the key slots, which is in none of the 32 banks; its row is the slot
(log 45). -/
def bankKey (die bank : Nat) : Nat := die * 32 + bank

/-- One of the keys of a table, by a number drawn. -/
def pickKey (l : List Nat) (r : Nat) : Option Nat := l[r % l.length]?

/-- A datapath block that cannot be corrected: a packet in its cell is dropped with NO_BUFFER (R584). Which packet holds the
cell is not the model's to know: one is drawn (log 45). -/
def State.cellFault (s : State) (die path cell : Nat) : State :=
  let held := (s.flight.filter (fun (_, k) => k.die == die && decide (k.phase = .hold))).map (fun e => e.1)
  let (r, s) := s.draw 32
  let s := match (pickKey held r).bind (fun id => (Tbl.find s.flight id).map (fun k => (id, k))) with
    | some (id, k) => s.dropInFlight id k k.cells drNoBuffer
    | none => s
  s.raise 0x0804 sevDegraded 0 die path cell 0

/-- A verify unit that cannot be corrected: its unit is treated as failed (R418, R411). -/
def State.verifyFault (s : State) (die row : Nat) : State :=
  let held := ((s.cipherOf die).units.filter (fun (_, u) => decide (u.phase = .verified))).map (fun e => e.1)
  let (r, s) := s.draw 32
  let s := match (pickKey held r).bind (fun k => (s.cipherUnit die k).map (fun u => (k, u))) with
    | some (k, u) => s.tagFails die k u
    | none => s
  s.raise 0x0401 sevDegraded 0 die 0 row 0

/-- A key slot that cannot be corrected: the version visible becomes FAULTED, and its units are dropped (R418). -/
def State.keyFault (s : State) (die slot : Nat) : State :=
  let k := s.keySlot die slot
  match k.at s.tempo.current with
  | none => s
  | some v =>
    let s := s.setKeySlot die slot (k.modVersion v.born (fun v => { v with state := .faulted }))
    let units := (s.cipherOf die).units.filter (fun (_, u) => u.slot == slot && u.born == v.born && decide (u.phase ≠ .waiting))
    let s := units.foldl (fun s (n, u) => s.keyGone die n u) s
    s.raise 0x0402 sevDegraded 0 die slot 0 0

/-- The reader's rule for a block of a bank that cannot be corrected (R584, Table 01.2). Lookups, action memory and the control
store meet theirs in the rows that read them. -/
def State.sramFails (s : State) (die bank row : Nat) : State :=
  if bank < 12 then s.cellFault die bank row
  else if bank < 24 then s
  else if bank < 28 then s.modSramBank (bankKey die bank) (fun b => { b with failNext := true })
  else if bank < 30 then s.verifyFault die row
  else if bank = 32 then s.keyFault die row
  else s

/-- A row that has to be replaced (R585). -/
def SramBank.blame (b : SramBank) (row : Nat) : SramBank :=
  { b with faulty := if b.faulty.contains row then b.faulty else b.faulty ++ [row] }

/-- A read of an SRAM row is corrected, or cannot be (R584, R585). -/
def State.sramError (s : State) (die bank row : Nat) (corrected : Bool) : State :=
  if corrected then
    let s := if bank < 32 then
        s.modSramBank (bankKey die bank) (fun b =>
          let b := { b with suspects := if b.suspects.contains row then b.suspects else b.suspects ++ [row] }
          if b.lastPass.contains row then b.blame row else b)
      else s
    s.raise 0x0801 sevCorrected 0 die bank row 0
  else
    let s := if bank < 32 then s.modSramBank (bankKey die bank) (fun b => b.blame row) else s
    (s.raise 0x0802 sevDegraded 0 die bank row 0).sramFails die bank row

/-- SRAM_READ_ERROR (R584). -/
def execSramReadError (die bank row : Nat) (corrected : Bool) (s : State) : Host.Outcome State Fault Refusal :=
  .next (if s.live die && decide (bank ≤ 32) then s.sramError die bank row corrected else s)

/-- A bank's last spare row is in use (R585). -/
def State.rowsOut (s : State) (die bank : Nat) : State :=
  (s.modSramBank (bankKey die bank) (fun b => { b with sparesUsed := 16, exhausted := true })).raise 0x0803 sevDegraded 0 die bank 0 0

/-- ROW_SPARE (R585). -/
def execRowSpare (die bank row : Nat) (s : State) : Host.Outcome State Fault Refusal :=
  let k := bankKey die bank
  let b := s.sramBank k
  if s.live die && decide (bank < 32) && b.faulty.contains row && decide (b.sparesUsed < 16) then
    let s := s.setSramBank k { b with
      sparesUsed := b.sparesUsed + 1, faulty := b.faulty.filter (fun r => r != row),
      suspects := b.suspects.filter (fun r => r != row), lastPass := b.lastPass.filter (fun r => r != row) }
    .next (if b.sparesUsed + 1 = 16 then s.rowsOut die bank else s)
  else .next s

/-- A device of a sub-channel is marked, if none is (R586). -/
def State.markDevice (s : State) (die sub device : Nat) : State :=
  let k := die * 4 + sub
  let m := s.dramMark k
  if m.marked then s
  else (s.setDramMark k { m with marked := true, device := device, recent := [] }).raise 0x0806 sevDegraded 0 die sub device 0

/-- A read of a DRAM line is corrected, or cannot be (R586). Erasures of a marked device need no correction of their own. -/
def State.dramError (s : State) (die sub device line : Nat) (corrected : Bool) : State :=
  let k := die * 4 + sub
  let m := s.dramMark k
  if corrected then
    if m.marked && m.device == device then s
    else
      let now := s.tickAt die
      let fresh := m.recent.filter (fun (d, l, t) => decide (now < t + ticksPerSec) && !(d == device && l == line))
      let recent := fresh ++ [(device, line, now)]
      let n := (recent.filter (fun (d, _, _) => d == device)).length
      let s := s.setDramMark k { m with corrected := satAdd 0xFFFFFFFF m.corrected 1, recent := recent }
      let s := s.raise 0x0805 sevCorrected 0 die sub line 0
      if 256 ≤ n then s.markDevice die sub device else s
  else
    let s := s.setDramMark k { m with badLines := if m.badLines.contains line then m.badLines else m.badLines ++ [line] }
    s.raise 0x0807 sevDegraded 0 die sub line 0

/-- DRAM_READ_ERROR (R586). -/
def execDramReadError (die subchannel device line : Nat) (corrected : Bool) (s : State) : Host.Outcome State Fault Refusal :=
  .next (if s.live die && decide (subchannel < 4) && decide (device < 5) then s.dramError die subchannel device line corrected else s)

/-- PATROL_SCRUB (R585, R587): a pass ends, and the rows it had to correct are those of the last pass from now on. What a scrub
finds comes as SRAM_READ_ERROR and DRAM_READ_ERROR. -/
def execPatrolScrub (die : Nat) (s : State) : Host.Outcome State Fault Refusal :=
  if s.live die then
    .next ((List.range 32).foldl (fun s b =>
      s.modSramBank (bankKey die b) (fun x => { x with lastPass := x.suspects, suspects := [] })) s)
  else .next s

/-! ## Ledgers (R613–R617) -/

/-- One instance of a ledger: its number, the function it belongs to, the total or bound expected, the value found, and whether
the equation or bound holds. -/
structure LedgerLine where
  inst : Nat
  subject : Nat
  expected : Nat
  found : Nat
  good : Bool

/-- A line that a bound holds. -/
def boundLine (inst subject bound found : Nat) : LedgerLine :=
  { inst := inst, subject := subject, expected := bound, found := found, good := decide (found ≤ bound) }

/-- A line that an equation holds. -/
def sumLine (inst subject total found : Nat) : LedgerLine :=
  { inst := inst, subject := subject, expected := total, found := found, good := decide (found = total) }

/-- Ledger 2: the ends of links in service. The sender holds the credits that the flits outstanding leave of the buffer. -/
def State.creditLines (s : State) (die : Nat) : List LedgerLine :=
  ((List.range 3).filter (s.dunythUp die)).flatMap (fun k => (List.range 4).flatMap (fun c => [false, true].map (fun det =>
    let out := (s.laneOf (laneKey die k c det)).buffer.length
    sumLine (k * 8 + c + 4 * b2n det) 0 (chanFlits c det) ((chanFlits c det - out) + out))))

/-- Ledger 4: every outstanding or quarantined read holds an operation tag of its own (R93, R96). -/
def State.opTagLine (s : State) (die : Nat) : LedgerLine :=
  let held := (s.tagsOf die).length
  sumLine 0 0 131072 (s.freeOpTags die + held)

/-- Ledger 6: the holding slots of the die, and each queue pair's share. HELD above a lowered HOLD_SHARE is no mismatch. -/
def State.slotLines (s : State) (die : Nat) : List LedgerLine :=
  let used := ((s.dieQueues die).map (fun (_, q) => max 2 q.slots)).sum + s.nvmeSlots die
  sumLine 0 0 65536 (used + s.sharedSlots die) ::
    (s.dieQueues die).map (fun (k, q) => boundLine (0x1000 + k % 256) (k / 256) (max q.holdShare q.slots) q.slots)

/-- Ledger 7: the mailboxes of the die, agents' and functions'. -/
def State.boxLines (s : State) (die : Nat) : List LedgerLine :=
  (List.range 256).map (fun n => sumLine n 0 16 (max 16 (s.agentBox (die * 256 + n)).queue.length)) ++
    ((s.funcs.filter (fun (k, f) => mDie k == die && f.provisioned)).flatMap (fun (k, _) =>
      [sumLine 0x1000 k 16 (max 16 (s.fnBox k).inbound.length), sumLine 0x1001 k 16 (max 16 (s.fnBox k).outbound.length)]))

/-- Ledger 8: the rings of the die. -/
def State.ringLines (s : State) (die : Nat) : List LedgerLine :=
  (s.dieQueues die).map (fun (k, q) =>
    let sq := ringCount q.sqTail q.sqHead
    let bad := decide (q.sqSize < sq) || (q.mode != .ownWb && decide (q.cqSize < q.hostHeld)) || decide (sq < q.accepted.length)
    { inst := k % 256, subject := k / 256, expected := q.sqSize, found := if bad then max sq (max q.hostHeld q.accepted.length) else sq,
      good := !bad })

/-- Both buckets of a shaper lie between −L_MAX and their sizes (R356, R357). -/
def Shaper.inBounds (h : Shaper) : Bool :=
  let low : Int := -((schedMax * byteUnits : Nat) : Int)
  decide (low ≤ h.tokensC) && decide (low ≤ h.tokensP) && decide (h.tokensC ≤ ((h.cbs * byteUnits : Nat) : Int))
    && decide (h.tokensP ≤ ((h.pbs * byteUnits : Nat) : Int))

/-- A line for a shaper. -/
def shaperLine (inst : Nat) (h : Shaper) : LedgerLine :=
  { inst := inst, subject := 0, expected := max h.cbs h.pbs,
    found := (max h.tokensC h.tokensP).toNat / byteUnits, good := !h.enable || h.inBounds }

/-- Ledger 9: policers, nodes and leaves. -/
def State.bucketLines (s : State) (die : Nat) : List LedgerLine :=
  let t := s.tm die
  ((s.pipe die).policers.map (fun (k, q) =>
    { inst := 0x800000 + k, subject := 0, expected := max q.cbs q.ebsPbs, found := max q.tokensC q.tokensEp / byteUnits,
      good := decide (q.tokensC ≤ q.cbs * byteUnits) && decide (q.tokensEp ≤ q.ebsPbs * byteUnits) })) ++
    t.nodes.map (fun (k, n) => shaperLine k n.shaper) ++ t.leaves.map (fun (k, l) => shaperLine (3 * 65536 + k) l.shaper)

/-- Ledger 10: the deficits of nodes and leaves (R356). -/
def State.deficitLines (s : State) (die : Nat) : List LedgerLine :=
  let t := s.tm die
  let bound := fun (q : Nat) => q * 64 + schedMax - 1
  t.nodes.map (fun (k, n) => boundLine k 0 (bound n.quantum) n.deficit) ++
    t.leaves.map (fun (k, l) => boundLine (3 * 65536 + k) 0 (bound l.quantum) l.deficit)

/-- The cells of a die in one of the four states (R349). -/
def Tm.cells (t : Tm) : Nat := t.free + t.pipeline + t.queued + t.transit

/-- The instances of a ledger on a die (Table 20.2). The free receive space of a host link is what its
credits in use leave, so ledger 1 balances (log 9). Tags above a narrowed width are no mismatch (ledger 5). -/
def State.ledgerLines (s : State) (die n : Nat) : List LedgerLine :=
  match n with
  | 1 => [sumLine 0 0 0 0]
  | 2 => s.creditLines die
  | 3 => [sumLine 0 0 196608 (s.tm die).cells]
  | 4 => [s.opTagLine die]
  | 5 => [boundLine 0 0 (max (s.tagLimit die) (s.tagsOf die).length) (s.tagsOf die).length]
  | 6 => s.slotLines die
  | 7 => s.boxLines die
  | 8 => s.ringLines die
  | 9 => s.bucketLines die
  | 10 => s.deficitLines die
  | _ => []

/-- Ticks in the 10 ms between two audits that return a stray cell (R616). -/
def strayTicks : Nat := 16000000

/-- A mismatch: the record is latched, and LEDGER_STATUS shows it (R616). -/
def State.mismatch (s : State) (die n : Nat) (l : LedgerLine) : State :=
  let s := s.raise 0x0903 sevDegraded l.subject die (n + 256 * l.inst) l.expected l.found
  s.modLedger die (fun b => { b with mismatch := setBit b.mismatch n true })

/-- Cells that an audit finds in no state: counted at the first audit, returned to FREE by one at least 10 ms later (R616). -/
def State.strayCells (s : State) (die : Nat) : State :=
  let missing := 196608 - (s.tm die).cells
  let b := s.ledger die
  let now := s.tickAt die
  if missing = 0 then s.modLedger die (fun b => { b with strayCells := 0, strayTick := 0 })
  else if b.strayCells = 0 then s.modLedger die (fun b => { b with strayCells := missing, strayTick := now })
  else if b.strayTick + strayTicks ≤ now then
    let back := min missing b.strayCells
    (s.modTm die (fun t => { t with free := t.free + back })).modLedger die (fun b =>
      { b with strayCells := missing - back, strayTick := now })
  else s

/-- One ledger of a die audited: the instances checked and the mismatches found. -/
def State.auditOne (s : State) (die n : Nat) : State × Nat × Nat :=
  let ls := s.ledgerLines die n
  let bad := ls.filter (fun l => !l.good)
  let s := bad.foldl (fun s l => s.mismatch die n l) s
  (if n = 3 then s.strayCells die else s, ls.length, bad.length)

/-- Counts added per ledger. -/
def addCount (l : List (Nat × Nat)) (n i m : Nat) : List (Nat × Nat) :=
  l.zipIdx.map (fun ((a, b), k) => if k + 1 = n then (a + i, b + m) else (a, b))

/-- The named ledgers of a die audited (R614, R616). -/
def State.auditDie (s : State) (die mask : Nat) (tally : List (Nat × Nat)) : State × List (Nat × Nat) :=
  let ns := ((List.range 10).map (fun i => i + 1)).filter (fun n => mask == 0 || bit mask n)
  let (s, tally) := ns.foldl (fun (s, tally) n =>
    let (s, i, m) := State.auditOne s die n
    (s, addCount tally n i m)) (s, tally)
  (s.modLedger die (fun b => { b with audits := (b.audits + 1) % 2 ^ 32, auditTick := s.dieTick die }), tally)

/-- LEDGER_AUDIT's effect (R615). -/
def runLedgerAudit (p : Packet) (s : State) : Answer :=
  let b := p.params
  let mask := leAt b 4 4
  if p.paramLen ≠ 8 ∨ leAt b 1 3 ≠ 0 ∨ bit mask 0 = true ∨ 2 ^ 11 ≤ mask then s.fails stBadParam
  else if !s.roles.filled then s.fails stBusy
  else match s.diesStatus (leAt b 0 1) with
    | some st => s.fails st
    | none =>
      let dies := s.namedDies (leAt b 0 1)
      let (s, tally) := dies.foldl (fun (s, tally) d => State.auditDie s d mask tally) (s, List.replicate 10 (0, 0))
      let shown := tally.zipIdx.foldl (fun a ((_, m), k) => if m = 0 then a else a + 2 ^ (k + 1)) 0
      s.answers (toLe 1 (dies.foldl (fun a d => a + 2 ^ d) 0) ++ toLe 3 0 ++ toLe 4 shown
        ++ tally.flatMap (fun (i, m) => toLe 4 i ++ toLe 4 m))

/-- LEDGER_AUDIT (R615). -/
def execLedgerAudit (p : Packet) (s : State) : Host.Outcome State Fault Refusal := runPlain 0x0D02 p runLedgerAudit s

/-- The firmware of a die has no command, error or service step in hand (R614). -/
def State.firmwareIdle (s : State) (die : Nat) : Bool :=
  !s.errors.latched.any (fun l => l.die == die) && !(s.dieHealth die).pairRestarting
    && (die != s.roles.lead || (s.errors.handling.isEmpty && s.journal.buffered.isEmpty && s.tempo.inProgress.isNone))

/-- PERIODIC_AUDIT (R614): 10 ms after the last audit if the firmware is idle, or 100 ms after it. -/
def execPeriodicAudit (die : Nat) (s : State) : Host.Outcome State Fault Refusal :=
  let since := (s.ledger die).auditTick
  let now := s.dieTick die
  .next (if s.live die && (decide (since + 100 * ticksPerMs ≤ now) || (decide (since + 10 * ticksPerMs ≤ now) && s.firmwareIdle die)) then
    (s.auditDie die 0 []).1 else s)

/-! ## ERROR_INJECT (R583) -/

/-- Severity of a cause (Table 19.3). -/
def causeSeverity (c : Nat) : Option Nat :=
  if [0x0801, 0x0805].contains c then some sevCorrected
  else if [0x0101, 0x0201, 0x0203, 0x0204, 0x0301, 0x0302, 0x0303, 0x0401, 0x0402, 0x0502, 0x0603, 0x0702, 0x0802, 0x0803,
      0x0804, 0x0806, 0x0807].contains c then some sevDegraded
  else if [0x0901, 0x0902, 0x0903, 0x0904, 0x0905, 0x0906, 0x0907, 0x0908, 0x0909].contains c then some sevDegraded
  else if [0x0102, 0x0103, 0x0104, 0x0202, 0x0501, 0x0503, 0x0601, 0x0602, 0x0604, 0x0701, 0x0703, 0x0910].contains c then
    some sevContained
  else if c = 0x0A01 then some sevDieFatal
  else if c = 0x0A02 then some sevPackageFatal
  else none

/-- What is latched or recorded from here on carries INJECTED. -/
def State.markInjected (s was : State) : State :=
  { s with errors := { s.errors with
    latched := s.errors.latched.map (fun l => if was.errors.latched.any (fun x => x.sameArea l) then l else { l with injected := true }),
    records := s.errors.records.map (fun r => if was.errors.next ≤ r.ersn then { r with injected := true } else r) } }

/-- A fault planted in a unit, detected as a real one: none where the unit does not exist. For THREAD_FAULT the unit is
pod × 72 + pod thread, and for MICROCODE_FAULT the detail's low four bits are the cause (log 47). -/
def State.plant (s : State) (cause die unit detail : Nat) : Option State :=
  if cause = 0x0801 then if unit < 32 then some (s.sramError die unit detail true) else none
  else if cause = 0x0802 then
    if unit < 32 then
      let s := s.sramError die unit detail false
      some (s.modSramBank (bankKey die unit) (fun b => { b with failPlanted := b.failNext }))
    else none
  else if cause = 0x0803 then if unit < 32 then some (s.rowsOut die unit) else none
  else if cause = 0x0804 then some (s.cellFault die unit detail)
  else if cause = 0x0805 then
    let (r, t) := s.draw 32
    if unit < 4 then some (t.dramError die unit (r % 5) detail true) else none
  else if cause = 0x0806 then if unit < 4 ∧ detail < 5 then some (s.markDevice die unit detail) else none
  else if cause = 0x0807 then if unit < 4 then some (s.dramError die unit 0 detail false) else none
  else if cause = 0x0202 then
    if unit / 8 = die ∧ (s.port unit).present = true ∧ unit % 8 ≤ detail ∧ detail < unit % 8 + (s.port unit).lanes then
      some (if (s.port unit).phase = .up then
          let s := s.laneFailed unit (detail - unit % 8)
          if (s.port unit).retireLane.isSome then s.expect 0x0201 die unit else s
        else s)
    else none
  else if cause = 0x0601 then
    let t := die * 432 + unit
    if unit < 432 ∧ unit % 72 < 64 ∧ 1 ≤ detail ∧ detail ≤ 10 then
      some (if (s.thread t).state = .running then s.threadFault t detail none else s)
    else none
  else if cause = 0x0701 then
    let q := s.seqOf (die * 16 + unit)
    let c := detail % 16
    if unit < 16 ∧ 1 ≤ c ∧ c ≤ 6 then
      some (if q.state = .outOfService then s else s.microFault (die * 16 + unit) c (s.fetchAddr q))
    else none
  else if cause = 0x0905 then some (s.pllLost die true)
  else if cause = 0x0906 then
    let s := s.pairMismatch die
    some (if (s.dieHealth die).pairRestarting then s.expect 0x0906 die 0 else s)
  else some (s.modDieHealth die (fun h => { h with condemned := some 5 }))

/-- Causes that can be planted (R583). -/
def plantable : List Nat :=
  [0x0801, 0x0802, 0x0803, 0x0804, 0x0805, 0x0806, 0x0807, 0x0202, 0x0601, 0x0701, 0x0905, 0x0906, 0x0A01]

/-- ERROR_INJECT's effect (R583). -/
def runErrorInject (p : Packet) (s : State) : Answer :=
  let b := p.params
  let cause := leAt b 0 2
  let die := leAt b 2 1
  let fl := leAt b 3 1
  let unit := leAt b 4 4
  let detail := leAt b 8 8
  let t := s.nowNs
  match causeSeverity cause with
  | none => s.fails stBadParam
  | some sev =>
    if p.paramLen ≠ 16 ∨ 2 ≤ fl then s.fails stBadParam
    else match s.dieStatus die with
      | some st => s.fails st
      | none =>
        if fl = 1 then
          (s.makeRecord
            { cause := cause, severity := sev, subject := 0, die := die, unit := unit, detailA := detail, detailB := 0,
              injected := true, recordOnly := true, time := t, timeLast := t, repeats := 0 } true).1.answers []
        else if !plantable.contains cause then s.fails stBadParam
        else if cause = 0x0A01 ∧ s.boot.fuses.lifecycle ≠ .manufacture ∧ s.protect.debugUntil = none then s.fails stNotPermitted
        else match s.plant cause die unit detail with
          | none => s.fails stBadParam
          | some t => (t.markInjected s).answers []

/-- ERROR_INJECT (R583). -/
def execErrorInject (p : Packet) (s : State) : Host.Outcome State Fault Refusal := runPlain 0x8D01 p runErrorInject s

end Sys2Proof.Machine
end

