-- ==== Sys2Proof/Machine/HostReads.lean ====
section
/-! DEFINITION. Completions, timeouts and quarantine of PCIe reads (spec/03 R94–R97, R104; spec/13 R443). -/

namespace Sys2Proof.Machine

/-- A tag entry changed or freed. -/
def State.setTag (s : State) (k : Nat) (t : HostTag) : State := { s with tags := Tbl.set s.tags k t }
def State.freeTag (s : State) (k : Nat) : State := { s with tags := Tbl.del s.tags k }

/-- Bytes of an outstanding read arrive. A read whose data are discarded retires with its last byte, and so does the data read of a
storage command, which goes on; any other is retired by the step its last byte feeds (log 19). -/
def State.creditRead (s : State) (k : Nat) (t : HostTag) (n : Nat) : State :=
  let left := t.remaining - n
  if left ≠ 0 then s.setTag k { t with remaining := left }
  else if t.discard then s.freeTag k
  else match t.use with
    | .storage _ c => (s.freeTag k).dataCame (mDie t.fn) c
    | _ => s.setTag k { t with remaining := 0 }

/-- The buffer read of a COMMAND_PACKET failed: the command completes with Data Transfer Error and is not decided (R126). -/
def State.failPacket (s : State) (fn cid : Nat) : State :=
  match s.nvmeHead fn 0 with
  | some (_, b) => if sqeCid b = cid then s.runAdmin fn 0xC1 (fun s b => s.adminDone fn b 0 nvTransfer) else s
  | none => s

/-- A poisoned completion: containment-class for a control fetch, otherwise the element fails (R104, R443). -/
def State.poisoned (s : State) (k : Nat) (t : HostTag) : State :=
  let s := s.freeTag k
  let link := mDie t.fn
  match t.use with
  | .control q i n => s.contain link 2 t.fn (if 256 ≤ q then q - 256 else q) ((i + (64 * n - t.remaining) / 64) % 65536)
  | .table q i _ => s.contain link 2 t.fn (if 256 ≤ q then q - 256 else q) i
  | .command i => s.contain link 2 t.fn 0x100 i
  | .payload q i =>
    match (s.queue? t.fn q).bind (fun x => x.entry? i) with
    | some e => s.finishEntry t.fn q i 0x02 e.totalLen
    | none => s
  | .channel c => if (s.dmaCh c).busy then s.endDma c 0x02 (s.dmaCh c).done else s
  | .storage _ c => s.failStorage t.fn c
  | .packet cid => s.failPacket t.fn cid
  | .mirror _ => s.mirrorConfirm false
  | .freeze => s

/-- A completion on a FROZEN link (R105, R106): its data are discarded and its tag quarantined; a poisoned one to a control fetch
is one more containment-class error. -/
def State.frozenCompletion (s : State) (k : Nat) (t : HostTag) (good : Bool) : State :=
  let s := s.setTag k { t with quarantined := true }
  match good, t.use with
  | false, .control _ _ _ => s.contain (mDie t.fn) 2 t.fn 0 0
  | false, .table _ _ _ => s.contain (mDie t.fn) 2 t.fn 0 0
  | false, .command _ => s.contain (mDie t.fn) 2 t.fn 0x100 0
  | _, _ => s

/-- COMPLETION_ARRIVAL (R97, R98, R104, R105, R118): credited, discarded as a late completion, or unexpected; one that an Insecure IDE
stream carries is not accepted. -/
def execCompletionArrival (link tag : Nat) (data : List Byte) (good : Bool) (s : State) :
    Host.Outcome State Fault Refusal :=
  if s.linkUp link then
    let k := tagKey link tag
    match Tbl.find s.tags k with
    | none => .next (if s.linkInsecure link then s else s.emit (.tlp link TlpKind.aerUnexpected.code tag))
    | some t =>
      if s.ideSilent t.fn then .next s
      else if t.quarantined then
        let s := (s.freeTag k).modLink link (fun l => { l with lateCpl := satAdd 0xFFFFFFFF l.lateCpl 1 })
        .next (s.emit (.tlp link TlpKind.aerUnexpectedAdvisory.code tag))
      else if (s.link link).frozen then .next (s.frozenCompletion k t good)
      else if t.discard || good then .next (s.creditRead k t data.length)
      else .next (s.poisoned k t)
  else .next s

/-- UNIT of a timeout's record: the queue pair or NVMe submission queue, 0x100 for PF0's command queue and the mirror, or the DMA
channel. -/
def ReadUse.unit : ReadUse → Nat
  | .control q _ _ => if 256 ≤ q then q - 256 else q
  | .table q _ _ => if 256 ≤ q then q - 256 else q
  | .storage q _ => q
  | .packet _ => 0
  | .freeze => 0
  | .payload q _ => q
  | .channel c => c % 64
  | _ => 0x100

/-- The element that needed the data of a timed-out read fails (R95, R443). -/
def State.failRead (s : State) (t : HostTag) : State :=
  match t.use with
  | .control q i _ => s.failControl t.fn q i
  | .table q i _ => s.failControl t.fn q i
  | .command _ => (s.modCmdq (mDie t.fn) (fun q => { q with fetching := false })).cmdqPump (mDie t.fn)
  | .payload q i =>
    match (s.queue? t.fn q).bind (fun x => x.entry? i) with
    | some e => s.finishEntry t.fn q i 0x01 e.totalLen
    | none => s
  | .channel c => if (s.dmaCh c).busy then s.endDma c 0x01 (s.dmaCh c).done else s
  | .storage _ c => s.failStorage t.fn c
  | .packet cid => s.failPacket t.fn cid
  | .mirror _ => s.mirrorConfirm false
  | .freeze => s

/-- COMPLETION_TIMEOUT (R94, R95): AER, a CONTAINED record, the element fails, and the tag is quarantined. -/
def execCompletionTimeout (link tag : Nat) (s : State) : Host.Outcome State Fault Refusal :=
  let k := tagKey link tag
  match Tbl.find s.tags k with
  | none => .next s
  | some t =>
    if t.quarantined || !s.dieWorks link then .next s
    else
      let s := s.setTag k { t with quarantined := true }
      let s := s.reportTimeout t.fn t.use.unit tag
      .next (if t.discard then s else s.failRead t)

/-- QUARANTINE_EXPIRY (R96): twice the timeout has passed since the request was sent. -/
def execQuarantineExpiry (link tag : Nat) (s : State) : Host.Outcome State Fault Refusal :=
  let k := tagKey link tag
  match Tbl.find s.tags k with
  | some t => .next (if t.quarantined then s.freeTag k else s)
  | none => .next s

end Sys2Proof.Machine
end

