-- ==== Sys2Proof/Machine/Operands.lean ====
section
/-! DEFINITION. Operand forms of the Rollanen instruction set (spec/17 R545, R547, R550): immediates, offsets, effective
addresses and fields in network bit order. -/

namespace Sys2Proof.Machine

/-- A signed `n`-bit immediate extended to 64 bits. -/
def sext (n v : Nat) : Word := (BitVec.ofNat n v).signExtend 64

/-- An unsigned immediate extended to 64 bits. -/
def zext (v : Nat) : Word := BitVec.ofNat 64 v

/-- LUI's operand: IMM21 << 16. -/
def luiValue (imm : Nat) : Word := BitVec.ofNat 64 (imm % 2 ^ 21 * 2 ^ 16)

/-- The address of a load or store: ra + sext(IMM). -/
def effAddr (ra : Word) (imm : Nat) : Nat := (ra + sext 16 imm).toNat

/-- A branch or jump target: OFFSET counts instructions from the branch itself. -/
def branchTarget (pc n offset : Nat) : Nat := (BitVec.ofNat 64 pc + sext n offset * 4).toNat

/-- The low `n` bits of a word extended to 64 bits. -/
def lowZext (n v : Nat) : Word := BitVec.ofNat 64 (v % 2 ^ n)
def lowSext (n v : Nat) : Word := sext n v

/-- The field operand of HLD and HST: WIDTH, BIT and OFFSET of its 16 bits. -/
def fieldWidth (f : Nat) : Nat := f / 2 ^ 10 % 64 + 1
def fieldBit (f : Nat) : Nat := f / 2 ^ 7 % 8
def fieldOffset (f : Nat) : Nat := f % 128

/-- Bytes that a field touches. -/
def fieldBytes (f : Nat) : Nat := (fieldBit f + fieldWidth f + 7) / 8

/-- Big-endian value of bytes, the first the most significant. -/
def beNat : List Byte → Nat → Nat
  | [], a => a
  | b :: bs, a => beNat bs (256 * a + b.toNat)

/-- The field read from the bytes it touches. -/
def fieldRead (f : Nat) (bs : List Byte) : Nat :=
  beNat bs 0 / 2 ^ (8 * fieldBytes f - fieldBit f - fieldWidth f) % 2 ^ fieldWidth f

/-- A number as `n` big-endian bytes. -/
def beBytes : Nat → Nat → List Byte
  | 0, _ => []
  | n + 1, v => BitVec.ofNat 8 (v / 256 ^ n) :: beBytes n v

/-- The touched bytes with the field's bits replaced. -/
def fieldWrite (f : Nat) (bs : List Byte) (v : Nat) : List Byte :=
  let n := fieldBytes f
  let sh := 8 * n - fieldBit f - fieldWidth f
  let old := beNat bs 0
  let top := old / 2 ^ (sh + fieldWidth f)
  beBytes n (top * 2 ^ (sh + fieldWidth f) + v % 2 ^ fieldWidth f * 2 ^ sh + old % 2 ^ sh)

end Sys2Proof.Machine
end

