-- ==== Sys2Proof/Machine/IsaOps.lean ====
section
/-! DEFINITION. Shared operations of Rollanen instructions: issue, memory accesses, register results, control transfer and
channel operations (spec/17). -/

namespace Sys2Proof.Machine

/-! ## Issue (R544, R552, R557) -/

/-- One instruction of a thread at an instruction boundary: an interrupt that is due is taken in its place, an armed
breakpoint stops the thread before it, and a thread that is not RUNNING issues nothing. -/
def State.issue (s : State) (t : Nat) (body : State → State) : State :=
  if !s.live (threadDie t) || decide ((s.thread t).state ≠ .running) then s
  else if s.intDue t then s.takeInt t
  else if s.atBreak t then s.hitBreak t
  else body s

/-- A register of a thread. -/
def State.wreg (s : State) (t n : Nat) : Word := (s.thread t).reg n

/-- The instruction completes with a register written; the next one follows. -/
def State.retire (s : State) (t rd : Nat) (v : Word) : State :=
  s.modThread t (fun th => (th.setReg rd v).complete ((th.pc + 4) % 2 ^ 64))

/-- The instruction completes with no register written. -/
def State.pass (s : State) (t : Nat) : State := s.modThread t (fun th => th.complete ((th.pc + 4) % 2 ^ 64))

/-- The instruction completes and control goes to an address. -/
def State.jumpTo (s : State) (t a : Nat) : State := (s.modThread t (fun th => th.complete a)).fetchCheck t

/-! ## Memory (R504, R505, R507) -/

/-- Where an address of a thread lies (Table 16.1). -/
inductive Place where
  | memory (r : Region) (off : Nat)
  | view (v off : Nat)
  | podBlock (off : Nat)
  | mailbox (off : Nat)
  | dma (off : Nat)
  | absent
  deriving DecidableEq, Repr

/-- The place of an address. -/
def State.placeOf (s : State) (t a : Nat) : Place :=
  let p := s.podOf (threadPod t)
  let d := a - 0x1000000000
  if a < 0x200000 then .memory (.pod (threadPod t)) a
  else if 0x400000 ≤ a ∧ a < 0x800000 then .memory (.shared (threadDie t)) (a - 0x400000)
  else if 0x1000000 ≤ a ∧ a < 0x1010000 then .podBlock (a - 0x1000000)
  else if 0x1010000 ≤ a ∧ a < 0x1020000 then .mailbox (a - 0x1010000)
  else if 0x1020000 ≤ a ∧ a < 0x1022000 then .dma (a - 0x1020000)
  else if 0x2000000 ≤ a ∧ a < 0x2008000 then .view ((a - 0x2000000) / 0x4000) ((a - 0x2000000) % 0x4000)
  else if 0x1000000000 ≤ a ∧ p.dramBase ≤ d ∧ d < p.dramBase + p.dramSize ∧ d < s.dramOf (threadDie t) * 2 ^ 30 then
    .memory (.dram (threadDie t)) d
  else .absent

/-- The SRAM bank of a thread memory (Table 01.2), by die × 32 + bank. -/
def bankOfRegion : Region → Option Nat
  | .pod p => some (p / 6 * 32 + 24 + p % 6 / 2)
  | .shared d => some (d * 32 + 27)
  | _ => none

/-- A read of memory finds a block or a line that cannot be corrected (R505). -/
def State.eccFails (s : State) (r : Region) (off n : Nat) : Bool :=
  match r with
  | .dram d => (List.range 4).any (fun c => (s.dramMark (d * 4 + c)).badLines.any
      (fun l => decide (off / 64 ≤ l) && decide (l ≤ (off + n - 1) / 64)))
  | _ => (bankOfRegion r).any (fun b => (s.sramBank b).failNext)

/-- The failed read of a thread is over. -/
def State.eccSeen (s : State) (t : Nat) (r : Region) : State :=
  match bankOfRegion r with
  | some b =>
    let s := if (s.sramBank b).failPlanted then s.expect 0x0601 (threadDie t) (podThread t) else s
    s.modSramBank b (fun x => { x with failNext := false, failPlanted := false })
  | none => s

/-- A run of `n` bytes at an address that lies in one place, or the fault it meets (R504, R507). -/
def State.reach (s : State) (t a n : Nat) : Except Nat Place :=
  match s.placeOf t a, s.placeOf t (a + n - 1) with
  | .memory r off, .memory r' _ => if r = r' then .ok (.memory r off) else .error fcAccess
  | .view v off, .view v' _ =>
    match s.viewPacket t v with
    | some p => if v = v' ∧ off + n ≤ p.bytes.length then .ok (.view v off) else .error fcCell
    | none => .error fcCell
  | .podBlock off, .podBlock _ => .ok (.podBlock off)
  | .mailbox off, .mailbox _ => .ok (.mailbox off)
  | .dma off, .dma _ => .ok (.dma off)
  | _, _ => .error fcAccess

/-- What a read comes to: bytes and the state after it, or a fault. -/
inductive LoadEnd where
  | done (bs : List Byte) (s : State)
  | bad (cause : Nat) (s : State)
  deriving DecidableEq, Repr

/-- `n` bytes read at a place. -/
def State.readPlace (s : State) (t n : Nat) : Place → LoadEnd
  | .memory r off => if s.eccFails r off n then .bad fcEcc (s.eccSeen t r) else .done (s.readBytes r off n) s
  | .view v off => .done (sub (((s.viewPacket t v).map (fun p => p.bytes)).getD []) off n) s
  | .podBlock off => let (v, s) := s.podRead (threadPod t) off n (threadId t); .done (toLe n v) s
  | .mailbox off => let (v, s) := s.mbxLoad (threadDie t) off n (threadId t); .done (toLe n v) s
  | .dma off => .done (sub (toLe 8 (s.dmaWord (threadDie t) (off / 8 * 8))) (off % 8) n) s
  | .absent => .bad fcAccess s

/-- Bytes written at a place. -/
def State.writePlace (s : State) (t : Nat) (bs : List Byte) : Place → StoreEnd
  | .memory r off => .done (s.writeBytes r off bs)
  | .view v off =>
    match s.viewPacket t v with
    | some p => .done (s.setPacket (threadPod t) ((s.thread t).view v).firstCell { p with bytes := overlay p.bytes off bs })
    | none => .bad fcCell
  | .podBlock off => s.podStore t off bs.length (le bs)
  | .mailbox off => .done (s.mbxStore (threadDie t) off bs.length (threadId t) (le bs))
  | .dma off => .done (s.dmaStore t off bs.length (le bs))
  | .absent => .bad fcAccess

/-- A load of `n` bytes: `f` makes the register's value of them (R547). -/
def State.load (s : State) (t rd a n : Nat) (f : List Byte → Word) : State :=
  if a % n ≠ 0 then s.threadFault t fcAlign (some a)
  else
    match s.reach t a n with
    | .error c => s.threadFault t c (some a)
    | .ok pl =>
      match s.readPlace t n pl with
      | .bad c s => s.threadFault t c (some a)
      | .done bs s => s.retire t rd (f bs)

/-- A store of the low `n` bytes of a register (R547). The thread stands at the next instruction when the store acts, so that
a supervisor may restart itself. -/
def State.store (s : State) (t rb a n : Nat) : State :=
  if a % n ≠ 0 then s.threadFault t fcAlign (some a)
  else
    match s.reach t a n with
    | .error c => s.threadFault t c (some a)
    | .ok pl =>
      match (s.pass t).writePlace t (toLe n (s.wreg t rb).toNat) pl with
      | .bad c => s.threadFault t c (some a)
      | .done s => s

/-- Loads and stores of format I: base register and signed offset. -/
def State.loadI (s : State) (t rd ra imm n : Nat) (f : Nat → Word) : State :=
  s.load t rd (effAddr (s.wreg t ra) imm) n (fun bs => f (le bs))

def State.storeI (s : State) (t ra rb imm n : Nat) : State := s.store t rb (effAddr (s.wreg t ra) imm) n

/-- The new value of an AMO, none where CAS does not write (Table 17.5). `rd` is the destination's old value. -/
def amoValue (op width old rb rd : Nat) : Option Nat :=
  let m := 2 ^ width
  match op with
  | 0 => some (rb % m)
  | 1 => some ((old + rb) % m)
  | 2 => some (old &&& rb % m)
  | 3 => some (old ||| rb % m)
  | 4 => some (old ^^^ rb % m)
  | 5 => some (min old (rb % m))
  | 6 => some (max old (rb % m))
  | _ => if old = rd % m then some (rb % m) else none

/-- AMO: one indivisible read-modify-write of memory. -/
def State.amo (s : State) (t rd ra rb func : Nat) : State :=
  let n := if bit func 3 then 4 else 8
  let a := (s.wreg t ra).toNat
  if a % n ≠ 0 then s.threadFault t fcAlign (some a)
  else
    match s.placeOf t a with
    | .memory r off =>
      if s.eccFails r off n then (s.eccSeen t r).threadFault t fcEcc (some a)
      else
        let old := le (s.readBytes r off n)
        let s := match amoValue (func % 8) (8 * n) old (s.wreg t rb).toNat (s.wreg t rd).toNat with
          | some v => s.writeBytes r off (toLe n v)
          | none => s
        s.retire t rd (BitVec.ofNat 64 old)
    | _ => s.threadFault t fcAccess (some a)

/-- The place of a header field (R550): any range but the register blocks. -/
def State.reachField (s : State) (t a n : Nat) : Except Nat Place :=
  match s.reach t a n with
  | .ok (.memory r off) => .ok (.memory r off)
  | .ok (.view v off) => .ok (.view v off)
  | .ok _ => .error fcAccess
  | .error c => .error c

/-- HLD (R550). -/
def State.fieldLoad (s : State) (t rd ra f : Nat) : State :=
  let a := (s.wreg t ra + BitVec.ofNat 64 (fieldOffset f)).toNat
  match s.reachField t a (fieldBytes f) with
  | .error c => s.threadFault t c (some a)
  | .ok pl =>
    match s.readPlace t (fieldBytes f) pl with
    | .bad c s => s.threadFault t c (some a)
    | .done bs s => s.retire t rd (BitVec.ofNat 64 (fieldRead f bs))

/-- HST (R550). -/
def State.fieldStore (s : State) (t rd ra f : Nat) : State :=
  let a := (s.wreg t ra + BitVec.ofNat 64 (fieldOffset f)).toNat
  match s.reachField t a (fieldBytes f) with
  | .error c => s.threadFault t c (some a)
  | .ok pl =>
    match s.readPlace t (fieldBytes f) pl with
    | .bad c s => s.threadFault t c (some a)
    | .done bs s =>
      match s.writePlace t (fieldWrite f bs (s.wreg t rd).toNat) pl with
      | .bad c => s.threadFault t c (some a)
      | .done s => s.pass t

/-! ## Integer results -/

/-- rd := f ra rb. -/
def State.alu (s : State) (t rd ra rb : Nat) (f : Word → Word → Word) : State := s.retire t rd (f (s.wreg t ra) (s.wreg t rb))

/-- rd := f ra. -/
def State.alu1 (s : State) (t rd ra : Nat) (f : Word → Word) : State := s.retire t rd (f (s.wreg t ra))

/-- A division: DIVIDE if rb is 0. -/
def State.divide (s : State) (t rd ra rb : Nat) (f : Word → Word → Word) : State :=
  if s.wreg t rb = 0 then s.threadFault t fcDivide none else s.alu t rd ra rb f

/-- A truth value as a register value. -/
def flag (b : Bool) : Word := if b then 1 else 0

/-- Signed and unsigned high halves of a product. -/
def mulHigh (a b : Word) : Word := BitVec.ofInt 64 (a.toInt * b.toInt / 2 ^ 64)
def mulHighU (a b : Word) : Word := BitVec.ofNat 64 (a.toNat * b.toNat / 2 ^ 64)

/-- Leading and trailing zeros and set bits. -/
def leadingZeros (a : Word) : Nat := ((List.range 64).find? (fun i => a.getLsbD (63 - i))).getD 64
def trailingZeros (a : Word) : Nat := ((List.range 64).find? (fun i => a.getLsbD i)).getD 64
def setBits (a : Word) : Nat := popBits a.toNat 64

/-- The low `n` bytes reversed. -/
def swapBytes (n : Nat) (a : Word) : Word := BitVec.ofNat 64 (be (toLe n a.toNat))

/-- One's-complement sum (R547). -/
def onesAdd (a b : Word) : Word :=
  let x := a.toNat + b.toNat
  BitVec.ofNat 64 (x % 2 ^ 64 + x / 2 ^ 64)

/-- Halves of 16 bits added until the sum fits in 16 bits. -/
def addHalves : Nat → Nat → Nat
  | 0, v => v
  | n + 1, v => if v < 2 ^ 16 then v else addHalves n (v / 2 ^ 16 + v % 2 ^ 16)

/-- A 64-bit sum folded: its 32-bit halves are added, with carry, and then 16-bit halves until it fits. -/
def csumFold (a : Word) : Nat :=
  let x := a.toNat / 2 ^ 32 + a.toNat % 2 ^ 32
  addHalves 4 (x / 2 ^ 32 + x % 2 ^ 32)

/-- A CRC advanced by bytes (R547, R551). -/
def crcOver (poly : Word32) (ra : Word) (bs : List Byte) : Word := ((bs.foldl (crcByte poly) (ra.setWidth 32))).setWidth 64

/-- MIX64 (R551). -/
def mix64 (ra rb : Word) : Word :=
  let x := ra ^^^ ((rb <<< 32) ||| (rb >>> 32))
  let x := (x ^^^ (x >>> 30)) * 0xBF58476D1CE4E5B9
  let x := (x ^^^ (x >>> 27)) * 0x94D049BB133111EB
  x ^^^ (x >>> 31)

/-! ## Branches -/

/-- A conditional branch (Table 17.6). -/
def State.branch (s : State) (t ra rb offset : Nat) (f : Word → Word → Bool) : State :=
  if f (s.wreg t ra) (s.wreg t rb) then s.jumpTo t (branchTarget (s.thread t).pc 16 offset) else s.pass t

/-- A jump that leaves its return address in a register. -/
def State.linkTo (s : State) (t rd a : Nat) : State :=
  (s.modThread t (fun th => th.setReg rd (BitVec.ofNat 64 (th.pc + 4)))).jumpTo t a

/-- JALR: the target is formed before rd is written. -/
def State.jumpReg (s : State) (t rd ra imm : Nat) : State :=
  let a := effAddr (s.wreg t ra) imm
  if a % 4 ≠ 0 then s.threadFault t fcAlign none else s.linkTo t rd a

/-! ## Channels (R510–R512, R548) -/

/-- The channel that a register names, if it is a channel of the die. -/
def State.chanNamed (s : State) (t ra : Nat) : Option Nat :=
  let n := (s.wreg t ra).toNat
  if n ≤ 1535 then some (chanKey (threadDie t) n) else none

/-- The channel that the thread writes, or reads, by a register. -/
def State.chanFor (s : State) (t ra : Nat) (writer : Bool) : Option Nat :=
  match s.chanNamed t ra with
  | none => none
  | some k =>
    let c := s.chanOf k
    if c.enable && (if writer then c.writer else c.reader) == threadId t then some k else none

/-- A ninth staged word, or one for another channel (R510). -/
def Thread.badStage (th : Thread) (k : Nat) : Bool :=
  decide (8 ≤ th.staging.length) || (decide (th.staging ≠ []) && th.stagedFor != k % 1536)

/-- CHW. -/
def State.stageWord (s : State) (t ra rb : Nat) : State :=
  match s.chanFor t ra true with
  | none => s.threadFault t fcChannel none
  | some k =>
    let th := s.thread t
    if th.badStage k then s.threadFault t fcMessage none
    else (s.setThread t { th with staging := th.staging ++ [th.reg rb], stagedFor := k % 1536 }).pass t

/-- A thread BLOCKED on a channel. -/
def Thread.blockOn (th : Thread) (w : WaitKind) (k : Nat) : Thread :=
  { th with state := .blocked, wait := w, object := k % 256, objectPod := k % 1536 / 256 }

/-- CHWE and CHWEP: `blocking` with no result, or a register told whether it committed. -/
def State.commitWord (s : State) (t rd ra rb : Nat) (blocking : Bool) : State :=
  match s.chanFor t ra true with
  | none => s.threadFault t fcChannel none
  | some k =>
    let th := s.thread t
    if th.badStage k then s.threadFault t fcMessage none
    else
      match s.commit t k (th.reg rb) with
      | .bad s => s.threadFault t fcMessage none
      | .done s => if blocking then s.pass t
        else (s.modThread t (fun th => { th with chanStatus := th.chanStatus / 2 * 2 + 1 })).retire t rd 1
      | .wait => if blocking then s.setThread t { th.blockOn .messageCommit k with endWord := th.reg rb }
        else (s.setThread t { th with chanStatus := th.chanStatus / 2 * 2 }).retire t rd 0

/-- CHR and CHRP. A read makes room for the channel's writer (R513). -/
def State.readChan (s : State) (t rd ra : Nat) (blocking : Bool) : State :=
  match s.chanFor t ra false with
  | none => s.threadFault t fcChannel none
  | some k =>
    let c := s.chanOf k
    match c.words with
    | (w, last) :: rest =>
      let s := s.setChanOf k { c with words := rest }
      let s := s.modThread t (fun th => (th.takeWord rd w last).complete ((th.pc + 4) % 2 ^ 64))
      let s := if mClass c.writer = 5 then s.pumpDma (dmaKey (threadDie t) (mIndex c.writer % 64)) else s
      s.settleDie (threadDie t)
    | [] =>
      if blocking then s.modThread t (fun th => { th.blockOn .channelRead k with waitRd := rd })
      else (s.modThread t (fun th => { th with chanStatus := th.chanStatus / 2 * 2 })).retire t rd 0

/-! ## Events (R514, R515, R549) -/

/-- EWAIT and EPOLL. -/
def State.waitEvents (s : State) (t rd : Nat) (blocking : Bool) : State :=
  let th := s.thread t
  let mask := th.eventMask % 256
  let set := s.pendingBits t &&& mask
  if set = 0 ∧ blocking = true then
    s.setThread t { th with state := .blocked, wait := .eventWait, waitMask := mask, waitRd := rd }
  else (s.setThread t (th.takeEvents set)).retire t rd (BitVec.ofNat 64 set)

/-- A raise of SIGNAL: counted if the input's source names the sender, or any thread of the die (Table 16.4). -/
def State.signalInput (s : State) (sender target input : Nat) : State :=
  let th := s.thread target
  let n := th.srcIndex input
  if th.srcKind input = 1 ∧ (n = 0x7FF ∨ (threadPod sender = threadPod target ∧ n = podThread sender)) then
    (s.setThread target { th with pending := setBit th.pending input true }).settleThread target
  else s

/-- SIGNAL. -/
def State.signal (s : State) (t ra rb : Nat) : State :=
  let i := (s.wreg t ra).toNat
  let b := (s.wreg t rb).toNat
  let target := threadDie t * 432 + i
  if 431 < i ∨ 64 ≤ i % 72 ∨ 8 < b then s.threadFault t fcAccess none
  else if b = 8 ∧ (s.isSupervisor t = false ∨ threadPod target ≠ threadPod t) then s.threadFault t fcPrivilege none
  else
    let st := (s.thread target).state
    let s := s.pass t
    if st = .unloaded ∨ st = .killed ∨ st = .outOfService then s
    else if b = 8 then s.modThread target (fun th => { th with intSignal := true })
    else s.signalInput t target b

/-! ## Special registers (Table 17.1) -/

/-- The value of a special register, none where the number is reserved. -/
def State.specialReg (s : State) (t n : Nat) : Option Nat :=
  let th := s.thread t
  match n with
  | 0x000 => some th.pc
  | 0x001 => some (threadId t)
  | 0x002 => some (b2n (s.isSupervisor t))
  | 0x003 => some th.eventMask
  | 0x004 => some th.faultCause
  | 0x005 => some th.faultAddr
  | 0x006 => some th.intReturn
  | 0x007 => some th.intHandler
  | 0x008 => some th.scratchA.toNat
  | 0x009 => some th.scratchB.toNat
  | 0x00A => some th.chanStatus
  | 0x00B => some (s.tickAt (threadDie t))
  | 0x00C => some th.issueCount
  | _ => none

/-- EVENT_MASK as a thread may hold it: bit 8 stays 0 where INT_HANDLER is all ones. -/
def Thread.maskFor (th : Thread) (v : Nat) : Nat := if th.intHandler = 2 ^ 64 - 1 then v % 256 else v % 512

/-- A special register written; a write to an RO one is ignored. -/
def Thread.setSpecial (th : Thread) (n : Nat) (v : Word) : Thread :=
  match n with
  | 0x003 => { th with eventMask := th.maskFor v.toNat }
  | 0x006 => { th with intReturn := v.toNat }
  | 0x008 => { th with scratchA := v }
  | 0x009 => { th with scratchB := v }
  | _ => th

/-- MFSR and MTSR. -/
def State.readSpecial (s : State) (t rd sr : Nat) : State :=
  match s.specialReg t sr with
  | some v => s.retire t rd (BitVec.ofNat 64 v)
  | none => s.threadFault t fcIllegal none

def State.writeSpecial (s : State) (t ra sr : Nat) : State :=
  match s.specialReg t sr with
  | some _ => (s.modThread t (fun th => th.setSpecial sr (th.reg ra))).pass t
  | none => s.threadFault t fcIllegal none

/-- IRET (R552). -/
def State.intReturn (s : State) (t : Nat) : State :=
  let th := s.thread t
  (s.setThread t { th with eventMask := th.maskFor (setBit th.eventMask 8 true) }).jumpTo t th.intReturn

/-- BREAK: it faults, but runs once as a no-op after RESUME (R553). -/
def State.breakTrap (s : State) (t : Nat) : State :=
  let th := s.thread t
  if th.breakNop = some th.pc then (s.setThread t { th with breakNop := none }).pass t else s.threadFault t fcBreak none

end Sys2Proof.Machine
end

