-- ==== Sys2Proof/Machine/Isa.lean ====
section
/-! DEFINITION. The Rollanen instructions (spec/17): table rows 260–343. Each command is one instruction that its thread has
fetched at its address (log 39). -/

namespace Sys2Proof.Machine

/-! ## Integer instructions (Table 17.4) -/

/-- ADD: rd := ra + rb, modulo 2^64 (R547). -/
def execAdd (t rd ra rb : Nat) (s : State) : Host.Outcome State Fault Refusal :=
  .next (s.issue t fun s => s.alu t rd ra rb (fun a b => a + b))

/-- SUB: rd := ra − rb. -/
def execSub (t rd ra rb : Nat) (s : State) : Host.Outcome State Fault Refusal :=
  .next (s.issue t fun s => s.alu t rd ra rb (fun a b => a - b))

/-- AND. -/
def execAnd (t rd ra rb : Nat) (s : State) : Host.Outcome State Fault Refusal :=
  .next (s.issue t fun s => s.alu t rd ra rb (fun a b => a &&& b))

/-- OR. -/
def execOr (t rd ra rb : Nat) (s : State) : Host.Outcome State Fault Refusal :=
  .next (s.issue t fun s => s.alu t rd ra rb (fun a b => a ||| b))

/-- XOR. -/
def execXor (t rd ra rb : Nat) (s : State) : Host.Outcome State Fault Refusal :=
  .next (s.issue t fun s => s.alu t rd ra rb (fun a b => a ^^^ b))

/-- SHL: rd := ra shifted left by rb[5:0]. -/
def execShl (t rd ra rb : Nat) (s : State) : Host.Outcome State Fault Refusal :=
  .next (s.issue t fun s => s.alu t rd ra rb (fun a b => a <<< (b.toNat % 64)))

/-- SHR: logical right shift by rb[5:0]. -/
def execShr (t rd ra rb : Nat) (s : State) : Host.Outcome State Fault Refusal :=
  .next (s.issue t fun s => s.alu t rd ra rb (fun a b => a >>> (b.toNat % 64)))

/-- SAR: arithmetic right shift by rb[5:0]. -/
def execSar (t rd ra rb : Nat) (s : State) : Host.Outcome State Fault Refusal :=
  .next (s.issue t fun s => s.alu t rd ra rb (fun a b => a.sshiftRight (b.toNat % 64)))

/-- SLT: signed comparison. -/
def execSlt (t rd ra rb : Nat) (s : State) : Host.Outcome State Fault Refusal :=
  .next (s.issue t fun s => s.alu t rd ra rb (fun a b => flag (a.slt b)))

/-- SLTU: unsigned comparison. -/
def execSltu (t rd ra rb : Nat) (s : State) : Host.Outcome State Fault Refusal :=
  .next (s.issue t fun s => s.alu t rd ra rb (fun a b => flag (a.ult b)))

/-- MIN: signed minimum. -/
def execMin (t rd ra rb : Nat) (s : State) : Host.Outcome State Fault Refusal :=
  .next (s.issue t fun s => s.alu t rd ra rb (fun a b => if a.slt b then a else b))

/-- MAX: signed maximum. -/
def execMax (t rd ra rb : Nat) (s : State) : Host.Outcome State Fault Refusal :=
  .next (s.issue t fun s => s.alu t rd ra rb (fun a b => if a.slt b then b else a))

/-- MINU: unsigned minimum. -/
def execMinu (t rd ra rb : Nat) (s : State) : Host.Outcome State Fault Refusal :=
  .next (s.issue t fun s => s.alu t rd ra rb (fun a b => if a.ult b then a else b))

/-- MAXU: unsigned maximum. -/
def execMaxu (t rd ra rb : Nat) (s : State) : Host.Outcome State Fault Refusal :=
  .next (s.issue t fun s => s.alu t rd ra rb (fun a b => if a.ult b then b else a))

/-- MUL: low 64 bits of the product. -/
def execMul (t rd ra rb : Nat) (s : State) : Host.Outcome State Fault Refusal :=
  .next (s.issue t fun s => s.alu t rd ra rb (fun a b => a * b))

/-- MULH: high 64 bits of the signed product. -/
def execMulh (t rd ra rb : Nat) (s : State) : Host.Outcome State Fault Refusal :=
  .next (s.issue t fun s => s.alu t rd ra rb mulHigh)

/-- MULHU: high 64 bits of the unsigned product. -/
def execMulhu (t rd ra rb : Nat) (s : State) : Host.Outcome State Fault Refusal :=
  .next (s.issue t fun s => s.alu t rd ra rb mulHighU)

/-- DIV: signed quotient toward zero; DIVIDE if rb is 0. −2^63 by −1 gives −2^63. -/
def execDiv (t rd ra rb : Nat) (s : State) : Host.Outcome State Fault Refusal :=
  .next (s.issue t fun s => s.divide t rd ra rb (fun a b => a.sdiv b))

/-- DIVU: unsigned quotient; DIVIDE if rb is 0. -/
def execDivu (t rd ra rb : Nat) (s : State) : Host.Outcome State Fault Refusal :=
  .next (s.issue t fun s => s.divide t rd ra rb (fun a b => a / b))

/-- REM: remainder with the sign of ra; DIVIDE if rb is 0. −2^63 by −1 gives 0. -/
def execRem (t rd ra rb : Nat) (s : State) : Host.Outcome State Fault Refusal :=
  .next (s.issue t fun s => s.divide t rd ra rb (fun a b => a.srem b))

/-- REMU: unsigned remainder; DIVIDE if rb is 0. -/
def execRemu (t rd ra rb : Nat) (s : State) : Host.Outcome State Fault Refusal :=
  .next (s.issue t fun s => s.divide t rd ra rb (fun a b => a % b))

/-- CLZ: leading zeros, 64 of 0. -/
def execClz (t rd ra : Nat) (s : State) : Host.Outcome State Fault Refusal :=
  .next (s.issue t fun s => s.alu1 t rd ra (fun a => BitVec.ofNat 64 (leadingZeros a)))

/-- CTZ: trailing zeros, 64 of 0. -/
def execCtz (t rd ra : Nat) (s : State) : Host.Outcome State Fault Refusal :=
  .next (s.issue t fun s => s.alu1 t rd ra (fun a => BitVec.ofNat 64 (trailingZeros a)))

/-- POPC: set bits. -/
def execPopc (t rd ra : Nat) (s : State) : Host.Outcome State Fault Refusal :=
  .next (s.issue t fun s => s.alu1 t rd ra (fun a => BitVec.ofNat 64 (setBits a)))

/-- BSWAP64: bytes of ra[63:0] reversed. -/
def execBswap64 (t rd ra : Nat) (s : State) : Host.Outcome State Fault Refusal :=
  .next (s.issue t fun s => s.alu1 t rd ra (swapBytes 8))

/-- BSWAP32: bytes of ra[31:0] reversed, zero-extended. -/
def execBswap32 (t rd ra : Nat) (s : State) : Host.Outcome State Fault Refusal :=
  .next (s.issue t fun s => s.alu1 t rd ra (swapBytes 4))

/-- BSWAP16: bytes of ra[15:0] reversed, zero-extended. -/
def execBswap16 (t rd ra : Nat) (s : State) : Host.Outcome State Fault Refusal :=
  .next (s.issue t fun s => s.alu1 t rd ra (swapBytes 2))

/-! ## Immediate instructions (Table 17.5) -/

/-- ADDI: rd := ra + sext(IMM). -/
def execAddi (t rd ra imm : Nat) (s : State) : Host.Outcome State Fault Refusal :=
  .next (s.issue t fun s => s.alu1 t rd ra (fun a => a + sext 16 imm))

/-- ANDI: rd := ra and zext(IMM). -/
def execAndi (t rd ra imm : Nat) (s : State) : Host.Outcome State Fault Refusal :=
  .next (s.issue t fun s => s.alu1 t rd ra (fun a => a &&& zext imm))

/-- ORI: rd := ra or zext(IMM). -/
def execOri (t rd ra imm : Nat) (s : State) : Host.Outcome State Fault Refusal :=
  .next (s.issue t fun s => s.alu1 t rd ra (fun a => a ||| zext imm))

/-- XORI: rd := ra xor zext(IMM). -/
def execXori (t rd ra imm : Nat) (s : State) : Host.Outcome State Fault Refusal :=
  .next (s.issue t fun s => s.alu1 t rd ra (fun a => a ^^^ zext imm))

/-- SHLI: left shift by IMM[5:0]. -/
def execShli (t rd ra imm : Nat) (s : State) : Host.Outcome State Fault Refusal :=
  .next (s.issue t fun s => s.alu1 t rd ra (fun a => a <<< (imm % 64)))

/-- SHRI: logical right shift by IMM[5:0]. -/
def execShri (t rd ra imm : Nat) (s : State) : Host.Outcome State Fault Refusal :=
  .next (s.issue t fun s => s.alu1 t rd ra (fun a => a >>> (imm % 64)))

/-- SARI: arithmetic right shift by IMM[5:0]. -/
def execSari (t rd ra imm : Nat) (s : State) : Host.Outcome State Fault Refusal :=
  .next (s.issue t fun s => s.alu1 t rd ra (fun a => a.sshiftRight (imm % 64)))

/-- SLTI: signed comparison with sext(IMM). -/
def execSlti (t rd ra imm : Nat) (s : State) : Host.Outcome State Fault Refusal :=
  .next (s.issue t fun s => s.alu1 t rd ra (fun a => flag (a.slt (sext 16 imm))))

/-- SLTIU: unsigned comparison with sext(IMM). -/
def execSltiu (t rd ra imm : Nat) (s : State) : Host.Outcome State Fault Refusal :=
  .next (s.issue t fun s => s.alu1 t rd ra (fun a => flag (a.ult (sext 16 imm))))

/-- LUI: rd := zext(IMM21) << 16. -/
def execLui (t rd imm : Nat) (s : State) : Host.Outcome State Fault Refusal :=
  .next (s.issue t fun s => s.retire t rd (luiValue imm))

/-! ## Memory and atomic instructions (Table 17.5) -/

/-- LD8U: 1 byte, zero-extended. -/
def execLd8u (t rd ra imm : Nat) (s : State) : Host.Outcome State Fault Refusal :=
  .next (s.issue t fun s => s.loadI t rd ra imm 1 (lowZext 8))

/-- LD16U: 2 bytes, zero-extended. -/
def execLd16u (t rd ra imm : Nat) (s : State) : Host.Outcome State Fault Refusal :=
  .next (s.issue t fun s => s.loadI t rd ra imm 2 (lowZext 16))

/-- LD32U: 4 bytes, zero-extended. -/
def execLd32u (t rd ra imm : Nat) (s : State) : Host.Outcome State Fault Refusal :=
  .next (s.issue t fun s => s.loadI t rd ra imm 4 (lowZext 32))

/-- LD64: 8 bytes. -/
def execLd64 (t rd ra imm : Nat) (s : State) : Host.Outcome State Fault Refusal :=
  .next (s.issue t fun s => s.loadI t rd ra imm 8 (lowZext 64))

/-- LD8S: 1 byte, sign-extended. -/
def execLd8s (t rd ra imm : Nat) (s : State) : Host.Outcome State Fault Refusal :=
  .next (s.issue t fun s => s.loadI t rd ra imm 1 (lowSext 8))

/-- LD16S: 2 bytes, sign-extended. -/
def execLd16s (t rd ra imm : Nat) (s : State) : Host.Outcome State Fault Refusal :=
  .next (s.issue t fun s => s.loadI t rd ra imm 2 (lowSext 16))

/-- LD32S: 4 bytes, sign-extended. -/
def execLd32s (t rd ra imm : Nat) (s : State) : Host.Outcome State Fault Refusal :=
  .next (s.issue t fun s => s.loadI t rd ra imm 4 (lowSext 32))

/-- ST8: the low 1 byte of the data register. -/
def execSt8 (t ra rb imm : Nat) (s : State) : Host.Outcome State Fault Refusal :=
  .next (s.issue t fun s => s.storeI t ra rb imm 1)

/-- ST16: the low 2 bytes of the data register. -/
def execSt16 (t ra rb imm : Nat) (s : State) : Host.Outcome State Fault Refusal :=
  .next (s.issue t fun s => s.storeI t ra rb imm 2)

/-- ST32: the low 4 bytes of the data register. -/
def execSt32 (t ra rb imm : Nat) (s : State) : Host.Outcome State Fault Refusal :=
  .next (s.issue t fun s => s.storeI t ra rb imm 4)

/-- ST64: the low 8 bytes of the data register. -/
def execSt64 (t ra rb imm : Nat) (s : State) : Host.Outcome State Fault Refusal :=
  .next (s.issue t fun s => s.storeI t ra rb imm 8)

/-- AMO: an indivisible read-modify-write; rd takes the old value. -/
def execAmo (t rd ra rb func : Nat) (s : State) : Host.Outcome State Fault Refusal :=
  .next (s.issue t fun s => s.amo t rd ra rb func)

/-! ## Control transfer (Table 17.6) -/

/-- BEQ: ra equals rb. -/
def execBeq (t ra rb offset : Nat) (s : State) : Host.Outcome State Fault Refusal :=
  .next (s.issue t fun s => s.branch t ra rb offset (fun a b => a == b))

/-- BNE: ra differs from rb. -/
def execBne (t ra rb offset : Nat) (s : State) : Host.Outcome State Fault Refusal :=
  .next (s.issue t fun s => s.branch t ra rb offset (fun a b => a != b))

/-- BLT: ra < rb, signed. -/
def execBlt (t ra rb offset : Nat) (s : State) : Host.Outcome State Fault Refusal :=
  .next (s.issue t fun s => s.branch t ra rb offset (fun a b => a.slt b))

/-- BGE: ra ≥ rb, signed. -/
def execBge (t ra rb offset : Nat) (s : State) : Host.Outcome State Fault Refusal :=
  .next (s.issue t fun s => s.branch t ra rb offset (fun a b => !a.slt b))

/-- BLTU: ra < rb, unsigned. -/
def execBltu (t ra rb offset : Nat) (s : State) : Host.Outcome State Fault Refusal :=
  .next (s.issue t fun s => s.branch t ra rb offset (fun a b => a.ult b))

/-- BGEU: ra ≥ rb, unsigned. -/
def execBgeu (t ra rb offset : Nat) (s : State) : Host.Outcome State Fault Refusal :=
  .next (s.issue t fun s => s.branch t ra rb offset (fun a b => !a.ult b))

/-- J: PC := PC + 4 × OFFSET. -/
def execJ (t offset : Nat) (s : State) : Host.Outcome State Fault Refusal :=
  .next (s.issue t fun s => s.jumpTo t (branchTarget (s.thread t).pc 26 offset))

/-- JAL: w31 := PC + 4, then as J. -/
def execJal (t offset : Nat) (s : State) : Host.Outcome State Fault Refusal :=
  .next (s.issue t fun s => s.linkTo t 31 (branchTarget (s.thread t).pc 26 offset))

/-- JALR: to ra + sext(IMM), which must be a multiple of 4; rd := PC + 4. -/
def execJalr (t rd ra imm : Nat) (s : State) : Host.Outcome State Fault Refusal :=
  .next (s.issue t fun s => s.jumpReg t rd ra imm)

/-! ## Channels, events and special registers (Table 17.7) -/

/-- CHW: rb staged for channel ra (R548). -/
def execChw (t ra rb : Nat) (s : State) : Host.Outcome State Fault Refusal :=
  .next (s.issue t fun s => s.stageWord t ra rb)

/-- CHWE: the staged words committed with rb as the END word, blocking. -/
def execChwe (t ra rb : Nat) (s : State) : Host.Outcome State Fault Refusal :=
  .next (s.issue t fun s => s.commitWord t 0 ra rb true)

/-- CHWEP: as CHWE without blocking; rd tells whether it committed. -/
def execChwep (t rd ra rb : Nat) (s : State) : Host.Outcome State Fault Refusal :=
  .next (s.issue t fun s => s.commitWord t rd ra rb false)

/-- CHR: the next committed word of channel ra, blocking. -/
def execChr (t rd ra : Nat) (s : State) : Host.Outcome State Fault Refusal :=
  .next (s.issue t fun s => s.readChan t rd ra true)

/-- CHRP: as CHR without blocking. -/
def execChrp (t rd ra : Nat) (s : State) : Host.Outcome State Fault Refusal :=
  .next (s.issue t fun s => s.readChan t rd ra false)

/-- EWAIT: waits for an enabled event input (R515). -/
def execEwait (t rd : Nat) (s : State) : Host.Outcome State Fault Refusal :=
  .next (s.issue t fun s => s.waitEvents t rd true)

/-- EPOLL: as EWAIT without blocking. -/
def execEpoll (t rd : Nat) (s : State) : Host.Outcome State Fault Refusal :=
  .next (s.issue t fun s => s.waitEvents t rd false)

/-- SIGNAL: raises input rb of the thread with INDEX ra (R549). -/
def execSignal (t ra rb : Nat) (s : State) : Host.Outcome State Fault Refusal :=
  .next (s.issue t fun s => s.signal t ra rb)

/-- MFSR (R542). -/
def execMfsr (t rd sr : Nat) (s : State) : Host.Outcome State Fault Refusal :=
  .next (s.issue t fun s => s.readSpecial t rd sr)

/-- MTSR (R542). -/
def execMtsr (t ra sr : Nat) (s : State) : Host.Outcome State Fault Refusal :=
  .next (s.issue t fun s => s.writeSpecial t ra sr)

/-- IRET (R552). -/
def execIret (t : Nat) (s : State) : Host.Outcome State Fault Refusal :=
  .next (s.issue t fun s => s.intReturn t)

/-- BREAK (R553). -/
def execBreakInsn (t : Nat) (s : State) : Host.Outcome State Fault Refusal :=
  .next (s.issue t fun s => s.breakTrap t)

/-- YIELD: only the time of the next issue is affected. -/
def execYield (t : Nat) (s : State) : Host.Outcome State Fault Refusal :=
  .next (s.issue t fun s => s.pass t)

/-- FENCE: every earlier access of this model has completed (R555). -/
def execFence (t : Nat) (s : State) : Host.Outcome State Fault Refusal :=
  .next (s.issue t fun s => s.pass t)

/-- FENCE.S (R555). -/
def execFenceS (t : Nat) (s : State) : Host.Outcome State Fault Refusal :=
  .next (s.issue t fun s => s.pass t)

/-- FENCE.I (R555). -/
def execFenceI (t : Nat) (s : State) : Host.Outcome State Fault Refusal :=
  .next (s.issue t fun s => s.pass t)

/-! ## Fields, checksums and hashes (R550, R551) -/

/-- HLD (R550). -/
def execHld (t rd ra field : Nat) (s : State) : Host.Outcome State Fault Refusal :=
  .next (s.issue t fun s => s.fieldLoad t rd ra field)

/-- HST (R550). -/
def execHst (t rd ra field : Nat) (s : State) : Host.Outcome State Fault Refusal :=
  .next (s.issue t fun s => s.fieldStore t rd ra field)

/-- CSUM.ADD: 64-bit one's-complement sum. -/
def execCsumAdd (t rd ra rb : Nat) (s : State) : Host.Outcome State Fault Refusal :=
  .next (s.issue t fun s => s.alu t rd ra rb onesAdd)

/-- CSUM.FOLD: folded to 16 bits. -/
def execCsumFold (t rd ra : Nat) (s : State) : Host.Outcome State Fault Refusal :=
  .next (s.issue t fun s => s.alu1 t rd ra (fun a => BitVec.ofNat 64 (csumFold a)))

/-- CSUM.FOLDN: folded to 16 bits, those complemented. -/
def execCsumFoldn (t rd ra : Nat) (s : State) : Host.Outcome State Fault Refusal :=
  .next (s.issue t fun s => s.alu1 t rd ra (fun a => BitVec.ofNat 64 (0xFFFF - csumFold a)))

/-- CRC32.B: ra[31:0] advanced by rb[7:0]. -/
def execCrc32B (t rd ra rb : Nat) (s : State) : Host.Outcome State Fault Refusal :=
  .next (s.issue t fun s => s.alu t rd ra rb (fun a b => crcOver crc32Poly a (toLe 1 b.toNat)))

/-- CRC32.D: ra[31:0] advanced by the 8 bytes of rb. -/
def execCrc32D (t rd ra rb : Nat) (s : State) : Host.Outcome State Fault Refusal :=
  .next (s.issue t fun s => s.alu t rd ra rb (fun a b => crcOver crc32Poly a (toLe 8 b.toNat)))

/-- CRC32C.B. -/
def execCrc32cB (t rd ra rb : Nat) (s : State) : Host.Outcome State Fault Refusal :=
  .next (s.issue t fun s => s.alu t rd ra rb (fun a b => crcOver crc32cPoly a (toLe 1 b.toNat)))

/-- CRC32C.D. -/
def execCrc32cD (t rd ra rb : Nat) (s : State) : Host.Outcome State Fault Refusal :=
  .next (s.issue t fun s => s.alu t rd ra rb (fun a b => crcOver crc32cPoly a (toLe 8 b.toNat)))

/-- MIX64 (R551). -/
def execMix64 (t rd ra rb : Nat) (s : State) : Host.Outcome State Fault Refusal :=
  .next (s.issue t fun s => s.alu t rd ra rb mix64)

end Sys2Proof.Machine
end

