-- ==== Sys2Proof/Machine/IsaDecode.lean ====
section
/-! DEFINITION. Encodings of the Rollanen instruction set (spec/17 R545, R546, Tables 17.3–17.7): decoding of a 32-bit word,
encoding, the fetch of the instruction at a thread's address, THREAD_DEBUG_STEP and ILLEGAL_INSTRUCTION: table rows 237 and
376. -/

namespace Sys2Proof.Machine

/-! ## Fields (Table 17.3) -/

def fOp (w : Nat) : Nat := w / 2 ^ 26
def fA (w : Nat) : Nat := w / 2 ^ 21 % 32
def fB (w : Nat) : Nat := w / 2 ^ 16 % 32
def fC (w : Nat) : Nat := w / 2 ^ 11 % 32
def fFunc (w : Nat) : Nat := w % 2 ^ 11
def fImm (w : Nat) : Nat := w % 2 ^ 16

/-! ## Decoding -/

/-- Integer instructions, OP 0x00 (Table 17.4). -/
def decodeInt (t w : Nat) : Option Instr :=
  match fFunc w with
  | 0x000 => some (.add t (fA w) (fB w) (fC w))
  | 0x001 => some (.sub t (fA w) (fB w) (fC w))
  | 0x002 => some (.and t (fA w) (fB w) (fC w))
  | 0x003 => some (.or t (fA w) (fB w) (fC w))
  | 0x004 => some (.xor t (fA w) (fB w) (fC w))
  | 0x005 => some (.shl t (fA w) (fB w) (fC w))
  | 0x006 => some (.shr t (fA w) (fB w) (fC w))
  | 0x007 => some (.sar t (fA w) (fB w) (fC w))
  | 0x008 => some (.slt t (fA w) (fB w) (fC w))
  | 0x009 => some (.sltu t (fA w) (fB w) (fC w))
  | 0x00A => some (.min t (fA w) (fB w) (fC w))
  | 0x00B => some (.max t (fA w) (fB w) (fC w))
  | 0x00C => some (.minu t (fA w) (fB w) (fC w))
  | 0x00D => some (.maxu t (fA w) (fB w) (fC w))
  | 0x010 => some (.mul t (fA w) (fB w) (fC w))
  | 0x011 => some (.mulh t (fA w) (fB w) (fC w))
  | 0x012 => some (.mulhu t (fA w) (fB w) (fC w))
  | 0x014 => some (.div t (fA w) (fB w) (fC w))
  | 0x015 => some (.divu t (fA w) (fB w) (fC w))
  | 0x016 => some (.rem t (fA w) (fB w) (fC w))
  | 0x017 => some (.remu t (fA w) (fB w) (fC w))
  | 0x020 => if fC w = 0 then some (.clz t (fA w) (fB w)) else none
  | 0x021 => if fC w = 0 then some (.ctz t (fA w) (fB w)) else none
  | 0x022 => if fC w = 0 then some (.popc t (fA w) (fB w)) else none
  | 0x023 => if fC w = 0 then some (.bswap64 t (fA w) (fB w)) else none
  | 0x024 => if fC w = 0 then some (.bswap32 t (fA w) (fB w)) else none
  | 0x025 => if fC w = 0 then some (.bswap16 t (fA w) (fB w)) else none
  | _ => none

/-- Channel instructions, OP 0x30 (Table 17.7). -/
def decodeChan (t w : Nat) : Option Instr :=
  match fFunc w with
  | 0x000 => if fA w = 0 then some (.chw t (fB w) (fC w)) else none
  | 0x001 => if fA w = 0 then some (.chwe t (fB w) (fC w)) else none
  | 0x002 => some (.chwep t (fA w) (fB w) (fC w))
  | 0x004 => if fC w = 0 then some (.chr t (fA w) (fB w)) else none
  | 0x005 => if fC w = 0 then some (.chrp t (fA w) (fB w)) else none
  | _ => none

/-- Event instructions, OP 0x31. -/
def decodeEvent (t w : Nat) : Option Instr :=
  match fFunc w with
  | 0x000 => if fB w = 0 ∧ fC w = 0 then some (.ewait t (fA w)) else none
  | 0x001 => if fB w = 0 ∧ fC w = 0 then some (.epoll t (fA w)) else none
  | 0x002 => if fA w = 0 then some (.signal t (fB w) (fC w)) else none
  | _ => none

/-- System instructions, OP 0x34. -/
def decodeSystem (t w : Nat) : Option Instr :=
  match fFunc w with
  | 0x000 => if fA w = 0 ∧ fB w = 0 ∧ fC w = 0 then some (.iret t) else none
  | 0x001 => if fA w = 0 ∧ fB w = 0 ∧ fC w = 0 then some (.breakInsn t) else none
  | 0x002 => if fA w = 0 ∧ fB w = 0 ∧ fC w = 0 then some (.yield t) else none
  | 0x004 => if fA w = 0 ∧ fB w = 0 ∧ fC w = 0 then some (.fence t) else none
  | 0x005 => if fA w = 0 ∧ fB w = 0 ∧ fC w = 0 then some (.fenceS t) else none
  | 0x006 => if fA w = 0 ∧ fB w = 0 ∧ fC w = 0 then some (.fenceI t) else none
  | _ => none

/-- Checksum instructions, OP 0x3A. -/
def decodeCsum (t w : Nat) : Option Instr :=
  match fFunc w with
  | 0x000 => some (.csumAdd t (fA w) (fB w) (fC w))
  | 0x001 => if fC w = 0 then some (.csumFold t (fA w) (fB w)) else none
  | 0x002 => if fC w = 0 then some (.csumFoldn t (fA w) (fB w)) else none
  | _ => none

/-- Hash instructions, OP 0x3B. -/
def decodeHash (t w : Nat) : Option Instr :=
  match fFunc w with
  | 0x000 => some (.crc32B t (fA w) (fB w) (fC w))
  | 0x001 => some (.crc32D t (fA w) (fB w) (fC w))
  | 0x002 => some (.crc32cB t (fA w) (fB w) (fC w))
  | 0x003 => some (.crc32cD t (fA w) (fB w) (fC w))
  | 0x004 => some (.mix64 t (fA w) (fB w) (fC w))
  | _ => none

/-- The instruction a word encodes for a thread, none where it is undefined or reserved (R546). -/
def decodeWord (t : Nat) (w : Nat) : Option Instr :=
  match fOp w with
  | 0x00 => decodeInt t w
  | 0x01 => some (.addi t (fA w) (fB w) (fImm w))
  | 0x02 => some (.andi t (fA w) (fB w) (fImm w))
  | 0x03 => some (.ori t (fA w) (fB w) (fImm w))
  | 0x04 => some (.xori t (fA w) (fB w) (fImm w))
  | 0x08 => some (.slti t (fA w) (fB w) (fImm w))
  | 0x09 => some (.sltiu t (fA w) (fB w) (fImm w))
  | 0x10 => some (.ld8u t (fA w) (fB w) (fImm w))
  | 0x11 => some (.ld16u t (fA w) (fB w) (fImm w))
  | 0x12 => some (.ld32u t (fA w) (fB w) (fImm w))
  | 0x13 => some (.ld64 t (fA w) (fB w) (fImm w))
  | 0x14 => some (.ld8s t (fA w) (fB w) (fImm w))
  | 0x15 => some (.ld16s t (fA w) (fB w) (fImm w))
  | 0x16 => some (.ld32s t (fA w) (fB w) (fImm w))
  | 0x05 => if fImm w < 64 then some (.shli t (fA w) (fB w) (fImm w)) else none
  | 0x06 => if fImm w < 64 then some (.shri t (fA w) (fB w) (fImm w)) else none
  | 0x07 => if fImm w < 64 then some (.sari t (fA w) (fB w) (fImm w)) else none
  | 0x0A => some (.lui t (fA w) (w % 2 ^ 21))
  | 0x18 => some (.st8 t (fB w) (fA w) (fImm w))
  | 0x19 => some (.st16 t (fB w) (fA w) (fImm w))
  | 0x1A => some (.st32 t (fB w) (fA w) (fImm w))
  | 0x1B => some (.st64 t (fB w) (fA w) (fImm w))
  | 0x1C => if fFunc w < 16 then some (.amo t (fA w) (fB w) (fC w) (fFunc w)) else none
  | 0x20 => some (.beq t (fA w) (fB w) (fImm w))
  | 0x21 => some (.bne t (fA w) (fB w) (fImm w))
  | 0x22 => some (.blt t (fA w) (fB w) (fImm w))
  | 0x23 => some (.bge t (fA w) (fB w) (fImm w))
  | 0x24 => some (.bltu t (fA w) (fB w) (fImm w))
  | 0x25 => some (.bgeu t (fA w) (fB w) (fImm w))
  | 0x26 => some (.j t (w % 2 ^ 26))
  | 0x27 => some (.jal t (w % 2 ^ 26))
  | 0x28 => some (.jalr t (fA w) (fB w) (fImm w))
  | 0x30 => decodeChan t w
  | 0x31 => decodeEvent t w
  | 0x32 => if fB w = 0 ∧ fImm w < 2 ^ 12 then some (.mfsr t (fA w) (fImm w)) else none
  | 0x33 => if fA w = 0 ∧ fImm w < 2 ^ 12 then some (.mtsr t (fB w) (fImm w)) else none
  | 0x34 => decodeSystem t w
  | 0x38 => some (.hld t (fA w) (fB w) (fImm w))
  | 0x39 => some (.hst t (fA w) (fB w) (fImm w))
  | 0x3A => decodeCsum t w
  | 0x3B => decodeHash t w
  | _ => none

/-! ## Encoding -/

/-- Formats R, I (and H), J and U of Table 17.3. -/
def encR (op a b c func : Nat) : Nat := op * 2 ^ 26 + a * 2 ^ 21 + b * 2 ^ 16 + c * 2 ^ 11 + func
def encI (op a b imm : Nat) : Nat := op * 2 ^ 26 + a * 2 ^ 21 + b * 2 ^ 16 + imm
def encJ (op offset : Nat) : Nat := op * 2 ^ 26 + offset
def encU (op a imm : Nat) : Nat := op * 2 ^ 26 + a * 2 ^ 21 + imm

/-- The word of a Rollanen instruction; none for every other command. -/
def encodeWord : Instr → Option Nat
  | .add _ rd ra rb => some (encR 0x00 rd ra rb 0x0)
  | .sub _ rd ra rb => some (encR 0x00 rd ra rb 0x1)
  | .and _ rd ra rb => some (encR 0x00 rd ra rb 0x2)
  | .or _ rd ra rb => some (encR 0x00 rd ra rb 0x3)
  | .xor _ rd ra rb => some (encR 0x00 rd ra rb 0x4)
  | .shl _ rd ra rb => some (encR 0x00 rd ra rb 0x5)
  | .shr _ rd ra rb => some (encR 0x00 rd ra rb 0x6)
  | .sar _ rd ra rb => some (encR 0x00 rd ra rb 0x7)
  | .slt _ rd ra rb => some (encR 0x00 rd ra rb 0x8)
  | .sltu _ rd ra rb => some (encR 0x00 rd ra rb 0x9)
  | .min _ rd ra rb => some (encR 0x00 rd ra rb 0xA)
  | .max _ rd ra rb => some (encR 0x00 rd ra rb 0xB)
  | .minu _ rd ra rb => some (encR 0x00 rd ra rb 0xC)
  | .maxu _ rd ra rb => some (encR 0x00 rd ra rb 0xD)
  | .mul _ rd ra rb => some (encR 0x00 rd ra rb 0x10)
  | .mulh _ rd ra rb => some (encR 0x00 rd ra rb 0x11)
  | .mulhu _ rd ra rb => some (encR 0x00 rd ra rb 0x12)
  | .div _ rd ra rb => some (encR 0x00 rd ra rb 0x14)
  | .divu _ rd ra rb => some (encR 0x00 rd ra rb 0x15)
  | .rem _ rd ra rb => some (encR 0x00 rd ra rb 0x16)
  | .remu _ rd ra rb => some (encR 0x00 rd ra rb 0x17)
  | .clz _ rd ra => some (encR 0x00 rd ra 0 0x20)
  | .ctz _ rd ra => some (encR 0x00 rd ra 0 0x21)
  | .popc _ rd ra => some (encR 0x00 rd ra 0 0x22)
  | .bswap64 _ rd ra => some (encR 0x00 rd ra 0 0x23)
  | .bswap32 _ rd ra => some (encR 0x00 rd ra 0 0x24)
  | .bswap16 _ rd ra => some (encR 0x00 rd ra 0 0x25)
  | .chw _ ra rb => some (encR 0x30 0 ra rb 0x0)
  | .chwe _ ra rb => some (encR 0x30 0 ra rb 0x1)
  | .chwep _ rd ra rb => some (encR 0x30 rd ra rb 0x2)
  | .chr _ rd ra => some (encR 0x30 rd ra 0 0x4)
  | .chrp _ rd ra => some (encR 0x30 rd ra 0 0x5)
  | .ewait _ rd => some (encR 0x31 rd 0 0 0x0)
  | .epoll _ rd => some (encR 0x31 rd 0 0 0x1)
  | .signal _ ra rb => some (encR 0x31 0 ra rb 0x2)
  | .iret _ => some (encR 0x34 0 0 0 0x0)
  | .breakInsn _ => some (encR 0x34 0 0 0 0x1)
  | .yield _ => some (encR 0x34 0 0 0 0x2)
  | .fence _ => some (encR 0x34 0 0 0 0x4)
  | .fenceS _ => some (encR 0x34 0 0 0 0x5)
  | .fenceI _ => some (encR 0x34 0 0 0 0x6)
  | .csumAdd _ rd ra rb => some (encR 0x3A rd ra rb 0x0)
  | .csumFold _ rd ra => some (encR 0x3A rd ra 0 0x1)
  | .csumFoldn _ rd ra => some (encR 0x3A rd ra 0 0x2)
  | .crc32B _ rd ra rb => some (encR 0x3B rd ra rb 0x0)
  | .crc32D _ rd ra rb => some (encR 0x3B rd ra rb 0x1)
  | .crc32cB _ rd ra rb => some (encR 0x3B rd ra rb 0x2)
  | .crc32cD _ rd ra rb => some (encR 0x3B rd ra rb 0x3)
  | .mix64 _ rd ra rb => some (encR 0x3B rd ra rb 0x4)
  | .addi _ rd ra imm => some (encI 0x01 rd ra imm)
  | .andi _ rd ra imm => some (encI 0x02 rd ra imm)
  | .ori _ rd ra imm => some (encI 0x03 rd ra imm)
  | .xori _ rd ra imm => some (encI 0x04 rd ra imm)
  | .slti _ rd ra imm => some (encI 0x08 rd ra imm)
  | .sltiu _ rd ra imm => some (encI 0x09 rd ra imm)
  | .ld8u _ rd ra imm => some (encI 0x10 rd ra imm)
  | .ld16u _ rd ra imm => some (encI 0x11 rd ra imm)
  | .ld32u _ rd ra imm => some (encI 0x12 rd ra imm)
  | .ld64 _ rd ra imm => some (encI 0x13 rd ra imm)
  | .ld8s _ rd ra imm => some (encI 0x14 rd ra imm)
  | .ld16s _ rd ra imm => some (encI 0x15 rd ra imm)
  | .ld32s _ rd ra imm => some (encI 0x16 rd ra imm)
  | .shli _ rd ra imm => some (encI 0x05 rd ra imm)
  | .shri _ rd ra imm => some (encI 0x06 rd ra imm)
  | .sari _ rd ra imm => some (encI 0x07 rd ra imm)
  | .jalr _ rd ra imm => some (encI 0x28 rd ra imm)
  | .lui _ rd imm => some (encU 0x0A rd imm)
  | .st8 _ ra rb imm => some (encI 0x18 rb ra imm)
  | .st16 _ ra rb imm => some (encI 0x19 rb ra imm)
  | .st32 _ ra rb imm => some (encI 0x1A rb ra imm)
  | .st64 _ ra rb imm => some (encI 0x1B rb ra imm)
  | .amo _ rd ra rb func => some (encR 0x1C rd ra rb func)
  | .beq _ ra rb offset => some (encI 0x20 ra rb offset)
  | .bne _ ra rb offset => some (encI 0x21 ra rb offset)
  | .blt _ ra rb offset => some (encI 0x22 ra rb offset)
  | .bge _ ra rb offset => some (encI 0x23 ra rb offset)
  | .bltu _ ra rb offset => some (encI 0x24 ra rb offset)
  | .bgeu _ ra rb offset => some (encI 0x25 ra rb offset)
  | .j _ offset => some (encJ 0x26 offset)
  | .jal _ offset => some (encJ 0x27 offset)
  | .mfsr _ rd sr => some (encI 0x32 rd 0 sr)
  | .mtsr _ ra sr => some (encI 0x33 0 ra sr)
  | .hld _ rd ra field => some (encI 0x38 rd ra field)
  | .hst _ rd ra field => some (encI 0x39 rd ra field)
  | _ => none

/-! ## Fetch and STEP -/

/-- The state that an instruction's command leaves. -/
def outcomeState (d : State) : Host.Outcome State Fault Refusal → State
  | .next s => s
  | _ => d

/-- A decoded instruction run. -/
def runInsn (i : Instr) (s : State) : State :=
  outcomeState s (match i with
  | .add t a b c => execAdd t a b c s
  | .sub t a b c => execSub t a b c s
  | .and t a b c => execAnd t a b c s
  | .or t a b c => execOr t a b c s
  | .xor t a b c => execXor t a b c s
  | .shl t a b c => execShl t a b c s
  | .shr t a b c => execShr t a b c s
  | .sar t a b c => execSar t a b c s
  | .slt t a b c => execSlt t a b c s
  | .sltu t a b c => execSltu t a b c s
  | .min t a b c => execMin t a b c s
  | .max t a b c => execMax t a b c s
  | .minu t a b c => execMinu t a b c s
  | .maxu t a b c => execMaxu t a b c s
  | .mul t a b c => execMul t a b c s
  | .mulh t a b c => execMulh t a b c s
  | .mulhu t a b c => execMulhu t a b c s
  | .div t a b c => execDiv t a b c s
  | .divu t a b c => execDivu t a b c s
  | .rem t a b c => execRem t a b c s
  | .remu t a b c => execRemu t a b c s
  | .clz t a b => execClz t a b s
  | .ctz t a b => execCtz t a b s
  | .popc t a b => execPopc t a b s
  | .bswap64 t a b => execBswap64 t a b s
  | .bswap32 t a b => execBswap32 t a b s
  | .bswap16 t a b => execBswap16 t a b s
  | .chw t a b => execChw t a b s
  | .chwe t a b => execChwe t a b s
  | .chwep t a b c => execChwep t a b c s
  | .chr t a b => execChr t a b s
  | .chrp t a b => execChrp t a b s
  | .ewait t a => execEwait t a s
  | .epoll t a => execEpoll t a s
  | .signal t a b => execSignal t a b s
  | .iret t => execIret t s
  | .breakInsn t => execBreakInsn t s
  | .yield t => execYield t s
  | .fence t => execFence t s
  | .fenceS t => execFenceS t s
  | .fenceI t => execFenceI t s
  | .csumAdd t a b c => execCsumAdd t a b c s
  | .csumFold t a b => execCsumFold t a b s
  | .csumFoldn t a b => execCsumFoldn t a b s
  | .crc32B t a b c => execCrc32B t a b c s
  | .crc32D t a b c => execCrc32D t a b c s
  | .crc32cB t a b c => execCrc32cB t a b c s
  | .crc32cD t a b c => execCrc32cD t a b c s
  | .mix64 t a b c => execMix64 t a b c s
  | .addi t a b c => execAddi t a b c s
  | .andi t a b c => execAndi t a b c s
  | .ori t a b c => execOri t a b c s
  | .xori t a b c => execXori t a b c s
  | .slti t a b c => execSlti t a b c s
  | .sltiu t a b c => execSltiu t a b c s
  | .ld8u t a b c => execLd8u t a b c s
  | .ld16u t a b c => execLd16u t a b c s
  | .ld32u t a b c => execLd32u t a b c s
  | .ld64 t a b c => execLd64 t a b c s
  | .ld8s t a b c => execLd8s t a b c s
  | .ld16s t a b c => execLd16s t a b c s
  | .ld32s t a b c => execLd32s t a b c s
  | .shli t a b c => execShli t a b c s
  | .shri t a b c => execShri t a b c s
  | .sari t a b c => execSari t a b c s
  | .jalr t a b c => execJalr t a b c s
  | .lui t a b => execLui t a b s
  | .st8 t a b c => execSt8 t a b c s
  | .st16 t a b c => execSt16 t a b c s
  | .st32 t a b c => execSt32 t a b c s
  | .st64 t a b c => execSt64 t a b c s
  | .amo t a b c d => execAmo t a b c d s
  | .beq t a b c => execBeq t a b c s
  | .bne t a b c => execBne t a b c s
  | .blt t a b c => execBlt t a b c s
  | .bge t a b c => execBge t a b c s
  | .bltu t a b c => execBltu t a b c s
  | .bgeu t a b c => execBgeu t a b c s
  | .j t a => execJ t a s
  | .jal t a => execJal t a s
  | .mfsr t a b => execMfsr t a b s
  | .mtsr t a b => execMtsr t a b s
  | .hld t a b c => execHld t a b c s
  | .hst t a b c => execHst t a b c s
  | _ => .next s)

/-- The word at a thread's address. -/
def State.fetchWord (s : State) (t : Nat) : Nat :=
  let pc := (s.thread t).pc
  if pc < 0x200000 then le (s.readBytes (.pod (threadPod t)) pc 4) else le (s.readBytes (.shared (threadDie t)) (pc - 0x400000) 4)

/-- One instruction of a thread, fetched from memory and run. -/
def State.stepThread (t : Nat) (s : State) : State :=
  if (s.thread t).state ≠ .running then s
  else
    match decodeWord t (s.fetchWord t) with
    | some i => runInsn i s
    | none => s.issue t fun s => s.threadFault t fcIllegal none

/-- THREAD_DEBUG_STEP (R529). -/
def execThreadDebugStep (p : Packet) (s : State) : Host.Outcome State Fault Refusal :=
  runPlain 0x8901 (p.withOp 2) (debugWith (debugStep State.stepThread)) s

/-- ILLEGAL_INSTRUCTION (R546): a fetched word that is undefined or reserved faults with ILLEGAL. -/
def execIllegalInstruction (t : Nat) (word : Word32) (s : State) : Host.Outcome State Fault Refusal :=
  .next (if (decodeWord t word.toNat).isSome then s else s.issue t fun s => s.threadFault t fcIllegal none)

end Sys2Proof.Machine
end

