-- ==== Sys2Proof/Machine/Power.lean ====
section
/-! DEFINITION. Power, resets, boot, clocks and temperature (spec/02, spec/19 clocks, spec/21): table rows 0–22 except
PLL_LOCK_LOSS and THERMAL_TRIP, which remove a die (`Machine/Failover.lean`). -/

namespace Sys2Proof.Machine

/-- The wake settings of the auxiliary island, with everything else of the block at reset (R42, R116, R216). -/
def Synce.keepAux (y : Synce) : Synce :=
  { Synce.reset with wakeAddr := y.wakeAddr, wakeEnable := y.wakeEnable, wakeSpeed := y.wakeSpeed,
                     wakePattern := y.wakePattern, wakeFrameLinks := y.wakeFrameLinks, chainWakeEn := y.chainWakeEn }

/-- The boot sequence at its start; fuses, supplies, clocks, pins and flash contents stay (R42, R53, R56, R58). -/
def Boot.restart (b : Boot) : Boot :=
  { Boot.reset with
    part := b.part, cipher := b.cipher, dramGib := b.dramGib, fuses := b.fuses, vaux := b.vaux, vin := b.vin, railsGood := b.railsGood,
    pkgReset := b.pkgReset, jtagState := b.jtagState, refclk := b.refclk, slotFailedA := b.slotFailedA,
    slotFailedB := b.slotFailedB, flashA := b.flashA, flashB := b.flashB }

/-- Links after a package reset: PERST_N keeps its level, D3cold and WAKE_N stay, RELEASE_NONCE is drawn anew. -/
def State.restartLinks (s : State) (was : State) : State :=
  (List.range s.dieCount).foldl (fun s d =>
    let (n, s) := s.draw 16
    let l := was.link d
    s.setLink d { Link.reset with perst := l.perst, d3cold := l.d3cold, wakeFrame := l.wakeFrame, nonce := some n }) s

/-- A package reset (R41, R42, R77, R78): all but the auxiliary island, the fuses, the flash, memory outside the
package and the model's own fields starts afresh. BOOT_ID is drawn anew (R147). -/
def State.packageReset (s : State) : State :=
  let t : State :=
    { State.reset with
      boot := s.boot.restart, chain := { s.chain with spdmVersion := false, spdmAlgorithms := false, spdmSession := false, spdmExchange := false },
      synce := s.synce.keepAux, errors := { Errors.reset with fatalLast := s.errors.fatalLast }, mem := s.mem,
      out := s.out, freeCtr := s.freeCtr, pending := s.pending }
  let (id, t) := t.draw 32
  let t := { t with journal := { t.journal with bootId := id } }
  t.restartLinks s

/-- VAUX_RISE (R623, R70): the island powers up unaddressed at rate code 0 and forwards frames. -/
def execVauxRise (s : State) : Host.Outcome State Fault Refusal :=
  if s.boot.vaux then .next s
  else .next { s with boot := { s.boot with vaux := true }, chain := Chain.reset, synce := Synce.reset }

/-- VAUX_LOSS (R623, R74): the package is in bypass for want of VAUX; with VIN present the package resets as for low VIN; the island loses its state, and
FATAL_LAST with it (R602). -/
def execVauxLoss (s : State) : Host.Outcome State Fault Refusal :=
  let s := if s.boot.vin then s.packageReset else s
  .next { s with
    boot := { s.boot with vaux := false, railsGood := false },
    chain := { Chain.reset with forwarding := false },
    synce := Synce.reset, errors := { s.errors with fatalLast := none } }

/-- VIN_RISE (R623): VIN reaches 4.5 V. -/
def execVinRise (s : State) : Host.Outcome State Fault Refusal :=
  .next { s with boot := { s.boot with vin := true } }

/-- RAILS_GOOD (R624): the rails of every die are good; they are only started with VIN and VAUX present. -/
def execRailsGood (s : State) : Host.Outcome State Fault Refusal :=
  if s.boot.vin && s.boot.vaux then .next { s with boot := { s.boot with railsGood := true } } else .next s

/-- VIN_LOW (R42, R624, R56): a package reset, the rails shut down; slots marked failed are tried again. -/
def execVinLow (s : State) : Host.Outcome State Fault Refusal :=
  let s := s.packageReset
  .next { s with boot := { s.boot with vin := false, railsGood := false, slotFailedA := false, slotFailedB := false } }

/-- RAIL_OUT_OF_REGULATION (R602): reason 4 with VIN in range; a start in progress fails with cause RAIL. -/
def execRailOutOfRegulation (die : Nat) (s : State) : Host.Outcome State Fault Refusal :=
  if s.boot.vin && s.boot.railsGood && decide (die < s.dieCount) then
    let started := decide (s.boot.stage = .ready)
    let s := s.packageStop 4 die
    .next (if started then s
      else { s with boot := { s.boot with stage := .failed, failCause := 3 } })
  else .next s

/-- PKG_RESET_N (R41, R42): asserted, it resets the package; released, the package starts once its rails are good and
its PLLs locked. -/
def execPkgResetN (asserted : Bool) (s : State) : Host.Outcome State Fault Refusal :=
  if asserted then
    let s := s.packageReset
    .next { s with boot := { s.boot with pkgReset := true } }
  else .next { s with boot := { s.boot with pkgReset := false } }

/-- The link's functions, its PFs and their enabled VFs, were in D3hot before PERST_N (R115). -/
def State.linkInD3hot (s : State) (d : Nat) : Bool :=
  (List.range 2).all (fun p =>
    let f := s.func (fnId d p 0)
    f.d3hot && (!f.vfEnable || (List.range f.numVfs).all (fun v => (s.func (fnId d p (v + 1))).d3hot)))

/-- The die number of a position (R47): 0 until the die chain has run. -/
def State.dieAt (s : State) (position : Nat) : Nat := position ^^^ s.boot.numberMask

/-- PERST_N (R45, R51, R107, R115, R116, R634): the pins are named by position. Asserted, the link's endpoint and functions are reset, but FROZEN stays;
released, WAKE_N of the link is released and the link may train. No effect while PKG_RESET_N is low or on a die out of
service. -/
def execPerstN (position : Nat) (asserted : Bool) (s : State) : Host.Outcome State Fault Refusal :=
  let link := s.dieAt position
  if position < s.dieCount then
    if asserted then
      if s.boot.pkgReset || !s.dieWorks link then .next (s.modLink link (fun l => { l with perst := true }))
      else
        let cold := s.linkInD3hot link
        let s := s.resetLinkFunctions link
        let s := s.modLink link (fun l =>
          { Link.reset with
            perst := true, d3cold := cold, frozen := l.frozen, cause := l.cause, causeFn := l.causeFn,
            causeQueue := l.causeQueue, causeIndex := l.causeIndex, repeatCount := l.repeatCount, nonce := l.nonce,
            containedDrops := l.containedDrops, wakeFrame := l.wakeFrame, wakeBy := l.wakeBy })
        .next s.mirrorCheck
    else .next (s.modLink link (fun l => { l with perst := false, d3cold := false, wakeFrame := false, wakeBy := [] }))
  else .next s

/-- TRST_N (R633): only the IEEE 1149.1 controller is reset. -/
def execTrstN (s : State) : Host.Outcome State Fault Refusal :=
  .next { s with boot := { s.boot with jtagState := 0 } }

/-- ROOT_PLL_LOCK (R41, R374): the PLLs of every die lock and the tick counters start from 0; self-test begins. -/
def execRootPllLock (s : State) : Host.Outcome State Fault Refusal :=
  if s.boot.stage = .reset ∧ s.boot.pkgReset = false ∧ s.boot.railsGood = true ∧ s.boot.refclk = true then
    .next { s with times := [], boot := { s.boot with pllLocked := true, stage := .selftest } }
  else .next s

/-- SELF_TEST (R46): the die at a position holds its own result. -/
def execSelfTest (position : Nat) (passed : Bool) (s : State) : Host.Outcome State Fault Refusal :=
  if s.boot.stage = .selftest ∧ position < s.dieCount then
    .next { s with boot := { s.boot with selfDone := setBit s.boot.selfDone position true,
                                         selfPass := setBit s.boot.selfPass position passed } }
  else .next s

/-- The dies whose position did not pass: die number is position XOR NUMBER_MASK (R47, R49). -/
def failedDies (count passed mask : Nat) : Nat :=
  (List.range count).foldl (fun m p => if bit passed p then m else setBit m (p ^^^ mask) true) 0

/-- A table keyed by position, as the die chain numbers the dies (R47, R51). -/
def renumber {α : Type} (mask : Nat) (t : Tbl α) : Tbl α := t.foldl (fun a (k, v) => Tbl.set a (k ^^^ mask) v) []

/-- DIE_CHAIN (R46–R49, R51): the dies are numbered and the lead chosen; with neither position 0 nor 1 passing the package
does not boot. A position with no result by then counts as failed. -/
def execDieChain (s : State) : Host.Outcome State Fault Refusal :=
  if s.boot.stage = .selftest then
    let passed := s.boot.selfDone &&& s.boot.selfPass
    let b := { s.boot with positionPassed := passed }
    if !bit passed 0 && !bit passed 1 then
      .next { s with boot := { b with stage := .failed, failCause := 1 } }
    else
      let mask := if bit passed 0 then 0 else 1
      let s := { s with boot := { b with numberMask := mask, stage := .flash }, links := renumber mask s.links,
                        times := renumber mask s.times, temps := renumber mask s.temps,
                        roles := { Roles.reset with failed := failedDies s.dieCount passed mask } }
      .next (s.appoint 0)
  else .next s

/-- The slot tried first (R55): the larger GENERATION, A if equal or if B has no header; a slot marked failed is passed
over (R56). -/
def Boot.firstSlot (b : Boot) : Nat :=
  if b.slotFailedA then 1 else if b.slotFailedB then 0
  else match b.headerA, b.headerB with
    | some x, some y => if x.generation < y.generation then 1 else 0
    | none, some _ => 1
    | _, _ => 0

/-- The fastest flash mode that the SFDP table declares, by its bits: 0 single, 1 quad, 2 octal DTR (R52). -/
def fastestMode (declared : Nat) : Nat := if bit declared 2 then 2 else if bit declared 1 then 1 else 0

/-- FLASH_HEADER_READ (R52, R53, R55, R58): the flash mode and the slot to try; without a flash the start fails. The headers are
those the flash held, or what firmware has written since. In DECOMMISSIONED the boot ROM loads no image. -/
def execFlashHeaderRead (present : Bool) (modes : Nat) (a b : Option ImageHeader) (s : State) :
    Host.Outcome State Fault Refusal :=
  if s.boot.stage = .flash then
    if present = false then .next { s with boot := { s.boot with stage := .failed, failCause := 2 } }
    else
      let seen := fun (w : Option (List Byte)) (h : Option ImageHeader) => (w.map headerOf).orElse (fun _ => h)
      let boot : Boot := { s.boot with headerA := seen s.boot.flashA a, headerB := seen s.boot.flashB b }
      let boot : Boot := { boot with flashMode := fastestMode modes, stage := .verify, triedOther := false }
      let boot : Boot := { boot with trySlot := boot.firstSlot, fallback := boot.slotFailedA || boot.slotFailedB }
      if s.boot.fuses.lifecycle = .decommissioned ∨ (boot.slotFailedA = true ∧ boot.slotFailedB = true) then
        .next { s with boot := { boot with stage := .noImage } }
      else .next { s with boot := boot }
  else .next s

/-- The header of the slot being tried. -/
def Boot.tryHeader (b : Boot) : Option ImageHeader := if b.trySlot = 0 then b.headerA else b.headerB

/-- The other slot is tried, or the package stops at NO_IMAGE (R55, R56). -/
def Boot.tryOther (b : Boot) : Boot :=
  let other := 1 - b.trySlot
  let barred := if other = 0 then b.slotFailedA else b.slotFailedB
  if b.triedOther || barred then { b with stage := .noImage, fallback := true }
  else { b with trySlot := other, triedOther := true, fallback := true, stage := .verify }

/-- What firmware wrote into the slot being tried. -/
def Boot.tryBytes (b : Boot) : Option (List Byte) := if b.trySlot = 0 then b.flashA else b.flashB

/-- The digests of the image being tried: computed where its bytes are held. -/
def Boot.digests (b : Boot) (h : ImageHeader) (check : ImageCheck) : ImageCheck :=
  match b.tryBytes with
  | none => check
  | some bs =>
    let body := (bs.drop 0x2000).take h.imageLen
    { check with headerSha := le (sha256 (bs.take 0x2000)), bodySha := le (sha256 body),
                 measurement := (Config.sha384 (bs.take 0x2000 ++ body)).toNat }

/-- The alias key of an accepted header and the certificate that the identity key signs (R61). -/
def Boot.deriveAlias (b : Boot) (headerSha : Nat) : Boot :=
  let k := aliasKeyOf b.fuses headerSha
  { b with aliasKey := some k.toNat, aliasCert := Config.p384Public k ++ Config.p384Sign (identityKeyOf b.fuses) (Config.p384Public k),
           identityWithheld := true }

/-- IMAGE_READ (R54, R55, R57, R61): the image of the slot being tried is accepted, and its alias key derived, or the other slot is
tried. -/
def execImageRead (check : ImageCheck) (s : State) : Host.Outcome State Fault Refusal :=
  if s.boot.stage = .verify then
    match s.boot.tryHeader with
    | none => .next { s with boot := s.boot.tryOther }
    | some h =>
      let c := s.boot.digests h check
      if imageValid s.boot.fuses h c.bodySha c.rsaVerifies c.pqVerifies then
        .next { s with boot := ({ s.boot with stage := .init, slot := s.boot.trySlot, runningSvn := h.svn,
                                              imageMeasure := c.measurement } : Boot).deriveAlias c.headerSha }
      else .next { s with boot := s.boot.tryOther }
  else .next s

/-- The DMA channels of storage, bound to the sequencers (R465). -/
def storageChannels (die : Nat) : Tbl DmaChannel :=
  (List.range 16).map (fun i => (die * 64 + 48 + i, { DmaChannel.reset with binder := .sequencer (die * 16 + i) }))

/-- PARTITION values that stand at READY (R480): the reset values, or what firmware holds in PROVISIONED. -/
def State.startPartitions (s : State) : Tbl Partition :=
  if s.boot.fuses.lifecycle = .provisioned then
    s.workingDies.flatMap (fun d => [(2 * d, Partition.provisioned 0), (2 * d + 1, Partition.provisioned 1)])
  else []

/-- FIRMWARE_START (R42, R77, R376): READY; the standard program in bank 0, tempo 0, time from the tick counter. -/
def execFirmwareStart (s : State) : Host.Outcome State Fault Refusal :=
  if s.boot.stage = .init then
    .next { s with
      boot := { s.boot with stage := .ready, pkgReady := true }, banks := [], tempo := Tempo.reset,
      timeModel := { TimeModel.reset with refDie := s.roles.lead },
      channels := s.workingDies.flatMap storageChannels, partitions := s.startPartitions }
  else .next s

/-- BOOT_WATCHDOG (R56): the slot whose firmware did not reach READY is marked failed and the other is tried. -/
def execBootWatchdog (s : State) : Host.Outcome State Fault Refusal :=
  if s.boot.stage = .init then
    let b := if s.boot.slot = 0 then { s.boot with slotFailedA := true } else { s.boot with slotFailedB := true }
    .next { s with boot := b.tryOther }
  else .next s

/-- REFCLK_LOSS (R591): PLLs that are locked hold their frequency, and REFCLK_HOLDOVER is recorded. -/
def execRefclkLoss (s : State) : Host.Outcome State Fault Refusal :=
  if s.boot.refclk && s.boot.pllLocked then
    let s := { s with boot := { s.boot with refclk := false, refclkHoldover := true, holdoverAt := s.dieTick s.roles.lead } }
    .next (s.raise 0x0909 sevDegraded 0 s.roles.lead 0 0 0)
  else .next { s with boot := { s.boot with refclk := false } }

/-- REFCLK_HOLDOVER_EXPIRY (R591, R602): 100 ms after the loss the package stops with reason 3; the record names the lead. -/
def execRefclkHoldoverExpiry (s : State) : Host.Outcome State Fault Refusal :=
  if s.boot.refclkHoldover && decide (s.boot.holdoverAt + 100 * ticksPerMs ≤ s.dieTick s.roles.lead) then
    .next (s.packageStop 3 s.roles.lead)
  else .next s

/-- REFCLK_RETURN (R591): the PLLs relock, no tick counter steps. -/
def execRefclkReturn (s : State) : Host.Outcome State Fault Refusal :=
  .next { s with boot := { s.boot with refclk := true, refclkHoldover := false } }

/-- 2^(k/10) for k = 0..9 in units of 2^-32, to the nearest unit (R639; log 12). -/
def lifeRoots : List Nat :=
  [4294967296, 4603231970, 4933621868, 5287724992, 5667243324, 6074001000, 6509953083, 6977194957, 7477972398,
   8014692369]

/-- Consumption of rated life in one millisecond at a temperature, in units of 2^-32 ms (R639). -/
def lifeStep (temp : Int) : Nat :=
  let t := if temp < 65 then 65 else temp
  let k := (t - 105 + 1000).toNat
  let root := lifeRoots.getD (k % 10) 0
  root * 2 ^ (k / 10) / 2 ^ 100

/-- Hours of LIFE_USED (R640). -/
def DieTemp.hours (t : DieTemp) : Nat := min 0xFFFFFFFF (t.lifeMilli / (3600000 * 2 ^ 32))

/-- TEMPERATURE_MEASURE (R592, R638, R639): DIE_TEMP of the die, and THERMAL_HIGH above 150 °C. -/
def execTemperatureMeasure (die : Nat) (temp : Int) (s : State) : Host.Outcome State Fault Refusal :=
  if s.dieWorks die then
    let t := s.dieTemp die
    let s := s.setDieTemp die
      { temp := temp, tempMax := if t.tempMax < temp then temp else t.tempMax, lifeMilli := t.lifeMilli + lifeStep temp }
    .next (if temp > 150 then s.raise 0x0908 sevDegraded 0 die 0 temp.toNat 0 else s)
  else .next s

/-- SUPPLY_MEASURE (R640). -/
def execSupplyMeasure (vinMv vauxMv inputDw : Nat) (s : State) : Host.Outcome State Fault Refusal :=
  .next { s with supply := { vinMv := vinMv % 65536, vauxMv := vauxMv % 65536, inputDw := inputDw % 65536 } }

end Sys2Proof.Machine
end

