-- ==== Sys2Proof/Machine/TxnFrames.lean ====
section
/-! DEFINITION. Cross-package transactions: the TXN frames of the chain head (spec/09 R338–R340): table rows 36–40 and 151. -/

namespace Sys2Proof.Machine

/-- RESULT of Table 09.7. -/
def txReady : Nat := 0
def txPreparing : Nat := 1
def txFailed : Nat := 2
def txAborted : Nat := 3

/-- The reply to a TXN frame (Table 09.7). -/
def State.txnReply (s : State) (seq phase result status tempo failJsn : Nat) : State :=
  s.chainReply seq (toLe 1 phase ++ toLe 1 result ++ toLe 1 status ++ toLe 1 0 ++ toLe 4 tempo ++ toLe 8 failJsn)

/-- The package answers TXN frames: READY, and out of bypass. -/
def State.txnFrames (s : State) : Bool := s.chainTakes && s.decides

/-- The answer to a TXN frame before READY (R67, R77). -/
def State.txnEarly (s : State) (seq phase : Nat) : State := if s.chainEarly then s.txnReply seq phase txPreparing stBusy 0 0 else s

/-- The lead decides nothing now, so the frame is answered PREPARING and resent (R67, R331, R597). -/
def State.txnWaits (s : State) : Bool := s.leadGone || s.leadBusy || s.tempo.inProgress.isSome

/-- INSTANT − 2 ms has passed (R339). -/
def State.commitLate (s : State) (t : Txn) : Bool := decide (t.instant < s.nowNs + 2000000)

/-- The current result of a transaction (R339): an aborted one that failed a check shows its status. An OPEN one has none yet, and
answers PREPARING (log 48). -/
def State.txnResult (s : State) (seq phase : Nat) (t : Txn) : State :=
  match t.state with
  | .opened => s.txnReply seq phase txPreparing stOk 0 0
  | .scheduled => s.txnReply seq phase txPreparing stOk 0 0
  | .prepared => s.txnReply seq phase txReady stOk 0 0
  | .committed => s.txnReply seq phase txReady stOk t.tempo 0
  | .aborted =>
    if t.failStatus = 0 then s.txnReply seq phase txAborted stOk 0 0 else s.txnReply seq phase txFailed t.failStatus 0 t.failJsn
  | .expired => s.txnReply seq phase txAborted stExpired 0 0

/-- The transaction a frame names, by number and group; none with the failing status. -/
def State.txnNamed (s : State) (txn group : Nat) : Except Nat Txn :=
  match Tbl.find s.tempo.txns txn with
  | none => .error stNotFound
  | some t => if t.crossPackage = false then .error stWrongState else if t.group ≠ group then .error stBadParam else .ok t

/-- The checks of PREPARE on an OPEN transaction: the failing status and JSN (R338). -/
def State.prepareStatus (s : State) (txn : Nat) (t : Txn) (instant : Nat) : Option (Nat × Nat) :=
  let now := s.nowNs
  let held := s.tempo.txns.filter (fun e => decide (e.2.state = .scheduled) || decide (e.2.state = .prepared))
  if instant < now + 10000000 ∨ now + 1000000000 < instant ∨ instant < now + s.prepareLead t + 2500000 then some (stBadParam, 0)
  else if held.any (fun e => decide (instant ≤ e.2.instant + 50000) && decide (e.2.instant ≤ instant + 50000)) then
    some (stWrongState, 0)
  else if 16 ≤ held.length then some (stNoResource, 0)
  else match s.conflictIn txn t with
    | some j => some (stConflict, j)
    | none => (s.recheck s.nextTempo t.staged).map (fun (j, st) => (st, j))

/-- TXN_FRAME_PREPARE (R338). -/
def execTxnFramePrepare (seq txn group instant : Nat) (s : State) : Host.Outcome State Fault Refusal :=
  if !s.txnFrames then .next (s.txnEarly seq 1)
  else if s.txnWaits then .next (s.txnReply seq 1 txPreparing stBusy 0 0)
  else
    let s := s.expireTxns
    match s.txnNamed txn group with
    | .error st => .next (s.txnReply seq 1 txFailed st 0 0)
    | .ok t =>
      if t.state ≠ .opened then
        .next (if t.state = .prepared ∧ t.commitPoint = false then s.txnReply seq 1 txReady stOk 0 0
          else if t.state = .aborted ∧ t.failStatus ≠ 0 then s.txnReply seq 1 txFailed t.failStatus 0 t.failJsn
          else s.txnReply seq 1 txFailed (if t.state = .expired then stExpired else stWrongState) 0 0)
      else match s.prepareStatus txn t instant with
        | some (st, j) =>
          let s := s.failCommit txn t j st
          let s := if st = stConflict then
              { s with tempo := { s.tempo with conflictCount := satAdd 0xFFFF s.tempo.conflictCount 1 } } else s
          .next (s.txnReply seq 1 txFailed st 0 j)
        | none => .next ((s.setTxn txn { t with state := .prepared, instant := instant }).txnReply seq 1 txReady stOk 0 0)

/-- The command that the journal entry of a cross-package commit shows: TXN_COMMIT of the chain head (log 49). -/
def State.headCommit (s : State) (txn : Nat) : Packet :=
  { route := .chain (2 ^ 16), sender := s.headId, die := s.servingDie, opcode := 0x0B02, paramLen := 0, flags := 0, txn := txn,
    token := 0, sequence := 0, reserved := 0, params := [] }

/-- TXN_FRAME_COMMIT (R339): the journal entry is the commit point. -/
def execTxnFrameCommit (seq txn group instant : Nat) (s : State) : Host.Outcome State Fault Refusal :=
  if !s.txnFrames then .next (s.txnEarly seq 2)
  else if s.txnWaits then .next (s.txnReply seq 2 txPreparing stBusy 0 0)
  else
    let s := s.expireTxns
    match s.txnNamed txn group with
    | .error st => .next (s.txnReply seq 2 txFailed st 0 0)
    | .ok t =>
      if t.state = .prepared ∧ t.commitPoint = false then
        if s.commitLate t then .next ((s.finishTxn txn t .aborted).txnReply seq 2 txAborted stOk 0 0)
        else if t.instant ≠ instant then .next (s.txnReply seq 2 txFailed stBadParam 0 0)
        else
          let s := s.recordCommand (s.headCommit txn) stOk s.tempo.current []
          .next ((s.setTxn txn { t with commitPoint := true }).txnReply seq 2 txReady stOk 0 0)
      else if t.state = .opened then .next (s.txnReply seq 2 txFailed stWrongState 0 0)
      else .next (s.txnResult seq 2 t)

/-- TXN_FRAME_ABORT (R339): a transaction past its commit point stays. -/
def execTxnFrameAbort (seq txn group _instant : Nat) (s : State) : Host.Outcome State Fault Refusal :=
  if !s.txnFrames then .next (s.txnEarly seq 3)
  else if s.txnWaits then .next (s.txnReply seq 3 txPreparing stBusy 0 0)
  else
    let s := s.expireTxns
    match s.txnNamed txn group with
    | .error st => .next (s.txnReply seq 3 txFailed st 0 0)
    | .ok t =>
      if t.state = .opened ∨ (t.state = .prepared ∧ t.commitPoint = false) then
        .next ((s.finishTxn txn t .aborted).txnReply seq 3 txAborted stOk 0 0)
      else if t.state = .prepared then .next (s.txnReply seq 3 txFailed stWrongState 0 0)
      else .next (s.txnResult seq 3 t)

/-- TXN_FRAME_STATUS (R339): nothing changes. -/
def execTxnFrameStatus (seq txn group _instant : Nat) (s : State) : Host.Outcome State Fault Refusal :=
  if !s.txnFrames then .next (s.txnEarly seq 4)
  else match s.txnNamed txn group with
    | .error st => .next (s.txnReply seq 4 txFailed st 0 0)
    | .ok t => .next (s.txnResult seq 4 t)

/-- CROSS_PACKAGE_COMMIT_DEADLINE (R339): no COMMIT has come by INSTANT − 2 ms. -/
def execCrossPackageCommitDeadline (txn : Nat) (s : State) : Host.Outcome State Fault Refusal :=
  match Tbl.find s.tempo.txns txn with
  | none => .next s
  | some t => .next (if t.crossPackage ∧ t.state = .prepared ∧ t.commitPoint = false ∧ s.commitLate t then s.finishTxn txn t .aborted
      else s)

end Sys2Proof.Machine
end

