-- ==== Sys2Proof/Machine/Transport.lean ====
section
/-! DEFINITION. How packets reach the lead by every route, what their opcode does, and the end of a commit, after which the
commands that waited run (spec/02 R65–R69, spec/04 R124–R139, spec/09 R331): table rows 23, 31, 32, 62, 67, 77, 150, 151, 363. -/

namespace Sys2Proof.Machine

/-! ## Opcodes (Table 04.7) -/

/-- What checking signatures finds for a statement or an image that came in a packet: a free value (log 6). -/
def sigOf (n : Nat) : SigResult :=
  { rsaVerifies := bit n 0, pqVerifies := bit n 1, imageVerifies := bit n 2 }

/-- A command whose checks include signatures. -/
def withSig (run : SigResult → Packet → State → Answer) (p : Packet) (s : State) : Answer :=
  let (n, s) := s.draw 3
  run (sigOf n) p s

/-- ENDORSE: the chain head's statement may confirm its own proposal (R171). -/
def runEndorseAny (sig : SigResult) (p : Packet) (s : State) : Answer :=
  if mClass p.sender = 4 ∧ leAt p.params 4 1 = 1 then runConfirm sig p s else runEndorse sig p s

/-- Device, function and queue opcodes. -/
def runA (p : Packet) (s : State) : Option Answer :=
  match p.opcode with
  | 0x0001 => some (runDeviceInfo p s)
  | 0x0002 => some (runJournalQuery p s)
  | 0x0003 => some (runMirrorSet p s)
  | 0x0004 => some (runMirrorClear p s)
  | 0x0005 => some (runJournalMark p s)
  | 0x0101 => some (runFuncCreate p s)
  | 0x0102 => some (runFuncDestroy p s)
  | 0x0103 => some (runFuncQuery p s)
  | 0x8101 => some (runFuncSetResources p s)
  | 0x8102 => some (runTwinPairAny p s)
  | 0x0201 => some (runQueueCreate p s)
  | 0x0202 => some (runQueueDestroy p s)
  | 0x0203 => some (runQueueQuery p s)
  | _ => none

/-- Port, table and traffic-manager opcodes that are not transactional. -/
def runB (p : Packet) (s : State) : Option Answer :=
  match p.opcode with
  | 0x0301 => some (runPortSetMode p s)
  | 0x0302 => some (runPortQuery p s)
  | 0x8301 => some (runPortSetLanes p s)
  | 0x8302 => some (runPortSetFilter p s)
  | 0x0403 => some (runTableQuery p s)
  | 0x0502 => some (runTmQuery p s)
  | 0x8503 => some (runGateListSet p s)
  | 0x0601 => some (runTimeQuery p s)
  | 0x0602 => some (runTimeSet p s)
  | 0x8601 => some (runTimeAdjust p s)
  | 0x8602 => some (runPpsConfig p s)
  | 0x8701 => some (runKeypageMode p s)
  | 0x0801 => some (runNamespaceCreate p s)
  | 0x0802 => some (runNamespaceDestroy p s)
  | 0x8801 => some (runTargetPathSet p s)
  | _ => none

/-- Thread, sequencer, transaction, protection, error and migration opcodes. -/
def runC (p : Packet) (s : State) : Option Answer :=
  match p.opcode with
  | 0x0901 => some (runThreadLoad p s)
  | 0x0902 => some (runThreadQuery p s)
  | 0x8901 => some (runThreadDebug State.stepThread p s)
  | 0x0A01 => some (runSeqQuery p s)
  | 0x8A01 => some (runSeqContextSet p s)
  | 0x0B01 => some (runTxnBegin p s)
  | 0x0B02 => some (runTxnCommit p s)
  | 0x0B03 => some (runTxnAbort p s)
  | 0x0B04 => some (runTxnQuery p s)
  | 0x0C01 => some (withSig runPropose p s)
  | 0x0C02 => some (withSig runEndorseAny p s)
  | 0x0C03 => some (runProposalQuery p s)
  | 0x0C04 => some (withSig runWithdraw p s)
  | 0x0D01 => some (runErrorAck p s)
  | 0x0D02 => some (runLedgerAudit p s)
  | 0x0D03 => some (runErrorQuery p s)
  | 0x8D01 => some (runErrorInject p s)
  | 0x0E01 => some (runFuncFreeze p s)
  | 0x0E02 => some (runFuncSave p s)
  | 0x0E03 => some (runFuncRestore p s)
  | 0x0E04 => some (runFuncThaw p s)
  | _ => none

/-- The effect of a packet by its opcode: those of no other group are transactional (Table 09.3). -/
def runOpcode (p : Packet) (s : State) : Answer :=
  match runA p s with
  | some a => a
  | none => match runB p s with
    | some a => a
    | none => match runC p s with
      | some a => a
      | none => runTransactional p s

/-- What follows the record of a command that ended OK. -/
def postOf (p : Packet) (s : State) : State :=
  if p.opcode = 0x0003 then s.startMirror p.params else if p.opcode = 0x0004 then s.stopMirror else s

/-- A packet decided by its opcode. -/
def State.submitPacket (s : State) (p : Packet) : State := s.submit p (runOpcode p) (postOf p)

/-! ## The Stollek chain (R65–R69) -/

/-- A reply header of status BAD_PARAM to a fragment out of turn (R69). -/
def State.badFragment (s : State) (seq : Nat) : State :=
  let p := packetOf (.chain seq) s.headId s.servingDie []
  s.chainReply seq (0 :: (p.reply stBadParam 0 0 0 []).bytes)

/-- A fetch of reply fragment `n`; the reply is held until its last fragment has been fetched (R69). -/
def State.fetchFragment (s : State) (seq n : Nat) : State :=
  match s.chain.held with
  | none => s.chainReply seq [0x7F]
  | some bs =>
    if 1023 * n < bs.length then
      let last := decide (bs.length ≤ 1023 * (n + 1))
      let s := if last then { s with chain := { s.chain with held := none } } else s
      s.chainReply seq (replyFragment bs n)
    else s.chainReply seq [0x7F]

/-- COMMAND_FETCH (R69). -/
def execCommandFetch (seq n : Nat) (s : State) : Host.Outcome State Fault Refusal :=
  .next (if s.chainTakes && decide (s.boot.fuses.lifecycle ≠ .decommissioned) then s.fetchFragment seq (n % 128) else s)

/-- A whole command packet of the chain head: decided, or answered BUSY_RETRY before READY (R67, R77). -/
def State.chainPacket (s : State) (seq : Nat) (bs : List Byte) : State :=
  let p := packetOf (.chain seq) s.headId s.servingDie bs
  if s.decides then s.submitPacket p else s.sendReply p (p.reply stBusy 0 0 0 [])

/-- A fragment of a command packet (R69). A packet that would pass 128 fragments is answered with BAD_PARAM. -/
def State.commandFragment (s : State) (seq byte0 : Nat) (data : List Byte) : State :=
  let idx := byte0 % 128
  let more := bit byte0 7
  let expect := s.chain.partialCmd
  let again := expect.any (fun e => decide (idx ≠ 0) && e.1 == idx + 1)
  let sofar := if idx = 0 then some [] else match expect with
    | some (n, bs) => if idx = n then some bs else none
    | none => none
  let s := if idx = 0 then { s with chain := { s.chain with held := none } } else s
  if again then s.chainReply seq [BitVec.ofNat 8 (0x80 + idx)]
  else match sofar with
    | none => ({ s with chain := { s.chain with partialCmd := none } }).badFragment seq
    | some bs =>
      if more ∧ 127 ≤ idx then ({ s with chain := { s.chain with partialCmd := none } }).badFragment seq
      else if more then
        ({ s with chain := { s.chain with partialCmd := some (idx + 1, bs ++ data) } }).chainReply seq [BitVec.ofNat 8 (0x80 + idx)]
      else { s with chain := { s.chain with partialCmd := none } }.chainPacket seq (bs ++ data)

/-- COMMAND (R67–R69): a frame of LEN 1 is a fetch. -/
def execCommand (seq byte0 : Nat) (data : List Byte) (s : State) : Host.Outcome State Fault Refusal :=
  if s.chainTakes && decide (s.boot.fuses.lifecycle ≠ .decommissioned) then
    .next (if data.isEmpty then s.fetchFragment seq (byte0 % 128) else s.commandFragment seq byte0 data)
  else .next s

/-- A TXN frame by its phase; another phase is answered FAILED. -/
def execTxnFrame (seq : Nat) (b : List Byte) (s : State) : Host.Outcome State Fault Refusal :=
  let txn := leAt b 2 2
  let group := leAt b 4 4
  let instant := leAt b 8 8
  match leAt b 0 1 with
  | 1 => execTxnFramePrepare seq txn group instant s
  | 2 => execTxnFrameCommit seq txn group instant s
  | 3 => execTxnFrameAbort seq txn group instant s
  | 4 => execTxnFrameStatus seq txn group instant s
  | n => .next (if s.txnFrames then s.txnReply seq n txFailed stBadParam 0 0 else s.txnEarly seq n)

/-- A frame of a type that a package handles only when it is addressed (Table 02.6). -/
def execAddressed (seq type : Nat) (b : List Byte) (s : State) : Host.Outcome State Fault Refusal :=
  match type with
  | 0x07 => execSpdm none seq (leAt b 1 1) (b.drop 3) s
  | 0x10 => execCommand seq (leAt b 0 1) (b.drop 1) s
  | 0x20 =>
    let (n, s) := s.draw 3
    execEndorseFrame seq (leAt b 0 1) (b.drop 1) (sigOf n) s
  | 0x21 => execTxnFrame seq b s
  | _ => .next (s.chainAnswer seq [])

/-- STOLLEK_FRAME_RECEIVE (R65–R67): a frame with a bad CRC is discarded and counted; one that does not name the package passes
unchanged. In bypass frames pass without being read, but for those that end it (R74). A frame whose SYNC or LEN is wrong counts in
FCS_ERRORS as one with a bad CRC, a point the spec leaves open (log 107). -/
def execStollekFrameReceive (frame : List Byte) (s : State) : Host.Outcome State Fault Refusal :=
  let pass := fun (s : State) => s.emit (.chain frame)
  let n := leAt frame 6 2
  let dest := leAt frame 2 1
  let src := leAt frame 3 1
  let type := leAt frame 4 1
  let seq := leAt frame 5 1
  let b := sub frame 8 n
  let good := leAt frame 0 2 == 0x5AA5 && decide (n ≤ 1024) && decide (frame.length = 12 + n)
    && leAt frame (8 + n) 4 == crc32 (sub frame 2 (6 + n))
  if !s.chainAlive then .next (pass s)
  else if !good then
    if s.inBypass then .next (pass s)
    else .next { s with chain := { s.chain with hunting := true, fcsErrors := satAdd 0xFFFF s.chain.fcsErrors 1 } }
  else
    let s := { s with chain := { s.chain with hunting := false, clockSeen := true } }
    let code := leAt b 0 1
    match type with
    | 0x01 => .next (if n < 3 then pass s else s.enumerate dest src seq code (leAt b 1 1) (leAt b 2 1) (b.drop 3))
    | 0x02 =>
      if s.chainTakes then (if code ≤ 2 then .next (pass (s.setRate code)) else .fault (.notGuaranteed 71)) else .next (pass s)
    | 0x03 => .next (if s.chainNames dest then s.release seq else pass s)
    | 0x04 => .next (if s.chainDest dest then s.bypassFrame seq (code == 1) frame else pass s)
    | 0x05 => .next (if s.chainNames dest then s.statusReply seq else pass s)
    | 0x06 => .next (if s.chainNames dest then s.wakeFrame seq code else pass s)
    | _ => if s.chainNames dest then execAddressed seq type b s else .next (pass s)

/-! ## Mailboxes and the command queue -/

/-- Firmware takes a finished message from a mailbox it receives from and answers it (R124, R128). While the die's management pair
restarts the message waits (R589). -/
def State.serveBox (s : State) (box : Nat) : State :=
  let die := if box < agentBoxBase then mDie box else (box - agentBoxBase) / 256
  if (s.dieHealth die).pairRestarting || !s.ready then s
  else match s.takeMessage box with
    | none => s
    | some (s, p, true) => s.submitPacket p
    | some (s, p, false) => s.deliver p (p.reply stBadParam flagMailboxFault 0 0 [])

/-- MBX_SEND_END (R120–R124, R127, R128). -/
def execMbxSendEnd (box writer : Nat) (value : Word32) (s : State) : Host.Outcome State Fault Refusal :=
  .next ((s.mbxWrite box writer value true).serveBox box)

/-- Messages that wait in a mailbox, one after another. -/
def State.serveBoxes (s : State) (box : Nat) : Nat → State
  | 0 => s
  | n + 1 => (s.serveBox box).serveBoxes box n

/-- Messages that waited for a die's management pair are taken (R589). -/
def State.serveWaiting (s : State) (die : Nat) : State :=
  let ends := fun (q : List MbxWord) => (q.filter (fun w => w.last)).length
  let fns := (s.fnMbx.filter (fun (k, _) => mDie k == die)).map (fun (k, b) => (k, ends b.inbound))
  let ags := (s.agentMbx.filter (fun (k, _) => k / 256 == die)).map (fun (k, b) => (agentBoxBase + k, ends b.queue))
  (fns ++ ags).foldl (fun s (k, n) => s.serveBoxes k n) s

/-- A stated switch instant that passed while the lead's pair restarted is met late, and LATE says so (R337, R589). -/
def State.lateByRestart (s : State) (die : Nat) : State :=
  match s.tempo.inProgress with
  | some c =>
    match Tbl.find s.tempo.txns c.txn with
    | some t =>
      if die = s.roles.lead ∧ c.committed = true ∧ c.single.isNone ∧ t.instant ≠ 0 ∧ c.switchAt < s.nowNs then
        s.setTxn c.txn { t with late := true }
      else s
    | none => s
  | none => s

/-- LOCKSTEP_RESTART (R588): the management-core address of the record is the core's own (log 6). -/
def execLockstepRestart (die : Nat) (s : State) : Host.Outcome State Fault Refusal :=
  let h := s.dieHealth die
  if s.live die && h.pairRestarting then
    let (a, s) := s.draw 64
    let s := s.setDieHealth die { h with pairRestarting := false, pairRestartTick := some (s.tickAt die) }
    .next (((s.raise 0x0906 sevDegraded 0 die 0 a 0).lateByRestart die).serveWaiting die)
  else .next s

/-- COMMAND_PACKET_FETCHED (R132, R589). -/
def execCommandPacketFetched (link : Nat) (s : State) : Host.Outcome State Fault Refusal :=
  if s.live link && !(s.dieHealth link).pairRestarting then
    match s.fetchPacket link with
    | some (s, p) => .next (s.submitPacket p)
    | none => .next s
  else .next s

/-- The packet of a COMMAND_PACKET whose buffer is being read (R126): its data pointer names Dword 10 bytes. Nothing is decided where
the length is wrong or the data cannot be had. -/
def runCommandPacket (fn : Nat) (s : State) (b : List Byte) : State :=
  let len := sqeDw b 10
  let cid := sqeCid b
  if len < 32 ∨ 4096 < len then s.adminDone fn b 0 nvBadField
  else match s.hostRanges fn b len with
    | .status st => s.adminDone fn b 0 st
    | .halt r => s.nvmeHalt fn 0 r
    | .ok l =>
      if s.fragsBlocked fn l then (s.reportTimeout fn 0 0).adminDone fn b 0 nvTransfer
      else
        let p := packetOf (.admin fn cid) fn (mDie fn) (s.readFrags fn l)
        if len ≠ 32 + p.paramLen then s.adminDone fn b 0 nvBadField else s.submitPacket p

/-- COMMAND_PACKET (R126): PF1's admin opcode 0xC1 at the head of its admin queue. The read of its buffer is issued first, once a tag is
free; with the read outstanding the packet is taken. The operands name the entry at the head; one that does not stand there does
nothing (log 5). -/
def execCommandPacket (fn cid address length : Nat) (s : State) : Host.Outcome State Fault Refusal :=
  if (s.dieHealth (mDie fn)).pairRestarting then .next s
  else match s.nvmeHead fn 0 with
    | none => .next s
    | some (_, b) =>
      if sqeCid b ≠ cid ∨ leAt b 24 8 ≠ address ∨ sqeDw b 10 ≠ length then .next s
      else if sqeOpcode b = 0xC1 ∧ (s.readOf fn (.packet (sqeCid b))).isNone then
        .next ((s.issueRead fn (.packet (sqeCid b)) (sqeDw b 10)).getD s)
      else .next ((s.retireRead fn (.packet (sqeCid b))).runAdmin fn 0xC1 (runCommandPacket fn))

/-- The copy of a held reply that COMMAND_REPLY writes: cut to the buffer, TRUNCATED set if it does not fit (R126). -/
def replyCopy (bs : List Byte) (length : Nat) : List Byte :=
  (if length < bs.length then overlay bs 1 (toLe 1 (setBit (leAt bs 1 1) 3 true)) else bs).take length

/-- The held reply of an earlier COMMAND_PACKET goes to the host (R126): Dword 10 names it, Dword 11 is the buffer's length. -/
def runCommandReply (fn : Nat) (s : State) (b : List Byte) : State :=
  match (s.nvme fn).replies.reverse.find? (fun e => e.1 == sqeDw b 10) with
  | none => s.adminDone fn b 0 nvBadField
  | some (_, bs) =>
    let copy := replyCopy bs (sqeDw b 11)
    match s.hostRanges fn b (sqeDw b 11) with
    | .status st => s.adminDone fn b 0 st
    | .halt r => s.nvmeHalt fn 0 r
    | .ok l =>
      if s.fragsBlocked fn l then (s.reportTimeout fn 0 0).adminDone fn b 0 nvTransfer
      else (s.writeFrags fn 0 l copy).adminDone fn b bs.length 0

/-- COMMAND_REPLY (R126): PF1's admin opcode 0xC2 at the head of its admin queue, which the operands name (log 5). -/
def execCommandReply (fn cid sequence address length : Nat) (s : State) : Host.Outcome State Fault Refusal :=
  match s.nvmeHead fn 0 with
  | none => .next s
  | some (_, b) =>
    if sqeCid b = cid ∧ sqeDw b 10 = sequence ∧ leAt b 24 8 = address ∧ sqeDw b 11 = length then
      .next (s.runAdmin fn 0xC2 (runCommandReply fn))
    else .next s

/-! ## The end of a commit (R331) -/

/-- Commands that waited for a commit are decided in order of arrival, until one of them begins another. -/
def State.drainBuffered (s : State) : Nat → State
  | 0 => s
  | n + 1 =>
    match s.journal.buffered with
    | [] => s
    | p :: rest =>
      if s.tempo.inProgress.isSome then s
      else (({ s with journal := { s.journal with buffered := rest } }).submitPacket p).drainBuffered n

/-- The commands that wait, if the commit is over. -/
def State.afterCommit (s : State) : State := s.drainBuffered s.journal.buffered.length

/-- PREPARE_ANSWER (R331): READY or FAIL of a die. -/
def execPrepareAnswer (die : Nat) (ready : Bool) (s : State) : Host.Outcome State Fault Refusal :=
  .next (if s.live die && !s.leadGone then (s.prepareAnswer die ready).afterCommit else s)

/-- TEMPO_SWITCH (R331, R333, R337): a switch instant that passes while the lead's management pair restarts, or with no lead, is
met late (R334, R589). -/
def execTempoSwitch (s : State) : Host.Outcome State Fault Refusal :=
  .next (if s.ready && !s.leadGone && !(s.dieHealth s.roles.lead).pairRestarting && s.tempo.inProgress.any s.switchDue then s.switchTempo.afterCommit else s)

end Sys2Proof.Machine
end

