-- ==== Sys2Proof/Machine/RegWrite.lean ====
section
/-! DEFINITION. The register space of a host function, written 4 bytes at a time (spec/22 R641–R651, access codes of
R11): table row REGISTER_WRITE. A register is named by the function that reaches it and an offset:
BAR0 from 0, BAR2 from 2^26 (log 50). -/

namespace Sys2Proof.Machine

/-- The state a command leaves. -/
def State.thenDo (s : State) (f : State → Host.Outcome State Fault Refusal) : State :=
  match f s with
  | .next t => t
  | _ => s

/-- Where BAR2 begins in an offset (log 50). -/
def bar2Base : Nat := 2 ^ 26

/-! ## PACKAGE, HOST and PORT -/

/-- SYNCE_CFG as a number. -/
def Synce.cfg (y : Synce) : Nat :=
  y.sourcePort + 2 ^ 6 * b2n y.outEnable + 2 ^ 7 * b2n y.outFreq + 2 ^ 8 * b2n y.squelch + 2 ^ 9 * b2n y.refFreq

/-- SYNCE_CLK_OUT runs: it is enabled, and not squelched by its source port being down (R211, R212). -/
def State.synceRuns (s : State) : Bool :=
  s.synce.outEnable && !(s.synce.squelch && decide ((s.port s.synce.sourcePort).phase ≠ .up))

/-- A write of SYNCE_CFG. -/
def State.synceWrite (s : State) (v : Nat) : State :=
  let y := { s.synce with sourcePort := bits v 5 0, outEnable := bit v 6, outFreq := bit v 7, squelch := bit v 8, refFreq := bit v 9 }
  let t : State := { s with synce := y }
  if t.synceRuns = s.synceRuns then t else t.emit (.pin pinSynceOut t.synceRuns)

/-- WAKE_PORT_CFG as a number, and written. -/
def Synce.wakeCfg (y : Synce) : Nat := y.wakeAddr + 2 ^ 48 * b2n y.wakeEnable + 2 ^ 49 * b2n y.wakeSpeed
def Synce.setWakeCfg (y : Synce) (v : Nat) : Synce :=
  { y with wakeAddr := bits v 47 0, wakeEnable := bit v 48, wakeSpeed := bit v 49 }

/-- A 4-byte write of the PACKAGE block. -/
def State.writePackage (s : State) (die off v : Nat) : State :=
  let y := s.synce
  if off = 0x140 then s.synceWrite v
  else if off = 0x150 ∨ off = 0x154 then { s with synce := y.setWakeCfg (mergeBits y.wakeCfg (off - 0x150) 4 v) }
  else if off = 0x158 ∨ off = 0x15C then { s with synce := { y with wakePattern := mergeBits y.wakePattern (off - 0x158) 4 v } }
  else if off = 0x190 then
    s.modLedger die (fun b => { b with mismatch := (List.range 10).foldl (fun m i => if bit v (i + 1) then setBit m (i + 1) false else m) b.mismatch })
  else s

/-- A 4-byte write of the HOST block: HOST_ORDER is staged, WAKE_CFG acts at once. -/
def State.writeHost (s : State) (die off v : Nat) : State :=
  if off = 0x208 then s.modLink die (fun l => { l with roStaged := bit v 0, idoStaged := bit v 1 })
  else if off = 0x230 then { s with synce := { s.synce with wakeFrameLinks := bits v 7 0, chainWakeEn := bit v 8 } }
  else s

/-- A 4-byte write of the PORT block: only STATS_CTRL (R178, R215). -/
def State.writePort (s : State) (die off v : Nat) : State :=
  if off < 0x8000 ∧ off % 0x1000 = 0x30 ∧ (s.port (8 * die + off / 0x1000)).present then
    s.modPort (8 * die + off / 0x1000) (fun p =>
      let p := if bit v 0 then { p with snap := s.statsNow (8 * die + off / 0x1000), snapValid := true } else p
      if bit v 1 then { p with stats := [] } else p)
  else s

/-- PIPE_ADMIT_CFG (R267). -/
def State.writePipe (s : State) (die off v : Nat) : State :=
  if 0x300 ≤ off ∧ off < 0x340 ∧ off % 8 = 0 then
    let n := bits v 17 0
    if n = 0 ∨ 196608 < n then s
    else s.modPort (8 * die + (off - 0x300) / 8) (fun p => { p with admitLimitWritten := n }.settle)
  else s

/-- PORT_PTP_CFG with 4 bytes written (spec/11, R10). -/
def PtpCfg.put (c : PtpCfg) (off v : Nat) : PtpCfg :=
  match off with
  | 0x0 => { c with rxAdj := signed 16 (bits v 15 0), txAdj := signed 16 (bits v 31 16) }
  | 0x4 => { c with tcMode := bits v 1 0 }
  | 0x8 => { c with peerDelay := (mergeBits (unsigned 64 c.peerDelay) 0 4 v : Nat) }
  | _ => { c with peerDelay := (mergeBits (unsigned 64 c.peerDelay) 4 4 v : Nat) }

/-- A write of the TIME block: TIME_CAPTURE, PPS_IN.NEW and PORT_PTP_CFG, which is staged for the safe points of R199 (R397). -/
def State.writeTime (s : State) (die off v : Nat) : State :=
  if off = 0x10 then if bit v 0 then s.thenDo (execTimeCapture die) else s
  else if off = 0x11C then if bit v 0 then { s with pps := { s.pps with new := false } } else s
  else if 0x200 ≤ off ∧ off < 0x280 then
    s.modPort (8 * die + (off - 0x200) / 0x10) (fun p => ({ p with ptp := { p.ptp with written := p.ptp.written.put (off % 0x10) v } } : Port).settle)
  else s

/-! ## CIPHER -/

/-- VERIFY_CFG as written last. -/
def Cipher.verifyCfg (c : Cipher) : Nat :=
  c.netShare.written + 2 ^ 16 * c.tlsShare.written + 2 ^ 32 * c.storShare.written + 2 ^ 48 * c.funcMax.written

/-- A write of VERIFY_CFG: ignored where its shares sum above 32,768 units. -/
def Cipher.setVerifyCfg (c : Cipher) (v : Nat) : Cipher :=
  if 32768 < bits v 15 0 + bits v 31 16 + bits v 47 32 then { c with cfgErr := true }
  else { c with netShare := { c.netShare with written := bits v 15 0 }, tlsShare := { c.tlsShare with written := bits v 31 16 },
                storShare := { c.storShare with written := bits v 47 32 }, funcMax := { c.funcMax with written := bits v 63 48 } }

/-- A write of `n` bytes of the CIPHER block: CFG_ERR and VERIFY_CFG (R419). -/
def State.writeCipher (s : State) (die off n v : Nat) : State :=
  if off = 0 then if bit v 0 then s.modCipherOf die (fun c => { c with cfgErr := false }) else s
  else if off = 8 ∨ off = 12 then s.modCipherOf die (fun c => c.setVerifyCfg (mergeBits c.verifyCfg (off - 8) n v))
  else s

/-- KEY_MATERIAL as a number. -/
def KeySlot.material (k : KeySlot) : Nat := k.stKey + 2 ^ 256 * k.stSalt + 2 ^ 352 * k.stSsci

/-- Staging registers of a slot, 4 bytes written at `r`. -/
def KeySlot.stage (k : KeySlot) (r v : Nat) : KeySlot :=
  if r < 0x30 then
    let m := mergeBits k.material r 4 v
    { k with stKey := bits m 255 0, stSalt := bits m 351 256, stSsci := bits m 383 352 }
  else if r < 0x38 then { k with stCfg := cfgMask (mergeBits k.stCfg (r - 0x30) 4 v) }
  else if r < 0x40 then { k with stId := mergeBits k.stId (r - 0x38) 4 v }
  else if r < 0x48 then { k with stSeq := mergeBits k.stSeq (r - 0x40) 4 v }
  else if r < 0x50 then { k with stLimit := mergeBits k.stLimit (r - 0x48) 4 v }
  else if r = 0x50 ∧ bit v 3 then { k with installErr := false }
  else if r = 0x58 ∧ bit v 3 then { k with soft := false }
  else k

/-- The key page of a die that a function reaches at a BAR_SLOT. -/
def State.pageAt (s : State) (fn slot : Nat) : Option Nat :=
  ((s.protect.keyPages.find? (fun e => e.1 / 4096 == mDie fn && e.2 == fn * 64 + slot))).map (fun e => e.1 % 4096)

/-- A 4-byte write of a key page (R5, R404, R405, R419). -/
def State.writeKeyPage (s : State) (fn off v : Nat) : State :=
  let die := mDie fn
  match s.pageAt fn (off / 4096) with
  | none => s
  | some page =>
    let slot := page * 32 + off % 4096 / 0x80
    let r := off % 0x80
    if s.pageReach die slot fn then
      let s := s.setKeySlot die slot ((s.keySlot die slot).stage r v)
      let s := if r = 0x50 ∧ bit v 0 then s.thenDo (execInstall die slot fn) else s
      if r = 0x50 ∧ bit v 1 then s.thenDo (execRetire die slot fn) else s
    else s

/-! ## MAILBOX, CMDQ, QUEUE, DMA -/

/-- A 4-byte write of a function's own mailbox (R120, R121). -/
def State.writeOwnBox (s : State) (fn off v : Nat) : State :=
  if off = 0 then s.mbxWrite fn fn (BitVec.ofNat 32 v) false
  else if off = 4 then (s.mbxWrite fn fn (BitVec.ofNat 32 v) true).serveBox fn
  else if off = 0x10 then
    s.modFnBox fn (fun b => { b with collision := b.collision && !bit v 16, sendOverrun := b.sendOverrun && !bit v 17 })
  else s

/-- A 4-byte write of PF0's MAILBOX block: its own mailbox, and the inter-agent groups. -/
def State.writeMailbox (s : State) (die off v : Nat) : State :=
  let fn := pf0 die
  if 0x4000 ≤ off ∧ off < 0x6000 then
    let k := die * 256 + (off - 0x4000) / 32
    match off % 32 with
    | 0x04 => (s.mbxWrite (agentBoxBase + k) fn (BitVec.ofNat 32 v) true).serveBox (agentBoxBase + k)
    | _ => s.mbxStore4 die off fn v
  else s.writeOwnBox fn off v

/-- RWB fields of the command queue: written while ENABLE is 0 and IDLE is 1, else CFG_BUSY_WR (R135). -/
def Cmdq.writeRwb (q : Cmdq) (f : Cmdq → Cmdq) : Cmdq := if !q.enable && q.idle then f q else { q with cfgBusyWr := true }

/-- CMDQ_CFG's fields but ENABLE, by a write. -/
def Cmdq.writeCfg (q : Cmdq) (v : Nat) : Cmdq :=
  let q := { q with cfgBusyWr := q.cfgBusyWr && !bit v 2, indexErr := q.indexErr && !bit v 3 }
  q.writeRwb (fun q =>
    { q with log2Slots := if 1 ≤ bits v 7 4 ∧ bits v 7 4 ≤ 8 then bits v 7 4 else q.log2Slots,
             slotShift := if 12 ≤ bits v 12 8 ∧ bits v 12 8 ≤ 16 then bits v 12 8 else q.slotShift,
             vector := bits v 26 16 })

/-- A base address register, 4 bytes written. -/
def baseWrite (old lo v : Nat) : Nat := mergeBits old lo 4 v / 4096 * 4096

/-- A 4-byte write of the CMDQ block (R131, R135). -/
def State.writeCmdq (s : State) (die off v : Nat) : State :=
  if off = 0 then (s.modCmdq die (fun q => q.writeCfg v)).cmdqEnable die (bit v 0)
  else if off = 8 ∨ off = 0xC then
    s.modCmdq die (fun q => q.writeRwb (fun q => { q with reqBase := baseWrite q.reqBase (off - 8) v }))
  else if off = 0x10 ∨ off = 0x14 then
    s.modCmdq die (fun q => q.writeRwb (fun q => { q with rplBase := baseWrite q.rplBase (off - 0x10) v }))
  else if off = 0x18 then s.thenDo (execCmdqRequestDoorbell die (bits v 15 0))
  else if off = 0x1C then s.thenDo (execCmdqReplyHeadWrite die (bits v 15 0))
  else s

/-- A 4-byte write of a function's QUEUE block: doorbells, PACE_ACK and INDEX_ERR (R427, R448, R453). -/
def State.writeQueue (s : State) (fn off v : Nat) : State :=
  let q := off % 0x1000 / 16
  if off < 0x1000 then
    match off % 16 with
    | 0x0 => s.thenDo (execSqDoorbell fn q (bits v 15 0))
    | 0x4 => s.thenDo (execCqDoorbell fn q (bits v 15 0) (bit v 16))
    | 0x8 =>
      match (s.queue? fn q).bind (fun x => x.channel) with
      | some c => s.modDmaCh (dmaKey (mDie fn) c) (fun ch => ch.ack v)
      | none => s
    | _ => s
  else if off < 0x2000 ∧ off % 16 = 8 ∧ bit v 2 then s.modQueue fn q (fun x => { x with indexErr := false })
  else s

/-- A 4-byte write of PF0's DMA block: PAUSE and ABORT of every channel, and the other fields of channels bound to PF0's own
queue pairs (R449, R453). -/
def State.writeDma (s : State) (die off v : Nat) : State :=
  let k := dmaKey die (off / 0x80)
  let c := s.dmaCh k
  let own := decide (c.binder.identity = pf0 die) && decide (c.binder.code = 1)
  if 0x2000 ≤ off then s
  else
    match off % 0x80 with
    | 0x00 =>
      let s := if own then
          s.setDmaCh k { c with cfgBusyWr := c.cfgBusyWr && !bit v 6, underflow := c.underflow && !bit v 7 } else s
      let s := s.thenDo (execDmaPause die (off / 0x80) (bit v 0))
      if bit v 1 then s.thenDo (execDmaAbort die (off / 0x80)) else s
    | 0x20 => if own then s.setDmaCh k { c with high := { c.high with written := v } } else s
    | 0x24 => if own then s.setDmaCh k { c with low := { c.low with written := v } } else s
    | 0x30 => if own then s.setDmaCh k (c.ack v) else s
    | _ => s

/-! ## ERRQ, WINDOW, MSI-X -/

/-- A 4-byte write of the ERRQ block: ERR_CFG of the link, and OVERFLOW (R576, R580, R605; log 51). -/
def State.writeErrq (s : State) (die off v : Nat) : State :=
  if off = 0x10 then if bit v 0 then { s with errors := { s.errors with overflow := false } } else s
  else if off = 0x18 then s.modLink die (fun l => { l with errVector := bits v 10 0, errMinSeverity := bits v 14 12 })
  else s

/-- A 4-byte write of the WINDOW block (R648–R650). -/
def State.writeWindow (s : State) (die off v : Nat) : State :=
  if off = 0 then s.modLink die (fun l => { l with winCounterPage := bits v 1 0 })
  else if off = 8 then s.modLink die (fun l => { l with winSpace := bits v 2 0, winEnable := bit v 3, winPage := bits v 24 16 })
  else s

/-- A 4-byte write of an MSI-X table: address, data, and the mask bit of vector control. An unmasked vector that was pending is
sent (R82, R88, R641). -/
def State.writeMsix (s : State) (fn off v : Nat) : State :=
  let n := off / 16
  let f := s.func fn
  if n < f.vectorsInEffect then
    let e := Tbl.look MsixVec.reset f.msix n
    let e : MsixVec := match off % 16 with
      | 0x0 => { e with address := mergeBits e.address 0 4 v }
      | 0x4 => { e with address := mergeBits e.address 4 4 v }
      | 0x8 => { e with data := v }
      | _ => { e with masked := bit v 0 }
    let s := s.setFunc fn { f with msix := Tbl.put MsixVec.reset f.msix n e }
    if off % 16 = 12 then s.unmask fn else s
  else s

/-! ## NVMe controller registers (R454; offsets of NVM Express Base 2.0, log 52) -/

/-- A write of CC: EN first going to 0, or last going to 1; SHN asks for a shutdown, which is over at once. -/
def State.writeCc (s : State) (fn v : Nat) : State :=
  let s := if bit v 0 then s else s.nvmeDisable fn
  let s := s.modNvme fn (fun c => { c with cc := setBit (bits v 23 0 &&& 0xFFFFF1) 0 (bit c.cc 0) })
  let s := if bit v 0 && !(s.func fn).halted then s.nvmeEnable fn else s
  if bits v 15 14 ≠ 0 then s.modNvme fn (fun c => { c with csts := c.csts % 4 + 8 }) else s

/-- A 4-byte write of a storage function's BAR0 (R644). -/
def State.writeStorage (s : State) (fn off v : Nat) : State :=
  if off = 0x0C then s.modNvme fn (fun c => { c with intms := c.intms ||| v })
  else if off = 0x10 then s.modNvme fn (fun c => { c with intms := c.intms &&& (2 ^ 32 - 1 - v) })
  else if off = 0x14 then s.writeCc fn v
  else if off = 0x24 then s.modNvme fn (fun c => { c with aqa := bits v 11 0 + 2 ^ 16 * bits v 27 16 })
  else if off = 0x28 ∨ off = 0x2C then s.modNvme fn (fun c => { c with asq := baseWrite c.asq (off - 0x28) v })
  else if off = 0x30 ∨ off = 0x34 then s.modNvme fn (fun c => { c with acq := baseWrite c.acq (off - 0x30) v })
  else if 0x1000 ≤ off ∧ off < 0x2000 then
    let q := (off - 0x1000) / 8
    if off % 8 = 0 then s.thenDo (execSqDoorbell fn q (bits v 15 0)) else s.thenDo (execCqDoorbell fn q (bits v 15 0) false)
  else if 0x2000 ≤ off ∧ off < 0x2014 then s.writeOwnBox fn (off - 0x2000) v
  else if 0x8000 ≤ off ∧ off < 0x10000 then s.writeMsix fn (off - 0x8000) v
  else s

/-! ## The spaces -/

/-- A write of `n` bytes (4, or 8 that cover one register) of PF0's BAR0 (Table 22.1). Blocks that the host only reads ignore
it (R152, R306, R317, R373, R476, R500, R540, R572). -/
def State.writeManager (s : State) (die off n v : Nat) : State :=
  let o := off % 0x10000
  if 0x200000 ≤ off ∧ off < 0x210000 then s.writeQueue (pf0 die) o v
  else if 0x400000 ≤ off ∧ off < 0x410000 then s.writeErrq die o v
  else
    match off / 0x10000 with
    | 0x00 => s.writePackage die o v
    | 0x01 => s.writeHost die o v
    | 0x02 => if o = 0x1048 then s.releaseWrite die true v else s
    | 0x04 => s.writeMailbox die o v
    | 0x05 => s.writeCmdq die o v
    | 0x07 => s.writePort die o v
    | 0x08 => s.writePipe die o v
    | 0x0B => s.writeTime die o v
    | 0x0C => s.writeCipher die o n v
    | 0x0E => s.writeDma die o v
    | 0x12 => s.writeWindow die o v
    | 0x13 => if o < 0x8000 then s.writeMsix (pf0 die) o v else s
    | _ => s

/-- One write of a host function (R641–R644). -/
def State.writeReg (s : State) (fn off n v : Nat) : State :=
  if fnPf fn = 1 then s.writeStorage fn off v
  else if fnVf fn = 0 then
    if bar2Base ≤ off then if off < bar2Base + 0x40000 then s.writeKeyPage fn (off - bar2Base) v else s
    else s.writeManager (mDie fn) off n v
  else if bar2Base ≤ off then if off < bar2Base + 0x40000 then s.writeKeyPage fn (off - bar2Base) v else s
  else if off < 0x4000 then s.writeQueue fn off v
  else if off < 0x4014 then s.writeOwnBox fn (off - 0x4000) v
  else if 0x8000 ≤ off ∧ off < 0x10000 then s.writeMsix fn (off - 0x8000) v
  else s

/-- VERIFY_CFG, the one register whose two halves are judged together. -/
def oneRegister (fn off : Nat) : Bool := fnPf fn == 0 && fnVf fn == 0 && off == 0xC0008

/-- `n` words written in ascending order (R645). -/
def State.writeWords (s : State) (fn off v : Nat) : Nat → State
  | 0 => s
  | n + 1 => (s.writeReg fn off 4 (v % 2 ^ 32)).writeWords fn (off + 4) (v / 2 ^ 32) n

/-- A host write reaches the offset: PF0's containment block even over a FROZEN link (R105). -/
def State.writeReach (s : State) (fn off : Nat) : Bool :=
  s.memReach fn || (fn == pf0 (mDie fn) && off / 0x10000 == 2 && s.ready && s.linkUp (mDie fn) && !(s.func fn).d3hot)

/-- A write by a thread, at an address of its memory map that is a register (R504, R540). -/
def State.threadWrite (s : State) (t a n v : Nat) : State :=
  if n = 0 ∨ a % n ≠ 0 then s.threadFault t fcAlign (some a)
  else
    match s.reach t a n with
    | .error c => s.threadFault t c (some a)
    | .ok (.memory _ _) => s
    | .ok (.view _ _) => s
    | .ok pl =>
      match s.writePlace t (toLe n v) pl with
      | .done s => s
      | .bad c => s.threadFault t c (some a)

/-- A write by a sequencer of DMA_PACE or DMA_PACE_ACK of the channel bound to it, at an offset of its die's DMA block
(R453). -/
def State.seqWrite (s : State) (m off v : Nat) : State :=
  let k := dmaKey (mDie m) (off / 0x80)
  let c := s.dmaCh k
  if c.binder.identity = m ∧ off < 0x2000 then
    match off % 0x80 with
    | 0x20 => s.setDmaCh k { c with high := { c.high with written := v % 2 ^ 32 } }
    | 0x24 => s.setDmaCh k { c with low := { c.low with written := v % 2 ^ 32 } }
    | 0x30 => s.setDmaCh k (c.ack (v % 2 ^ 32))
    | _ => s
  else s

/-- REGISTER_WRITE (R10, R11, R645): a write of `size` bytes by a host function, a thread or a sequencer. One that is narrower
than 4 bytes, or not aligned to 4 bytes, is ignored. -/
def execRegisterWrite (fn offset size value : Nat) (s : State) : Host.Outcome State Fault Refusal :=
  if isThreadId fn then
    .next (if s.live (mDie fn) then s.threadWrite (threadOfId fn) offset size value else s)
  else if mClass fn = 2 then
    .next (if s.live (mDie fn) ∧ mIndex fn < 16 ∧ size = 4 then s.seqWrite fn offset value else s)
  else if mClass fn ≠ 0 ∨ size % 4 ≠ 0 ∨ offset % 4 ≠ 0 ∨ s.writeReach fn offset = false then .next s
  else if oneRegister fn offset ∧ size = 8 then .next (s.writeReg fn offset 8 (value % 2 ^ 64))
  else .next (s.writeWords fn offset value (size / 4))

end Sys2Proof.Machine
end

