-- ==== Sys2Proof/Machine/RegRead.lean ====
section
/-! DEFINITION. The registers of PF0's BAR0 as 8-byte words, block by block (spec/22 Table 22.3, with the chapter of each block). A
field of a staged register reads as it was written last (R11). -/

namespace Sys2Proof.Machine

/-- A number of which the low 8 bytes lie at the register's own offset: its word `i`. -/
def wideWord (v off : Nat) : Nat := v / 2 ^ (8 * off) % 2 ^ 64

/-! ## PACKAGE -/

/-- A DIE_TEMP entry (R640). -/
def DieTemp.value (t : DieTemp) : Nat :=
  unsigned 10 t.temp + 2 ^ 16 * unsigned 10 t.tempMax + 2 ^ 26 * b2n (decide (150 < t.temp)) + 2 ^ 32 * t.hours

/-- SUPPLY_STATUS (R640). -/
def Supply.value (y : Supply) : Nat := y.vinMv + 2 ^ 16 * y.vauxMv + 2 ^ 32 * y.inputDw

/-- LEDGER_STATUS of a die. -/
def LedgerBook.value (b : LedgerBook) : Nat := b.mismatch + 2 ^ 32 * b.audits

/-- FATAL_LAST: zeros if the package has not stopped since VAUX rose. -/
def Errors.fatalBytes (e : Errors) : List Byte := ((e.fatalLast).map ErrRecord.bytes).getD (List.replicate 64 0)

/-- Block PACKAGE. LEDGER_STATUS stands where TIME_LAST of FATAL_LAST would, which is read at 0x1C0 (R647). -/
def State.packageWord (s : State) (die off : Nat) : Nat :=
  let y := s.synce
  if off = 0x190 then (s.ledger die).value
  else if 0x180 ≤ off ∧ off < 0x1C0 then leAt s.errors.fatalBytes (off - 0x180) 8
  else if 0x208 ≤ off ∧ off < 0x208 + 8 * s.dieCount then (s.dieTemp ((off - 0x208) / 8)).value
  else
    match off with
    | 0x000 => s.chipIdent
    | 0x100 => s.pkgRoles
    | 0x108 => s.dieMap
    | 0x110 => s.bootStatus
    | 0x120 => s.chainStatus
    | 0x140 => y.cfg + 2 ^ 10 * b2n y.refLost
    | 0x150 => y.wakeCfg
    | 0x158 => y.wakePattern
    | 0x1C0 => leAt s.errors.fatalBytes 0x10 8
    | 0x200 => s.supply.value
    | _ => 0

/-! ## HOST and CONTAINMENT -/

/-- LINK_STATUS (R79). -/
def State.linkStatus (s : State) (die : Nat) : Nat :=
  let l := s.link die
  l.speed + 2 ^ 4 * l.width + 2 ^ 10 * b2n l.flit + 2 ^ 11 * s.tagMode die + 2 ^ 13 * b2n l.reversed + 2 ^ 16 * l.failedLanes

/-- Block HOST. -/
def State.hostWord (s : State) (die off : Nat) : Nat :=
  let l := s.link die
  match off with
  | 0x200 => s.linkStatus die
  | 0x208 => b2n l.roStaged + 2 * b2n l.idoStaged
  | 0x210 => s.issuedTags die + 2 ^ 16 * s.quarantinedTags die
  | 0x218 => l.lateCpl
  | 0x220 => l.cto
  | 0x230 => s.synce.wakeFrameLinks + 2 ^ 8 * b2n s.synce.chainWakeEn
  | _ => 0

/-- CONTAINMENT_STATUS (R111). -/
def State.containmentStatus (s : State) (die : Nat) : Nat :=
  let l := s.link die
  b2n l.frozen + 2 * l.cause + 2 ^ 4 * b2n l.armed + 2 ^ 8 * l.repeatCount + 2 ^ 16 * s.nonceOf die

/-- Block CONTAINMENT. -/
def State.containmentWord (s : State) (die off : Nat) : Nat :=
  match off with
  | 0x1040 => s.containmentStatus die + 2 ^ 32 * (s.link die).causeFn
  | 0x1050 => (s.link die).containedDrops
  | _ => 0

/-! ## MAILBOX, CMDQ and JOURNAL -/

/-- MBX_STATUS of a function's own mailbox: it receives from the outbound queue and sends to the inbound one (R120). -/
def FnMailbox.status (b : FnMailbox) : Nat :=
  b.outbound.length + 2 ^ 8 * (16 - b.inbound.length) + 2 ^ 16 * b2n b.collision + 2 ^ 17 * b2n b.sendOverrun

/-- A function's own mailbox registers. -/
def State.ownBoxWord (s : State) (fn off : Nat) : Nat :=
  let b := s.fnBox fn
  match off with
  | 0x08 => ((b.outbound.head?).map (fun w => w.word.toNat)).getD 0 + 2 ^ 32 * recvId b.outbound
  | 0x10 => b.status
  | _ => 0

/-- Block MAILBOX of PF0. -/
def State.mailboxWord (s : State) (die off : Nat) : Nat :=
  if off < 0x2000 then s.ownBoxWord (pf0 die) off
  else s.mbxWord die off (pf0 die) + 2 ^ 32 * s.mbxWord die (off + 4) (pf0 die)

/-- CMDQ_CFG. -/
def Cmdq.cfg (q : Cmdq) : Nat :=
  b2n q.enable + 2 * b2n q.idle + 4 * b2n q.cfgBusyWr + 8 * b2n q.indexErr + 2 ^ 4 * q.log2Slots + 2 ^ 8 * q.slotShift
    + 2 ^ 16 * q.vector

/-- Block CMDQ. -/
def State.cmdqWord (s : State) (die off : Nat) : Nat :=
  let q := s.cmdq die
  match off with
  | 0x00 => q.cfg
  | 0x08 => q.reqBase
  | 0x10 => q.rplBase
  | 0x18 => q.reqTail + 2 ^ 16 * q.reqHead + 2 ^ 32 * q.rplHead + 2 ^ 48 * q.rplTail
  | _ => 0

/-- MIRROR_STATE. -/
def MirrorState.value : MirrorState → Nat
  | .off => 0
  | .active => 1
  | .suspended => 2
  | .broken => 3

/-- A byte of slot `i` of the journal window: that of its entry; a slot that holds none shows what its memory held (R152). -/
def Journal.windowByte (j : Journal) (b : Nat) : Byte :=
  match j.entries.find? (fun e => e.jsn % 65536 == b / 64) with
  | some e => (e.bytes).getD (b % 64) 0
  | none => Config.staleByte b

/-- Block JOURNAL (R152, R156). -/
def State.journalWord (s : State) (off : Nat) : Nat :=
  let j := s.journal
  if 0x400000 ≤ off then le ((List.range 8).map (fun i => j.windowByte (off - 0x400000 + i)))
  else
    match off with
    | 0x00 => j.first
    | 0x08 => j.next
    | 0x10 => j.bootId + 2 ^ 32 * j.mirror.value + 2 ^ 34 * b2n j.mirrorSync
    | 0x18 => j.lag
    | _ => 0

/-! ## TEMPO -/

/-- The earliest of some tempos, the current one if there is none (R315). -/
def State.earliest (s : State) (ts : List Nat) : Nat := ts.foldl (fun a t => if earlier t a then t else a) s.tempo.current

/-- Tempos of the packets of a pipeline whose program has not ended. -/
def State.pipeTempos (s : State) (die pipe : Nat) : List Nat :=
  (s.flight.filter (fun (_, k) => k.die == die && k.pipe == pipe && (decide (k.phase = .hold) || decide (k.phase = .flowWait)))).map
    (fun e => e.2.tempo)

/-- Tempos of what is in the cipher engine. -/
def State.cipherTempos (s : State) (die : Nat) : List Nat :=
  (s.flight.filter (fun (_, k) => k.die == die && decide (k.phase ≠ .hold) && decide (k.phase ≠ .flowWait))).map (fun e => e.2.tempo)
    ++ ((s.cipherOf die).units.filter (fun (_, u) => decide (u.phase ≠ .waiting))).map (fun e => e.2.tempo)

/-- TXN_STATUS as it reads on a die (R317). -/
def State.txnStatus (s : State) (die : Nat) : Nat :=
  let count := fun (f : TxnState → Bool) => (s.tempo.txns.filter (fun e => f e.2.state)).length
  let sched := fun (x : TxnState) => decide (x = .scheduled) || decide (x = .prepared)
  count (fun x => decide (x = .opened) || sched x) + 2 ^ 8 * count sched
    + 2 ^ 16 * b2n (s.tempo.inProgress.any (fun c => !c.committed)) + 2 ^ 32 * s.reclaimPending die

/-- TXN_COUNTS. -/
def Tempo.counts (t : Tempo) : Nat :=
  t.committedCount + 2 ^ 16 * t.abortedCount + 2 ^ 32 * t.conflictCount + 2 ^ 48 * t.expiredCount

/-- Block TEMPO. -/
def State.tempoWord (s : State) (die off : Nat) : Nat :=
  match off with
  | 0x00 => s.tempo.current + 2 ^ 32 * b2n s.tempo.switchPending
  | 0x08 => s.oldestTempo die + 2 ^ 32 * s.earliest (s.cipherTempos die)
  | 0x10 => s.earliest (s.pipeTempos die 0) + 2 ^ 32 * s.earliest (s.pipeTempos die 1)
  | 0x18 => s.tempo.switchTime
  | 0x20 => s.txnStatus die
  | 0x28 => s.tempo.counts
  | _ => 0

/-! ## PORT and PIPE -/

/-- A port counter now: those of the FEC are free values, since the codewords on a line are not the model's (log 125). -/
def State.portCount (s : State) (port off : Nat) : Nat :=
  if fecOffsets.contains off then (Config.fecCount (port * 4096 + off) (s.dieTick (port / 8))).toNat else Tbl.look 0 (s.port port).stats off

/-- Registers of one port (R178, R199, R214, R215). -/
def State.portWord (s : State) (port off : Nat) : Nat :=
  let p := s.port port
  if p.present = false then 0
  else if 0x100 ≤ off ∧ off < 0x300 then Tbl.look 0 p.filter.written ((off - 0x100) / 8)
  else if 0x400 ≤ off ∧ off < 0x800 then s.portCount port (off - 0x400)
  else if 0x800 ≤ off ∧ off < 0xC00 then Tbl.look 0 p.snap (off - 0x800)
  else
    match off with
    | 0x00 => s.portStatus port
    | 0x08 => p.cfg.written.code
    | 0x10 => p.preempt.written.code
    | 0x18 => p.preemptStatus
    | 0x20 => p.pfc.written.code
    | 0x30 => 4 * b2n p.snapValid
    | _ => 0

/-- PIPE_STATUS (R267): BANK and PROGRAM_ID of the bank in force, and whether the other is drained. -/
def State.pipeStatus (s : State) (die : Nat) : Nat :=
  let k := s.tempo.bank
  let b := s.bankOf k
  k + 2 * b2n (!s.flight.any (fun e => e.2.die == die && e.2.bank == 1 - k)) + 4 * b2n (!b.standard)
    + 2 ^ 16 * s.holdUsed die 0 + 2 ^ 32 * s.holdUsed die 1 + 2 ^ 48 * (if b.standard then 0 else b.programId)

/-- Block PIPE (R267, R268). -/
def State.pipeWord (s : State) (die off : Nat) : Nat :=
  let p := s.pipe die
  if off = 0 then s.pipeStatus die
  else if 0x100 ≤ off ∧ off < 0x200 then Tbl.look 0 p.counters0 (off - 0x100)
  else if 0x200 ≤ off ∧ off < 0x300 then Tbl.look 0 p.counters1 (off - 0x200)
  else if 0x300 ≤ off ∧ off < 0x340 then (s.port (8 * die + (off - 0x300) / 8)).admitLimitWritten
  else if 0x400 ≤ off ∧ off < 0x440 then (s.port (8 * die + (off - 0x400) / 8)).admitDrop
  else 0

/-! ## ACTION, TM and TIME -/

/-- Versions of a store of which the older is still visible to something in flight (R271). -/
def State.dualCount (s : State) (die : Nat) (t : Tbl Versioned) : Nat :=
  (t.filter (fun (_, v) => earlier (s.oldestTempo die) v.newBorn)).length

/-- ACTION_STATUS. -/
def State.actionStatus (s : State) (die : Nat) : Nat :=
  let p := s.pipe die
  s.dualCount die p.sets + 2 ^ 16 * s.dualCount die p.templates + 2 ^ 28 * b2n p.commitWait + 2 ^ 32 * p.counterCache.length

/-- Block ACTION (R306): the two counter sets hold their counters by offset / 8. -/
def State.actionWord (s : State) (die off : Nat) : Nat :=
  let p := s.pipe die
  if off = 0 then s.actionStatus die
  else if 0x100 ≤ off ∧ off < 0x900 then Tbl.look 0 p.drops0 ((off - 0x100) / 8)
  else if 0x900 ≤ off ∧ off < 0x1100 then Tbl.look 0 p.drops1 ((off - 0x900) / 8)
  else 0

/-- TM_PFC_REQ of a port: classes whose pause is asked for, and classes drawing on headroom. -/
def State.pfcReq (s : State) (port : Nat) : Nat :=
  let used := fun (c : Nat) => Tbl.look 0 (s.tm (port / 8)).headroomUsed (port % 8 * 8 + c)
  (s.port port).pauseReq % 2 ^ 8 + 2 ^ 8 * ((List.range 8).map (fun c => if used c = 0 then 0 else 2 ^ c)).sum

/-- Cells in the fabric queue to a die. -/
def Tm.fabricCells (t : Tm) (d : Nat) : Nat :=
  ((t.lanes.filter (fun e => e.1 / 8 == d)).map (fun e => (e.2.queue.map (fun p => p.cells)).sum)).sum

/-- GATE_STATUS of a port. -/
def GateCtl.value (g : GateCtl) : Nat :=
  g.gates + 2 ^ 8 * b2n g.hold + 2 ^ 9 * b2n g.running.isSome + 2 ^ 10 * b2n g.next.isSome + 2 ^ 11 * b2n g.extending + 2 ^ 16 * g.entry

/-- GATE_TAKEOVER of a port. -/
def GateCtl.takeover (g : GateCtl) : Nat := (((g.next).orElse (fun _ => g.running)).map (fun l => l.takeover)).getD 0

/-- Unused fabric reserve and headroom (TM_SHARED.RESERVED, R350). -/
def State.reservedCells (s : State) (die : Nat) : Nat :=
  let ports := (List.range 8).filter (fun i => (s.port (8 * die + i)).present)
  s.fabricReserve die + (ports.map (fun i => ((List.range 8).map (fun c => s.headroomLeft (8 * die + i) c)).sum)).sum

/-- Block TM (R373). -/
def State.tmWord (s : State) (die off : Nat) : Nat :=
  let t := s.tm die
  if 0x100 ≤ off ∧ off < 0x140 then s.pfcReq (8 * die + (off - 0x100) / 8)
  else if 0x140 ≤ off ∧ off < 0x180 then
    let d := (off - 0x140) / 8
    Tbl.look 0 t.pausedByDest d + 2 ^ 8 * Tbl.look 0 t.pausingSource d + 2 ^ 32 * t.fabricCells d
  else if 0x200 ≤ off ∧ off < 0x300 then
    let g := s.gateOf (8 * die + (off - 0x200) / 0x20)
    if off % 0x20 = 0 then g.value else if off % 0x20 = 8 then g.takeover else 0
  else if 0x400 ≤ off ∧ off < 0x448 then Tbl.look 0 t.counters (off - 0x400)
  else
    match off with
    | 0x00 => t.free + 2 ^ 32 * t.queued
    | 0x08 => t.pipeline + 2 ^ 32 * t.transit
    | 0x10 => s.sharedFree die + 2 ^ 32 * s.reservedCells die
    | _ => 0

/-- TIME_MODEL. -/
def TimeModel.value (m : TimeModel) : Nat := m.baseTick + 2 ^ 64 * m.offset + 2 ^ 160 * m.offsetSub + 2 ^ 192 * m.rate

/-- TIME_PENDING: a step or the low bits of a set, and whether it is one. -/
def TimeModel.pendingValue (m : TimeModel) : Nat :=
  match m.pending with
  | none => 0
  | some (k, step, rate, isSet, value) =>
    k + 2 ^ 64 * (if isSet then value % 2 ^ 64 else unsigned 64 step) + 2 ^ 128 * rate + 2 ^ 192 * b2n isSet
      + 2 ^ 193 * (if isSet then value / 2 ^ 64 % 2 ^ 16 else 0)

/-- PPS_CFG as written, and PPS_IN. -/
def PpsCfg.value (c : PpsCfg) : Nat :=
  b2n c.inEnable + 2 * b2n c.inFalling + 4 * b2n c.outEnable + 8 * b2n c.outWaitValid + 2 ^ 16 * c.inAdj + 2 ^ 32 * c.outAdj
    + 2 ^ 48 * c.vector + 2 ^ 64 * c.widthNs + 2 ^ 96 * c.periodNs
def Pps.inValue (p : Pps) : Nat := p.stamp % 2 ^ 80 + 2 ^ 80 * p.count + 2 ^ 96 * b2n p.new

/-- PORT_PTP_CFG as written. -/
def PtpCfg.value (c : PtpCfg) : Nat :=
  unsigned 16 c.rxAdj + 2 ^ 16 * unsigned 16 c.txAdj + 2 ^ 32 * c.tcMode + 2 ^ 64 * unsigned 64 c.peerDelay

/-- Block TIME (R397). -/
def State.timeWord (s : State) (die off : Nat) : Nat :=
  let t := s.dieTime die
  if 0x20 ≤ off ∧ off < 0x40 then wideWord (t.capTick + 2 ^ 64 * t.capTime) (off - 0x20)
  else if 0x40 ≤ off ∧ off < 0x60 then wideWord s.timeModel.value (off - 0x40)
  else if 0x60 ≤ off ∧ off < 0x80 then wideWord s.timeModel.pendingValue (off - 0x60)
  else if 0x100 ≤ off ∧ off < 0x110 then wideWord s.pps.cfg.written.value (off - 0x100)
  else if 0x110 ≤ off ∧ off < 0x120 then wideWord s.pps.inValue (off - 0x110)
  else if 0x200 ≤ off ∧ off < 0x280 then wideWord (s.port (8 * die + (off - 0x200) / 0x10)).ptp.written.value (off % 0x10)
  else if 0x400 ≤ off ∧ off < 0x500 then Tbl.look 0 (s.port (8 * die + (off - 0x400) / 0x20)).ptpCounters (off % 0x20)
  else if off = 0 then s.timeStatus die
  else if off = 8 then s.tickAt die
  else 0

/-! ## CIPHER, HOLD, QUEUE -/

/-- KEYPAGE_MODE_MAP word `n`. -/
def Cipher.maskedWord (c : Cipher) (n : Nat) : Nat := ((List.range 64).map (fun k => if c.masked.contains (64 * n + k) then 2 ^ k else 0)).sum

/-- Block CIPHER (R419). -/
def State.cipherWord (s : State) (die off : Nat) : Nat :=
  let c := s.cipherOf die
  if 0x400 ≤ off ∧ off < 0x438 then Tbl.look 0 c.counters (off - 0x400)
  else if 0x1000 ≤ off ∧ off < 0x1200 then c.maskedWord ((off - 0x1000) / 8)
  else
    match off with
    | 0x00 => b2n c.cfgErr + 2 ^ 16 * s.cipherQueue die 0 + 2 ^ 32 * s.cipherQueue die 1
    | 0x08 => c.verifyCfg
    | 0x10 => c.used 0 + 2 ^ 16 * c.used 1 + 2 ^ 32 * c.used 2
    | _ => 0

/-- Codes of SLOT_STATUS.STATE. -/
def SlotState.value : SlotState → Nat
  | .empty => 0
  | .active => 1
  | .exhausted => 2
  | .faulted => 3

/-- A register of a key slot at an offset of its 0x80 bytes (R405, R414, R419): KEY_MATERIAL is not read. -/
def State.slotWord (s : State) (die slot off : Nat) : Nat :=
  let k := s.keySlot die slot
  let v := k.newer
  match off with
  | 0x30 => k.stCfg
  | 0x38 => k.stId
  | 0x40 => k.stSeq
  | 0x48 => k.stLimit
  | 0x50 => 4 * b2n k.installBusy + 8 * b2n k.installErr + 16 * k.errCause
  | 0x58 => v.state.value + 4 * b2n (s.slotWaits die slot) + 8 * b2n k.soft + 2 ^ 32 * v.born
  | 0x60 => v.seq
  | 0x68 => min 0xFFFFFFFF v.authFails + 2 ^ 32 * min 0xFFFFFFFF v.replayFails
  | _ => 0

/-- Reserved holding slots that no queue of a die uses (R439): two of each network queue pair and NVMe completion queue. -/
def State.reservedSlots (s : State) (die : Nat) : Nat :=
  ((s.dieQueues die).map (fun e => 2 - e.2.slots)).sum
    + ((s.nvmes.filter (fun e => mDie e.1 == die)).map (fun e => (e.2.cqs.map (fun c => 2 - c.2.held.length)).sum)).sum

/-- Block HOLD. -/
def State.holdWord (s : State) (die off : Nat) : Nat :=
  if off = 0 then 65536 - s.sharedSlots die - s.reservedSlots die + 2 ^ 32 * s.reservedSlots die else 0

/-- FUNC_QSTATUS. -/
def Func.qstatus (f : Func) : Nat := b2n f.halted + 2 ^ 4 * f.haltReason + 2 ^ 8 * f.haltQueue + 2 ^ 16 * f.haltIndex

/-- A function's QUEUE block (R453): doorbells are not read. -/
def State.queueWord (s : State) (fn off : Nat) : Nat :=
  let f := s.func fn
  if 0x1000 ≤ off ∧ off < 0x2000 then
    match s.queue? fn ((off - 0x1000) / 16) with
    | some q => wideWord (s.qstatus fn q) (off % 16)
    | none => 0
  else
    match off with
    | 0x2000 => f.qstatus
    | 0x2100 => f.rxNoSpace
    | 0x2108 => f.rxHoldExpired
    | 0x2110 => f.rxTooLong
    | _ => 0

/-! ## STORAGE, FUNC, SEQ -/

/-- Block STORAGE (R476). -/
def State.storageWord (s : State) (die off : Nat) : Nat :=
  if off = 0 then s.storStatus die
  else if 0x400 ≤ off ∧ off < 0x428 then Tbl.look 0 (s.storage die).counters (off - 0x400)
  else if 0x1000 ≤ off ∧ off < 0x3000 then s.targetStatus die ((off - 0x1000) / 8)
  else 0

/-- The function at a routing-ID offset of a link (R86). -/
def State.atOffset (s : State) (die f : Nat) : Nat :=
  let n := (s.partition die 0).totalVfs
  if f < 2 then fnId die f 0 else if f < 2 + n then fnId die 0 (f - 1) else fnId die 1 (f - 1 - n)

/-- PARTITION (R478). -/
def Partition.value (t : Partition) : Nat :=
  t.totalVfs + 2 ^ 16 * t.queuePairs + 2 ^ 32 * t.vectors + 2 ^ 48 * t.dmaChannels + 2 ^ 56 * t.pfDmaChannels + 2 ^ 64 * t.keyPages
    + 2 ^ 80 * t.namespaces + 2 ^ 96 * t.pfQueuePairs + 2 ^ 112 * t.pfVectors + 2 ^ 128 * t.vfQueuePairsMax
    + 2 ^ 144 * t.vfVectorsMax + 2 ^ 160 * t.stageTotalMib + 2 ^ 176 * t.stageMaxMib

/-- POOL_USE of a die: what its functions have been granted. -/
def State.grantedUse (s : State) (die : Nat) : Nat :=
  let fs := s.funcs.filter (fun e => mDie e.1 == die && e.2.provisioned)
  (fs.map (fun e => e.2.queuePairs)).sum + 2 ^ 16 * (fs.map (fun e => e.2.vectors)).sum + 2 ^ 32 * (fs.map (fun e => e.2.dmaChannels)).sum

/-- Block FUNC (R500). -/
def State.funcWord (s : State) (die off : Nat) : Nat :=
  if off < 8 * 1026 then s.funcStatus (s.atOffset die (off / 8))
  else if 0x4000 ≤ off ∧ off < 0x4040 then wideWord (s.partition die ((off - 0x4000) / 0x20)).value (off % 0x20)
  else if off = 0x4040 then s.grantedUse die
  else 0

/-- MATCH register `n` of the active half (R568). -/
def PatchStore.matchWord (p : PatchStore) (n : Nat) : Nat :=
  match Tbl.find (if p.activeHalf = 0 then p.matches0 else p.matches1) n with
  | some m => m.romAddr + 2 ^ 16 * m.target + 2 ^ 31
  | none => 0

/-- Block SEQ (R572). -/
def State.seqWord (s : State) (die off : Nat) : Nat :=
  if off < 0x80 then s.seqStatus (die * 16 + off / 8)
  else if off = 0x100 then s.patchStatus
  else if 0x200 ≤ off ∧ off < 0x300 then s.patch.matchWord ((off - 0x200) / 8)
  else if 0x400 ≤ off ∧ off < 0x420 then Tbl.look 0 s.seqCounters (die * 4 + (off - 0x400) / 8)
  else 0

/-! ## ERRQ, WINDOW, MSI-X -/

/-- DRAM_MARK (R586). -/
def DramMark.value (m : DramMark) : Nat := m.device + 2 ^ 3 * b2n m.marked + 2 ^ 32 * m.corrected

/-- A byte of the record window: that of the slot's record; a slot that holds none shows what its memory held (R574, R581). -/
def Errors.windowByte (e : Errors) (b : Nat) : Byte :=
  match e.records.find? (fun r => r.ersn % 4096 == b / 64) with
  | some r => (r.bytes).getD (b % 64) 0
  | none => Config.staleByte (2 ^ 22 + b)

/-- Block ERRQ (R581, R605). -/
def State.errqWord (s : State) (die off : Nat) : Nat :=
  let e := s.errors
  if 0x10000 ≤ off ∧ off < 0x50000 then le ((List.range 8).map (fun i => e.windowByte (off - 0x10000 + i)))
  else if 0x100 ≤ off ∧ off < 0x120 then (s.dramMark (die * 4 + (off - 0x100) / 8)).value
  else
    match off with
    | 0x00 => e.first
    | 0x08 => e.next
    | 0x10 => s.errStatus
    | 0x18 => (s.link die).errVector + 2 ^ 12 * (s.link die).errMinSeverity
    | _ => 0

/-- Block WINDOW. -/
def State.windowWord (s : State) (die off : Nat) : Nat :=
  let l := s.link die
  if off = 0 then l.winCounterPage else if off = 8 then l.winSpace + 2 ^ 3 * b2n l.winEnable + 2 ^ 16 * l.winPage else 0

/-- A function's MSI-X table (R88, R641). -/
def State.msixWord (s : State) (fn off : Nat) : Nat :=
  let f := s.func fn
  let v := Tbl.look MsixVec.reset f.msix (off / 16)
  if f.vectorsInEffect ≤ off / 16 then 0
  else if off % 16 = 0 then v.address else v.data + 2 ^ 32 * b2n v.masked

/-- A function's Pending Bit Array. -/
def State.pbaWord (s : State) (fn off : Nat) : Nat :=
  let f := s.func fn
  ((List.range 64).map (fun i =>
    let n := 8 * off + i
    if n < f.vectorsInEffect ∧ (Tbl.look MsixVec.reset f.msix n).pending then 2 ^ i else 0)).sum

end Sys2Proof.Machine
end

