-- ==== Sys2Proof/Machine/RegSpace.lean ====
section
/-! DEFINITION. The address spaces a host reads: PF0's windows into counters and tables, the BARs of every function, and table row
CLEAR_ON_READ, a read of any register with the effect the read has (spec/22 R641–R650, access codes of R11). What the spec does not
give of a window's bytes is a free value (log 124). -/

namespace Sys2Proof.Machine

/-! ## The counter window -/

/-- A counter pair at this clock: what DRAM holds and the increments still in the cache, modulo 2^64; zeros on a die with no DRAM
(R292–R295). -/
def State.pairNow (s : State) (die pair : Nat) : Nat × Nat :=
  let p := s.pipe die
  let a := Tbl.look (0, 0) p.counters pair
  let b := Tbl.look (0, 0) p.counterCache pair
  if s.dramOf die = 0 then (0, 0) else ((a.1 + b.1) % 2 ^ 64, (a.2 + b.2) % 2 ^ 64)

/-- Word at an offset of the counter window (R648). -/
def State.counterWindow (s : State) (die off : Nat) : Nat :=
  let c := s.pairNow die (1048576 * (s.link die).winCounterPage + off / 16)
  if off % 16 = 0 then c.1 else c.2

/-! ## The table window (R649, Table 22.2) -/

/-- A key that hashes to the slot as its primary lives in another slot of its table (R243). -/
def Pipe.overflows (p : Pipe) (n slot : Nat) (e : TEntry) : Bool :=
  p.entries.any (fun x => x.table == e.table && x.place != slot && flowPrimary n x.table x.key == slot)

/-- The 12-byte header of an entry (Table 07.12). -/
def TEntry.header (e : TEntry) (overflow : Bool) : List Byte :=
  toLe 4 e.born ++ toLe 4 (e.retired.getD 0) ++ toLe 2 e.action
    ++ toLe 1 (1 + 2 * b2n e.retired.isSome + 4 * b2n e.dataPlane + 8 * b2n e.pinned + 16 * b2n overflow) ++ toLe 1 e.key.length

/-- The bytes of an exact or flow entry, and of a TCAM result entry (R237). -/
def TEntry.image (e : TEntry) (overflow : Bool) : List Byte := e.header overflow ++ e.key ++ e.params
def TEntry.result (e : TEntry) : List Byte := e.header false ++ toLe 2 e.priority ++ toLe 2 0 ++ sub e.params 0 16

/-- The tables of a kind that either bank declares on a die, by ascending TABLE_ID. -/
def State.tablesOf (s : State) (die : Nat) (k : TableKind) : List TableDecl :=
  let all := (s.bankOf 0).tables (s.dramOf die) ++ (s.bankOf 1).tables (s.dramOf die)
  (List.range 256).filterMap (fun t => all.find? (fun d => d.table == t && decide (d.kind = k)))

/-- The area of an EXACT table (R241), and at a 64 KiB boundary. -/
def TableDecl.area (d : TableDecl) : Nat := ceilDiv (ceilDiv (d.capacity * d.entrySize * 5) 4) 65536 * 65536

/-- The exact table at an offset of the partition, and the offset within its area. -/
def exactAt : List TableDecl → Nat → Option (TableDecl × Nat)
  | [], _ => none
  | d :: ds, off => if off < d.area then some (d, off) else exactAt ds (off - d.area)

/-- A byte of an entry that may be there. -/
def byteOf (e : Option (List Byte)) (i : Nat) : Byte := (e.getD []).getD i 0

/-- A byte of SPACE 0. The order of a table's entries is free. -/
def State.exactByte (s : State) (die off : Nat) : Byte :=
  match exactAt (s.tablesOf die .exact) off with
  | none => 0
  | some (d, o) =>
    let place := Config.exactPlace d.table (o / d.entrySize)
    byteOf (((s.pipe die).entries.find? (fun e => e.table == d.table && e.place == place)).map (fun e => e.image false)) (o % d.entrySize)

/-- The TCAM entry at an address: TCAM tables share one address range (R255). -/
def State.tcamAt (s : State) (die a : Nat) : Option TEntry :=
  let ts := (s.tablesOf die .tcam).map (fun d => d.table)
  (s.pipe die).entries.find? (fun e => ts.contains e.table && e.place == a)

/-- A byte of SPACE 1 and of SPACE 2. -/
def State.tcamResultByte (s : State) (die off : Nat) : Byte := byteOf ((s.tcamAt die (off / 32)).map TEntry.result) (off % 32)
def State.tcamKeyByte (s : State) (die off : Nat) : Byte :=
  byteOf ((s.tcamAt die (off / 128)).map (fun e => sub e.key 0 64 ++ sub e.mask 0 64)) (off % 128)

/-- Slots of the die's flow region: that of the bank in force, or else of the other (R242). -/
def State.flowRegion (s : State) (die : Nat) : Nat :=
  let gib := fun (k : Nat) => (((s.bankOf k).tables (s.dramOf die)).find? (fun d => decide (d.kind = .flow))).map (fun d => d.capacity)
  flowSlots (((gib s.tempo.bank).orElse (fun _ => gib (1 - s.tempo.bank))).getD 0)

/-- A byte of SPACE 3: a way shows the latest version of its key; one that is empty, or a negative mark, has VALID clear. -/
def State.flowCacheByte (s : State) (die off : Nat) : Byte :=
  let p := s.pipe die
  match Tbl.find p.cache (off / 128) with
  | some w =>
    let e := if w.negative then none else (p.entries.reverse.find? (fun e => e.table == w.table && e.key == w.key))
    byteOf (e.map (fun e => e.image (p.overflows (s.flowRegion die) e.place e))) (off % 128)
  | none => 0

/-- A byte of SPACE 5, at an offset of the region. -/
def State.flowRegionByte (s : State) (die off : Nat) : Byte :=
  let p := s.pipe die
  let n := s.flowRegion die
  let ts := (s.tablesOf die .flow).map (fun d => d.table)
  if off / 128 < n then
    byteOf ((p.entries.find? (fun e => ts.contains e.table && e.place == off / 128)).map (fun e => e.image (p.overflows n e.place e)))
      (off % 128)
  else 0

/-- An action word as it lies in the store (Table 08.2). -/
def ActionWord.bytes (w : ActionWord) : List Byte :=
  toLe 4 (w.next + 2 ^ 16 * w.nextMode + 2 ^ 18 * w.result) ++ w.slots.flatMap (toLe 4)

/-- A policer record as it lies in the store (Table 08.10). -/
def Policer.bytes (q : Policer) : List Byte :=
  toLe 1 q.mode ++ toLe 1 (b2n q.colorAware + 2 * b2n q.resetToZero) ++ toLe 2 0 ++ toLe 4 q.cir ++ toLe 4 q.pir ++ toLe 4 q.cbs
    ++ toLe 4 q.ebsPbs ++ toLe 4 (q.tokensC / byteUnits) ++ toLe 4 (q.tokensEp / byteUnits) ++ toLe 4 q.last

/-- The bytes of one of the two versions of a set or template. -/
def Versioned.bytesOf (v : Versioned) (k : Nat) : List Byte := if k = 0 then v.valueA else v.valueB

/-- A byte of the entry tables: 4,096 entry numbers of 2 bytes for each bank; the standard program's are not in the spec. -/
def State.entryByte (s : State) (off : Nat) : Byte :=
  let b := s.bankOf (off / 8192)
  if b.standard then Config.stdActionByte off else byteOf (some (toLe 2 (Tbl.look 0 b.entryTable (off % 8192 / 2)))) (off % 2)

/-- A byte of the action words, which lie at 32 × their address: a word of a loaded bank, or the standard program's. -/
def State.actionByte (s : State) (off : Nat) : Byte :=
  let held := fun (k : Nat) => if (s.bankOf k).standard then none else Tbl.find (s.bankOf k).words (off / 32)
  match (held 0).orElse (fun _ => held 1) with
  | some w => byteOf (some w.bytes) (off % 32)
  | none => if (s.bankOf 0).standard || (s.bankOf 1).standard then Config.stdActionByte off else 0

/-- A byte of SPACE 4. -/
def State.actionSpaceByte (s : State) (die off : Nat) : Byte :=
  let p := s.pipe die
  if off < 0x4000 then s.entryByte off
  else if off < 0x200000 then s.actionByte off
  else if off < 0x280000 then
    let o := off - 0x200000
    byteOf ((Tbl.find p.sets (o / 64)).map (fun v => v.bytesOf (o % 64 / 32))) (o % 32)
  else if off < 0x300000 then
    let o := off - 0x280000
    byteOf ((Tbl.find p.templates (o / 256)).map (fun v => v.bytesOf (o % 256 / 128))) (o % 128)
  else if off < 0x400000 then byteOf ((Tbl.find p.policers ((off - 0x300000) / 32)).map Policer.bytes) (off % 32)
  else 0

/-- A byte of the table window as WIN_TABLE selects it (R649). -/
def State.tableByte (s : State) (die off : Nat) : Byte :=
  let l := s.link die
  if l.winEnable = false ∨ (l.winSpace ≠ 5 ∧ l.winPage ≠ 0) then 0
  else
    match l.winSpace with
    | 0 => if off < 15 * 2 ^ 20 then s.exactByte die off else 0
    | 1 => if off < 2 ^ 20 then s.tcamResultByte die off else 0
    | 2 => if off < 2 ^ 22 then s.tcamKeyByte die off else 0
    | 3 => if off < 2 ^ 24 then s.flowCacheByte die off else 0
    | 4 => s.actionSpaceByte die off
    | 5 => s.flowRegionByte die (off + 2 ^ 25 * l.winPage)
    | _ => 0

/-- Word at an offset of the table window. -/
def State.tableWindow (s : State) (die off : Nat) : Nat := le ((List.range 8).map (fun i => s.tableByte die (off + i)))

/-! ## The spaces -/

/-- CAP of an NVMe controller: 32,768 entries, contiguous queues, a timeout of 30 s, the NVM command set, pages of 4 KiB to 64 KiB
(R454, log 52). -/
def nvmeCap : Nat := 0x7FFF + 2 ^ 16 + 60 * 2 ^ 24 + 2 ^ 37 + 4 * 2 ^ 52

/-- NVMe controller registers (R454; offsets of NVM Express Base 2.0, log 52). -/
def State.nvmeWord (s : State) (fn off : Nat) : Nat :=
  let c := s.nvme fn
  match off with
  | 0x00 => nvmeCap
  | 0x08 => 0x20000 + 2 ^ 32 * c.intms
  | 0x10 => c.intms + 2 ^ 32 * c.cc
  | 0x18 => 2 ^ 32 * c.csts
  | 0x20 => 2 ^ 32 * c.aqa
  | 0x28 => c.asq
  | 0x30 => c.acq
  | _ => 0

/-- BAR0 of a storage function (R644). -/
def State.storageBar (s : State) (fn off : Nat) : Nat :=
  if off < 0x1000 then s.nvmeWord fn off
  else if 0x2000 ≤ off ∧ off < 0x2018 then s.ownBoxWord fn (off - 0x2000)
  else if 0x4000 ≤ off ∧ off < 0x5000 then s.pbaWord fn (off - 0x4000)
  else if 0x8000 ≤ off ∧ off < 0x10000 then s.msixWord fn (off - 0x8000)
  else 0

/-- A key page of BAR2 (R419). -/
def State.keyPageWord (s : State) (fn off : Nat) : Nat :=
  match s.pageAt fn (off / 4096) with
  | some page =>
    let slot := page * 32 + off % 4096 / 0x80
    if s.pageReach (mDie fn) slot fn then s.slotWord (mDie fn) slot (off % 0x80) else 0
  | none => 0

/-- BAR0 of a network virtual function (R643). -/
def State.netVfBar (s : State) (fn off : Nat) : Nat :=
  if off < 0x4000 then s.queueWord fn off
  else if off < 0x4018 then s.ownBoxWord fn (off - 0x4000)
  else if 0x5000 ≤ off ∧ off < 0x6000 then s.pbaWord fn (off - 0x5000)
  else if 0x8000 ≤ off ∧ off < 0x10000 then s.msixWord fn (off - 0x8000)
  else 0

/-- The blocks of PF0's BAR0 below QUEUE (Table 22.1). -/
def State.blockWord (s : State) (die block o : Nat) : Nat :=
  match block with
  | 0x00 => s.packageWord die o
  | 0x01 => s.hostWord die o
  | 0x02 => s.containmentWord die o
  | 0x03 => if o = 0 then s.protectStatus else 0
  | 0x04 => s.mailboxWord die o
  | 0x05 => s.cmdqWord die o
  | 0x06 => s.tempoWord die o
  | 0x07 => if o = 0x8000 then s.spareStatus die else if o < 0x8000 then s.portWord (8 * die + o / 0x1000) (o % 0x1000) else 0
  | 0x08 => s.pipeWord die o
  | 0x09 => s.actionWord die o
  | 0x0A => s.tmWord die o
  | 0x0B => s.timeWord die o
  | 0x0C => s.cipherWord die o
  | 0x0D => s.holdWord die o
  | 0x0E => s.dmaWord die o
  | 0x0F => s.storageWord die o
  | 0x10 => s.funcWord die o
  | 0x11 => s.seqWord die o
  | 0x12 => s.windowWord die o
  | 0x13 => if o < 0x8000 then s.msixWord (pf0 die) o else s.pbaWord (pf0 die) (o - 0x8000)
  | k => if 0x14 ≤ k ∧ k < 0x1A then s.podWord (die * 6 + (k - 0x14)) o else 0

/-- BAR0 and BAR2 of PF0 (R641, R642). -/
def State.managerWord (s : State) (die off : Nat) : Nat :=
  if bar2Base ≤ off then
    let o := off - bar2Base
    if o < 0x40000 then s.keyPageWord (pf0 die) o
    else if 0x1000000 ≤ o ∧ o < 0x2000000 then s.counterWindow die (o - 0x1000000)
    else if 0x2000000 ≤ o ∧ o < 0x4000000 then s.tableWindow die (o - 0x2000000)
    else 0
  else if 0x200000 ≤ off ∧ off < 0x210000 then s.queueWord (pf0 die) (off - 0x200000)
  else if 0x400000 ≤ off ∧ off < 0x480000 then s.errqWord die (off - 0x400000)
  else if 0x800000 ≤ off ∧ off < 0x1000000 then s.journalWord (off - 0x800000)
  else s.blockWord die (off / 0x10000) (off % 0x10000)

/-- The aligned 8-byte word at an offset of a function's space; reserved ranges read zero (R645). -/
def State.regWord (s : State) (fn off : Nat) : Nat :=
  if fnPf fn = 1 then if off < bar2Base then s.storageBar fn off else 0
  else if fnVf fn = 0 then s.managerWord (mDie fn) off
  else if bar2Base ≤ off then if off < bar2Base + 0x40000 then s.keyPageWord fn (off - bar2Base) else 0
  else s.netVfBar fn off

/-- A byte of a function's space. -/
def State.regByte (s : State) (fn a : Nat) : Nat := s.regWord fn (a / 8 * 8) / 2 ^ (8 * (a % 8)) % 256

/-- A read of `n` bytes: from one word where they lie in one. -/
def State.regRead (s : State) (fn off n : Nat) : Nat :=
  if off % 8 + n ≤ 8 then s.regWord fn (off / 8 * 8) / 2 ^ (8 * (off % 8)) % 2 ^ (8 * n)
  else ((List.range n).map (fun i => 2 ^ (8 * i) * s.regByte fn (off + i))).sum

/-! ## What a read does -/

/-- A read of `n` bytes from `off` covers any of the `m` bytes from `r`. -/
def reads (off n r m : Nat) : Bool := decide (off < r + m) && decide (r < off + n)

/-- The mailbox whose MBX_RECV a function finds at an offset. -/
def recvAt (fn off : Nat) : Option Nat :=
  if fnPf fn = 1 then if off = 0x2008 then some fn else none
  else if fnVf fn ≠ 0 then if off = 0x4008 then some fn else none
  else if off = 0x40008 then some fn
  else if 0x44000 ≤ off ∧ off < 0x46000 ∧ off % 32 = 8 then some (agentBoxBase + mDie fn * 256 + (off - 0x44000) / 32)
  else none

/-- A read covers MBX_RECV at a 4-byte offset: its head word is taken (R120, R127). -/
def State.takeAt (s : State) (fn off : Nat) : State :=
  match recvAt fn off with
  | some box => (s.mbxRead box fn).2
  | none => s

/-- The clear-on-read fields of PF0's BAR0 that a read covers are cleared: FCS_ERRORS, LATE_CPL_COUNT, CTO_COUNT, CONTAINED_DROPS,
SIG_FAILS, TXN_COUNTS (R11, R645). -/
def State.clearsOf (s : State) (die off n : Nat) : State :=
  let s := if reads off n 0x122 2 then { s with chain := { s.chain with fcsErrors := 0 } } else s
  let s := if reads off n 0x10218 4 then s.modLink die (fun l => { l with lateCpl := 0 }) else s
  let s := if reads off n 0x10220 4 then s.modLink die (fun l => { l with cto := 0 }) else s
  let s := if reads off n 0x21050 4 then s.modLink die (fun l => { l with containedDrops := 0 }) else s
  let s := if reads off n 0x30002 2 then { s with protect := { s.protect with sigFails := 0 } } else s
  if reads off n 0x60028 8 then
    { s with tempo := { s.tempo with committedCount := 0, abortedCount := 0, conflictCount := 0, expiredCount := 0 } }
  else s

/-- What a read of `n` bytes leaves: MBX_RECV registers it covers give up their head words, and clear-on-read fields clear. -/
def State.readDone (s : State) (fn off n : Nat) : State :=
  if n = 0 then s
  else
    let s := (List.range ((off + n - 1) / 4 - off / 4 + 1)).foldl (fun s i => s.takeAt fn ((off / 4 + i) * 4)) s
    if fn = pf0 (mDie fn) then s.clearsOf (mDie fn) off n else s

/-- CLEAR_ON_READ (R11, R645): a host's read of some bytes returns them, and what it covers of clear-on-read fields is cleared.
Over a FROZEN link a register outside the containment block reads all ones and keeps its value (R105). -/
def execClearOnRead (fn : Nat) (span : ReadSpan) (s : State) : Host.Outcome State Fault Refusal :=
  let offset := span.offset
  let size := span.size
  if mClass fn ≠ 0 then .next s
  else if s.writeReach fn offset then .next ((s.readDone fn offset size).emit (.read fn (s.regRead fn offset size)))
  else if s.ready && s.configReach fn && (s.link (mDie fn)).frozen then .next (s.emit (.read fn (2 ^ (8 * size) - 1)))
  else .next s

end Sys2Proof.Machine
end

