-- ==== Sys2Proof/Machine/Dispatch.lean ====
section
/-! DEFINITION. Dispatch: one arm per command, each one direct call of its meaning. -/

namespace Sys2Proof.Machine

def exec (i : Instr) (s : State) : Host.Outcome State Fault Refusal :=
  match i with
  | .vauxRise => Sys2Proof.Machine.execVauxRise s
  | .vauxLoss => Sys2Proof.Machine.execVauxLoss s
  | .vinRise => Sys2Proof.Machine.execVinRise s
  | .railsGood => Sys2Proof.Machine.execRailsGood s
  | .vinLow => Sys2Proof.Machine.execVinLow s
  | .railOutOfRegulation die => Sys2Proof.Machine.execRailOutOfRegulation die s
  | .pkgResetN asserted => Sys2Proof.Machine.execPkgResetN asserted s
  | .perstN position asserted => Sys2Proof.Machine.execPerstN position asserted s
  | .trstN => Sys2Proof.Machine.execTrstN s
  | .rootPllLock => Sys2Proof.Machine.execRootPllLock s
  | .selfTest position passed => Sys2Proof.Machine.execSelfTest position passed s
  | .dieChain => Sys2Proof.Machine.execDieChain s
  | .flashHeaderRead present modes a b => Sys2Proof.Machine.execFlashHeaderRead present modes a b s
  | .imageRead check => Sys2Proof.Machine.execImageRead check s
  | .firmwareStart => Sys2Proof.Machine.execFirmwareStart s
  | .bootWatchdog => Sys2Proof.Machine.execBootWatchdog s
  | .refclkLoss => Sys2Proof.Machine.execRefclkLoss s
  | .refclkHoldoverExpiry => Sys2Proof.Machine.execRefclkHoldoverExpiry s
  | .refclkReturn => Sys2Proof.Machine.execRefclkReturn s
  | .pllLockLoss die standbyOk => Sys2Proof.Machine.execPllLockLoss die standbyOk s
  | .temperatureMeasure die temp => Sys2Proof.Machine.execTemperatureMeasure die temp s
  | .thermalTrip die => Sys2Proof.Machine.execThermalTrip die s
  | .supplyMeasure vinMv vauxMv inputDw => Sys2Proof.Machine.execSupplyMeasure vinMv vauxMv inputDw s
  | .stollekFrameReceive frame => Sys2Proof.Machine.execStollekFrameReceive frame s
  | .enumerate seq next mode maxRate => Sys2Proof.Machine.execEnumerate seq next mode maxRate s
  | .rate seq code => Sys2Proof.Machine.execRate seq code s
  | .release dest seq => Sys2Proof.Machine.execRelease dest seq s
  | .bypass dest seq enter => Sys2Proof.Machine.execBypass dest seq enter s
  | .status dest seq => Sys2Proof.Machine.execStatus dest seq s
  | .wake dest seq mask => Sys2Proof.Machine.execWake dest seq mask s
  | .spdm link seq code body => Sys2Proof.Machine.execSpdm link seq code body s
  | .command seq byte0 data => Sys2Proof.Machine.execCommand seq byte0 data s
  | .commandFetch seq n => Sys2Proof.Machine.execCommandFetch seq n s
  | .chainPartialCommandTimeout => Sys2Proof.Machine.execChainPartialCommandTimeout s
  | .chainReplyHoldTimeout => Sys2Proof.Machine.execChainReplyHoldTimeout s
  | .endorseFrame seq byte0 data good => Sys2Proof.Machine.execEndorseFrame seq byte0 data good s
  | .chainClockLoss => Sys2Proof.Machine.execChainClockLoss s
  | .txnFramePrepare seq txn group instant => Sys2Proof.Machine.execTxnFramePrepare seq txn group instant s
  | .txnFrameCommit seq txn group instant => Sys2Proof.Machine.execTxnFrameCommit seq txn group instant s
  | .txnFrameAbort seq txn group instant => Sys2Proof.Machine.execTxnFrameAbort seq txn group instant s
  | .txnFrameStatus seq txn group instant => Sys2Proof.Machine.execTxnFrameStatus seq txn group instant s
  | .crossPackageCommitDeadline txn => Sys2Proof.Machine.execCrossPackageCommitDeadline txn s
  | .linkTraining link speed width flit reversed failedLanes => Sys2Proof.Machine.execLinkTraining link speed width flit reversed failedLanes s
  | .receiverDetection link present => Sys2Proof.Machine.execReceiverDetection link present s
  | .surpriseLinkDown link => Sys2Proof.Machine.execSurpriseLinkDown link s
  | .malformedTlp link => Sys2Proof.Machine.execMalformedTlp link s
  | .hostPathInternalError link => Sys2Proof.Machine.execHostPathInternalError link s
  | .hotReset link => Sys2Proof.Machine.execHotReset link s
  | .busMasterEnableClear fn => Sys2Proof.Machine.execBusMasterEnableClear fn s
  | .busMasterEnableSet fn => Sys2Proof.Machine.execBusMasterEnableSet fn s
  | .functionLevelReset fn => Sys2Proof.Machine.execFunctionLevelReset fn s
  | .vfEnableClear pf => Sys2Proof.Machine.execVfEnableClear pf s
  | .d3hotEntry fn => Sys2Proof.Machine.execD3hotEntry fn s
  | .d3hotExit fn => Sys2Proof.Machine.execD3hotExit fn s
  | .pmeEvent fn => Sys2Proof.Machine.execPmeEvent fn s
  | .configurationRequest fn write field value => Sys2Proof.Machine.execConfigurationRequest fn write field value s
  | .completionArrival link tag data good => Sys2Proof.Machine.execCompletionArrival link tag data good s
  | .completionTimeout link tag => Sys2Proof.Machine.execCompletionTimeout link tag s
  | .quarantineExpiry link tag => Sys2Proof.Machine.execQuarantineExpiry link tag s
  | .ideCheckFailure link stream => Sys2Proof.Machine.execIdeCheckFailure link stream s
  | .containmentRelease link value => Sys2Proof.Machine.execContainmentRelease link value s
  | .releaseArmTimeout link => Sys2Proof.Machine.execReleaseArmTimeout link s
  | .mbxSend box writer value => Sys2Proof.Machine.execMbxSend box writer value s
  | .mbxSendEnd box writer value => Sys2Proof.Machine.execMbxSendEnd box writer value s
  | .mbxRecv box reader => Sys2Proof.Machine.execMbxRecv box reader s
  | .cmdqRequestDoorbell link tail => Sys2Proof.Machine.execCmdqRequestDoorbell link tail s
  | .cmdqReplyHeadWrite link head => Sys2Proof.Machine.execCmdqReplyHeadWrite link head s
  | .cmdqEnable link on => Sys2Proof.Machine.execCmdqEnable link on s
  | .commandPacketFetched link => Sys2Proof.Machine.execCommandPacketFetched link s
  | .commandReplyWrite link => Sys2Proof.Machine.execCommandReplyWrite link s
  | .deviceInfo p => Sys2Proof.Machine.execDeviceInfo p s
  | .journalQuery p => Sys2Proof.Machine.execJournalQuery p s
  | .journalMirrorSet p => Sys2Proof.Machine.execJournalMirrorSet p s
  | .journalMirrorClear p => Sys2Proof.Machine.execJournalMirrorClear p s
  | .journalMark p => Sys2Proof.Machine.execJournalMark p s
  | .mirrorConfirmRead good => Sys2Proof.Machine.execMirrorConfirmRead good s
  | .mirrorRetry => Sys2Proof.Machine.execMirrorRetry s
  | .mirrorResume => Sys2Proof.Machine.execMirrorResume s
  | .commandPacket fn cid address length => Sys2Proof.Machine.execCommandPacket fn cid address length s
  | .commandReply fn cid sequence address length => Sys2Proof.Machine.execCommandReply fn cid sequence address length s
  | .propose p => Sys2Proof.Machine.execPropose p s
  | .endorse p good => Sys2Proof.Machine.execEndorse p good s
  | .authorityConfirm p good => Sys2Proof.Machine.execAuthorityConfirm p good s
  | .proposalQuery p => Sys2Proof.Machine.execProposalQuery p s
  | .proposalWithdraw p good => Sys2Proof.Machine.execProposalWithdraw p good s
  | .proposalExpiry proposal => Sys2Proof.Machine.execProposalExpiry proposal s
  | .debugUnlockExpiry => Sys2Proof.Machine.execDebugUnlockExpiry s
  | .portSetMode p => Sys2Proof.Machine.execPortSetMode p s
  | .portQuery p => Sys2Proof.Machine.execPortQuery p s
  | .portSetLanes p => Sys2Proof.Machine.execPortSetLanes p s
  | .portSetFilter p => Sys2Proof.Machine.execPortSetFilter p s
  | .autoNegotiation port speed fec page => Sys2Proof.Machine.execAutoNegotiation port speed fec page s
  | .autoNegotiationTimeout port => Sys2Proof.Machine.execAutoNegotiationTimeout port s
  | .portLinkUp port => Sys2Proof.Machine.execPortLinkUp port s
  | .portLinkDown port => Sys2Proof.Machine.execPortLinkDown port s
  | .laneFailure die lane => Sys2Proof.Machine.execLaneFailure die lane s
  | .preemptVerify port answered => Sys2Proof.Machine.execPreemptVerify port answered s
  | .frameReceive port bytes fcsGood frag => Sys2Proof.Machine.execFrameReceive port bytes fcsGood frag s
  | .pauseExpiry port cls => Sys2Proof.Machine.execPauseExpiry port cls s
  | .pfcWatchdogTrip port cls => Sys2Proof.Machine.execPfcWatchdogTrip port cls s
  | .pauseRefresh port => Sys2Proof.Machine.execPauseRefresh port s
  | .synceRefLoss => Sys2Proof.Machine.execSynceRefLoss s
  | .synceRefReturn => Sys2Proof.Machine.execSynceRefReturn s
  | .statsSnapshot port => Sys2Proof.Machine.execStatsSnapshot port s
  | .statsClear port => Sys2Proof.Machine.execStatsClear port s
  | .wakeFrame bytes => Sys2Proof.Machine.execWakeFrame bytes s
  | .packetAdmit die pipe faults => Sys2Proof.Machine.execPacketAdmit die pipe faults s
  | .flowReadResult die read => Sys2Proof.Machine.execFlowReadResult die read s
  | .actionProgram packet fault => Sys2Proof.Machine.execActionProgram packet fault s
  | .learnApply die => Sys2Proof.Machine.execLearnApply die s
  | .tcamDataPlaneWrite die => Sys2Proof.Machine.execTcamDataPlaneWrite die s
  | .entryRewrite die table index => Sys2Proof.Machine.execEntryRewrite die table index s
  | .counterCacheMiss die pair => Sys2Proof.Machine.execCounterCacheMiss die pair s
  | .policerSweep die => Sys2Proof.Machine.execPolicerSweep die s
  | .cipherUnitStart die unit => Sys2Proof.Machine.execCipherUnitStart die unit s
  | .cipherUnitDone die unit tagGood output => Sys2Proof.Machine.execCipherUnitDone die unit tagGood output s
  | .plaintextDepart die unit => Sys2Proof.Machine.execPlaintextDepart die unit s
  | .install die slot fn => Sys2Proof.Machine.execInstall die slot fn s
  | .retire die slot fn => Sys2Proof.Machine.execRetire die slot fn s
  | .installWaitEnd die slot => Sys2Proof.Machine.execInstallWaitEnd die slot s
  | .keyInstall p => Sys2Proof.Machine.execKeyInstall p s
  | .keyRetire p => Sys2Proof.Machine.execKeyRetire p s
  | .keypageMode p => Sys2Proof.Machine.execKeypageMode p s
  | .tmEnqueue die leaf pkt => Sys2Proof.Machine.execTmEnqueue die leaf pkt s
  | .fabricEnqueue die dest pkt => Sys2Proof.Machine.execFabricEnqueue die dest pkt s
  | .fabricSend die dim chan detour => Sys2Proof.Machine.execFabricSend die dim chan detour s
  | .flitReceive die dim chan detour => Sys2Proof.Machine.execFlitReceive die dim chan detour s
  | .fabricPause die fromDie cls pause => Sys2Proof.Machine.execFabricPause die fromDie cls pause s
  | .schedule port => Sys2Proof.Machine.execSchedule port s
  | .gateEntryChange port => Sys2Proof.Machine.execGateEntryChange port s
  | .gateTakeover port => Sys2Proof.Machine.execGateTakeover port s
  | .rateProfileSet p => Sys2Proof.Machine.execRateProfileSet p s
  | .tmQuery p => Sys2Proof.Machine.execTmQuery p s
  | .tmNodeSet p => Sys2Proof.Machine.execTmNodeSet p s
  | .shaperSet p => Sys2Proof.Machine.execShaperSet p s
  | .gateListSet p => Sys2Proof.Machine.execGateListSet p s
  | .tableInsert p => Sys2Proof.Machine.execTableInsert p s
  | .tableDelete p => Sys2Proof.Machine.execTableDelete p s
  | .tableModify p => Sys2Proof.Machine.execTableModify p s
  | .tableQuery p => Sys2Proof.Machine.execTableQuery p s
  | .programLoad p => Sys2Proof.Machine.execProgramLoad p s
  | .steerSet p => Sys2Proof.Machine.execSteerSet p s
  | .actionParamSet p => Sys2Proof.Machine.execActionParamSet p s
  | .txnBegin p => Sys2Proof.Machine.execTxnBegin p s
  | .txnCommit p => Sys2Proof.Machine.execTxnCommit p s
  | .txnAbort p => Sys2Proof.Machine.execTxnAbort p s
  | .txnQuery p => Sys2Proof.Machine.execTxnQuery p s
  | .txnExpiry txn => Sys2Proof.Machine.execTxnExpiry txn s
  | .phaseOne txn => Sys2Proof.Machine.execPhaseOne txn s
  | .prepare die => Sys2Proof.Machine.execPrepare die s
  | .prepareAnswer die ready => Sys2Proof.Machine.execPrepareAnswer die ready s
  | .tempoSwitch => Sys2Proof.Machine.execTempoSwitch s
  | .ageingSweep die => Sys2Proof.Machine.execAgeingSweep die s
  | .reclaim die => Sys2Proof.Machine.execReclaim die s
  | .timeQuery p => Sys2Proof.Machine.execTimeQuery p s
  | .timeSet p => Sys2Proof.Machine.execTimeSet p s
  | .timeAdjust p => Sys2Proof.Machine.execTimeAdjust p s
  | .timeChangeTick => Sys2Proof.Machine.execTimeChangeTick s
  | .alignmentMeasurement die offset => Sys2Proof.Machine.execAlignmentMeasurement die offset s
  | .alignmentTimeout die => Sys2Proof.Machine.execAlignmentTimeout die s
  | .timeCapture die => Sys2Proof.Machine.execTimeCapture die s
  | .ppsConfig p => Sys2Proof.Machine.execPpsConfig p s
  | .ppsInEdge edge => Sys2Proof.Machine.execPpsInEdge edge s
  | .ppsOutPulse rise => Sys2Proof.Machine.execPpsOutPulse rise s
  | .queueCreate p => Sys2Proof.Machine.execQueueCreate p s
  | .queueDestroy p => Sys2Proof.Machine.execQueueDestroy p s
  | .queueQuery p => Sys2Proof.Machine.execQueueQuery p s
  | .queueSetMapping p => Sys2Proof.Machine.execQueueSetMapping p s
  | .sqDoorbell fn queue index => Sys2Proof.Machine.execSqDoorbell fn queue index s
  | .cqDoorbell fn queue index arm => Sys2Proof.Machine.execCqDoorbell fn queue index arm s
  | .paceAck die chan bytes => Sys2Proof.Machine.execPaceAck die chan bytes s
  | .sqFetch fn queue => Sys2Proof.Machine.execSqFetch fn queue s
  | .sqEntryFetched fn queue => Sys2Proof.Machine.execSqEntryFetched fn queue s
  | .ownWaitRetry fn queue => Sys2Proof.Machine.execOwnWaitRetry fn queue s
  | .controlFetchRetry fn queue index => Sys2Proof.Machine.execControlFetchRetry fn queue index s
  | .send fn queue index => Sys2Proof.Machine.execSend fn queue index s
  | .sendTso fn queue index => Sys2Proof.Machine.execSendTso fn queue index s
  | .rxPost fn queue index => Sys2Proof.Machine.execRxPost fn queue index s
  | .nop fn queue index => Sys2Proof.Machine.execNop fn queue index s
  | .rxDeliver fn queue pkt => Sys2Proof.Machine.execRxDeliver fn queue pkt s
  | .rxHoldExpiry fn queue => Sys2Proof.Machine.execRxHoldExpiry fn queue s
  | .completionWrite fn queue => Sys2Proof.Machine.execCompletionWrite fn queue s
  | .interruptModerationExpiry fn queue => Sys2Proof.Machine.execInterruptModerationExpiry fn queue s
  | .dmaCopy die chan n => Sys2Proof.Machine.execDmaCopy die chan n s
  | .dmaFill die chan n => Sys2Proof.Machine.execDmaFill die chan n s
  | .dmaCompare die chan n => Sys2Proof.Machine.execDmaCompare die chan n s
  | .dmaReadBack die chan => Sys2Proof.Machine.execDmaReadBack die chan s
  | .dmaPause die chan on => Sys2Proof.Machine.execDmaPause die chan on s
  | .dmaAbort die chan => Sys2Proof.Machine.execDmaAbort die chan s
  | .dmaGo die chan binder => Sys2Proof.Machine.execDmaGo die chan binder s
  | .dmaElemWrite die chan binder offset bytes => Sys2Proof.Machine.execDmaElemWrite die chan binder offset bytes s
  | .namespaceCreate p => Sys2Proof.Machine.execNamespaceCreate p s
  | .namespaceDestroy p => Sys2Proof.Machine.execNamespaceDestroy p s
  | .targetPathSet p => Sys2Proof.Machine.execTargetPathSet p s
  | .ccEnClear fn => Sys2Proof.Machine.execCcEnClear fn s
  | .nvmeRead fn sq => Sys2Proof.Machine.execNvmeRead fn sq s
  | .nvmeWrite fn sq => Sys2Proof.Machine.execNvmeWrite fn sq s
  | .nvmeFlush fn sq => Sys2Proof.Machine.execNvmeFlush fn sq s
  | .nvmeCompare fn sq => Sys2Proof.Machine.execNvmeCompare fn sq s
  | .nvmeWriteZeroes fn sq => Sys2Proof.Machine.execNvmeWriteZeroes fn sq s
  | .nvmeDatasetManagement fn sq => Sys2Proof.Machine.execNvmeDatasetManagement fn sq s
  | .nvmeAbort fn => Sys2Proof.Machine.execNvmeAbort fn s
  | .createIoSq fn => Sys2Proof.Machine.execCreateIoSq fn s
  | .deleteIoSq fn => Sys2Proof.Machine.execDeleteIoSq fn s
  | .createIoCq fn => Sys2Proof.Machine.execCreateIoCq fn s
  | .deleteIoCq fn => Sys2Proof.Machine.execDeleteIoCq fn s
  | .identify fn => Sys2Proof.Machine.execIdentify fn s
  | .getLogPage fn => Sys2Proof.Machine.execGetLogPage fn s
  | .setFeatures fn => Sys2Proof.Machine.execSetFeatures fn s
  | .getFeatures fn => Sys2Proof.Machine.execGetFeatures fn s
  | .asynchronousEventRequest fn => Sys2Proof.Machine.execAsynchronousEventRequest fn s
  | .targetCompletion die cmd status data => Sys2Proof.Machine.execTargetCompletion die cmd status data s
  | .pathConnect die target path remotes => Sys2Proof.Machine.execPathConnect die target path remotes s
  | .anaChange die target path states => Sys2Proof.Machine.execAnaChange die target path states s
  | .pathDown die target path => Sys2Proof.Machine.execPathDown die target path s
  | .pathReconnect die target path => Sys2Proof.Machine.execPathReconnect die target path s
  | .fenceExpiry die target path => Sys2Proof.Machine.execFenceExpiry die target path s
  | .ioHoldExpiry die cmd => Sys2Proof.Machine.execIoHoldExpiry die cmd s
  | .orphanTimeout die cmd => Sys2Proof.Machine.execOrphanTimeout die cmd s
  | .funcCreate p => Sys2Proof.Machine.execFuncCreate p s
  | .funcDestroy p => Sys2Proof.Machine.execFuncDestroy p s
  | .funcQuery p => Sys2Proof.Machine.execFuncQuery p s
  | .funcSetResources p => Sys2Proof.Machine.execFuncSetResources p s
  | .twinPairPair p => Sys2Proof.Machine.execTwinPairPair p s
  | .twinPairUnpair p => Sys2Proof.Machine.execTwinPairUnpair p s
  | .twinPairSwap p => Sys2Proof.Machine.execTwinPairSwap p s
  | .availabilityObserve pair bMember => Sys2Proof.Machine.execAvailabilityObserve pair bMember s
  | .funcFreeze p => Sys2Proof.Machine.execFuncFreeze p s
  | .freezeReadDone fn => Sys2Proof.Machine.execFreezeReadDone fn s
  | .funcSave p => Sys2Proof.Machine.execFuncSave p s
  | .funcRestore p => Sys2Proof.Machine.execFuncRestore p s
  | .funcThaw p => Sys2Proof.Machine.execFuncThaw p s
  | .threadLoad p => Sys2Proof.Machine.execThreadLoad p s
  | .threadUnload p => Sys2Proof.Machine.execThreadUnload p s
  | .threadQuery p => Sys2Proof.Machine.execThreadQuery p s
  | .threadDebugStop p => Sys2Proof.Machine.execThreadDebugStop p s
  | .threadDebugResume p => Sys2Proof.Machine.execThreadDebugResume p s
  | .threadDebugStep p => Sys2Proof.Machine.execThreadDebugStep p s
  | .threadDebugKill p => Sys2Proof.Machine.execThreadDebugKill p s
  | .threadDebugRead p => Sys2Proof.Machine.execThreadDebugRead p s
  | .threadDebugWriteReg p => Sys2Proof.Machine.execThreadDebugWriteReg p s
  | .threadDebugBreakSet p => Sys2Proof.Machine.execThreadDebugBreakSet p s
  | .threadDebugBreakClear p => Sys2Proof.Machine.execThreadDebugBreakClear p s
  | .threadCtrlResume t writer => Sys2Proof.Machine.execThreadCtrlResume t writer s
  | .threadCtrlRestart t writer => Sys2Proof.Machine.execThreadCtrlRestart t writer s
  | .threadCtrlKill t writer => Sys2Proof.Machine.execThreadCtrlKill t writer s
  | .threadCtrlReleaseLocks t writer => Sys2Proof.Machine.execThreadCtrlReleaseLocks t writer s
  | .threadEventDeadline t writer value => Sys2Proof.Machine.execThreadEventDeadline t writer value s
  | .threadTimer t => Sys2Proof.Machine.execThreadTimer t s
  | .pktViewOpen t view cell => Sys2Proof.Machine.execPktViewOpen t view cell s
  | .pktViewLength t view length => Sys2Proof.Machine.execPktViewLength t view length s
  | .alloc t view => Sys2Proof.Machine.execAlloc t view s
  | .free t view => Sys2Proof.Machine.execFree t view s
  | .lockRead pod lock readers => Sys2Proof.Machine.execLockRead pod lock readers s
  | .lockRelease pod lock writer => Sys2Proof.Machine.execLockRelease pod lock writer s
  | .messageCommit t => Sys2Proof.Machine.execMessageCommit t s
  | .interruptTake t => Sys2Proof.Machine.execInterruptTake t s
  | .breakpointHit t => Sys2Proof.Machine.execBreakpointHit t s
  | .stalemateReport pod => Sys2Proof.Machine.execStalemateReport pod s
  | .coreFailure pod position => Sys2Proof.Machine.execCoreFailure pod position s
  | .add t rd ra rb => Sys2Proof.Machine.execAdd t rd ra rb s
  | .sub t rd ra rb => Sys2Proof.Machine.execSub t rd ra rb s
  | .and t rd ra rb => Sys2Proof.Machine.execAnd t rd ra rb s
  | .or t rd ra rb => Sys2Proof.Machine.execOr t rd ra rb s
  | .xor t rd ra rb => Sys2Proof.Machine.execXor t rd ra rb s
  | .shl t rd ra rb => Sys2Proof.Machine.execShl t rd ra rb s
  | .shr t rd ra rb => Sys2Proof.Machine.execShr t rd ra rb s
  | .sar t rd ra rb => Sys2Proof.Machine.execSar t rd ra rb s
  | .slt t rd ra rb => Sys2Proof.Machine.execSlt t rd ra rb s
  | .sltu t rd ra rb => Sys2Proof.Machine.execSltu t rd ra rb s
  | .min t rd ra rb => Sys2Proof.Machine.execMin t rd ra rb s
  | .max t rd ra rb => Sys2Proof.Machine.execMax t rd ra rb s
  | .minu t rd ra rb => Sys2Proof.Machine.execMinu t rd ra rb s
  | .maxu t rd ra rb => Sys2Proof.Machine.execMaxu t rd ra rb s
  | .mul t rd ra rb => Sys2Proof.Machine.execMul t rd ra rb s
  | .mulh t rd ra rb => Sys2Proof.Machine.execMulh t rd ra rb s
  | .mulhu t rd ra rb => Sys2Proof.Machine.execMulhu t rd ra rb s
  | .div t rd ra rb => Sys2Proof.Machine.execDiv t rd ra rb s
  | .divu t rd ra rb => Sys2Proof.Machine.execDivu t rd ra rb s
  | .rem t rd ra rb => Sys2Proof.Machine.execRem t rd ra rb s
  | .remu t rd ra rb => Sys2Proof.Machine.execRemu t rd ra rb s
  | .clz t rd ra => Sys2Proof.Machine.execClz t rd ra s
  | .ctz t rd ra => Sys2Proof.Machine.execCtz t rd ra s
  | .popc t rd ra => Sys2Proof.Machine.execPopc t rd ra s
  | .bswap64 t rd ra => Sys2Proof.Machine.execBswap64 t rd ra s
  | .bswap32 t rd ra => Sys2Proof.Machine.execBswap32 t rd ra s
  | .bswap16 t rd ra => Sys2Proof.Machine.execBswap16 t rd ra s
  | .addi t rd ra imm => Sys2Proof.Machine.execAddi t rd ra imm s
  | .andi t rd ra imm => Sys2Proof.Machine.execAndi t rd ra imm s
  | .ori t rd ra imm => Sys2Proof.Machine.execOri t rd ra imm s
  | .xori t rd ra imm => Sys2Proof.Machine.execXori t rd ra imm s
  | .shli t rd ra imm => Sys2Proof.Machine.execShli t rd ra imm s
  | .shri t rd ra imm => Sys2Proof.Machine.execShri t rd ra imm s
  | .sari t rd ra imm => Sys2Proof.Machine.execSari t rd ra imm s
  | .slti t rd ra imm => Sys2Proof.Machine.execSlti t rd ra imm s
  | .sltiu t rd ra imm => Sys2Proof.Machine.execSltiu t rd ra imm s
  | .lui t rd imm => Sys2Proof.Machine.execLui t rd imm s
  | .ld8u t rd ra imm => Sys2Proof.Machine.execLd8u t rd ra imm s
  | .ld16u t rd ra imm => Sys2Proof.Machine.execLd16u t rd ra imm s
  | .ld32u t rd ra imm => Sys2Proof.Machine.execLd32u t rd ra imm s
  | .ld64 t rd ra imm => Sys2Proof.Machine.execLd64 t rd ra imm s
  | .ld8s t rd ra imm => Sys2Proof.Machine.execLd8s t rd ra imm s
  | .ld16s t rd ra imm => Sys2Proof.Machine.execLd16s t rd ra imm s
  | .ld32s t rd ra imm => Sys2Proof.Machine.execLd32s t rd ra imm s
  | .st8 t ra rb imm => Sys2Proof.Machine.execSt8 t ra rb imm s
  | .st16 t ra rb imm => Sys2Proof.Machine.execSt16 t ra rb imm s
  | .st32 t ra rb imm => Sys2Proof.Machine.execSt32 t ra rb imm s
  | .st64 t ra rb imm => Sys2Proof.Machine.execSt64 t ra rb imm s
  | .amo t rd ra rb func => Sys2Proof.Machine.execAmo t rd ra rb func s
  | .beq t ra rb offset => Sys2Proof.Machine.execBeq t ra rb offset s
  | .bne t ra rb offset => Sys2Proof.Machine.execBne t ra rb offset s
  | .blt t ra rb offset => Sys2Proof.Machine.execBlt t ra rb offset s
  | .bge t ra rb offset => Sys2Proof.Machine.execBge t ra rb offset s
  | .bltu t ra rb offset => Sys2Proof.Machine.execBltu t ra rb offset s
  | .bgeu t ra rb offset => Sys2Proof.Machine.execBgeu t ra rb offset s
  | .j t offset => Sys2Proof.Machine.execJ t offset s
  | .jal t offset => Sys2Proof.Machine.execJal t offset s
  | .jalr t rd ra imm => Sys2Proof.Machine.execJalr t rd ra imm s
  | .chw t ra rb => Sys2Proof.Machine.execChw t ra rb s
  | .chwe t ra rb => Sys2Proof.Machine.execChwe t ra rb s
  | .chwep t rd ra rb => Sys2Proof.Machine.execChwep t rd ra rb s
  | .chr t rd ra => Sys2Proof.Machine.execChr t rd ra s
  | .chrp t rd ra => Sys2Proof.Machine.execChrp t rd ra s
  | .ewait t rd => Sys2Proof.Machine.execEwait t rd s
  | .epoll t rd => Sys2Proof.Machine.execEpoll t rd s
  | .signal t ra rb => Sys2Proof.Machine.execSignal t ra rb s
  | .mfsr t rd sr => Sys2Proof.Machine.execMfsr t rd sr s
  | .mtsr t ra sr => Sys2Proof.Machine.execMtsr t ra sr s
  | .iret t => Sys2Proof.Machine.execIret t s
  | .breakInsn t => Sys2Proof.Machine.execBreakInsn t s
  | .yield t => Sys2Proof.Machine.execYield t s
  | .fence t => Sys2Proof.Machine.execFence t s
  | .fenceS t => Sys2Proof.Machine.execFenceS t s
  | .fenceI t => Sys2Proof.Machine.execFenceI t s
  | .hld t rd ra field => Sys2Proof.Machine.execHld t rd ra field s
  | .hst t rd ra field => Sys2Proof.Machine.execHst t rd ra field s
  | .csumAdd t rd ra rb => Sys2Proof.Machine.execCsumAdd t rd ra rb s
  | .csumFold t rd ra => Sys2Proof.Machine.execCsumFold t rd ra s
  | .csumFoldn t rd ra => Sys2Proof.Machine.execCsumFoldn t rd ra s
  | .crc32B t rd ra rb => Sys2Proof.Machine.execCrc32B t rd ra rb s
  | .crc32D t rd ra rb => Sys2Proof.Machine.execCrc32D t rd ra rb s
  | .crc32cB t rd ra rb => Sys2Proof.Machine.execCrc32cB t rd ra rb s
  | .crc32cD t rd ra rb => Sys2Proof.Machine.execCrc32cD t rd ra rb s
  | .mix64 t rd ra rb => Sys2Proof.Machine.execMix64 t rd ra rb s
  | .seqContextSet p => Sys2Proof.Machine.execSeqContextSet p s
  | .seqQuery p => Sys2Proof.Machine.execSeqQuery p s
  | .microword die seq => Sys2Proof.Machine.execMicroword die seq s
  | .serviceRequest die seq => Sys2Proof.Machine.execServiceRequest die seq s
  | .microcodeFault die seq cause ofContext => Sys2Proof.Machine.execMicrocodeFault die seq cause ofContext s
  | .contextLoad die context => Sys2Proof.Machine.execContextLoad die context s
  | .sequencerFrameEnqueue die context frame => Sys2Proof.Machine.execSequencerFrameEnqueue die context frame s
  | .errorAck p => Sys2Proof.Machine.execErrorAck p s
  | .errorQuery p => Sys2Proof.Machine.execErrorQuery p s
  | .errorInject p => Sys2Proof.Machine.execErrorInject p s
  | .ledgerAudit p => Sys2Proof.Machine.execLedgerAudit p s
  | .periodicAudit die => Sys2Proof.Machine.execPeriodicAudit die s
  | .errorHandle done => Sys2Proof.Machine.execErrorHandle done s
  | .recordClose ersn => Sys2Proof.Machine.execRecordClose ersn s
  | .sramReadError die bank row corrected => Sys2Proof.Machine.execSramReadError die bank row corrected s
  | .rowSpare die bank row => Sys2Proof.Machine.execRowSpare die bank row s
  | .dramReadError die subchannel device line corrected => Sys2Proof.Machine.execDramReadError die subchannel device line corrected s
  | .patrolScrub die => Sys2Proof.Machine.execPatrolScrub die s
  | .lockstepMismatch die => Sys2Proof.Machine.execLockstepMismatch die s
  | .lockstepRestart die => Sys2Proof.Machine.execLockstepRestart die s
  | .dieHeartbeat die alive => Sys2Proof.Machine.execDieHeartbeat die alive s
  | .dieSilent die => Sys2Proof.Machine.execDieSilent die s
  | .dieRemoval die reason => Sys2Proof.Machine.execDieRemoval die reason s
  | .castling => Sys2Proof.Machine.execCastling s
  | .mirrorUnreachable => Sys2Proof.Machine.execMirrorUnreachable s
  | .mirrorFillDone => Sys2Proof.Machine.execMirrorFillDone s
  | .registerWrite fn offset size value => Sys2Proof.Machine.execRegisterWrite fn offset size value s
  | .pfcWatchdogRelease port cls => Sys2Proof.Machine.execPfcWatchdogRelease port cls s
  | .dunythLinkOutOfService die dim => Sys2Proof.Machine.execDunythLinkOutOfService die dim s
  | .clearOnRead fn span => Sys2Proof.Machine.execClearOnRead fn span s
  | .vfEnableSet pf count => Sys2Proof.Machine.execVfEnableSet pf count s
  | .ccEnSet fn => Sys2Proof.Machine.execCcEnSet fn s
  | .illegalInstruction t word => Sys2Proof.Machine.execIllegalInstruction t word s

end Sys2Proof.Machine
end

