-- ==== Sys2Proof/Machine/Tick.lean ====
section
/-! DEFINITION. A tick of a die's clock, at 1.6 GHz that of its pipelines, its cipher engine and its time unit (Table 21.9): what
happens at every clock whatever is commanded (log 1). -/

namespace Sys2Proof.Machine

/-- COUNTER_STALL_CLOCKS in a counter set (Table 08.16). -/
def acStallClocks : Nat := 0x420 / 8

/-- A packet whose program may start hands over to a cipher engine whose input queue is full (R413). -/
def State.cipherStalls (s : State) (die pipe : Nat) : Bool :=
  decide (2048 ≤ s.cipherQueue die pipe) && s.flight.any (fun (id, k) => k.die == die && k.pipe == pipe && s.programMayStart id k
    && (s.programOn k).cipher.isSome)

/-- A decrypt at the head of its class waits for verify space (R412). -/
def State.verifyWaits (s : State) (die : Nat) : Bool :=
  let c := s.cipherOf die
  s.flight.any (fun (_, k) => k.die == die && decide (k.phase = .cipherIn 0) && s.decryptStuck k)
    || c.units.any (fun (_, u) => decide (u.phase = .waiting) && !u.encrypt
      && (!c.roomFor (classOf u.klass) (verifyUnits (u.bytes.length - 16)) || !c.funcRoom u))

/-- The counters of clocks of a pipeline: those with no free place of its hold (Table 07.17), and those in which its action
stage has a packet whose program waits for counters (R293). -/
def State.clockCounts (s : State) (die pipe : Nat) : State :=
  let s := if 4096 ≤ s.holdUsed die pipe then s.modPipe die (fun p => p.count pipe 0x50) else s
  if s.counterWaits die && s.flight.any (fun (id, k) => k.die == die && k.pipe == pipe && s.programMayStart id k) then
    s.countDrop die pipe acStallClocks
  else s

/-- The counters of clocks of a die's cipher engine (Table 12.8). -/
def State.cipherClocks (s : State) (die : Nat) : State :=
  let s := if s.cipherStalls die 0 || s.cipherStalls die 1 then s.cipherCount die 0x28 else s
  if s.verifyWaits die then s.cipherCount die 0x30 else s

/-- A disabled controller whose 30 s are over clears CSTS.RDY, whatever orphans remain (R457). -/
def Nvme.overdue (v : Nvme) (now : Nat) : Nvme :=
  if v.disabling && decide (v.disabledAt + 30 * ticksPerSec ≤ now) then { v with csts := 0, disabling := false } else v

def State.nvmeClocks (s : State) (die : Nat) : State :=
  { s with nvmes := List.map (fun (e : Nat × Nvme) => (e.1, if mDie e.1 = die then e.2.overdue (s.dieTick die) else e.2)) s.nvmes }

/-- A thread that has not read its lock for 64 core clocks spins no more (R520). -/
def Thread.unspin (th : Thread) (now : Nat) : Thread :=
  if th.spin.isSome && decide (64 ≤ coreClocks th.spinAt now) then { th with spin := none } else th

/-- The threads of a die, and the stalemate detectors of its loaded pods (R520, R525). -/
def State.podClocks (s : State) (die : Nat) : State :=
  let s := { s with threads := List.map (fun (e : Nat × Thread) =>
    (e.1, if threadDie e.1 = die then e.2.unspin (s.dieTick die) else e.2)) s.threads }
  ((s.pods.filter (fun e => e.1 / 6 == die && e.2.loaded)).map (fun e => e.1)).foldl State.watchPod s

/-- A tick of a die: the counters of clocks, the controllers' limit and the pods' clocks, then the tick counter (R374). -/
def State.tick (s : State) (die : Nat) : State :=
  (((((s.clockCounts die 0).clockCounts die 1).cipherClocks die).nvmeClocks die).podClocks die).modDieTime die (fun t => { t with tick := (t.tick + 1) % 2 ^ 64 })

end Sys2Proof.Machine
end

