-- ==== Sys2Proof/Machine/Step.lean ====
section
/-! DEFINITION. The step: the command at the front of the queue runs; on an empty queue a tick of time passes (log 1). -/

namespace Sys2Proof.Machine

/-- A tick of every working die (R374), which is what an idle step does from the lock of the PLLs on (log 1). -/
def State.idle (s : State) : State :=
  s.workingDies.foldl State.tick s

/-- The step of the block (log 1). -/
def step (s : State) : Host.Outcome State Fault Refusal :=
  match s.pending with
  | [] => .next (if s.boot.pllLocked && !s.boot.stopped then s.idle else s)
  | c :: rest => exec c { s with pending := rest }

/-- The command that a word spells, put at the front of the queue. No row of the table has bits, so no word spells
one. -/
def State.withFetchWord (s : State) (nbits w : Nat) : State :=
  match Sys2Proof.decodeTableWord nbits w with
  | none => s
  | some c => { s with pending := c :: s.pending }

end Sys2Proof.Machine
end

