-- ==== Sys2Proof/Safety.lean ====
section
/-! DEFINITION. The terms in which statements are made: a command that completes, a command packet that the lead takes, sound
states. -/

namespace Sys2Proof.Machine

/-- The command completes: it answers a next state, of which `P` holds. -/
def Runs (c : Instr) (s : State) (P : State → Prop) : Prop := ∃ t, exec c s = .next t ∧ P t

/-- The step goes on: it ends in a next state. -/
def State.goesOn (s : State) : Prop := ∃ t, step s = .next t

/-- The cell ledger of a die balances: every cell of its packet buffer is in exactly one of the four books (R349, ledger 3 of
Table 20.2). -/
abbrev State.cellsBalance (s : State) (die : Nat) : Prop :=
  (s.tm die).free + (s.tm die).pipeline + (s.tm die).queued + (s.tm die).transit = 196608

/-- A packet that the receiving die finds well framed and that the lead decides now: the package is READY, not DECOMMISSIONED and
has a lead, fewer than 16 replies wait for the sender, the sender is no VF that is not provisioned, and no commit is in phase one
(R38, R59, R77, R137, R331, R481, R597, R609). -/
abbrev State.takes (s : State) (q : Packet) : Prop :=
  s.decides = true ∧ s.framing q = none ∧ s.leadGone = false ∧ s.heldFor q < 16 ∧ s.bare q = false ∧ s.tempo.inProgress = none

/-- A packet of a journalled opcode that the lead decides now and records: it is not busy, the token is new and
VALIDATE_ONLY is 0 (R138, R141, R148, R149). -/
abbrev State.takesRecorded (s : State) (q : Packet) : Prop :=
  s.takes q ∧ s.leadBusy = false ∧ s.beingDecided q = false ∧ s.tokenEntry q = none ∧ bit q.flags 0 = false

/-- The reply to a command that is not journalled, sent with status OK and its result (R138). -/
def State.replied (s : State) (q : Packet) (result : List Byte) : State := s.deliver q (q.reply stOk 0 0 0 result)

/-- A command that ended OK in a state, recorded there and answered (R37, R147): the reply carries the entry's JSN and the current
tempo. -/
def State.recorded (s : State) (q : Packet) (result : List Byte) : State :=
  let r := s.recordCommand q stOk s.tempo.current result
  r.deliver q (q.reply stOk 0 s.journal.next r.tempo.current result)

/-- A command that ended in a state with a status other than OK, recorded there and answered (R37, R138, R147). -/
def State.recordedAs (s : State) (q : Packet) (status : Nat) (result : List Byte) : State :=
  (s.recordCommand q status s.tempo.current result).deliver q (q.reply status 0 s.journal.next 0 result)

/-- A link without what a request of a function may change: the count of timeouts and the attributes in effect (R89, R95, R118). -/
def Link.quiet (l : Link) : Link := { l with cto := 0, roPayload := false, idoPayload := false }

/-- The state without what a reply, an interrupt, an error record or a write to host memory may change: the journal, the error
records, the chain port, the queues and mailboxes that carry replies, the functions' held writes and pending vectors, the tags of
confirming reads, the links' counts of timeouts, the threads that a word in a mailbox wakes, memory, the output log and the
free-value counter. -/
def State.quiet (s : State) : State :=
  { s with journal := Journal.reset, errors := Errors.reset, chain := Chain.reset, cmdqs := [], fnMbx := [], agentMbx := [],
           nvmes := [], funcs := [], mem := [], out := [], freeCtr := 0, tags := [], threads := [], chans := [],
           links := (List.range 8).map (fun d => (d, (s.link d).quiet)) }

/-- `t` differs from `s` only as a reply, an interrupt, an error record or a write to host memory may make it: the quiet part and
the receivers of mailboxes stay, and threads and channels too unless a thread receives from some mailbox (R128). -/
def State.like (t s : State) : Prop :=
  t.quiet = s.quiet ∧ (∀ k, (t.agentBox k).receiver = (s.agentBox k).receiver)
    ∧ ((∀ k, isThreadId (s.agentBox k).receiver = false) → t.threads = s.threads ∧ t.chans = s.chans)

/-- A thread stands at an instruction boundary where it issues its next instruction: it runs, no interrupt is due and no armed
breakpoint stops it (R532, R544, R552). -/
abbrev State.issues (s : State) (t : Nat) : Prop :=
  s.live (threadDie t) = true ∧ (s.thread t).state = .running ∧ s.intDue t = false ∧ s.atBreak t = false

/-- An admin command of a controller that is carried out now: the entry `b` at the head of the admin queue `q`, of a known opcode,
with no list left to fetch and no reserved bit set (R443, R457, R459). -/
abbrev State.adminRuns (s : State) (fn : Nat) (q : NvmeQueue) (b : List Byte) : Prop :=
  s.nvmeHead fn 0 = some (q, b) ∧ s.adminKnown fn (sqeOpcode b) = true ∧ s.fetchList fn 0 q.head b (adminLen b) = none
    ∧ sqeReserved b = false

/-- The packet with the opcode of its row. -/
def Packet.of (p : Packet) (opcode : Nat) : Packet := { p with opcode := opcode }

/-- The commands of pods that an agent of a pod, a timer or the pod itself brings. -/
def podCommand : Instr → Bool
  | .alloc _ _ => true
  | .free _ _ => true
  | .pktViewOpen _ _ _ => true
  | .pktViewLength _ _ _ => true
  | .lockRead _ _ _ => true
  | .lockRelease _ _ _ => true
  | .threadCtrlResume _ _ => true
  | .threadCtrlRestart _ _ => true
  | .threadCtrlKill _ _ => true
  | .threadCtrlReleaseLocks _ _ => true
  | .threadEventDeadline _ _ _ => true
  | .threadTimer _ => true
  | .interruptTake _ => true
  | .breakpointHit _ => true
  | .stalemateReport _ => true
  | .coreFailure _ _ => true
  | .sequencerFrameEnqueue _ _ _ => true
  | _ => false

end Sys2Proof.Machine
end

