-- ==== Sys2Proof/WellFormed.lean ====
section
/-! DEFINITION. Well-formed commands: every operand fits the field or names a thing that the largest part has
(spec/01, 16, 17 and the chapters that own the blocks). Meanings are total: they take ill-formed commands too. -/

namespace Sys2Proof
open Machine

/-- A die, or the link that bears its number. -/
def okDie (n : Nat) : Bool := decide (n < 8)
/-- A port, 8 × die + first lane (R181). -/
def okPort (n : Nat) : Bool := decide (n < 64)
/-- A thread: (die × 6 + pod) × 72 + thread number, eight of each pod's nine positions in service (R501). -/
def okThread (n : Nat) : Bool := decide (n < 3456) && decide (n % 72 < 64)
/-- A pod, die × 6 + pod. -/
def okPod (n : Nat) : Bool := decide (n < 48)
/-- A register w0–w31 of a thread (R502). -/
def okReg (n : Nat) : Bool := decide (n < 32)
/-- A 16-bit field. -/
def okImm (n : Nat) : Bool := decide (n < 2 ^ 16)
/-- A shift amount (R547). -/
def okShift (n : Nat) : Bool := decide (n < 64)
/-- The field of LUI. -/
def okUpper (n : Nat) : Bool := decide (n < 2 ^ 21)
/-- The field of J and JAL. -/
def okJump (n : Nat) : Bool := decide (n < 2 ^ 26)
/-- A special register. -/
def okSr (n : Nat) : Bool := decide (n < 2 ^ 12)
/-- The function field of AMO. -/
def okFunc (n : Nat) : Bool := decide (n < 16)
/-- An 8-bit field of a chain frame. -/
def okSeq8 (n : Nat) : Bool := decide (n < 2 ^ 8)
/-- A host function by its master identity (R13). -/
def okFn (n : Nat) : Bool := decide (n < 2 ^ 20) && decide (n % 2 ^ 17 < 4096)
/-- A master identity (R13). -/
def okWho (n : Nat) : Bool := decide (n < 2 ^ 24)
/-- A queue pair of a function. -/
def okQueue (n : Nat) : Bool := decide (n < 256)
/-- A ring index. -/
def okIndex (n : Nat) : Bool := decide (n < 2 ^ 16)
/-- A DMA channel. -/
def okChan (n : Nat) : Bool := decide (n < 64)
/-- A traffic class. -/
def okClass (n : Nat) : Bool := decide (n < 8)
/-- A key slot of a die. -/
def okSlot (n : Nat) : Bool := decide (n < 131072)
/-- A sequencer of a die. -/
def okSequencer (n : Nat) : Bool := decide (n < 16)
/-- A transport context of a die. -/
def okContext (n : Nat) : Bool := decide (n < 262144)
/-- A dimension of the Dunyth links. -/
def okDim (n : Nat) : Bool := decide (n < 3)
/-- A PCIe tag. -/
def okTag (n : Nat) : Bool := decide (n < 16384)
/-- An SRAM bank. -/
def okBank (n : Nat) : Bool := decide (n < 32)
/-- A lock of a pod. -/
def okLock (n : Nat) : Bool := decide (n < 64)
/-- A packet view of a thread. -/
def okView (n : Nat) : Bool := decide (n < 2)
/-- A target of a die. -/
def okTarget (n : Nat) : Bool := decide (n < 1024)
/-- A path of a target. -/
def okPath (n : Nat) : Bool := decide (n < 8)
/-- An IDE stream of a link. -/
def okStream (n : Nat) : Bool := decide (n < 9)
/-- A pipeline. -/
def okPipe (n : Nat) : Bool := decide (n < 2)
/-- A cell of a packet buffer. -/
def okCell (n : Nat) : Bool := decide (n < 196608)
/-- A lane of a die, the spare lane last (R191). -/
def okLane (n : Nat) : Bool := decide (n < 9)
/-- A position: of a die in the package, or of a core in a pod. -/
def okPosition (n : Nat) : Bool := decide (n < 9)
/-- A channel of a Dunyth link. -/
def okChannel (n : Nat) : Bool := decide (n < 4)
/-- A command packet: each header field fits its width (Table 04.4). -/
def okPacket (p : Packet) : Bool :=
  okWho p.sender && okDie p.die && okImm p.opcode && okImm p.paramLen && okImm p.flags && okImm p.txn
    && decide (p.token < 2 ^ 64) && decide (p.sequence < 2 ^ 32) && decide (p.reserved < 2 ^ 96)

/-- The command is well formed. -/
def Instr.wf (i : Instr) : Bool :=
  match i with
  | .add t rd ra rb => okThread t && okReg rd && okReg ra && okReg rb
  | .sub t rd ra rb => okThread t && okReg rd && okReg ra && okReg rb
  | .and t rd ra rb => okThread t && okReg rd && okReg ra && okReg rb
  | .or t rd ra rb => okThread t && okReg rd && okReg ra && okReg rb
  | .xor t rd ra rb => okThread t && okReg rd && okReg ra && okReg rb
  | .shl t rd ra rb => okThread t && okReg rd && okReg ra && okReg rb
  | .shr t rd ra rb => okThread t && okReg rd && okReg ra && okReg rb
  | .sar t rd ra rb => okThread t && okReg rd && okReg ra && okReg rb
  | .slt t rd ra rb => okThread t && okReg rd && okReg ra && okReg rb
  | .sltu t rd ra rb => okThread t && okReg rd && okReg ra && okReg rb
  | .min t rd ra rb => okThread t && okReg rd && okReg ra && okReg rb
  | .max t rd ra rb => okThread t && okReg rd && okReg ra && okReg rb
  | .minu t rd ra rb => okThread t && okReg rd && okReg ra && okReg rb
  | .maxu t rd ra rb => okThread t && okReg rd && okReg ra && okReg rb
  | .mul t rd ra rb => okThread t && okReg rd && okReg ra && okReg rb
  | .mulh t rd ra rb => okThread t && okReg rd && okReg ra && okReg rb
  | .mulhu t rd ra rb => okThread t && okReg rd && okReg ra && okReg rb
  | .div t rd ra rb => okThread t && okReg rd && okReg ra && okReg rb
  | .divu t rd ra rb => okThread t && okReg rd && okReg ra && okReg rb
  | .rem t rd ra rb => okThread t && okReg rd && okReg ra && okReg rb
  | .remu t rd ra rb => okThread t && okReg rd && okReg ra && okReg rb
  | .clz t rd ra => okThread t && okReg rd && okReg ra
  | .ctz t rd ra => okThread t && okReg rd && okReg ra
  | .popc t rd ra => okThread t && okReg rd && okReg ra
  | .bswap64 t rd ra => okThread t && okReg rd && okReg ra
  | .bswap32 t rd ra => okThread t && okReg rd && okReg ra
  | .bswap16 t rd ra => okThread t && okReg rd && okReg ra
  | .addi t rd ra imm => okThread t && okReg rd && okReg ra && okImm imm
  | .andi t rd ra imm => okThread t && okReg rd && okReg ra && okImm imm
  | .ori t rd ra imm => okThread t && okReg rd && okReg ra && okImm imm
  | .xori t rd ra imm => okThread t && okReg rd && okReg ra && okImm imm
  | .shli t rd ra imm => okThread t && okReg rd && okReg ra && okShift imm
  | .shri t rd ra imm => okThread t && okReg rd && okReg ra && okShift imm
  | .sari t rd ra imm => okThread t && okReg rd && okReg ra && okShift imm
  | .slti t rd ra imm => okThread t && okReg rd && okReg ra && okImm imm
  | .sltiu t rd ra imm => okThread t && okReg rd && okReg ra && okImm imm
  | .lui t rd imm => okThread t && okReg rd && okUpper imm
  | .ld8u t rd ra imm => okThread t && okReg rd && okReg ra && okImm imm
  | .ld16u t rd ra imm => okThread t && okReg rd && okReg ra && okImm imm
  | .ld32u t rd ra imm => okThread t && okReg rd && okReg ra && okImm imm
  | .ld64 t rd ra imm => okThread t && okReg rd && okReg ra && okImm imm
  | .ld8s t rd ra imm => okThread t && okReg rd && okReg ra && okImm imm
  | .ld16s t rd ra imm => okThread t && okReg rd && okReg ra && okImm imm
  | .ld32s t rd ra imm => okThread t && okReg rd && okReg ra && okImm imm
  | .st8 t ra rb imm => okThread t && okReg ra && okReg rb && okImm imm
  | .st16 t ra rb imm => okThread t && okReg ra && okReg rb && okImm imm
  | .st32 t ra rb imm => okThread t && okReg ra && okReg rb && okImm imm
  | .st64 t ra rb imm => okThread t && okReg ra && okReg rb && okImm imm
  | .amo t rd ra rb func => okThread t && okReg rd && okReg ra && okReg rb && okFunc func
  | .beq t ra rb offset => okThread t && okReg ra && okReg rb && okImm offset
  | .bne t ra rb offset => okThread t && okReg ra && okReg rb && okImm offset
  | .blt t ra rb offset => okThread t && okReg ra && okReg rb && okImm offset
  | .bge t ra rb offset => okThread t && okReg ra && okReg rb && okImm offset
  | .bltu t ra rb offset => okThread t && okReg ra && okReg rb && okImm offset
  | .bgeu t ra rb offset => okThread t && okReg ra && okReg rb && okImm offset
  | .j t offset => okThread t && okJump offset
  | .jal t offset => okThread t && okJump offset
  | .jalr t rd ra imm => okThread t && okReg rd && okReg ra && okImm imm
  | .chw t ra rb => okThread t && okReg ra && okReg rb
  | .chwe t ra rb => okThread t && okReg ra && okReg rb
  | .chwep t rd ra rb => okThread t && okReg rd && okReg ra && okReg rb
  | .chr t rd ra => okThread t && okReg rd && okReg ra
  | .chrp t rd ra => okThread t && okReg rd && okReg ra
  | .ewait t rd => okThread t && okReg rd
  | .epoll t rd => okThread t && okReg rd
  | .signal t ra rb => okThread t && okReg ra && okReg rb
  | .mfsr t rd sr => okThread t && okReg rd && okSr sr
  | .mtsr t ra sr => okThread t && okReg ra && okSr sr
  | .iret t => okThread t
  | .breakInsn t => okThread t
  | .yield t => okThread t
  | .fence t => okThread t
  | .fenceS t => okThread t
  | .fenceI t => okThread t
  | .hld t rd ra field => okThread t && okReg rd && okReg ra && okImm field
  | .hst t rd ra field => okThread t && okReg rd && okReg ra && okImm field
  | .csumAdd t rd ra rb => okThread t && okReg rd && okReg ra && okReg rb
  | .csumFold t rd ra => okThread t && okReg rd && okReg ra
  | .csumFoldn t rd ra => okThread t && okReg rd && okReg ra
  | .crc32B t rd ra rb => okThread t && okReg rd && okReg ra && okReg rb
  | .crc32D t rd ra rb => okThread t && okReg rd && okReg ra && okReg rb
  | .crc32cB t rd ra rb => okThread t && okReg rd && okReg ra && okReg rb
  | .crc32cD t rd ra rb => okThread t && okReg rd && okReg ra && okReg rb
  | .mix64 t rd ra rb => okThread t && okReg rd && okReg ra && okReg rb
  | .vauxRise => true
  | .vauxLoss => true
  | .vinRise => true
  | .railsGood => true
  | .vinLow => true
  | .railOutOfRegulation die => okDie die
  | .pkgResetN _ => true
  | .perstN position _ => okDie position
  | .trstN => true
  | .rootPllLock => true
  | .selfTest position _ => okPosition position
  | .dieChain => true
  | .flashHeaderRead _ _ _ _ => true
  | .imageRead _ => true
  | .firmwareStart => true
  | .bootWatchdog => true
  | .refclkLoss => true
  | .refclkHoldoverExpiry => true
  | .refclkReturn => true
  | .pllLockLoss die _ => okDie die
  | .temperatureMeasure die _ => okDie die
  | .thermalTrip die => okDie die
  | .supplyMeasure _ _ _ => true
  | .stollekFrameReceive _ => true
  | .enumerate seq next mode maxRate => okSeq8 seq && okSeq8 next && okSeq8 mode && okSeq8 maxRate
  | .rate seq code => okSeq8 seq && okSeq8 code
  | .release dest seq => okSeq8 dest && okSeq8 seq
  | .bypass dest seq _ => okSeq8 dest && okSeq8 seq
  | .status dest seq => okSeq8 dest && okSeq8 seq
  | .wake dest seq mask => okSeq8 dest && okSeq8 seq && okSeq8 mask
  | .spdm _ seq code _ => okSeq8 seq && okSeq8 code
  | .command seq byte0 _ => okSeq8 seq && okSeq8 byte0
  | .commandFetch seq _ => okSeq8 seq
  | .chainPartialCommandTimeout => true
  | .chainReplyHoldTimeout => true
  | .endorseFrame seq byte0 _ _ => okSeq8 seq && okSeq8 byte0
  | .chainClockLoss => true
  | .txnFramePrepare seq txn _ _ => okSeq8 seq && okImm txn
  | .txnFrameCommit seq txn _ _ => okSeq8 seq && okImm txn
  | .txnFrameAbort seq txn _ _ => okSeq8 seq && okImm txn
  | .txnFrameStatus seq txn _ _ => okSeq8 seq && okImm txn
  | .crossPackageCommitDeadline txn => okImm txn
  | .linkTraining link _ _ _ _ _ => okDie link
  | .receiverDetection link _ => okDie link
  | .surpriseLinkDown link => okDie link
  | .malformedTlp link => okDie link
  | .hostPathInternalError link => okDie link
  | .hotReset link => okDie link
  | .busMasterEnableClear fn => okFn fn
  | .busMasterEnableSet fn => okFn fn
  | .functionLevelReset fn => okFn fn
  | .vfEnableClear pf => okFn pf
  | .d3hotEntry fn => okFn fn
  | .d3hotExit fn => okFn fn
  | .pmeEvent fn => okFn fn
  | .configurationRequest fn _ _ _ => okFn fn
  | .completionArrival link tag _ _ => okDie link && okTag tag
  | .completionTimeout link tag => okDie link && okTag tag
  | .quarantineExpiry link tag => okDie link && okTag tag
  | .ideCheckFailure link stream => okDie link && okStream stream
  | .containmentRelease link _ => okDie link
  | .releaseArmTimeout link => okDie link
  | .mbxSend _ writer _ => okWho writer
  | .mbxSendEnd _ writer _ => okWho writer
  | .mbxRecv _ reader => okWho reader
  | .cmdqRequestDoorbell link tail => okDie link && okIndex tail
  | .cmdqReplyHeadWrite link head => okDie link && okIndex head
  | .cmdqEnable link _ => okDie link
  | .commandPacketFetched link => okDie link
  | .commandReplyWrite link => okDie link
  | .deviceInfo p => okPacket p
  | .journalQuery p => okPacket p
  | .journalMirrorSet p => okPacket p
  | .journalMirrorClear p => okPacket p
  | .journalMark p => okPacket p
  | .mirrorConfirmRead _ => true
  | .mirrorRetry => true
  | .mirrorResume => true
  | .commandPacket fn cid _ _ => okFn fn && okImm cid
  | .commandReply fn cid _ _ _ => okFn fn && okImm cid
  | .propose p => okPacket p.packet
  | .endorse p _ => okPacket p
  | .authorityConfirm p _ => okPacket p
  | .proposalQuery p => okPacket p
  | .proposalWithdraw p _ => okPacket p
  | .proposalExpiry _ => true
  | .debugUnlockExpiry => true
  | .portSetMode p => okPacket p
  | .portQuery p => okPacket p
  | .portSetLanes p => okPacket p
  | .portSetFilter p => okPacket p
  | .autoNegotiation port _ _ _ => okPort port
  | .autoNegotiationTimeout port => okPort port
  | .portLinkUp port => okPort port
  | .portLinkDown port => okPort port
  | .laneFailure die lane => okDie die && okLane lane
  | .preemptVerify port _ => okPort port
  | .frameReceive port _ _ _ => okPort port
  | .pauseExpiry port cls => okPort port && okClass cls
  | .pfcWatchdogTrip port cls => okPort port && okClass cls
  | .pauseRefresh port => okPort port
  | .synceRefLoss => true
  | .synceRefReturn => true
  | .statsSnapshot port => okPort port
  | .statsClear port => okPort port
  | .wakeFrame _ => true
  | .packetAdmit die pipe _ => okDie die && okPipe pipe
  | .flowReadResult die _ => okDie die
  | .actionProgram _ _ => true
  | .learnApply _ => true
  | .tcamDataPlaneWrite _ => true
  | .entryRewrite die _ _ => okDie die
  | .counterCacheMiss die _ => okDie die
  | .policerSweep die => okDie die
  | .cipherUnitStart die _ => okDie die
  | .cipherUnitDone die _ _ _ => okDie die
  | .plaintextDepart die _ => okDie die
  | .install die slot fn => okDie die && okSlot slot && okFn fn
  | .retire die slot fn => okDie die && okSlot slot && okFn fn
  | .installWaitEnd die slot => okDie die && okSlot slot
  | .keyInstall p => okPacket p
  | .keyRetire p => okPacket p
  | .keypageMode p => okPacket p
  | .tmEnqueue die _ _ => okDie die
  | .fabricEnqueue die dest _ => okDie die && okDie dest
  | .fabricSend die dim chan _ => okDie die && okDim dim && okChannel chan
  | .flitReceive die dim chan _ => okDie die && okDim dim && okChannel chan
  | .fabricPause die fromDie cls _ => okDie die && okDie fromDie && okClass cls
  | .schedule port => okPort port
  | .gateEntryChange port => okPort port
  | .gateTakeover port => okPort port
  | .rateProfileSet p => okPacket p
  | .tmQuery p => okPacket p
  | .tmNodeSet p => okPacket p
  | .shaperSet p => okPacket p
  | .gateListSet p => okPacket p
  | .tableInsert p => okPacket p
  | .tableDelete p => okPacket p
  | .tableModify p => okPacket p
  | .tableQuery p => okPacket p
  | .programLoad p => okPacket p
  | .steerSet p => okPacket p
  | .actionParamSet p => okPacket p
  | .txnBegin p => okPacket p
  | .txnCommit p => okPacket p
  | .txnAbort p => okPacket p
  | .txnQuery p => okPacket p
  | .txnExpiry txn => okImm txn
  | .phaseOne txn => okImm txn
  | .prepare die => okDie die
  | .prepareAnswer die _ => okDie die
  | .tempoSwitch => true
  | .ageingSweep die => okDie die
  | .reclaim die => okDie die
  | .timeQuery p => okPacket p
  | .timeSet p => okPacket p
  | .timeAdjust p => okPacket p
  | .timeChangeTick => true
  | .alignmentMeasurement die _ => okDie die
  | .alignmentTimeout die => okDie die
  | .timeCapture die => okDie die
  | .ppsConfig p => okPacket p
  | .ppsInEdge _ => true
  | .ppsOutPulse _ => true
  | .queueCreate p => okPacket p
  | .queueDestroy p => okPacket p
  | .queueQuery p => okPacket p
  | .queueSetMapping p => okPacket p
  | .sqDoorbell fn queue index => okFn fn && okQueue queue && okIndex index
  | .cqDoorbell fn queue index _ => okFn fn && okQueue queue && okIndex index
  | .paceAck die chan _ => okDie die && okChan chan
  | .sqFetch fn queue => okFn fn && okQueue queue
  | .sqEntryFetched fn queue => okFn fn && okQueue queue
  | .ownWaitRetry fn queue => okFn fn && okQueue queue
  | .controlFetchRetry fn queue index => okFn fn && okQueue queue && okIndex index
  | .send fn queue index => okFn fn && okQueue queue && okIndex index
  | .sendTso fn queue index => okFn fn && okQueue queue && okIndex index
  | .rxPost fn queue index => okFn fn && okQueue queue && okIndex index
  | .nop fn queue index => okFn fn && okQueue queue && okIndex index
  | .rxDeliver fn queue _ => okFn fn && okQueue queue
  | .rxHoldExpiry fn queue => okFn fn && okQueue queue
  | .completionWrite fn queue => okFn fn && okQueue queue
  | .interruptModerationExpiry fn queue => okFn fn && okQueue queue
  | .dmaCopy die chan _ => okDie die && okChan chan
  | .dmaFill die chan _ => okDie die && okChan chan
  | .dmaCompare die chan _ => okDie die && okChan chan
  | .dmaReadBack die chan => okDie die && okChan chan
  | .dmaPause die chan _ => okDie die && okChan chan
  | .dmaAbort die chan => okDie die && okChan chan
  | .dmaGo die chan binder => okDie die && okChan chan && okWho binder
  | .dmaElemWrite die chan binder _ _ => okDie die && okChan chan && okWho binder
  | .namespaceCreate p => okPacket p
  | .namespaceDestroy p => okPacket p
  | .targetPathSet p => okPacket p
  | .ccEnClear fn => okFn fn
  | .nvmeRead fn sq => okFn fn && okImm sq
  | .nvmeWrite fn sq => okFn fn && okImm sq
  | .nvmeFlush fn sq => okFn fn && okImm sq
  | .nvmeCompare fn sq => okFn fn && okImm sq
  | .nvmeWriteZeroes fn sq => okFn fn && okImm sq
  | .nvmeDatasetManagement fn sq => okFn fn && okImm sq
  | .nvmeAbort fn => okFn fn
  | .createIoSq fn => okFn fn
  | .deleteIoSq fn => okFn fn
  | .createIoCq fn => okFn fn
  | .deleteIoCq fn => okFn fn
  | .identify fn => okFn fn
  | .getLogPage fn => okFn fn
  | .setFeatures fn => okFn fn
  | .getFeatures fn => okFn fn
  | .asynchronousEventRequest fn => okFn fn
  | .targetCompletion die _ _ _ => okDie die
  | .pathConnect die target path _ => okDie die && okTarget target && okPath path
  | .anaChange die target path _ => okDie die && okTarget target && okPath path
  | .pathDown die target path => okDie die && okTarget target && okPath path
  | .pathReconnect die target path => okDie die && okTarget target && okPath path
  | .fenceExpiry die target path => okDie die && okTarget target && okPath path
  | .ioHoldExpiry die _ => okDie die
  | .orphanTimeout die _ => okDie die
  | .funcCreate p => okPacket p
  | .funcDestroy p => okPacket p
  | .funcQuery p => okPacket p
  | .funcSetResources p => okPacket p
  | .twinPairPair p => okPacket p
  | .twinPairUnpair p => okPacket p
  | .twinPairSwap p => okPacket p
  | .availabilityObserve _ _ => true
  | .funcFreeze p => okPacket p
  | .freezeReadDone fn => okFn fn
  | .funcSave p => okPacket p
  | .funcRestore p => okPacket p
  | .funcThaw p => okPacket p
  | .threadLoad p => okPacket p
  | .threadUnload p => okPacket p
  | .threadQuery p => okPacket p
  | .threadDebugStop p => okPacket p
  | .threadDebugResume p => okPacket p
  | .threadDebugStep p => okPacket p
  | .threadDebugKill p => okPacket p
  | .threadDebugRead p => okPacket p
  | .threadDebugWriteReg p => okPacket p
  | .threadDebugBreakSet p => okPacket p
  | .threadDebugBreakClear p => okPacket p
  | .threadCtrlResume t writer => okThread t && okWho writer
  | .threadCtrlRestart t writer => okThread t && okWho writer
  | .threadCtrlKill t writer => okThread t && okWho writer
  | .threadCtrlReleaseLocks t writer => okThread t && okWho writer
  | .threadEventDeadline t writer _ => okThread t && okWho writer
  | .threadTimer t => okThread t
  | .pktViewOpen t view cell => okThread t && okView view && okCell cell
  | .pktViewLength t view _ => okThread t && okView view
  | .alloc t view => okThread t && okView view
  | .free t view => okThread t && okView view
  | .lockRead pod lock readers => okPod pod && okLock lock && readers.all okWho
  | .lockRelease pod lock writer => okPod pod && okLock lock && okWho writer
  | .messageCommit t => okThread t
  | .interruptTake t => okThread t
  | .breakpointHit t => okThread t
  | .stalemateReport pod => okPod pod
  | .coreFailure pod position => okPod pod && okPosition position
  | .seqContextSet p => okPacket p
  | .seqQuery p => okPacket p
  | .microword die seq => okDie die && okSequencer seq
  | .serviceRequest die seq => okDie die && okSequencer seq
  | .microcodeFault die seq _ _ => okDie die && okSequencer seq
  | .contextLoad die context => okDie die && okContext context
  | .sequencerFrameEnqueue die context _ => okDie die && okContext context
  | .errorAck p => okPacket p
  | .errorQuery p => okPacket p
  | .errorInject p => okPacket p
  | .ledgerAudit p => okPacket p
  | .periodicAudit die => okDie die
  | .errorHandle _ => true
  | .recordClose _ => true
  | .sramReadError die bank _ _ => okDie die && okBank bank
  | .rowSpare die bank _ => okDie die && okBank bank
  | .dramReadError die _ _ _ _ => okDie die
  | .patrolScrub die => okDie die
  | .lockstepMismatch die => okDie die
  | .lockstepRestart die => okDie die
  | .dieHeartbeat die _ => okDie die
  | .dieSilent die => okDie die
  | .dieRemoval die _ => okDie die
  | .castling => true
  | .mirrorUnreachable => true
  | .mirrorFillDone => true
  | .registerWrite fn _ _ _ => okWho fn
  | .pfcWatchdogRelease port cls => okPort port && okClass cls
  | .dunythLinkOutOfService die dim => okDie die && okDim dim
  | .clearOnRead fn _ => okFn fn
  | .vfEnableSet pf _ => okFn pf
  | .ccEnSet fn => okFn fn
  | .illegalInstruction t _ => okThread t

end Sys2Proof
end

