-- ==== Sys2Proof/Certificates/Slice0/Obligations.lean ====
section
/-! DEFINITION. Statements for the provers: what each command of the block does where it completes, and what it leaves as it was. -/

open Sys2Proof Sys2Proof.Machine

/-- A step with a command at the front of the queue is that command's meaning on the state with the rest of the queue
(the queue of waiting commands is the model's choice, log 1). -/
def Obligations.StepRunsTheFrontCommand : Prop :=
  ∀ (c : Instr) (rest : List Instr) (s : State), step { s with pending := c :: rest } = exec c { s with pending := rest }

/-- The state after reset (R41, R58, R147, R179, R311, R349, R376): the package has not started, no command waits,
memory lists nothing, no host link is up, the journal and the error records number from 1, the tempo is 0, every cell
is FREE, the time has not been set, there is no queue pair and no record, and threads and key slots are as reset
leaves them. On an empty queue one tick of the time clock passes on every die in service once the root PLL has locked
(R41, R374), before that none, and nothing else changes but the counters of stalled clocks, a spin that has lasted its
time, and a controller whose disabling is over (the model's choice, log 1). -/
def Obligations.ResetAndIdleTick : Prop :=
  (State.reset.boot.stage = .reset ∧ State.reset.pending = [] ∧ State.reset.mem = [] ∧ Memory.wf State.reset.mem
    ∧ (∀ l, (State.reset.link l).speed = 0 ∧ (State.reset.link l).frozen = false)
    ∧ State.reset.journal.next = 1 ∧ State.reset.journal.entries = [] ∧ State.reset.tempo.current = 0
    ∧ (∀ d, (State.reset.tm d).free = 196608 ∧ State.reset.cellsBalance d)
    ∧ State.reset.timeModel.valid = false ∧ (∀ d, (State.reset.dieTime d).tick = 0)
    ∧ State.reset.queues = [] ∧ State.reset.errors.records = [] ∧ State.reset.errors.first = 1
    ∧ (∀ t, State.reset.thread t = Thread.reset) ∧ (∀ n, State.reset.keySlot n 0 = KeySlot.reset))
  ∧ (∀ s : State, s.pending = [] →
    ∃ t, step s = .next t
      ∧ t = { s with times := t.times, pipes := t.pipes, ciphers := t.ciphers, nvmes := t.nvmes, threads := t.threads, pods := t.pods }
      ∧ (s.boot.pllLocked = false ∨ s.boot.stopped = true → t = s)
      ∧ (∀ d, t.dieTime d = { s.dieTime d with tick :=
          if s.boot.pllLocked = true ∧ s.boot.stopped = false ∧ d ∈ s.workingDies then ((s.dieTime d).tick + 1) % 2 ^ 64
          else (s.dieTime d).tick })
      ∧ (∀ d, t.pipe d = { s.pipe d with counters0 := (t.pipe d).counters0, counters1 := (t.pipe d).counters1,
                                         drops0 := (t.pipe d).drops0, drops1 := (t.pipe d).drops1 })
      ∧ (∀ d, t.cipherOf d = { s.cipherOf d with counters := (t.cipherOf d).counters })
      ∧ (∀ k, t.thread k = { s.thread k with spin := (t.thread k).spin })
      ∧ ∀ f, t.nvme f = { s.nvme f with csts := (t.nvme f).csts, disabling := (t.nvme f).disabling })

/-- Supplies, resets, clocks and measurements (R42, R45, R56, R70, R116, R591, R602, R623, R624, R633, R640), and the
start of the package stage by stage (R41, R46, R47, R49, R53-R56, R374, R376, Table 02.1): the root PLL, the self
tests, the chain of dies and the choice of the lead's die, the image headers and the slot tried, the image that is
valid, READY, and the watchdog. What is not named in a clause with an equation is unchanged. -/
def Obligations.SupplyAndStartUp : Prop :=
  ((∀ s : State, s.boot.vaux = false →
    exec .vauxRise s = .next { s with boot := { s.boot with vaux := true }, chain := Chain.reset, synce := Synce.reset })
  ∧ (∀ s : State, s.boot.vin = false →
    exec .vauxLoss s = .next { s with
      boot := { s.boot with vaux := false, railsGood := false },
      chain := { Chain.reset with forwarding := false },
      synce := Synce.reset, errors := { s.errors with fatalLast := none } })
  ∧ (∀ s : State, exec .vinRise s = .next { s with boot := { s.boot with vin := true } })
  ∧ (∀ s : State, s.boot.vin = true → s.boot.vaux = true →
    exec .railsGood s = .next { s with boot := { s.boot with railsGood := true } })
  ∧ (∀ s : State, Runs .vinLow s fun t =>
    t.boot.vin = false ∧ t.boot.railsGood = false ∧ t.boot.stage = .reset ∧ t.boot.slotFailedA = false ∧ t.boot.slotFailedB = false
      ∧ t.boot.fuses = s.boot.fuses ∧ t.chain.address = s.chain.address ∧ t.chain.rate = s.chain.rate ∧ t.mem = s.mem
      ∧ t.queues = [] ∧ t.journal.entries = [] ∧ t.tempo = Tempo.reset)
  ∧ (∀ (s : State) (die : Nat), s.boot.vin = true → s.boot.railsGood = true → die < s.dieCount → s.boot.stopped = false →
    s.boot.stage = .ready → Runs (.railOutOfRegulation die) s fun t =>
      t.boot.stopped = true ∧ t.boot.stopReason = 4 ∧ t.boot.pkgReady = false ∧ t.boot.stage = .ready)
  ∧ (∀ s : State, Runs (.pkgResetN true) s fun t =>
    t.boot.pkgReset = true ∧ t.boot.stage = .reset ∧ t.boot.fuses = s.boot.fuses ∧ t.boot.vin = s.boot.vin
      ∧ t.chain.address = s.chain.address ∧ t.mem = s.mem ∧ t.queues = [] ∧ t.threads = [] ∧ t.journal.entries = []
      ∧ t.errors.fatalLast = s.errors.fatalLast ∧ t.errors.records = [])
  ∧ (∀ s : State, exec (.pkgResetN false) s = .next { s with boot := { s.boot with pkgReset := false } })
  ∧ (∀ (s : State) (position : Nat), position < s.dieCount →
    exec (.perstN position false) s = .next (s.modLink (position ^^^ s.boot.numberMask) (fun l =>
      { l with perst := false, d3cold := false, wakeFrame := false, wakeBy := [] })))
  ∧ (∀ (s : State) (position : Nat), position < s.dieCount → s.boot.pkgReset = true →
    exec (.perstN position true) s = .next (s.modLink (position ^^^ s.boot.numberMask) (fun l => { l with perst := true })))
  ∧ (∀ s : State, exec .trstN s = .next { s with boot := { s.boot with jtagState := 0 } })
  ∧ (∀ (s : State) (a b c : Nat), exec (.supplyMeasure a b c) s =
    .next { s with supply := { vinMv := a % 65536, vauxMv := b % 65536, inputDw := c % 65536 } })
  ∧ (∀ s : State, s.boot.refclk = true → s.boot.pllLocked = true → Runs .refclkLoss s fun t =>
    t = { s with boot := { s.boot with refclk := false, refclkHoldover := true, holdoverAt := s.dieTick s.roles.lead },
                 errors := t.errors }
      ∧ ∃ e ∈ t.errors.latched, e.cause = 0x0909 ∧ e.die = s.roles.lead)
  ∧ (∀ s : State, s.boot.refclk = true → s.boot.pllLocked = false →
    exec .refclkLoss s = .next { s with boot := { s.boot with refclk := false } })
  ∧ (∀ s : State, s.boot.refclkHoldover = true → s.boot.stopped = false →
    (s.boot.holdoverAt + 100 * ticksPerMs ≤ s.dieTick s.roles.lead → Runs .refclkHoldoverExpiry s fun t =>
      t.boot.stopped = true ∧ t.boot.stopReason = 3 ∧ t.boot.pkgReady = false)
    ∧ (s.dieTick s.roles.lead < s.boot.holdoverAt + 100 * ticksPerMs → exec .refclkHoldoverExpiry s = .next s))
  ∧ (∀ s : State, exec .refclkReturn s = .next { s with boot := { s.boot with refclk := true, refclkHoldover := false } })
  ∧ (∀ (s : State) (die : Nat) (temp : Int), s.dieWorks die = true → temp ≤ 150 →
    Runs (.temperatureMeasure die temp) s fun t =>
      t = { s with temps := t.temps } ∧ (t.dieTemp die).temp = temp
        ∧ (t.dieTemp die).tempMax = max (s.dieTemp die).tempMax temp ∧ ∀ d, d ≠ die → t.dieTemp d = s.dieTemp d))
  ∧ ((∀ s : State, s.boot.stage = .reset → s.boot.pkgReset = false → s.boot.railsGood = true → s.boot.refclk = true →
    exec .rootPllLock s = .next { s with times := [], boot := { s.boot with pllLocked := true, stage := .selftest } })
  ∧ (∀ (s : State) (position : Nat) (passed : Bool), s.boot.stage = .selftest → position < s.dieCount →
    exec (.selfTest position passed) s = .next { s with boot := { s.boot with
      selfDone := setBit s.boot.selfDone position true, selfPass := setBit s.boot.selfPass position passed } })
  ∧ (∀ s : State, s.boot.stage = .selftest → bit (s.boot.selfDone &&& s.boot.selfPass) 0 = true → Runs .dieChain s fun t =>
    t.boot = { s.boot with positionPassed := s.boot.selfDone &&& s.boot.selfPass, numberMask := 0, stage := .flash }
      ∧ t.roles.lead = 0 ∧ t.roles.failed = failedDies s.dieCount (s.boot.selfDone &&& s.boot.selfPass) 0)
  ∧ (∀ s : State, s.boot.stage = .selftest → bit (s.boot.selfDone &&& s.boot.selfPass) 0 = false →
    bit (s.boot.selfDone &&& s.boot.selfPass) 1 = true → Runs .dieChain s fun t =>
      t.boot.numberMask = 1 ∧ t.boot.stage = .flash ∧ t.roles.lead = 0)
  ∧ (∀ s : State, s.boot.stage = .selftest → bit (s.boot.selfDone &&& s.boot.selfPass) 0 = false →
    bit (s.boot.selfDone &&& s.boot.selfPass) 1 = false → Runs .dieChain s fun t =>
      t.boot.stage = .failed ∧ t.boot.failCause = 1 ∧ t.roles = s.roles)
  ∧ (∀ (s : State) (mode : Nat) (a b : Option ImageHeader), s.boot.stage = .flash → s.boot.fuses.lifecycle ≠ .decommissioned →
    s.boot.slotFailedA = false → s.boot.slotFailedB = false → Runs (.flashHeaderRead true mode a b) s fun t =>
      t = { s with boot := t.boot } ∧ t.boot.stage = .verify
        ∧ t.boot.flashMode = (if bit mode 2 then 2 else if bit mode 1 then 1 else 0)
        ∧ t.boot.headerA = (match s.boot.flashA with | some x => some (headerOf x) | none => a)
        ∧ t.boot.headerB = (match s.boot.flashB with | some x => some (headerOf x) | none => b) ∧ t.boot.trySlot =
          (match t.boot.headerA, t.boot.headerB with
            | some x, some y => if x.generation < y.generation then 1 else 0
            | none, some _ => 1
            | _, _ => 0))
  ∧ (∀ (s : State) (check : ImageCheck) (h : ImageHeader), s.boot.stage = .verify → s.boot.tryHeader = some h →
    imageValid s.boot.fuses h (s.boot.digests h check).bodySha check.rsaVerifies check.pqVerifies = true →
    Runs (.imageRead check) s fun t =>
      t = { s with boot := { s.boot with
        stage := .init, slot := s.boot.trySlot, runningSvn := h.svn, imageMeasure := (s.boot.digests h check).measurement,
        aliasKey := some (aliasKeyOf s.boot.fuses (s.boot.digests h check).headerSha).toNat, aliasCert := t.boot.aliasCert,
        identityWithheld := true } })
  ∧ (∀ s : State, s.boot.stage = .init → Runs .firmwareStart s fun t =>
    t.boot = { s.boot with stage := .ready, pkgReady := true } ∧ t.tempo = Tempo.reset ∧ t.banks = []
      ∧ t.timeModel.valid = false ∧ t.timeModel.refDie = s.roles.lead
      ∧ t = { s with boot := t.boot, tempo := t.tempo, banks := t.banks, timeModel := t.timeModel, channels := t.channels,
                     partitions := t.partitions })
  ∧ (∀ s : State, s.boot.stage = .init → s.boot.slot = 0 → Runs .bootWatchdog s fun t =>
    t = { s with boot := t.boot } ∧ t.boot.slotFailedA = true ∧ t.boot.fallback = true))

/-- The chain's own frames (R65, R67, R70-R74, R76, R116, R71): on ENUMERATE a package that takes an address takes
NEXT_ADDRESS, increments the field and forwards the frame; in RENUMBER it drops its address first, in ADD it takes one
only without an address, and 0xFF gives none. RATE sets the code and a code above 2 has no stated effect. RELEASE,
BYPASS, STATUS and WAKE are answered by the package they name, loss of the clock returns the rate to 0; a corrupted
frame is counted and the package hunts for SYNC, a frame that does not name the package passes on, and in a package
with no supply every frame does. -/
def Obligations.ChainFramesAndManagement : Prop :=
  ((∀ (s : State) (seq next maxRate : Nat), s.chainAlive = true → s.chain.bypassed = false → s.chain.address = 0 → next ≠ 0xFF →
    exec (.enumerate seq next 0 maxRate) s = .next (({ s with chain :=
      { s.chain with address := next, released := false, clockSeen := true } }).emit
        (.chain (enumFrame 0xFF 0 seq (next + 1) 0 (min maxRate 2) []))))
  ∧ (∀ (s : State) (seq next maxRate : Nat), s.chainAlive = true → s.chain.bypassed = false → s.chain.address ≠ 0 →
    exec (.enumerate seq next 0 maxRate) s = .next (({ s with chain := { s.chain with released := false, clockSeen := true } }).emit
      (.chain (enumFrame 0xFF 0 seq next 0 (min maxRate 2) []))))
  ∧ (∀ (s : State) (seq next maxRate : Nat), s.chainAlive = true → s.chain.bypassed = false → next ≠ 0xFF →
    Runs (.enumerate seq next 1 maxRate) s fun t => t.chain.address = next ∧ t.chain.released = false
      ∧ t.out = (({ s with chain := { s.chain with released := false } } : State).abortTxnsOf (masterId 4 0 0)).out
          ++ [.chain (enumFrame 0xFF 0 seq (next + 1) 1 (min maxRate 2) [])])
  ∧ (∀ (s : State) (seq maxRate : Nat), s.chainAlive = true → s.chain.bypassed = false → s.chain.address = 0 →
    exec (.enumerate seq 0xFF 0 maxRate) s = .next (({ s with chain := { s.chain with released := false, clockSeen := true } }).emit
      (.chain (enumFrame 0xFF 0 seq 0xFF 0 (min maxRate 2) []))))
  ∧ (∀ (s : State) (seq maxRate : Nat), s.chainAlive = true → s.chain.bypassed = false → Runs (.enumerate seq 0xFF 1 maxRate) s fun t =>
    t.chain.address = 0
      ∧ t.out = (({ s with chain := { s.chain with released := false } } : State).abortTxnsOf (masterId 4 0 0)).out
          ++ [.chain (enumFrame 0xFF 0 seq 0xFF 1 (min maxRate 2) [])])
  ∧ (∀ (s : State) (seq next maxRate : Nat), s.chainAlive = true → s.chain.bypassed = true → Runs (.enumerate seq next 1 maxRate) s fun t =>
    t.chain = { s.chain with released := false } ∧ t.out = s.out ++ [.chain (enumFrame 0xFF 0 seq next 1 maxRate [])])
  ∧ (∀ (s : State) (seq code : Nat), s.chainTakes = true → code ≤ 2 →
    exec (.rate seq code) s = .next (({ s with chain := { s.chain with rate := code, clockSeen := true } }).emit
      (.chain (chainFrame 0xFF 0 0x02 seq [BitVec.ofNat 8 code]))))
  ∧ (∀ (s : State) (seq code : Nat), s.chainTakes = true → 2 < code → exec (.rate seq code) s = .fault (.notGuaranteed 71))
  ∧ (∀ (s : State) (dest seq : Nat), s.chainNames dest = true → s.boot.fuses.lifecycle ≠ .decommissioned →
    exec (.release dest seq) s = .next { s with
      chain := { s.chain with address := 0, released := true }, out := (s.chainReply seq []).out })
  ∧ (∀ (s : State) (dest seq : Nat), s.chainNames dest = false →
    exec (.release dest seq) s = .next (s.emit (.chain (chainFrame dest 0 0x03 seq []))))
  ∧ (∀ (s : State) (dest seq : Nat) (enter : Bool), s.chainNames dest = true → s.boot.fuses.lifecycle ≠ .decommissioned →
    exec (.bypass dest seq enter) s = .next { s with
      chain := { s.chain with bypassed := enter }, out := (s.chainReply seq []).out })
  ∧ (∀ (s : State) (dest seq : Nat) (enter : Bool), s.chainAlive = true → s.inBypass = true → s.chainDest dest = true →
    exec (.bypass dest seq enter) s = .next { s with
      chain := { s.chain with bypassed := enter }, out := s.out ++ [.chain (chainFrame dest 0 0x04 seq [BitVec.ofNat 8 (b2n enter)])] })
  ∧ (∀ (s : State) (dest seq : Nat), s.chainNames dest = true → s.boot.fuses.lifecycle ≠ .decommissioned →
    exec (.status dest seq) s = .next (s.chainReply seq (toLe 4 s.bootStatus ++ toLe 4 s.pkgRoles ++ toLe 4 s.chainStatus)))
  ∧ (∀ (s : State) (dest seq : Nat), s.chainNames dest = true → s.boot.fuses.lifecycle = .decommissioned →
    exec (.status dest seq) s = .next (s.chainReply seq (toLe 4 s.bootStatus)))
  ∧ (∀ (s : State) (dest seq mask : Nat), s.chainNames dest = true → s.boot.fuses.lifecycle ≠ .decommissioned →
    s.synce.chainWakeEn = true →
    Runs (.wake dest seq mask) s fun t => t = { s with links := t.links, out := (s.chainReply seq []).out }
      ∧ ∀ d, d < s.dieCount → t.link d = if bit mask d = true then { s.link d with wakeFrame := true } else s.link d)
  ∧ (∀ (s : State) (dest seq mask : Nat), s.chainNames dest = true → s.boot.fuses.lifecycle ≠ .decommissioned →
    s.synce.chainWakeEn = false → exec (.wake dest seq mask) s = .next (s.chainReply seq []))
  ∧ (∀ s : State, exec .chainClockLoss s =
    .next (({ s with chain := { s.chain with rate := 0, clockSeen := false } }).abortTxnsOf (masterId 4 0 0))))
  ∧ ((∀ (s : State) (frame : List Byte), s.chainAlive = true → s.inBypass = false →
    leAt frame (8 + leAt frame 6 2) 4 ≠ crc32 (sub frame 2 (6 + leAt frame 6 2)) →
    exec (.stollekFrameReceive frame) s = .next { s with chain :=
      { s.chain with hunting := true, fcsErrors := min 0xFFFF (s.chain.fcsErrors + 1) } })
  ∧ (∀ (s : State) (dest src type seq : Nat) (payload : List Byte), s.chainAlive = true → dest < 256 → src < 256 → type < 256 →
      seq < 256 → payload.length ≤ 1024 →
      let f := chainFrame dest src type seq payload
      let heard : State := { s with chain := { s.chain with hunting := false, clockSeen := true } }
      (type = 0x03 → s.chainNames dest = true → exec (.stollekFrameReceive f) s = exec (.release dest seq) heard)
        ∧ (type = 0x05 → s.chainNames dest = true → exec (.stollekFrameReceive f) s = exec (.status dest seq) heard)
        ∧ (type = 0x01 → payload.length = 3 → dest = 0xFF → src = 0 → exec (.stollekFrameReceive f) s =
            exec (.enumerate seq (leAt payload 0 1) (leAt payload 1 1) (leAt payload 2 1)) heard)
        ∧ (type = 0x03 ∨ type = 0x05 ∨ 5 < type → s.chainNames dest = false →
            exec (.stollekFrameReceive f) s = .next (heard.emit (.chain f))))
  ∧ (∀ (s : State) (frame : List Byte), s.chainAlive = false →
    exec (.stollekFrameReceive frame) s = .next (s.emit (.chain frame))))

/-- Commands over the chain (R67, R69, R171): fragments are acknowledged and gathered, the last one hands the packet
on, a fragment out of turn or beyond the 128th drops what was gathered, a reply is fetched fragment by fragment until
its last, and the time-outs drop a partial command and a held reply. SPDM (R62, R63): GET_VERSION resets the order of
requests, algorithms before the version are answered with ERROR, a measurement is answered signed, and block 5 holds
the lifecycle, the policy, the lowest SVN and the number mask. -/
def Obligations.ChainCommandsAndSpdm : Prop :=
  ((∀ (s : State) (seq : Nat) (data : List Byte), s.chainTakes = true → s.decides = true → data ≠ [] →
    exec (.command seq 0x80 data) s = .next (({ s with chain := { s.chain with held := none, partialCmd := some (1, data) } }).chainReply
      seq [BitVec.ofNat 8 0x80]))
  ∧ (∀ (s : State) (seq n : Nat) (bs data : List Byte), s.chainTakes = true → s.decides = true → data ≠ [] →
    s.chain.partialCmd = some (n, bs) → 0 < n → n < 128 →
    (n < 127 → exec (.command seq (0x80 + n) data) s = .next (({ s with chain :=
      { s.chain with partialCmd := some (n + 1, bs ++ data) } }).chainReply seq [BitVec.ofNat 8 (0x80 + n)]))
    ∧ (n = 127 → exec (.command seq (0x80 + n) data) s = .next (({ s with chain := { s.chain with partialCmd := none } }).badFragment seq))
    ∧ exec (.command seq n data) s = .next (({ s with chain := { s.chain with partialCmd := none } }).submitPacket
      (packetOf (.chain seq) s.headId s.servingDie (bs ++ data))))
  ∧ (∀ (s : State) (seq : Nat) (data : List Byte), s.chainTakes = true → s.decides = true → data ≠ [] →
    exec (.command seq 0 data) s = .next (({ s with chain := { s.chain with held := none, partialCmd := none } }).submitPacket
      (packetOf (.chain seq) s.headId s.servingDie data)))
  ∧ (∀ (s : State) (seq n m : Nat) (bs data : List Byte), s.chainTakes = true → s.decides = true → data ≠ [] →
    s.chain.partialCmd = some (n, bs) → 0 < m → m < 128 → m ≠ n → m + 1 ≠ n → Runs (.command seq m data) s fun t =>
      t = { s with chain := { s.chain with partialCmd := none }, out := t.out })
  ∧ (∀ (s : State) (seq n : Nat) (bs : List Byte), s.chainTakes = true → s.decides = true → n < 128 → s.chain.held = some bs →
    1023 * (n + 1) < bs.length → exec (.commandFetch seq n) s = .next (s.chainReply seq (replyFragment bs n)))
  ∧ (∀ (s : State) (seq n : Nat) (bs : List Byte), s.chainTakes = true → s.decides = true → n < 128 → s.chain.held = some bs →
    1023 * n < bs.length → bs.length ≤ 1023 * (n + 1) → exec (.commandFetch seq n) s =
      .next (({ s with chain := { s.chain with held := none } }).chainReply seq (replyFragment bs n)))
  ∧ (∀ (s : State) (seq n : Nat), s.chainTakes = true → s.decides = true → s.chain.held = none →
    exec (.commandFetch seq n) s = .next (s.chainReply seq [0x7F]))
  ∧ (∀ s : State, exec .chainPartialCommandTimeout s = .next { s with chain := { s.chain with partialCmd := none } })
  ∧ (∀ s : State, exec .chainReplyHoldTimeout s = .next { s with chain := { s.chain with held := none } })
  ∧ (∀ (s : State) (seq : Nat) (data : List Byte) (good : SigResult), s.chainTakes = true → s.decides = true →
    exec (.endorseFrame seq 0x80 data good) s =
      .next (({ s with chain := { s.chain with partialStmt := some (1, data) } }).chainReply seq [BitVec.ofNat 8 0x80])))
  ∧ ((∀ (s : State) (seq : Nat) (body : List Byte), s.chainTakes = true → s.decides = true →
    exec (.spdm none seq 0x84 body) s = .next (({ s with chain :=
      { s.chain with spdmVersion := true, spdmAlgorithms := false, spdmSession := false, spdmExchange := false } }).spdmSend none seq
        0x04 [0, 1, 0x00, 0x12]))
  ∧ (∀ (s : State) (l seq : Nat) (body : List Byte), s.doeReach l = true → (s.link l).spdmVersion = false →
    exec (.spdm (some l) seq 0xE3 body) s = .next (s.spdmSend (some l) seq 0x7F [0x04, 0]))
  ∧ (∀ (s : State) (l seq : Nat) (body : List Byte), s.doeReach l = true → (s.link l).spdmVersion = true →
    exec (.spdm (some l) seq 0xE3 body) s = .next ((s.modLink l (fun x => { x with
      spdmVersion := true, spdmAlgorithms := true, spdmExchange := false, spdmSession := (s.link l).spdmSession })).spdmSend (some l) seq
        0x63 ([0, 0] ++ toLe 2 36 ++ [1, 0] ++ toLe 4 0x04 ++ toLe 4 0x80 ++ toLe 4 0x02 ++ List.replicate 16 0)))
  ∧ (∀ (s : State) (l seq index : Nat) (m : List Byte), s.doeReach l = true → (s.link l).spdmVersion = true →
    (s.link l).spdmAlgorithms = true → index < 256 → s.measurement index = some m →
    exec (.spdm (some l) seq 0xE0 [BitVec.ofNat 8 index]) s = .next (s.spdmSend (some l) seq 0x60 (m ++ s.aliasSign m)))
  ∧ (∀ (s : State) (l seq : Nat) (body : List Byte), s.doeReach l = true → (s.link l).spdmVersion = true →
    (s.link l).spdmAlgorithms = true → (s.link l).spdmExchange = false →
    exec (.spdm (some l) seq 0xE5 body) s = .next (s.spdmSend (some l) seq 0x7F [0x04, 0]))
  ∧ (∀ (s : State) (l seq : Nat) (body : List Byte), s.doeReach l = true → (s.link l).spdmVersion = true →
    (s.link l).spdmAlgorithms = true → exec (.spdm (some l) seq 0x81 body) s = .next (s.spdmSend (some l) seq 0x01
      ([0, 1] ++ toBe 48 (Config.sha384 (s.boot.fuses.rootCert ++ s.boot.fuses.identityCert ++ s.boot.aliasCert)).toNat)))
  ∧ ∀ s : State, s.measurement 5 = some (toLe 8 (s.boot.fuses.lifecycle.code + 2 ^ 8 * b2n s.boot.fuses.requirePq
      + 2 ^ 16 * s.boot.fuses.minSvn + 2 ^ 24 * s.boot.numberMask)))

/-- Transactions across packages (R338, R339, Table 09.7): PREPARE holds a transaction ready for its instant, COMMIT
records the commit point (as a journal entry of the chain head, the model's choice, log 49), ABORT ends one that has
not passed it and is refused by one that has, STATUS changes nothing, and INSTANT - 2 ms with no COMMIT aborts it. -/
def Obligations.CrossPackageTransactions : Prop :=
  (∀ (s : State) (seq txn group instant : Nat) (t : Txn), s.txnFrames = true → s.txnWaits = false → s.expireTxns = s →
    s.txnNamed txn group = .ok t → t.state = .opened → s.prepareStatus txn t instant = none →
    exec (.txnFramePrepare seq txn group instant) s =
      .next ((s.setTxn txn { t with state := .prepared, instant := instant }).txnReply seq 1 txReady stOk 0 0))
  ∧ (∀ (s : State) (seq txn group instant : Nat) (t : Txn), s.txnFrames = true → s.txnWaits = false → s.expireTxns = s →
    s.txnNamed txn group = .ok t → t.state = .prepared → t.commitPoint = false → s.commitLate t = false → t.instant = instant →
    exec (.txnFrameCommit seq txn group instant) s = .next (((s.recordCommand (s.headCommit txn) stOk s.tempo.current []).setTxn txn
      { t with commitPoint := true }).txnReply seq 2 txReady stOk 0 0))
  ∧ (∀ (s : State) (seq txn group instant : Nat) (t : Txn), s.txnFrames = true → s.txnWaits = false → s.expireTxns = s →
    s.txnNamed txn group = .ok t → t.state = .prepared → t.commitPoint = false →
    exec (.txnFrameAbort seq txn group instant) s = .next ((s.finishTxn txn t .aborted).txnReply seq 3 txAborted stOk 0 0))
  ∧ (∀ (s : State) (seq txn group instant : Nat) (t : Txn), s.txnFrames = true → s.txnWaits = false → s.expireTxns = s →
    s.txnNamed txn group = .ok t → t.state = .prepared → t.commitPoint = true →
    exec (.txnFrameAbort seq txn group instant) s = .next (s.txnReply seq 3 txFailed stWrongState 0 0))
  ∧ (∀ (s : State) (seq txn group instant : Nat) (t : Txn), s.txnFrames = true → s.txnNamed txn group = .ok t →
    t.state = .committed → exec (.txnFrameStatus seq txn group instant) s = .next (s.txnReply seq 4 txReady stOk t.tempo 0))
  ∧ (∀ (s : State) (txn : Nat) (t : Txn), Tbl.find s.tempo.txns txn = some t → t.crossPackage = true → t.state = .prepared →
    t.commitPoint = false →
    (t.instant < s.nowNs + 2000000 → exec (.crossPackageCommitDeadline txn) s = .next (s.finishTxn txn t .aborted))
    ∧ (s.nowNs + 2000000 ≤ t.instant → exec (.crossPackageCommitDeadline txn) s = .next s))

/-- Training, loss and the errors of a host link (R79, R104-R106, R112): what comes up, when the link enters FROZEN
and with which cause, what a hot reset and a failed IDE check do. Releasing containment (R110): the two writes in
order release the link, any other value written while FROZEN cancels the sequence and draws a new nonce, and so does 1
ms without the second write; while not FROZEN writes are ignored. -/
def Obligations.LinksAndContainment : Prop :=
  ((∀ (s : State) (link speed width lanes : Nat) (flit reversed : Bool), s.dieWorks link = true → s.boot.pkgReset = false →
    s.boot.pllLocked = true → (s.link link).perst = false → 1 ≤ speed → speed ≤ 6 → standardWidth width = true → lanes % 65536 = 0 →
    exec (.linkTraining link speed width flit reversed lanes) s = .next (s.setLink link { s.link link with
      speed := speed, width := width, flit := flit || decide (speed = 6), reversed := reversed, failedLanes := 0,
      receiver := true, surpriseDown := false }))
  ∧ (∀ (s : State) (link speed lanes : Nat) (flit reversed : Bool), s.dieWorks link = true → s.boot.pkgReset = false →
    s.boot.pllLocked = true → (s.link link).perst = false → 1 ≤ speed → speed ≤ 6 → lanes % 65536 = 0x0100 →
    Runs (.linkTraining link speed 16 flit reversed lanes) s fun t => (t.link link).width = 8 ∧ (t.link link).failedLanes = 0x0100
      ∧ (t.link link).speed = speed ∧ (∀ d, d ≠ link → t.link d = s.link d) ∧ ∃ e ∈ t.errors.latched, e.cause = 0x0101 ∧ e.die = link)
  ∧ (∀ (s : State) (link : Nat) (present : Bool), (s.link link).speed = 0 → s.dieWorks link = true →
    exec (.receiverDetection link present) s = .next (s.modLink link (fun l => { l with receiver := present })))
  ∧ (∀ (s : State) (link : Nat), s.linkUp link = true → (s.link link).frozen = false →
    Runs (.malformedTlp link) s fun t => (t.link link).frozen = true ∧ (t.link link).cause = 3 ∧ (t.link link).repeatCount = 0
        ∧ (∀ d, d < 8 → d ≠ link → (t.link d).quiet = (s.link d).quiet)
        ∧ t.like ({ s with links := t.links, queues := t.queues, channels := t.channels, ciphers := t.ciphers } : State))
  ∧ (∀ (s : State) (link : Nat), s.dieWorks link = true → s.boot.pllLocked = true → (s.link link).frozen = false →
    Runs (.hostPathInternalError link) s fun t => (t.link link).frozen = true ∧ (t.link link).cause = 4
        ∧ (∀ d, d < 8 → d ≠ link → (t.link d).quiet = (s.link d).quiet)
        ∧ t.like ({ s with links := t.links, queues := t.queues, channels := t.channels, ciphers := t.ciphers } : State))
  ∧ (∀ (s : State) (link : Nat), s.linkUp link = true → (s.link link).frozen = true →
    exec (.malformedTlp link) s =
      .next (s.setLink link { s.link link with repeatCount := min 0xFF ((s.link link).repeatCount + 1) }))
  ∧ (∀ (s : State) (link : Nat), s.linkUp link = true → (s.link link).frozen = false →
    Runs (.surpriseLinkDown link) s fun t => (t.link link).frozen = true ∧ (t.link link).cause = 1 ∧ (t.link link).speed = 0
        ∧ (∀ d, d < 8 → d ≠ link → (t.link d).quiet = (s.link d).quiet)
        ∧ t.like ({ s with links := t.links, queues := t.queues, channels := t.channels, ciphers := t.ciphers } : State))
  ∧ (∀ (s : State) (link : Nat), s.ready = true → s.linkUp link = true →
    exec (.hotReset link) s = .next ((s.resetLinkFunctions link).modLink link (fun l =>
      { l with frozen := false, armed := false, repeatCount := 0, surpriseDown := false })).mirrorCheck)
  ∧ (∀ (s : State) (link stream : Nat) (i : IdeStream), s.linkUp link = true → Tbl.find (s.link link).ide stream = some i →
    Runs (.ideCheckFailure link stream) s fun t =>
      t = { s with links := t.links, out := s.out ++ [.tlp link TlpKind.aerIde.code stream], errors := t.errors }
        ∧ Tbl.find (t.link link).ide stream = some { i with secure := false }
        ∧ ∃ e ∈ t.errors.latched, e.cause = 0x0104 ∧ e.die = link ∧ e.unit = stream))
  ∧ ((∀ (s : State) (link : Nat), s.ready = true → s.linkUp link = true → (s.link link).frozen = true →
    (s.link link).armed = false → s.nonceOf link < 65536 →
    exec (.containmentRelease link (0xA5A50000 + s.nonceOf link)) s = .next (s.setLink link { s.link link with armed := true }))
  ∧ (∀ (s : State) (link : Nat), s.ready = true → s.linkUp link = true → (s.link link).frozen = true →
    (s.link link).armed = true → s.nonceOf link < 65536 →
    exec (.containmentRelease link (0x5A5A0000 + s.nonceOf link)) s = .next ((s.setLink link { s.link link with
      frozen := false, armed := false, repeatCount := 0, surpriseDown := false }).afterRelease link))
  ∧ (∀ (s : State) (link value : Nat), s.ready = true → s.linkUp link = true → (s.link link).frozen = true →
    value < 2 ^ 32 → value ≠ (if (s.link link).armed then 0x5A5A0000 else 0xA5A50000) + s.nonceOf link →
    exec (.containmentRelease link value) s = .next ((s.draw 16).2.setLink link { s.link link with
      armed := false, nonce := some (s.draw 16).1 }))
  ∧ (∀ (s : State) (link value : Nat), (s.link link).frozen = false → exec (.containmentRelease link value) s = .next s)
  ∧ (∀ (s : State) (link : Nat), (s.link link).frozen = true → (s.link link).armed = true →
    exec (.releaseArmTimeout link) s = .next ((s.draw 16).2.modLink link (fun l => { l with armed := false, nonce := some (s.draw 16).1 })))
  ∧ ∀ (s : State) (link : Nat), (s.link link).cause = 3 ∨ (s.link link).cause = 4 →
    s.afterRelease link = (s.functionsOf link).foldl State.resume s)

/-- Bus mastering, power states, resets and configuration of functions (R82, R84-R86, R98-R103, R114-R116, R43): a
function whose bus mastering is cleared or that enters D3hot issues nothing and its reads are discarded, resets of one
function and of a physical function with its virtual ones, VF enable, PME, and configuration reads and writes, which
are retried before READY. -/
def Obligations.FunctionControl : Prop :=
  (∀ (s : State) (fn : Nat), s.ready = true → s.configReach fn = true →
    Runs (.busMasterEnableClear fn) s fun t => (t.func fn).busMaster = false ∧ t.canIssue fn = false
      ∧ t.like ({ s with queues := t.queues, channels := t.channels, ciphers := t.ciphers } : State)
      ∧ ∀ k e, Tbl.find s.tags k = some e → Tbl.find t.tags k = some (if e.fn = fn then { e with discard := true } else e))
  ∧ (∀ (s : State) (fn : Nat), s.ready = true → s.configReach fn = true → exec (.busMasterEnableSet fn) s =
    .next ((s.modFunc fn (fun f => { f with busMaster := true })).resume fn))
  ∧ (∀ (s : State) (fn : Nat), s.ready = true → s.configReach fn = true → fnVf fn ≠ 0 →
    exec (.functionLevelReset fn) s = .next (s.resetOne fn))
  ∧ (∀ (s : State) (fn : Nat), s.ready = true → s.configReach fn = true → fnVf fn = 0 →
    exec (.functionLevelReset fn) s = .next (((s.vfsOf fn).foldl State.resetOne s).resetOne fn))
  ∧ (∀ (s : State) (pf : Nat), s.ready = true → s.configReach pf = true → fnVf pf = 0 → s.vfsOf pf = [] →
    exec (.vfEnableClear pf) s = .next (s.modFunc pf (fun f => { f with vfEnable := false, numVfs := 0 })))
  ∧ (∀ (s : State) (fn : Nat), s.ready = true → s.configReach fn = true →
    Runs (.d3hotEntry fn) s fun t => (t.func fn).d3hot = true ∧ t.canIssue fn = false
      ∧ t.like ({ s with queues := t.queues, channels := t.channels, ciphers := t.ciphers } : State))
  ∧ (∀ (s : State) (fn : Nat), s.ready = true → s.configReach fn = true → exec (.d3hotExit fn) s =
    .next ((s.modFunc fn (fun f => { f with d3hot := false })).resume fn))
  ∧ (∀ (s : State) (fn : Nat), s.linkUp (mDie fn) = true → (s.link (mDie fn)).frozen = false → s.linkInsecure (mDie fn) = false →
    (s.func fn).d3hot = true → (s.func fn).pmeEnable = true → (s.link (mDie fn)).wakeBy.contains fn = false →
    exec (.pmeEvent fn) s = .next (((s.setFunc fn { s.func fn with pmeStatus := true }).modLink (mDie fn)
      (fun l => { l with wakeBy := l.wakeBy ++ [fn] })).emit (.tlp (mDie fn) TlpKind.pmPme.code fn)))
  ∧ (∀ (s : State) (fn : Nat), s.dieWorks (mDie fn) = true → (s.link (mDie fn)).speed = 0 ∨ (s.link (mDie fn)).frozen = true →
    (s.func fn).d3hot = true → (s.func fn).pmeEnable = true → (s.link (mDie fn)).wakeBy.contains fn = false →
    exec (.pmeEvent fn) s = .next ((s.setFunc fn { s.func fn with pmeStatus := true }).modLink (mDie fn)
      (fun l => { l with wakeBy := l.wakeBy ++ [fn] })))
  ∧ (∀ (s : State) (fn field value : Nat), s.linkUp (mDie fn) = true → s.linkInsecure (mDie fn) = false →
    s.ready = true → s.configReach fn = true → exec (.configurationRequest fn false field value) s =
    .next (s.emit (.tlp (mDie fn) TlpKind.successful.code (s.configRead fn field))))
  ∧ (∀ (s : State) (fn value : Nat), s.linkUp (mDie fn) = true → s.linkInsecure (mDie fn) = false →
    s.ready = true → s.configReach fn = true → exec (.configurationRequest fn true cfRelaxed value) s =
    .next ((s.modFunc fn (fun f => { f with
      relaxed := decide (value % 2 = 1) })).emit (.tlp (mDie fn) TlpKind.successful.code fn)))
  ∧ (∀ (s : State) (fn field value : Nat) (write : Bool), s.linkUp (mDie fn) = true →
    s.linkInsecure (mDie fn) = false → s.ready = false → exec (.configurationRequest fn write field value) s =
    .next (s.emit (.tlp (mDie fn) TlpKind.retryStatus.code fn)))
  ∧ (∀ (s : State) (fn : Nat), s.configRead fn cfVendor = 0x1D7A ∧ s.configRead fn cfNoSoftReset = 1
      ∧ s.configRead fn cfInterruptPin = 0 ∧ s.configRead fn cfBusMaster = b2n (s.func fn).busMaster)
  ∧ (∀ (s : State) (pf n : Nat), s.ready = true → s.configReach pf = true → fnVf pf = 0 →
    Runs (.vfEnableSet pf n) s fun t => (t.func pf).vfEnable = true
      ∧ t = { s with funcs := t.funcs } ∧ ∀ f, f ≠ pf → t.func f = s.func f)

/-- Completions of host reads (R94-R97, R104, R105): credited to their request, discarded where the request's tag is
quarantined or the link is FROZEN, reported where no request has the tag; a time-out quarantines the tag, is counted
and recorded, ends the DMA descriptor it belongs to, and the tag's expiry frees it. -/
def Obligations.HostCompletions : Prop :=
  (∀ (s : State) (link tag : Nat) (data : List Byte) (t : HostTag), s.linkUp link = true → (s.link link).frozen = false →
    Tbl.find s.tags (tagKey link tag) = some t → t.quarantined = false → t.discard = false →
    s.ideSilent t.fn = false → data.length < t.remaining → exec (.completionArrival link tag data true) s =
      .next { s with tags := Tbl.set s.tags (tagKey link tag) { t with remaining := t.remaining - data.length } })
  ∧ (∀ (s : State) (link tag : Nat) (data : List Byte) (good : Bool) (t : HostTag), s.linkUp link = true →
    (s.link link).frozen = false → Tbl.find s.tags (tagKey link tag) = some t → t.quarantined = false → t.discard = true →
    s.ideSilent t.fn = false → t.remaining ≤ data.length →
    exec (.completionArrival link tag data good) s = .next { s with tags := Tbl.del s.tags (tagKey link tag) })
  ∧ (∀ (s : State) (link tag : Nat) (data : List Byte) (good : Bool) (t : HostTag), s.linkUp link = true →
    Tbl.find s.tags (tagKey link tag) = some t → t.quarantined = true → s.ideSilent t.fn = false →
    exec (.completionArrival link tag data good) s = .next ((({ s with tags := Tbl.del s.tags (tagKey link tag) }).modLink link
      (fun l => { l with lateCpl := min 0xFFFFFFFF (l.lateCpl + 1) })).emit (.tlp link TlpKind.aerUnexpectedAdvisory.code tag)))
  ∧ (∀ (s : State) (link tag : Nat) (data : List Byte) (good : Bool), s.linkUp link = true →
    Tbl.find s.tags (tagKey link tag) = none → s.linkInsecure link = false →
    exec (.completionArrival link tag data good) s = .next (s.emit (.tlp link TlpKind.aerUnexpected.code tag)))
  ∧ (∀ (s : State) (link tag : Nat) (data : List Byte) (t : HostTag), s.linkUp link = true → (s.link link).frozen = true →
    Tbl.find s.tags (tagKey link tag) = some t → t.quarantined = false →
    s.ideSilent t.fn = false → exec (.completionArrival link tag data true) s =
      .next { s with tags := Tbl.set s.tags (tagKey link tag) { t with quarantined := true } })
  ∧ (∀ (s : State) (link tag : Nat) (t : HostTag), s.dieWorks link = true → Tbl.find s.tags (tagKey link tag) = some t →
    t.quarantined = false → t.discard = true → mDie t.fn = link → Runs (.completionTimeout link tag) s fun u =>
      u = { s with
        tags := Tbl.set s.tags (tagKey link tag) { t with quarantined := true }, links := u.links, out := u.out, errors := u.errors }
      ∧ (u.link link).cto = min 0xFFFFFFFF ((s.link link).cto + 1)
      ∧ ∃ e ∈ u.errors.latched, e.cause = 0x0102 ∧ e.subject = t.fn ∧ e.die = link ∧ e.unit = t.use.unit)
  ∧ (∀ (s : State) (link tag chan q : Nat) (t : HostTag), s.dieWorks link = true → Tbl.find s.tags (tagKey link tag) = some t →
    t.quarantined = false → t.discard = false → t.use = .channel chan → (s.dmaCh chan).busy = true →
    (s.dmaCh chan).binder = .sequencer q →
    Runs (.completionTimeout link tag) s fun u => Tbl.find u.tags (tagKey link tag) = some { t with quarantined := true }
      ∧ (u.dmaCh chan).busy = false ∧ (u.dmaCh chan).status = 0x01)
  ∧ (∀ (s : State) (link tag : Nat) (t : HostTag), Tbl.find s.tags (tagKey link tag) = some t → t.quarantined = true →
    exec (.quarantineExpiry link tag) s = .next { s with tags := Tbl.del s.tags (tagKey link tag) })

/-- Mailboxes (R120-R124, R127-R129). MBX_SEND, MBX_SEND_END and MBX_RECV answer a next state, which each clause gives
in full, for every state that meets the clause's conditions: the window answers the writer, the binding names it, the
queue has room or is full. A word is stored behind the others with its writer's identity, replaces the newest in a
full queue with its COLLISION mark and the status bits, and is rejected and counted where the writer is not a sender
of an enabled binding; a read by the receiver returns and removes the oldest word, and a read by another agent or of
an empty queue returns 0 and removes nothing. A word for a pod thread raises its event; a word with END hands the
first whole message of the queue to firmware, or waits while the management pair restarts or where an agent other than
firmware receives. -/
def Obligations.Mailboxes : Prop :=
  (∀ (s : State) (fn : Nat) (v : Word32), fn < agentBoxBase → s.memReach fn = true → (s.fnBox fn).inbound.length < 16 →
    exec (.mbxSend fn fn v) s = .next (s.modFnBox fn (fun b =>
      { b with inbound := b.inbound ++ [{ word := v, stamp := fn, last := false, collided := false }] })))
  ∧ (∀ (s : State) (fn : Nat) (v : Word32), fn < agentBoxBase → s.memReach fn = true → (s.fnBox fn).inbound.length = 16 →
    exec (.mbxSend fn fn v) s = .next (s.modFnBox fn (fun b =>
      { b with
        inbound := b.inbound.dropLast ++ [{ word := v, stamp := fn, last := false, collided := true }], fwCollision := true,
        sendOverrun := true })))
  ∧ (∀ (s : State) (k writer : Nat) (v : Word32), s.agentReach (k / 256) writer = true → (s.agentBox k).enable = true →
    writer = (s.agentBox k).senderA ∨ writer = (s.agentBox k).senderB → isThreadId (s.agentBox k).receiver = false →
    let turn := (s.agentBox k).senderA != (s.agentBox k).senderB && !(s.agentBox k).nextIsB
    ((s.agentBox k).queue.length < 16 → exec (.mbxSend (agentBoxBase + k) writer v) s = .next (s.modAgentBox k (fun b => { b with
      nextIsB := turn, queue := b.queue ++ [{ word := v, stamp := writer, last := false, collided := false }] })))
    ∧ ((s.agentBox k).queue.length = 16 → exec (.mbxSend (agentBoxBase + k) writer v) s = .next (s.modAgentBox k (fun b => { b with
      nextIsB := turn, collision := true
      queue := b.queue.dropLast ++ [{ word := v, stamp := writer, last := false, collided := true }] }))))
  ∧ (∀ (s : State) (k writer : Nat) (v : Word32), s.agentReach (k / 256) writer = true → (s.agentBox k).enable = true →
    writer = (s.agentBox k).senderA ∨ writer = (s.agentBox k).senderB → isThreadId (s.agentBox k).receiver = true →
    (s.agentBox k).queue.length < 16 → exec (.mbxSend (agentBoxBase + k) writer v) s =
      .next ((s.modAgentBox k (fun b => { b with
        nextIsB := b.senderA != b.senderB && !b.nextIsB
        queue := b.queue ++ [{ word := v, stamp := writer, last := false, collided := false }] })).raiseInput
          (threadOfId (s.agentBox k).receiver) (s.agentBox k).event 4 0))
  ∧ (∀ (s : State) (k writer : Nat) (v : Word32), s.agentReach (k / 256) writer = true →
    (s.agentBox k).enable = false ∨ (writer ≠ (s.agentBox k).senderA ∧ writer ≠ (s.agentBox k).senderB) →
    exec (.mbxSend (agentBoxBase + k) writer v) s = .next (s.modAgentBox k (fun b => { b with rejects := min 0xFF (b.rejects + 1) })))
  ∧ (∀ (s : State) (k : Nat) (w : MbxWord) (rest : List MbxWord), (s.agentBox k).queue = w :: rest → (s.agentBox k).held = [] →
    s.agentReach (k / 256) (s.agentBox k).receiver = true →
    exec (.mbxRecv (agentBoxBase + k) (s.agentBox k).receiver) s =
      .next ((s.modAgentBox k (fun b =>
        { b with queue := rest, nextIsB := b.senderA != b.senderB && b.nextIsB })).emit (.read (s.agentBox k).receiver w.word.toNat)))
  ∧ (∀ (s : State) (k reader : Nat), reader ≠ (s.agentBox k).receiver →
    exec (.mbxRecv (agentBoxBase + k) reader) s = .next (s.emit (.read reader 0)))
  ∧ (∀ (s : State) (k reader : Nat), (s.agentBox k).queue = [] →
    exec (.mbxRecv (agentBoxBase + k) reader) s = .next (s.emit (.read reader 0)))
  ∧ (∀ (s : State) (fn : Nat) (w : MbxWord) (rest : List MbxWord), fn < agentBoxBase → s.memReach fn = true →
    (s.fnBox fn).outbound = w :: rest → (s.fnBox fn).held = [] →
    exec (.mbxRecv fn fn) s = .next ((s.modFnBox fn (fun b => { b with outbound := rest })).emit (.read fn w.word.toNat)))
  ∧ (∀ (s : State) (fn reader : Nat), fn < agentBoxBase → (s.fnBox fn).outbound = [] ∨ reader ≠ fn →
    exec (.mbxRecv fn reader) s = .next (s.emit (.read reader 0)))
  ∧ (∀ (s : State) (fn : Nat) (v : Word32), fn < agentBoxBase → s.memReach fn = true →
    (s.dieHealth (mDie fn)).pairRestarting = false →
    let stored := s.sendFunction fn { word := v, stamp := fn, last := true, collided := false }
    ∃ m rest, firstMessage (stored.fnBox fn).inbound = some (m, rest) ∧ exec (.mbxSendEnd fn fn v) s =
      .next (match messagePacket (.mailbox fn) (mDie fn) m with
        | (p, true) => (stored.modFnBox fn (fun b => { b with inbound := rest })).submitPacket p
        | (p, false) => (stored.modFnBox fn (fun b => { b with inbound := rest })).deliver p
            (p.reply stBadParam flagMailboxFault 0 0 [])))
  ∧ (∀ (s : State) (fn : Nat) (v : Word32), fn < agentBoxBase → s.memReach fn = true →
    (s.dieHealth (mDie fn)).pairRestarting = true → (s.fnBox fn).inbound.length < 16 →
    exec (.mbxSendEnd fn fn v) s = .next (s.modFnBox fn (fun b =>
      { b with inbound := b.inbound ++ [{ word := v, stamp := fn, last := true, collided := false }] })))
  ∧ (∀ (s : State) (k writer : Nat) (v : Word32), s.agentReach (k / 256) writer = true → (s.agentBox k).enable = true →
    writer = (s.agentBox k).senderA ∨ writer = (s.agentBox k).senderB → isThreadId (s.agentBox k).receiver = false →
    (s.agentBox k).receiver ≠ fwId (k / 256) → (s.agentBox k).queue.length < 16 →
    exec (.mbxSendEnd (agentBoxBase + k) writer v) s = .next (s.modAgentBox k (fun b => { b with
      nextIsB := b.senderA != b.senderB && !b.nextIsB
      queue := b.queue ++ [{ word := v, stamp := writer, last := true, collided := false }] })))

/-- The command queue of PF0 (R131-R135). CMDQ_REQUEST_DOORBELL, CMDQ_REPLY_HEAD_WRITE, CMDQ_ENABLE,
COMMAND_PACKET_FETCHED and COMMAND_REPLY_WRITE answer a next state wherever the window answers PF0 or PF0 can issue:
doorbells move the indices and start the next read, or set INDEX_ERR; ENABLE starts the rings at 0, clearing it stops
fetching, and writing its own value changes nothing; a fetched slot joins the commands that await replies; the oldest
finished reply is written into the next reply slot. PF1's admin opcodes (R126): COMMAND_PACKET issues the read of its
buffer, and once that has come hands the packet on as any other, or completes with Invalid Field where its length is
wrong; COMMAND_REPLY writes the reply of an earlier packet to the host buffer and completes with its length, or with
Invalid Field where there is none. -/
def Obligations.CommandRoutes : Prop :=
  ((∀ (s : State) (link tail : Nat), s.memReach (pf0 link) = true →
    idxCount (tail % 65536) (s.cmdq link).reqHead ≤ (s.cmdq link).slots →
    exec (.cmdqRequestDoorbell link tail) s = .next ((s.modCmdq link (fun q => { q with reqTail := tail % 65536 })).cmdqPump link))
  ∧ (∀ (s : State) (link tail : Nat), s.memReach (pf0 link) = true → (s.cmdq link).enable = true → (s.cmdq link).fetching = false →
    s.canIssue (pf0 link) = true → (s.cmdq link).stalled = false → tail % 65536 ≠ (s.cmdq link).reqHead →
    idxCount (tail % 65536) (s.cmdq link).reqHead ≤ (s.cmdq link).slots → s.tags = [] →
    s.ideBlocks (pf0 link) ((s.cmdq link).slotAddr (s.cmdq link).reqBase (s.cmdq link).reqHead) = false →
    Runs (.cmdqRequestDoorbell link tail) s fun t =>
      t.cmdq link = { s.cmdq link with reqTail := tail % 65536, fetching := true }
        ∧ (∃ k g, t.tags = [(k, g)] ∧ g.fn = pf0 link ∧ g.use = .command (s.cmdq link).reqHead ∧ g.remaining = (s.cmdq link).slotSize)
        ∧ t = { s with cmdqs := t.cmdqs, tags := t.tags })
  ∧ (∀ (s : State) (link tail : Nat), s.memReach (pf0 link) = true →
    (s.cmdq link).slots < idxCount (tail % 65536) (s.cmdq link).reqHead →
    exec (.cmdqRequestDoorbell link tail) s = .next (s.modCmdq link (fun q => { q with indexErr := true })))
  ∧ (∀ (s : State) (link head : Nat), s.memReach (pf0 link) = true →
    idxCount (s.cmdq link).rplTail (head % 65536) ≤ (s.cmdq link).slots →
    exec (.cmdqReplyHeadWrite link head) s = .next ((s.modCmdq link (fun q => { q with rplHead := head % 65536 })).cmdqPump link))
  ∧ (∀ (s : State) (link head : Nat), s.memReach (pf0 link) = true →
    (s.cmdq link).slots < idxCount (s.cmdq link).rplTail (head % 65536) →
    exec (.cmdqReplyHeadWrite link head) s = .next (s.modCmdq link (fun q => { q with indexErr := true })))
  ∧ (∀ (s : State) (link : Nat), s.memReach (pf0 link) = true → (s.cmdq link).enable = false →
    exec (.cmdqEnable link true) s = .next (s.modCmdq link (fun q =>
      { q with enable := true, reqTail := 0, reqHead := 0, rplHead := 0, rplTail := 0 })))
  ∧ (∀ (s : State) (link : Nat), s.memReach (pf0 link) = true → (s.cmdq link).enable = true →
    Runs (.cmdqEnable link false) s fun t => t = { s with cmdqs := t.cmdqs, tags := t.tags }
      ∧ t.cmdq link = { s.cmdq link with enable := false, fetching := false })
  ∧ (∀ (s : State) (link : Nat), s.memReach (pf0 link) = true → exec (.cmdqEnable link (s.cmdq link).enable) s = .next s)
  ∧ (∀ (s : State) (link : Nat), s.live link = true → (s.dieHealth link).pairRestarting = false → (s.cmdq link).fetching = true →
    s.canIssue (pf0 link) = true → (s.readOf (pf0 link) (.command (s.cmdq link).reqHead)).isSome = true →
    ∃ t p, s.fetchPacket link = some (t, p) ∧ exec (.commandPacketFetched link) s = .next (t.submitPacket p)
      ∧ p.route = .queue link (s.cmdq link).fetched ∧ p.sender = pf0 link
      ∧ (t.cmdq link).reqHead = ((s.cmdq link).reqHead + 1) % 65536 ∧ (t.cmdq link).fetched = (s.cmdq link).fetched + 1
      ∧ (t.cmdq link).replies = (s.cmdq link).replies ++ [((s.cmdq link).fetched, none, bit p.flags 1)])
  ∧ (∀ (s : State) (link i : Nat) (irq : Bool) (r : Reply) (rest : List (Nat × Option Reply × Bool)), s.canIssue (pf0 link) = true →
    (s.cmdq link).replyFull = false → (s.cmdq link).replies = (i, some r, irq) :: rest →
    exec (.commandReplyWrite link) s =
      let u := (s.hostWrite (pf0 link) ((s.cmdq link).slotAddr (s.cmdq link).rplBase (s.cmdq link).rplTail) r.bytes).setCmdq link
        { s.cmdq link with replies := rest, rplTail := ((s.cmdq link).rplTail + 1) % 65536 }
      .next ((if irq then u.msi (pf0 link) (s.cmdq link).vector else u).cmdqPump link)))
  ∧ ((∀ (s : State) (fn : Nat) (q : NvmeQueue) (b : List Byte), (s.dieHealth (mDie fn)).pairRestarting = false →
    s.nvmeHead fn 0 = some (q, b) → sqeOpcode b = 0xC1 → s.readOf fn (.packet (sqeCid b)) = none →
    exec (.commandPacket fn (sqeCid b) (leAt b 24 8) (sqeDw b 10)) s = .next ((s.issueRead fn (.packet (sqeCid b)) (sqeDw b 10)).getD s))
  ∧ (∀ (s : State) (fn : Nat) (q : NvmeQueue) (b : List Byte) (r : Nat × HostTag), (s.dieHealth (mDie fn)).pairRestarting = false →
    s.nvmeHead fn 0 = some (q, b) → sqeOpcode b = 0xC1 → s.readOf fn (.packet (sqeCid b)) = some r →
    let u := s.retireRead fn (.packet (sqeCid b))
    u.adminRuns fn q b →
    (sqeDw b 10 < 32 ∨ 4096 < sqeDw b 10 →
      exec (.commandPacket fn (sqeCid b) (leAt b 24 8) (sqeDw b 10)) s = .next ((u.nvmeTake fn 0 q).adminDone fn b 0 nvBadField))
    ∧ ∀ l, 32 ≤ sqeDw b 10 → sqeDw b 10 ≤ 4096 → (u.nvmeTake fn 0 q).hostRanges fn b (sqeDw b 10) = .ok l →
      (u.nvmeTake fn 0 q).fragsBlocked fn l = false →
      let p := packetOf (.admin fn (sqeCid b)) fn (mDie fn) ((u.nvmeTake fn 0 q).readFrags fn l)
      exec (.commandPacket fn (sqeCid b) (leAt b 24 8) (sqeDw b 10)) s = .next (if sqeDw b 10 = 32 + p.paramLen then (u.nvmeTake fn 0 q).submitPacket p
        else (u.nvmeTake fn 0 q).adminDone fn b 0 nvBadField))
  ∧ (∀ (s : State) (fn : Nat) (q : NvmeQueue) (b : List Byte), s.adminRuns fn q b → sqeOpcode b = 0xC2 →
    let u := s.nvmeTake fn 0 q
    ((u.nvme fn).replies.reverse.find? (fun e => e.1 == sqeDw b 10) = none →
      exec (.commandReply fn (sqeCid b) (sqeDw b 10) (leAt b 24 8) (sqeDw b 11)) s = .next (u.adminDone fn b 0 nvBadField))
    ∧ ∀ bs l, (u.nvme fn).replies.reverse.find? (fun e => e.1 == sqeDw b 10) = some (sqeDw b 10, bs) →
      u.hostRanges fn b (sqeDw b 11) = .ok l → u.fragsBlocked fn l = false →
      exec (.commandReply fn (sqeCid b) (sqeDw b 10) (leAt b 24 8) (sqeDw b 11)) s = .next ((u.writeFrags fn 0 l (replyCopy bs (sqeDw b 11))).adminDone fn b bs.length 0)))

/-- DEVICE_INFO and JOURNAL_QUERY answer at once, JOURNAL_MARK is recorded with its mark, JOURNAL_MIRROR_SET and CLEAR
are recorded and then start and stop the host mirror (R143-R146). A confirming read of a synchronous mirror releases
the replies that wait for its entry, a failed one suspends the mirror; a suspended mirror is retried and resumed when
its function can issue (R154-R156). -/
def Obligations.JournalAndMirror : Prop :=
  ((∀ (s : State) (p : Packet), s.takes (p.of 0x0001) → p.paramLen = 0 →
    exec (.deviceInfo p) s = .next (s.replied (p.of 0x0001) (toLe 4 s.chipIdent ++ toLe 4 s.bootStatus ++ toLe 4 s.pkgRoles
      ++ toLe 4 s.journal.bootId ++ toLe 3 p.sender ++ toLe 1 s.chain.address ++ toLe 2 1 ++ toLe 2 0 ++ toLe 8 s.journal.next)))
  ∧ (∀ (s : State) (p : Packet), s.takes (p.of 0x0002) → p.paramLen = 24 → leAt p.params 8 2 = 1 → leAt p.params 0x0A 2 = 0 →
    leAt p.params 0x0C 4 = 0 → leAt p.params 0x10 8 = 0 → mClass p.sender = 4 →
    ∀ (e : JEntry) (rest : List JEntry),
      s.journal.entries.filter (fun x => decide (max (leAt p.params 0 8) s.journal.first ≤ x.jsn)) = e :: rest →
    exec (.journalQuery p) s = .next (s.replied (p.of 0x0002) (toLe 8 s.journal.first ++ toLe 8 s.journal.next ++ toLe 4 1
      ++ toLe 4 0 ++ toLe 8 (e.jsn + 1) ++ e.bytes)))
  ∧ (∀ (s : State) (p : Packet), s.takesRecorded (p.of 0x0005) → p.paramLen = 8 →
    exec (.journalMark p) s = .next (s.recorded (p.of 0x0005) (p.params.take 4)))
  ∧ (∀ (s : State) (p : Packet), s.takesRecorded (p.of 0x0003) → p.paramLen = 16 → leAt p.params 1 1 < 2 → leAt p.params 2 6 = 0 →
    leAt p.params 0 1 = mDie p.sender → leAt p.params 8 8 ≠ 0 → leAt p.params 8 8 % 4096 = 0 → s.dieStatus (mDie p.sender) = none →
    exec (.journalMirrorSet p) s =
      let q := p.of 0x0003
      let r := State.startMirror p.params (s.recordCommand q stOk s.tempo.current [])
      .next (r.deliver q (q.reply stOk 0 s.journal.next r.tempo.current [])))
  ∧ (∀ (s : State) (p : Packet), s.takesRecorded (p.of 0x0004) → p.paramLen = 0 → s.journal.mirror ≠ .off →
    p.sender = pf0 s.journal.mirrorDie →
    exec (.journalMirrorClear p) s =
      let q := p.of 0x0004
      let r := (s.recordCommand q stOk s.tempo.current []).stopMirror
      .next (r.deliver q (q.reply stOk 0 s.journal.next r.tempo.current []))))
  ∧ ((∀ (s : State) (k n : Nat), s.journal.mirror = .active → s.mirrorReading = some (k, n) → s.journal.unconfirmed ≠ [] →
    exec (.mirrorConfirmRead true) s = .next (State.mirrorRead (State.releaseConfirmed { s with
      tags := Tbl.del s.tags k, journal := { s.journal with unconfirmed := s.journal.unconfirmed.drop 1 } })))
  ∧ (∀ s : State, s.releaseConfirmed = (s.journal.waiting.filter (fun w => !decide (w.2.jsn ∈ s.journal.unconfirmed))).foldl
      (fun s w => s.sendReply w.1 w.2) { s with journal := { s.journal with
        waiting := s.journal.waiting.filter (fun w => decide (w.2.jsn ∈ s.journal.unconfirmed)) } })
  ∧ (∀ (s : State) (good : Bool), s.mirrorReading = none → exec (.mirrorConfirmRead good) s = .next s.mirrorRead)
  ∧ (∀ (s : State) (k n : Nat), s.journal.mirror = .active → s.mirrorReading = some (k, n) → s.journal.unconfirmed ≠ [] →
    Runs (.mirrorConfirmRead false) s fun t => t.journal.mirror = .suspended ∧ t.journal.confirmFailed = true
      ∧ t.journal.waiting = [] ∧ t.journal.unconfirmed = [] ∧ t.journal.entries = s.journal.entries ∧ t.like s)
  ∧ (∀ s : State, s.journal.mirror = .suspended → s.journal.confirmFailed = true → s.mirrorCan = true →
    Runs .mirrorRetry s fun t =>
      t = { s with mem := s.mirrorFlush.mem, tags := t.tags, journal := { s.journal with unconfirmed := [] } })
  ∧ (∀ s : State, s.journal.mirror = .suspended → s.journal.confirmFailed = false → s.mirrorCan = true →
    exec .mirrorResume s =
      let f := s.mirrorFlush
      .next (({ f with journal := { f.journal with mirror := .active, confirmFailed := false } }).firmwareEntry eventMirrorActive)))

/-- PROPOSE checks a change and holds it with a fresh nonce and the digest of its parameters, PENDING from the host
party and PROPOSED from the chain head; the authority's statement makes a PROPOSED one PENDING and is answered OK (log
99); a query answers without a record (its layout is the model's, log 13); a live one is withdrawn at its proposer's
word and expires at its deadline (R58, R166-R170). The host party's endorsement of the authority's PENDING proposal,
with its nonce and digest, commits the change; a wrong nonce counts SIG_FAILS and the fourth failure withdraws the
proposal; a change whose object has changed since the proposal fails with CONFLICT (R172, R173, R175, R176). -/
def Obligations.DualControl : Prop :=
  ((∀ (s : State) (p : Packet) (good : SigResult), s.takesRecorded (p.of 0x0C01) → 8 ≤ p.params.length → leAt p.params 3 1 = 0 →
    leAt p.params 4 4 = (p.params.drop 8).length → s.boot.fuses.lifecycle ≠ .manufacture →
    s.proposeRefused (p.of 0x0C01) (leAt p.params 0 2) (leAt p.params 2 1) = none →
    s.checkChange (leAt p.params 0 2) (leAt p.params 2 1) (p.params.drop 8) = none → s.protect.live < 16 →
    let n := s.protect.nextProposal
    let nonce := (s.draw 128).1
    let digest := le (sha256 p.params)
    let q : Proposal :=
      { kind := leAt p.params 0 2, scope := leAt p.params 2 1, params := p.params, nonce := nonce, digest := digest,
        state := if mClass p.sender = 4 then .proposed else .pending, byAuthority := decide (mClass p.sender = 4),
        deadline := s.leadTick + 60 * ticksPerSec, sourceDie := s.roles.lead,
        objCount := Tbl.look 0 s.protect.counts (objectOf (leAt p.params 0 2) (leAt p.params 2 1) (p.params.drop 8)), fails := 0 }
    exec (.propose ⟨p, good⟩) s = .next (({ s with
      freeCtr := s.freeCtr + 1,
      protect := { s.protect with
        nextProposal := n + 1, proposals := keepProposals (Tbl.set s.protect.proposals n q) } } : State).recordedAs
      (p.of 0x0C01) stNeedsEndorsement (toLe 4 n ++ toLe 4 60000 ++ toLe 16 nonce ++ toLe 32 digest)))
  ∧ (∀ (s : State) (p : Packet) (good : SigResult) (q : Proposal), s.takesRecorded (p.of 0x0C02) → mClass p.sender = 4 →
    Tbl.find s.protect.proposals (leAt p.params 8 4) = some q → q.state = .proposed → s.leadTick < q.deadline →
    s.statementValid p.params good = true → leAt p.params 4 1 = 1 →
    exec (.authorityConfirm p good) s =
      .next ((s.setProposal (leAt p.params 8 4) { q with state := .pending }).recorded (p.of 0x0C02) []))
  ∧ (∀ (s : State) (p : Packet) (q : Proposal), s.takes (p.of 0x0C03) → Tbl.find s.protect.proposals (leAt p.params 0 4) = some q →
    q.state = .committed → q.kind = 2 →
    exec (.proposalQuery p) s = .next (s.replied (p.of 0x0C03) (toLe 4 (leAt p.params 0 4) ++ toLe 1 2 ++ toLe 1 (b2n q.byAuthority)
      ++ toLe 2 0 ++ toLe 4 0 ++ toLe 4 q.params.length ++ toLe 16 q.nonce ++ toLe 32 q.digest ++ q.params)))
  ∧ (∀ (s : State) (p : Packet) (good : SigResult) (q : Proposal), s.takesRecorded (p.of 0x0C04) → mClass p.sender ≠ 4 →
    Tbl.find s.protect.proposals (leAt p.params 0 4) = some q → q.state = .pending → s.leadTick < q.deadline →
    p.params.length = 24 → leAt p.params 4 4 = 0 → p.sender = s.hostParty q.kind q.scope → leAt p.params 8 16 = q.nonce →
    exec (.proposalWithdraw p good) s =
      .next ((s.setProposal (leAt p.params 0 4) { q with state := .withdrawn }).recorded (p.of 0x0C04) []))
  ∧ (∀ (s : State) (n : Nat) (q : Proposal), Tbl.find s.protect.proposals n = some q → q.state = .proposed ∨ q.state = .pending →
    q.deadline ≤ s.leadTick → exec (.proposalExpiry n) s = .next (s.setProposal n { q with state := .expired }))
  ∧ (∀ (s : State) (n : Nat) (q : Proposal), Tbl.find s.protect.proposals n = some q → q.state = .committed ∨ s.leadTick < q.deadline →
    exec (.proposalExpiry n) s = .next s)
  ∧ (∀ (s : State) (n : Nat), s.protect.debugUntil = some n → n ≤ s.leadTick → exec .debugUnlockExpiry s =
      .next { s with protect := { s.protect with debugUntil := none } })
  ∧ (∀ (s : State) (n : Nat), s.protect.debugUntil = some n → s.leadTick < n → exec .debugUnlockExpiry s = .next s))
  ∧ ((∀ (s : State) (p : Packet) (good : SigResult) (q : Proposal) (n : Nat), s.takesRecorded (p.of 0x0C02) → mClass p.sender ≠ 4 →
    n = leAt p.params 0 4 → Tbl.find s.protect.proposals n = some q → q.state = .pending → s.leadTick < q.deadline →
    p.params.length = 56 → leAt p.params 4 4 = 0 → p.sender = s.hostParty q.kind q.scope →
    q.byAuthority = true → leAt p.params 8 16 = q.nonce →
    leAt p.params 24 32 = q.digest → q.kind = 8 → checkUnlock (q.params.drop 8) = none →
    Tbl.look 0 s.protect.counts (objectOf 8 q.scope (q.params.drop 8)) = q.objCount →
    Runs (.endorse p good) s fun t =>
      t.protect.debugUntil = some (s.leadTick + leAt (q.params.drop 8) 0 4 * ticksPerSec)
        ∧ t.protect.proposals = keepProposals (Tbl.set s.protect.proposals n { q with state := .committed })
        ∧ t.like ({ s with protect := t.protect } : State))
  ∧ (∀ (s : State) (p : Packet) (good : SigResult) (q : Proposal) (n : Nat), s.takesRecorded (p.of 0x0C02) → mClass p.sender ≠ 4 →
    n = leAt p.params 0 4 → Tbl.find s.protect.proposals n = some q → q.state = .pending → s.leadTick < q.deadline →
    p.params.length = 56 → leAt p.params 4 4 = 0 → p.sender = s.hostParty q.kind q.scope →
    q.byAuthority = true → leAt p.params 8 16 = q.nonce →
    leAt p.params 24 32 = q.digest → q.kind = 2 → checkMbxBind (q.params.drop 8) = none →
    Tbl.look 0 s.protect.counts (objectOf 2 q.scope (q.params.drop 8)) = q.objCount →
    exec (.endorse p good) s = .next ((((s.applyMbxBind q.scope (q.params.drop 8)).setProposal n
      { q with state := .committed }).countChange (objectOf 2 q.scope (q.params.drop 8))).recorded (p.of 0x0C02) []))
  ∧ (∀ (s : State) (p : Packet) (good : SigResult) (q : Proposal) (n : Nat), s.takesRecorded (p.of 0x0C02) → mClass p.sender ≠ 4 →
    n = leAt p.params 0 4 → Tbl.find s.protect.proposals n = some q → q.state = .pending → s.leadTick < q.deadline →
    p.params.length = 56 → leAt p.params 4 4 = 0 → p.sender = s.hostParty q.kind q.scope →
    q.byAuthority = true → leAt p.params 8 16 ≠ q.nonce →
    exec (.endorse p good) s = .next (((s.sigFail n true)).recordedAs (p.of 0x0C02) stNotPermitted []))
  ∧ (∀ (s : State) (n : Nat) (q : Proposal), Tbl.find s.protect.proposals n = some q → q.state = .pending → q.fails = 3 →
    (s.sigFail n true).protect.sigFails = min 0xFFFF (s.protect.sigFails + 1)
      ∧ (s.sigFail n true).protect.proposals = keepProposals (Tbl.set s.protect.proposals n { q with fails := 4, state := .withdrawn }))
  ∧ (∀ (t : Tbl Proposal) (n : Nat) (q : Proposal), t.length ≤ 256 → Tbl.find t n = some q → Tbl.find (keepProposals t) n = some q)
  ∧ (∀ (t : Tbl Proposal) (n : Nat) (q : Proposal), (t.map (fun e => e.1)).Nodup → Tbl.find t n = some q →
    q.state = .proposed ∨ q.state = .pending → Tbl.find (keepProposals t) n = some q)
  ∧ (∀ (s : State) (p : Packet) (n : Nat) (q : Proposal) (good : SigResult),
    Tbl.look 0 s.protect.counts (objectOf q.kind q.scope (q.params.drop 8)) ≠ q.objCount →
    (s.commitProposal p n q good).status = some stConflict
      ∧ (s.commitProposal p n q good).state = s.setProposal n { q with state := .failed }))

/-- PORT_SET_MODE replaces a group's ports, PORT_QUERY answers the port's registers, PORT_SET_LANES sets the selected
groups and takes the link down for a change of the physical layer, PORT_SET_FILTER stages the filter (R183-R186,
R199). Negotiation resolves a speed, a time-out starts it over, training brings the link up and a spare lane in use is
recorded, a link that goes down starts over, a failed lane retires onto the spare where it can, and preemption is
verified by at most three requests (R187-R196, R200). -/
def Obligations.PortsAndLinks : Prop :=
  ((∀ (s : State) (p : Packet), s.takesRecorded (p.of 0x0301) → p.paramLen = 8 → s.dieStatus (leAt p.params 0 1) = none →
    leAt p.params 1 1 ≤ 1 → 1 ≤ leAt p.params 2 1 → leAt p.params 2 1 ≤ 4 → (leAt p.params 2 1 = 1 → leAt p.params 1 1 = 0) →
    leAt p.params 3 1 = 0 → (∀ i, i < 4 → leAt p.params (4 + i) 1 = 0) → (s.portBlock (leAt p.params 0 1)).layout0 ≠ 1 →
    exec (.portSetMode p) s = .next ((s.applyLayout (leAt p.params 0 1) (leAt p.params 1 1) (leAt p.params 2 1)
      [0, 0, 0, 0]).recorded (p.of 0x0301) []))
  ∧ (∀ (s : State) (die : Nat), (∀ i, i < 8 → (s.port (8 * die + i)).present = false) → die < 8 →
    let t := s.applyLayout die 0 1 [0, 0, 0, 0]
    (t.port (8 * die)).present = true ∧ (t.port (8 * die)).lanes = 8 ∧ (t.port (8 * die)).ceiling = 7
      ∧ (t.port (8 * die)).phase = .negotiating ∧ (∀ i, 1 ≤ i → i < 8 → (t.port (8 * die + i)).present = false)
      ∧ (t.portBlock die).layout0 = 1)
  ∧ (∀ (s : State) (p : Packet), s.takes (p.of 0x0302) → p.paramLen = 4 → leAt p.params 1 3 = 0 →
    s.portStatusOf (leAt p.params 0 1) = none →
    let q := s.port (leAt p.params 0 1)
    exec (.portQuery p) s = .next (s.replied (p.of 0x0302) (toLe 4 (s.portStatus (leAt p.params 0 1)) ++ toLe 4 q.cfg.written.code
      ++ toLe 4 q.preempt.written.code ++ toLe 4 q.preemptStatus ++ toLe 8 q.pfc.written.code
      ++ toLe 4 (s.spareStatus (leAt p.params 0 1 / 8)) ++ toLe 4 0)))
  ∧ (∀ (s : State) (p : Packet), s.takesRecorded (p.of 0x8301) → p.paramLen = 24 → leAt p.params 1 1 = 2 → leAt p.params 0x0B 1 = 0 →
    s.portStatusOf (leAt p.params 0 1) = none → 1518 ≤ leAt p.params 8 2 → leAt p.params 8 2 ≤ 9216 → leAt p.params 0x0A 1 = 1 →
    (s.port (leAt p.params 0 1)).phase = .up →
    exec (.portSetLanes p) s = .next ((s.modPort (leAt p.params 0 1) (fun q => { q with
      macTx := false
      cfg := { q.cfg with written := { q.cfg.written with maxFrame := leAt p.params 8 2, udp6ZeroOk := true } } })).recorded
        (p.of 0x8301) []))
  ∧ (∀ (s : State) (p : Packet), s.takesRecorded (p.of 0x8301) → p.paramLen = 24 → leAt p.params 1 1 = 1 → leAt p.params 0x0B 1 = 0 →
    s.portStatusOf (leAt p.params 0 1) = none → (s.port (leAt p.params 0 1)).phyGood p.params = true → leAt p.params 5 1 = 0 →
    let port := leAt p.params 0 1
    Runs (.portSetLanes p) s fun t => (t.port port).phase ≠ .up ∧ (t.port port).anForced = (leAt p.params 2 1 == 1)
      ∧ (t.port port).forcedSpeed = leAt p.params 3 1 ∧ (t.port port).fecChoice = leAt p.params 4 1 ∧ (t.port port).spareEn = false
      ∧ (t.port port).serExp = leAt p.params 7 1 ∧ (∀ k, k ≠ port → t.port k = s.port k)
      ∧ t.like ({ s with ports := t.ports, portBlocks := t.portBlocks } : State))
  ∧ (∀ (s : State) (p : Packet), s.takesRecorded (p.of 0x8302) → p.paramLen = 12 → leAt p.params 1 1 = 7 → leAt p.params 2 1 < 64 →
    leAt p.params 3 1 = 1 → leAt p.params 4 8 < 2 ^ 49 → s.portStatusOf (leAt p.params 0 1) = none →
    (s.port (leAt p.params 0 1)).phase = .up →
    exec (.portSetFilter p) s = .next ((s.modPort (leAt p.params 0 1) (fun q =>
      { q with
        cfg := { q.cfg with written := { q.cfg.written with filterMode := true, acceptBcast := true, acceptMcast := true } },
        filter := { q.filter with written := Tbl.put 0 q.filter.written (leAt p.params 2 1) (leAt p.params 4 8) } })).recorded
      (p.of 0x8302) [])))
  ∧ ((∀ (s : State) (port speed fec : Nat), s.live (port / 8) = true → (s.port port).present = true →
    (s.port port).phase = .negotiating → (s.port port).speedFits speed = true →
    exec (.autoNegotiation port speed fec none) s = .next (s.setPort port { s.port port with
      phase := .training, speed := speed, fec := (s.port port).fecFor speed fec, anDone := true, sparingAvailable := false,
      retireLane := none }))
  ∧ (∀ (s : State) (port : Nat), s.live (port / 8) = true → (s.port port).present = true → (s.port port).phase = .training →
    (s.port port).anForced = false →
    exec (.autoNegotiationTimeout port) s = .next (s.setPort port { s.port port with
      phase := .negotiating, speed := 0, anDone := false, sparingAvailable := false }))
  ∧ (∀ (s : State) (port : Nat), s.live (port / 8) = true → (s.port port).present = true → (s.port port).phase = .training →
    (s.port port).retireLane = none → s.synce.outEnable = false →
    exec (.portLinkUp port) s = .next (s.setPort port { s.port port with
      phase := .up, txSynce := (s.port port).wantSynce && !s.synce.refLost, retireLane := none, verifyTries := 0 }))
  ∧ (∀ (s : State) (port l : Nat), s.live (port / 8) = true → (s.port port).present = true → (s.port port).phase = .training →
    (s.port port).retireLane = some l → s.synce.outEnable = false → (s.portBlock (port / 8)).spareInUse = false →
    Runs (.portLinkUp port) s fun t =>
      (t.port port).phase = .up ∧ (t.port port).retireLane = none ∧ (t.portBlock (port / 8)).spareInUse = true
        ∧ (t.portBlock (port / 8)).spareFor = port ∧ (t.portBlock (port / 8)).replacedLane = port % 8 + l
        ∧ (∃ e ∈ t.errors.latched, e.cause = 0x0201 ∧ e.die = port / 8 ∧ e.unit = port)
        ∧ t = { s with ports := t.ports, portBlocks := t.portBlocks, errors := t.errors })
  ∧ (∀ (s : State) (port l : Nat), s.live (port / 8) = true → (s.port port).present = true → (s.port port).phase = .training →
    (s.port port).retireLane = some l → s.synce.outEnable = false → (s.portBlock (port / 8)).spareInUse = true →
    (s.portBlock (port / 8)).spareFor = port → (s.portBlock (port / 8)).replacedLane = port % 8 + l →
    exec (.portLinkUp port) s = .next (s.setPort port { s.port port with
      phase := .up, txSynce := (s.port port).wantSynce && !s.synce.refLost, retireLane := none, verifyTries := 0 }))
  ∧ (∀ (s : State) (port : Nat), s.live (port / 8) = true → (s.port port).present = true → (s.port port).anForced = false →
    s.synce.outEnable = false → Runs (.portLinkDown port) s fun t =>
      (t.port port).phase = .negotiating ∧ (t.port port).speed = 0 ∧ (t.port port).paused = 0 ∧ (t.port port).partialRx = none
        ∧ (∀ k, k ≠ port → t.port k = s.port k) ∧ t = { s with ports := t.ports })
  ∧ (∀ (s : State) (die lane port : Nat), s.live die = true → lane < 8 → s.portOfLane die lane = some port →
    (s.port port).phase = .up → (s.port port).sparingAvailable = true → (s.port port).anForced = false →
    (s.portBlock (port / 8)).spareInUse = false →
    exec (.laneFailure die lane) s =
      .next ((s.modPort port (fun p => { p with retireLane := some (lane - port % 8) })).portDown port))
  ∧ (∀ (s : State) (die lane port : Nat), s.live die = true → lane < 8 → s.portOfLane die lane = some port →
    (s.port port).phase = .up → (s.port port).sparingAvailable = false ∨ (s.port port).anForced = true →
    exec (.laneFailure die lane) s =
      .next ((s.raise 0x0202 sevContained 0 (port / 8) port (port % 8 + (lane - port % 8)) 0).portDown port))
  ∧ (∀ (s : State) (port : Nat), s.live (port / 8) = true → (s.port port).phase = .up → (s.port port).verify = .verifying →
    (s.port port).preempt.inEffect.enable = true → (s.port port).preempt.inEffect.verifyDisable = false →
    exec (.preemptVerify port true) s = .next (s.setPort port { s.port port with verify := .succeeded })
    ∧ ((s.port port).verifyTries = 3 →
        exec (.preemptVerify port false) s = .next (s.setPort port { s.port port with verify := .failed }))
    ∧ ((s.port port).verifyTries < 3 → exec (.preemptVerify port false) s = .next ((s.setPort port { s.port port with
        verify := .verifying, verifyTries := (s.port port).verifyTries + 1 }).emit (.verify port)))))

/-- Reception at a port (R197-R203, R214, R219): a good frame that fits is counted and joins the admission queue with
its cells, its ingress stamp and its address match; a runt and a bad frame are counted and dropped; a first fragment
starts a preemptable frame. Cells are found where the shared pool has them, and the books balance. -/
def Obligations.FrameReception : Prop :=
  (∀ (s : State) (port : Nat) (f : List Byte), s.live (port / 8) = true → (s.port port).present = true → (s.port port).phase = .up →
    f.length < 60 →
    exec (.frameReceive port f true .express) s = .next ((if port = 8 * s.boot.numberMask then
      (s.modPort port Port.rxSafe).wakeCheck f else s.modPort port Port.rxSafe).portStat port 0x030 1)
    ∧ exec (.frameReceive port f false .express) s = .next ((s.modPort port Port.rxSafe).portStat port 0x038 1))
  ∧ (∀ (s : State) (port : Nat) (f : List Byte), s.live (port / 8) = true → (s.port port).present = true → (s.port port).phase = .up →
    60 ≤ f.length →
    exec (.frameReceive port f false .express) s = .next ((s.modPort port Port.rxSafe).portStat port
      (if f.length + 4 ≤ (s.port port).rxSafe.cfg.inEffect.maxFrame then 0x028 else 0x048) 1))
  ∧ (∀ (s : State) (port : Nat) (f : List Byte), s.live (port / 8) = true → (s.port port).present = true → (s.port port).phase = .up →
    60 ≤ f.length → (s.port port).rxSafe.cfg.inEffect.maxFrame < f.length + 4 → port ≠ 8 * s.boot.numberMask →
    exec (.frameReceive port f true .express) s = .next ((s.modPort port Port.rxSafe).portStat port 0x040 1))
  ∧ (∀ (s t : State) (port : Nat) (f : List Byte), s.live (port / 8) = true → (s.port port).present = true →
    (s.port port).phase = .up → 60 ≤ f.length → f.length + 4 ≤ (s.port port).rxSafe.cfg.inEffect.maxFrame → isPause f = false →
    port ≠ 8 * s.boot.numberMask → (s.port port).rxSafe.cfg.inEffect.filterMode = false →
    let u := s.modPort port Port.rxSafe
    let r := u.countGood port f
    (r.port port).admitted < (r.port port).admitLimit →
    r.findCells (port / 8) (ingOfPort port f) (cellsFor f.length) = (t, true) →
    exec (.frameReceive port f true .express) s = .next (t.modPort port (fun p => { p with admission := p.admission ++
      [{ bytes := f, macMatch := (s.port port).rxSafe.rules.macMatch f, stamp := (u.ingressStamp port).1,
         tick := (u.ingressStamp port).2 }] })))
  ∧ (∀ (s : State) (port : Nat) (f : List Byte), s.live (port / 8) = true → (s.port port).present = true →
    (s.port port).phase = .up → 60 ≤ f.length → f.length + 4 ≤ (s.port port).rxSafe.cfg.inEffect.maxFrame → isPause f = false →
    port ≠ 8 * s.boot.numberMask → (s.port port).rxSafe.cfg.inEffect.filterMode = true →
    (s.port port).rxSafe.rules.macMatch f = 127 →
    exec (.frameReceive port f true .express) s = .next (((s.modPort port Port.rxSafe).countGood port f).portStat port 0x050 1))
  ∧ (∀ (s : State) (port n : Nat) (f : List Byte), s.live (port / 8) = true → (s.port port).present = true →
    (s.port port).phase = .up → (s.port port).partialRx = none →
    let u := (s.modPort port (fun p => { p with partialRx := none })).modPort port Port.rxSafe
    let q : PartialRx :=
      { count := n % 4, next := 0, bytes := f, rules := (u.port port).rules, stamp := (u.ingressStamp port).1,
        tick := (u.ingressStamp port).2 }
    exec (.frameReceive port f true (.start n false)) s =
      .next ((u.modPort port (fun p => { p with partialRx := some q })).portStat port 0x208 1))
  ∧ (∀ (s : State) (port n k : Nat) (f : List Byte) (q : PartialRx), s.live (port / 8) = true → (s.port port).present = true →
    (s.port port).phase = .up → (s.port port).partialRx = some q →
    (q.count = n % 4 → q.next = k % 4 →
      let q' : PartialRx := { q with next := (q.next + 1) % 4, bytes := q.bytes ++ f }
      exec (.frameReceive port f true (.continue n k false)) s =
        .next ((s.modPort port (fun p => { p with partialRx := some q' })).portStat port 0x208 1))
    ∧ (q.count ≠ n % 4 ∨ q.next ≠ k % 4 →
      exec (.frameReceive port f true (.continue n k false)) s =
        .next ((s.modPort port (fun p => { p with partialRx := none })).portStat port 0x218 1)))
  ∧ (∀ (s : State) (die : Nat) (key : Nat), s.cellsBalance die → 4 ≤ s.sharedFree die →
    (s.findCells die key 4).2 = true ∧ (s.findCells die key 4).1.cellsBalance die
      ∧ ((s.findCells die key 4).1.tm die).free + 4 = (s.tm die).free)

/-- A pause expires or is released, the PFC watchdog stops honouring a pause and records it, and a pause still asked
for is sent again (R207-R210). Loss of the SyncE reference stops every port using it and is recorded, its return
resumes those that want it, a snapshot copies the counters, a clear zeroes them, and a wake frame that matches wakes
the links in D3cold it names (R211-R217). -/
def Obligations.PortServices : Prop :=
  ((∀ (s : State) (port cls : Nat), cls < 8 →
    exec (.pauseExpiry port cls) s = .next (s.modPort port (fun p => { p with paused := setBit p.paused cls false })))
  ∧ (∀ (s : State) (port cls : Nat), s.live (port / 8) = true → cls < 8 → bit (s.port port).paused cls = true →
    bit (s.port port).tripped cls = false → (s.port port).pfc.inEffect.watchdogMs ≠ 0 →
    Runs (.pfcWatchdogTrip port cls) s fun t => bit (t.port port).tripped cls = true ∧ bit (t.port port).paused cls = false
      ∧ (∃ e ∈ t.errors.latched, e.cause = 0x0203 ∧ e.unit = port ∧ e.die = port / 8)
      ∧ (∀ k, k ≠ port → t.port k = s.port k) ∧ t = { s with ports := t.ports, errors := t.errors })
  ∧ (∀ (s : State) (port cls : Nat), cls < 8 →
    exec (.pfcWatchdogRelease port cls) s = .next (s.modPort port (fun p => { p with tripped := setBit p.tripped cls false })))
  ∧ (∀ (s : State) (port : Nat), s.live (port / 8) = true → (s.port port).phase = .up → (s.port port).pauseReq = 1 →
    (s.port port).txSafe.pfc.inEffect.mode = 2 → bit (s.port port).txSafe.pfc.inEffect.txAllow 0 = true →
    exec (.pauseRefresh port) s = .next (((((s.clearLine port true).modPort port Port.txSafe).countSent port 64 8).portStat port
      0x130 1).emit (.pause port 1 0xFFFF))))
  ∧ ((∀ s : State, s.synce.refLost = false → s.ready = true → Runs .synceRefLoss s fun t =>
    t.synce = { s.synce with refLost := true } ∧ (∀ k, (t.port k).txSynce = false)
      ∧ (∃ e ∈ t.errors.latched, e.cause = 0x0204 ∧ e.die = s.roles.lead)
      ∧ t = { s with synce := t.synce, ports := t.ports, errors := t.errors })
  ∧ (∀ s : State, Runs .synceRefReturn s fun t => t.synce = { s.synce with refLost := false }
    ∧ t = { s with synce := t.synce, ports := t.ports } ∧ t.ports = s.ports.map (fun e =>
        (e.1, { e.2 with txSynce := e.2.present && e.2.wantSynce })))
  ∧ (∀ (s : State) (port : Nat), s.memReach (pf0 (port / 8)) = true →
    exec (.statsSnapshot port) s = .next (s.modPort port (fun p => { p with snap := s.statsNow port, snapValid := true })))
  ∧ (∀ (s : State) (port : Nat), s.memReach (pf0 (port / 8)) = true →
    exec (.statsClear port) s = .next (s.modPort port (fun p => { p with stats := [] })))
  ∧ (∀ (s : State) (f : List Byte), s.boot.vaux = true → s.boot.vin = false → s.synce.wakeEnable = true →
    leAt f 0 6 = s.synce.wakeAddr →
    beAt f 12 2 = 0x88B5 → leAt f 14 8 = s.synce.wakePattern → Runs (.wakeFrame f) s fun t => t = { s with links := t.links }
      ∧ ∀ d, d < s.dieCount → t.link d =
          if bit s.synce.wakeFrameLinks d = true ∧ (s.link d).d3cold = true then { s.link d with wakeFrame := true } else s.link d)
  ∧ (∀ (s : State) (f : List Byte), s.boot.vin = false → leAt f 14 8 ≠ s.synce.wakePattern → exec (.wakeFrame f) s = .next s)
  ∧ (∀ (s : State) (f : List Byte), s.boot.vaux = true → s.boot.vin = true →
    let port := 8 * s.boot.numberMask
    s.live (port / 8) = true → (s.port port).present = true → (s.port port).phase = .up →
    exec (.wakeFrame f) s = .next (s.frameNow port f true)))

/-- P0 grants the next port in turn that has a frame waiting, P1 the next source; the frame enters as one packet in
flight that carries the current tempo and bank, and its queue loses it (R218, R221, R310). The result of a flow read
goes into the cache and to the packets that wait for its key, one that cannot be corrected is an ECC_FAULT, and a read
of a key written meanwhile is made again (R240, R244, R245, R248). -/
def Obligations.AdmissionAndFlowReads : Prop :=
  ((∀ (s : State) (die i : Nat) (f : RxFrame) (rest : List RxFrame), s.live die = true → s.holdUsed die 0 < 4096 →
    s.nextPort die = some i → (s.port (8 * die + i)).admission = f :: rest →
    let t := (s.modPortBlock die (fun b => { b with rotor := (i + 1) % 8 })).modPort (8 * die + i) (fun p => { p with admission := rest })
    exec (.packetAdmit die 0 []) s = .next (t.enterPipe die 0 []
      { sourceKind := 0, sourceId := 8 * die + i, tc := none, bytes := f.bytes, macMatch := f.macMatch, stamp := f.stamp,
        inTick := f.tick, tx := none, cells := cellsFor f.bytes.length, ing := some (ingOfPort (8 * die + i) f.bytes),
        zeroOk := (t.port (8 * die + i)).cfg.inEffect.udp6ZeroOk }))
  ∧ (∀ (s : State) (die k : Nat) (f : P1Frame), s.live die = true → s.holdUsed die 1 < 4096 → (s.pipe die).nextSource = some k →
    (s.pipe die).p1Queue.find? (fun f => f.source == k) = some f → f.chan = none →
    exec (.packetAdmit die 1 []) s = .next ((s.modPipe die (fun p =>
      { p with p1Queue := eraseFirst (fun f => f.source == k) p.p1Queue, p1Last := k })).enterPipe die 1 []
      { sourceKind := f.sourceKind, sourceId := f.sourceId, tc := some f.tc, bytes := f.bytes, macMatch := 127, stamp := f.stamp,
        inTick := f.inTick, tx := f.tx, cells := f.cells, ing := f.ing, zeroOk := true }))
  ∧ (∀ (s : State) (die pipe : Nat) (f : Entrant), pipe < 2 → Tbl.find s.flight s.nextPkt = none →
    let t := s.enterPipe die pipe [] f
    (∃ k, Tbl.find t.flight s.nextPkt = some k ∧ k.die = die ∧ k.pipe = pipe ∧ k.tempo = s.tempo.current ∧ k.bank = s.tempo.bank
      ∧ k.original = f.bytes ∧ k.frame = f.bytes ∧ k.cells = f.cells ∧ k.verdict.dest = 0)
      ∧ t.nextPkt = s.nextPkt + 1 ∧ t.tms = s.tms ∧ t.ports = s.ports))
  ∧ ((∀ (s : State) (die : Nat) (t : Nat) (key : List Byte), s.live die = true → (s.pipe die).flowReads = [(t, key, false)] →
    let p1 := { s.pipe die with flowReads := [] }.cachePut t key (!(s.pipe die).holdsKey t key) false
    s.flight = [] → exec (.flowReadResult die (0, false)) s = .next (s.setPipe die p1))
  ∧ (∀ (s : State) (die i : Nat) (t n : Nat) (ns : List Nat) (key : List Byte) (k : FlightPkt), s.live die = true →
    (s.pipe die).flowReads = [(t, key, false)] → s.flight = [(i, k)] → k.die = die → k.waitsFor t key = n :: ns →
    Runs (.flowReadResult die (0, false)) s fun u =>
      u.flight = [(i, k.gotFlow (n :: ns) ((s.pipe die).versionAt t key k.tempo) false)]
        ∧ (u.pipe die).flowReads = [] ∧ (u.pipe die).entries = (s.pipe die).entries
        ∧ u = { s with flight := u.flight, pipes := u.pipes })
  ∧ (∀ (s : State) (die i : Nat) (t n : Nat) (ns : List Nat) (key : List Byte) (k : FlightPkt) (e : TEntry), s.live die = true →
    (s.pipe die).flowReads = [(t, key, false)] → s.flight = [(i, k)] → k.die = die → k.waitsFor t key = n :: ns →
    (s.pipe die).versionAt t key k.tempo = some e →
    Runs (.flowReadResult die (0, true)) s fun u => u.flight = [(i, k.gotFlow (n :: ns) (some e) true)]
      ∧ (u.pipe die).entries = (s.pipe die).entries ∧ (∃ x ∈ u.errors.latched, x.cause = 0x0301 ∧ x.die = die ∧ x.unit = t)
      ∧ u = { s with flight := u.flight, pipes := u.pipes, errors := u.errors })
  ∧ (∀ (s : State) (die : Nat) (t : Nat) (key : List Byte) (d : TableDecl) (bad : Bool), s.live die = true →
    (s.pipe die).flowReads = [(t, key, true)] → s.flight = [] → (s.bankOf s.tempo.bank).table? (s.dramOf die) t = some d →
    exec (.flowReadResult die (0, bad)) s = .next (s.setPipe die
      ({ s.pipe die with flowReads := [(t, key, false)] }.countReads 0 (flowSlots d.capacity) t key))))

/-- An action program (R274-R307) runs from the packet's own bank and its end sends the packet on or drops it; a bank
with no entry for the pipeline drops the packet as UNDEFINED, a word of action memory that cannot be corrected drops
it as ACTION_ECC and is recorded, and a dropped packet's cells stay in the books. -/
def Obligations.ActionPrograms : Prop :=
  (∀ (s : State) (id : Nat) (k : FlightPkt), Tbl.find s.flight id = some k → s.live k.die = true → s.programMayStart id k = true →
    s.counterWaits k.die = false →
    let a := s.programOn k
    a.cipher = none ∨ s.cipherQueue k.die k.pipe < 2048 → exec (.actionProgram id none) s = .next (a.finish id))
  ∧ (∀ (s : State) (id : Nat) (k : FlightPkt), Tbl.find s.flight id = some k → s.live k.die = true → s.programMayStart id k = true →
    s.counterWaits k.die = false →
    (s.bankOf k.bank).standard = false → Tbl.look 0 (s.bankOf k.bank).entryTable k.pipe = 0 →
    exec (.actionProgram id none) s = .next (s.dropInFlight id k k.cells drUndefined))
  ∧ (∀ (s : State) (id place : Nat) (k : FlightPkt), Tbl.find s.flight id = some k → s.live k.die = true →
    s.programMayStart id k = true →
    s.counterWaits k.die = false → place < policerWord →
    exec (.actionProgram id (some place)) s =
      .next ((s.raise 0x0302 sevDegraded 0 k.die 0 place 0).dropInFlight id k k.cells drActionEcc))
  ∧ (∀ (s : State) (id : Nat) (k : FlightPkt) (code : Nat), k.tx = none → s.cellsBalance k.die → k.cells ≤ (s.tm k.die).pipeline →
    (s.dropInFlight id k k.cells code).cellsBalance k.die)

/-- The oldest learn request and the oldest TCAM write of a die are made or discarded, and counted; an entry that
could not be corrected is deleted when it came from the data plane, and kept when firmware rewrites it (R240,
R256-R258). A missed counter line is read and the line it takes the place of is written back, no pair losing an
increment, a sweep refills every policer to the present clock, never above its burst sizes, and the color-blind meters
of modes 1 and 2 mark by their buckets (R292, R293, R296-R298). -/
def Obligations.DataPlaneUpdates : Prop :=
  ((∀ (s : State) (die : Nat) (r : LearnReq) (rest : List LearnReq) (d : TableDecl), s.live die = true →
    (s.pipe die).learn = r :: rest → d.kind = .flow → r.delete = false →
    let t := (s.modPipe die (fun p => { p with learn := rest })).learnRoom die
    let x : EntrySpec :=
      { decl := d, dies := 0, key := r.key, mask := r.mask, prefixLen := 0, priority := r.priority, action := r.action,
        params := r.params, pinned := false, replace := false, at_ := none, txn := none }
    t.dataPlaneTable r.table = some d →
    (∀ n : Nat, (t.pipe die).named x t.tempo.current = [] → t.placeFor die x 0 = .ok n →
      exec (.learnApply ⟨die, none⟩) s = .next ((t.setPipe die ((t.pipe die).addEntry x n t.tempo.current true)).modPipe die
        (fun p => p.count r.pipe 0x68)))
    ∧ (∀ (e : TEntry) (l : List TEntry), (t.pipe die).named x t.tempo.current = e :: l →
      exec (.learnApply ⟨die, none⟩) s = .next (t.modPipe die (fun p => p.count r.pipe 0x70))))
  ∧ (∀ (s : State) (die who : Nat) (r : LearnReq), s.live die = true → s.mayAsk die (some who) = true →
    (s.pipe die).learn.length < 64 → exec (.learnApply ⟨die, some (who, r)⟩) s =
      exec (.learnApply ⟨die, none⟩) (s.modPipe die (fun p => { p with learn := p.learn ++ [{ r with pipe := 1 }] })))
  ∧ (∀ (s : State) (die : Nat) (r : LearnReq) (rest : List LearnReq) (d : TableDecl), s.live die = true →
    (s.pipe die).tcamWrites = r :: rest →
    let t := (s.modPipe die (fun p => { p with tcamWrites := rest })).tcamRoom die
    t.dataPlaneTable r.table = some d →
    (1024 * d.capacity ≤ r.place → r.place < 1024 * (d.capacity + d.blocks) → exec (.tcamDataPlaneWrite ⟨die, none⟩) s =
      .next ((t.dataPlaneWrite die d r).1.modPipe die (fun p =>
        if (t.dataPlaneWrite die d r).2 then p.count r.pipe 0x58 else (p.count r.pipe 0x58).count r.pipe 0x60)))
    ∧ (r.place < 1024 * d.capacity → exec (.tcamDataPlaneWrite ⟨die, none⟩) s =
      .next (t.modPipe die (fun p => (p.count r.pipe 0x58).count r.pipe 0x60))))
  ∧ (∀ (s : State) (die : Nat) (r : LearnReq), s.live die = true →
    ((s.pipe die).tcamWrites.length < 16 → exec (.tcamDataPlaneWrite ⟨die, some (none, r)⟩) s =
      exec (.tcamDataPlaneWrite ⟨die, none⟩) (s.modPipe die (fun p => { p with tcamWrites := p.tcamWrites ++ [{ r with pipe := r.pipe % 2 }] })))
    ∧ ((s.pipe die).tcamWrites.length = 16 → exec (.tcamDataPlaneWrite ⟨die, some (none, r)⟩) s =
      exec (.tcamDataPlaneWrite ⟨die, none⟩) (s.modPipe die (fun p => p.count (r.pipe % 2) 0x60))))
  ∧ (∀ (s : State) (die table index : Nat) (e : TEntry), s.live die = true →
    (s.pipe die).entries.find? (fun e => e.table == table && e.place == index && e.dataPlane) = some e →
    Runs (.entryRewrite die table index) s fun t => (t.pipe die).entries = (s.pipe die).entries.filter (fun x => x != e)
      ∧ t = { s with pipes := t.pipes })
  ∧ (∀ (s : State) (die table index : Nat),
    (s.pipe die).entries.find? (fun e => e.table == table && e.place == index && e.dataPlane) = none →
    exec (.entryRewrite die table index) s = .next s))
  ∧ ((∀ (s : State) (die pair : Nat), s.live die = true → (s.pipe die).counterMisses.contains (pair / 4) = true →
    ((s.pipe die).counterLines.length < 4096 →
      exec (.counterCacheMiss die pair) s = .next ((s.draw 16).2.setPipe die { s.pipe die with
        counterLines := (s.pipe die).counterLines ++ [pair / 4]
        counterMisses := (s.pipe die).counterMisses.filter (fun l => l != pair / 4) }))
    ∧ (4096 ≤ (s.pipe die).counterLines.length → Runs (.counterCacheMiss die pair) s fun t => ∃ v ∈ (s.pipe die).counterLines,
      t = (s.draw 16).2.setPipe die { (s.pipe die).writeBack v with
        counterLines := (s.pipe die).counterLines.filter (fun l => l != v) ++ [pair / 4]
        counterMisses := (s.pipe die).counterMisses.filter (fun l => l != pair / 4) }))
  ∧ (∀ (s : State) (die pair : Nat), (s.pipe die).counterMisses.contains (pair / 4) = false →
    exec (.counterCacheMiss die pair) s = .next s)
  ∧ (∀ (p : Pipe) (k : Nat) (d : Nat × Nat), (p.counterCache.map (fun e => e.1)).Nodup → Tbl.find p.counterCache k = some d →
    Tbl.look (0, 0) (p.writeBack (k / 4)).counters k =
      (((Tbl.look (0, 0) p.counters k).1 + d.1) % 2 ^ 64, ((Tbl.look (0, 0) p.counters k).2 + d.2) % 2 ^ 64))
  ∧ (∀ (s : State) (die : Nat), s.live die = true → exec (.policerSweep die) s = .next (s.modPipe die (fun p =>
      { p with policers := p.policers.map (fun e => (e.1, if e.2.mode = 0 then e.2 else e.2.at (s.clockAt die))) })))
  ∧ (∀ (q : Policer) (now : Nat), (q.at now).tokensC ≤ q.cbs * byteUnits ∧ (q.at now).tokensEp ≤ q.ebsPbs * byteUnits
      ∧ (q.tokensC + (now - q.last) * q.cir ≤ q.cbs * byteUnits → (q.at now).tokensC = q.tokensC + (now - q.last) * q.cir))
  ∧ (∀ (q : Policer) (n pre : Nat), q.mode = 2 → q.colorAware = false →
      q.meter n pre = if q.tokensEp < n * byteUnits then (2, q)
        else if q.tokensC < n * byteUnits then (1, { q with tokensEp := q.tokensEp - n * byteUnits })
        else (0, { q with tokensC := q.tokensC - n * byteUnits, tokensEp := q.tokensEp - n * byteUnits }))
  ∧ (∀ (q : Policer) (n pre : Nat), q.mode = 1 → q.colorAware = false →
      q.meter n pre = if n * byteUnits ≤ q.tokensC then (0, { q with tokensC := q.tokensC - n * byteUnits })
        else if n * byteUnits ≤ q.tokensEp then (1, { q with tokensEp := q.tokensEp - n * byteUnits })
        else (2, q)))

/-- TABLE_QUERY (R263) writes the entry of a key to host memory as its record; a key with no entry is NOT_FOUND and an
undeclared table a bad parameter (the last two as the model reads them, logs 33 and 32). An insert adds one entry born
at the commit's tempo, which lookups find from then on; a key that is there is EXISTS; a delete retires the entry,
which packets of earlier tempos still find; a key that is not there is NOT_FOUND; a replace does both at one tempo
(R238, R239, R260-R262). -/
def Obligations.TableCommands : Prop :=
  ((∀ (s : State) (p : Packet) (d : TableDecl) (e : TEntry), s.takes (p.of 0x0403) → p.paramLen = 0x14 + pad4 d.keyLen →
    (s.bankOf s.tempo.bank).table? (s.dramOf s.roles.lead) (leAt p.params 0 1) = some d → d.kind = .exact → leAt p.params 2 1 = 0 →
    leAt p.params 3 1 = 0 → leAt p.params 4 4 = 0 → leAt p.params 8 8 ≠ 0 → s.dieStatus (leAt p.params 1 1) = none →
    (s.pipe (leAt p.params 1 1)).entries = [e] → e.table = d.table → e.key = sub p.params 0x14 d.keyLen →
    0 < (e.record d).length → (e.record d).length ≤ leAt p.params 0x10 4 →
    exec (.tableQuery p) s = .next ((s.hostWrite (pf0 (leAt p.params 1 1)) (leAt p.params 8 8) (e.record d)).replied (p.of 0x0403)
      (toLe 4 1 ++ toLe 4 0xFFFFFFFF)))
  ∧ (∀ (s : State) (p : Packet) (d : TableDecl), s.takes (p.of 0x0403) → p.paramLen = 0x14 + pad4 d.keyLen →
    (s.bankOf s.tempo.bank).table? (s.dramOf s.roles.lead) (leAt p.params 0 1) = some d → d.kind = .exact → leAt p.params 2 1 = 0 →
    leAt p.params 3 1 = 0 → leAt p.params 4 4 = 0 → leAt p.params 8 8 ≠ 0 → s.dieStatus (leAt p.params 1 1) = none →
    (s.pipe (leAt p.params 1 1)).entries = [] →
    exec (.tableQuery p) s = .next (s.deliver (p.of 0x0403) ((p.of 0x0403).reply stNotFound 0 0 0 [])))
  ∧ (∀ (s : State) (p : Packet), s.takes (p.of 0x0403) →
    (s.bankOf s.tempo.bank).table? (s.dramOf s.roles.lead) (leAt p.params 0 1) = none →
    exec (.tableQuery p) s = .next (s.deliver (p.of 0x0403) ((p.of 0x0403).reply stBadParam 0 0 0 []))))
  ∧ ((∀ (s : State) (p : Packet) (x : EntrySpec) (die n tempo : Nat), parseEntry 0 p s = .ok x → s.namedDies x.dies = [die] →
    x.replace = false → x.decl.kind = .exact → (s.pipe die).named x tempo = [] → s.placeFor die x 0 = .ok n →
    partTableInsert p tempo none s = .ok (s.modPipe die (fun q => q.addEntry x n tempo false), toLe 4 0))
  ∧ (∀ (s : State) (p : Packet) (x : EntrySpec) (die tempo : Nat) (e : TEntry), parseEntry 0 p s = .ok x →
    s.namedDies x.dies = [die] → x.replace = false → e ∈ (s.pipe die).named x tempo → e.dataPlane = false →
    partTableInsert p tempo none s = .error stExists)
  ∧ (∀ (s : State) (p : Packet) (x : EntrySpec) (die tempo : Nat) (e : TEntry), parseEntry 1 p s = .ok x →
    s.namedDies x.dies = [die] → (s.pipe die).named x tempo = [e] →
    partTableDelete p tempo s = .ok (s.modPipe die (fun q => q.retire x.decl e tempo), []))
  ∧ (∀ (s : State) (p : Packet) (x : EntrySpec) (die tempo : Nat), parseEntry 1 p s = .ok x → s.namedDies x.dies = [die] →
    (s.pipe die).named x tempo = [] → partTableDelete p tempo s = .error stNotFound)
  ∧ (∀ (s : State) (p : Packet) (x : EntrySpec) (die n tempo : Nat) (e : TEntry), parseEntry 2 p s = .ok x →
    s.namedDies x.dies = [die] → x.replace = true → x.decl.kind = .exact → (s.pipe die).named x tempo = [e] →
    s.placeFor die { x with pinned := x.pinned && !e.pinned } 0 = .ok n →
    partTableModify p tempo none s =
      .ok ((s.modPipe die (fun q => q.retire x.decl e tempo)).modPipe die (fun q => q.addEntry x n tempo false), toLe 4 0))
  ∧ (∀ (q : Pipe) (x : EntrySpec) (n tempo : Nat), x.decl.kind = .exact → q.named x tempo = [] → tempo < 2 ^ 32 →
    (q.addEntry x n tempo false).find x.decl x.key tempo = some
      { table := x.decl.table, key := x.key, mask := x.mask, prefixLen := x.prefixLen, priority := x.priority, place := n,
        born := tempo, retired := none, action := x.action, dataPlane := false, pinned := x.pinned, params := x.params }
    ∧ ((q.addEntry x n tempo false).entries.filter (fun e => e.table != x.decl.table)
        = q.entries.filter (fun e => e.table != x.decl.table)))
  ∧ (∀ (q : Pipe) (d : TableDecl) (e : TEntry) (tempo t : Nat), e ∈ q.entries → e.retired = none → e.born ≠ tempo →
    e.visible t = true → earlier t tempo = true → { e with retired := some tempo } ∈ (q.retire d e tempo).entries
      ∧ ({ e with retired := some tempo } : TEntry).visible t = true))

/-- Of the prefixes of a longest-prefix table that match, a lookup finds a longest; of the entries of a TCAM table
that match under their masks and are valid at the packet's tempo, the one of largest PRIORITY, and among equals the
one of lowest address (R250, R254). A version is valid from its BORN tempo until its RETIRED one in the order of
tempos (R311); reclaiming takes only versions that no tempo still in flight can see, and ageing changes only the BORN
of an old entry (R314, R316). -/
def Obligations.LookupsAndVersions : Prop :=
  ((∀ (p : Pipe) (d : TableDecl) (key : List Byte) (tempo : Nat) (e x : TEntry), d.kind.isLpm = true → p.find d key tempo = some e →
    x ∈ p.entries → x.table = d.table → x.visible tempo = true → maskPrefix key x.prefixLen = x.key →
    x.prefixLen ≤ e.prefixLen ∧ e ∈ p.entries ∧ e.visible tempo = true ∧ maskPrefix key e.prefixLen = e.key)
  ∧ (∀ (p : Pipe) (d : TableDecl) (key : List Byte) (tempo : Nat) (e x : TEntry), d.kind = .tcam → p.find d key tempo = some e →
    x ∈ p.entries → x.table = d.table → x.visible tempo = true → maskedEq key x.key x.mask = true →
    (x.priority < e.priority ∨ (x.priority = e.priority ∧ e.place ≤ x.place)) ∧ e ∈ p.entries ∧ e.visible tempo = true
      ∧ maskedEq key e.key e.mask = true)
  ∧ (∀ (p : Pipe) (d : TableDecl) (key : List Byte) (tempo : Nat) (x : TEntry), d.kind = .tcam → x ∈ p.entries →
    x.table = d.table → x.visible tempo = true → maskedEq key x.key x.mask = true → (p.find d key tempo).isSome = true)
  ∧ (∀ (p : Pipe) (d : TableDecl) (key : List Byte) (tempo : Nat), (∀ x ∈ p.entries, x.visible tempo = false) →
    p.find d key tempo = none))
  ∧ ((∀ a b : Nat, a < 2 ^ 32 → b < 2 ^ 32 →
    (earlier a b = true ↔ 1 ≤ ((b : Int) - a) % 2 ^ 32 ∧ ((b : Int) - a) % 2 ^ 32 ≤ 2 ^ 31 - 1))
  ∧ (∀ born p : Nat, (validAt born none p = true ↔ earlier p born = false)
      ∧ ∀ r : Nat, validAt born (some r) p = true ↔ earlier p born = false ∧ earlier p r = true)
  ∧ (∀ born t : Nat, born < 2 ^ 32 → t < 2 ^ 31 → validAt born none ((born + t) % 2 ^ 32) = true)
  ∧ (∀ born t : Nat, born < 2 ^ 32 → 0 < t → t < 2 ^ 31 → validAt born none ((born + 2 ^ 32 - t) % 2 ^ 32) = false)
  ∧ (∀ born r t : Nat, born < 2 ^ 32 → r < 2 ^ 32 → t < 2 ^ 31 →
      validAt born (some r) ((r + t) % 2 ^ 32) = false)
  ∧ (∀ (s : State) (die : Nat), s.live die = true → Runs (.reclaim die) s fun t =>
      t = { s with pipes := t.pipes, ciphers := t.ciphers }
        ∧ (∀ e : TEntry, e ∈ (t.pipe die).entries ↔ e ∈ (s.pipe die).entries
            ∧ (∀ r, e.retired = some r → earlier (s.oldestTempo die) r = true)))
  ∧ (∀ (s : State) (die : Nat), s.live die = true → Runs (.ageingSweep die) s fun t =>
      t = { s with pipes := t.pipes, ciphers := t.ciphers, tempo := t.tempo } ∧ t.tempo.current = s.tempo.current
        ∧ (t.pipe die).entries = (s.pipe die).entries.map (fun e =>
            { e with born := agedBorn s.tempo.current (s.oldestTempo die) e.born }))
  ∧ (∀ (current oldest born : Nat), current < 2 ^ 32 → born < 2 ^ 32 → (current + 2 ^ 32 - born) % 2 ^ 32 < 2 ^ 29 →
      agedBorn current oldest born = born))

/-- A packet enters a lane with the next sequence of its slot and leaves as the protected frame; one with no version
of its slot is dropped; a decrypt whose sequence is stale is dropped before it starts; a verified plaintext waits and
departs only in the order of its slot, and one whose tag fails is erased and dropped (R299, R400-R411). -/
def Obligations.CipherEngine : Prop :=
  (∀ (s : State) (die id slot : Nat) (k : FlightPkt) (v : KeyVersion), s.boot.cipher = true → s.live die = true →
    (s.cipherOf die).laneFree = true → Tbl.find s.flight id = some k → k.verdict.cipherSlot = some slot → k.die = die →
    k.phase = .cipherIn 0 →
    s.cipherTurn id k = true → (s.keySlot die slot).at k.tempo = some v → v.state ≠ .faulted → s.slotAllowed k slot v = true →
    k.verdict.decrypt = false → v.proto = 1 → v.state ≠ .exhausted → cellsFor (sealedLen v k.frame k.l3) = k.cells →
    exec (.cipherUnitStart die (2 * id)) s = .next ((({ s with flight := Tbl.set s.flight id { k with phase := .cipher 0 } }).enterLane
      k.die (2 * id) (k.unit id slot v v.seq 0)).assignSeq k.die slot v))
  ∧ (∀ (s : State) (die id slot : Nat) (k : FlightPkt), s.boot.cipher = true → s.live die = true →
    (s.cipherOf die).laneFree = true → Tbl.find s.flight id = some k → k.verdict.cipherSlot = some slot → k.die = die →
    k.phase = .cipherIn 0 → s.cipherTurn id k = true →
    (s.keySlot die slot).at k.tempo = none →
    exec (.cipherUnitStart die (2 * id)) s = .next (s.dropInFlight id k k.cells drCipherKey))
  ∧ (∀ (s : State) (die id slot : Nat) (k : FlightPkt) (v : KeyVersion) (x : Opened), s.boot.cipher = true → s.live die = true →
    (s.cipherOf die).laneFree = true → Tbl.find s.flight id = some k → k.verdict.cipherSlot = some slot → k.die = die →
    k.phase = .cipherIn 0 →
    s.cipherTurn id k = true → (s.keySlot die slot).at k.tempo = some v → v.state ≠ .faulted → s.slotAllowed k slot v = true →
    k.verdict.decrypt = true → v.slotId = 0 → openFrame v k.frame k.l3 = some x → v.fresh (v.wholeSeq x.low) = false →
    exec (.cipherUnitStart die (2 * id)) s = .next (((s.modKey k.die slot v.born (fun v =>
      { v with replayFails := satAdd 0xFFFFFFFF v.replayFails 1 })).cipherCount k.die 0x18).dropInFlight id k k.cells drCipherAuth))
  ∧ (∀ (s : State) (die unit id : Nat) (w : CipherUnit) (v : KeyVersion) (k : FlightPkt),
    s.cipherUnit die unit = some w → s.live die = true → w.phase = .lane → (s.keySlot die w.slot).bornAt w.born = some v →
    w.encrypt = true → (s.cipherOf die).leads w = true → w.source = .packet id → Tbl.find s.flight id = some k →
    exec (.cipherUnitDone die unit true (s.sealedText die w v)) s =
      .next ((s.cipherCount die 0x00).leaveEngine die unit id k (sealFrame v k.frame k.l3 w.seq (s.sealedText die w v))))
  ∧ (∀ (s : State) (die unit id : Nat) (w : CipherUnit) (v : KeyVersion) (k : FlightPkt),
    s.cipherUnit die unit = some w → s.live die = true → w.phase = .lane → (s.keySlot die w.slot).bornAt w.born = some v →
    w.encrypt = false → w.source = .packet id → Tbl.find s.flight id = some k →
    exec (.cipherUnitDone die unit (s.openedText die w v).isSome ((s.openedText die w v).getD [])) s = .next (match s.openedText die w v with
      | some out => s.tagChecks die unit w out
      | none => (((s.cipherCount die 0x10).modKey die w.slot w.born
          (fun v => { v with authFails := satAdd 0xFFFFFFFF v.authFails 1 })).dropUnit die unit).dropInFlight id k k.cells drCipherAuth))
  ∧ (∀ (s : State) (die unit id : Nat) (w : CipherUnit) (k : FlightPkt) (out : List Byte), w.source = .packet id →
    Tbl.find s.flight id = some k →
    let t := s.tagChecks die unit w out
    Tbl.find t.flight id = some { k with phase := .verify true } ∧ t.cipherUnit die unit = some { w with phase := .verified, out := out }
      ∧ t = { s with flight := t.flight, ciphers := t.ciphers })
  ∧ (∀ (s : State) (die unit : Nat) (w : CipherUnit) (v : KeyVersion), s.cipherUnit die unit = some w → s.live die = true →
    w.phase = .lane → w.encrypt = true → (s.cipherOf die).leads w = false → (s.keySlot die w.slot).bornAt w.born = some v →
    ∀ (good : Bool) (out : List Byte), exec (.cipherUnitDone die unit good out) s = .next s)
  ∧ (∀ (s : State) (die unit id : Nat) (w : CipherUnit) (v : KeyVersion) (k : FlightPkt) (x : Opened),
    s.cipherUnit die unit = some w → s.live die = true → w.phase = .verified → (s.cipherOf die).leads w = true →
    w.source = .packet id → Tbl.find s.flight id = some k → (s.keySlot die w.slot).bornAt w.born = some v →
    openFrame v k.frame k.l3 = some x → w.reinject = false →
    exec (.plaintextDepart die unit) s =
      .next ((s.cipherCount die 0x08).leaveEngine die unit id k (unsealFrame v k.frame k.l3 x w.out)))
  ∧ (∀ (s : State) (die unit : Nat) (w : CipherUnit), s.cipherUnit die unit = some w → (s.cipherOf die).leads w = false →
    exec (.plaintextDepart die unit) s = .next s)

/-- INSTALL through the key page puts the staged version in force at once and zeroes the key material, or waits while
a packet in flight may still use the version it must overwrite; a bad SLOT_CFG or a busy slot leaves the slot as it
was but for INSTALL_ERR; RETIRE ends the visible version, and the wait ends when no unit needs the old version
(R398-R406). KEYPAGE_MODE adds a range of pages to the masked ones of a die or takes it out (R401). -/
def Obligations.KeySlotsAndPages : Prop :=
  ((∀ (s : State) (die slot fn : Nat), s.pageReach die slot fn = true → (s.keySlot die slot).installBusy = false →
    s.committing (objNum objKeySlot die slot) = false →
    cfgGood (s.keySlot die slot).stCfg = true → s.lockedBut 0 (objNum objKeySlot die slot) = false →
    s.pageForbids die slot (s.keySlot die slot).stCfg = false → s.slotWaits die slot = false →
    Runs (.install die slot fn) s fun t =>
      let k := s.keySlot die slot
      let n := t.keySlot die slot
      n.newer = newVersion k.stKey k.stSalt k.stSsci k.stCfg k.stId k.stSeq k.stLimit s.tempo.current
        ∧ n.older = k.newer.retireAt s.tempo.current ∧ n.stKey = 0 ∧ n.stSalt = 0 ∧ n.soft = false ∧ n.installBusy = false
        ∧ (∀ m, m ≠ slot → t.keySlot die m = s.keySlot die m)
        ∧ t = { s with ciphers := t.ciphers, tempo := t.tempo } ∧ t.tempo.current = s.tempo.current)
  ∧ (∀ (s : State) (die slot fn : Nat), s.pageReach die slot fn = true → (s.keySlot die slot).installBusy = false →
    s.committing (objNum objKeySlot die slot) = false →
    cfgGood (s.keySlot die slot).stCfg = true → s.lockedBut 0 (objNum objKeySlot die slot) = false →
    s.pageForbids die slot (s.keySlot die slot).stCfg = false → s.slotWaits die slot = true →
    exec (.install die slot fn) s = .next (s.setKeySlot die slot { s.keySlot die slot with installBusy := true }))
  ∧ (∀ (s : State) (die slot fn : Nat), s.pageReach die slot fn = true →
    ((s.keySlot die slot).installBusy = true ∨ s.committing (objNum objKeySlot die slot) = true → exec (.install die slot fn) s =
      .next (s.setKeySlot die slot { s.keySlot die slot with installErr := true, errCause := 2 }))
    ∧ ((s.keySlot die slot).installBusy = false → s.committing (objNum objKeySlot die slot) = false →
      cfgGood (s.keySlot die slot).stCfg = false → exec (.install die slot fn) s =
      .next (s.setKeySlot die slot { s.keySlot die slot with installErr := true, errCause := 1 })))
  ∧ (∀ (s : State) (die slot fn : Nat), s.pageReach die slot fn = false →
    exec (.install die slot fn) s = .next s ∧ exec (.retire die slot fn) s = .next s)
  ∧ (∀ (s : State) (die slot fn : Nat) (v : KeyVersion), s.pageReach die slot fn = true → (s.keySlot die slot).installBusy = false →
    s.committing (objNum objKeySlot die slot) = false →
    s.lockedBut 0 (objNum objKeySlot die slot) = false → (s.keySlot die slot).at s.tempo.current = some v →
    exec (.retire die slot fn) s = .next ((s.setKeySlot die slot ((s.keySlot die slot).retire s.tempo.current)).stampObjects
      [objNum objKeySlot die slot]))
  ∧ (∀ (s : State) (die slot : Nat), s.live die = true → (s.keySlot die slot).installBusy = true → s.slotWaits die slot = false →
    exec (.installWaitEnd die slot) s = .next (s.installNow die slot))
  ∧ (∀ (k : KeySlot) (v : KeyVersion) (t : Nat), k.newer.state ≠ .empty → k.newer.retired = none → v.state ≠ .empty →
    v.retired = none → validAt v.born none t = true → k.newer.born ≠ v.born → (k.put v).at t = some v))
  ∧ ((∀ (s : State) (p : Packet), s.takesRecorded (p.of 0x8701) → p.paramLen = 8 → leAt p.params 1 1 = 0 → leAt p.params 2 2 = 0 →
    leAt p.params 6 2 ≠ 0 → leAt p.params 6 2 ≤ 4096 → leAt p.params 4 2 + leAt p.params 6 2 ≤ 4096 →
    s.dieStatus (leAt p.params 0 1) = none →
    exec (.keypageMode p) s = .next ((s.modCipherOf (leAt p.params 0 1) (fun c => { c with
      masked := c.masked.filter (fun m => decide (m < leAt p.params 4 2) || decide (leAt p.params 4 2 + leAt p.params 6 2 ≤ m)) })).recorded
      (p.of 0x8701) []))
  ∧ (∀ (s : State) (p : Packet), s.takesRecorded (p.of 0x8701) → p.paramLen = 8 → leAt p.params 1 1 = 1 → leAt p.params 2 2 = 0 →
    leAt p.params 6 2 ≠ 0 → leAt p.params 6 2 ≤ 4096 → leAt p.params 4 2 + leAt p.params 6 2 ≤ 4096 →
    s.dieStatus (leAt p.params 0 1) = none → Runs (.keypageMode p) s fun t =>
      (∀ m, m ∈ (t.cipherOf (leAt p.params 0 1)).masked ↔ m ∈ (s.cipherOf (leAt p.params 0 1)).masked
        ∨ (leAt p.params 4 2 ≤ m ∧ m < leAt p.params 4 2 + leAt p.params 6 2))
      ∧ t.like ({ s with ciphers := t.ciphers } : State))
  ∧ (∀ (s : State) (p : Packet), s.takesRecorded (p.of 0x8701) → 4096 < leAt p.params 4 2 + leAt p.params 6 2 →
    exec (.keypageMode p) s = .next (s.recordedAs (p.of 0x8701) stBadParam [])))

/-- A command with no transaction begins phase one of a transaction of its own when its change holds and no object of
it is locked; a change that does not hold is recorded with its status and nothing else changes; in an OPEN transaction
of its sender the command is staged and answered STAGED (R321, R326). -/
def Obligations.TransactionalCommands : Prop :=
  (∀ (f : Packet → Instr) (op : Nat), (f, op) ∈ ([(.tableInsert, 0x0401), (.tableDelete, 0x0402), (.tableModify, 0x8401),
      (.steerSet, 0x0404), (.actionParamSet, 0x8403), (.rateProfileSet, 0x0501), (.tmNodeSet, 0x8501), (.shaperSet, 0x8502),
      (.queueSetMapping, 0x8201), (.keyInstall, 0x0701), (.keyRetire, 0x0702)] : List ((Packet → Instr) × Nat)) →
    ∀ (s : State) (p : Packet), s.takesRecorded (p.of op) → (op = 0x8403 → leAt p.params 0 1 < 3) → s.expireTxns = s →
      (∀ (t : State) (r : List Byte), p.txn = 0 → partOf (p.of op) s.nextTempo none s = .ok (t, r) →
        (objsOf (p.of op) s).eraseDups.any (s.lockedBut 0) = false →
        exec (f p) s = .next (s.beginPhaseOne 0 (some
          { packet := p.of op, jsn := 0, handle := s.handleOf (p.of op) r,
            objects := (objsOf (p.of op) s).eraseDups.map (fun o => (o, 0)) }) (objsOf (p.of op) s).eraseDups))
      ∧ (∀ st : Nat, p.txn = 0 → partOf (p.of op) s.nextTempo none s = .error st → st ≠ stOk → st ≠ stBusy →
        exec (f p) s = .next (s.recordedAs (p.of op) st []))
      ∧ (∀ (x : Txn) (t : State) (r : List Byte), p.txn ≠ 0 → Tbl.find s.tempo.txns p.txn = some x → x.ownedBy p.sender = true →
        x.state = .opened → partOf (p.of op) s.nextTempo none (s.folded x) = .ok (t, r) →
        let objs := (objsOf (p.of op) (s.folded x)).eraseDups
        (x.objects ++ objs).eraseDups.length ≤ 1048576 →
        exec (f p) s = .next ((s.setTxn p.txn { x with
          deadline := s.leadTick + x.timeoutMs * ticksPerMs,
          staged := x.staged ++ [{ packet := p.of op, jsn := s.journal.next, objects := objs.map (fun o => (o, s.tempo.nextStamp)),
                                   handle := (s.folded x).handleOf (p.of op) r }] }).recordedAs (p.of op) stStaged r)))
  ∧ (∀ (s : State) (p : Packet) (b : Bank), s.takesRecorded (p.of 0x8402) → s.expireTxns = s → p.txn = 0 →
    s.tempo.bankClaim = none → partProgramLoad (p.of 0x8402) s = .ok b → s.lockedBut 0 (objNum objBank 0 0) = false →
    exec (.programLoad p) s = .next ((s.writeBank b).beginPhaseOne 0 (some
      { packet := p.of 0x8402, jsn := 0, handle := none, objects := [(objNum objBank 0 0, 0)] }) [objNum objBank 0 0]))

/-- TXN_BEGIN opens a transaction with its timeout and the next number (no parameters at all stand for zeros, as for
TXN_COMMIT, log 95), TXN_QUERY tells its record, TXN_ABORT and its expiry end it, and TXN_COMMIT starts its phase one
or, on a conflict, aborts it with the tempo as it was; a SCHEDULED one begins phase one when its turn comes
(R319-R325, R328, R330, R342). -/
def Obligations.TransactionLife : Prop :=
  (∀ (s : State) (p : Packet), s.takesRecorded (p.of 0x0B01) → s.expireTxns = s → p.txn = 0 →
    p.paramLen = 16 ∨ p.paramLen = 0 →
    leAt p.params 4 1 = 0 → leAt p.params 5 3 = 0 → leAt p.params 0x0C 4 = 0 → leAt p.params 0 4 = 0 → leAt p.params 8 4 = 0 →
    s.tempo.txns.length < 64 → Runs (.txnBegin p) s fun t =>
      let n := nextTxnNumber s.tempo.txns s.tempo.nextTxn 400
      (∃ x, Tbl.find t.tempo.txns n = some x ∧ x.state = .opened ∧ x.owner = p.sender ∧ x.timeoutMs = 30000 ∧ x.staged = []
        ∧ x.deadline = s.leadTick + 30000 * ticksPerMs)
        ∧ t.tempo = { s.tempo with txns := t.tempo.txns, nextTxn := n % 65535 + 1 }
        ∧ (∀ m, m ≠ n → Tbl.find t.tempo.txns m = Tbl.find s.tempo.txns m)
        ∧ t.like ({ s with tempo := t.tempo } : State))
  ∧ (∀ (s : State) (n : Nat) (t : Txn), Tbl.find s.tempo.txns n = some t → t.state = .opened →
    (t.deadline ≤ s.leadTick → exec (.txnExpiry n) s = .next (s.finishTxn n t .expired))
    ∧ (s.leadTick < t.deadline → exec (.txnExpiry n) s = .next s))
  ∧ (∀ (s : State) (p : Packet) (t : Txn), s.takesRecorded (p.of 0x0B03) → s.expireTxns = s → p.paramLen = 0 →
    Tbl.find s.tempo.txns p.txn = some t → t.ownedBy p.sender = true → t.state = .opened → t.commitCmd = none →
    exec (.txnAbort p) s = .next ((s.finishTxn p.txn t .aborted).recorded (p.of 0x0B03) []))
  ∧ (∀ (s : State) (p : Packet) (t : Txn), s.takes (p.of 0x0B04) → s.expireTxns = s → p.paramLen = 0 → p.txn ≠ 0 →
    Tbl.find s.tempo.txns p.txn = some t → t.ownedBy p.sender = true →
    exec (.txnQuery p) s = .next (s.replied (p.of 0x0B04) (s.txnRecord p.txn t)))
  ∧ (∀ (s : State) (p : Packet) (t : Txn), s.takesRecorded (p.of 0x0B02) → s.expireTxns = s → p.paramLen = 16 ∨ p.paramLen = 0 →
    leAt p.params 0 1 = 0 → leAt p.params 1 7 = 0 → leAt p.params 8 8 = 0 → Tbl.find s.tempo.txns p.txn = some t →
    t.crossPackage = false → t.ownedBy p.sender = true → t.state = .opened →
    let u := s.touchTxn p.txn
    (u.conflictIn p.txn t = none → u.recheck s.nextTempo t.staged = none →
      exec (.txnCommit p) s = .next ((u.setTxn p.txn { t with
        deadline := s.leadTick + t.timeoutMs * ticksPerMs, commitCmd := some (p.of 0x0B02) }).beginPhaseOne p.txn none t.objects))
    ∧ (∀ j, u.conflictIn p.txn t = some j → Runs (.txnCommit p) s fun w =>
        (∃ x, Tbl.find w.tempo.txns p.txn = some x ∧ x.state = .aborted ∧ x.failJsn = j ∧ x.failStatus = stConflict ∧ x.staged = [])
          ∧ w.tempo.current = s.tempo.current ∧ w.like ({ s with tempo := w.tempo } : State)))
  ∧ (∀ (s : State) (n : Nat) (t : Txn), Tbl.find s.tempo.txns n = some t → t.state = .scheduled → s.decides = true →
    s.leadBusy = false → s.tempo.inProgress = none →
    (t.instant ≤ s.nowNs + s.prepareLead t → (∀ e ∈ s.tempo.txns, t.instant ≤ e.2.instant) →
      exec (.phaseOne n) s = .next (s.beginPhaseOne n none t.objects))
    ∧ (s.nowNs + s.prepareLead t < t.instant → exec (.phaseOne n) s = .next s))

/-- PREPARE has a named die write its changes, or wait while it cannot; the last READY is the commit point, where LATE
is settled (log 97), and a failure undoes the commit; at the switch the package takes the new tempo, and with no
commit in progress there is none (R331, R333, R337). -/
def Obligations.CommitFlow : Prop :=
  (∀ (s : State) (die : Nat) (c : Commit), s.tempo.inProgress = some c → c.committed = false → bit c.waiting die = true →
    bit c.prepared die = false → s.live die = true →
    let objs := (s.commitCmds c).flatMap (fun x => x.objects.map (fun e => e.1))
    (s.mustWait die objs = true → exec (.prepare die) s = .next (s.modPipe die (fun p => { p with commitWait := true })))
    ∧ (s.mustWait die objs = false → exec (.prepare die) s =
        .next ((s.modPipe die (fun p => { p with commitWait := false })).setCommit (some { c with
          prepared := setBit c.prepared die true }))))
  ∧ (∀ (s : State) (die : Nat) (c : Commit), s.tempo.inProgress = some c → c.committed = false → bit c.waiting die = true →
    bit c.prepared die = true → s.live die = true → s.leadGone = false → c.failed = none →
    s.recheck c.tempo (s.commitCmds c) = none → s.journal.buffered = [] →
    (setBit c.waiting die false ≠ 0 → exec (.prepareAnswer die true) s =
      .next (s.setCommit (some { c with waiting := setBit c.waiting die false })))
    ∧ (setBit c.waiting die false = 0 → exec (.prepareAnswer die true) s = .next (s.commitPoint { c with waiting := 0 }).afterCommit)
    ∧ (setBit c.waiting die false = 0 → exec (.prepareAnswer die false) s =
        .next (s.undoCommit { c with waiting := 0, failed := some (0, 0) } 0 0).afterCommit))
  ∧ (∀ (s : State) (c : Commit), s.tempo.inProgress = some c → c.committed = true → s.ready = true → s.leadGone = false →
    (s.dieHealth s.roles.lead).pairRestarting = false → s.journal.buffered = [] →
    (s.switchDue c = true → exec .tempoSwitch s = .next s.switchTempo.afterCommit)
    ∧ (s.switchDue c = false → exec .tempoSwitch s = .next s))
  ∧ (∀ (s : State) (c : Commit), s.switchDue c = true ↔ c.committed = true ∧ c.notBefore ≤ s.leadTick
      ∧ ∀ t, Tbl.find s.tempo.txns c.txn = some t → t.instant ≤ s.nowNs)
  ∧ (∀ (s : State) (c : Commit), s.tempo.inProgress = some c → c.committed = true →
    s.switchTempo.tempo.current = c.tempo ∧ s.switchTempo.tempo.inProgress = none ∧ s.switchTempo.tempo.switchPending = false
      ∧ c.switchAt ≤ s.switchTempo.tempo.switchTime)
  ∧ (∀ s : State, s.tempo.inProgress = none → s.switchTempo = s ∧ exec (.prepare 0) s = .next s)

/-- A packet joins the leaf it names and its cells pass from PIPELINE to QUEUED, or is dropped where no leaf takes it;
a packet for another die joins the class lane of its fabric queue, and one for a die out of service is dropped as
DIE_DOWN; the books of every die balance after it (R346, R348, R351-R353; the cells of these rows as the model takes
them, log 24). -/
def Obligations.QueueAdmission : Prop :=
  (∀ (s : State) (die leaf i : Nat) (pkt : TmPkt) (l : TmLeaf), s.live die = true →
    let q := { pkt with dest := 2 * 2 ^ 28 + destPort pkt.dest * 2 ^ 22 + leaf % 65536, tc := pkt.tc % 8,
                        ingressClass := pkt.ingressClass % 8 }
    let u := s.takeCells die (pkt.cells - (s.tm die).pipeline)
    ((u.tm die).leafFor q = some i → (u.tm die).leaf? i = some l → u.admits die l.cells l.maxCells l.alpha q = none →
      exec (.tmEnqueue die leaf pkt) s =
        .next (((u.modTm die (fun t => t.setLeaf i { l with queue := l.queue ++ [q] })).queueCells die q.cells).budgetCheck die q))
    ∧ ((u.tm die).leafFor q = none → exec (.tmEnqueue die leaf pkt) s = .next (u.tmDrop die 0x10 q)))
  ∧ (∀ (s : State) (die leaf d : Nat) (pkt : TmPkt), s.live die = true → pkt.tx = none → s.cellsBalance d →
    Runs (.tmEnqueue die leaf pkt) s fun t => t.cellsBalance d)
  ∧ (∀ (s : State) (die dest : Nat) (pkt : TmPkt), s.live die = true → dest < s.dieCount → dest ≠ die → s.dieWorks dest = true →
    let q := { pkt with tc := pkt.tc % 8, ingressClass := pkt.ingressClass % 8 }
    let u := s.takeCells die (pkt.cells - (s.tm die).pipeline)
    let l := Tbl.look FabricLane.reset (u.tm die).lanes (8 * dest + pkt.tc % 8)
    u.admits die ((l.queue.map TmPkt.cells).sum) ((u.tm die).cls (pkt.tc % 8)).fabricMax 3 q = none →
    exec (.fabricEnqueue die dest pkt) s = .next (((u.modTm die (fun t =>
      { t with lanes := Tbl.put FabricLane.reset t.lanes (8 * dest + pkt.tc % 8) { l with queue := l.queue ++ [q] } })).queueCells die
      q.cells).budgetCheck die q))
  ∧ (∀ (s : State) (die dest : Nat) (pkt : TmPkt), s.live die = true → dest < s.dieCount → dest ≠ die → s.dieWorks dest = false →
    exec (.fabricEnqueue die dest pkt) s = .next ((s.takeCells die (pkt.cells - (s.tm die).pipeline)).dropPkt die drDieDown
      { pkt with tc := pkt.tc % 8, ingressClass := pkt.ingressClass % 8 }))
  ∧ (∀ (s : State) (die dest d : Nat) (pkt : TmPkt), s.live die = true → dest < s.dieCount → dest ≠ die → s.dieWorks dest = true →
    pkt.tx = none → s.cellsBalance d → Runs (.fabricEnqueue die dest pkt) s fun t => t.cellsBalance d)

/-- A frame of 16 slots gives 2, 2, 11 and 1 to the four channels, and a slot whose channel has nothing goes to
response, request, packet, management in that order; messages are packed into flits of 125 bytes without regard to
where they end; a flit goes only where a buffer of its channel is free; a message reaches its destination or goes one
hop onward; and a fabric pause stops its class of one destination until it is released (R18, R21-R24, R26, R348,
R353). The head packet of the leaf chosen starts and is charged to its path; nothing starts from a leaf whose gate is
closed or whose class is paused; gates follow their list by network time, and a pending list takes over at its
instant, 50 us or more after it was decided and a whole number of cycles after its base (R355, R357, R358, R362-R367).
-/
def Obligations.FabricAndScheduling : Prop :=
  ((∀ chan : Nat, chan < 4 → ((List.range 16).filter (fun k => slotChan k == chan)).length = [2, 2, 11, 1].getD chan 0)
  ∧ (∀ (s : State) (die dim : Nat), s.ready = true → s.dunythUp die dim = true →
    let own := slotChan (s.linkEnd die dim).slot
    let t := s.setLinkEnd die dim { s.linkEnd die dim with slot := ((s.linkEnd die dim).slot + 1) % 16 }
    (∀ det, s.readyLane die dim own = some det → exec (.fabricSend die dim own det) s = .next (t.sendFlit die dim own det))
    ∧ (s.readyLane die dim own = none →
      (∀ det, s.readyLane die dim 1 = some det → exec (.fabricSend die dim 1 det) s = .next (t.sendFlit die dim 1 det))
      ∧ (s.readyLane die dim 1 = none →
        (∀ det, s.readyLane die dim 0 = some det → exec (.fabricSend die dim 0 det) s = .next (t.sendFlit die dim 0 det))
        ∧ (s.readyLane die dim 0 = none →
          (∀ det, s.readyLane die dim 2 = some det → exec (.fabricSend die dim 2 det) s = .next (t.sendFlit die dim 2 det))
          ∧ (s.readyLane die dim 2 = none →
            (∀ det, s.readyLane die dim 3 = some det → exec (.fabricSend die dim 3 det) s = .next (t.sendFlit die dim 3 det))
            ∧ (s.readyLane die dim 3 = none → ∀ (c : Nat) (det : Bool), exec (.fabricSend die dim c det) s = .next t))))))
  ∧ (∀ (s : State) (die dim chan : Nat) (det : Bool), s.readyLane die dim chan = some det →
    (s.laneOf (laneKey die dim chan det)).buffer.length < chanFlits chan det)
  ∧ (∀ (n : Nat) (q : List MsgPart), (((packFlit n q).1.map (fun m => m.bytes)).sum = min n ((q.map (fun m => m.bytes)).sum))
    ∧ ((packFlit n q).1.map (fun m => m.bytes)).sum + ((packFlit n q).2.map (fun m => m.bytes)).sum = (q.map (fun m => m.bytes)).sum)
  ∧ (∀ (s : State) (die dim chan : Nat) (det : Bool), chan ≠ 2 ∨ det = true →
    let x := s.laneOf (laneKey die dim chan det)
    let back := laneKey (die ^^^ 2 ^ dim) dim chan det
    let t := s.sendFlit die dim chan det
    let sent : Flit :=
      { chan := chan, credits := (s.laneOf back).freed, seq := (s.linkEnd die dim).seq, parts := (packFlit 125 x.sendQ).1 }
    t.linkEnd die dim = { s.linkEnd die dim with seq := ((s.linkEnd die dim).seq + 1) % 256 } ∧ (t.laneOf back).freed = 0
      ∧ t.laneOf (laneKey die dim chan det) = { x with sendQ := (packFlit 125 x.sendQ).2, buffer := x.buffer ++ [sent] })
  ∧ (∀ (s : State) (die dim chan : Nat) (det : Bool) (f : Flit) (rest : List Flit) (m : MsgPart), s.ready = true →
    s.dunythUp die dim = true → chan < 4 → (s.laneOf (laneKey (die ^^^ 2 ^ dim) dim chan det)).buffer = f :: rest → f.parts = [m] →
    m.dst = die →
    let t := s.setLaneOf (laneKey (die ^^^ 2 ^ dim) dim chan det) { s.laneOf (laneKey (die ^^^ 2 ^ dim) dim chan det) with
      buffer := rest, freed := (s.laneOf (laneKey (die ^^^ 2 ^ dim) dim chan det)).freed + 1 }
    exec (.flitReceive die dim chan det) s = .next (match m.load with
      | some l => t.deliverLoad die m.src l
      | none => t))
  ∧ (∀ (s : State) (die dim chan n : Nat) (det lane : Bool) (f : Flit) (rest : List Flit) (m : MsgPart), s.ready = true →
    s.dunythUp die dim = true → chan < 4 → (s.laneOf (laneKey (die ^^^ 2 ^ dim) dim chan lane)).buffer = f :: rest → f.parts = [m] →
    m.dst ≠ die → s.nextHop die m.dst (lane || m.detoured) = some (n, det) →
    let on := lane || m.detoured
    (125 < (s.laneOf (laneKey die n chan on)).waiting → exec (.flitReceive die dim chan lane) s = .next s)
    ∧ ((s.laneOf (laneKey die n chan on)).waiting ≤ 125 → exec (.flitReceive die dim chan lane) s =
      .next ((s.setLaneOf (laneKey (die ^^^ 2 ^ dim) dim chan lane) { s.laneOf (laneKey (die ^^^ 2 ^ dim) dim chan lane) with
        buffer := rest, freed := (s.laneOf (laneKey (die ^^^ 2 ^ dim) dim chan lane)).freed + 1 }).modLaneOf (laneKey die n chan on)
          (fun y => { y with sendQ := y.sendQ ++ [{ m with detoured := det || on }] }))))
  ∧ (∀ (s : State) (die src c : Nat) (on : Bool), s.live die = true → c < 8 → src < s.dieCount →
    exec (.fabricPause die src c on) s = .next (s.modTm die (fun t =>
      { t with pausedByDest := Tbl.put 0 t.pausedByDest src (setBit (Tbl.look 0 t.pausedByDest src) c on) })))
  ∧ (∀ (s : State) (die dest c : Nat), bit (Tbl.look 0 (s.tm die).pausedByDest dest) c = true →
    ∀ k ∈ s.fabricKids die dest, k.id ≠ c))
  ∧ ((∀ (s : State) (port leaf len : Nat) (t : Tm) (l : TmLeaf) (k : TmPkt) (rest : List TmPkt), s.live (port / 8) = true →
    (s.port port).present = true →
    let g := s.gateRefresh port
    let now := g.modPort port Port.txSafe
    now.choosePort port = some (leaf, len, t) → t.leaf? leaf = some l → l.queue = k :: rest → k.sourceKind = 0 →
    exec (.schedule port) s = .next ((g.setTm (port / 8) (now.chargePath (port / 8) t leaf len)).transmit port k))
  ∧ (∀ (s : State) (port : Nat), s.live (port / 8) = true → (s.port port).present = true →
    let g := s.gateRefresh port
    (g.modPort port Port.txSafe).choosePort port = none → (g.port port).partialTx = none → exec (.schedule port) s = .next g)
  ∧ (∀ (s : State) (port : Nat) (l : TmLeaf), bit (s.gateOf port).gates l.tc = false → s.mayStart port l = false)
  ∧ (∀ (s : State) (port : Nat) (l : TmLeaf), bit (s.port port).paused l.tc = true → bit (s.port port).tripped l.tc = false →
    s.mayStart port l = false)
  ∧ (∀ (s : State) (port : Nat) (n : GateList), (s.gateOf port).next = some n → s.live (port / 8) = true →
    (n.takeover ≤ s.nsAt (port / 8) → exec (.gateTakeover port) s = .next (s.takeOver port n))
    ∧ (s.nsAt (port / 8) < n.takeover → exec (.gateTakeover port) s = .next s))
  ∧ (∀ (s : State) (port : Nat) (l : GateList) (gates n : Nat), s.live (port / 8) = true → (s.gateOf port).next = none →
    (s.gateOf port).running = some l → l.entries[l.entryAt (s.nsAt (port / 8))]? = some (0, gates, n) →
    l.cycleOf (s.nsAt (port / 8)) = (s.gateOf port).cycleNo → l.entryAt (s.nsAt (port / 8)) = (s.gateOf port).entry + 1 →
    gates = (s.gateOf port).gates → (s.gateOf port).hold = (s.port port).hold →
    Runs (.gateEntryChange port) s fun t =>
      (t.gateOf port).entry = l.entryAt (s.nsAt (port / 8)) ∧ (t.gateOf port).gates = gates ∧ (t.gateOf port).running = some l
        ∧ t = { s with tms := t.tms, ports := t.ports } ∧ (t.port port).hold = (s.port port).hold)
  ∧ (∀ (s : State) (port : Nat) (l : GateList), (s.gateOf port).next = none → (s.gateOf port).running = some l →
    l.cycleOf (s.nsAt (port / 8)) = (s.gateOf port).cycleNo → l.entryAt (s.nsAt (port / 8)) = (s.gateOf port).entry →
    exec (.gateEntryChange port) s = .next s)
  ∧ (∀ base cycle decided : Nat, 0 < cycle → decided + 50000 ≤ takeoverAt base cycle decided
      ∧ ∃ k, takeoverAt base cycle decided = base + k * cycle))

/-- A gate list is written as the pending one with its TAKEOVER, OFF removes both lists, and TM_QUERY tells the
buckets as they stand (R366, R369). A bucket never holds more than its size, and is charged for what starts;
SHAPER_SET gives a leaf full buckets of the rates it names, RATE_PROFILE_SET gives a known profile its buckets,
TM_NODE_SET sets a leaf's own fields and refuses a port (R357-R359, R369-R371). -/
def Obligations.TrafficCommands : Prop :=
  ((∀ (s : State) (p : Packet), s.takesRecorded (p.of 0x8503) → p.paramLen = 32 → leAt p.params 1 1 = 1 → leAt p.params 2 2 = 1 →
    leAt p.params 4 4 = 0 → s.portStatusOf (leAt p.params 0 1) = none → 1000 ≤ leAt p.params 0x10 4 →
    leAt p.params 0x10 4 ≤ 1000000000 → leAt p.params 0x14 4 ≤ leAt p.params 0x10 4 → leAt p.params 0x18 1 ≤ 2 →
    10 ≤ leAt p.params 0x1C 4 → leAt p.params 0x1C 4 ≤ 1000000000 → leAt p.params 0x1A 2 = 0 →
    let port := leAt p.params 0 1
    let at_ := takeoverAt (leAt p.params 8 8) (leAt p.params 0x10 4) (s.nsAt s.roles.lead)
    let l : GateList :=
      { base := leAt p.params 8 8, cycle := leAt p.params 0x10 4, extension := leAt p.params 0x14 4, takeover := at_,
        entries := [(leAt p.params 0x18 1, leAt p.params 0x19 1, leAt p.params 0x1C 4)] }
    exec (.gateListSet p) s = .next ((s.setGate port { s.gateOf port with next := some l }).recorded (p.of 0x8503) (toLe 8 at_)))
  ∧ (∀ (s : State) (p : Packet), s.takesRecorded (p.of 0x8503) → p.paramLen = 24 → leAt p.params 1 1 = 0 → leAt p.params 2 2 = 0 →
    leAt p.params 4 4 = 0 → leAt p.params 8 8 = 0 → leAt p.params 0x10 4 = 0 → leAt p.params 0x14 4 = 0 →
    s.portStatusOf (leAt p.params 0 1) = none →
    exec (.gateListSet p) s = .next ((s.removeGates (leAt p.params 0 1)).recorded (p.of 0x8503) (toLe 8 0)))
  ∧ (∀ (s : State) (p : Packet) (n : TmNode), s.takes (p.of 0x0502) → p.paramLen = 8 → leAt p.params 1 1 = 2 →
    leAt p.params 2 2 = 0 → s.dieStatus (leAt p.params 0 1) = none → leAt p.params 4 4 < 8192 →
    let t := s.tm (leAt p.params 0 1)
    let i := leAt p.params 4 4
    let h := n.shaper.at (s.clockAt (leAt p.params 0 1))
    t.node? 2 i = some n → t.leavesOf i = [] →
    exec (.tmQuery p) s = .next (s.replied (p.of 0x0502) (toLe 4 0 ++ toLe 4 0 ++ toLe 4 (wholeBytes h.tokensC)
      ++ toLe 4 (wholeBytes h.tokensP) ++ toLe 4 n.deficit ++ toLe 1 h.state ++ toLe 1 n.prio ++ toLe 1 0
      ++ toLe 1 (b2n h.enable + 2 * b2n n.profile + 4 * b2n (isDefault 2 i)) ++ toLe 4 h.cir ++ toLe 4 h.pir)))
  ∧ (∀ (s : State) (p : Packet), s.takes (p.of 0x0502) → p.paramLen ≠ 8 →
    exec (.tmQuery p) s = .next (s.deliver (p.of 0x0502) ((p.of 0x0502).reply stBadParam 0 0 0 []))))
  ∧ ((∀ (h : Shaper) (now : Nat), (h.at now).tokensC ≤ ((h.cbs * byteUnits : Nat) : Int)
    ∧ (h.tokensC + (((now - h.last) * h.cir : Nat) : Int) ≤ ((h.cbs * byteUnits : Nat) : Int) →
        (h.at now).tokensC = h.tokensC + (((now - h.last) * h.cir : Nat) : Int)))
  ∧ (∀ (h : Shaper) (n : Nat), h.enable = true → 0 < n → h.cir ≠ 0 → h.pir ≠ 0 → h.tokensC = 0 → h.tokensP = 0 →
    h.state = 0 ∧ (h.charge n).state = 2)
  ∧ (∀ (s : State) (p : Packet) (l : TmLeaf), p.paramLen = 24 → leAt p.params 1 1 = 3 → leAt p.params 2 1 = 1 →
    leAt p.params 3 1 = 0 → s.dieStatus (leAt p.params 0 1) = none →
    badRates (leAt p.params 8 4) (leAt p.params 0x0C 4) (leAt p.params 0x10 4) (leAt p.params 0x14 4) = false →
    (s.tm (leAt p.params 0 1)).leaf? (leAt p.params 4 4) = some l →
    partShaper p s = .ok (s.setTm (leAt p.params 0 1) ((s.tm (leAt p.params 0 1)).setLeaf (leAt p.params 4 4)
      { l with
        shaper := { enable := true, cir := leAt p.params 8 4, cbs := leAt p.params 0x0C 4, pir := leAt p.params 0x10 4,
                    pbs := leAt p.params 0x14 4, tokensC := ((leAt p.params 0x0C 4 * byteUnits : Nat) : Int),
                    tokensP := ((leAt p.params 0x14 4 * byteUnits : Nat) : Int), last := s.clockAt (leAt p.params 0 1) } }), []))
  ∧ (∀ (s : State) (p : Packet) (r : RateProfile) (n : TmNode), p.paramLen = 24 → leAt p.params 3 1 = 0 → leAt p.params 5 3 = 0 →
    leAt p.params 0x14 4 = 0 → mClass (leAt p.params 0 3) = 0 → fnPf (leAt p.params 0 3) ≤ 1 →
    s.portStatusOf (leAt p.params 4 1) = none → leAt p.params 0x10 4 = 0 →
    badRates (leAt p.params 8 4) (profileBucket (leAt p.params 8 4)) (leAt p.params 0x0C 4) (profileBucket (leAt p.params 0x0C 4)) = false →
    (s.func (leAt p.params 0 3)).provisioned = true → s.dieStatus (mDie (leAt p.params 0 3)) = none →
    let die := leAt p.params 4 1 / 8
    (s.tm die).profiles.find? (fun x => x.fn == leAt p.params 0 3 && x.port == leAt p.params 4 1) = some r →
    (s.tm die).node? 2 r.node = some n →
    partRateProfile p s = .ok (s.modTm die (fun t => match t.node? 2 r.node with
      | some n => t.setNode 2 r.node { n with shaper := profileShaper (leAt p.params 8 4) (leAt p.params 0x0C 4) (s.clockAt die) }
      | none => t), toLe 4 r.node))
  ∧ (∀ (s : State) (p : Packet) (l : TmLeaf), p.paramLen = 32 → leAt p.params 1 1 = 1 → leAt p.params 2 1 = 0 →
    leAt p.params 3 1 = 0 → s.dieStatus (leAt p.params 0 1) = none → allZero (sub p.params 0x15 3 ++ sub p.params 0x1C 4) = true →
    leAt p.params 4 4 < 65535 → leAt p.params 8 1 ≤ 7 → leAt p.params 9 1 ≤ 7 → leAt p.params 0x0A 2 ≠ 0 →
    leAt p.params 0x10 4 ≠ 0 → leAt p.params 0x10 4 ≤ 196608 → leAt p.params 0x14 1 ≤ 7 → leAt p.params 0x18 4 = 0xFFFFFFFF →
    let die := leAt p.params 0 1
    let i := leAt p.params 4 4
    (s.tm die).leaf? i = some l → l.profile = false → (s.tm die).badParent 3 (leAt p.params 0x0C 4) ((s.tm die).portOf 3 i) = none →
    l.parent = leAt p.params 0x0C 4 → l.quantum = leAt p.params 0x0A 2 →
    partTmNode p s = .ok (s.setTm die ((s.tm die).setLeaf i
      { l with prio := leAt p.params 8 1, tc := leAt p.params 9 1, maxCells := leAt p.params 0x10 4, alpha := leAt p.params 0x14 1,
               dropCounter := none }), []))
  ∧ (∀ (s : State) (p : Packet), p.paramLen = 32 → leAt p.params 1 1 = 0 → leAt p.params 2 1 = 1 → leAt p.params 3 1 = 0 →
    s.dieStatus (leAt p.params 0 1) = none → allZero (sub p.params 8 24) = true → leAt p.params 4 4 < 8 →
    partTmNode p s = .error stBadParam))

/-- A parameter set is written at the commit's tempo and a packet of an earlier tempo still reads the old one, a
policer is written as its record says, and a clear zeroes the pairs of a range at once (R271, R298, R303, R304).
KEY_INSTALL puts a version born at the commit's tempo into its slot, KEY_RETIRE retires the visible one, and
QUEUE_SET_MAPPING writes the RSS entries (R402-R404, R442, R451). -/
def Obligations.RecordsKeysAndMappings : Prop :=
  ((∀ (s : State) (p : Packet) (die tempo : Nat), p.paramLen = 40 → leAt p.params 0 1 = 0 → leAt p.params 2 2 = 1 →
    leAt p.params 4 4 < 8192 → s.diesStatus (leAt p.params 1 1) = none → s.namedDies (leAt p.params 1 1) = [die] →
    partActionParam p tempo s = .ok (s.putSet die (leAt p.params 4 4) tempo (sub p.params 8 32), []))
  ∧ (∀ (s : State) (p : Packet) (die tempo : Nat), p.paramLen = 12 → leAt p.params 0 1 = 3 → leAt p.params 2 2 = 1 → p.txn = 0 →
    leAt p.params 4 4 + leAt p.params 8 4 ≤ 4194304 → s.diesStatus (leAt p.params 1 1) = none →
    s.namedDies (leAt p.params 1 1) = [die] →
    partActionParam p tempo s = .ok (s.modPipe die (fun q => q.clearPairs (leAt p.params 4 4) (leAt p.params 8 4)), []))
  ∧ (∀ (s : State) (p : Packet) (die tempo : Nat), p.paramLen = 28 → leAt p.params 0 1 = 4 → leAt p.params 2 1 = 0 →
    leAt p.params 3 1 = 0 → leAt p.params 4 4 < 32768 → policerBad (p.params.drop 8) = false →
    s.diesStatus (leAt p.params 1 1) = none → s.namedDies (leAt p.params 1 1) = [die] →
    partSteerSet p tempo s = .ok (s.putPolicer die (leAt p.params 4 4) (policerOf (p.params.drop 8)), []))
  ∧ (∀ (s : State) (p : Packet) (die tempo : Nat), p.paramLen = 8 → leAt p.params 0 1 = 4 → leAt p.params 2 1 = 1 →
    leAt p.params 3 1 = 0 → leAt p.params 4 4 < 32768 → s.diesStatus (leAt p.params 1 1) = none →
    s.namedDies (leAt p.params 1 1) = [die] →
    partSteerSet p tempo s = .ok (s.putPolicer die (leAt p.params 4 4) Policer.reset, []))
  ∧ (∀ (v : Versioned) (bs : List Byte) (tempo t : Nat), earlier t tempo = false → (v.write tempo bs).read t = bs)
  ∧ (∀ (v : Versioned) (bs : List Byte) (tempo t : Nat), earlier t tempo = true → (v.write tempo bs).read t = v.newValue)
  ∧ (∀ (s : State) (p : Packet), s.takesRecorded (p.of 0x8403) → p.paramLen = 12 → leAt p.params 0 1 = 3 → leAt p.params 2 2 = 1 →
    p.txn = 0 → leAt p.params 4 4 + leAt p.params 8 4 ≤ 4194304 → s.diesStatus (leAt p.params 1 1) = none →
    ∀ die, s.namedDies (leAt p.params 1 1) = [die] →
    exec (.actionParamSet p) s =
      .next ((s.modPipe die (fun q => q.clearPairs (leAt p.params 4 4) (leAt p.params 8 4))).recorded (p.of 0x8403) [])))
  ∧ ((∀ (s : State) (p : Packet) (tempo : Nat), p.paramLen = 88 → leAt p.params 1 3 = 0 → leAt p.params 4 4 < 2 ^ 17 →
    cfgGood (leAt p.params 0x38 8) = true → s.pageForbids (leAt p.params 0 1) (leAt p.params 4 4) (leAt p.params 0x38 8) = false →
    s.dieStatus (leAt p.params 0 1) = none →
    partKeyInstall p tempo s = .ok (s.setKeySlot (leAt p.params 0 1) (leAt p.params 4 4)
      ((s.keySlot (leAt p.params 0 1) (leAt p.params 4 4)).put (newVersion (leAt p.params 8 32) (leAt p.params 0x28 12)
        (leAt p.params 0x34 4) (cfgMask (leAt p.params 0x38 8)) (leAt p.params 0x40 8) (leAt p.params 0x48 8)
        (leAt p.params 0x50 8) tempo)), []))
  ∧ (∀ (s : State) (p : Packet) (tempo : Nat) (v : KeyVersion), p.paramLen = 8 → leAt p.params 1 3 = 0 → leAt p.params 4 4 < 2 ^ 17 →
    s.dieStatus (leAt p.params 0 1) = none → (s.keySlot (leAt p.params 0 1) (leAt p.params 4 4)).at tempo = some v →
    partKeyRetire p tempo s = .ok (s.setKeySlot (leAt p.params 0 1) (leAt p.params 4 4)
      ((s.keySlot (leAt p.params 0 1) (leAt p.params 4 4)).retire tempo), []))
  ∧ (∀ (s : State) (p : Packet) (tempo : Nat), p.paramLen = 8 → leAt p.params 1 3 = 0 → leAt p.params 4 4 < 2 ^ 17 →
    s.dieStatus (leAt p.params 0 1) = none → (s.keySlot (leAt p.params 0 1) (leAt p.params 4 4)).at tempo = none →
    partKeyRetire p tempo s = .error stNotFound)
  ∧ (∀ (cfg id limit born : Nat), bits cfg 3 0 ≠ 3 → bit cfg 6 = true → (newVersion 0 0 0 cfg id 0 limit born).seq = 1)
  ∧ (∀ (s : State) (p : Packet), s.checkMapping p = none → leAt p.params 3 1 = 0 →
    partMapping p s = .ok (s.modFunc (leAt p.params 0 3) (fun f =>
      { f with rssWritten := true,
               rss := (List.range (leAt p.params 5 1)).foldl (fun t i => Tbl.put 0 t (leAt p.params 4 1 + i) (leAt p.params (8 + i) 1))
                 f.rss }), []))
  ∧ (∀ (s : State) (p : Packet) (st : Nat), s.checkMapping p = some st → partMapping p s = .error st))

/-- TIME_QUERY reads the model, TIME_SET and TIME_ADJUST give a change its tick 3,200 ticks ahead, one change at a
time; at the change tick the new model is in force; a measurement moves the tick by at most one, sixteen good ones
align a die, and none for 10 ms loses the alignment; before its tick a change does nothing; CAPTURE holds tick and
time of one clock (R376-R384, R397). PPS_CONFIG takes effect at once while no pulse stands, else at its end; an edge
of the chosen direction is stamped and counted, one within 1,600 ticks of the last is ignored, and a pulse rises at a
multiple of its period and falls after its width (R393, R394). -/
def Obligations.Time : Prop :=
  ((∀ (s : State) (p : Packet), s.takes (p.of 0x0601) → p.paramLen = 0 → exec (.timeQuery p) s = .next (s.replied (p.of 0x0601)
    (toLe 8 (s.tickAt s.roles.lead) ++ toLe 12 (s.timeModel.full (s.tickAt s.roles.lead)) ++ toLe 4 (s.timeStatus s.roles.lead)
      ++ toLe 8 s.timeModel.rate)))
  ∧ (∀ (s : State) (p : Packet), s.takesRecorded (p.of 0x0602) → s.timeModel.pending = none → p.paramLen = 16 →
    leAt p.params 10 6 = 0 → exec (.timeSet p) s = .next ((s.setPending (s.leadTick + 3200) 0 0 true
      (leAt p.params 0 8 * 2 ^ 16 + leAt p.params 8 2)).recorded (p.of 0x0602) (toLe 8 (s.leadTick + 3200))))
  ∧ (∀ (s : State) (p : Packet), s.takesRecorded (p.of 0x8601) → s.timeModel.pending = none → p.paramLen = 32 →
    leAt p.params 0 1 = 2 → leAt p.params 1 7 = 0 → leAt p.params 8 8 = 0 → leAt p.params 0x10 8 = 0 →
    nominalRate ≤ leAt p.params 0x18 8 + rateSpan → leAt p.params 0x18 8 ≤ nominalRate + rateSpan →
    exec (.timeAdjust p) s = .next ((s.setPending (s.leadTick + 3200) 0 (leAt p.params 0x18 8) false 0).recorded (p.of 0x8601)
      (toLe 8 (s.leadTick + 3200))))
  ∧ (∀ (s : State) (p : Packet) (x : Nat × Int × Nat × Bool × Nat), s.takesRecorded (p.of 0x0602) → s.timeModel.pending = some x →
    exec (.timeSet p) s = .next (s.deliver (p.of 0x0602) ((p.of 0x0602).reply stBusy 0 0 0 [])))
  ∧ (∀ s : State, s.timeModel.pending = none → exec .timeChangeTick s = .next s)
  ∧ (∀ (s : State) (k rate value : Nat) (step : Int) (set : Bool), s.timeModel.pending = some (k, step, rate, set, value) →
    s.ready = true →
    ((∃ d ∈ s.workingDies, s.tickAt d < k) → exec .timeChangeTick s = .next s)
    ∧ ((∀ d ∈ s.workingDies, k ≤ s.tickAt d) → (∀ p < 64, (s.port p).present = false) →
      let t : State := { s with timeModel := s.timeModel.rebase }
      exec .timeChangeTick s = .next ((if set || value == 1 then t.ppsAfresh else t).markLate s.nowNs)))
  ∧ (∀ (m : TimeModel) (k value : Nat), m.pending = some (k, 0, 0, true, value) → value < 2 ^ 96 →
    m.rebase = { m with offset := value, offsetSub := 0, baseTick := k, pending := none, valid := true, steps := satAdd 0xFFFF m.steps 1 })
  ∧ (∀ (s : State) (die : Nat) (offset : Int), s.live die = true → die ≠ s.timeModel.refDie → offset.natAbs ≤ 4 →
    Runs (.alignmentMeasurement die offset) s fun t =>
      (t.dieTime die).alignErr = offset.natAbs ∧ (t.dieTime die).goodRuns = min 16 ((s.dieTime die).goodRuns + 1)
        ∧ (t.dieTime die).tick = (s.dieTime die).tick + (if offset = 0 then 0 else 1)
        ∧ ((t.dieTime die).aligned = true ↔ (s.dieTime die).aligned = true ∨ 15 ≤ (s.dieTime die).goodRuns)
        ∧ t = { s with times := t.times })
  ∧ (∀ (s : State) (die : Nat), s.live die = true → die ≠ s.timeModel.refDie → (s.dieTime die).aligned = true →
    (s.dieTime die).measured + 10 * ticksPerMs ≤ (s.dieTime die).tick → Runs (.alignmentTimeout die) s fun t => (t.dieTime die).aligned = false ∧ (t.dieTime die).goodRuns = 0
      ∧ (∃ e ∈ t.errors.latched, e.cause = 0x0902 ∧ e.die = die) ∧ t = { s with times := t.times, errors := t.errors })
  ∧ (∀ (s : State) (die : Nat), (s.dieTime die).tick < (s.dieTime die).measured + 10 * ticksPerMs →
    exec (.alignmentTimeout die) s = .next s)
  ∧ (∀ (s : State) (die : Nat), s.hostReach die = true → exec (.timeCapture die) s = .next (s.modDieTime die (fun t =>
      { t with capTick := s.tickAt die, capTime := s.timeModel.full (s.tickAt die) }))))
  ∧ ((∀ (s : State) (p : Packet), s.takesRecorded (p.of 0x8602) → p.paramLen = 16 → s.pps.out = false →
    let c := ppsOf (leAt p.params 0 16)
    1000 ≤ c.periodNs → c.periodNs ≤ 1000000000 → c.widthNs ≠ 0 → c.widthNs < c.periodNs →
    exec (.ppsConfig p) s =
      .next (({ s with pps := { s.pps with cfg := Staged.both c } } : State).ppsAfresh.recorded (p.of 0x8602) []))
  ∧ (∀ (s : State) (ph : Nat), s.live s.servingDie = true → s.pps.cfg.inEffect.inEnable = true → s.pps.cfg.inEffect.inFalling = false →
    s.pps.lastEdge = none → s.pps.cfg.inEffect.vector = 0x7FF → exec (.ppsInEdge ⟨true, ph⟩) s = .next { s with
      pps := { s.pps with stamp := moveStamp (s.stampAt s.servingDie + ph % 8 * s.timeModel.rate / 8 / 2 ^ 32)
                            (-(signed 16 s.pps.cfg.inEffect.inAdj)),
                          count := (s.pps.count + 1) % 2 ^ 16, new := true, lastEdge := some (s.tickAt s.servingDie) } })
  ∧ (∀ (s : State) (l ph : Nat) (rising : Bool), s.pps.lastEdge = some l → s.tickAt s.servingDie < l + 1600 →
    exec (.ppsInEdge ⟨rising, ph⟩) s = .next s)
  ∧ (∀ s : State, s.live s.servingDie = true → s.pps.out = false → s.pps.cfg.inEffect.outEnable = true →
    s.pps.cfg.inEffect.outWaitValid = false →
    (s.pps.nextRise ≤ s.ppsTime → exec (.ppsOutPulse true) s = .next (({ s with
      pps := { s.pps with out := true, outTick := s.tickAt s.servingDie, outFrom := s.ppsTime + 1 } } : State).emit
        (.pin pinPpsOut true)))
    ∧ (s.ppsTime < s.pps.nextRise → exec (.ppsOutPulse true) s = .next s))
  ∧ (∀ s : State, s.live s.servingDie = true → s.pps.out = true →
    (s.pps.outTick + ceilDiv (8 * s.pps.cfg.inEffect.widthNs) 5 ≤ s.tickAt s.servingDie → exec (.ppsOutPulse false) s =
      .next (({ s with pps := { s.pps with out := false, cfg := Staged.both s.pps.cfg.written } } : State).emit
        (.pin pinPpsOut false)))
    ∧ (s.tickAt s.servingDie < s.pps.outTick + ceilDiv (8 * s.pps.cfg.inEffect.widthNs) 5 → exec (.ppsOutPulse false) s = .next s)))

/-- QUEUE_CREATE makes a queue pair with all indices 0 under the number asked for, QUEUE_DESTROY takes it away,
QUEUE_QUERY tells its status and attributes, and a VF that is not provisioned is answered NOT_PERMITTED (R421, R422,
R451, R481). A doorbell moves its index, or is ignored and sets INDEX_ERR where it would leave more than S entries
between the indices; up to eight entries are read at a time and none beyond TAIL, an entry without OWN makes the
fetcher wait, and one that fails its check halts the function (R423-R427, R434, R440, R443). -/
def Obligations.QueuesAndDoorbells : Prop :=
  ((∀ (s : State) (p : Packet) (fn : Nat), s.takesRecorded (p.of 0x0201) → s.queueTarget (p.of 0x0201) 32 = .ok fn →
    badQueueParams p.params = false → (s.queuesOf fn).length < (s.func fn).queuePairs → (s.queuesOf fn).length < 256 →
    leAt p.params 1 1 = 0 → 2 ≤ s.sharedSlots (mDie fn) → leAt p.params 0 1 ≠ 0xFF →
    (s.queuesOf fn).contains (leAt p.params 0 1) = false → s.canIssue fn = true → (s.func fn).rssWritten = true →
    exec (.queueCreate p) s = .next ((s.setQueue fn (leAt p.params 0 1) (newQueue p.params none)).recorded (p.of 0x0201)
      (toLe 1 (leAt p.params 0 1) ++ toLe 1 0 ++ toLe 2 (16 * leAt p.params 0 1))))
  ∧ (∀ b : List Byte, (newQueue b none).sqHead = 0 ∧ (newQueue b none).sqTail = 0 ∧ (newQueue b none).cqTail = 0
      ∧ (newQueue b none).cqHead = 0 ∧ (newQueue b none).accepted = [] ∧ (newQueue b none).held = [])
  ∧ (∀ (s : State) (p : Packet) (fn : Nat), s.takesRecorded (p.of 0x0201) → s.queueTarget (p.of 0x0201) 32 = .ok fn →
    badQueueParams p.params = true → exec (.queueCreate p) s = .next (s.recordedAs (p.of 0x0201) stBadParam []))
  ∧ (∀ (s : State) (p : Packet) (fn : Nat) (q : QueuePair), s.takesRecorded (p.of 0x0202) →
    s.queueTarget (p.of 0x0202) 4 = .ok fn → s.queue? fn (leAt p.params 0 1) = some q → leAt p.params 1 3 = 0 →
    q.forced = true → q.channel = none → q.backlog = [] → (s.func fn).rssWritten = true →
    Runs (.queueDestroy p) s fun t => t.queue? fn (leAt p.params 0 1) = none
      ∧ (∀ k, k ≠ queueKey fn (leAt p.params 0 1) → Tbl.find t.queues k = Tbl.find s.queues k)
      ∧ t.like ({ s with queues := t.queues, tags := t.tags, channels := t.channels } : State))
  ∧ (∀ (s : State) (p : Packet) (fn : Nat) (q : QueuePair), s.takes (p.of 0x0203) → s.queueTarget (p.of 0x0203) 4 = .ok fn →
    s.queue? fn (leAt p.params 0 1) = some q → leAt p.params 1 3 = 0 →
    exec (.queueQuery p) s = .next (s.replied (p.of 0x0203) (toLe 16 (s.qstatus fn q) ++ q.attr (leAt p.params 0 1))))
  ∧ (∀ (s : State) (p : Packet), s.decides = true → s.framing (p.of 0x0203) = none → s.leadGone = false → s.heldFor (p.of 0x0203) < 16 →
    s.bare (p.of 0x0203) = true → s.tempo.inProgress = none →
    exec (.queueQuery p) s = .next (s.deliver (p.of 0x0203) ((p.of 0x0203).reply stNotPermitted 0 0 0 []))))
  ∧ ((∀ (s : State) (fn n i : Nat) (q : QueuePair), s.hostReach (mDie fn) = true → s.isStorage fn = false → s.queue? fn n = some q →
    (ringCount (i % 65536) q.sqHead ≤ q.sqSize →
      exec (.sqDoorbell fn n i) s = .next (s.setQueue fn n { q with sqTail := i % 65536, ownWait := false, backoffUs := 0 }))
    ∧ (q.sqSize < ringCount (i % 65536) q.sqHead → exec (.sqDoorbell fn n i) s = .next (s.setQueue fn n { q with indexErr := true })))
  ∧ (∀ (s : State) (fn n i : Nat) (arm : Bool) (q : QueuePair), s.hostReach (mDie fn) = true → s.isStorage fn = false →
    s.queue? fn n = some q → q.mode ≠ .ownWb →
    (ringCount q.cqTail (i % 65536) ≤ q.hostHeld → exec (.cqDoorbell fn n i arm) s =
      .next ((s.setQueue fn n { q with
        cqHead := i % 65536, armed := q.armed || arm,
        writtenAt := q.writtenAt.drop (q.writtenAt.length - ringCount q.cqTail (i % 65536)) }).signalCheck fn n false))
    ∧ (q.hostHeld < ringCount q.cqTail (i % 65536) → exec (.cqDoorbell fn n i arm) s = .next (s.setQueue fn n { q with indexErr := true })))
  ∧ (∀ (s t : State) (fn n : Nat) (q : QueuePair), s.isStorage fn = false → s.queue? fn n = some q → s.live (mDie fn) = true →
    (s.func fn).txHeld = false → s.fetchStopped fn q = false → ringCount q.sqTail q.fetch ≠ 0 → ringCount q.sqTail q.fetch ≤ q.sqSize →
    s.controlRead fn n = none → s.tableRead fn n = none → s.ideBlocks fn (q.sqAddr q.fetch) = false →
    s.issueRead fn (.control n q.fetch (min 8 (ringCount q.sqTail q.fetch))) (64 * min 8 (ringCount q.sqTail q.fetch)) = some t →
    (q.ownWait = false → exec (.sqFetch fn n) s = .next t)
    ∧ (q.ownWait = true → exec (.sqFetch fn n) s = .next s
      ∧ (q.ownSince + q.backoffUs * ticksPerUs ≤ s.dieTick (mDie fn) → exec (.ownWaitRetry fn n) s = .next t)
      ∧ (s.dieTick (mDie fn) < q.ownSince + q.backoffUs * ticksPerUs → exec (.ownWaitRetry fn n) s = .next s))
    ∧ (q.retried = true → exec (.controlFetchRetry fn n q.fetch) s = .next t))
  ∧ (∀ (s : State) (fn n k i : Nat), s.live (mDie fn) = true → s.canIssue fn = true →
    (s.tableRead fn n = none → s.controlRead fn n = some (k, i, 1) →
      exec (.sqEntryFetched fn n) s = .next (({ s with tags := Tbl.del s.tags k } : State).takeEntry fn n 1 false).1)
    ∧ (s.tableRead fn n = some (k, i, 1) →
      exec (.sqEntryFetched fn n) s = .next (({ s with tags := Tbl.del s.tags k } : State).takeEntry fn n 1 true).1))
  ∧ (∀ (s : State) (fn n left : Nat) (q : QueuePair) (ready : Bool), s.queue? fn n = some q →
    ((s.func fn).halted = true ∨ s.slotsFor (mDie fn) q (q.inFlight + 1) = false → s.takeEntry fn n left ready = (s, false))
    ∧ ((s.func fn).halted = false → s.slotsFor (mDie fn) q (q.inFlight + 1) = true →
      (bit (leAt (s.hostRead fn (q.sqAddr q.fetch) 64) 3 1) 0 = false → s.takeEntry fn n left ready = (s.setQueue fn n { q with
        ownWait := true, backoffUs := if q.backoffUs = 0 then 1 else min 1000 (2 * q.backoffUs),
        ownSince := s.dieTick (mDie fn) }, false))
      ∧ (q.kind = .rx → bit (leAt (s.hostRead fn (q.sqAddr q.fetch) 64) 3 1) 0 = true →
        leAt (s.hostRead fn (q.sqAddr q.fetch) 64) 0 1 = 1 → s.takeEntry fn n left ready = (s.halt fn haltOpcode n q.fetch, false))))
  ∧ (∀ (s : State) (fn n : Nat), s.controlRead fn n = none → s.tableRead fn n = none → exec (.sqEntryFetched fn n) s = .next s))

/-- A SEND's data, once read (with no tag free the read waits, R93), become one packet of P1 and the entry completes;
a SEND_TSO is split (as the model completes it, log 29); an RX_POST posts its buffer; a NOP completes; nothing is sent
from a queue being destroyed; an entry that finishes waits behind those before it (R430, R432, R433, R437). -/
def Obligations.SubmitEntries : Prop :=
  (∀ (s : State) (fn n i : Nat) (q : QueuePair) (e : SubmitEntry), s.readyEntry fn n i 1 = some (q, e) → s.canIssue fn = true →
    q.forced = false → bit e.ctrl 1 = false → e.opcode = 1 →
    (s.needRead fn (.payload n e.index) e.totalLen = none → exec (.send fn n i) s = .next s)
    ∧ ∀ w, s.needRead fn (.payload n e.index) e.totalLen = some w →
    let r := w.retireRead fn (.payload n e.index)
    r.fragsBlocked fn e.frags = false →
    exec (.send fn n i) s = .next (((r.takeCells (mDie fn) (cellsFor e.totalLen)).offerP1 (mDie fn)
      { sourceKind := 1, sourceId := fn, tc := e.tc, bytes := r.readFrags fn e.frags,
        tx := some { fn := fn, queue := n, index := e.index, csumFlags := e.csumFlags, offs := e.offs, mss := e.mss,
                     hdrLen := e.hdrLen, wantStamp := false, oneStep := bit e.ctrl 2 },
        cells := cellsFor e.totalLen, ing := none, stamp := 0, inTick := 0 }).finishEntry fn n e.index 0 e.totalLen))
  ∧ (∀ (s : State) (fn n i : Nat) (q : QueuePair) (e : SubmitEntry), s.readyEntry fn n i 2 = some (q, e) → s.canIssue fn = true →
    q.forced = false →
    (s.needRead fn (.payload n e.index) e.totalLen = none → exec (.sendTso fn n i) s = .next s)
    ∧ ∀ w, s.needRead fn (.payload n e.index) e.totalLen = some w → exec (.sendTso fn n i) s = .next (w.sendEntry fn n q e))
  ∧ (∀ (s : State) (fn n i op : Nat) (q : QueuePair) (e : SubmitEntry), s.readyEntry fn n i op = some (q, e) → q.forced = true →
    (op = 1 → exec (.send fn n i) s = .next s) ∧ (op = 2 → exec (.sendTso fn n i) s = .next s))
  ∧ (∀ (s : State) (fn n i : Nat) (q : QueuePair) (e : SubmitEntry), s.readyEntry fn n i 0x10 = some (q, e) → q.backlog = [] →
    exec (.rxPost fn n i) s = .next (s.modQueue fn n (fun q => q.modEntry i (fun e => { e with phase := .posted }))))
  ∧ (∀ (s : State) (fn n i : Nat) (q : QueuePair) (e : SubmitEntry), s.readyEntry fn n i 0x3F = some (q, e) →
    exec (.nop fn n i) s = .next (s.finishEntry fn n i 0 0))
  ∧ (∀ (q : QueuePair) (a b : SubmitEntry), q.accepted = [a, b] → a.phase ≠ .finished → q.formAll = q)
  ∧ (∀ (q : QueuePair) (e : SubmitEntry), q.accepted = [e] → e.phase = .finished → q.mode = .entry →
    q.formAll = { q with accepted := [], held := q.held ++ [(cplBytes e true false e.info, bit e.ctrl 3, 1)] })

/-- A packet that no posted buffer can take waits if its class is lossless, else is dropped and counted; one longer
than any buffer, one on a FROZEN link and one that waited RX_HOLD_US are dropped; a held completion is written while
the CQ has room, its index moves, and the vector follows (R433, R436-R441). -/
def Obligations.ReceiveAndComplete : Prop :=
  (∀ (s : State) (fn n : Nat) (pkt : TmPkt) (q : QueuePair), s.live (mDie fn) = true → (s.link (mDie fn)).frozen = false →
    (s.func fn).halted = false → s.canIssue fn = true → (s.func fn).mig = .running → s.queue? fn n = some q → q.kind = .rx →
    q.backlog = [] →
    (∀ l, s.rxOutcome fn q pkt.bytes.length = .deliver l → exec (.rxDeliver fn n pkt) s = .next (s.rxWrite fn n pkt l))
    ∧ (s.rxOutcome fn q pkt.bytes.length = .tooLong → exec (.rxDeliver fn n pkt) s = .next ((s.modFunc fn (fun f =>
        { f with rxTooLong := (f.rxTooLong + 1) % 2 ^ 64 })).freeTm (mDie fn) pkt))
    ∧ (s.rxOutcome fn q pkt.bytes.length = .lacking → ((s.tm (mDie fn)).cls pkt.ingressClass).lossless = true →
        exec (.rxDeliver fn n pkt) s = .next (s.setQueue fn n { q with backlog := [(s.dieTick (mDie fn), pkt)] }))
    ∧ (s.rxOutcome fn q pkt.bytes.length = .lacking → ((s.tm (mDie fn)).cls pkt.ingressClass).lossless = false →
        exec (.rxDeliver fn n pkt) s = .next ((s.modFunc fn (fun f =>
          { f with rxNoSpace := (f.rxNoSpace + 1) % 2 ^ 64 })).freeTm (mDie fn) pkt)))
  ∧ (∀ (s : State) (fn n : Nat) (pkt : TmPkt), s.live (mDie fn) = true → (s.link (mDie fn)).frozen = true →
    exec (.rxDeliver fn n pkt) s = .next ((s.modLink (mDie fn) (fun l =>
      { l with containedDrops := satAdd 0xFFFFFFFF l.containedDrops 1 })).freeTm (mDie fn) pkt))
  ∧ (∀ (s : State) (fn n since : Nat) (q : QueuePair) (p : TmPkt) (rest : List (Nat × TmPkt)), s.queue? fn n = some q →
    q.backlog = (since, p) :: rest →
    (s.dieTick (mDie fn) < since + q.rxHoldUs * ticksPerUs → exec (.rxHoldExpiry fn n) s = .next s)
    ∧ (since + q.rxHoldUs * ticksPerUs ≤ s.dieTick (mDie fn) → exec (.rxHoldExpiry fn n) s = .next (((s.setQueue fn n { q with backlog := rest }).modFunc fn (fun f =>
      { f.countNoSpace with rxHoldExpired := (f.rxHoldExpired + 1) % 2 ^ 64 })).freeTm (mDie fn) p)))
  ∧ (∀ (s : State) (fn n k : Nat) (q : QueuePair) (bs : List Byte) (irq : Bool) (rest : List (List Byte × Bool × Nat)),
    s.live (mDie fn) = true → s.queue? fn n = some q → q.held = (bs, irq, k) :: rest → s.canIssue fn = true →
    (s.func fn).mig = .running → q.mode = .entry → q.hostHeld < q.cqSize → q.wbAddr = 0 →
    exec (.completionWrite fn n) s = .next ((((s.queueWrite fn n (q.cqAddr q.cqTail) bs).setQueue fn n { q with
      held := rest, sqHead := (q.sqHead + k) % 65536, cqTail := (q.cqTail + 1) % 65536,
      writtenAt := q.writtenAt ++ [s.dieTick (mDie fn)] }).signalCheck fn n irq).drainBacklogs (mDie fn)))
  ∧ (∀ (s : State) (fn n k : Nat) (q : QueuePair) (bs : List Byte) (irq : Bool) (rest : List (List Byte × Bool × Nat)),
    s.live (mDie fn) = true → s.queue? fn n = some q → q.held = (bs, irq, k) :: rest → q.mode = .entry → q.cqSize ≤ q.hostHeld →
    exec (.completionWrite fn n) s = .next (s.drainBacklogs (mDie fn)))
  ∧ (∀ (s : State) (fn n v at_ : Nat) (q : QueuePair), s.live (mDie fn) = true → s.queue? fn n = some q → q.armed = true →
    q.mode = .entry → 0 < q.hostHeld → q.vector = some v → q.writtenAt.head? = some at_ →
    (at_ + q.intUsec * ticksPerUs ≤ s.dieTick (mDie fn) →
      exec (.interruptModerationExpiry fn n) s = .next ((s.setQueue fn n { q with armed := false }).msi fn v))
    ∧ (s.dieTick (mDie fn) < at_ + q.intUsec * ticksPerUs → exec (.interruptModerationExpiry fn n) s = .next s))

/-- Each step makes the requests asked for (log 16), each with the tags of its reads or not at all, a COMPARE stops at
the first difference, a FILL moves on through its nest; with READ_BACK the descriptor ends only when its last bytes
have been read; PAUSE holds the channel, ABORT ends the descriptor as ABORTED, an acknowledgement lowers the pacing
level; a binder's GO starts the descriptor in DMA_ELEM, every other agent's is ignored, and DMA_ELEM is written only
while the channel is idle or paused (R445-R450). -/
def Obligations.DmaChannels : Prop :=
  (∀ (s : State) (die chan : Nat), descOp (s.dmaCh (dmaKey die chan)).elem = 0x20 → s.dmaLive (dmaKey die chan) = true →
    (s.dmaCh (dmaKey die chan)).runs = true → exec (.dmaCopy die chan 1) s = .next (s.dmaRequest (dmaKey die chan)))
  ∧ (∀ (s : State) (die chan : Nat), descOp (s.dmaCh (dmaKey die chan)).elem = 0x21 → s.dmaLive (dmaKey die chan) = true →
    (s.dmaCh (dmaKey die chan)).runs = true → exec (.dmaFill die chan 1) s = .next (s.dmaRequest (dmaKey die chan)))
  ∧ (∀ (s : State) (die chan : Nat), let k := dmaKey die chan
    (s.dmaIssue k = none → s.dmaRequest k = s) ∧ ∀ t, s.dmaIssue k = some t →
      s.dmaRequest k = ((t.dmaRetire k).orderSafe (k / 64)).dmaMove k)
  ∧ (∀ (s : State) (die chan : Nat), let k := dmaKey die chan
    descOp (s.dmaCh k).elem = 0x22 → s.dmaLive k = true → (s.dmaCh k).runs = true →
    exec (.dmaCompare die chan 1) s = .next (s.dmaRequest k))
  ∧ (∀ (s : State) (k i : Nat), let c := s.dmaCh k
    descOp c.elem = 0x22 → descFlags c.elem = 0 → s.ideBlocks (s.dmaFn k) (c.srcAddr + c.offset) = false →
    s.ideBlocks (s.dmaFn k) (c.dstAddr + c.offset) = false →
    firstDiff (s.spaceRead k 0 (c.srcAddr + c.offset) (min 512 (descLen c.elem - c.offset)))
      (s.spaceRead k 0 (c.dstAddr + c.offset) (min 512 (descLen c.elem - c.offset))) 0 = some i →
    s.dmaMove k = ((s.setDmaCh k { c with
      high := Staged.both c.high.written, low := Staged.both c.low.written }).endDma k 0x04 (c.done + i)))
  ∧ (∀ (s : State) (die chan : Nat), let k := dmaKey die chan
    let c := s.dmaCh k
    descOp c.elem = 0x21 → descFlags c.elem = 0 → descLen c.elem ≤ 512 → 1 < descCount c.elem 0 → c.offset = 0 → c.i0 = 0 →
    s.dmaLive k = true → c.runs = true → s.ideBlocks (s.dmaFn k) c.dstAddr = false →
    Runs (.dmaFill die chan 1) s fun t => (t.dmaCh k).i0 = 1 ∧ (t.dmaCh k).offset = 0 ∧ (t.dmaCh k).busy = true
      ∧ (t.dmaCh k).elem = c.elem ∧ t.like ({ s with channels := t.channels, tags := t.tags, links := t.links } : State))
  ∧ (∀ (s : State) (die chan : Nat), (s.dmaCh (dmaKey die chan)).readBack = true → s.dmaLive (dmaKey die chan) = true →
    (s.dmaIssue (dmaKey die chan) = none → exec (.dmaReadBack die chan) s = .next s)
    ∧ ∀ t, s.dmaIssue (dmaKey die chan) = some t →
      exec (.dmaReadBack die chan) s = .next (t.endDma (dmaKey die chan) 0 (s.dmaCh (dmaKey die chan)).done))
  ∧ (∀ (s : State) (die chan : Nat) (on : Bool), s.live die = true →
    exec (.dmaPause die chan on) s = .next (s.modDmaCh (dmaKey die chan) (fun c => { c with pause := on })))
  ∧ (∀ (s : State) (die chan : Nat), s.live die = true → (s.dmaCh (dmaKey die chan)).busy = true →
    exec (.dmaAbort die chan) s = .next (s.endDma (dmaKey die chan) 0x07 (s.dmaCh (dmaKey die chan)).done))
  ∧ (∀ (s : State) (die chan n : Nat), s.live die = true →
    exec (.paceAck die chan n) s = .next (s.modDmaCh (dmaKey die chan) (fun c => c.ack n)))
  ∧ (∀ (s : State) (die chan q : Nat), s.live die = true → (s.dmaCh (dmaKey die chan)).binder = .sequencer q →
    (s.dmaCh (dmaKey die chan)).busy = false → checkDescriptor (s.func (s.dmaFn (dmaKey die chan))) false (s.dmaCh (dmaKey die chan)).elem = 0 →
    Runs (.dmaGo die chan (seqId q)) s fun t => (t.dmaCh (dmaKey die chan)).busy = true ∧ (t.dmaCh (dmaKey die chan)).offset = 0
      ∧ (t.dmaCh (dmaKey die chan)).i0 = 0 ∧ t = { s with channels := t.channels, tags := t.tags, links := t.links })
  ∧ (∀ (s : State) (die chan q b : Nat), (s.dmaCh (dmaKey die chan)).binder = .sequencer q → b ≠ seqId q →
    exec (.dmaGo die chan b) s = .next s ∧ ∀ (o : Nat) (bs : List Byte), exec (.dmaElemWrite die chan b o bs) s = .next s)
  ∧ (∀ (s : State) (die chan q o : Nat) (bs : List Byte), s.live die = true → (s.dmaCh (dmaKey die chan)).binder = .sequencer q →
    ((s.dmaCh (dmaKey die chan)).busy = false → exec (.dmaElemWrite die chan (seqId q) o bs) s =
      .next (s.setDmaCh (dmaKey die chan) { s.dmaCh (dmaKey die chan) with
        elem := sub (overlay (s.dmaCh (dmaKey die chan)).elem o bs) 0 64 }))
    ∧ ((s.dmaCh (dmaKey die chan)).busy = true → (s.dmaCh (dmaKey die chan)).pause = false → (s.dmaCh (dmaKey die chan)).forced = false →
        exec (.dmaElemWrite die chan (seqId q) o bs) s =
          .next (s.setDmaCh (dmaKey die chan) { s.dmaCh (dmaKey die chan) with cfgBusyWr := true })))

/-- NAMESPACE_CREATE adds an unprotected namespace of a target that is there, NAMESPACE_DESTROY takes away one that no
command uses, and a target goes only when no namespace names it (R460-R463). A target's answer completes its command,
or lets an orphan go; a path connects and is LIVE, or MISMATCH where a namespace does not fit; its namespaces' states
are read again; a path that fails goes DOWN and is recorded; a command that found no path until IO_HOLD is over
completes with a transient status, and no timer acts before its time (R458, R461, R465-R467, R473). -/
def Obligations.NamespacesAndPaths : Prop :=
  ((∀ (s : State) (p : Packet) (t : Target), s.takesRecorded (p.of 0x0801) → p.paramLen = 0x28 → mClass p.sender = 0 → fnPf p.sender = 0 →
    let fn := leAt p.params 0 3
    let nsid := leAt p.params 4 2
    leAt p.params 3 1 = 0 → mClass fn = 0 → fnPf fn = 1 → nsid ≠ 0 → nsid ≤ 256 → leAt p.params 6 1 = 9 → leAt p.params 7 1 = 0 →
    leAt p.params 8 8 ≠ 0 → leAt p.params 0x12 2 = 0 → leAt p.params 0x10 2 < 1024 → leAt p.params 0x20 4 = 0 →
    leAt p.params 0x24 4 = 0 → s.dieStatus (mDie fn) = none → (s.func fn).provisioned = true → s.namespaceOf fn nsid = none →
    s.target? (mDie fn) (leAt p.params 0x10 2) = some t →
    (s.storage (mDie fn)).namespaces.length < min (s.partition (mDie fn) 1).namespaces 8192 → s.hasRegions (mDie fn) = true →
    (s.nvme fn).ready = false →
    exec (.namespaceCreate p) s = .next ((s.modStorage (mDie fn) (fun y => { y with
      namespaces := Tbl.set y.namespaces ((Tbl.firstFree (s.storage (mDie fn)).namespaces 0 8192).getD 0)
        { fn := fn, nsid := nsid, protect := false, readOnly := false, lbads := 9, blocks := leAt p.params 8 8,
          target := leAt p.params 0x10 2, remoteNsid := leAt p.params 0x14 4, remoteOffset := leAt p.params 0x18 8, writeSlot := 0,
          readSlot := 0, destroying := false } })).recorded (p.of 0x0801) (toLe 2 (leAt p.params 0x10 2) ++ toLe 2 0)))
  ∧ (∀ (s : State) (p : Packet) (x : Namespace), s.takesRecorded (p.of 0x0802) → p.paramLen = 8 → leAt p.params 3 1 = 0 →
    leAt p.params 6 2 = 0 → leAt p.params 4 2 ≠ 0 → leAt p.params 4 2 ≤ 256 → fnPf p.sender = 0 →
    let fn := leAt p.params 0 3
    mClass fn = 0 → fnPf fn = 1 → s.dieStatus (mDie fn) = none → s.namespaceOf fn (leAt p.params 4 2) = some x → x.destroying = false →
    (s.storage (mDie fn)).cmds = [] → Runs (.namespaceDestroy p) s fun t =>
      t.namespaceOf fn (leAt p.params 4 2) = none
        ∧ (∀ n, n ≠ leAt p.params 4 2 → (∀ y, s.namespaceOf fn n = some y → y.destroying = false → t.namespaceOf fn n = some y))
        ∧ t.like ({ s with storages := t.storages } : State))
  ∧ (∀ (s : State) (p : Packet) (x : Target), s.takesRecorded (p.of 0x8801) → p.paramLen = 0x290 → leAt p.params 1 1 = 1 →
    leAt p.params 2 2 < 1024 → s.dieStatus (leAt p.params 0 1) = none → s.target? (leAt p.params 0 1) (leAt p.params 2 2) = some x →
    ((s.storage (leAt p.params 0 1)).namespaces.any (fun e => e.2.target == leAt p.params 2 2) = true →
      exec (.targetPathSet p) s = .next (s.recordedAs (p.of 0x8801) stWrongState []))
    ∧ ((s.storage (leAt p.params 0 1)).namespaces.any (fun e => e.2.target == leAt p.params 2 2) = false → x.paths = [] →
      exec (.targetPathSet p) s = .next ((s.modStorage (leAt p.params 0 1) (fun y =>
        { y with targets := Tbl.del y.targets (leAt p.params 2 2) })).recorded (p.of 0x8801) []))))
  ∧ ((∀ (s : State) (die k st i : Nat) (c : NvmeCmd) (d : List Byte), s.cmd? die k = some c → c.phase = .sent i → s.live die = true →
    (c.orphan = true → exec (.targetCompletion die k st d) s = .next ((s.removeCmd die k c).storageSettle die))
    ∧ (c.orphan = false → st ≠ 0 → exec (.targetCompletion die k st d) s = .next ((s.completeCmd die k st).storageSettle die))
    ∧ (c.orphan = false → st = 0 → c.opcode = 1 → exec (.targetCompletion die k st d) s = .next ((s.completeCmd die k 0).storageSettle die)))
  ∧ (∀ (s : State) (die k : Nat) (c : NvmeCmd) (t : Target), s.cmd? die k = some c → c.orphan = true → s.live die = true →
    s.target? die c.target = some t →
    (s.passedMs die c.since t.cmdTimeoutMs = true →
      exec (.orphanTimeout die k) s = .next ((s.removeCmd die k c).storageSettle die))
    ∧ (s.passedMs die c.since t.cmdTimeoutMs = false → exec (.orphanTimeout die k) s = .next s))
  ∧ (∀ (s : State) (die k : Nat) (c : NvmeCmd) (x : Namespace) (t : Target), s.cmd? die k = some c → c.phase = .path → s.live die = true →
    s.namespaceOf c.fn c.nsid = some x → s.target? die c.target = some t →
    ((t.choose x.remoteNsid).isSome = true ∨ s.passedMs die c.since (1000 * t.ioHoldS) = false →
      exec (.ioHoldExpiry die k) s = .next s)
    ∧ (t.choose x.remoteNsid = none → s.passedMs die c.since (1000 * t.ioHoldS) = true →
      exec (.ioHoldExpiry die k) s = .next ((s.completeCmd die k
        (if t.allInaccessible x.remoteNsid then nvInaccessible else nvTransient)).storageSettle die)))
  ∧ (∀ (s : State) (die n i : Nat) (t : Target) (p : Path) (r : Tbl RemoteNs), s.target? die n = some t → Tbl.find t.paths i = some p →
    s.live die = true → p.state = .connecting → p.contexts = [] →
    (s.storage die).namespaces.filter (fun e => e.2.target == n) = [] →
    exec (.pathConnect die n i r) s = .next ((s.setTarget die n { t with
      paths := Tbl.set t.paths i { p with state := .live, remotes := r } }).storageSettle die))
  ∧ (∀ (s : State) (die n i k : Nat) (t : Target) (p : Path) (r : RemoteNs) (x : Namespace), s.target? die n = some t →
    Tbl.find t.paths i = some p → s.live die = true → p.state = .connecting → p.contexts = [] → (s.storage die).namespaces = [(k, x)] →
    x.target = n → r.fits x = false →
    exec (.pathConnect die n i [(x.remoteNsid, r)]) s = .next ((s.setTarget die n { t with
      paths := Tbl.set t.paths i { p with state := .mismatch, remotes := [(x.remoteNsid, r)] } }).storageSettle die))
  ∧ (∀ (s : State) (die n i m : Nat) (t : Target) (p : Path) (r : RemoteNs) (a : Ana), s.target? die n = some t →
    Tbl.find t.paths i = some p → s.live die = true → p.state = .live → p.remotes = [(m, r)] →
    exec (.anaChange die n i [(m, a)]) s = .next ((s.setTarget die n { t with
      paths := Tbl.set t.paths i { p with remotes := [(m, { r with ana := a })] } }).storageSettle die))
  ∧ (∀ (s : State) (die n i : Nat) (t : Target) (p : Path), s.target? die n = some t → Tbl.find t.paths i = some p →
    s.live die = true → p.state = .live → p.contexts = [] → (s.storage die).cmds = [] → t.paths = [(i, p)] →
    exec (.pathDown die n i) s = .next ((s.setTarget die n { t with
      paths := Tbl.set t.paths i { p with state := .down, contexts := [], downAt := s.dieTick die } }).raise 0x0503 sevContained 0 die n 0 0))
  ∧ (∀ (s u : State) (die n i : Nat) (t : Target) (p q : Path), s.target? die n = some t → Tbl.find t.paths i = some p →
    s.live die = true → p.state = .down →
    (s.passedMs die p.downAt 2000 = false → exec (.pathReconnect die n i) s = .next s)
    ∧ (s.passedMs die p.downAt 2000 = true → s.connectPath die (pf0 die) p = some (u, q) →
      exec (.pathReconnect die n i) s = .next (u.setTarget die n { t with paths := Tbl.set t.paths i q })))
  ∧ (∀ (s : State) (die n i : Nat), s.live die = true → exec (.fenceExpiry die n i) s = .next ((s.modStorage die (fun t =>
      { t with cmds := t.cmds.map (fun e =>
          (e.1, if e.2.target = n ∧ e.2.phase = .fence i ∧ e.2.orphan = false
              ∧ (s.target? die n).all (fun t => s.passedMs die e.2.since t.fenceMs) = true then
            { e.2 with phase := .path, since := s.dieTick die } else e.2)) })).storageSettle die)))

/-- Read, Write, Compare and Write Zeroes of an open namespace are accepted with their ranges; the PRP list or SGL
segment is fetched first; a range beyond the namespace, an unknown one and an unknown opcode complete with their
status, and so does Write Zeroes of a read-only one; Flush goes to the target, and Dataset Management goes there or
completes at once (R456, R459, R464-R469). -/
def Obligations.NvmeIo : Prop :=
  (∀ (f : Nat → Nat → Instr) (op : Nat), (f, op) ∈ ([(.nvmeRead, 2), (.nvmeWrite, 1), (.nvmeCompare, 5), (.nvmeWriteZeroes, 8)] :
      List ((Nat → Nat → Instr) × Nat)) →
    ∀ (s : State) (fn sq : Nat) (q : NvmeQueue) (b : List Byte), sq ≠ 0 → s.nvmeHead fn sq = some (q, b) → sqeOpcode b = op →
      sqeReserved b = false → s.fetchList fn sq q.head b (s.ioLen fn b) = none →
      let t := s.nvmeTake fn sq q
      (t.openNamespace fn (sqeNsid b) = none → exec (f fn sq) s = .next (t.ioDone fn sq b nvBadNs))
      ∧ (∀ x, t.openNamespace fn (sqeNsid b) = some x →
          (x.blocks < sqeLba b + sqeBlocks b → exec (f fn sq) s = .next (t.ioDone fn sq b nvRange))
          ∧ (∀ l, sqeLba b + sqeBlocks b ≤ x.blocks → (op ≠ 8 → sqeBlocks b * 2 ^ x.lbads ≤ 2 ^ 20) → x.readOnly = false →
              t.hostRanges fn b (if op = 8 then 0 else sqeBlocks b * 2 ^ x.lbads) = .ok l →
              exec (f fn sq) s = .next (t.acceptCmd fn sq b x (sqeLba b) (sqeBlocks b) l []))
          ∧ (sqeLba b + sqeBlocks b ≤ x.blocks → x.readOnly = true → op = 8 → exec (f fn sq) s = .next (t.ioDone fn sq b nvProtected))))
  ∧ (∀ (s : State) (fn sq : Nat) (q : NvmeQueue) (b : List Byte) (x : Namespace), sq ≠ 0 → s.nvmeHead fn sq = some (q, b) →
    sqeOpcode b = 0 → sqeReserved b = false → s.fetchList fn sq q.head b (s.ioLen fn b) = none → sqeNsid b ≠ 0xFFFFFFFF → (s.nvmeTake fn sq q).openNamespace fn (sqeNsid b) = some x →
    exec (.nvmeFlush fn sq) s = .next ((s.nvmeTake fn sq q).acceptCmd fn sq b x 0 0 [] []))
  ∧ (∀ (s : State) (fn sq : Nat) (q : NvmeQueue) (b : List Byte) (x : Namespace) (l : List (Nat × Nat)), sq ≠ 0 →
    s.nvmeHead fn sq = some (q, b) → sqeOpcode b = 9 → sqeReserved b = false → s.fetchList fn sq q.head b (s.ioLen fn b) = none →
    let t := s.nvmeTake fn sq q
    t.openNamespace fn (sqeNsid b) = some x → t.hostRanges fn b (16 * (bits (sqeDw b 10) 7 0 + 1)) = .ok l →
    t.fragsBlocked fn l = false → bits (sqeDw b 10) 7 0 = 0 →
    leAt (t.readFrags fn l) 8 8 + leAt (t.readFrags fn l) 4 4 ≤ x.blocks →
    (x.protect = true ∨ bit (sqeDw b 11) 2 = false → exec (.nvmeDatasetManagement fn sq) s = .next (t.ioDone fn sq b 0))
    ∧ (x.protect = false → bit (sqeDw b 11) 2 = true → exec (.nvmeDatasetManagement fn sq) s =
        .next (t.acceptCmd fn sq b x 0 0 l (dsmRanges x (t.readFrags fn l) 1))))
  ∧ (∀ (f : Nat → Nat → Instr) (op : Nat), (f, op) ∈ ([(.nvmeRead, 2), (.nvmeWrite, 1), (.nvmeCompare, 5),
      (.nvmeDatasetManagement, 9)] : List ((Nat → Nat → Instr) × Nat)) →
    ∀ (s t : State) (fn sq : Nat) (q : NvmeQueue) (b : List Byte), sq ≠ 0 → s.nvmeHead fn sq = some (q, b) → sqeOpcode b = op →
      s.fetchList fn sq q.head b (s.ioLen fn b) = some t → exec (f fn sq) s = .next t)
  ∧ (∀ (f : Nat → Nat → Instr), f ∈ ([.nvmeRead, .nvmeWrite, .nvmeCompare, .nvmeWriteZeroes, .nvmeFlush, .nvmeDatasetManagement] :
      List (Nat → Nat → Instr)) →
    ∀ (s : State) (fn sq : Nat) (q : NvmeQueue) (b : List Byte), sq ≠ 0 → s.nvmeHead fn sq = some (q, b) →
      (ioKnown (sqeOpcode b) = false → exec (f fn sq) s = .next ((s.nvmeTake fn sq q).ioDone fn sq b nvBadOpcode)))

/-- Queues are created and deleted with the checks of NVMe, Identify and Get Log Page write their data, features are
set and told, an event request waits for an event, Abort takes back only a command that no target has; an opcode the
controller lacks completes as Invalid Command Opcode; EN starts the controller with its admin queues, and clearing it
takes every queue away (R454-R456, R492). -/
def Obligations.NvmeAdmin : Prop :=
  (∀ (s : State) (fn : Nat) (q : NvmeQueue) (b : List Byte), s.adminRuns fn q b →
    let t := s.nvmeTake fn 0 q
    let w := sqeDw b 11
    let qid := bits (sqeDw b 10) 15 0
    let n := bits (sqeDw b 10) 31 16 + 1
    let base : NvmeQueue :=
      { base := leAt b 24 8, size := n, head := 0, tail := 0, peer := bits w 31 16, intEnable := false, phase := false, held := [],
        retried := false }
    (sqeOpcode b = 5 → badQueue (t.nvme fn) b (t.nvme fn).cqs = none → (t.nvme fn).cqs.length < min (t.func fn).queuePairs 256 →
      2 ≤ t.sharedSlots (mDie fn) → bits w 31 16 < (t.func fn).vectorsInEffect → bits w 15 2 = 0 →
      (t.func fn).inWindow (leAt b 24 8) (16 * n) = true →
      exec (.createIoCq fn) s = .next ((t.modNvme fn (fun v => { v with cqs := Tbl.set v.cqs qid { base with
        intEnable := bit w 1, phase := true } })).adminDone fn b 0 0))
    ∧ (sqeOpcode b = 1 → badQueue (t.nvme fn) b (t.nvme fn).sqs = none → bits w 31 16 ≠ 0 →
      (Tbl.find (t.nvme fn).cqs (bits w 31 16)).isSome = true → (t.nvme fn).sqs.length < 256 → bits w 15 3 = 0 →
      (t.func fn).inWindow (leAt b 24 8) (64 * n) = true →
      exec (.createIoSq fn) s = .next ((t.modNvme fn (fun v => { v with sqs := Tbl.set v.sqs qid { base with
        intEnable := false, phase := false } })).adminDone fn b 0 0))
    ∧ (sqeOpcode b = 4 → qid ≠ 0 → (Tbl.find (t.nvme fn).cqs qid).isSome = true → n = 1 →
      ((t.nvme fn).sqs.any (fun e => e.2.peer == qid) = true → exec (.deleteIoCq fn) s = .next (t.adminDone fn b 0 nvQueueDelete))
      ∧ ((t.nvme fn).sqs.any (fun e => e.2.peer == qid) = false → exec (.deleteIoCq fn) s =
          .next ((t.modNvme fn (fun v => { v with cqs := Tbl.del v.cqs qid })).adminDone fn b 0 0)))
    ∧ (sqeOpcode b = 0 → qid ≠ 0 → (Tbl.find (t.nvme fn).sqs qid).isSome = true → n = 1 → (t.storage (mDie fn)).cmds = [] →
      Runs (.deleteIoSq fn) s fun u => Tbl.find (u.nvme fn).sqs qid = none ∧ (u.nvme fn).cqs.length = (t.nvme fn).cqs.length)
    ∧ (sqeOpcode b = 6 → bits (sqeDw b 10) 15 0 = 1 → exec (.identify fn) s = .next (t.adminData fn b (t.identifyController fn)))
    ∧ (sqeOpcode b = 6 → bits (sqeDw b 10) 15 0 = 0 → sqeNsid b ≠ 0 → sqeNsid b ≤ 256 →
      exec (.identify fn) s = .next (t.adminData fn b (t.identifyNamespace fn (sqeNsid b))))
    ∧ (sqeOpcode b = 2 → bits (sqeDw b 10) 7 0 = 4 → leAt b 48 8 = 0 → bit (sqeDw b 10) 15 = true →
      exec (.getLogPage fn) s = .next (t.adminData fn b (sub ((t.nvme fn).changedNs.flatMap (toLe 4)) 0
        (4 * (bits (sqeDw b 10) 31 16 + 65536 * bits w 15 0 + 1)))))
    ∧ (sqeOpcode b = 9 → bits (sqeDw b 10) 31 8 = 0 → bits (sqeDw b 10) 7 0 = 0x0B →
      exec (.setFeatures fn) s = .next ((t.setNvme fn { t.nvme fn with featAsync := w }).adminDone fn b 0 0))
    ∧ (sqeOpcode b = 9 → bits (sqeDw b 10) 31 8 = 0 → bits (sqeDw b 10) 7 0 = 0x06 →
      exec (.setFeatures fn) s = .next (t.adminDone fn b 0 nvReadOnlyFeature))
    ∧ (sqeOpcode b = 0x0A → bits (sqeDw b 10) 31 8 = 0 → bits (sqeDw b 10) 7 0 = 0x0B →
      exec (.getFeatures fn) s = .next (t.adminDone fn b (t.nvme fn).featAsync 0))
    ∧ (sqeOpcode b = 0x0C → exec (.asynchronousEventRequest fn) s =
        .next (t.modNvme fn (fun v => { v with asyncReqs := v.asyncReqs ++ [sqeCid b] })))
    ∧ (sqeOpcode b = 8 → (t.storage (mDie fn)).cmds = [] → exec (.nvmeAbort fn) s = .next (t.adminDone fn b 1 0))
    ∧ (∀ (k : Nat) (c : NvmeCmd), sqeOpcode b = 8 → (t.storage (mDie fn)).cmds = [(k, c)] → c.fn = fn → c.sq = bits (sqeDw b 10) 15 0 →
        c.cid = bits (sqeDw b 10) 31 16 → c.orphan = false → c.phase = .staging → c.reissues = 0 → c.pos = 0 →
        Runs (.nvmeAbort fn) s fun u => (u.storage (mDie fn)).cmds = []))
  ∧ (∀ f : Nat → Instr, f ∈ ([.createIoSq, .deleteIoSq, .createIoCq, .deleteIoCq, .identify, .getLogPage, .setFeatures, .getFeatures,
      .asynchronousEventRequest, .nvmeAbort] : List (Nat → Instr)) →
    ∀ (s : State) (fn : Nat) (q : NvmeQueue) (b : List Byte), s.nvmeHead fn 0 = some (q, b) → s.adminKnown fn (sqeOpcode b) = false →
      exec (f fn) s = .next ((s.nvmeTake fn 0 q).nvmePost fn 0 (sqeCid b) 0 nvBadOpcode))
  ∧ (∀ (s t : State) (fn : Nat) (q : NvmeQueue) (b : List Byte), s.nvmeHead fn 0 = some (q, b) →
    s.adminKnown fn (sqeOpcode b) = true → s.fetchList fn 0 q.head b (adminLen b) = some t →
    (sqeOpcode b = 6 → exec (.identify fn) s = .next t) ∧ (sqeOpcode b = 2 → exec (.getLogPage fn) s = .next t))
  ∧ (∀ (s : State) (fn : Nat), s.hostReach (mDie fn) = true → s.isStorage fn = true → (s.func fn).halted = false →
    bit (s.nvme fn).cc 0 = false → bit (s.nvme fn).csts 0 = false → Runs (.ccEnSet fn) s fun t =>
      bit (t.nvme fn).cc 0 = true ∧ (t.nvme fn).csts = 1 ∧ (t.nvme fn).sqs.map (fun e => e.1) = [0]
        ∧ (t.nvme fn).cqs.map (fun e => e.1) = [0] ∧ t = { s with nvmes := t.nvmes })
  ∧ (∀ (s : State) (fn : Nat), s.hostReach (mDie fn) = true → s.isStorage fn = true → bit (s.nvme fn).cc 0 = true →
    (s.storage (mDie fn)).cmds = [] → Runs (.ccEnClear fn) s fun t =>
      bit (t.nvme fn).cc 0 = false ∧ (t.nvme fn).csts = 0 ∧ (t.nvme fn).sqs = [] ∧ (t.nvme fn).cqs = [])

/-- Provisioning, queries and resources of functions (R481-R486), and twin pairs with the availability of their
members (R488-R491). -/
def Obligations.FunctionsAndTwins : Prop :=
  (∀ (s : State) (p : Packet) (pf vf : Nat), s.takesRecorded (p.of 0x0101) → p.paramLen = 4 → leAt p.params 0 1 = pf → pf ≤ 1 →
    leAt p.params 1 1 = 0 → leAt p.params 2 2 = vf → vf ≠ 0 → vf ≤ (s.partition (mDie p.sender) pf).totalVfs →
    s.boot.fuses.lifecycle ≠ .provisioned → (s.func (fnId (mDie p.sender) pf vf)).provisioned = false →
    (s.treeGrants (mDie p.sender) pf).1 + 8 ≤ (s.partition (mDie p.sender) pf).queuePairs →
    (s.treeGrants (mDie p.sender) pf).2.1 + 9 ≤ (s.partition (mDie p.sender) pf).vectors →
    let made := s.modFunc (fnId (mDie p.sender) pf vf) (fun f =>
      { f with provisioned := true, queuePairs := 8, vectors := 9, vectorsInEffect := 9,
               stageMax := if pf = 1 then (s.partition (mDie p.sender) pf).stageMaxMib else 0, txBudget := 1024,
               windows := [(0, 2 ^ 64 - 1)] })
    exec (.funcCreate p) s = .next ((if pf = 0 ∧ (s.treeGrants (mDie p.sender) pf).2.2 < (s.partition (mDie p.sender) pf).dmaChannels
      then made.grantChannels (fnId (mDie p.sender) pf vf) 1 else made).recorded (p.of 0x0101)
        (toLe 4 (fnId (mDie p.sender) pf vf))))
  ∧ (∀ (s : State) (fn n : Nat), ((s.grantChannels fn n).func fn).dmaChannels
      = ((s.grantChannels fn n).func fn).channels.length ∧ (∀ f, f ≠ fn → (s.grantChannels fn n).func f = s.func f)
      ∧ s.grantChannels fn n = { s with funcs := (s.grantChannels fn n).funcs })
  ∧ (∀ (s : State) (p : Packet) (fn : Nat), s.takesRecorded (p.of 0x0102) → p.paramLen = 4 → leAt p.params 0 4 = fn →
    namesOwn p.sender fn = true → fnVf fn ≠ 0 → (s.func fn).provisioned = true →
    (s.tied fn = true → exec (.funcDestroy p) s = .next (s.recordedAs (p.of 0x0102) stWrongState []))
    ∧ (s.tied fn = false → exec (.funcDestroy p) s = .next (((s.resetOne fn).modFunc fn (fun f =>
        { f with provisioned := false, queuePairs := 0, vectors := 0, vectorsInEffect := 0, dmaChannels := 0, channels := [],
                 stageMax := 0, txBudget := 1024, windows := [] })).recorded (p.of 0x0102) [])))
  ∧ (∀ (s : State) (p : Packet) (fn : Nat), s.takes (p.of 0x0103) → p.paramLen = 4 → leAt p.params 0 4 = fn →
    namesOwn p.sender fn = true → fnVf fn ≤ (s.partition (mDie fn) (fnPf fn)).totalVfs → issuerOf p.sender = isM →
    exec (.funcQuery p) s = .next (s.replied (p.of 0x0103) (if (s.func fn).provisioned = false then toLe 32 0 else
      toLe 8 (s.funcStatus fn) ++ toLe 2 (s.func fn).queuePairs ++ toLe 2 (s.func fn).vectors ++ toLe 1 (s.func fn).dmaChannels
        ++ toLe 1 (s.func fn).windows.length ++ toLe 2 0 ++ toLe 4 (s.func fn).txBudget ++ toLe 2 (s.func fn).stageMax ++ toLe 10 0)))
  ∧ (∀ (s : State) (p : Packet) (fn : Nat), s.takesRecorded (p.of 0x8101) → p.paramLen = 80 → leAt p.params 0 3 = fn →
    namesOwn p.sender fn = true → leAt p.params 3 1 = 4 → leAt p.params 0xA 2 = 0 → (s.func fn).provisioned = true →
    64 ≤ leAt p.params 0xC 4 → leAt p.params 0xC 4 ≤ 196608 →
    exec (.funcSetResources p) s = .next ((s.setBudget fn (leAt p.params 0xC 4)).recorded (p.of 0x8101) []))
  ∧ (∀ (s : State) (fn n : Nat), let t := s.modFunc fn (fun f => { f with txBudget := n })
    ((s.func fn).txHeld = false → s.txCells fn < n → s.setBudget fn n = t)
    ∧ ((s.func fn).txHeld = false → n ≤ s.txCells fn →
      s.setBudget fn n = (t.modFunc fn (fun f => { f with txHeld := true })).tmStat (mDie fn) 0x40)
    ∧ ((s.func fn).txHeld = true → 4 * s.txCells fn < 3 * n → s.setBudget fn n = t.modFunc fn (fun f => { f with txHeld := false }))
    ∧ ((s.func fn).txHeld = true → 3 * n ≤ 4 * s.txCells fn → s.setBudget fn n = t))
  ∧ (∀ (s : State) (p : Packet) (fn : Nat), s.takesRecorded (p.of 0x8101) → p.paramLen = 80 → leAt p.params 0 3 = fn →
    namesOwn p.sender fn = true → leAt p.params 3 1 = 1 → leAt p.params 0xA 2 = 0 → (s.func fn).provisioned = true → fnVf fn ≠ 0 →
    s.countsStatus fn p.params = none →
    exec (.funcSetResources p) s = .next (((s.modFunc fn (fun f => { f with
      queuePairs := leAt p.params 4 2, vectors := leAt p.params 6 2 })).grantChannels fn (leAt p.params 8 1)).recorded (p.of 0x8101) []))
  ∧ (∀ (s : State) (p : Packet) (x y : Nat), s.takesRecorded (p.of 0x8102) → p.paramLen = 12 → leAt p.params 0 1 = 0 →
    leAt p.params 1 1 = 0 → leAt p.params 2 2 = 0 → leAt p.params 4 4 = x → leAt p.params 8 4 = y → badMember x = false →
    badMember y = false → mDie x ≠ mDie y → fnPf x = fnPf y → s.dieStatus (mDie x) = none → s.dieStatus (mDie y) = none →
    (s.func x).provisioned = true → (s.func y).provisioned = true → s.pairOf x = none → s.pairOf y = none →
    exec (.twinPairPair p) s = .next ({ s with
      twins := Tbl.set s.twins x
        { memberA := x, memberB := y, activeActive := false, bActive := !s.available x && s.available y, bTakesZero := false,
          seenA := s.available x, seenB := s.available y } }.recorded (p.of 0x8102) []))
  ∧ (∀ (s : State) (p : Packet) (t : TwinPair), s.takesRecorded (p.of 0x8102) → p.paramLen = 12 → leAt p.params 1 1 = 0 →
    leAt p.params 2 2 = 0 → leAt p.params 8 4 = 0 → badMember (leAt p.params 4 4) = false → s.pairOf (leAt p.params 4 4) = some t → s.dieStatus (mDie (leAt p.params 4 4)) = none →
    (leAt p.params 0 1 = 1 → exec (.twinPairUnpair p) s =
      .next ({ s with twins := Tbl.del s.twins t.memberA }.recorded (p.of 0x8102) []))
    ∧ (leAt p.params 0 1 = 2 → t.activeActive = true → exec (.twinPairSwap p) s =
      .next ({ s with twins := Tbl.set s.twins t.memberA { t with bTakesZero := !t.bTakesZero } }.recorded (p.of 0x8102) []))
    ∧ (leAt p.params 0 1 = 2 → t.activeActive = false → t.seenA = true → t.seenB = true → exec (.twinPairSwap p) s =
      .next ({ s with twins := Tbl.set s.twins t.memberA { t with bActive := !t.bActive } }.recorded (p.of 0x8102) [])))
  ∧ (∀ (s : State) (pair : Nat) (b : Bool) (t : TwinPair), Tbl.find s.twins pair = some t → s.ready = true →
    Runs (.availabilityObserve pair b) s fun u => ∃ r, Tbl.find u.twins t.memberA = some r ∧ u = { s with twins := u.twins }
      ∧ r.seenA = (if b then t.seenA else s.available t.memberA) ∧ r.seenB = (if b then s.available t.memberB else t.seenB)
      ∧ (t.activeActive = true → r.bActive = t.bActive)
      ∧ (t.activeActive = false → r.bActive = if r.seenA = r.seenB then t.bActive else r.seenB && !r.seenA || t.bActive && r.seenB)
      ∧ r.memberA = t.memberA ∧ r.memberB = t.memberB ∧ r.bTakesZero = t.bTakesZero)

/-- A freeze pauses the function, a paused one is saved to and restored from the memory of its host, a thaw lets it
run again; a freeze, a save without room and a thaw are refused in the wrong state (R493-R498). -/
def Obligations.Migration : Prop :=
  (∀ (s : State) (p : Packet) (fn : Nat), s.takesRecorded (p.of 0x0E01) → s.migTarget (p.of 0x0E01) 4 = .ok fn →
    ((s.func fn).halted = true ∨ (s.func fn).mig ≠ .running →
      exec (.funcFreeze p) s = .next (s.recordedAs (p.of 0x0E01) stWrongState []))
    ∧ ((s.func fn).halted = false → (s.func fn).mig = .running → let f := s.freeze fn
      exec (.funcFreeze p) s = .next ((if s.idleVf fn then f.modFunc fn (fun f => { f with mig := .paused })
        else if f.workLeft fn || !f.canIssue fn then f else f.freezeRead fn).recorded (p.of 0x0E01) [])))
  ∧ (∀ (s : State) (fn : Nat), ((s.freeze fn).func fn).mig = .pausing ∧ (∀ f, f ≠ fn → (s.freeze fn).func f = s.func f)
      ∧ (s.freeze fn).mem = s.mem ∧ (s.freeze fn).links = s.links ∧ (s.freeze fn).threads = s.threads
      ∧ (s.freeze fn).journal = s.journal ∧ (s.freeze fn).tempo = s.tempo
      ∧ (s.freeze fn).tags = s.tags.map (fun e => (e.1, if e.2.fn = fn then { e.2 with discard := true } else e.2)))
  ∧ (∀ (s : State) (fn : Nat), s.live (mDie fn) = true → (s.func fn).mig = .pausing → (s.func fn).halted = false →
    s.canIssue fn = true → s.workLeft fn = false →
    (s.readOf fn .freeze = none → exec (.freezeReadDone fn) s = .next (s.freezeRead fn))
    ∧ ∀ r, s.readOf fn .freeze = some r →
      exec (.freezeReadDone fn) s = .next ((s.retireRead fn .freeze).setFunc fn { s.func fn with mig := .paused }))
  ∧ (∀ (s : State) (p : Packet) (fn : Nat), s.takesRecorded (p.of 0x0E02) → s.migTarget (p.of 0x0E02) 20 = .ok fn →
    leAt p.params 4 4 = 0 → (s.func fn).mig = .paused →
    (leAt p.params 0x10 4 < (s.snapshot fn).length → exec (.funcSave p) s = .next (s.recordedAs (p.of 0x0E02) stNoResource []))
    ∧ ((s.snapshot fn).length ≤ leAt p.params 0x10 4 → exec (.funcSave p) s = .next
      ((s.hostWrite (pf0 (mDie fn)) (leAt p.params 8 8) (s.snapshot fn)).recorded (p.of 0x0E02)
        (toLe 4 (s.snapshot fn).length ++ ((s.snapshot fn).drop 0x20).take 32))))
  ∧ (∀ (s : State) (p : Packet) (fn : Nat) (bs : List Byte) (l : List (Nat × Nat × List Byte)), s.takesRecorded (p.of 0x0E03) →
    s.migTarget (p.of 0x0E03) 20 = .ok fn → leAt p.params 4 4 = 0 → (s.func fn).mig = .paused → s.pairsHeld fn = 0 →
    s.canIssue (pf0 (mDie fn)) = true → s.hostRead (pf0 (mDie fn)) (leAt p.params 8 8) (leAt p.params 0x10 4) = bs →
    64 ≤ leAt p.params 0x10 4 → leAt bs 0 4 = 0x31504E53 → leAt bs 4 2 = 1 → leAt bs 6 1 = fnPf fn → 64 ≤ leAt bs 8 4 →
    leAt bs 8 4 ≤ leAt p.params 0x10 4 → leAt bs 0x14 4 = s.chipIdent % 256 →
    (bs.drop 0x20).take 32 = sha256 ((bs.take (leAt bs 8 4)).drop 64) →
    snapParse (fnPf fn) 0 ((bs.take (leAt bs 8 4)).drop 64) (leAt bs 7 1) = some l → badRecords (s.func fn) l = false →
    s.restoreLacks fn l = false → Runs (.funcRestore p) s fun t =>
      (t.func fn).mig = .paused ∧ t.like ({ s.restore fn l with freeCtr := 0 } : State)
        ∧ ∀ r ∈ snapRecords l 2, (t.queue? fn (leAt r 0 1)).isSome = true)
  ∧ (∀ (s : State) (p : Packet) (fn : Nat), s.takesRecorded (p.of 0x0E04) → s.migTarget (p.of 0x0E04) 4 = .ok fn →
    ((s.func fn).mig = .running → exec (.funcThaw p) s = .next (s.recordedAs (p.of 0x0E04) stWrongState []))
    ∧ ((s.func fn).mig ≠ .running → Runs (.funcThaw p) s fun t =>
      (t.func fn).mig = .running ∧ t.like (s.thaw fn)))

/-- THREAD_LOAD loads an idle pod from the memory of its host, an unload leaves it with no packet and no thread
loaded, THREAD_QUERY shows a thread and its pod (R536-R538). A free lock goes to the first of its readers in its
rotating order and the others see its owner, a release frees it; a blocked commit completes when there is room, an
interrupt that is due is taken, a breakpoint stops its thread, a stalemate is reported with its members, and a core
that fails is replaced by the spare or goes out of service with its threads (R510, R518, R519, R525, R532-R534, R552).
-/
def Obligations.PodImagesAndEvents : Prop :=
  ((∀ (s : State) (p : Packet) (pod : Nat) (im : ThreadImage), s.takesRecorded (p.of 0x0901) → s.podStatusOf (p.of 0x0901) = .ok pod →
    bit (leAt p.params 2 1) 1 = false →
    ((∃ i, i < 72 ∧ (s.thread (pod * 72 + i)).state = .running) →
      exec (.threadLoad p) s = .next (s.recordedAs (p.of 0x0901) stWrongState []))
    ∧ ((∀ i, i < 72 → (s.thread (pod * 72 + i)).state = .unloaded) → s.canIssue p.sender = true →
      s.ideBlocks p.sender (leAt p.params 8 8) = false →
      (linugSections (s.chipIdent % 256) (s.hostRead p.sender (leAt p.params 8 8) (leAt p.params 4 4))).bind (threadImage pod) = some im →
      s.imageUnfit pod p.sender im = false → Runs (.threadLoad p) s fun t =>
        (t.podOf pod).loaded = true ∧ (t.podOf pod).dramBase = im.dramBase ∧ (t.podOf pod).dramSize = im.dramSize
          ∧ (∀ q, q ≠ pod → t.podOf q = s.podOf q) ∧ (∀ k, threadDie k ≠ pod / 6 → t.thread k = s.thread k)
          ∧ t.locks = s.locks ∧ t.ports = s.ports ∧ t.links = s.links ∧ t.tempo = s.tempo))
  ∧ (∀ (s : State) (p : Packet) (pod : Nat), s.takesRecorded (p.of 0x0901) → s.podStatusOf (p.of 0x0901) = .ok pod →
    bit (leAt p.params 2 1) 1 = true → Runs (.threadUnload p) s fun t =>
      (t.podOf pod).loaded = false ∧ (t.podOf pod).packets = [] ∧ (t.podOf pod).slots = [] ∧ (t.podOf pod).dramSize = 0
        ∧ (∀ i, i < 72 → (t.thread (pod * 72 + i)).state = .unloaded ∨ (t.thread (pod * 72 + i)).state = .outOfService)
        ∧ (∀ n, n < 256 → (t.chanOf (pod * 256 + n)).enable = false ∧ (t.chanOf (pod * 256 + n)).words = [])
        ∧ t.links = s.links ∧ t.tempo = s.tempo ∧ t.locks = s.locks)
  ∧ (∀ (s : State) (p : Packet), s.takes (p.of 0x0902) → p.paramLen = 4 → leAt p.params 1 1 ≤ 5 → leAt p.params 2 1 ≤ 71 →
    leAt p.params 3 1 = 0 → s.dieStatus (leAt p.params 0 1) = none → mClass p.sender = 0 →
    let pod := leAt p.params 0 1 * 6 + leAt p.params 1 1
    exec (.threadQuery p) s = .next (s.replied (p.of 0x0902)
      (toLe 8 (s.thread (pod * 72 + leAt p.params 2 1)).stateLow ++ toLe 8 (s.thread (pod * 72 + leAt p.params 2 1)).pc ++ s.podStatus pod))))
  ∧ ((∀ (s : State) (pod lock r : Nat), s.live (pod / 6) = true → lock < 64 → isThreadId r = true → threadOfId r / 72 = pod →
    (s.lockOf (pod * 64 + lock)).held = false → Runs (.lockRead pod lock [r]) s fun u =>
      (u.lockOf (pod * 64 + lock)).held = true ∧ (u.lockOf (pod * 64 + lock)).owner = r
        ∧ u.out = s.out ++ [.read r (s.lockOf (pod * 64 + lock)).value] ∧ (∀ k, k ≠ pod * 64 + lock → u.lockOf k = s.lockOf k)
        ∧ u.pods = s.pods ∧ u.mem = s.mem ∧ u.ports = s.ports)
  ∧ (∀ (s : State) (pod lock r : Nat), s.live (pod / 6) = true → lock < 64 → isThreadId r = true → threadOfId r / 72 = pod →
    (s.lockOf (pod * 64 + lock)).held = true → Runs (.lockRead pod lock [r]) s fun u =>
      u.locks = s.locks ∧ u.out = s.out ++ [.read r (1 + 2 ^ 8 * (s.lockOf (pod * 64 + lock)).owner)]
        ∧ u.pods = s.pods ∧ u.mem = s.mem ∧ u.ports = s.ports)
  ∧ (∀ (s : State) (pod lock r : Nat) (rs rest : List Nat), s.live (pod / 6) = true → lock < 64 →
    s.lockOrder pod lock rs = r :: rest → exec (.lockRead pod lock rs) s =
      .next (((s.readLock pod lock r).2.emit (.read r (s.readLock pod lock r).1)).readLocks pod lock rest))
  ∧ (∀ (s : State) (pod lock a b i j : Nat), lockPosition pod a = some i → lockPosition pod b = some j → i < 73 → j < 73 →
    (s.lockOf (pod * 64 + lock)).pointer < 73 →
    (i + 73 - (s.lockOf (pod * 64 + lock)).pointer) % 73 < (j + 73 - (s.lockOf (pod * 64 + lock)).pointer) % 73 →
    s.lockOrder pod lock [a, b] = [a, b] ∧ s.lockOrder pod lock [b, a] = [a, b])
  ∧ (∀ (s : State) (pod lock w : Nat), s.live (pod / 6) = true → lock < 64 → (s.lockOf (pod * 64 + lock)).held = true →
    (s.lockOf (pod * 64 + lock)).owner = w → Runs (.lockRelease pod lock w) s fun u =>
      (u.lockOf (pod * 64 + lock)).held = false ∧ (u.lockOf (pod * 64 + lock)).pointer = (s.lockOf (pod * 64 + lock)).pointer
        ∧ (∀ k, k ≠ pod * 64 + lock → u.lockOf k = s.lockOf k)
        ∧ u = { s with locks := u.locks, threads := u.threads, chans := u.chans })
  ∧ (∀ (s : State) (t : Nat), s.live (threadDie t) = true → (s.thread t).state = .blocked → (s.thread t).wait = .messageCommit →
    let k := chanKey (threadDie t) ((s.thread t).objectPod * 256 + (s.thread t).object)
    (s.chanOf k).enable = true → (s.chanOf k).writer = threadId t → mClass (s.chanOf k).reader = 1 →
    ((s.chanOf k).room < (s.thread t).staging.length + 1 → exec (.messageCommit t) s = .next s)
    ∧ ((s.thread t).staging.length + 1 ≤ (s.chanOf k).room → exec (.messageCommit t) s =
      .next (((s.setThread t { s.thread t with staging := [] }).putMessage k ((s.thread t).staging ++ [(s.thread t).endWord])).modThread t
        (fun th => th.complete (th.pc + 4)))))
  ∧ (∀ (s : State) (t : Nat), s.live (threadDie t) = true → (s.thread t).state = .running → s.intDue t = true →
    (s.thread t).intHandler % 4 = 0 → executable (s.thread t).intHandler = true →
    exec (.interruptTake t) s = .next (s.setThread t { (s.thread t).unwait .running with
      intReturn := (s.thread t).pc, eventMask := setBit (s.thread t).eventMask 8 false, pc := (s.thread t).intHandler,
      intSignal := false }))
  ∧ (∀ (s : State) (t : Nat), s.live (threadDie t) = true → (s.thread t).state = .running → s.atBreak t = true →
    exec (.breakpointHit t) s = .next (s.setThread t { s.thread t with state := .stopped, breakHit := true }))
  ∧ (∀ (s : State) (pod : Nat), s.live (pod / 6) = true → s.stalemateSet pod ≠ [] → s.stalemateHeld pod = true →
    (s.podOf pod).stalemate = false → (s.podOf pod).toFirmware = false → Runs (.stalemateReport pod) s fun u =>
      (u.podOf pod).members = maskOf (s.stalemateSet pod) ∧ (u.podOf pod).reports = min 0xFFFF ((s.podOf pod).reports + 1)
        ∧ (u.podOf pod).stalemate = !(s.stalemateSet pod).contains (podThread (s.supervisor pod))
        ∧ u = { s with pods := u.pods, errors := u.errors } ∧ (∀ q, q ≠ pod → u.podOf q = s.podOf q))
  ∧ (∀ (s : State) (pod : Nat), s.stalemateSet pod = [] ∨ s.stalemateHeld pod = false → exec (.stalemateReport pod) s = .next s)
  ∧ (∀ (s : State) (pod pos : Nat), s.dieWorks (pod / 6) = true → pos < 8 → bit (s.podOf pod).lostPositions pos = false →
    ((s.podOf pod).spareAvailable = true → Runs (.coreFailure pod pos) s fun u =>
      (u.podOf pod).spareAvailable = false ∧ (u.podOf pod).lostPositions = (s.podOf pod).lostPositions
        ∧ (∃ e ∈ u.errors.latched, e.cause = 0x0603 ∧ e.die = pod / 6 ∧ e.unit = 9 * (pod % 6) + pos)
        ∧ u.mem = s.mem ∧ u.ports = s.ports ∧ u.tempo = s.tempo)
    ∧ ((s.podOf pod).spareAvailable = false → Runs (.coreFailure pod pos) s fun u =>
      bit (u.podOf pod).lostPositions pos = true ∧ (∀ i, i < 8 → (u.thread (pod * 72 + 8 * pos + i)).state = .outOfService)
        ∧ (∃ e ∈ u.errors.latched, e.cause = 0x0604 ∧ e.die = pod / 6 ∧ e.unit = 9 * (pod % 6) + pos)
        ∧ u.mem = s.mem ∧ u.ports = s.ports ∧ u.tempo = s.tempo ∧ u.locks = s.locks)))

/-- The THREAD_DEBUG operations (R527-R532): the state a thread must be in, what each changes, and what it shows. -/
def Obligations.ThreadDebugging : Prop :=
  (∀ (s : State) (p : Packet) (t : Nat), s.takesRecorded ((p.withOp 0).of 0x8901) → s.debugTarget ((p.withOp 0).of 0x8901) = .ok t →
    ((s.thread t).state = .running → s.threads = [(t, s.thread t)] → exec (.threadDebugStop p) s =
      .next ((s.setThread t { (s.thread t).unwait .stopped with stepping := false }).recorded ((p.withOp 0).of 0x8901)
        ({ (s.thread t).unwait .stopped with stepping := false } : Thread).stateBytes))
    ∧ ((s.thread t).state = .faulted → exec (.threadDebugStop p) s = .next (s.recordedAs ((p.withOp 0).of 0x8901) stWrongState [])))
  ∧ (∀ (s : State) (p : Packet) (t : Nat), s.takesRecorded ((p.withOp 1).of 0x8901) → s.debugTarget ((p.withOp 1).of 0x8901) = .ok t →
    ((s.thread t).state = .stopped → (s.thread t).pc % 4 = 0 → executable (s.thread t).pc = true →
      let th : Thread := { s.thread t with state := .running, breakSkip := (s.thread t).breakHit, breakHit := false }
      exec (.threadDebugResume p) s = .next ((s.setThread t th).recorded ((p.withOp 1).of 0x8901) th.stateBytes))
    ∧ ((s.thread t).state ≠ .stopped → exec (.threadDebugResume p) s = .next (s.recordedAs ((p.withOp 1).of 0x8901) stWrongState [])))
  ∧ (∀ (s : State) (p : Packet) (t : Nat), s.takesRecorded ((p.withOp 2).of 0x8901) → s.debugTarget ((p.withOp 2).of 0x8901) = .ok t →
    ((s.thread t).state = .stopped → (s.thread t).pc % 4 = 0 → executable (s.thread t).pc = true →
      let u := s.setThread t { s.thread t with state := .running, breakSkip := true, breakHit := false, stepping := true }
      decodeWord t (s.fetchWord t) = some (.fence t) → s.live (threadDie t) = true → exec (.threadDebugStep p) s =
        .next ((u.pass t).recorded ((p.withOp 2).of 0x8901) ((u.pass t).thread t).stateBytes)
        ∧ ((u.pass t).thread t).state = .stopped ∧ ((u.pass t).thread t).pc = ((s.thread t).pc + 4) % 2 ^ 64)
    ∧ ((s.thread t).state ≠ .stopped → exec (.threadDebugStep p) s = .next (s.recordedAs ((p.withOp 2).of 0x8901) stWrongState [])))
  ∧ (∀ (s : State) (p : Packet) (t : Nat), s.takesRecorded ((p.withOp 3).of 0x8901) → s.debugTarget ((p.withOp 3).of 0x8901) = .ok t →
    ((s.thread t).state = .outOfService → exec (.threadDebugKill p) s = .next (s.recordedAs ((p.withOp 3).of 0x8901) stWrongState []))
    ∧ ((s.thread t).state ≠ .outOfService → bit (leAt (p.withOp 3).params 1 1) 0 = false → Runs (.threadDebugKill p) s fun u =>
      (u.thread t).state = .killed ∧ (u.thread t).staging = [] ∧ (u.thread t).regs = (s.thread t).regs ∧ u.locks = s.locks
        ∧ (∀ k, threadDie k ≠ threadDie t → u.thread k = s.thread k)
        ∧ u.like ({ s with threads := u.threads, pods := u.pods, chans := u.chans } : State)))
  ∧ (∀ (s : State) (p : Packet) (t : Nat), s.takesRecorded ((p.withOp 4).of 0x8901) → s.debugTarget ((p.withOp 4).of 0x8901) = .ok t →
    exec (.threadDebugRead p) s = .next (s.recorded ((p.withOp 4).of 0x8901)
      ((List.range 32).flatMap (fun n => toLe 8 ((s.thread t).reg n).toNat) ++ toLe 8 (s.thread t).pc ++ (s.thread t).stateBytes
        ++ sub ((s.thread t).staging.flatMap (fun w => toLe 8 w.toNat)) 0 64)))
  ∧ (∀ (s : State) (p : Packet) (t reg : Nat), s.takesRecorded ((p.withOp 5).of 0x8901) →
    s.debugTarget ((p.withOp 5).of 0x8901) = .ok t → leAt (p.withOp 5).params 2 1 = reg →
    ((s.thread t).state ≠ .stopped → exec (.threadDebugWriteReg p) s = .next (s.recordedAs ((p.withOp 5).of 0x8901) stWrongState []))
    ∧ ((s.thread t).state = .stopped → reg ≠ 32 → exec (.threadDebugWriteReg p) s =
      .next ((s.setThread t ((s.thread t).setReg reg (BitVec.ofNat 64 (leAt (p.withOp 5).params 8 8)))).recorded ((p.withOp 5).of 0x8901)
        ((s.thread t).setReg reg (BitVec.ofNat 64 (leAt (p.withOp 5).params 8 8))).stateBytes))
    ∧ ((s.thread t).state = .stopped → reg = 32 → exec (.threadDebugWriteReg p) s =
      .next ((s.setThread t { s.thread t with pc := leAt (p.withOp 5).params 8 8 }).recorded ((p.withOp 5).of 0x8901)
        ({ s.thread t with pc := leAt (p.withOp 5).params 8 8 } : Thread).stateBytes)))
  ∧ (∀ (s : State) (p : Packet) (t : Nat), s.takesRecorded ((p.withOp 6).of 0x8901) → s.debugTarget ((p.withOp 6).of 0x8901) = .ok t →
    exec (.threadDebugBreakSet p) s = .next ((s.modPodOf (threadPod t) (fun x => { x with
      breakpoints := Tbl.set x.breakpoints (leAt (p.withOp 6).params 2 1) (leAt (p.withOp 6).params 8 8) })).recorded
        ((p.withOp 6).of 0x8901) (s.thread t).stateBytes))
  ∧ (∀ (s : State) (p : Packet) (t : Nat), s.takesRecorded ((p.withOp 7).of 0x8901) → s.debugTarget ((p.withOp 7).of 0x8901) = .ok t →
    exec (.threadDebugBreakClear p) s = .next ((s.modPodOf (threadPod t) (fun x => { x with
      breakpoints := Tbl.del x.breakpoints (leAt (p.withOp 7).params 2 1) })).recorded ((p.withOp 7).of 0x8901) (s.thread t).stateBytes))

/-- The supervisor controls the threads of its pod, another agent's write does nothing and another thread of the pod
faults with PRIVILEGE; a timer raises its source once; the views of a thread open, grow and free packets of its pod
(R503, R507, R516, R522, R531). -/
def Obligations.ThreadControl : Prop :=
  (∀ (s : State) (t w : Nat), s.live (threadPod t / 6) = true → w = threadId (s.supervisor (threadPod t)) →
    ((s.thread t).state = .faulted → (s.thread t).pc % 4 = 0 → executable (s.thread t).pc = true →
      exec (.threadCtrlResume t w) s = .next ((s.setThread t { s.thread t with
        state := .running
        breakNop := if (s.thread t).faultCause = fcBreak then some (s.thread t).pc else (s.thread t).breakNop }).modPodOf (threadPod t)
          (fun p => { p with faultPending := setBit p.faultPending (podThread t) false })))
    ∧ ((s.thread t).state ≠ .faulted → exec (.threadCtrlResume t w) s = .next s)
    ∧ ((s.thread t).state ≠ .outOfService → (s.thread t).entryPc % 4 = 0 → executable (s.thread t).entryPc = true →
      Runs (.threadCtrlRestart t w) s fun u => u.thread t = (s.thread t).atEntry .running ∧ u.locks = s.locks
        ∧ (∀ k, threadDie k ≠ threadDie t → u.thread k = s.thread k)
        ∧ u = { s with threads := u.threads, pods := u.pods, chans := u.chans })
    ∧ ((s.thread t).state ≠ .outOfService → Runs (.threadCtrlKill t w) s fun u =>
      u.thread t = (s.thread t).killed ∧ bit (u.podOf (threadPod t)).faultPending (podThread t) = false
        ∧ u = { s with threads := u.threads, pods := u.pods, chans := u.chans })
    ∧ (Runs (.threadCtrlReleaseLocks t w) s fun u => (∀ n, n < 64 → (u.lockOf (threadPod t * 64 + n)).held = true →
        (u.lockOf (threadPod t * 64 + n)).owner ≠ threadId t)
        ∧ (∀ k, (s.lockOf k).owner ≠ threadId t → u.lockOf k = s.lockOf k)
        ∧ u = { s with threads := u.threads, locks := u.locks, chans := u.chans }))
  ∧ (∀ (s : State) (t w : Nat), w ≠ threadId (s.supervisor (threadPod t)) → isThreadId w = false →
    exec (.threadCtrlResume t w) s = .next s ∧ exec (.threadCtrlRestart t w) s = .next s ∧ exec (.threadCtrlKill t w) s = .next s
      ∧ exec (.threadCtrlReleaseLocks t w) s = .next s)
  ∧ (∀ (s : State) (t w : Nat), s.live (threadPod t / 6) = true → w ≠ threadId (s.supervisor (threadPod t)) → isThreadId w = true →
    threadOfId w / 72 = threadPod t → (s.thread (threadOfId w)).state = .running →
    exec (.threadCtrlKill t w) s = .next (s.threadFault (threadOfId w) fcPrivilege (some 0)))
  ∧ (∀ (s : State) (t value : Nat), s.live (threadDie t) = true → exec (.threadEventDeadline t (threadId t) value) s =
    .next (s.setThread t { s.thread t with deadline := value % 2 ^ 64, armed := true }))
  ∧ (∀ (s : State) (t : Nat), s.live (threadDie t) = true → (s.thread t).armed = true → (s.thread t).deadline ≤ s.tickAt (threadDie t) →
    (s.thread t).state = .running →
    exec (.threadTimer t) s = .next (s.setThread t { (s.thread t).raised 5 0 with armed := false }))
  ∧ (∀ (s : State) (t : Nat), s.tickAt (threadDie t) < (s.thread t).deadline → exec (.threadTimer t) s = .next s)
  ∧ (∀ (s : State) (t v cell : Nat), s.live (threadDie t) = true →
    exec (.pktViewOpen t v cell) s = .next (s.setThread t ((s.thread t).setView v
      (if (Tbl.find (s.podOf (threadPod t)).packets cell).isSome then
        { (s.thread t).view v with firstCell := cell, isOpen := true, stale := false }
      else { (s.thread t).view v with notOwned := true }))))
  ∧ (∀ (s : State) (t v n : Nat) (p : PodPkt), s.live (threadDie t) = true → s.viewPacket t v = some p → n ≤ 9472 →
    p.cells + s.sharedFree (threadDie t) < cellsFor n →
    exec (.pktViewLength t v n) s = .next (s.setThread t ((s.thread t).setView v { (s.thread t).view v with noCell := true })))
  ∧ (∀ (s : State) (t v n : Nat) (p : PodPkt), s.live (threadDie t) = true → s.viewPacket t v = some p → n ≤ 9472 →
    cellsFor n ≤ p.cells + s.sharedFree (threadDie t) → Runs (.pktViewLength t v n) s fun u =>
      ∃ q, u.viewPacket t v = some q ∧ q.bytes.length = n ∧ q.bytes.take p.bytes.length = p.bytes.take n ∧ q.cells = cellsFor n
        ∧ u.threads = s.threads ∧ u = { s with
          pods := u.pods, tms := u.tms, ports := u.ports, fabric := u.fabric, out := u.out, freeCtr := u.freeCtr })
  ∧ (∀ (s : State) (t v : Nat), s.live (threadDie t) = true → s.sharedFree (threadDie t) = 0 →
    exec (.alloc t v) s = .next (s.setThread t ((s.thread t).setView v { (s.thread t).view v with noCell := true })))
  ∧ (∀ (s : State) (t v : Nat), s.live (threadDie t) = true → s.sharedFree (threadDie t) ≠ 0 →
    exec (.alloc t v) s = .next (((s.takeCells (threadDie t) 1).setPacket (threadPod t) (s.newCell (threadDie t))
      { bytes := [], cells := 1, ing := none }).modView t v (fun w =>
        { w with firstCell := s.newCell (threadDie t), isOpen := true, stale := false })))
  ∧ (∀ (s : State) (t v : Nat) (p : PodPkt), s.live (threadDie t) = true → s.viewPacket t v = some p → Runs (.free t v) s fun u =>
      Tbl.find (u.podOf (threadPod t)).packets ((s.thread t).view v).firstCell = none ∧ ((u.thread t).view v).isOpen = false
        ∧ (∀ k, threadPod k ≠ threadPod t → u.thread k = s.thread k) ∧ u.locks = s.locks ∧ u.chans = s.chans ∧ u.mem = s.mem)

/-- A thread that RESUME, RESTART or IRET sends to an address that is not executable (R554): it is FAULTED with ACCESS
at that address, and the instruction at that address has not run. -/
def Obligations.UnexecutableTargets : Prop :=
  (∀ (s : State) (t w : Nat), s.live (threadPod t / 6) = true → w = threadId (s.supervisor (threadPod t)) →
    ((s.thread t).state = .faulted → (s.thread t).pc % 4 = 0 → executable (s.thread t).pc = false →
      Runs (.threadCtrlResume t w) s fun u => (u.thread t).state = .faulted ∧ (u.thread t).faultCause = fcAccess
        ∧ (u.thread t).pc = (s.thread t).pc ∧ (u.thread t).regs = (s.thread t).regs
        ∧ (u.thread t).issueCount = (s.thread t).issueCount)
    ∧ ((s.thread t).state ≠ .outOfService → (s.thread t).entryPc % 4 = 0 → executable (s.thread t).entryPc = false →
      Runs (.threadCtrlRestart t w) s fun u => (u.thread t).state = .faulted ∧ (u.thread t).faultCause = fcAccess
        ∧ (u.thread t).pc = (s.thread t).entryPc ∧ (u.thread t).issueCount = 0))
  ∧ (∀ (s : State) (p : Packet) (t : Nat), s.takesRecorded ((p.withOp 1).of 0x8901) → s.debugTarget ((p.withOp 1).of 0x8901) = .ok t →
    (s.thread t).state = .stopped → (s.thread t).pc % 4 = 0 → executable (s.thread t).pc = false →
    Runs (.threadDebugResume p) s fun u => (u.thread t).state = .faulted ∧ (u.thread t).faultCause = fcAccess
      ∧ (u.thread t).pc = (s.thread t).pc ∧ (u.thread t).regs = (s.thread t).regs ∧ (u.thread t).issueCount = (s.thread t).issueCount)
  ∧ (∀ (s : State) (t : Nat), s.issues t → (s.thread t).intReturn % 4 = 0 → executable (s.thread t).intReturn = false →
    (s.thread t).stepping = false → Runs (.iret t) s fun u => (u.thread t).state = .faulted ∧ (u.thread t).faultCause = fcAccess
      ∧ (u.thread t).pc = (s.thread t).intReturn ∧ (u.thread t).regs = (s.thread t).regs
      ∧ (u.thread t).issueCount = ((s.thread t).issueCount + 1) % 2 ^ 64)

/-- What completing an instruction does to its thread (R541, R542): the result register, the address, the count; w0
stays 0, a thread under STEP stops, and nothing outside the thread changes. An interrupt that is due is taken in place
of the instruction, an armed breakpoint stops the thread, a thread that is not RUNNING issues nothing, and a word that
decodes as none faults with ILLEGAL (R532, R544, R546, R552). -/
def Obligations.InstructionIssue : Prop :=
  ((∀ (s : State) (t rd : Nat) (v : Word), s.retire t rd v = s.setThread t ((s.retire t rd v).thread t)
    ∧ (∀ n, (s.retire t rd v).wreg t n = if n = rd ∧ n ≠ 0 then v else s.wreg t n)
    ∧ ((s.retire t rd v).thread t).pc = ((s.thread t).pc + 4) % 2 ^ 64
    ∧ ((s.retire t rd v).thread t).issueCount = ((s.thread t).issueCount + 1) % 2 ^ 64
    ∧ ((s.retire t rd v).thread t).state = (if (s.thread t).stepping then .stopped else .running)
    ∧ ((s.retire t rd v).thread t).eventMask = (s.thread t).eventMask ∧ ((s.retire t rd v).thread t).intReturn = (s.thread t).intReturn
    ∧ ((s.retire t rd v).thread t).faultCause = (s.thread t).faultCause ∧ ((s.retire t rd v).thread t).staging = (s.thread t).staging
    ∧ ((s.retire t rd v).thread t).chanStatus = (s.thread t).chanStatus ∧ ((s.retire t rd v).thread t).scratchA = (s.thread t).scratchA
    ∧ ((s.retire t rd v).thread t).pending = (s.thread t).pending ∧ ((s.retire t rd v).thread t).view0 = (s.thread t).view0)
  ∧ (∀ (s : State) (t : Nat), s.pass t = s.retire t 0 0)
  ∧ (∀ (s : State) (t a : Nat), a % 4 = 0 → executable a = true →
    s.jumpTo t a = s.setThread t { (s.pass t).thread t with pc := a })
  ∧ (∀ (s : State) (t a : Nat), a % 4 = 0 → executable a = false → (s.thread t).stepping = false →
    s.jumpTo t a = (s.setThread t { (s.pass t).thread t with pc := a }).threadFault t fcAccess none)
  ∧ (∀ (s : State) (t cause : Nat) (addr : Option Nat),
    ((s.threadFault t cause addr).thread t).state = .faulted ∧ ((s.threadFault t cause addr).thread t).faultCause = cause
      ∧ ((s.threadFault t cause addr).thread t).pc = (s.thread t).pc ∧ ((s.threadFault t cause addr).thread t).regs = (s.thread t).regs
      ∧ ((s.threadFault t cause addr).thread t).issueCount = (s.thread t).issueCount
      ∧ ((s.threadFault t cause addr).thread t).faultAddr = addr.getD (s.thread t).faultAddr
      ∧ bit ((s.threadFault t cause addr).podOf (threadPod t)).faultPending (podThread t) = true
      ∧ s.threadFault t cause addr = { s with
          threads := (s.threadFault t cause addr).threads
          pods := (s.threadFault t cause addr).pods
          chans := (s.threadFault t cause addr).chans
          errors := (s.threadFault t cause addr).errors }))
  ∧ ((∀ (s : State) (t : Nat) (body : State → State), (s.issues t → s.issue t body = body s)
    ∧ ((s.thread t).state ≠ .running → s.issue t body = s)
    ∧ (s.live (threadDie t) = true → (s.thread t).state = .running → s.intDue t = true → s.issue t body = s.takeInt t)
    ∧ (s.live (threadDie t) = true → (s.thread t).state = .running → s.intDue t = false → s.atBreak t = true →
      s.issue t body = s.setThread t { s.thread t with state := .stopped, breakHit := true }))
  ∧ (∀ (s : State) (t : Nat) (w : Word32), s.issues t → decodeWord t w.toNat = none →
    exec (.illegalInstruction t w) s = .next (s.threadFault t fcIllegal none))
  ∧ (∀ (s : State) (t : Nat) (w : Word32), (decodeWord t w.toNat).isSome = true → exec (.illegalInstruction t w) s = .next s))

/-- The integer instructions of two registers, of one register, and of a register and an immediate (R547, Tables 17.4,
17.5): each completes with its result, and a division by 0 faults with DIVIDE. -/
def Obligations.IntegerInstructions : Prop :=
  ((∀ (s : State) (t rd ra rb : Nat), s.issues t →
    let a := s.wreg t ra
    let b := s.wreg t rb
    exec (.add t rd ra rb) s = .next (s.retire t rd (a + b))
      ∧ exec (.sub t rd ra rb) s = .next (s.retire t rd (a - b))
      ∧ exec (.and t rd ra rb) s = .next (s.retire t rd (a &&& b))
      ∧ exec (.or t rd ra rb) s = .next (s.retire t rd (a ||| b))
      ∧ exec (.xor t rd ra rb) s = .next (s.retire t rd (a ^^^ b))
      ∧ exec (.shl t rd ra rb) s = .next (s.retire t rd (BitVec.ofNat 64 (a.toNat * 2 ^ (b.toNat % 64))))
      ∧ exec (.shr t rd ra rb) s = .next (s.retire t rd (BitVec.ofNat 64 (a.toNat / 2 ^ (b.toNat % 64))))
      ∧ exec (.sar t rd ra rb) s = .next (s.retire t rd (a.sshiftRight (b.toNat % 64)))
      ∧ exec (.slt t rd ra rb) s = .next (s.retire t rd (if a.toInt < b.toInt then 1 else 0))
      ∧ exec (.sltu t rd ra rb) s = .next (s.retire t rd (if a.toNat < b.toNat then 1 else 0))
      ∧ exec (.min t rd ra rb) s = .next (s.retire t rd (if a.toInt < b.toInt then a else b))
      ∧ exec (.max t rd ra rb) s = .next (s.retire t rd (if a.toInt < b.toInt then b else a))
      ∧ exec (.minu t rd ra rb) s = .next (s.retire t rd (if a.toNat < b.toNat then a else b))
      ∧ exec (.maxu t rd ra rb) s = .next (s.retire t rd (if a.toNat < b.toNat then b else a))
      ∧ exec (.mul t rd ra rb) s = .next (s.retire t rd (BitVec.ofNat 64 (a.toNat * b.toNat)))
      ∧ exec (.mulh t rd ra rb) s = .next (s.retire t rd (BitVec.ofInt 64 (a.toInt * b.toInt / 2 ^ 64)))
      ∧ exec (.mulhu t rd ra rb) s = .next (s.retire t rd (BitVec.ofNat 64 (a.toNat * b.toNat / 2 ^ 64)))
      ∧ (b ≠ 0 → exec (.div t rd ra rb) s = .next (s.retire t rd (BitVec.ofInt 64 (a.toInt.tdiv b.toInt)))
        ∧ exec (.divu t rd ra rb) s = .next (s.retire t rd (BitVec.ofNat 64 (a.toNat / b.toNat)))
        ∧ exec (.rem t rd ra rb) s = .next (s.retire t rd (BitVec.ofInt 64 (a.toInt.tmod b.toInt)))
        ∧ exec (.remu t rd ra rb) s = .next (s.retire t rd (BitVec.ofNat 64 (a.toNat % b.toNat))))
      ∧ (b = 0 → exec (.div t rd ra rb) s = .next (s.threadFault t fcDivide none)
        ∧ exec (.divu t rd ra rb) s = .next (s.threadFault t fcDivide none)
        ∧ exec (.rem t rd ra rb) s = .next (s.threadFault t fcDivide none)
        ∧ exec (.remu t rd ra rb) s = .next (s.threadFault t fcDivide none))))
  ∧ ((∀ (s : State) (t rd ra imm : Nat), s.issues t →
    let a := s.wreg t ra
    exec (.clz t rd ra) s = .next (s.retire t rd (BitVec.ofNat 64 (leadingZeros a)))
      ∧ exec (.ctz t rd ra) s = .next (s.retire t rd (BitVec.ofNat 64 (trailingZeros a)))
      ∧ exec (.popc t rd ra) s = .next (s.retire t rd (BitVec.ofNat 64 (((List.range 64).filter (fun i => a.getLsbD i)).length)))
      ∧ exec (.bswap64 t rd ra) s = .next (s.retire t rd (BitVec.ofNat 64 (le (toLe 8 a.toNat).reverse)))
      ∧ exec (.bswap32 t rd ra) s = .next (s.retire t rd (BitVec.ofNat 64 (le (toLe 4 a.toNat).reverse)))
      ∧ exec (.bswap16 t rd ra) s = .next (s.retire t rd (BitVec.ofNat 64 (le (toLe 2 a.toNat).reverse)))
      ∧ exec (.addi t rd ra imm) s = .next (s.retire t rd (a + (BitVec.ofNat 16 imm).signExtend 64))
      ∧ exec (.andi t rd ra imm) s = .next (s.retire t rd (a &&& BitVec.ofNat 64 imm))
      ∧ exec (.ori t rd ra imm) s = .next (s.retire t rd (a ||| BitVec.ofNat 64 imm))
      ∧ exec (.xori t rd ra imm) s = .next (s.retire t rd (a ^^^ BitVec.ofNat 64 imm))
      ∧ exec (.shli t rd ra imm) s = .next (s.retire t rd (BitVec.ofNat 64 (a.toNat * 2 ^ (imm % 64))))
      ∧ exec (.shri t rd ra imm) s = .next (s.retire t rd (BitVec.ofNat 64 (a.toNat / 2 ^ (imm % 64))))
      ∧ exec (.sari t rd ra imm) s = .next (s.retire t rd (a.sshiftRight (imm % 64)))
      ∧ exec (.slti t rd ra imm) s = .next (s.retire t rd (if a.toInt < ((BitVec.ofNat 16 imm).signExtend 64).toInt then 1 else 0))
      ∧ exec (.sltiu t rd ra imm) s = .next (s.retire t rd (if a.toNat < ((BitVec.ofNat 16 imm).signExtend 64).toNat then 1 else 0))
      ∧ exec (.lui t rd imm) s = .next (s.retire t rd (BitVec.ofNat 64 (imm % 2 ^ 21 * 2 ^ 16))))
  ∧ (∀ a : Word, a ≠ 0 → 2 ^ (63 - leadingZeros a) ≤ a.toNat ∧ a.toNat < 2 ^ (64 - leadingZeros a) ∧ leadingZeros a ≤ 63)
  ∧ (∀ a : Word, a ≠ 0 → a.toNat % 2 ^ trailingZeros a = 0 ∧ a.toNat / 2 ^ trailingZeros a % 2 = 1 ∧ trailingZeros a ≤ 63)
  ∧ leadingZeros 0 = 64 ∧ trailingZeros 0 = 64)

/-- Loads, stores and AMO (R504, R505, R507, R547): a misaligned address faults with ALIGN, one that no place holds
with its cause; a store to memory changes the bytes it stores to and no others, reads give what was written, and
memory keeps its canonical form (the form is the model's, log 3). -/
def Obligations.MemoryInstructions : Prop :=
  ((∀ (s u : State) (t rd ra imm n : Nat) (pl : Place) (bs : List Byte), s.issues t →
    let a := effAddr (s.wreg t ra) imm
    a % n = 0 → s.reach t a n = .ok pl → s.readPlace t n pl = .done bs u →
    (n = 1 → exec (.ld8u t rd ra imm) s = .next (u.retire t rd (BitVec.ofNat 64 (le bs % 2 ^ 8)))
      ∧ exec (.ld8s t rd ra imm) s = .next (u.retire t rd ((BitVec.ofNat 8 (le bs)).signExtend 64)))
    ∧ (n = 2 → exec (.ld16u t rd ra imm) s = .next (u.retire t rd (BitVec.ofNat 64 (le bs % 2 ^ 16)))
      ∧ exec (.ld16s t rd ra imm) s = .next (u.retire t rd ((BitVec.ofNat 16 (le bs)).signExtend 64)))
    ∧ (n = 4 → exec (.ld32u t rd ra imm) s = .next (u.retire t rd (BitVec.ofNat 64 (le bs % 2 ^ 32)))
      ∧ exec (.ld32s t rd ra imm) s = .next (u.retire t rd ((BitVec.ofNat 32 (le bs)).signExtend 64)))
    ∧ (n = 8 → exec (.ld64 t rd ra imm) s = .next (u.retire t rd (BitVec.ofNat 64 (le bs)))))
  ∧ (∀ (s u : State) (t ra rb imm n : Nat) (pl : Place), s.issues t →
    let a := effAddr (s.wreg t ra) imm
    a % n = 0 → s.reach t a n = .ok pl → (s.pass t).writePlace t (toLe n (s.wreg t rb).toNat) pl = .done u →
    (n = 1 → exec (.st8 t ra rb imm) s = .next u) ∧ (n = 2 → exec (.st16 t ra rb imm) s = .next u)
    ∧ (n = 4 → exec (.st32 t ra rb imm) s = .next u) ∧ (n = 8 → exec (.st64 t ra rb imm) s = .next u))
  ∧ (∀ (s : State) (t n : Nat) (r : Region) (off : Nat) (bs : List Byte), s.eccFails r off n = false → off + bs.length ≤ 2 ^ 64 →
    s.readPlace t n (.memory r off) = .done (s.readBytes r off n) s
      ∧ s.writePlace t bs (.memory r off) = .done (s.writeBytes r off bs)
      ∧ s.writeBytes r off bs = { s with mem := (s.writeBytes r off bs).mem }
      ∧ (∀ (q : Region) (x : Nat), x < 2 ^ 64 → (q ≠ r ∨ x < off ∨ off + bs.length ≤ x) → (s.writeBytes r off bs).readBytes q x 1 = s.readBytes q x 1)
      ∧ (s.writeBytes r off bs).readBytes r off bs.length = bs)
  ∧ (∀ (s : State) (t rd ra imm n : Nat), s.issues t →
    let a := effAddr (s.wreg t ra) imm
    a % n ≠ 0 →
    (n = 2 → exec (.ld16u t rd ra imm) s = .next (s.threadFault t fcAlign (some a))
      ∧ exec (.ld16s t rd ra imm) s = .next (s.threadFault t fcAlign (some a))
      ∧ exec (.st16 t ra rd imm) s = .next (s.threadFault t fcAlign (some a)))
    ∧ (n = 4 → exec (.ld32u t rd ra imm) s = .next (s.threadFault t fcAlign (some a))
      ∧ exec (.ld32s t rd ra imm) s = .next (s.threadFault t fcAlign (some a))
      ∧ exec (.st32 t ra rd imm) s = .next (s.threadFault t fcAlign (some a)))
    ∧ (n = 8 → exec (.ld64 t rd ra imm) s = .next (s.threadFault t fcAlign (some a))
      ∧ exec (.st64 t ra rd imm) s = .next (s.threadFault t fcAlign (some a))))
  ∧ (∀ (s : State) (t rd ra imm c : Nat), s.issues t → s.reach t (effAddr (s.wreg t ra) imm) 1 = .error c →
    exec (.ld8u t rd ra imm) s = .next (s.threadFault t c (some (effAddr (s.wreg t ra) imm)))
      ∧ exec (.ld8s t rd ra imm) s = .next (s.threadFault t c (some (effAddr (s.wreg t ra) imm)))
      ∧ exec (.st8 t ra rd imm) s = .next (s.threadFault t c (some (effAddr (s.wreg t ra) imm))))
  ∧ (∀ (s : State) (t rd ra rb func : Nat) (r : Region) (off : Nat), s.issues t → func < 16 →
    let n := if 8 ≤ func then 4 else 8
    let a := (s.wreg t ra).toNat
    let b := (s.wreg t rb).toNat % 2 ^ (8 * n)
    let old := le (s.readBytes r off n)
    a % n = 0 → s.placeOf t a = .memory r off → s.eccFails r off n = false →
    (func % 8 < 7 → exec (.amo t rd ra rb func) s = .next ((s.writeBytes r off (toLe n (match func % 8 with
      | 0 => b
      | 1 => (old + b) % 2 ^ (8 * n)
      | 2 => old &&& b
      | 3 => old ||| b
      | 4 => old ^^^ b
      | 5 => min old b
      | _ => max old b))).retire t rd (BitVec.ofNat 64 old)))
    ∧ (func % 8 = 7 → exec (.amo t rd ra rb func) s = .next ((if old = (s.wreg t rd).toNat % 2 ^ (8 * n) then
        s.writeBytes r off (toLe n b) else s).retire t rd (BitVec.ofNat 64 old)))))
  ∧ ((∀ (s t : State) (th ra rb imm n : Nat) (r : Region) (off : Nat) (i : Instr), s.issues th →
    i = .st8 th ra rb imm ∧ n = 1 ∨ i = .st16 th ra rb imm ∧ n = 2 ∨ i = .st32 th ra rb imm ∧ n = 4 ∨ i = .st64 th ra rb imm ∧ n = 8 →
    effAddr (s.wreg th ra) imm % n = 0 → s.reach th (effAddr (s.wreg th ra) imm) n = .ok (.memory r off) → exec i s = .next t →
    t.mem = (s.writeBytes r off (toLe n (s.wreg th rb).toNat)).mem ∧ (Memory.wf s.mem → Memory.wf t.mem)
      ∧ (off + n ≤ 2 ^ 64 → le (t.readBytes r off n) = (s.wreg th rb).toNat % 2 ^ (8 * n))
      ∧ (∀ (q : Region) (x : Nat), x < 2 ^ 64 → off + n ≤ 2 ^ 64 → q ≠ r ∨ x < off ∨ off + n ≤ x → t.readByte q x = s.readByte q x)
      ∧ t = { s with mem := t.mem, threads := t.threads })
  ∧ (∀ (s t : State) (th rd ra rb func : Nat), s.issues th → Memory.wf s.mem → exec (.amo th rd ra rb func) s = .next t → Memory.wf t.mem))

/-- A taken branch goes to its target, another to the next instruction; JAL and JALR leave the return address; a JALR
to an address that is not a multiple of 4 faults with ALIGN (Table 17.6, R545, R554). -/
def Obligations.ControlTransfer : Prop :=
  (∀ (s : State) (t ra rb offset : Nat), s.issues t →
    let a := s.wreg t ra
    let b := s.wreg t rb
    let go := fun (c : Bool) => if c then s.jumpTo t (branchTarget (s.thread t).pc 16 offset) else s.pass t
    exec (.beq t ra rb offset) s = .next (go (decide (a = b)))
      ∧ exec (.bne t ra rb offset) s = .next (go (decide (a ≠ b)))
      ∧ exec (.blt t ra rb offset) s = .next (go (decide (a.toInt < b.toInt)))
      ∧ exec (.bge t ra rb offset) s = .next (go (decide (b.toInt ≤ a.toInt)))
      ∧ exec (.bltu t ra rb offset) s = .next (go (decide (a.toNat < b.toNat)))
      ∧ exec (.bgeu t ra rb offset) s = .next (go (decide (b.toNat ≤ a.toNat))))
  ∧ (∀ (s : State) (t offset : Nat), s.issues t → exec (.j t offset) s = .next (s.jumpTo t (branchTarget (s.thread t).pc 26 offset))
    ∧ exec (.jal t offset) s = .next ((s.setThread t ((s.thread t).setReg 31 (BitVec.ofNat 64 ((s.thread t).pc + 4)))).jumpTo t
      (branchTarget (s.thread t).pc 26 offset)))
  ∧ (∀ (s : State) (t rd ra imm : Nat), s.issues t →
    let a := (s.wreg t ra + (BitVec.ofNat 16 imm).signExtend 64).toNat
    (a % 4 = 0 → exec (.jalr t rd ra imm) s =
      .next ((s.setThread t ((s.thread t).setReg rd (BitVec.ofNat 64 ((s.thread t).pc + 4)))).jumpTo t a))
    ∧ (a % 4 ≠ 0 → exec (.jalr t rd ra imm) s = .next (s.threadFault t fcAlign none)))
  ∧ (∀ (pc n offset : Nat), pc < 2 ^ 64 → n = 16 ∨ n = 26 → offset < 2 ^ (n - 1) → pc + 4 * offset < 2 ^ 64 →
    branchTarget pc n offset = pc + 4 * offset)
  ∧ (∀ (pc n k : Nat), pc < 2 ^ 64 → n = 16 ∨ n = 26 → 0 < k → k ≤ 2 ^ (n - 1) → 4 * k ≤ pc →
    branchTarget pc n (2 ^ n - k) = pc - 4 * k)

/-- Words are staged, committed as one message and read in order; without room, or without a word, the blocking forms
wait and the others answer 0; a channel that is not the thread's faults (R510-R512, R548). An event wait returns the
pending inputs that are enabled, SIGNAL raises an input of another thread, RO special registers are not written, IRET
returns from the handler and BREAK faults (R514, R515, R542, R543, R549, R552, R553, R555). -/
def Obligations.ChannelAndEventInstructions : Prop :=
  ((∀ (s : State) (t ra rb k : Nat), s.issues t → s.chanFor t ra true = some k → (s.thread t).badStage k = false →
    exec (.chw t ra rb) s = .next ((s.setThread t { s.thread t with
      staging := (s.thread t).staging ++ [s.wreg t rb], stagedFor := k % 1536 }).pass t))
  ∧ (∀ (s : State) (t rd ra rb k : Nat), s.issues t → s.chanFor t ra true = some k → (s.thread t).badStage k = false →
    mClass (s.chanOf k).reader = 1 →
    let ws := (s.thread t).staging ++ [s.wreg t rb]
    let sent := (s.setThread t { s.thread t with staging := [] }).putMessage k ws
    (ws.length ≤ (s.chanOf k).room → exec (.chwe t ra rb) s = .next (sent.pass t)
      ∧ exec (.chwep t rd ra rb) s = .next ((sent.modThread t (fun th => { th with chanStatus := th.chanStatus / 2 * 2 + 1 })).retire t rd 1))
    ∧ ((s.chanOf k).room < ws.length → exec (.chwe t ra rb) s = .next (s.setThread t { s.thread t with
          state := .blocked, wait := .messageCommit, object := k % 256, objectPod := k % 1536 / 256, endWord := s.wreg t rb })
      ∧ exec (.chwep t rd ra rb) s = .next ((s.setThread t { s.thread t with
          chanStatus := (s.thread t).chanStatus / 2 * 2 }).retire t rd 0)))
  ∧ (∀ (s : State) (t rd ra k : Nat) (w : Word) (last : Bool) (rest : List (Word × Bool)), s.issues t →
    s.chanFor t ra false = some k → (s.chanOf k).words = (w, last) :: rest → mClass (s.chanOf k).writer = 1 →
    let u := ((s.setChanOf k { s.chanOf k with words := rest }).setThread t (((s.thread t).takeWord rd w last).complete
      (((s.thread t).pc + 4) % 2 ^ 64))).settleDie (threadDie t)
    exec (.chr t rd ra) s = .next u ∧ exec (.chrp t rd ra) s = .next u)
  ∧ (∀ (s : State) (t rd ra k : Nat), s.issues t → s.chanFor t ra false = some k → (s.chanOf k).words = [] →
    exec (.chr t rd ra) s = .next (s.setThread t { s.thread t with
        state := .blocked, wait := .channelRead, object := k % 256, objectPod := k % 1536 / 256, waitRd := rd })
      ∧ exec (.chrp t rd ra) s = .next ((s.setThread t { s.thread t with
        chanStatus := (s.thread t).chanStatus / 2 * 2 }).retire t rd 0))
  ∧ (∀ (s : State) (t rd ra rb : Nat), s.issues t →
    (s.chanFor t ra true = none → exec (.chw t ra rb) s = .next (s.threadFault t fcChannel none)
      ∧ exec (.chwe t ra rb) s = .next (s.threadFault t fcChannel none)
      ∧ exec (.chwep t rd ra rb) s = .next (s.threadFault t fcChannel none))
    ∧ (s.chanFor t ra false = none → exec (.chr t rd ra) s = .next (s.threadFault t fcChannel none)
      ∧ exec (.chrp t rd ra) s = .next (s.threadFault t fcChannel none)))
  ∧ (∀ (s : State) (t ra rb k : Nat), s.issues t → s.chanFor t ra true = some k → (s.thread t).staging.length = 8 →
    exec (.chw t ra rb) s = .next (s.threadFault t fcMessage none) ∧ exec (.chwe t ra rb) s = .next (s.threadFault t fcMessage none))
  ∧ (∀ (s : State) (k : Nat) (ws : List Word) (w : Word), s.threads = [] →
    ((s.putMessage k (ws ++ [w])).chanOf k).words = (s.chanOf k).words ++ (ws.map (fun x => (x, false)) ++ [(w, true)])))
  ∧ ((∀ (s : State) (t rd : Nat), s.issues t →
    let set := s.pendingBits t &&& (s.thread t).eventMask % 256
    let got := (s.setThread t ((s.thread t).takeEvents set)).retire t rd (BitVec.ofNat 64 set)
    exec (.epoll t rd) s = .next got
      ∧ (set ≠ 0 → exec (.ewait t rd) s = .next got)
      ∧ (set = 0 → exec (.ewait t rd) s = .next (s.setThread t { s.thread t with
          state := .blocked, wait := .eventWait, waitMask := (s.thread t).eventMask % 256, waitRd := rd })))
  ∧ (∀ (s : State) (t ra rb : Nat), s.issues t →
    let i := (s.wreg t ra).toNat
    let b := (s.wreg t rb).toNat
    let target := threadDie t * 432 + i
    (i ≤ 431 → i % 72 < 64 → b < 8 → (s.thread target).state = .running → target ≠ t →
      exec (.signal t ra rb) s = .next (if (s.thread target).srcKind b = 1 ∧ ((s.thread target).srcIndex b = 0x7FF ∨
          (threadPod t = threadPod target ∧ (s.thread target).srcIndex b = podThread t)) then
        (s.pass t).setThread target { s.thread target with pending := setBit (s.thread target).pending b true } else s.pass t))
    ∧ (i ≤ 431 → i % 72 < 64 → b = 8 → s.isSupervisor t = true → threadPod target = threadPod t → (s.thread target).state = .running →
      exec (.signal t ra rb) s = .next ((s.pass t).modThread target (fun th => { th with intSignal := true })))
    ∧ (i ≤ 431 → i % 72 < 64 → b = 8 → s.isSupervisor t = false → exec (.signal t ra rb) s = .next (s.threadFault t fcPrivilege none))
    ∧ (431 < i ∨ 64 ≤ i % 72 ∨ 8 < b → exec (.signal t ra rb) s = .next (s.threadFault t fcAccess none)))
  ∧ (∀ (s : State) (t rd ra sr v : Nat), s.issues t → s.specialReg t sr = some v →
    exec (.mfsr t rd sr) s = .next (s.retire t rd (BitVec.ofNat 64 v))
      ∧ exec (.mtsr t ra sr) s = .next ((s.setThread t ((s.thread t).setSpecial sr (s.wreg t ra))).pass t)
      ∧ (sr ≠ 3 → sr ≠ 6 → sr ≠ 8 → sr ≠ 9 → exec (.mtsr t ra sr) s = .next (s.pass t)))
  ∧ (∀ (s : State) (t rd ra sr : Nat), s.issues t → 0xC < sr → exec (.mfsr t rd sr) s = .next (s.threadFault t fcIllegal none)
    ∧ exec (.mtsr t ra sr) s = .next (s.threadFault t fcIllegal none))
  ∧ (∀ (s : State) (t : Nat), s.specialReg t 1 = some (threadId t) ∧ s.specialReg t 0 = some (s.thread t).pc
    ∧ s.specialReg t 2 = some (if s.isSupervisor t then 1 else 0) ∧ s.specialReg t 0xB = some (s.tickAt (threadDie t)))
  ∧ (∀ (s : State) (t : Nat), s.issues t → exec (.iret t) s = .next ((s.setThread t { s.thread t with
      eventMask := (s.thread t).maskFor (setBit (s.thread t).eventMask 8 true) }).jumpTo t (s.thread t).intReturn))
  ∧ (∀ (s : State) (t : Nat), s.issues t →
    ((s.thread t).breakNop = some (s.thread t).pc → exec (.breakInsn t) s =
      .next ((s.setThread t { s.thread t with breakNop := none }).pass t))
    ∧ ((s.thread t).breakNop ≠ some (s.thread t).pc → exec (.breakInsn t) s = .next (s.threadFault t fcBreak none)))
  ∧ (∀ (s : State) (t : Nat), s.issues t → exec (.yield t) s = .next (s.pass t) ∧ exec (.fence t) s = .next (s.pass t)
    ∧ exec (.fenceS t) s = .next (s.pass t) ∧ exec (.fenceI t) s = .next (s.pass t)))

/-- HLD reads and HST rewrites exactly the bits of their field, and the checksum, CRC and hash instructions complete
with their results (R547, R550, R551). -/
def Obligations.FieldAndHashInstructions : Prop :=
  (∀ (s u : State) (t rd ra f : Nat) (pl : Place) (bs : List Byte), s.issues t →
    let a := (s.wreg t ra + BitVec.ofNat 64 (f % 128)).toNat
    let n := (f / 2 ^ 7 % 8 + (f / 2 ^ 10 % 64 + 1) + 7) / 8
    s.reachField t a n = .ok pl → s.readPlace t n pl = .done bs u →
    exec (.hld t rd ra f) s = .next (u.retire t rd (BitVec.ofNat 64 (fieldRead f bs)))
      ∧ ∀ v : State, u.writePlace t (fieldWrite f bs (u.wreg t rd).toNat) pl = .done v → exec (.hst t rd ra f) s = .next (v.pass t))
  ∧ (∀ (s : State) (t rd ra f c : Nat), s.issues t →
    let a := (s.wreg t ra + BitVec.ofNat 64 (f % 128)).toNat
    s.reachField t a (fieldBytes f) = .error c →
    exec (.hld t rd ra f) s = .next (s.threadFault t c (some a)) ∧ exec (.hst t rd ra f) s = .next (s.threadFault t c (some a)))
  ∧ (∀ (f v : Nat) (bs : List Byte), bs.length = fieldBytes f → f < 2 ^ 16 →
    fieldRead f (fieldWrite f bs v) = v % 2 ^ fieldWidth f ∧ (fieldWrite f bs v).length = bs.length
      ∧ ∀ i, i < 8 * fieldBytes f → (i < fieldBit f ∨ fieldBit f + fieldWidth f ≤ i) →
        bit (beNat (fieldWrite f bs v) 0) (8 * fieldBytes f - 1 - i) = bit (beNat bs 0) (8 * fieldBytes f - 1 - i))
  ∧ (∀ (s : State) (t rd ra rb : Nat), s.issues t →
    let a := s.wreg t ra
    let b := s.wreg t rb
    exec (.csumAdd t rd ra rb) s = .next (s.retire t rd (BitVec.ofNat 64
        ((a.toNat + b.toNat) % 2 ^ 64 + (a.toNat + b.toNat) / 2 ^ 64)))
      ∧ exec (.csumFold t rd ra) s = .next (s.retire t rd (BitVec.ofNat 64 (csumFold a)))
      ∧ exec (.csumFoldn t rd ra) s = .next (s.retire t rd (BitVec.ofNat 64 (0xFFFF - csumFold a)))
      ∧ exec (.crc32B t rd ra rb) s = .next (s.retire t rd ((crcByte crc32Poly (a.setWidth 32) (b.setWidth 8)).setWidth 64))
      ∧ exec (.crc32D t rd ra rb) s = .next (s.retire t rd (((toLe 8 b.toNat).foldl (crcByte crc32Poly) (a.setWidth 32)).setWidth 64))
      ∧ exec (.crc32cB t rd ra rb) s = .next (s.retire t rd ((crcByte crc32cPoly (a.setWidth 32) (b.setWidth 8)).setWidth 64))
      ∧ exec (.crc32cD t rd ra rb) s = .next (s.retire t rd (((toLe 8 b.toNat).foldl (crcByte crc32cPoly) (a.setWidth 32)).setWidth 64))
      ∧ exec (.mix64 t rd ra rb) s = .next (s.retire t rd (mix64 a b)))
  ∧ (∀ a : Word, csumFold a < 2 ^ 16 ∧ csumFold a % 65535 = a.toNat % 65535 ∧ (csumFold a = 0 → a = 0))

/-- Some words of the Rollanen set, written from the encodings, decode as the instructions they stand for, and
reserved ones decode as none (R545, R546, Tables 17.3-17.7). -/
def Obligations.InstructionWords : Prop :=
  decodeWord 7 0x00221800 = some (.add 7 1 2 3) ∧ decodeWord 7 0x03FEE801 = some (.sub 7 31 30 29)
    ∧ decodeWord 7 0x04418000 = some (.addi 7 2 1 0x8000) ∧ decodeWord 7 0x4CA4FFF8 = some (.ld64 7 5 4 0xFFF8)
    ∧ decodeWord 7 0x6CC30010 = some (.st64 7 3 6 0x10) ∧ decodeWord 7 0x8022FFFF = some (.beq 7 1 2 0xFFFF)
    ∧ decodeWord 7 0x9FFFFFFE = some (.jal 7 0x3FFFFFE) ∧ decodeWord 7 0xD0000000 = some (.iret 7)
    ∧ decodeWord 7 0xC8200009 = some (.mfsr 7 1 9) ∧ decodeWord 7 0xEC432004 = some (.mix64 7 2 3 4)
    ∧ decodeWord 7 0xE0C93194 = some (.hld 7 6 9 0x3194) ∧ decodeWord 7 0xC0220004 = some (.chr 7 1 2)
    ∧ decodeWord 7 0x8460FFFB = some (.bne 7 3 0 0xFFFB)
    ∧ decodeWord 7 0x0000000E = none ∧ decodeWord 7 0x14220040 = none ∧ decodeWord 7 0xFFFFFFFF = none

/-- Every Rollanen instruction with its operands in their fields decodes from its word as itself, and a word that
decodes is the word of the instruction it decodes as: no bit of an encoding is dropped, and no two instructions share
a word (R545, R546). -/
def Obligations.DecodeEncode : Prop :=
  (∀ (i : Instr) (w : Nat), i.wf = true → encodeWord i = some w → w < 2 ^ 32 ∧ ∃ t, decodeWord t w = some i)
  ∧ (∀ (i : Instr) (t w : Nat), decodeWord t w = some i → w < 2 ^ 32 ∧ encodeWord i = some w)

/-- A legal microword that touches no memory and makes no IO writes its destination, sets flags where it says so and
goes on to its next address; a WAIT that is not met waits; an illegal word or address is a fault of its cause, which
restarts the sequencer and ends its context (R563-R567, Table 18.2). Service requests are taken one at a time at a
safe point, a fault that firmware cannot repair takes the sequencer out of service, a context is cached, and a frame
joins its sequencer's input (R559, R561, R566, R567). -/
def Obligations.Sequencers : Prop :=
  ((∀ (s : State) (die seq n : Nat) (stack : List Nat), s.live die = true → seq < 16 →
    let k := die * 16 + seq
    let q := s.seqOf k
    let a := s.fetchAddr q
    let m := microOf (s.controlWord a)
    let b := if m.bImm then BitVec.ofNat 64 m.imm else q.mreg m.srcB
    q.state ≠ .outOfService → a < 0x4400 → microLegal (s.controlWord a) = true → m.seq ≠ 5 → m.mem = 0 → m.io = 0 →
    m.target q a (s.seqCond k q m.cond != m.condInv) = some (n, stack) → m.safe = true ∨ q.gap < 255 →
    Runs (.microword die seq) s fun t => ∃ sh : Word,
      t = { s with seqs := t.seqs, freeCtr := t.freeCtr } ∧ (t.seqOf k).upc = n ∧ (t.seqOf k).stack = stack
        ∧ (t.seqOf k).state = .running ∧ (t.seqOf k).safe = m.safe ∧ (t.seqOf k).input = q.input ∧ (t.seqOf k).current = q.current
        ∧ (∀ v, (alu m.alu (q.mreg m.srcA) b sh).value = some v → m.dest ≠ 0 → (t.seqOf k).mreg m.dest = v)
        ∧ (∀ r, r ≠ m.dest → (m.moveEn = true → r ≠ m.moveDst) → (t.seqOf k).mreg r = q.mreg r)
        ∧ (m.moveEn = true → m.moveDst ≠ m.dest → m.moveDst ≠ 0 → (t.seqOf k).mreg m.moveDst = q.mreg m.moveSrc)
        ∧ (m.setFlags = true → (t.seqOf k).flagZ = (alu m.alu (q.mreg m.srcA) b sh).zero
          ∧ (t.seqOf k).flagN = (alu m.alu (q.mreg m.srcA) b sh).negative)
        ∧ (m.setFlags = false → m.alu ≠ 10 → (t.seqOf k).flagZ = q.flagZ ∧ (t.seqOf k).flagN = q.flagN ∧ (t.seqOf k).flagC = q.flagC)
        ∧ (∀ d, d ≠ k → t.seqOf d = s.seqOf d))
  ∧ (∀ (s : State) (die seq : Nat), s.live die = true → seq < 16 →
    let k := die * 16 + seq
    let q := s.seqOf k
    let a := s.fetchAddr q
    q.state ≠ .outOfService →
    (0x4400 ≤ a → exec (.microword die seq) s = .next (s.microFault k 2 a))
    ∧ (a < 0x4400 → microLegal (s.controlWord a) = false → exec (.microword die seq) s = .next (s.microFault k 1 a))
    ∧ (a < 0x4400 → microLegal (s.controlWord a) = true → (microOf (s.controlWord a)).seq = 5 →
      s.seqCond k q (microOf (s.controlWord a)).cond = (microOf (s.controlWord a)).condInv →
      exec (.microword die seq) s = .next (s.setSeqOf k { q with state := .waiting, upc := a, gap := 0 })))
  ∧ (∀ (a b sh : Word), (alu 1 a b sh).value = some (a + b) ∧ (alu 1 a b sh).carry = some (decide (2 ^ 64 ≤ a.toNat + b.toNat))
      ∧ (alu 2 a b sh).value = some (a - b) ∧ (alu 3 a b sh).value = some (a &&& b) ∧ (alu 4 a b sh).value = some (a ||| b)
      ∧ (alu 5 a b sh).value = some (a ^^^ b) ∧ (b.toNat < 64 → (alu 6 a b sh).value = some (a <<< b.toNat)
        ∧ (alu 7 a b sh).value = some (a >>> b.toNat))
      ∧ (alu 8 a b sh).value = some (BitVec.ofNat 64 ((a.toNat + b.toNat) % 2 ^ 32)) ∧ (alu 10 a b sh).value = none
      ∧ (alu 10 a b sh).zero = decide (a.toNat % 2 ^ 32 = b.toNat % 2 ^ 32)
      ∧ (alu 11 a b sh).value = some (BitVec.ofNat 64 (min a.toNat b.toNat))
      ∧ (alu 12 a b sh).value = some (BitVec.ofNat 64 (max a.toNat b.toNat)))
  ∧ (∀ (s : State) (k cause addr : Nat), (s.seqOf k).current = none →
    (s.microFault k cause addr).seqOf k = { s.seqOf k with
      state := .running, upc := 0, gap := 0, safe := false, crc := 0, window := none, current := none, staged := [], stack := [] }
    ∧ (∃ e ∈ (s.microFault k cause addr).errors.latched, e.cause = 0x0701 ∧ e.die = k / 16 ∧ e.unit = k % 16)
    ∧ (∀ d, d ≠ k → (s.microFault k cause addr).seqOf d = s.seqOf d) ∧ (s.microFault k cause addr).contexts = s.contexts)
  ∧ (∀ (s : State) (k cause addr n : Nat), (s.seqOf k).current = some n → s.pathOf (k / 16) n = none →
    ((s.microFault k cause addr).context (k / 16 * 262144 + n)).state = 4
      ∧ ((s.microFault k cause addr).context (k / 16 * 262144 + n)).faults
        = min 0xFFFF ((s.context (k / 16 * 262144 + n)).faults + 1)
      ∧ ∀ d, d ≠ k / 16 * 262144 + n → (s.microFault k cause addr).context d = s.context d))
  ∧ ((∀ (s : State) (die seq : Nat), s.live die = true → seq < 16 →
    let k := die * 16 + seq
    let q := s.seqOf k
    q.state = .waiting → q.switch = false →
    (∀ n rest, q.updates = n :: rest → exec (.serviceRequest die seq) s =
      .next ((s.setSeqOf k { q with updates := rest }).seqCount (k / 16) 3))
    ∧ (∀ n rest, q.updates = [] → q.closes = n :: rest → exec (.serviceRequest die seq) s =
      .next (((s.setSeqOf k { q with closes := rest }).freeContext k n).seqCount (k / 16) 3))
    ∧ (∀ n rest, q.updates = [] → q.closes = [] → q.flushes = n :: rest → exec (.serviceRequest die seq) s =
      .next ((s.setSeqOf k { q with flushes := rest }).seqCount (k / 16) 3))
    ∧ (q.updates = [] → q.closes = [] → q.flushes = [] → exec (.serviceRequest die seq) s = .next s))
  ∧ (∀ (s : State) (die seq : Nat), (s.seqOf (die * 16 + seq)).state = .running → (s.seqOf (die * 16 + seq)).safe = false →
    exec (.serviceRequest die seq) s = .next s)
  ∧ (∀ (s : State) (die seq cause : Nat) (c : Bool), s.live die = true → seq < 16 → (s.seqOf (die * 16 + seq)).state ≠ .outOfService →
    1 ≤ cause → cause ≤ 6 → cause ≠ 4 ∨ c = true →
    exec (.microcodeFault die seq cause c) s = .next (s.microFault (die * 16 + seq) cause (s.fetchAddr (s.seqOf (die * 16 + seq)))))
  ∧ (∀ (s : State) (die seq : Nat), s.live die = true → seq < 16 → (s.seqOf (die * 16 + seq)).state ≠ .outOfService →
    s.fetchAddr (s.seqOf (die * 16 + seq)) < 0x4000 → (s.seqOf (die * 16 + seq)).current = none →
    (s.seqOf (die * 16 + seq)).window = none → s.contextsOf die seq = [] → s.patch.target = none →
    Runs (.microcodeFault die seq 4 false) s fun t =>
      (t.seqOf (die * 16 + seq)).state = .outOfService ∧ (∃ e ∈ t.errors.latched, e.cause = 0x0703 ∧ e.die = die ∧ e.unit = seq)
        ∧ (∃ e ∈ t.errors.latched, e.cause = 0x0701 ∧ e.die = die ∧ e.unit = seq)
        ∧ t = { s with seqs := t.seqs, errors := t.errors, seqCounters := t.seqCounters })
  ∧ (∀ (s : State) (die context : Nat), s.live die = true → 2 ≤ s.dramOf die → context < 262144 →
    let k := die * 16 + context % 16
    (s.seqOf k).state ≠ .outOfService → (s.seqOf k).cache.contains context = false →
    exec (.contextLoad die context) s = .next ((s.setSeqOf k { s.seqOf k with
      cache := (if 64 ≤ (s.seqOf k).cache.length then (s.seqOf k).cache.drop 1 else (s.seqOf k).cache) ++ [context] }).seqCount die 2))
  ∧ (∀ (s : State) (die context : Nat) (frame : List Byte), s.live die = true → context < 262144 → 2 ≤ s.dramOf die →
    let k := die * 16 + context % 16
    ((s.context (die * 262144 + context)).state = 1 → (s.seqOf k).input.length < 4096 →
      exec (.sequencerFrameEnqueue die context frame) s = .next ((s.takeCells die (cellsFor frame.length)).modSeqOf k (fun q => { q with
        input := q.input ++ [{ context := context, bytes := frame, cells := cellsFor frame.length, ing := none }] })))
    ∧ ((s.context (die * 262144 + context)).state = 4 → Runs (.sequencerFrameEnqueue die context frame) s fun t =>
      t.seqs = s.seqs ∧ t.contexts = s.contexts ∧ t.threads = s.threads
        ∧ (cellsFor frame.length ≤ (s.tm die).free → (t.tm die).free = (s.tm die).free))))

/-- A new context opens in a sequencer that its channel serves, a deletion asks its sequencer to close it, kinds 1 and
2 are not permitted; queries show the status of a sequencer and the bytes of a context (R570). -/
def Obligations.ContextCommands : Prop :=
  (∀ (s : State) (p : Packet) (i : Nat), s.takesRecorded (p.of 0x8A01) → p.paramLen = 64 → leAt p.params 1 1 = 0 →
    leAt p.params 2 1 = 3 ∨ leAt p.params 2 1 = 4 → leAt p.params 4 4 = 0xFFFFFFFF → s.dieStatus (leAt p.params 0 1) = none →
    contextBad p.params = false → s.newContext (leAt p.params 0 1) = some i →
    s.channelServes (leAt p.params 0 1) (leAt p.params 0x0A 2) (i % 16) = true → Runs (.seqContextSet p) s fun t =>
      let die := leAt p.params 0 1
      (t.context (die * 262144 + i)).state = 1 ∧ (t.context (die * 262144 + i)).kind = leAt p.params 2 1
        ∧ (t.context (die * 262144 + i)).owner = p.sender ∧ (t.context (die * 262144 + i)).txNext = leAt p.params 0x1C 4
        ∧ (t.context (die * 262144 + i)).channel = leAt p.params 0x0A 2
        ∧ (∀ k, k ≠ die * 262144 + i → t.context k = s.context k)
        ∧ t.like ({ s with contexts := t.contexts, pipes := t.pipes } : State))
  ∧ (∀ (s : State) (p : Packet), s.takesRecorded (p.of 0x8A01) → p.paramLen = 64 → leAt p.params 1 1 = 1 →
    leAt p.params 2 1 = 3 ∨ leAt p.params 2 1 = 4 → leAt p.params 4 4 < 262144 → s.dieStatus (leAt p.params 0 1) = none →
    let die := leAt p.params 0 1
    let n := leAt p.params 4 4
    let c := s.context (die * 262144 + n)
    c.kind = 3 ∨ c.kind = 4 → c.state = 1 → p.sender = c.owner → (s.seqOf (die * 16 + n % 16)).closes.contains n = false →
    exec (.seqContextSet p) s = .next (((s.setContext (die * 262144 + n) { c with state := 3 }).modSeqOf (die * 16 + n % 16)
      (fun q => { q with closes := q.closes ++ [n] })).recorded (p.of 0x8A01) (toLe 4 n)))
  ∧ (∀ (s : State) (p : Packet), s.takesRecorded (p.of 0x8A01) → p.paramLen = 64 → leAt p.params 1 1 ≤ 1 →
    leAt p.params 2 1 = 1 ∨ leAt p.params 2 1 = 2 → leAt p.params 4 4 < 262144 → s.dieStatus (leAt p.params 0 1) = none →
    exec (.seqContextSet p) s = .next (s.recordedAs (p.of 0x8A01) stNotPermitted []))
  ∧ (∀ (s : State) (p : Packet), s.takes (p.of 0x0A01) → p.paramLen = 8 → leAt p.params 2 2 = 0 → s.dieStatus (leAt p.params 0 1) = none →
    let die := leAt p.params 0 1
    let n := leAt p.params 4 4
    (leAt p.params 1 1 = 0 → n < 16 → exec (.seqQuery p) s =
      .next (s.replied (p.of 0x0A01) (sub (toLe 8 (s.seqStatus (die * 16 + n))) 0 32)))
    ∧ (leAt p.params 1 1 = 1 → n < 262144 → (s.seqOf (die * 16 + n % 16)).cache.contains n = false → exec (.seqQuery p) s =
      .next (s.replied (p.of 0x0A01) (((s.context (die * 262144 + n)).bytes (n % 16)).take 32))))

/-- ERROR_ACK acknowledges every record up to its ERSN: ERR_FIRST becomes ERSN + 1 and those records are gone; it
answers BAD_PARAM to an ERSN at or above ERR_NEXT, and one below ERR_FIRST changes nothing (R575). Queries show the
records, firmware takes up the most severe latched error, a repeat joins its open record, an error beyond the limit is
lost and counted, and handling ends with HANDLED set (R576-R582). -/
def Obligations.ErrorRecords : Prop :=
  (∀ (s : State) (p : Packet), s.takesRecorded (p.of 0x0D01) → p.paramLen = 8 →
    let n := leAt p.params 0 8
    (s.errors.next ≤ n → exec (.errorAck p) s = .next (s.recordedAs (p.of 0x0D01) stBadParam []))
    ∧ (n < s.errors.next → n < s.errors.first → exec (.errorAck p) s = .next (s.recorded (p.of 0x0D01) []))
    ∧ (n < s.errors.next → s.errors.first ≤ n → exec (.errorAck p) s = .next ({ s with
        errors := { s.errors with
          records := s.errors.records.filter (fun r => decide (n < r.ersn)), first := n + 1
          handling := s.errors.handling.filter (fun k => decide (n < k)) } }.recorded (p.of 0x0D01) [])))
  ∧ (∀ (s : State) (p : Packet), s.takes (p.of 0x0D03) → p.paramLen = 12 → 1 ≤ leAt p.params 8 1 → leAt p.params 8 1 ≤ 14 →
    leAt p.params 9 1 ≤ 4 → leAt p.params 0x0A 2 = 0 → exec (.errorQuery p) s = .next (s.replied (p.of 0x0D03)
      (toLe 8 s.errors.first ++ toLe 8 s.errors.next ++ (((s.errors.records.filter (fun r =>
        decide (leAt p.params 0 8 ≤ r.ersn) && decide (leAt p.params 9 1 ≤ r.severity))).take (leAt p.params 8 1)).flatMap
          ErrRecord.bytes))))
  ∧ (∀ (s : State) (l : Latched), s.ready = true → s.leadGone = false → s.errors.latched = [l] → s.errors.handling = [] →
    (s.errors.settle l.time).openIn l = none → s.errors.held < recordLimit l.severity l.recordOnly → Runs (.errorHandle false) s fun t =>
      t.errors.latched = [] ∧ t.errors.next = s.errors.next + 1 ∧ t.errors.handling = [s.errors.next]
        ∧ (∃ r ∈ t.errors.records, r.ersn = s.errors.next ∧ r.cause = l.cause ∧ r.severity = l.severity ∧ r.die = l.die
          ∧ r.unit = l.unit ∧ r.subject = l.subject ∧ r.handled = false ∧ r.isOpen = true ∧ r.detailA = l.detailA)
        ∧ t.like s)
  ∧ (∀ (s : State) (l : Latched) (r : ErrRecord), s.ready = true → s.leadGone = false → s.errors.latched = [l] →
    s.errors.handling = [] → (s.errors.settle l.time).openIn l = some r → Runs (.errorHandle false) s fun t =>
      t.errors.latched = [] ∧ t.errors.next = s.errors.next ∧ t.errors.records = (s.errors.settle l.time).records.map (fun x =>
        if x.ersn = r.ersn then { r with count := min 0xFFFFFFFF (r.count + (1 + l.repeats)), timeLast := l.timeLast } else x)
        ∧ t.like s)
  ∧ (∀ (s : State) (l : Latched), s.ready = true → s.leadGone = false → s.errors.latched = [l] → s.errors.handling = [] →
    (s.errors.settle l.time).openIn l = none → recordLimit l.severity l.recordOnly ≤ s.errors.held → exec (.errorHandle false) s = .next { s with
      errors := { s.errors.settle l.time with latched := [], overflow := true, lost := min 0xFFFFFFFF (s.errors.lost + 1) } })
  ∧ (∀ (s : State) (k : Nat), s.ready = true → s.leadGone = false → s.errors.handling = [k] → exec (.errorHandle true) s = .next { s with
      errors := { s.errors with
        records := s.errors.records.map (fun r => if r.ersn = k then { r with handled := true } else r), handling := [] } })
  ∧ (∀ (s : State) (k : Nat), exec (.recordClose k) s = .next { s with
      errors := { s.errors with
        records := s.errors.records.map (fun r => if r.ersn = k ∧ r.timeLast + 10 ^ 9 ≤ s.nowNs then { r with isOpen := false } else r) } })
  ∧ (∀ (l : List Latched) (x : Latched), nextLatched l = some x → x ∈ l ∧ ∀ y ∈ l, y.severity ≤ x.severity)

/-- Corrected rows and lines are counted and recorded, a failing one is recorded, and spare rows take over
(R584-R587). RECORD_ONLY makes a record at once, a planted fault acts as a real one, an audit that finds every
equation true changes only its count, and one that does not reports it (R583, R613-R616). -/
def Obligations.MemoryErrors : Prop :=
  ((∀ (s : State) (die bank row : Nat), s.live die = true → bank < 32 →
    (row ∉ (s.sramBank (die * 32 + bank)).suspects → row ∉ (s.sramBank (die * 32 + bank)).lastPass →
      exec (.sramReadError die bank row true) s = .next ((s.setSramBank (die * 32 + bank) { s.sramBank (die * 32 + bank) with
        suspects := (s.sramBank (die * 32 + bank)).suspects ++ [row] }).raise 0x0801 sevCorrected 0 die bank row 0))
    ∧ (24 ≤ bank → bank < 28 → Runs (.sramReadError die bank row false) s fun t =>
      (t.sramBank (die * 32 + bank)).failNext = true ∧ row ∈ (t.sramBank (die * 32 + bank)).faulty
        ∧ (∃ e ∈ t.errors.latched, e.cause = 0x0802 ∧ e.die = die ∧ e.unit = bank)
        ∧ t = { s with sram := t.sram, errors := t.errors } ∧ ∀ k, k ≠ die * 32 + bank → t.sramBank k = s.sramBank k))
  ∧ (∀ (s : State) (die bank row : Nat), s.live die = true → bank < 32 → row ∈ (s.sramBank (die * 32 + bank)).faulty →
    (s.sramBank (die * 32 + bank)).sparesUsed < 15 → exec (.rowSpare die bank row) s =
      .next (s.setSramBank (die * 32 + bank) { s.sramBank (die * 32 + bank) with
        sparesUsed := (s.sramBank (die * 32 + bank)).sparesUsed + 1
        faulty := (s.sramBank (die * 32 + bank)).faulty.filter (fun r => r != row)
        suspects := (s.sramBank (die * 32 + bank)).suspects.filter (fun r => r != row)
        lastPass := (s.sramBank (die * 32 + bank)).lastPass.filter (fun r => r != row) }))
  ∧ (∀ (s : State) (die bank row : Nat), row ∉ (s.sramBank (die * 32 + bank)).faulty → exec (.rowSpare die bank row) s = .next s)
  ∧ (∀ (s : State) (die sub device line : Nat), s.live die = true → sub < 4 → device < 5 →
    ((s.dramMark (die * 4 + sub)).marked = true → (s.dramMark (die * 4 + sub)).device = device →
      exec (.dramReadError die sub device line true) s = .next s)
    ∧ ((s.dramMark (die * 4 + sub)).marked = false → (s.dramMark (die * 4 + sub)).recent = [] →
      exec (.dramReadError die sub device line true) s = .next ((s.setDramMark (die * 4 + sub) { s.dramMark (die * 4 + sub) with
        corrected := min 0xFFFFFFFF ((s.dramMark (die * 4 + sub)).corrected + 1), recent := [(device, line, s.tickAt die)] }).raise
          0x0805 sevCorrected 0 die sub line 0))
    ∧ (line ∉ (s.dramMark (die * 4 + sub)).badLines → exec (.dramReadError die sub device line false) s =
      .next ((s.setDramMark (die * 4 + sub) { s.dramMark (die * 4 + sub) with
        badLines := (s.dramMark (die * 4 + sub)).badLines ++ [line] }).raise 0x0807 sevDegraded 0 die sub line 0)))
  ∧ (∀ (s : State) (die : Nat), s.live die = true → Runs (.patrolScrub die) s fun t =>
      (∀ b, b < 32 → (t.sramBank (die * 32 + b)).lastPass = (s.sramBank (die * 32 + b)).suspects
        ∧ (t.sramBank (die * 32 + b)).suspects = [])
        ∧ (∀ k, k / 32 ≠ die → t.sramBank k = s.sramBank k) ∧ t = { s with sram := t.sram }))
  ∧ ((∀ (s : State) (p : Packet) (sev : Nat), s.takesRecorded (p.of 0x8D01) → p.paramLen = 16 → leAt p.params 3 1 = 1 →
    causeSeverity (leAt p.params 0 2) = some sev → s.dieStatus (leAt p.params 2 1) = none → s.errors.records = [] →
    s.errors.held < recordLimit sev true → Runs (.errorInject p) s fun t =>
      (∃ r ∈ t.errors.records, r.injected = true ∧ r.handled = true ∧ r.cause = leAt p.params 0 2 ∧ r.severity = sev
        ∧ r.die = leAt p.params 2 1 ∧ r.unit = leAt p.params 4 4 ∧ r.detailA = leAt p.params 8 8 ∧ r.ersn = s.errors.next)
        ∧ t.like s)
  ∧ (∀ (s u : State) (p : Packet) (sev : Nat), s.takesRecorded (p.of 0x8D01) → p.paramLen = 16 → leAt p.params 3 1 = 0 →
    causeSeverity (leAt p.params 0 2) = some sev → s.dieStatus (leAt p.params 2 1) = none → leAt p.params 0 2 ∈ plantable →
    leAt p.params 0 2 ≠ 0x0A01 → s.plant (leAt p.params 0 2) (leAt p.params 2 1) (leAt p.params 4 4) (leAt p.params 8 8) = some u →
    u.journal = s.journal → u.tempo = s.tempo → exec (.errorInject p) s = .next ((u.markInjected s).recorded (p.of 0x8D01) []))
  ∧ (∀ (s : State) (p : Packet), s.takesRecorded (p.of 0x8D01) → p.paramLen = 16 → causeSeverity (leAt p.params 0 2) = none →
    exec (.errorInject p) s = .next (s.recordedAs (p.of 0x8D01) stBadParam []))
  ∧ (∀ (s : State) (die : Nat), s.live die = true → (∀ n, 1 ≤ n → n ≤ 10 → ∀ l ∈ s.ledgerLines die n, l.good = true) →
    s.cellsBalance die → (s.ledger die).strayCells = 0 → (s.ledger die).strayTick = 0 →
    let at_ := (s.ledger die).auditTick
    (at_ + 100 * ticksPerMs ≤ s.dieTick die ∨ (at_ + 10 * ticksPerMs ≤ s.dieTick die ∧ s.firmwareIdle die = true) →
      exec (.periodicAudit die) s = .next (s.setLedger die { s.ledger die with
        audits := ((s.ledger die).audits + 1) % 2 ^ 32, auditTick := s.dieTick die })))
  ∧ (∀ (s : State) (die : Nat), s.dieTick die < (s.ledger die).auditTick + 10 * ticksPerMs
      ∨ (s.dieTick die < (s.ledger die).auditTick + 100 * ticksPerMs ∧ s.firmwareIdle die = false) →
    exec (.periodicAudit die) s = .next s)
  ∧ (∀ (s : State) (die : Nat), (∀ l ∈ s.ledgerLines die 3, l.good = true) ↔ s.cellsBalance die)
  ∧ (∀ (s : State) (p : Packet) (die : Nat), s.takesRecorded (p.of 0x0D02) → p.paramLen = 8 → leAt p.params 1 3 = 0 →
    leAt p.params 4 4 = 8 → s.roles.filled = true → s.diesStatus (leAt p.params 0 1) = none → s.namedDies (leAt p.params 0 1) = [die] →
    ¬ s.cellsBalance die → Runs (.ledgerAudit p) s fun t =>
      bit (t.ledger die).mismatch 3 = true
        ∧ (∃ e ∈ t.errors.latched, e.cause = 0x0903 ∧ e.die = die ∧ e.unit = 3)
        ∧ t.like ({ s with ledgers := t.ledgers, tms := t.tms } : State)))

/-- Heartbeats missed (5 tokens, or 100 microseconds with none over the fabric), clocks lost and mismatches of a
management pair: what is counted, what decides a removal, and what a restart leaves (R588-R595). A removed die is out
of service and nothing of it stays; the mirror becomes lead, and a filled mirror takes the role it was to take (R32,
R596-R602). -/
def Obligations.HealthAndFailover : Prop :=
  ((∀ (s : State) (die alive : Nat), s.live die = true →
    exec (.dieHeartbeat die none) s = .next (s.setDieHealth die { s.dieHealth die with beatTick := s.watchTick die })
    ∧ (alive ≠ 0 → exec (.dieHeartbeat die (some alive)) s = .next (s.setDieHealth die { s.dieHealth die with aliveMisses := 0 }))
    ∧ (alive = 0 → (s.dieHealth die).aliveMisses < 4 → exec (.dieHeartbeat die (some alive)) s =
      .next (s.setDieHealth die { s.dieHealth die with aliveMisses := (s.dieHealth die).aliveMisses + 1 }))
    ∧ (alive = 0 → (s.dieHealth die).aliveMisses = 4 → (s.dieHealth die).condemned = none → exec (.dieHeartbeat die (some alive)) s =
      .next (s.setDieHealth die { s.dieHealth die with aliveMisses := 5, condemned := some 2 })))
  ∧ (∀ (s : State) (die : Nat), s.live die = true → (s.dieHealth die).condemned = none →
    (5 ≤ (s.dieHealth die).aliveMisses ∨ (s.dieHealth die).beatTick + 100 * ticksPerUs ≤ s.watchTick die →
      exec (.dieSilent die) s = .next (s.setDieHealth die { s.dieHealth die with condemned := some 2 }))
    ∧ ((s.dieHealth die).aliveMisses < 5 → s.watchTick die < (s.dieHealth die).beatTick + 100 * ticksPerUs →
      exec (.dieSilent die) s = .next s))
  ∧ (∀ (s : State) (die : Nat), s.live die = true → (s.dieHealth die).otherPllLost = false →
    exec (.pllLockLoss die true) s = .next ((s.setDieHealth die { s.dieHealth die with
      onStandbyPll := !(s.dieHealth die).onStandbyPll, otherPllLost := true }).raise 0x0905 sevDegraded 0 die 0 0 0))
  ∧ (∀ (s : State) (die : Nat), s.live die = true → (s.dieHealth die).otherPllLost = true →
    exec (.pllLockLoss die true) s = .next (s.removeDie die 1))
  ∧ (∀ (s : State) (die : Nat), s.dieWorks die = true →
    exec (.thermalTrip die) s = .next ({ s with boot := { s.boot with thermtrip := true } }.removeDie die 4))
  ∧ (∀ (s : State) (die : Nat), s.live die = true → (s.dieHealth die).pairRestarting = false → (s.dieHealth die).pairRestartTick = none →
    exec (.lockstepMismatch die) s = .next (s.setDieHealth die { s.dieHealth die with pairRestarting := true }))
  ∧ (∀ (s : State) (die u : Nat), s.live die = true → (s.dieHealth die).pairRestarting = false →
    (s.dieHealth die).pairRestartTick = some u → s.tickAt die < u + ticksPerSec →
    exec (.lockstepMismatch die) s = .next (s.removeDie die 1))
  ∧ (∀ (s : State) (die : Nat), s.live die = true → (s.dieHealth die).pairRestarting = true → s.fnMbx = [] → s.agentMbx = [] →
    Runs (.lockstepRestart die) s fun t => (t.dieHealth die).pairRestarting = false
      ∧ (t.dieHealth die).pairRestartTick = some (s.tickAt die)
      ∧ (∃ e ∈ t.errors.latched, e.cause = 0x0906 ∧ e.die = die ∧ e.unit = 0))
  ∧ (∀ (s : State) (die dim : Nat), s.ready = true → s.dunythUp die dim = true → exec (.dunythLinkOutOfService die dim) s =
    .next ((((s.setDieHealth die { s.dieHealth die with linkDown := setBit (s.dieHealth die).linkDown dim true }).emptyLink die dim).raise
      0x0901 sevDegraded 0 die (die * 4 + dim) 0 0).reachability 8))
  ∧ (∀ (s : State) (die dim : Nat), (s.dunythUp die dim = false → exec (.dunythLinkOutOfService die dim) s = .next s)
    ∧ (s.fabric = [] → s.emptyLink die dim = s))
  ∧ (∀ (s : State) (n : Nat), s.isolated = none → s.reachability n = s))
  ∧ ((∀ (s : State) (die reason : Nat), s.live die = true →
    exec (.dieRemoval die reason) s = .next (s.removeDie die ((s.dieHealth die).condemned.getD reason)))
  ∧ (∀ (s : State) (die reason : Nat), s.live die = true →
    bit (s.removeOne die reason).roles.failed die = true ∧ (∀ d, d ≠ die → bit (s.removeOne die reason).roles.failed d = bit s.roles.failed d)
      ∧ (∀ k, threadDie k = die → (s.removeOne die reason).thread k = Thread.reset)
      ∧ ((s.removeOne die reason).link die).speed = 0
      ∧ ∀ x ∈ (s.removeOne die reason).workingDies, x ≠ die)
  ∧ (∀ (s : State), s.ready = true → s.leadGone = true → s.dieWorks s.roles.mirror = true → s.tempo.inProgress = none →
    let u := ({ s with
      journal := { s.journal with entries := s.journal.copy, waiting := [], buffered := [] },
      patch := { s.patch with waiting := s.patch.waiting.map Packet.unanswered } } : State).takeLead s.roles.mirror
    exec .castling s = .next (({ u with roles := { u.roles with filled := u.roles.mirror == u.roles.lead } } : State).reachability 8))
  ∧ (∀ (s : State) (d : Nat), (s.takeLead d).roles.lead = d ∧ (s.takeLead d).roles.mirror = s.mirrorFor d
      ∧ (s.takeLead d).roles.unreachable = false ∧ (s.takeLead d).timeModel.refDie = d
      ∧ (s.takeLead d).roles.castlings = s.roles.castlings + 1 ∧ (s.takeLead d).roles.failed = s.roles.failed)
  ∧ (∀ (s : State) (lead : Nat), (s.dieWorks (lead ^^^ 1) = true → s.mirrorFor lead = lead ^^^ 1)
      ∧ (s.dieWorks (lead ^^^ 1) = false → s.workingDies.filter (fun d => d != lead) = [] → s.mirrorFor lead = lead)
      ∧ (∀ d, s.dieWorks (lead ^^^ 1) = false → s.mirrorFor lead = d → d ≠ lead → s.dieWorks d = true
        ∧ ∀ x, s.dieWorks x = true → x ≠ lead → d ≤ x))
  ∧ (∀ (s : State), s.live s.roles.lead = true → s.dieWorks s.roles.mirror = true → s.roles.mirror ≠ s.roles.lead →
    (s.dieHealth s.roles.mirror).aliveMisses < 5 →
    (s.dieHealth s.roles.mirror).beatTick + 100 * ticksPerUs ≤ s.dieTick s.roles.lead →
    exec .mirrorUnreachable s = .next ({ s with roles := { s.roles with unreachable := true } }.modDieHealth s.roles.lead
      (fun h => { h with condemned := some 2 })) ∧ ∀ t, exec .mirrorUnreachable s = .next t → t.leadBusy = true)
  ∧ (∀ (s : State), s.live s.roles.lead = true → s.roles.moveTo = none →
    exec .mirrorFillDone s = .next { s with
      roles := { s.roles with filled := true }
      journal := { s.journal with copy := if s.roles.mirror = s.roles.lead then [] else s.journal.entries } })
  ∧ (∀ (s : State) (d : Nat), s.live s.roles.lead = true → s.roles.moveTo = some d → Runs .mirrorFillDone s fun t =>
      t.roles.lead = d ∧ t.roles.filled = true ∧ t.roles.moveTo = none ∧ t.roles.castlings = s.roles.castlings + 1
        ∧ t.journal.copy = (if t.roles.mirror = d then [] else t.journal.entries)
        ∧ t.like ({ s with roles := t.roles, timeModel := t.timeModel } : State)))

/-- A write that is narrower than 4 bytes, not aligned or out of reach is ignored; one of 8 bytes is its two words in
ascending order (as the model reads it, log 50); a doorbell written is the doorbell's command; each field takes what
is written to it (R10, R11, R641-R651). A read returns the bytes of the words it lies in: DIE_MAP, BOOT_STATUS,
CHAIN_STATUS, LEDGER_STATUS, FATAL_LAST, LINK_STATUS, PROTECT_STATUS, PIPE_STATUS, the journal window and the counter
window are stated; it clears the clear-on-read fields it covers, takes the mailbox word it covers, and over a FROZEN
link shows all ones and clears nothing (R11, R57, R105, R152, R267, R292, R295, R317, R645-R648). -/
def Obligations.RegisterAccess : Prop :=
  ((∀ (s : State) (fn off size v : Nat), mClass fn = 0 → isThreadId fn = false →
    size % 4 ≠ 0 ∨ off % 4 ≠ 0 ∨ s.writeReach fn off = false → exec (.registerWrite fn off size v) s = .next s)
  ∧ (∀ (s : State) (fn off v : Nat), mClass fn = 0 → isThreadId fn = false → off % 4 = 0 → s.writeReach fn off = true →
    exec (.registerWrite fn off 4 v) s = .next (s.writeReg fn off 4 (v % 2 ^ 32))
      ∧ (oneRegister fn off = false → exec (.registerWrite fn off 8 v) s =
        .next ((s.writeReg fn off 4 (v % 2 ^ 32)).writeReg fn (off + 4) 4 (v / 2 ^ 32 % 2 ^ 32))))
  ∧ (∀ (s : State) (die v : Nat), die < 8 → v < 2 ^ 32 →
    s.writeReg (pf0 die) 0x10208 4 v = s.modLink die (fun l => { l with roStaged := decide (v % 2 = 1), idoStaged := decide (v / 2 % 2 = 1) })
      ∧ s.writeReg (pf0 die) 0x120008 4 v = s.modLink die (fun l => { l with
        winSpace := v % 8, winEnable := decide (v / 8 % 2 = 1), winPage := v / 2 ^ 16 % 2 ^ 9 })
      ∧ s.writeReg (pf0 die) 0x400018 4 v = s.modLink die (fun l => { l with
        errVector := v % 2 ^ 11, errMinSeverity := v / 2 ^ 12 % 8 })
      ∧ s.writeReg (pf0 die) 0x30008 4 v = s ∧ s.writeReg (pf0 die) 0x60000 4 v = s)
  ∧ (∀ (s : State) (fn q v : Nat), fnVf fn ≠ 0 → fnPf fn = 0 → q < 256 →
    .next (s.writeReg fn (16 * q) 4 v) = exec (.sqDoorbell fn q (v % 2 ^ 16)) s
      ∧ .next (s.writeReg fn (16 * q + 4) 4 v) = exec (.cqDoorbell fn q (v % 2 ^ 16) (decide (v / 2 ^ 16 % 2 = 1))) s)
  ∧ (∀ (s : State) (die v : Nat), die < 8 →
    .next (s.writeReg (pf0 die) 0x50018 4 v) = exec (.cmdqRequestDoorbell die (v % 2 ^ 16)) s)
  ∧ (∀ (s : State) (fn v : Nat), fnPf fn = 1 →
    s.writeReg fn 0x0C 4 v = s.modNvme fn (fun c => { c with intms := c.intms ||| v })
      ∧ s.writeReg fn 0x24 4 v = s.modNvme fn (fun c => { c with aqa := v % 2 ^ 12 + 2 ^ 16 * (v / 2 ^ 16 % 2 ^ 12) }))
  ∧ (∀ (s : State) (t a n v : Nat), t < 3456 → t % 72 < 64 → s.live (threadDie t) = true → a % 4 ≠ 0 → n = 4 →
    exec (.registerWrite (threadId t) a n v) s = .next (s.threadFault t fcAlign (some a)))
  ∧ (∀ (s : State) (k v c : Nat), k < 128 → s.live (k / 16) = true → c < 64 → (s.dmaCh (dmaKey (k / 16) c)).binder = .sequencer k →
    exec (.registerWrite (seqId k) (0x80 * c + 0x20) 4 v) s = .next (s.setDmaCh (dmaKey (k / 16) c)
      { s.dmaCh (dmaKey (k / 16) c) with high := { (s.dmaCh (dmaKey (k / 16) c)).high with written := v % 2 ^ 32 } })))
  ∧ ((∀ (s : State) (fn off n : Nat), mClass fn = 0 → s.writeReach fn off = true →
    exec (.clearOnRead fn ⟨off, n⟩) s = .next ((s.readDone fn off n).emit (.read fn (s.regRead fn off n))))
  ∧ (∀ (s : State) (fn off n : Nat), mClass fn = 0 → s.writeReach fn off = false →
    (s.ready = true → s.configReach fn = true → (s.link (mDie fn)).frozen = true →
      exec (.clearOnRead fn ⟨off, n⟩) s = .next (s.emit (.read fn (2 ^ (8 * n) - 1))))
    ∧ (s.ready = false ∨ s.configReach fn = false ∨ (s.link (mDie fn)).frozen = false →
      exec (.clearOnRead fn ⟨off, n⟩) s = .next s))
  ∧ (∀ (s : State) (fn off n : Nat), (off % 8 + n ≤ 8 →
      s.regRead fn off n = s.regWord fn (off / 8 * 8) / 2 ^ (8 * (off % 8)) % 2 ^ (8 * n))
    ∧ (8 < off % 8 + n → s.regRead fn off n = ((List.range n).map (fun i => 2 ^ (8 * i) * s.regByte fn (off + i))).sum))
  ∧ (∀ (s : State) (die : Nat), die < 8 →
    s.regWord (pf0 die) 0x108 = s.dieMap ∧ s.regWord (pf0 die) 0x110 = s.bootStatus ∧ s.regWord (pf0 die) 0x120 = s.chainStatus
      ∧ s.regWord (pf0 die) 0x190 = (s.ledger die).value ∧ s.regWord (pf0 die) 0x1C0 = leAt s.errors.fatalBytes 0x10 8
      ∧ s.regWord (pf0 die) 0x10200 = s.linkStatus die ∧ s.regWord (pf0 die) 0x30000 = s.protectStatus
      ∧ s.regWord (pf0 die) 0x80000 = s.pipeStatus die ∧ s.regWord (pf0 die) 0x400000 = s.errors.first
      ∧ s.regWord (pf0 die) 0x30008 = 0
      ∧ (∀ i, 0x180 + 8 * i ≠ 0x190 → i < 8 → s.regWord (pf0 die) (0x180 + 8 * i) = leAt s.errors.fatalBytes (8 * i) 8))
  ∧ (∀ (s : State) (die i n : Nat) (e : JEntry), die < 8 → i < 8 → n < 65536 →
    s.journal.entries.find? (fun x => x.jsn % 65536 == n) = some e →
    s.regWord (pf0 die) (0x800000 + 0x400000 + 64 * n + 8 * i) = le ((List.range 8).map (fun j => e.bytes.getD (8 * i + j) 0)))
  ∧ (∀ (s : State) (die n : Nat), die < 8 → n < 1048576 →
    let pair := 1048576 * (s.link die).winCounterPage + n
    let a := Tbl.look (0, 0) (s.pipe die).counters pair
    let b := Tbl.look (0, 0) (s.pipe die).counterCache pair
    (s.dramOf die ≠ 0 → s.regWord (pf0 die) (bar2Base + 0x1000000 + 16 * n) = (a.1 + b.1) % 2 ^ 64
      ∧ s.regWord (pf0 die) (bar2Base + 0x1000000 + 16 * n + 8) = (a.2 + b.2) % 2 ^ 64)
    ∧ (s.dramOf die = 0 → s.regWord (pf0 die) (bar2Base + 0x1000000 + 16 * n) = 0
      ∧ s.regWord (pf0 die) (bar2Base + 0x1000000 + 16 * n + 8) = 0))
  ∧ (∀ (s : State) (die n : Nat), die < 8 → n = 1 ∨ n = 2 ∨ n = 4 →
    s.readDone (pf0 die) (0x10218 / n * n) n = s.modLink die (fun l => { l with lateCpl := 0 })
      ∧ s.readDone (pf0 die) (0x10220 / n * n) n = s.modLink die (fun l => { l with cto := 0 })
      ∧ s.readDone (pf0 die) (0x21050 / n * n) n = s.modLink die (fun l => { l with containedDrops := 0 })
      ∧ s.readDone (pf0 die) (0x122 / n * n) n = { s with chain := { s.chain with fcsErrors := 0 } }
      ∧ s.readDone (pf0 die) (0x30002 / n * n) n = { s with protect := { s.protect with sigFails := 0 } }
      ∧ s.readDone (pf0 die) 0x60028 n = { s with
        tempo := { s.tempo with committedCount := 0, abortedCount := 0, conflictCount := 0, expiredCount := 0 } }
      ∧ s.readDone (pf0 die) 0x10200 n = s)
  ∧ (∀ (s : State) (fn : Nat), fnPf fn = 0 → fnVf fn ≠ 0 → s.readDone fn 0x4008 4 = (s.mbxRead fn fn).2))

/-- No command of the block is refused, and none stops the machine, except RATE with a code above 2, which the chain
head must not send and whose effect the spec does not guarantee (R7, R71). -/
def Obligations.EveryCommandAnswers : Prop :=
  ∀ (c : Instr) (s : State), (∃ t, exec c s = .next t)
    ∨ ∃ seq code, c = .rate seq code ∧ 2 < code ∧ exec c s = .fault (.notGuaranteed 71)

/-- The cell ledger (R349, ledger 3 of Table 20.2) is kept by every step that takes a command of a pod (packets
allocated, freed and resized, locks, timers, control of threads, core failures) or a frame for a sequencer: cells pass
between the books and none is lost or made. It holds at reset. -/
def Obligations.CellLedger : Prop :=
  (∀ (s t : State) (c : Instr) (rest : List Instr) (d : Nat), s.pending = c :: rest → podCommand c = true → s.cellsBalance d →
    step s = .next t → t.cellsBalance d)
  ∧ ∀ d, State.reset.cellsBalance d
end

