-- ==== Sys2Proof/Laws/Tbl.lean ====
section
/-! SUPPORT. Laws of sparse tables and of addressed memory: reading after writing, and the canonical form kept. -/

namespace Sys2Proof

variable {α : Type}

@[simp] theorem Tbl.find_nil (n : Nat) : Tbl.find ([] : Tbl α) n = none := rfl

@[simp] theorem Tbl.look_nil (d : α) (n : Nat) : Tbl.look d [] n = d := rfl

theorem Tbl.find_del_same (t : Tbl α) (n : Nat) : Tbl.find (Tbl.del t n) n = none := by
  induction t with
  | nil => rfl
  | cons e t ih =>
    obtain ⟨k, v⟩ := e
    by_cases h : k = n <;> simp [Tbl.del, Tbl.find, h, ih]

theorem Tbl.find_del_other (t : Tbl α) {n m : Nat} (h : m ≠ n) : Tbl.find (Tbl.del t n) m = Tbl.find t m := by
  induction t with
  | nil => rfl
  | cons e t ih =>
    obtain ⟨k, v⟩ := e
    by_cases hk : k = n
    · have : k ≠ m := by omega
      simp [Tbl.del, Tbl.find, hk, ih, show ¬ n = m from fun e => h e.symm]
    · rw [Tbl.del, if_neg hk]
      by_cases hm : k = m <;> simp [Tbl.find, hm, ih]

theorem Tbl.find_insert_same (t : Tbl α) (n : Nat) (v : α) (h : Tbl.find t n = none) : Tbl.find (Tbl.insert t n v) n = some v := by
  induction t with
  | nil => simp [Tbl.insert, Tbl.find]
  | cons e t ih =>
    obtain ⟨k, w⟩ := e
    by_cases hk : k = n
    · simp [Tbl.find, hk] at h
    · by_cases hlt : n < k
      · simp [Tbl.insert, Tbl.find, hlt]
      · simp only [Tbl.find, hk, if_false] at h
        simp [Tbl.insert, Tbl.find, hlt, hk, ih h]

theorem Tbl.find_insert_other (t : Tbl α) {n m : Nat} (v : α) (h : m ≠ n) : Tbl.find (Tbl.insert t n v) m = Tbl.find t m := by
  have h' : ¬ n = m := fun e => h e.symm
  induction t with
  | nil => simp [Tbl.insert, Tbl.find, h']
  | cons e t ih =>
    obtain ⟨k, w⟩ := e
    by_cases hlt : n < k
    · simp [Tbl.insert, Tbl.find, hlt, h']
    · rw [Tbl.insert, if_neg hlt]
      by_cases hm : k = m <;> simp [Tbl.find, hm, ih]

@[simp] theorem Tbl.find_set_same (t : Tbl α) (n : Nat) (v : α) : Tbl.find (Tbl.set t n v) n = some v :=
  Tbl.find_insert_same _ _ _ (Tbl.find_del_same t n)

theorem Tbl.find_set_other (t : Tbl α) {n m : Nat} (v : α) (h : m ≠ n) : Tbl.find (Tbl.set t n v) m = Tbl.find t m := by
  rw [Tbl.set, Tbl.find_insert_other _ _ h, Tbl.find_del_other _ h]

theorem Tbl.look_del (d : α) (t : Tbl α) (n m : Nat) : Tbl.look d (Tbl.del t n) m = if m = n then d else Tbl.look d t m := by
  by_cases h : m = n
  · subst h; simp [Tbl.look, Tbl.find_del_same]
  · simp [Tbl.look, Tbl.find_del_other t h, h]

theorem Tbl.look_set (d : α) (t : Tbl α) (n m : Nat) (v : α) :
    Tbl.look d (Tbl.set t n v) m = if m = n then v else Tbl.look d t m := by
  by_cases h : m = n
  · subst h; simp [Tbl.look]
  · simp [Tbl.look, Tbl.find_set_other t v h, h]

/-- Reading after a put: the value put at its key, and every other key as before. -/
@[simp] theorem Tbl.look_put [DecidableEq α] (d : α) (t : Tbl α) (n m : Nat) (v : α) :
    Tbl.look d (Tbl.put d t n v) m = if m = n then v else Tbl.look d t m := by
  unfold Tbl.put
  split
  · next h => subst h; exact Tbl.look_del v t n m
  · exact Tbl.look_set d t n m v

theorem Tbl.del_del (t : Tbl α) (n : Nat) : Tbl.del (Tbl.del t n) n = Tbl.del t n := by
  induction t with
  | nil => rfl
  | cons e t ih =>
    obtain ⟨k, v⟩ := e
    by_cases h : k = n <;> simp [Tbl.del, h, ih]

theorem Tbl.del_insert (t : Tbl α) (n : Nat) (v : α) : Tbl.del (Tbl.insert t n v) n = Tbl.del t n := by
  induction t with
  | nil => simp [Tbl.insert, Tbl.del]
  | cons e t ih =>
    obtain ⟨k, w⟩ := e
    by_cases hlt : n < k
    · simp [Tbl.insert, Tbl.del, hlt]
    · by_cases hk : k = n <;> simp [Tbl.insert, Tbl.del, hlt, hk, ih]

/-- The later of two settings of a key stands. -/
@[simp] theorem Tbl.set_set (t : Tbl α) (n : Nat) (v w : α) : Tbl.set (Tbl.set t n v) n w = Tbl.set t n w := by
  simp [Tbl.set, Tbl.del_insert, Tbl.del_del]

/-- The later of two puts at a key stands. -/
@[simp] theorem Tbl.put_put [DecidableEq α] (d : α) (t : Tbl α) (n : Nat) (v w : α) :
    Tbl.put d (Tbl.put d t n v) n w = Tbl.put d t n w := by
  unfold Tbl.put
  split <;> split <;> simp [Tbl.set, Tbl.del_insert, Tbl.del_del]

/-! ## The canonical form -/

/-- Every key of the table is above a bound. -/
def Tbl.above (t : Tbl α) (n : Nat) : Prop := ∀ e ∈ t, n < e.1

theorem Tbl.sorted_cons (k : Nat) (v : α) (t : Tbl α) : Tbl.sorted ((k, v) :: t) = true ↔ Tbl.above t k ∧ Tbl.sorted t = true := by
  induction t generalizing k v with
  | nil => simp [Tbl.sorted, Tbl.above]
  | cons e t ih =>
    obtain ⟨k', v'⟩ := e
    rw [Tbl.sorted, Bool.and_eq_true, decide_eq_true_iff]
    constructor
    · rintro ⟨h1, h2⟩
      refine ⟨?_, h2⟩
      intro e he
      rcases List.mem_cons.mp he with rfl | he
      · exact h1
      · exact Nat.lt_trans h1 (((ih k' v').mp h2).1 e he)
    · rintro ⟨h1, h2⟩
      exact ⟨h1 (k', v') List.mem_cons_self, h2⟩

theorem Tbl.mem_del {t : Tbl α} {n : Nat} {e : Nat × α} (h : e ∈ Tbl.del t n) : e ∈ t ∧ e.1 ≠ n := by
  induction t with
  | nil => simp [Tbl.del] at h
  | cons x t ih =>
    obtain ⟨k, v⟩ := x
    by_cases hk : k = n
    · simp only [Tbl.del, hk, if_true] at h
      exact ⟨List.mem_cons_of_mem _ (ih h).1, (ih h).2⟩
    · simp only [Tbl.del, hk, if_false, List.mem_cons] at h
      rcases h with rfl | h
      · exact ⟨List.mem_cons_self, hk⟩
      · exact ⟨List.mem_cons_of_mem _ (ih h).1, (ih h).2⟩

theorem Tbl.mem_insert {t : Tbl α} {n : Nat} {v : α} {e : Nat × α} (h : e ∈ Tbl.insert t n v) : e = (n, v) ∨ e ∈ t := by
  induction t with
  | nil => simpa [Tbl.insert] using h
  | cons x t ih =>
    obtain ⟨k, w⟩ := x
    by_cases hlt : n < k
    · simpa [Tbl.insert, hlt] using h
    · simp only [Tbl.insert, hlt, if_false, List.mem_cons] at h
      rcases h with rfl | h
      · exact .inr List.mem_cons_self
      · rcases ih h with h | h
        · exact .inl h
        · exact .inr (List.mem_cons_of_mem _ h)

theorem Tbl.sorted_del {t : Tbl α} (n : Nat) (h : Tbl.sorted t = true) : Tbl.sorted (Tbl.del t n) = true := by
  induction t with
  | nil => exact h
  | cons x t ih =>
    obtain ⟨k, v⟩ := x
    obtain ⟨ha, hs⟩ := (Tbl.sorted_cons k v t).mp h
    by_cases hk : k = n
    · simpa [Tbl.del, hk] using ih hs
    · simp only [Tbl.del, hk, if_false]
      exact (Tbl.sorted_cons _ _ _).mpr ⟨fun e he => ha e (Tbl.mem_del he).1, ih hs⟩

theorem Tbl.sorted_insert {t : Tbl α} (n : Nat) (v : α) (h : Tbl.sorted t = true) (hn : ∀ e ∈ t, e.1 ≠ n) :
    Tbl.sorted (Tbl.insert t n v) = true := by
  induction t with
  | nil => rfl
  | cons x t ih =>
    obtain ⟨k, w⟩ := x
    obtain ⟨ha, hs⟩ := (Tbl.sorted_cons k w t).mp h
    by_cases hlt : n < k
    · simp only [Tbl.insert, hlt, if_true]
      exact (Tbl.sorted_cons _ _ _).mpr ⟨fun e he => by
        rcases List.mem_cons.mp he with rfl | he
        · exact hlt
        · exact Nat.lt_trans hlt (ha e he), h⟩
    · simp only [Tbl.insert, hlt, if_false]
      have hk : k ≠ n := hn (k, w) List.mem_cons_self
      refine (Tbl.sorted_cons _ _ _).mpr ⟨fun e he => ?_, ih hs (fun e he => hn e (List.mem_cons_of_mem _ he))⟩
      rcases Tbl.mem_insert he with rfl | he
      · show k < n
        omega
      · exact ha e he

theorem Tbl.sorted_set {t : Tbl α} (n : Nat) (v : α) (h : Tbl.sorted t = true) : Tbl.sorted (Tbl.set t n v) = true :=
  Tbl.sorted_insert n v (Tbl.sorted_del n h) (fun _ he => (Tbl.mem_del he).2)

/-- A put keeps the canonical form. -/
theorem Tbl.wf_put [DecidableEq α] (d : α) {t : Tbl α} (n : Nat) (v : α) (h : Tbl.wf d t = true) : Tbl.wf d (Tbl.put d t n v) = true := by
  simp only [Tbl.wf, Bool.and_eq_true, List.all_eq_true, decide_eq_true_eq] at h ⊢
  unfold Tbl.put
  split
  · exact ⟨Tbl.sorted_del n h.1, fun e he => h.2 e (Tbl.mem_del he).1⟩
  · next hv =>
    refine ⟨Tbl.sorted_set n v h.1, fun e he => ?_⟩
    rcases Tbl.mem_insert he with rfl | he
    · exact hv
    · exact h.2 e (Tbl.mem_del he).1

namespace Machine

/-! ## Memory -/

theorem memWrite_wf {m : List Host.Cell} (r : Region) (a : Nat) (bs : List Byte) (h : Memory.wf m) : Memory.wf (memWrite m r a bs) := by
  induction bs generalizing m a with
  | nil => exact h
  | cons b bs ih => exact ih (a + 1) (Tbl.wf_put memDefault _ b h)

/-- Every memory operation keeps the canonical form. -/
theorem writeBytes_wf (s : State) (r : Region) (a : Nat) (bs : List Byte) (h : Memory.wf s.mem) : Memory.wf (s.writeBytes r a bs).mem :=
  memWrite_wf r a bs h

theorem writeByte_wf (s : State) (r : Region) (a : Nat) (b : Byte) (h : Memory.wf s.mem) : Memory.wf (s.writeByte r a b).mem :=
  Tbl.wf_put memDefault _ b h

/-- A byte reads as written, and every other cell as before. -/
theorem readByte_writeByte (s : State) (r r' : Region) (a a' : Nat) (b : Byte) :
    (s.writeByte r a b).readByte r' a' = if cellOf r' a' = cellOf r a then b else s.readByte r' a' := by
  simp [State.readByte, State.writeByte]

/-- Cells of two regions differ. -/
theorem cellOf_inj {r r' : Region} {a a' : Nat} (h : cellOf r a = cellOf r' a') : r.code = r'.code ∧ a % 2 ^ 64 = a' % 2 ^ 64 := by
  unfold cellOf at h
  have h1 := Nat.mod_lt a (show 0 < 2 ^ 64 by decide)
  have h2 := Nat.mod_lt a' (show 0 < 2 ^ 64 by decide)
  omega

end Machine

end Sys2Proof
end

