-- ==== Sys2Proof/Laws/State.lean ====
section
/-! SUPPORT. What each update of the state leaves as it was, and what its own entry then reads: one fact per field per update. -/

namespace Sys2Proof.Machine

@[simp] theorem State.setDieTemp_keeps (s : State) (k : Nat) (v : DieTemp) :
    (s.setDieTemp k v).boot = s.boot ∧ (s.setDieTemp k v).roles = s.roles ∧ (s.setDieTemp k v).chain = s.chain ∧
    (s.setDieTemp k v).supply = s.supply ∧ (s.setDieTemp k v).health = s.health ∧ (s.setDieTemp k v).links = s.links ∧
    (s.setDieTemp k v).funcs = s.funcs ∧ (s.setDieTemp k v).tags = s.tags ∧ (s.setDieTemp k v).fnMbx = s.fnMbx ∧
    (s.setDieTemp k v).agentMbx = s.agentMbx ∧ (s.setDieTemp k v).cmdqs = s.cmdqs ∧ (s.setDieTemp k v).journal = s.journal ∧
    (s.setDieTemp k v).protect = s.protect ∧ (s.setDieTemp k v).errors = s.errors ∧ (s.setDieTemp k v).dram = s.dram ∧
    (s.setDieTemp k v).sram = s.sram ∧ (s.setDieTemp k v).ledgers = s.ledgers ∧ (s.setDieTemp k v).ports = s.ports ∧
    (s.setDieTemp k v).portBlocks = s.portBlocks ∧ (s.setDieTemp k v).synce = s.synce ∧ (s.setDieTemp k v).banks = s.banks ∧
    (s.setDieTemp k v).pipes = s.pipes ∧ (s.setDieTemp k v).flight = s.flight ∧ (s.setDieTemp k v).nextPkt = s.nextPkt ∧
    (s.setDieTemp k v).tempo = s.tempo ∧ (s.setDieTemp k v).tms = s.tms ∧ (s.setDieTemp k v).fabric = s.fabric ∧
    (s.setDieTemp k v).linkEnds = s.linkEnds ∧ (s.setDieTemp k v).nextMsg = s.nextMsg ∧ (s.setDieTemp k v).timeModel = s.timeModel ∧
    (s.setDieTemp k v).pps = s.pps ∧ (s.setDieTemp k v).times = s.times ∧ (s.setDieTemp k v).ciphers = s.ciphers ∧
    (s.setDieTemp k v).queues = s.queues ∧ (s.setDieTemp k v).channels = s.channels ∧ (s.setDieTemp k v).nvmes = s.nvmes ∧
    (s.setDieTemp k v).storages = s.storages ∧ (s.setDieTemp k v).partitions = s.partitions ∧ (s.setDieTemp k v).twins = s.twins ∧
    (s.setDieTemp k v).pods = s.pods ∧ (s.setDieTemp k v).threads = s.threads ∧ (s.setDieTemp k v).locks = s.locks ∧
    (s.setDieTemp k v).chans = s.chans ∧ (s.setDieTemp k v).seqs = s.seqs ∧ (s.setDieTemp k v).contexts = s.contexts ∧
    (s.setDieTemp k v).seqCounters = s.seqCounters ∧ (s.setDieTemp k v).patch = s.patch ∧ (s.setDieTemp k v).mem = s.mem ∧
    (s.setDieTemp k v).out = s.out ∧ (s.setDieTemp k v).freeCtr = s.freeCtr ∧ (s.setDieTemp k v).pending = s.pending ∧
    State.dieHealth (s.setDieTemp k v) = s.dieHealth ∧ State.link (s.setDieTemp k v) = s.link ∧ State.func (s.setDieTemp k v) = s.func ∧
    State.fnBox (s.setDieTemp k v) = s.fnBox ∧ State.agentBox (s.setDieTemp k v) = s.agentBox ∧ State.cmdq (s.setDieTemp k v) = s.cmdq ∧
    State.dramMark (s.setDieTemp k v) = s.dramMark ∧ State.sramBank (s.setDieTemp k v) = s.sramBank ∧ State.ledger (s.setDieTemp k v) = s.ledger ∧
    State.port (s.setDieTemp k v) = s.port ∧ State.portBlock (s.setDieTemp k v) = s.portBlock ∧ State.bankOf (s.setDieTemp k v) = s.bankOf ∧
    State.pipe (s.setDieTemp k v) = s.pipe ∧ State.tm (s.setDieTemp k v) = s.tm ∧ State.laneOf (s.setDieTemp k v) = s.laneOf ∧
    State.dieTime (s.setDieTemp k v) = s.dieTime ∧ State.cipherOf (s.setDieTemp k v) = s.cipherOf ∧ State.dmaCh (s.setDieTemp k v) = s.dmaCh ∧
    State.nvme (s.setDieTemp k v) = s.nvme ∧ State.storage (s.setDieTemp k v) = s.storage ∧ State.podOf (s.setDieTemp k v) = s.podOf ∧
    State.thread (s.setDieTemp k v) = s.thread ∧ State.lockOf (s.setDieTemp k v) = s.lockOf ∧ State.chanOf (s.setDieTemp k v) = s.chanOf ∧
    State.seqOf (s.setDieTemp k v) = s.seqOf ∧ State.context (s.setDieTemp k v) = s.context := by
  repeat (first | exact rfl | refine ⟨rfl, ?_⟩)

@[simp] theorem State.dieTemp_setDieTemp (s : State) (k : Nat) (v : DieTemp) (n : Nat) :
    (s.setDieTemp k v).dieTemp n = if n = k then v else s.dieTemp n := Tbl.look_put _ _ _ _ _

@[simp] theorem State.modDieTemp_keeps (s : State) (k : Nat) (f : DieTemp → DieTemp) :
    (s.modDieTemp k f).boot = s.boot ∧ (s.modDieTemp k f).roles = s.roles ∧ (s.modDieTemp k f).chain = s.chain ∧
    (s.modDieTemp k f).supply = s.supply ∧ (s.modDieTemp k f).health = s.health ∧ (s.modDieTemp k f).links = s.links ∧
    (s.modDieTemp k f).funcs = s.funcs ∧ (s.modDieTemp k f).tags = s.tags ∧ (s.modDieTemp k f).fnMbx = s.fnMbx ∧
    (s.modDieTemp k f).agentMbx = s.agentMbx ∧ (s.modDieTemp k f).cmdqs = s.cmdqs ∧ (s.modDieTemp k f).journal = s.journal ∧
    (s.modDieTemp k f).protect = s.protect ∧ (s.modDieTemp k f).errors = s.errors ∧ (s.modDieTemp k f).dram = s.dram ∧
    (s.modDieTemp k f).sram = s.sram ∧ (s.modDieTemp k f).ledgers = s.ledgers ∧ (s.modDieTemp k f).ports = s.ports ∧
    (s.modDieTemp k f).portBlocks = s.portBlocks ∧ (s.modDieTemp k f).synce = s.synce ∧ (s.modDieTemp k f).banks = s.banks ∧
    (s.modDieTemp k f).pipes = s.pipes ∧ (s.modDieTemp k f).flight = s.flight ∧ (s.modDieTemp k f).nextPkt = s.nextPkt ∧
    (s.modDieTemp k f).tempo = s.tempo ∧ (s.modDieTemp k f).tms = s.tms ∧ (s.modDieTemp k f).fabric = s.fabric ∧
    (s.modDieTemp k f).linkEnds = s.linkEnds ∧ (s.modDieTemp k f).nextMsg = s.nextMsg ∧ (s.modDieTemp k f).timeModel = s.timeModel ∧
    (s.modDieTemp k f).pps = s.pps ∧ (s.modDieTemp k f).times = s.times ∧ (s.modDieTemp k f).ciphers = s.ciphers ∧
    (s.modDieTemp k f).queues = s.queues ∧ (s.modDieTemp k f).channels = s.channels ∧ (s.modDieTemp k f).nvmes = s.nvmes ∧
    (s.modDieTemp k f).storages = s.storages ∧ (s.modDieTemp k f).partitions = s.partitions ∧ (s.modDieTemp k f).twins = s.twins ∧
    (s.modDieTemp k f).pods = s.pods ∧ (s.modDieTemp k f).threads = s.threads ∧ (s.modDieTemp k f).locks = s.locks ∧
    (s.modDieTemp k f).chans = s.chans ∧ (s.modDieTemp k f).seqs = s.seqs ∧ (s.modDieTemp k f).contexts = s.contexts ∧
    (s.modDieTemp k f).seqCounters = s.seqCounters ∧ (s.modDieTemp k f).patch = s.patch ∧ (s.modDieTemp k f).mem = s.mem ∧
    (s.modDieTemp k f).out = s.out ∧ (s.modDieTemp k f).freeCtr = s.freeCtr ∧ (s.modDieTemp k f).pending = s.pending ∧
    State.dieHealth (s.modDieTemp k f) = s.dieHealth ∧ State.link (s.modDieTemp k f) = s.link ∧ State.func (s.modDieTemp k f) = s.func ∧
    State.fnBox (s.modDieTemp k f) = s.fnBox ∧ State.agentBox (s.modDieTemp k f) = s.agentBox ∧ State.cmdq (s.modDieTemp k f) = s.cmdq ∧
    State.dramMark (s.modDieTemp k f) = s.dramMark ∧ State.sramBank (s.modDieTemp k f) = s.sramBank ∧ State.ledger (s.modDieTemp k f) = s.ledger ∧
    State.port (s.modDieTemp k f) = s.port ∧ State.portBlock (s.modDieTemp k f) = s.portBlock ∧ State.bankOf (s.modDieTemp k f) = s.bankOf ∧
    State.pipe (s.modDieTemp k f) = s.pipe ∧ State.tm (s.modDieTemp k f) = s.tm ∧ State.laneOf (s.modDieTemp k f) = s.laneOf ∧
    State.dieTime (s.modDieTemp k f) = s.dieTime ∧ State.cipherOf (s.modDieTemp k f) = s.cipherOf ∧ State.dmaCh (s.modDieTemp k f) = s.dmaCh ∧
    State.nvme (s.modDieTemp k f) = s.nvme ∧ State.storage (s.modDieTemp k f) = s.storage ∧ State.podOf (s.modDieTemp k f) = s.podOf ∧
    State.thread (s.modDieTemp k f) = s.thread ∧ State.lockOf (s.modDieTemp k f) = s.lockOf ∧ State.chanOf (s.modDieTemp k f) = s.chanOf ∧
    State.seqOf (s.modDieTemp k f) = s.seqOf ∧ State.context (s.modDieTemp k f) = s.context := by
  repeat (first | exact rfl | refine ⟨rfl, ?_⟩)

@[simp] theorem State.dieTemp_modDieTemp (s : State) (k : Nat) (f : DieTemp → DieTemp) (n : Nat) :
    (s.modDieTemp k f).dieTemp n = if n = k then f (s.dieTemp k) else s.dieTemp n := Tbl.look_put _ _ _ _ _

@[simp] theorem State.setDieHealth_keeps (s : State) (k : Nat) (v : DieHealth) :
    (s.setDieHealth k v).boot = s.boot ∧ (s.setDieHealth k v).roles = s.roles ∧ (s.setDieHealth k v).chain = s.chain ∧
    (s.setDieHealth k v).supply = s.supply ∧ (s.setDieHealth k v).temps = s.temps ∧ (s.setDieHealth k v).links = s.links ∧
    (s.setDieHealth k v).funcs = s.funcs ∧ (s.setDieHealth k v).tags = s.tags ∧ (s.setDieHealth k v).fnMbx = s.fnMbx ∧
    (s.setDieHealth k v).agentMbx = s.agentMbx ∧ (s.setDieHealth k v).cmdqs = s.cmdqs ∧ (s.setDieHealth k v).journal = s.journal ∧
    (s.setDieHealth k v).protect = s.protect ∧ (s.setDieHealth k v).errors = s.errors ∧ (s.setDieHealth k v).dram = s.dram ∧
    (s.setDieHealth k v).sram = s.sram ∧ (s.setDieHealth k v).ledgers = s.ledgers ∧ (s.setDieHealth k v).ports = s.ports ∧
    (s.setDieHealth k v).portBlocks = s.portBlocks ∧ (s.setDieHealth k v).synce = s.synce ∧ (s.setDieHealth k v).banks = s.banks ∧
    (s.setDieHealth k v).pipes = s.pipes ∧ (s.setDieHealth k v).flight = s.flight ∧ (s.setDieHealth k v).nextPkt = s.nextPkt ∧
    (s.setDieHealth k v).tempo = s.tempo ∧ (s.setDieHealth k v).tms = s.tms ∧ (s.setDieHealth k v).fabric = s.fabric ∧
    (s.setDieHealth k v).linkEnds = s.linkEnds ∧ (s.setDieHealth k v).nextMsg = s.nextMsg ∧ (s.setDieHealth k v).timeModel = s.timeModel ∧
    (s.setDieHealth k v).pps = s.pps ∧ (s.setDieHealth k v).times = s.times ∧ (s.setDieHealth k v).ciphers = s.ciphers ∧
    (s.setDieHealth k v).queues = s.queues ∧ (s.setDieHealth k v).channels = s.channels ∧ (s.setDieHealth k v).nvmes = s.nvmes ∧
    (s.setDieHealth k v).storages = s.storages ∧ (s.setDieHealth k v).partitions = s.partitions ∧ (s.setDieHealth k v).twins = s.twins ∧
    (s.setDieHealth k v).pods = s.pods ∧ (s.setDieHealth k v).threads = s.threads ∧ (s.setDieHealth k v).locks = s.locks ∧
    (s.setDieHealth k v).chans = s.chans ∧ (s.setDieHealth k v).seqs = s.seqs ∧ (s.setDieHealth k v).contexts = s.contexts ∧
    (s.setDieHealth k v).seqCounters = s.seqCounters ∧ (s.setDieHealth k v).patch = s.patch ∧ (s.setDieHealth k v).mem = s.mem ∧
    (s.setDieHealth k v).out = s.out ∧ (s.setDieHealth k v).freeCtr = s.freeCtr ∧ (s.setDieHealth k v).pending = s.pending ∧
    State.dieTemp (s.setDieHealth k v) = s.dieTemp ∧ State.link (s.setDieHealth k v) = s.link ∧ State.func (s.setDieHealth k v) = s.func ∧
    State.fnBox (s.setDieHealth k v) = s.fnBox ∧ State.agentBox (s.setDieHealth k v) = s.agentBox ∧ State.cmdq (s.setDieHealth k v) = s.cmdq ∧
    State.dramMark (s.setDieHealth k v) = s.dramMark ∧ State.sramBank (s.setDieHealth k v) = s.sramBank ∧
    State.ledger (s.setDieHealth k v) = s.ledger ∧ State.port (s.setDieHealth k v) = s.port ∧ State.portBlock (s.setDieHealth k v) = s.portBlock ∧
    State.bankOf (s.setDieHealth k v) = s.bankOf ∧ State.pipe (s.setDieHealth k v) = s.pipe ∧ State.tm (s.setDieHealth k v) = s.tm ∧
    State.laneOf (s.setDieHealth k v) = s.laneOf ∧ State.dieTime (s.setDieHealth k v) = s.dieTime ∧ State.cipherOf (s.setDieHealth k v) = s.cipherOf ∧
    State.dmaCh (s.setDieHealth k v) = s.dmaCh ∧ State.nvme (s.setDieHealth k v) = s.nvme ∧ State.storage (s.setDieHealth k v) = s.storage ∧
    State.podOf (s.setDieHealth k v) = s.podOf ∧ State.thread (s.setDieHealth k v) = s.thread ∧ State.lockOf (s.setDieHealth k v) = s.lockOf ∧
    State.chanOf (s.setDieHealth k v) = s.chanOf ∧ State.seqOf (s.setDieHealth k v) = s.seqOf ∧ State.context (s.setDieHealth k v) = s.context := by
  repeat (first | exact rfl | refine ⟨rfl, ?_⟩)

@[simp] theorem State.dieHealth_setDieHealth (s : State) (k : Nat) (v : DieHealth) (n : Nat) :
    (s.setDieHealth k v).dieHealth n = if n = k then v else s.dieHealth n := Tbl.look_put _ _ _ _ _

@[simp] theorem State.modDieHealth_keeps (s : State) (k : Nat) (f : DieHealth → DieHealth) :
    (s.modDieHealth k f).boot = s.boot ∧ (s.modDieHealth k f).roles = s.roles ∧ (s.modDieHealth k f).chain = s.chain ∧
    (s.modDieHealth k f).supply = s.supply ∧ (s.modDieHealth k f).temps = s.temps ∧ (s.modDieHealth k f).links = s.links ∧
    (s.modDieHealth k f).funcs = s.funcs ∧ (s.modDieHealth k f).tags = s.tags ∧ (s.modDieHealth k f).fnMbx = s.fnMbx ∧
    (s.modDieHealth k f).agentMbx = s.agentMbx ∧ (s.modDieHealth k f).cmdqs = s.cmdqs ∧ (s.modDieHealth k f).journal = s.journal ∧
    (s.modDieHealth k f).protect = s.protect ∧ (s.modDieHealth k f).errors = s.errors ∧ (s.modDieHealth k f).dram = s.dram ∧
    (s.modDieHealth k f).sram = s.sram ∧ (s.modDieHealth k f).ledgers = s.ledgers ∧ (s.modDieHealth k f).ports = s.ports ∧
    (s.modDieHealth k f).portBlocks = s.portBlocks ∧ (s.modDieHealth k f).synce = s.synce ∧ (s.modDieHealth k f).banks = s.banks ∧
    (s.modDieHealth k f).pipes = s.pipes ∧ (s.modDieHealth k f).flight = s.flight ∧ (s.modDieHealth k f).nextPkt = s.nextPkt ∧
    (s.modDieHealth k f).tempo = s.tempo ∧ (s.modDieHealth k f).tms = s.tms ∧ (s.modDieHealth k f).fabric = s.fabric ∧
    (s.modDieHealth k f).linkEnds = s.linkEnds ∧ (s.modDieHealth k f).nextMsg = s.nextMsg ∧ (s.modDieHealth k f).timeModel = s.timeModel ∧
    (s.modDieHealth k f).pps = s.pps ∧ (s.modDieHealth k f).times = s.times ∧ (s.modDieHealth k f).ciphers = s.ciphers ∧
    (s.modDieHealth k f).queues = s.queues ∧ (s.modDieHealth k f).channels = s.channels ∧ (s.modDieHealth k f).nvmes = s.nvmes ∧
    (s.modDieHealth k f).storages = s.storages ∧ (s.modDieHealth k f).partitions = s.partitions ∧ (s.modDieHealth k f).twins = s.twins ∧
    (s.modDieHealth k f).pods = s.pods ∧ (s.modDieHealth k f).threads = s.threads ∧ (s.modDieHealth k f).locks = s.locks ∧
    (s.modDieHealth k f).chans = s.chans ∧ (s.modDieHealth k f).seqs = s.seqs ∧ (s.modDieHealth k f).contexts = s.contexts ∧
    (s.modDieHealth k f).seqCounters = s.seqCounters ∧ (s.modDieHealth k f).patch = s.patch ∧ (s.modDieHealth k f).mem = s.mem ∧
    (s.modDieHealth k f).out = s.out ∧ (s.modDieHealth k f).freeCtr = s.freeCtr ∧ (s.modDieHealth k f).pending = s.pending ∧
    State.dieTemp (s.modDieHealth k f) = s.dieTemp ∧ State.link (s.modDieHealth k f) = s.link ∧ State.func (s.modDieHealth k f) = s.func ∧
    State.fnBox (s.modDieHealth k f) = s.fnBox ∧ State.agentBox (s.modDieHealth k f) = s.agentBox ∧ State.cmdq (s.modDieHealth k f) = s.cmdq ∧
    State.dramMark (s.modDieHealth k f) = s.dramMark ∧ State.sramBank (s.modDieHealth k f) = s.sramBank ∧
    State.ledger (s.modDieHealth k f) = s.ledger ∧ State.port (s.modDieHealth k f) = s.port ∧ State.portBlock (s.modDieHealth k f) = s.portBlock ∧
    State.bankOf (s.modDieHealth k f) = s.bankOf ∧ State.pipe (s.modDieHealth k f) = s.pipe ∧ State.tm (s.modDieHealth k f) = s.tm ∧
    State.laneOf (s.modDieHealth k f) = s.laneOf ∧ State.dieTime (s.modDieHealth k f) = s.dieTime ∧ State.cipherOf (s.modDieHealth k f) = s.cipherOf ∧
    State.dmaCh (s.modDieHealth k f) = s.dmaCh ∧ State.nvme (s.modDieHealth k f) = s.nvme ∧ State.storage (s.modDieHealth k f) = s.storage ∧
    State.podOf (s.modDieHealth k f) = s.podOf ∧ State.thread (s.modDieHealth k f) = s.thread ∧ State.lockOf (s.modDieHealth k f) = s.lockOf ∧
    State.chanOf (s.modDieHealth k f) = s.chanOf ∧ State.seqOf (s.modDieHealth k f) = s.seqOf ∧ State.context (s.modDieHealth k f) = s.context := by
  repeat (first | exact rfl | refine ⟨rfl, ?_⟩)

@[simp] theorem State.dieHealth_modDieHealth (s : State) (k : Nat) (f : DieHealth → DieHealth) (n : Nat) :
    (s.modDieHealth k f).dieHealth n = if n = k then f (s.dieHealth k) else s.dieHealth n := Tbl.look_put _ _ _ _ _

@[simp] theorem State.setLink_keeps (s : State) (k : Nat) (v : Link) :
    (s.setLink k v).boot = s.boot ∧ (s.setLink k v).roles = s.roles ∧ (s.setLink k v).chain = s.chain ∧ (s.setLink k v).supply = s.supply ∧
    (s.setLink k v).temps = s.temps ∧ (s.setLink k v).health = s.health ∧ (s.setLink k v).funcs = s.funcs ∧ (s.setLink k v).tags = s.tags ∧
    (s.setLink k v).fnMbx = s.fnMbx ∧ (s.setLink k v).agentMbx = s.agentMbx ∧ (s.setLink k v).cmdqs = s.cmdqs ∧ (s.setLink k v).journal = s.journal ∧
    (s.setLink k v).protect = s.protect ∧ (s.setLink k v).errors = s.errors ∧ (s.setLink k v).dram = s.dram ∧ (s.setLink k v).sram = s.sram ∧
    (s.setLink k v).ledgers = s.ledgers ∧ (s.setLink k v).ports = s.ports ∧ (s.setLink k v).portBlocks = s.portBlocks ∧
    (s.setLink k v).synce = s.synce ∧ (s.setLink k v).banks = s.banks ∧ (s.setLink k v).pipes = s.pipes ∧ (s.setLink k v).flight = s.flight ∧
    (s.setLink k v).nextPkt = s.nextPkt ∧ (s.setLink k v).tempo = s.tempo ∧ (s.setLink k v).tms = s.tms ∧ (s.setLink k v).fabric = s.fabric ∧
    (s.setLink k v).linkEnds = s.linkEnds ∧ (s.setLink k v).nextMsg = s.nextMsg ∧ (s.setLink k v).timeModel = s.timeModel ∧
    (s.setLink k v).pps = s.pps ∧ (s.setLink k v).times = s.times ∧ (s.setLink k v).ciphers = s.ciphers ∧ (s.setLink k v).queues = s.queues ∧
    (s.setLink k v).channels = s.channels ∧ (s.setLink k v).nvmes = s.nvmes ∧ (s.setLink k v).storages = s.storages ∧
    (s.setLink k v).partitions = s.partitions ∧ (s.setLink k v).twins = s.twins ∧ (s.setLink k v).pods = s.pods ∧
    (s.setLink k v).threads = s.threads ∧ (s.setLink k v).locks = s.locks ∧ (s.setLink k v).chans = s.chans ∧ (s.setLink k v).seqs = s.seqs ∧
    (s.setLink k v).contexts = s.contexts ∧ (s.setLink k v).seqCounters = s.seqCounters ∧ (s.setLink k v).patch = s.patch ∧
    (s.setLink k v).mem = s.mem ∧ (s.setLink k v).out = s.out ∧ (s.setLink k v).freeCtr = s.freeCtr ∧ (s.setLink k v).pending = s.pending ∧
    State.dieTemp (s.setLink k v) = s.dieTemp ∧ State.dieHealth (s.setLink k v) = s.dieHealth ∧ State.func (s.setLink k v) = s.func ∧
    State.fnBox (s.setLink k v) = s.fnBox ∧ State.agentBox (s.setLink k v) = s.agentBox ∧ State.cmdq (s.setLink k v) = s.cmdq ∧
    State.dramMark (s.setLink k v) = s.dramMark ∧ State.sramBank (s.setLink k v) = s.sramBank ∧ State.ledger (s.setLink k v) = s.ledger ∧
    State.port (s.setLink k v) = s.port ∧ State.portBlock (s.setLink k v) = s.portBlock ∧ State.bankOf (s.setLink k v) = s.bankOf ∧
    State.pipe (s.setLink k v) = s.pipe ∧ State.tm (s.setLink k v) = s.tm ∧ State.laneOf (s.setLink k v) = s.laneOf ∧
    State.dieTime (s.setLink k v) = s.dieTime ∧ State.cipherOf (s.setLink k v) = s.cipherOf ∧ State.dmaCh (s.setLink k v) = s.dmaCh ∧
    State.nvme (s.setLink k v) = s.nvme ∧ State.storage (s.setLink k v) = s.storage ∧ State.podOf (s.setLink k v) = s.podOf ∧
    State.thread (s.setLink k v) = s.thread ∧ State.lockOf (s.setLink k v) = s.lockOf ∧ State.chanOf (s.setLink k v) = s.chanOf ∧
    State.seqOf (s.setLink k v) = s.seqOf ∧ State.context (s.setLink k v) = s.context := by
  repeat (first | exact rfl | refine ⟨rfl, ?_⟩)

@[simp] theorem State.link_setLink (s : State) (k : Nat) (v : Link) (n : Nat) :
    (s.setLink k v).link n = if n = k then v else s.link n := Tbl.look_put _ _ _ _ _

@[simp] theorem State.modLink_keeps (s : State) (k : Nat) (f : Link → Link) :
    (s.modLink k f).boot = s.boot ∧ (s.modLink k f).roles = s.roles ∧ (s.modLink k f).chain = s.chain ∧ (s.modLink k f).supply = s.supply ∧
    (s.modLink k f).temps = s.temps ∧ (s.modLink k f).health = s.health ∧ (s.modLink k f).funcs = s.funcs ∧ (s.modLink k f).tags = s.tags ∧
    (s.modLink k f).fnMbx = s.fnMbx ∧ (s.modLink k f).agentMbx = s.agentMbx ∧ (s.modLink k f).cmdqs = s.cmdqs ∧ (s.modLink k f).journal = s.journal ∧
    (s.modLink k f).protect = s.protect ∧ (s.modLink k f).errors = s.errors ∧ (s.modLink k f).dram = s.dram ∧ (s.modLink k f).sram = s.sram ∧
    (s.modLink k f).ledgers = s.ledgers ∧ (s.modLink k f).ports = s.ports ∧ (s.modLink k f).portBlocks = s.portBlocks ∧
    (s.modLink k f).synce = s.synce ∧ (s.modLink k f).banks = s.banks ∧ (s.modLink k f).pipes = s.pipes ∧ (s.modLink k f).flight = s.flight ∧
    (s.modLink k f).nextPkt = s.nextPkt ∧ (s.modLink k f).tempo = s.tempo ∧ (s.modLink k f).tms = s.tms ∧ (s.modLink k f).fabric = s.fabric ∧
    (s.modLink k f).linkEnds = s.linkEnds ∧ (s.modLink k f).nextMsg = s.nextMsg ∧ (s.modLink k f).timeModel = s.timeModel ∧
    (s.modLink k f).pps = s.pps ∧ (s.modLink k f).times = s.times ∧ (s.modLink k f).ciphers = s.ciphers ∧ (s.modLink k f).queues = s.queues ∧
    (s.modLink k f).channels = s.channels ∧ (s.modLink k f).nvmes = s.nvmes ∧ (s.modLink k f).storages = s.storages ∧
    (s.modLink k f).partitions = s.partitions ∧ (s.modLink k f).twins = s.twins ∧ (s.modLink k f).pods = s.pods ∧
    (s.modLink k f).threads = s.threads ∧ (s.modLink k f).locks = s.locks ∧ (s.modLink k f).chans = s.chans ∧ (s.modLink k f).seqs = s.seqs ∧
    (s.modLink k f).contexts = s.contexts ∧ (s.modLink k f).seqCounters = s.seqCounters ∧ (s.modLink k f).patch = s.patch ∧
    (s.modLink k f).mem = s.mem ∧ (s.modLink k f).out = s.out ∧ (s.modLink k f).freeCtr = s.freeCtr ∧ (s.modLink k f).pending = s.pending ∧
    State.dieTemp (s.modLink k f) = s.dieTemp ∧ State.dieHealth (s.modLink k f) = s.dieHealth ∧ State.func (s.modLink k f) = s.func ∧
    State.fnBox (s.modLink k f) = s.fnBox ∧ State.agentBox (s.modLink k f) = s.agentBox ∧ State.cmdq (s.modLink k f) = s.cmdq ∧
    State.dramMark (s.modLink k f) = s.dramMark ∧ State.sramBank (s.modLink k f) = s.sramBank ∧ State.ledger (s.modLink k f) = s.ledger ∧
    State.port (s.modLink k f) = s.port ∧ State.portBlock (s.modLink k f) = s.portBlock ∧ State.bankOf (s.modLink k f) = s.bankOf ∧
    State.pipe (s.modLink k f) = s.pipe ∧ State.tm (s.modLink k f) = s.tm ∧ State.laneOf (s.modLink k f) = s.laneOf ∧
    State.dieTime (s.modLink k f) = s.dieTime ∧ State.cipherOf (s.modLink k f) = s.cipherOf ∧ State.dmaCh (s.modLink k f) = s.dmaCh ∧
    State.nvme (s.modLink k f) = s.nvme ∧ State.storage (s.modLink k f) = s.storage ∧ State.podOf (s.modLink k f) = s.podOf ∧
    State.thread (s.modLink k f) = s.thread ∧ State.lockOf (s.modLink k f) = s.lockOf ∧ State.chanOf (s.modLink k f) = s.chanOf ∧
    State.seqOf (s.modLink k f) = s.seqOf ∧ State.context (s.modLink k f) = s.context := by
  repeat (first | exact rfl | refine ⟨rfl, ?_⟩)

@[simp] theorem State.link_modLink (s : State) (k : Nat) (f : Link → Link) (n : Nat) :
    (s.modLink k f).link n = if n = k then f (s.link k) else s.link n := Tbl.look_put _ _ _ _ _

@[simp] theorem State.setFunc_keeps (s : State) (k : Nat) (v : Func) :
    (s.setFunc k v).boot = s.boot ∧ (s.setFunc k v).roles = s.roles ∧ (s.setFunc k v).chain = s.chain ∧ (s.setFunc k v).supply = s.supply ∧
    (s.setFunc k v).temps = s.temps ∧ (s.setFunc k v).health = s.health ∧ (s.setFunc k v).links = s.links ∧ (s.setFunc k v).tags = s.tags ∧
    (s.setFunc k v).fnMbx = s.fnMbx ∧ (s.setFunc k v).agentMbx = s.agentMbx ∧ (s.setFunc k v).cmdqs = s.cmdqs ∧ (s.setFunc k v).journal = s.journal ∧
    (s.setFunc k v).protect = s.protect ∧ (s.setFunc k v).errors = s.errors ∧ (s.setFunc k v).dram = s.dram ∧ (s.setFunc k v).sram = s.sram ∧
    (s.setFunc k v).ledgers = s.ledgers ∧ (s.setFunc k v).ports = s.ports ∧ (s.setFunc k v).portBlocks = s.portBlocks ∧
    (s.setFunc k v).synce = s.synce ∧ (s.setFunc k v).banks = s.banks ∧ (s.setFunc k v).pipes = s.pipes ∧ (s.setFunc k v).flight = s.flight ∧
    (s.setFunc k v).nextPkt = s.nextPkt ∧ (s.setFunc k v).tempo = s.tempo ∧ (s.setFunc k v).tms = s.tms ∧ (s.setFunc k v).fabric = s.fabric ∧
    (s.setFunc k v).linkEnds = s.linkEnds ∧ (s.setFunc k v).nextMsg = s.nextMsg ∧ (s.setFunc k v).timeModel = s.timeModel ∧
    (s.setFunc k v).pps = s.pps ∧ (s.setFunc k v).times = s.times ∧ (s.setFunc k v).ciphers = s.ciphers ∧ (s.setFunc k v).queues = s.queues ∧
    (s.setFunc k v).channels = s.channels ∧ (s.setFunc k v).nvmes = s.nvmes ∧ (s.setFunc k v).storages = s.storages ∧
    (s.setFunc k v).partitions = s.partitions ∧ (s.setFunc k v).twins = s.twins ∧ (s.setFunc k v).pods = s.pods ∧
    (s.setFunc k v).threads = s.threads ∧ (s.setFunc k v).locks = s.locks ∧ (s.setFunc k v).chans = s.chans ∧ (s.setFunc k v).seqs = s.seqs ∧
    (s.setFunc k v).contexts = s.contexts ∧ (s.setFunc k v).seqCounters = s.seqCounters ∧ (s.setFunc k v).patch = s.patch ∧
    (s.setFunc k v).mem = s.mem ∧ (s.setFunc k v).out = s.out ∧ (s.setFunc k v).freeCtr = s.freeCtr ∧ (s.setFunc k v).pending = s.pending ∧
    State.dieTemp (s.setFunc k v) = s.dieTemp ∧ State.dieHealth (s.setFunc k v) = s.dieHealth ∧ State.link (s.setFunc k v) = s.link ∧
    State.fnBox (s.setFunc k v) = s.fnBox ∧ State.agentBox (s.setFunc k v) = s.agentBox ∧ State.cmdq (s.setFunc k v) = s.cmdq ∧
    State.dramMark (s.setFunc k v) = s.dramMark ∧ State.sramBank (s.setFunc k v) = s.sramBank ∧ State.ledger (s.setFunc k v) = s.ledger ∧
    State.port (s.setFunc k v) = s.port ∧ State.portBlock (s.setFunc k v) = s.portBlock ∧ State.bankOf (s.setFunc k v) = s.bankOf ∧
    State.pipe (s.setFunc k v) = s.pipe ∧ State.tm (s.setFunc k v) = s.tm ∧ State.laneOf (s.setFunc k v) = s.laneOf ∧
    State.dieTime (s.setFunc k v) = s.dieTime ∧ State.cipherOf (s.setFunc k v) = s.cipherOf ∧ State.dmaCh (s.setFunc k v) = s.dmaCh ∧
    State.nvme (s.setFunc k v) = s.nvme ∧ State.storage (s.setFunc k v) = s.storage ∧ State.podOf (s.setFunc k v) = s.podOf ∧
    State.thread (s.setFunc k v) = s.thread ∧ State.lockOf (s.setFunc k v) = s.lockOf ∧ State.chanOf (s.setFunc k v) = s.chanOf ∧
    State.seqOf (s.setFunc k v) = s.seqOf ∧ State.context (s.setFunc k v) = s.context := by
  repeat (first | exact rfl | refine ⟨rfl, ?_⟩)

@[simp] theorem State.func_setFunc (s : State) (k : Nat) (v : Func) (n : Nat) :
    (s.setFunc k v).func n = if n = k then v else s.func n := Tbl.look_put _ _ _ _ _

@[simp] theorem State.modFunc_keeps (s : State) (k : Nat) (f : Func → Func) :
    (s.modFunc k f).boot = s.boot ∧ (s.modFunc k f).roles = s.roles ∧ (s.modFunc k f).chain = s.chain ∧ (s.modFunc k f).supply = s.supply ∧
    (s.modFunc k f).temps = s.temps ∧ (s.modFunc k f).health = s.health ∧ (s.modFunc k f).links = s.links ∧ (s.modFunc k f).tags = s.tags ∧
    (s.modFunc k f).fnMbx = s.fnMbx ∧ (s.modFunc k f).agentMbx = s.agentMbx ∧ (s.modFunc k f).cmdqs = s.cmdqs ∧ (s.modFunc k f).journal = s.journal ∧
    (s.modFunc k f).protect = s.protect ∧ (s.modFunc k f).errors = s.errors ∧ (s.modFunc k f).dram = s.dram ∧ (s.modFunc k f).sram = s.sram ∧
    (s.modFunc k f).ledgers = s.ledgers ∧ (s.modFunc k f).ports = s.ports ∧ (s.modFunc k f).portBlocks = s.portBlocks ∧
    (s.modFunc k f).synce = s.synce ∧ (s.modFunc k f).banks = s.banks ∧ (s.modFunc k f).pipes = s.pipes ∧ (s.modFunc k f).flight = s.flight ∧
    (s.modFunc k f).nextPkt = s.nextPkt ∧ (s.modFunc k f).tempo = s.tempo ∧ (s.modFunc k f).tms = s.tms ∧ (s.modFunc k f).fabric = s.fabric ∧
    (s.modFunc k f).linkEnds = s.linkEnds ∧ (s.modFunc k f).nextMsg = s.nextMsg ∧ (s.modFunc k f).timeModel = s.timeModel ∧
    (s.modFunc k f).pps = s.pps ∧ (s.modFunc k f).times = s.times ∧ (s.modFunc k f).ciphers = s.ciphers ∧ (s.modFunc k f).queues = s.queues ∧
    (s.modFunc k f).channels = s.channels ∧ (s.modFunc k f).nvmes = s.nvmes ∧ (s.modFunc k f).storages = s.storages ∧
    (s.modFunc k f).partitions = s.partitions ∧ (s.modFunc k f).twins = s.twins ∧ (s.modFunc k f).pods = s.pods ∧
    (s.modFunc k f).threads = s.threads ∧ (s.modFunc k f).locks = s.locks ∧ (s.modFunc k f).chans = s.chans ∧ (s.modFunc k f).seqs = s.seqs ∧
    (s.modFunc k f).contexts = s.contexts ∧ (s.modFunc k f).seqCounters = s.seqCounters ∧ (s.modFunc k f).patch = s.patch ∧
    (s.modFunc k f).mem = s.mem ∧ (s.modFunc k f).out = s.out ∧ (s.modFunc k f).freeCtr = s.freeCtr ∧ (s.modFunc k f).pending = s.pending ∧
    State.dieTemp (s.modFunc k f) = s.dieTemp ∧ State.dieHealth (s.modFunc k f) = s.dieHealth ∧ State.link (s.modFunc k f) = s.link ∧
    State.fnBox (s.modFunc k f) = s.fnBox ∧ State.agentBox (s.modFunc k f) = s.agentBox ∧ State.cmdq (s.modFunc k f) = s.cmdq ∧
    State.dramMark (s.modFunc k f) = s.dramMark ∧ State.sramBank (s.modFunc k f) = s.sramBank ∧ State.ledger (s.modFunc k f) = s.ledger ∧
    State.port (s.modFunc k f) = s.port ∧ State.portBlock (s.modFunc k f) = s.portBlock ∧ State.bankOf (s.modFunc k f) = s.bankOf ∧
    State.pipe (s.modFunc k f) = s.pipe ∧ State.tm (s.modFunc k f) = s.tm ∧ State.laneOf (s.modFunc k f) = s.laneOf ∧
    State.dieTime (s.modFunc k f) = s.dieTime ∧ State.cipherOf (s.modFunc k f) = s.cipherOf ∧ State.dmaCh (s.modFunc k f) = s.dmaCh ∧
    State.nvme (s.modFunc k f) = s.nvme ∧ State.storage (s.modFunc k f) = s.storage ∧ State.podOf (s.modFunc k f) = s.podOf ∧
    State.thread (s.modFunc k f) = s.thread ∧ State.lockOf (s.modFunc k f) = s.lockOf ∧ State.chanOf (s.modFunc k f) = s.chanOf ∧
    State.seqOf (s.modFunc k f) = s.seqOf ∧ State.context (s.modFunc k f) = s.context := by
  repeat (first | exact rfl | refine ⟨rfl, ?_⟩)

@[simp] theorem State.func_modFunc (s : State) (k : Nat) (f : Func → Func) (n : Nat) :
    (s.modFunc k f).func n = if n = k then f (s.func k) else s.func n := Tbl.look_put _ _ _ _ _

@[simp] theorem State.setFnBox_keeps (s : State) (k : Nat) (v : FnMailbox) :
    (s.setFnBox k v).boot = s.boot ∧ (s.setFnBox k v).roles = s.roles ∧ (s.setFnBox k v).chain = s.chain ∧ (s.setFnBox k v).supply = s.supply ∧
    (s.setFnBox k v).temps = s.temps ∧ (s.setFnBox k v).health = s.health ∧ (s.setFnBox k v).links = s.links ∧ (s.setFnBox k v).funcs = s.funcs ∧
    (s.setFnBox k v).tags = s.tags ∧ (s.setFnBox k v).agentMbx = s.agentMbx ∧ (s.setFnBox k v).cmdqs = s.cmdqs ∧
    (s.setFnBox k v).journal = s.journal ∧ (s.setFnBox k v).protect = s.protect ∧ (s.setFnBox k v).errors = s.errors ∧
    (s.setFnBox k v).dram = s.dram ∧ (s.setFnBox k v).sram = s.sram ∧ (s.setFnBox k v).ledgers = s.ledgers ∧ (s.setFnBox k v).ports = s.ports ∧
    (s.setFnBox k v).portBlocks = s.portBlocks ∧ (s.setFnBox k v).synce = s.synce ∧ (s.setFnBox k v).banks = s.banks ∧
    (s.setFnBox k v).pipes = s.pipes ∧ (s.setFnBox k v).flight = s.flight ∧ (s.setFnBox k v).nextPkt = s.nextPkt ∧ (s.setFnBox k v).tempo = s.tempo ∧
    (s.setFnBox k v).tms = s.tms ∧ (s.setFnBox k v).fabric = s.fabric ∧ (s.setFnBox k v).linkEnds = s.linkEnds ∧
    (s.setFnBox k v).nextMsg = s.nextMsg ∧ (s.setFnBox k v).timeModel = s.timeModel ∧ (s.setFnBox k v).pps = s.pps ∧
    (s.setFnBox k v).times = s.times ∧ (s.setFnBox k v).ciphers = s.ciphers ∧ (s.setFnBox k v).queues = s.queues ∧
    (s.setFnBox k v).channels = s.channels ∧ (s.setFnBox k v).nvmes = s.nvmes ∧ (s.setFnBox k v).storages = s.storages ∧
    (s.setFnBox k v).partitions = s.partitions ∧ (s.setFnBox k v).twins = s.twins ∧ (s.setFnBox k v).pods = s.pods ∧
    (s.setFnBox k v).threads = s.threads ∧ (s.setFnBox k v).locks = s.locks ∧ (s.setFnBox k v).chans = s.chans ∧ (s.setFnBox k v).seqs = s.seqs ∧
    (s.setFnBox k v).contexts = s.contexts ∧ (s.setFnBox k v).seqCounters = s.seqCounters ∧ (s.setFnBox k v).patch = s.patch ∧
    (s.setFnBox k v).mem = s.mem ∧ (s.setFnBox k v).out = s.out ∧ (s.setFnBox k v).freeCtr = s.freeCtr ∧ (s.setFnBox k v).pending = s.pending ∧
    State.dieTemp (s.setFnBox k v) = s.dieTemp ∧ State.dieHealth (s.setFnBox k v) = s.dieHealth ∧ State.link (s.setFnBox k v) = s.link ∧
    State.func (s.setFnBox k v) = s.func ∧ State.agentBox (s.setFnBox k v) = s.agentBox ∧ State.cmdq (s.setFnBox k v) = s.cmdq ∧
    State.dramMark (s.setFnBox k v) = s.dramMark ∧ State.sramBank (s.setFnBox k v) = s.sramBank ∧ State.ledger (s.setFnBox k v) = s.ledger ∧
    State.port (s.setFnBox k v) = s.port ∧ State.portBlock (s.setFnBox k v) = s.portBlock ∧ State.bankOf (s.setFnBox k v) = s.bankOf ∧
    State.pipe (s.setFnBox k v) = s.pipe ∧ State.tm (s.setFnBox k v) = s.tm ∧ State.laneOf (s.setFnBox k v) = s.laneOf ∧
    State.dieTime (s.setFnBox k v) = s.dieTime ∧ State.cipherOf (s.setFnBox k v) = s.cipherOf ∧ State.dmaCh (s.setFnBox k v) = s.dmaCh ∧
    State.nvme (s.setFnBox k v) = s.nvme ∧ State.storage (s.setFnBox k v) = s.storage ∧ State.podOf (s.setFnBox k v) = s.podOf ∧
    State.thread (s.setFnBox k v) = s.thread ∧ State.lockOf (s.setFnBox k v) = s.lockOf ∧ State.chanOf (s.setFnBox k v) = s.chanOf ∧
    State.seqOf (s.setFnBox k v) = s.seqOf ∧ State.context (s.setFnBox k v) = s.context := by
  repeat (first | exact rfl | refine ⟨rfl, ?_⟩)

@[simp] theorem State.fnBox_setFnBox (s : State) (k : Nat) (v : FnMailbox) (n : Nat) :
    (s.setFnBox k v).fnBox n = if n = k then v else s.fnBox n := Tbl.look_put _ _ _ _ _

@[simp] theorem State.modFnBox_keeps (s : State) (k : Nat) (f : FnMailbox → FnMailbox) :
    (s.modFnBox k f).boot = s.boot ∧ (s.modFnBox k f).roles = s.roles ∧ (s.modFnBox k f).chain = s.chain ∧ (s.modFnBox k f).supply = s.supply ∧
    (s.modFnBox k f).temps = s.temps ∧ (s.modFnBox k f).health = s.health ∧ (s.modFnBox k f).links = s.links ∧ (s.modFnBox k f).funcs = s.funcs ∧
    (s.modFnBox k f).tags = s.tags ∧ (s.modFnBox k f).agentMbx = s.agentMbx ∧ (s.modFnBox k f).cmdqs = s.cmdqs ∧
    (s.modFnBox k f).journal = s.journal ∧ (s.modFnBox k f).protect = s.protect ∧ (s.modFnBox k f).errors = s.errors ∧
    (s.modFnBox k f).dram = s.dram ∧ (s.modFnBox k f).sram = s.sram ∧ (s.modFnBox k f).ledgers = s.ledgers ∧ (s.modFnBox k f).ports = s.ports ∧
    (s.modFnBox k f).portBlocks = s.portBlocks ∧ (s.modFnBox k f).synce = s.synce ∧ (s.modFnBox k f).banks = s.banks ∧
    (s.modFnBox k f).pipes = s.pipes ∧ (s.modFnBox k f).flight = s.flight ∧ (s.modFnBox k f).nextPkt = s.nextPkt ∧ (s.modFnBox k f).tempo = s.tempo ∧
    (s.modFnBox k f).tms = s.tms ∧ (s.modFnBox k f).fabric = s.fabric ∧ (s.modFnBox k f).linkEnds = s.linkEnds ∧
    (s.modFnBox k f).nextMsg = s.nextMsg ∧ (s.modFnBox k f).timeModel = s.timeModel ∧ (s.modFnBox k f).pps = s.pps ∧
    (s.modFnBox k f).times = s.times ∧ (s.modFnBox k f).ciphers = s.ciphers ∧ (s.modFnBox k f).queues = s.queues ∧
    (s.modFnBox k f).channels = s.channels ∧ (s.modFnBox k f).nvmes = s.nvmes ∧ (s.modFnBox k f).storages = s.storages ∧
    (s.modFnBox k f).partitions = s.partitions ∧ (s.modFnBox k f).twins = s.twins ∧ (s.modFnBox k f).pods = s.pods ∧
    (s.modFnBox k f).threads = s.threads ∧ (s.modFnBox k f).locks = s.locks ∧ (s.modFnBox k f).chans = s.chans ∧ (s.modFnBox k f).seqs = s.seqs ∧
    (s.modFnBox k f).contexts = s.contexts ∧ (s.modFnBox k f).seqCounters = s.seqCounters ∧ (s.modFnBox k f).patch = s.patch ∧
    (s.modFnBox k f).mem = s.mem ∧ (s.modFnBox k f).out = s.out ∧ (s.modFnBox k f).freeCtr = s.freeCtr ∧ (s.modFnBox k f).pending = s.pending ∧
    State.dieTemp (s.modFnBox k f) = s.dieTemp ∧ State.dieHealth (s.modFnBox k f) = s.dieHealth ∧ State.link (s.modFnBox k f) = s.link ∧
    State.func (s.modFnBox k f) = s.func ∧ State.agentBox (s.modFnBox k f) = s.agentBox ∧ State.cmdq (s.modFnBox k f) = s.cmdq ∧
    State.dramMark (s.modFnBox k f) = s.dramMark ∧ State.sramBank (s.modFnBox k f) = s.sramBank ∧ State.ledger (s.modFnBox k f) = s.ledger ∧
    State.port (s.modFnBox k f) = s.port ∧ State.portBlock (s.modFnBox k f) = s.portBlock ∧ State.bankOf (s.modFnBox k f) = s.bankOf ∧
    State.pipe (s.modFnBox k f) = s.pipe ∧ State.tm (s.modFnBox k f) = s.tm ∧ State.laneOf (s.modFnBox k f) = s.laneOf ∧
    State.dieTime (s.modFnBox k f) = s.dieTime ∧ State.cipherOf (s.modFnBox k f) = s.cipherOf ∧ State.dmaCh (s.modFnBox k f) = s.dmaCh ∧
    State.nvme (s.modFnBox k f) = s.nvme ∧ State.storage (s.modFnBox k f) = s.storage ∧ State.podOf (s.modFnBox k f) = s.podOf ∧
    State.thread (s.modFnBox k f) = s.thread ∧ State.lockOf (s.modFnBox k f) = s.lockOf ∧ State.chanOf (s.modFnBox k f) = s.chanOf ∧
    State.seqOf (s.modFnBox k f) = s.seqOf ∧ State.context (s.modFnBox k f) = s.context := by
  repeat (first | exact rfl | refine ⟨rfl, ?_⟩)

@[simp] theorem State.fnBox_modFnBox (s : State) (k : Nat) (f : FnMailbox → FnMailbox) (n : Nat) :
    (s.modFnBox k f).fnBox n = if n = k then f (s.fnBox k) else s.fnBox n := Tbl.look_put _ _ _ _ _

@[simp] theorem State.setAgentBox_keeps (s : State) (k : Nat) (v : AgentMailbox) :
    (s.setAgentBox k v).boot = s.boot ∧ (s.setAgentBox k v).roles = s.roles ∧ (s.setAgentBox k v).chain = s.chain ∧
    (s.setAgentBox k v).supply = s.supply ∧ (s.setAgentBox k v).temps = s.temps ∧ (s.setAgentBox k v).health = s.health ∧
    (s.setAgentBox k v).links = s.links ∧ (s.setAgentBox k v).funcs = s.funcs ∧ (s.setAgentBox k v).tags = s.tags ∧
    (s.setAgentBox k v).fnMbx = s.fnMbx ∧ (s.setAgentBox k v).cmdqs = s.cmdqs ∧ (s.setAgentBox k v).journal = s.journal ∧
    (s.setAgentBox k v).protect = s.protect ∧ (s.setAgentBox k v).errors = s.errors ∧ (s.setAgentBox k v).dram = s.dram ∧
    (s.setAgentBox k v).sram = s.sram ∧ (s.setAgentBox k v).ledgers = s.ledgers ∧ (s.setAgentBox k v).ports = s.ports ∧
    (s.setAgentBox k v).portBlocks = s.portBlocks ∧ (s.setAgentBox k v).synce = s.synce ∧ (s.setAgentBox k v).banks = s.banks ∧
    (s.setAgentBox k v).pipes = s.pipes ∧ (s.setAgentBox k v).flight = s.flight ∧ (s.setAgentBox k v).nextPkt = s.nextPkt ∧
    (s.setAgentBox k v).tempo = s.tempo ∧ (s.setAgentBox k v).tms = s.tms ∧ (s.setAgentBox k v).fabric = s.fabric ∧
    (s.setAgentBox k v).linkEnds = s.linkEnds ∧ (s.setAgentBox k v).nextMsg = s.nextMsg ∧ (s.setAgentBox k v).timeModel = s.timeModel ∧
    (s.setAgentBox k v).pps = s.pps ∧ (s.setAgentBox k v).times = s.times ∧ (s.setAgentBox k v).ciphers = s.ciphers ∧
    (s.setAgentBox k v).queues = s.queues ∧ (s.setAgentBox k v).channels = s.channels ∧ (s.setAgentBox k v).nvmes = s.nvmes ∧
    (s.setAgentBox k v).storages = s.storages ∧ (s.setAgentBox k v).partitions = s.partitions ∧ (s.setAgentBox k v).twins = s.twins ∧
    (s.setAgentBox k v).pods = s.pods ∧ (s.setAgentBox k v).threads = s.threads ∧ (s.setAgentBox k v).locks = s.locks ∧
    (s.setAgentBox k v).chans = s.chans ∧ (s.setAgentBox k v).seqs = s.seqs ∧ (s.setAgentBox k v).contexts = s.contexts ∧
    (s.setAgentBox k v).seqCounters = s.seqCounters ∧ (s.setAgentBox k v).patch = s.patch ∧ (s.setAgentBox k v).mem = s.mem ∧
    (s.setAgentBox k v).out = s.out ∧ (s.setAgentBox k v).freeCtr = s.freeCtr ∧ (s.setAgentBox k v).pending = s.pending ∧
    State.dieTemp (s.setAgentBox k v) = s.dieTemp ∧ State.dieHealth (s.setAgentBox k v) = s.dieHealth ∧ State.link (s.setAgentBox k v) = s.link ∧
    State.func (s.setAgentBox k v) = s.func ∧ State.fnBox (s.setAgentBox k v) = s.fnBox ∧ State.cmdq (s.setAgentBox k v) = s.cmdq ∧
    State.dramMark (s.setAgentBox k v) = s.dramMark ∧ State.sramBank (s.setAgentBox k v) = s.sramBank ∧ State.ledger (s.setAgentBox k v) = s.ledger ∧
    State.port (s.setAgentBox k v) = s.port ∧ State.portBlock (s.setAgentBox k v) = s.portBlock ∧ State.bankOf (s.setAgentBox k v) = s.bankOf ∧
    State.pipe (s.setAgentBox k v) = s.pipe ∧ State.tm (s.setAgentBox k v) = s.tm ∧ State.laneOf (s.setAgentBox k v) = s.laneOf ∧
    State.dieTime (s.setAgentBox k v) = s.dieTime ∧ State.cipherOf (s.setAgentBox k v) = s.cipherOf ∧ State.dmaCh (s.setAgentBox k v) = s.dmaCh ∧
    State.nvme (s.setAgentBox k v) = s.nvme ∧ State.storage (s.setAgentBox k v) = s.storage ∧ State.podOf (s.setAgentBox k v) = s.podOf ∧
    State.thread (s.setAgentBox k v) = s.thread ∧ State.lockOf (s.setAgentBox k v) = s.lockOf ∧ State.chanOf (s.setAgentBox k v) = s.chanOf ∧
    State.seqOf (s.setAgentBox k v) = s.seqOf ∧ State.context (s.setAgentBox k v) = s.context := by
  repeat (first | exact rfl | refine ⟨rfl, ?_⟩)

@[simp] theorem State.agentBox_setAgentBox (s : State) (k : Nat) (v : AgentMailbox) (n : Nat) :
    (s.setAgentBox k v).agentBox n = if n = k then v else s.agentBox n := Tbl.look_put _ _ _ _ _

@[simp] theorem State.modAgentBox_keeps (s : State) (k : Nat) (f : AgentMailbox → AgentMailbox) :
    (s.modAgentBox k f).boot = s.boot ∧ (s.modAgentBox k f).roles = s.roles ∧ (s.modAgentBox k f).chain = s.chain ∧
    (s.modAgentBox k f).supply = s.supply ∧ (s.modAgentBox k f).temps = s.temps ∧ (s.modAgentBox k f).health = s.health ∧
    (s.modAgentBox k f).links = s.links ∧ (s.modAgentBox k f).funcs = s.funcs ∧ (s.modAgentBox k f).tags = s.tags ∧
    (s.modAgentBox k f).fnMbx = s.fnMbx ∧ (s.modAgentBox k f).cmdqs = s.cmdqs ∧ (s.modAgentBox k f).journal = s.journal ∧
    (s.modAgentBox k f).protect = s.protect ∧ (s.modAgentBox k f).errors = s.errors ∧ (s.modAgentBox k f).dram = s.dram ∧
    (s.modAgentBox k f).sram = s.sram ∧ (s.modAgentBox k f).ledgers = s.ledgers ∧ (s.modAgentBox k f).ports = s.ports ∧
    (s.modAgentBox k f).portBlocks = s.portBlocks ∧ (s.modAgentBox k f).synce = s.synce ∧ (s.modAgentBox k f).banks = s.banks ∧
    (s.modAgentBox k f).pipes = s.pipes ∧ (s.modAgentBox k f).flight = s.flight ∧ (s.modAgentBox k f).nextPkt = s.nextPkt ∧
    (s.modAgentBox k f).tempo = s.tempo ∧ (s.modAgentBox k f).tms = s.tms ∧ (s.modAgentBox k f).fabric = s.fabric ∧
    (s.modAgentBox k f).linkEnds = s.linkEnds ∧ (s.modAgentBox k f).nextMsg = s.nextMsg ∧ (s.modAgentBox k f).timeModel = s.timeModel ∧
    (s.modAgentBox k f).pps = s.pps ∧ (s.modAgentBox k f).times = s.times ∧ (s.modAgentBox k f).ciphers = s.ciphers ∧
    (s.modAgentBox k f).queues = s.queues ∧ (s.modAgentBox k f).channels = s.channels ∧ (s.modAgentBox k f).nvmes = s.nvmes ∧
    (s.modAgentBox k f).storages = s.storages ∧ (s.modAgentBox k f).partitions = s.partitions ∧ (s.modAgentBox k f).twins = s.twins ∧
    (s.modAgentBox k f).pods = s.pods ∧ (s.modAgentBox k f).threads = s.threads ∧ (s.modAgentBox k f).locks = s.locks ∧
    (s.modAgentBox k f).chans = s.chans ∧ (s.modAgentBox k f).seqs = s.seqs ∧ (s.modAgentBox k f).contexts = s.contexts ∧
    (s.modAgentBox k f).seqCounters = s.seqCounters ∧ (s.modAgentBox k f).patch = s.patch ∧ (s.modAgentBox k f).mem = s.mem ∧
    (s.modAgentBox k f).out = s.out ∧ (s.modAgentBox k f).freeCtr = s.freeCtr ∧ (s.modAgentBox k f).pending = s.pending ∧
    State.dieTemp (s.modAgentBox k f) = s.dieTemp ∧ State.dieHealth (s.modAgentBox k f) = s.dieHealth ∧ State.link (s.modAgentBox k f) = s.link ∧
    State.func (s.modAgentBox k f) = s.func ∧ State.fnBox (s.modAgentBox k f) = s.fnBox ∧ State.cmdq (s.modAgentBox k f) = s.cmdq ∧
    State.dramMark (s.modAgentBox k f) = s.dramMark ∧ State.sramBank (s.modAgentBox k f) = s.sramBank ∧ State.ledger (s.modAgentBox k f) = s.ledger ∧
    State.port (s.modAgentBox k f) = s.port ∧ State.portBlock (s.modAgentBox k f) = s.portBlock ∧ State.bankOf (s.modAgentBox k f) = s.bankOf ∧
    State.pipe (s.modAgentBox k f) = s.pipe ∧ State.tm (s.modAgentBox k f) = s.tm ∧ State.laneOf (s.modAgentBox k f) = s.laneOf ∧
    State.dieTime (s.modAgentBox k f) = s.dieTime ∧ State.cipherOf (s.modAgentBox k f) = s.cipherOf ∧ State.dmaCh (s.modAgentBox k f) = s.dmaCh ∧
    State.nvme (s.modAgentBox k f) = s.nvme ∧ State.storage (s.modAgentBox k f) = s.storage ∧ State.podOf (s.modAgentBox k f) = s.podOf ∧
    State.thread (s.modAgentBox k f) = s.thread ∧ State.lockOf (s.modAgentBox k f) = s.lockOf ∧ State.chanOf (s.modAgentBox k f) = s.chanOf ∧
    State.seqOf (s.modAgentBox k f) = s.seqOf ∧ State.context (s.modAgentBox k f) = s.context := by
  repeat (first | exact rfl | refine ⟨rfl, ?_⟩)

@[simp] theorem State.agentBox_modAgentBox (s : State) (k : Nat) (f : AgentMailbox → AgentMailbox) (n : Nat) :
    (s.modAgentBox k f).agentBox n = if n = k then f (s.agentBox k) else s.agentBox n := Tbl.look_put _ _ _ _ _

@[simp] theorem State.setCmdq_keeps (s : State) (k : Nat) (v : Cmdq) :
    (s.setCmdq k v).boot = s.boot ∧ (s.setCmdq k v).roles = s.roles ∧ (s.setCmdq k v).chain = s.chain ∧ (s.setCmdq k v).supply = s.supply ∧
    (s.setCmdq k v).temps = s.temps ∧ (s.setCmdq k v).health = s.health ∧ (s.setCmdq k v).links = s.links ∧ (s.setCmdq k v).funcs = s.funcs ∧
    (s.setCmdq k v).tags = s.tags ∧ (s.setCmdq k v).fnMbx = s.fnMbx ∧ (s.setCmdq k v).agentMbx = s.agentMbx ∧ (s.setCmdq k v).journal = s.journal ∧
    (s.setCmdq k v).protect = s.protect ∧ (s.setCmdq k v).errors = s.errors ∧ (s.setCmdq k v).dram = s.dram ∧ (s.setCmdq k v).sram = s.sram ∧
    (s.setCmdq k v).ledgers = s.ledgers ∧ (s.setCmdq k v).ports = s.ports ∧ (s.setCmdq k v).portBlocks = s.portBlocks ∧
    (s.setCmdq k v).synce = s.synce ∧ (s.setCmdq k v).banks = s.banks ∧ (s.setCmdq k v).pipes = s.pipes ∧ (s.setCmdq k v).flight = s.flight ∧
    (s.setCmdq k v).nextPkt = s.nextPkt ∧ (s.setCmdq k v).tempo = s.tempo ∧ (s.setCmdq k v).tms = s.tms ∧ (s.setCmdq k v).fabric = s.fabric ∧
    (s.setCmdq k v).linkEnds = s.linkEnds ∧ (s.setCmdq k v).nextMsg = s.nextMsg ∧ (s.setCmdq k v).timeModel = s.timeModel ∧
    (s.setCmdq k v).pps = s.pps ∧ (s.setCmdq k v).times = s.times ∧ (s.setCmdq k v).ciphers = s.ciphers ∧ (s.setCmdq k v).queues = s.queues ∧
    (s.setCmdq k v).channels = s.channels ∧ (s.setCmdq k v).nvmes = s.nvmes ∧ (s.setCmdq k v).storages = s.storages ∧
    (s.setCmdq k v).partitions = s.partitions ∧ (s.setCmdq k v).twins = s.twins ∧ (s.setCmdq k v).pods = s.pods ∧
    (s.setCmdq k v).threads = s.threads ∧ (s.setCmdq k v).locks = s.locks ∧ (s.setCmdq k v).chans = s.chans ∧ (s.setCmdq k v).seqs = s.seqs ∧
    (s.setCmdq k v).contexts = s.contexts ∧ (s.setCmdq k v).seqCounters = s.seqCounters ∧ (s.setCmdq k v).patch = s.patch ∧
    (s.setCmdq k v).mem = s.mem ∧ (s.setCmdq k v).out = s.out ∧ (s.setCmdq k v).freeCtr = s.freeCtr ∧ (s.setCmdq k v).pending = s.pending ∧
    State.dieTemp (s.setCmdq k v) = s.dieTemp ∧ State.dieHealth (s.setCmdq k v) = s.dieHealth ∧ State.link (s.setCmdq k v) = s.link ∧
    State.func (s.setCmdq k v) = s.func ∧ State.fnBox (s.setCmdq k v) = s.fnBox ∧ State.agentBox (s.setCmdq k v) = s.agentBox ∧
    State.dramMark (s.setCmdq k v) = s.dramMark ∧ State.sramBank (s.setCmdq k v) = s.sramBank ∧ State.ledger (s.setCmdq k v) = s.ledger ∧
    State.port (s.setCmdq k v) = s.port ∧ State.portBlock (s.setCmdq k v) = s.portBlock ∧ State.bankOf (s.setCmdq k v) = s.bankOf ∧
    State.pipe (s.setCmdq k v) = s.pipe ∧ State.tm (s.setCmdq k v) = s.tm ∧ State.laneOf (s.setCmdq k v) = s.laneOf ∧
    State.dieTime (s.setCmdq k v) = s.dieTime ∧ State.cipherOf (s.setCmdq k v) = s.cipherOf ∧ State.dmaCh (s.setCmdq k v) = s.dmaCh ∧
    State.nvme (s.setCmdq k v) = s.nvme ∧ State.storage (s.setCmdq k v) = s.storage ∧ State.podOf (s.setCmdq k v) = s.podOf ∧
    State.thread (s.setCmdq k v) = s.thread ∧ State.lockOf (s.setCmdq k v) = s.lockOf ∧ State.chanOf (s.setCmdq k v) = s.chanOf ∧
    State.seqOf (s.setCmdq k v) = s.seqOf ∧ State.context (s.setCmdq k v) = s.context := by
  repeat (first | exact rfl | refine ⟨rfl, ?_⟩)

@[simp] theorem State.cmdq_setCmdq (s : State) (k : Nat) (v : Cmdq) (n : Nat) :
    (s.setCmdq k v).cmdq n = if n = k then v else s.cmdq n := Tbl.look_put _ _ _ _ _

@[simp] theorem State.modCmdq_keeps (s : State) (k : Nat) (f : Cmdq → Cmdq) :
    (s.modCmdq k f).boot = s.boot ∧ (s.modCmdq k f).roles = s.roles ∧ (s.modCmdq k f).chain = s.chain ∧ (s.modCmdq k f).supply = s.supply ∧
    (s.modCmdq k f).temps = s.temps ∧ (s.modCmdq k f).health = s.health ∧ (s.modCmdq k f).links = s.links ∧ (s.modCmdq k f).funcs = s.funcs ∧
    (s.modCmdq k f).tags = s.tags ∧ (s.modCmdq k f).fnMbx = s.fnMbx ∧ (s.modCmdq k f).agentMbx = s.agentMbx ∧ (s.modCmdq k f).journal = s.journal ∧
    (s.modCmdq k f).protect = s.protect ∧ (s.modCmdq k f).errors = s.errors ∧ (s.modCmdq k f).dram = s.dram ∧ (s.modCmdq k f).sram = s.sram ∧
    (s.modCmdq k f).ledgers = s.ledgers ∧ (s.modCmdq k f).ports = s.ports ∧ (s.modCmdq k f).portBlocks = s.portBlocks ∧
    (s.modCmdq k f).synce = s.synce ∧ (s.modCmdq k f).banks = s.banks ∧ (s.modCmdq k f).pipes = s.pipes ∧ (s.modCmdq k f).flight = s.flight ∧
    (s.modCmdq k f).nextPkt = s.nextPkt ∧ (s.modCmdq k f).tempo = s.tempo ∧ (s.modCmdq k f).tms = s.tms ∧ (s.modCmdq k f).fabric = s.fabric ∧
    (s.modCmdq k f).linkEnds = s.linkEnds ∧ (s.modCmdq k f).nextMsg = s.nextMsg ∧ (s.modCmdq k f).timeModel = s.timeModel ∧
    (s.modCmdq k f).pps = s.pps ∧ (s.modCmdq k f).times = s.times ∧ (s.modCmdq k f).ciphers = s.ciphers ∧ (s.modCmdq k f).queues = s.queues ∧
    (s.modCmdq k f).channels = s.channels ∧ (s.modCmdq k f).nvmes = s.nvmes ∧ (s.modCmdq k f).storages = s.storages ∧
    (s.modCmdq k f).partitions = s.partitions ∧ (s.modCmdq k f).twins = s.twins ∧ (s.modCmdq k f).pods = s.pods ∧
    (s.modCmdq k f).threads = s.threads ∧ (s.modCmdq k f).locks = s.locks ∧ (s.modCmdq k f).chans = s.chans ∧ (s.modCmdq k f).seqs = s.seqs ∧
    (s.modCmdq k f).contexts = s.contexts ∧ (s.modCmdq k f).seqCounters = s.seqCounters ∧ (s.modCmdq k f).patch = s.patch ∧
    (s.modCmdq k f).mem = s.mem ∧ (s.modCmdq k f).out = s.out ∧ (s.modCmdq k f).freeCtr = s.freeCtr ∧ (s.modCmdq k f).pending = s.pending ∧
    State.dieTemp (s.modCmdq k f) = s.dieTemp ∧ State.dieHealth (s.modCmdq k f) = s.dieHealth ∧ State.link (s.modCmdq k f) = s.link ∧
    State.func (s.modCmdq k f) = s.func ∧ State.fnBox (s.modCmdq k f) = s.fnBox ∧ State.agentBox (s.modCmdq k f) = s.agentBox ∧
    State.dramMark (s.modCmdq k f) = s.dramMark ∧ State.sramBank (s.modCmdq k f) = s.sramBank ∧ State.ledger (s.modCmdq k f) = s.ledger ∧
    State.port (s.modCmdq k f) = s.port ∧ State.portBlock (s.modCmdq k f) = s.portBlock ∧ State.bankOf (s.modCmdq k f) = s.bankOf ∧
    State.pipe (s.modCmdq k f) = s.pipe ∧ State.tm (s.modCmdq k f) = s.tm ∧ State.laneOf (s.modCmdq k f) = s.laneOf ∧
    State.dieTime (s.modCmdq k f) = s.dieTime ∧ State.cipherOf (s.modCmdq k f) = s.cipherOf ∧ State.dmaCh (s.modCmdq k f) = s.dmaCh ∧
    State.nvme (s.modCmdq k f) = s.nvme ∧ State.storage (s.modCmdq k f) = s.storage ∧ State.podOf (s.modCmdq k f) = s.podOf ∧
    State.thread (s.modCmdq k f) = s.thread ∧ State.lockOf (s.modCmdq k f) = s.lockOf ∧ State.chanOf (s.modCmdq k f) = s.chanOf ∧
    State.seqOf (s.modCmdq k f) = s.seqOf ∧ State.context (s.modCmdq k f) = s.context := by
  repeat (first | exact rfl | refine ⟨rfl, ?_⟩)

@[simp] theorem State.cmdq_modCmdq (s : State) (k : Nat) (f : Cmdq → Cmdq) (n : Nat) :
    (s.modCmdq k f).cmdq n = if n = k then f (s.cmdq k) else s.cmdq n := Tbl.look_put _ _ _ _ _

@[simp] theorem State.setDramMark_keeps (s : State) (k : Nat) (v : DramMark) :
    (s.setDramMark k v).boot = s.boot ∧ (s.setDramMark k v).roles = s.roles ∧ (s.setDramMark k v).chain = s.chain ∧
    (s.setDramMark k v).supply = s.supply ∧ (s.setDramMark k v).temps = s.temps ∧ (s.setDramMark k v).health = s.health ∧
    (s.setDramMark k v).links = s.links ∧ (s.setDramMark k v).funcs = s.funcs ∧ (s.setDramMark k v).tags = s.tags ∧
    (s.setDramMark k v).fnMbx = s.fnMbx ∧ (s.setDramMark k v).agentMbx = s.agentMbx ∧ (s.setDramMark k v).cmdqs = s.cmdqs ∧
    (s.setDramMark k v).journal = s.journal ∧ (s.setDramMark k v).protect = s.protect ∧ (s.setDramMark k v).errors = s.errors ∧
    (s.setDramMark k v).sram = s.sram ∧ (s.setDramMark k v).ledgers = s.ledgers ∧ (s.setDramMark k v).ports = s.ports ∧
    (s.setDramMark k v).portBlocks = s.portBlocks ∧ (s.setDramMark k v).synce = s.synce ∧ (s.setDramMark k v).banks = s.banks ∧
    (s.setDramMark k v).pipes = s.pipes ∧ (s.setDramMark k v).flight = s.flight ∧ (s.setDramMark k v).nextPkt = s.nextPkt ∧
    (s.setDramMark k v).tempo = s.tempo ∧ (s.setDramMark k v).tms = s.tms ∧ (s.setDramMark k v).fabric = s.fabric ∧
    (s.setDramMark k v).linkEnds = s.linkEnds ∧ (s.setDramMark k v).nextMsg = s.nextMsg ∧ (s.setDramMark k v).timeModel = s.timeModel ∧
    (s.setDramMark k v).pps = s.pps ∧ (s.setDramMark k v).times = s.times ∧ (s.setDramMark k v).ciphers = s.ciphers ∧
    (s.setDramMark k v).queues = s.queues ∧ (s.setDramMark k v).channels = s.channels ∧ (s.setDramMark k v).nvmes = s.nvmes ∧
    (s.setDramMark k v).storages = s.storages ∧ (s.setDramMark k v).partitions = s.partitions ∧ (s.setDramMark k v).twins = s.twins ∧
    (s.setDramMark k v).pods = s.pods ∧ (s.setDramMark k v).threads = s.threads ∧ (s.setDramMark k v).locks = s.locks ∧
    (s.setDramMark k v).chans = s.chans ∧ (s.setDramMark k v).seqs = s.seqs ∧ (s.setDramMark k v).contexts = s.contexts ∧
    (s.setDramMark k v).seqCounters = s.seqCounters ∧ (s.setDramMark k v).patch = s.patch ∧ (s.setDramMark k v).mem = s.mem ∧
    (s.setDramMark k v).out = s.out ∧ (s.setDramMark k v).freeCtr = s.freeCtr ∧ (s.setDramMark k v).pending = s.pending ∧
    State.dieTemp (s.setDramMark k v) = s.dieTemp ∧ State.dieHealth (s.setDramMark k v) = s.dieHealth ∧ State.link (s.setDramMark k v) = s.link ∧
    State.func (s.setDramMark k v) = s.func ∧ State.fnBox (s.setDramMark k v) = s.fnBox ∧ State.agentBox (s.setDramMark k v) = s.agentBox ∧
    State.cmdq (s.setDramMark k v) = s.cmdq ∧ State.sramBank (s.setDramMark k v) = s.sramBank ∧ State.ledger (s.setDramMark k v) = s.ledger ∧
    State.port (s.setDramMark k v) = s.port ∧ State.portBlock (s.setDramMark k v) = s.portBlock ∧ State.bankOf (s.setDramMark k v) = s.bankOf ∧
    State.pipe (s.setDramMark k v) = s.pipe ∧ State.tm (s.setDramMark k v) = s.tm ∧ State.laneOf (s.setDramMark k v) = s.laneOf ∧
    State.dieTime (s.setDramMark k v) = s.dieTime ∧ State.cipherOf (s.setDramMark k v) = s.cipherOf ∧ State.dmaCh (s.setDramMark k v) = s.dmaCh ∧
    State.nvme (s.setDramMark k v) = s.nvme ∧ State.storage (s.setDramMark k v) = s.storage ∧ State.podOf (s.setDramMark k v) = s.podOf ∧
    State.thread (s.setDramMark k v) = s.thread ∧ State.lockOf (s.setDramMark k v) = s.lockOf ∧ State.chanOf (s.setDramMark k v) = s.chanOf ∧
    State.seqOf (s.setDramMark k v) = s.seqOf ∧ State.context (s.setDramMark k v) = s.context := by
  repeat (first | exact rfl | refine ⟨rfl, ?_⟩)

@[simp] theorem State.dramMark_setDramMark (s : State) (k : Nat) (v : DramMark) (n : Nat) :
    (s.setDramMark k v).dramMark n = if n = k then v else s.dramMark n := Tbl.look_put _ _ _ _ _

@[simp] theorem State.modDramMark_keeps (s : State) (k : Nat) (f : DramMark → DramMark) :
    (s.modDramMark k f).boot = s.boot ∧ (s.modDramMark k f).roles = s.roles ∧ (s.modDramMark k f).chain = s.chain ∧
    (s.modDramMark k f).supply = s.supply ∧ (s.modDramMark k f).temps = s.temps ∧ (s.modDramMark k f).health = s.health ∧
    (s.modDramMark k f).links = s.links ∧ (s.modDramMark k f).funcs = s.funcs ∧ (s.modDramMark k f).tags = s.tags ∧
    (s.modDramMark k f).fnMbx = s.fnMbx ∧ (s.modDramMark k f).agentMbx = s.agentMbx ∧ (s.modDramMark k f).cmdqs = s.cmdqs ∧
    (s.modDramMark k f).journal = s.journal ∧ (s.modDramMark k f).protect = s.protect ∧ (s.modDramMark k f).errors = s.errors ∧
    (s.modDramMark k f).sram = s.sram ∧ (s.modDramMark k f).ledgers = s.ledgers ∧ (s.modDramMark k f).ports = s.ports ∧
    (s.modDramMark k f).portBlocks = s.portBlocks ∧ (s.modDramMark k f).synce = s.synce ∧ (s.modDramMark k f).banks = s.banks ∧
    (s.modDramMark k f).pipes = s.pipes ∧ (s.modDramMark k f).flight = s.flight ∧ (s.modDramMark k f).nextPkt = s.nextPkt ∧
    (s.modDramMark k f).tempo = s.tempo ∧ (s.modDramMark k f).tms = s.tms ∧ (s.modDramMark k f).fabric = s.fabric ∧
    (s.modDramMark k f).linkEnds = s.linkEnds ∧ (s.modDramMark k f).nextMsg = s.nextMsg ∧ (s.modDramMark k f).timeModel = s.timeModel ∧
    (s.modDramMark k f).pps = s.pps ∧ (s.modDramMark k f).times = s.times ∧ (s.modDramMark k f).ciphers = s.ciphers ∧
    (s.modDramMark k f).queues = s.queues ∧ (s.modDramMark k f).channels = s.channels ∧ (s.modDramMark k f).nvmes = s.nvmes ∧
    (s.modDramMark k f).storages = s.storages ∧ (s.modDramMark k f).partitions = s.partitions ∧ (s.modDramMark k f).twins = s.twins ∧
    (s.modDramMark k f).pods = s.pods ∧ (s.modDramMark k f).threads = s.threads ∧ (s.modDramMark k f).locks = s.locks ∧
    (s.modDramMark k f).chans = s.chans ∧ (s.modDramMark k f).seqs = s.seqs ∧ (s.modDramMark k f).contexts = s.contexts ∧
    (s.modDramMark k f).seqCounters = s.seqCounters ∧ (s.modDramMark k f).patch = s.patch ∧ (s.modDramMark k f).mem = s.mem ∧
    (s.modDramMark k f).out = s.out ∧ (s.modDramMark k f).freeCtr = s.freeCtr ∧ (s.modDramMark k f).pending = s.pending ∧
    State.dieTemp (s.modDramMark k f) = s.dieTemp ∧ State.dieHealth (s.modDramMark k f) = s.dieHealth ∧ State.link (s.modDramMark k f) = s.link ∧
    State.func (s.modDramMark k f) = s.func ∧ State.fnBox (s.modDramMark k f) = s.fnBox ∧ State.agentBox (s.modDramMark k f) = s.agentBox ∧
    State.cmdq (s.modDramMark k f) = s.cmdq ∧ State.sramBank (s.modDramMark k f) = s.sramBank ∧ State.ledger (s.modDramMark k f) = s.ledger ∧
    State.port (s.modDramMark k f) = s.port ∧ State.portBlock (s.modDramMark k f) = s.portBlock ∧ State.bankOf (s.modDramMark k f) = s.bankOf ∧
    State.pipe (s.modDramMark k f) = s.pipe ∧ State.tm (s.modDramMark k f) = s.tm ∧ State.laneOf (s.modDramMark k f) = s.laneOf ∧
    State.dieTime (s.modDramMark k f) = s.dieTime ∧ State.cipherOf (s.modDramMark k f) = s.cipherOf ∧ State.dmaCh (s.modDramMark k f) = s.dmaCh ∧
    State.nvme (s.modDramMark k f) = s.nvme ∧ State.storage (s.modDramMark k f) = s.storage ∧ State.podOf (s.modDramMark k f) = s.podOf ∧
    State.thread (s.modDramMark k f) = s.thread ∧ State.lockOf (s.modDramMark k f) = s.lockOf ∧ State.chanOf (s.modDramMark k f) = s.chanOf ∧
    State.seqOf (s.modDramMark k f) = s.seqOf ∧ State.context (s.modDramMark k f) = s.context := by
  repeat (first | exact rfl | refine ⟨rfl, ?_⟩)

@[simp] theorem State.dramMark_modDramMark (s : State) (k : Nat) (f : DramMark → DramMark) (n : Nat) :
    (s.modDramMark k f).dramMark n = if n = k then f (s.dramMark k) else s.dramMark n := Tbl.look_put _ _ _ _ _

@[simp] theorem State.setSramBank_keeps (s : State) (k : Nat) (v : SramBank) :
    (s.setSramBank k v).boot = s.boot ∧ (s.setSramBank k v).roles = s.roles ∧ (s.setSramBank k v).chain = s.chain ∧
    (s.setSramBank k v).supply = s.supply ∧ (s.setSramBank k v).temps = s.temps ∧ (s.setSramBank k v).health = s.health ∧
    (s.setSramBank k v).links = s.links ∧ (s.setSramBank k v).funcs = s.funcs ∧ (s.setSramBank k v).tags = s.tags ∧
    (s.setSramBank k v).fnMbx = s.fnMbx ∧ (s.setSramBank k v).agentMbx = s.agentMbx ∧ (s.setSramBank k v).cmdqs = s.cmdqs ∧
    (s.setSramBank k v).journal = s.journal ∧ (s.setSramBank k v).protect = s.protect ∧ (s.setSramBank k v).errors = s.errors ∧
    (s.setSramBank k v).dram = s.dram ∧ (s.setSramBank k v).ledgers = s.ledgers ∧ (s.setSramBank k v).ports = s.ports ∧
    (s.setSramBank k v).portBlocks = s.portBlocks ∧ (s.setSramBank k v).synce = s.synce ∧ (s.setSramBank k v).banks = s.banks ∧
    (s.setSramBank k v).pipes = s.pipes ∧ (s.setSramBank k v).flight = s.flight ∧ (s.setSramBank k v).nextPkt = s.nextPkt ∧
    (s.setSramBank k v).tempo = s.tempo ∧ (s.setSramBank k v).tms = s.tms ∧ (s.setSramBank k v).fabric = s.fabric ∧
    (s.setSramBank k v).linkEnds = s.linkEnds ∧ (s.setSramBank k v).nextMsg = s.nextMsg ∧ (s.setSramBank k v).timeModel = s.timeModel ∧
    (s.setSramBank k v).pps = s.pps ∧ (s.setSramBank k v).times = s.times ∧ (s.setSramBank k v).ciphers = s.ciphers ∧
    (s.setSramBank k v).queues = s.queues ∧ (s.setSramBank k v).channels = s.channels ∧ (s.setSramBank k v).nvmes = s.nvmes ∧
    (s.setSramBank k v).storages = s.storages ∧ (s.setSramBank k v).partitions = s.partitions ∧ (s.setSramBank k v).twins = s.twins ∧
    (s.setSramBank k v).pods = s.pods ∧ (s.setSramBank k v).threads = s.threads ∧ (s.setSramBank k v).locks = s.locks ∧
    (s.setSramBank k v).chans = s.chans ∧ (s.setSramBank k v).seqs = s.seqs ∧ (s.setSramBank k v).contexts = s.contexts ∧
    (s.setSramBank k v).seqCounters = s.seqCounters ∧ (s.setSramBank k v).patch = s.patch ∧ (s.setSramBank k v).mem = s.mem ∧
    (s.setSramBank k v).out = s.out ∧ (s.setSramBank k v).freeCtr = s.freeCtr ∧ (s.setSramBank k v).pending = s.pending ∧
    State.dieTemp (s.setSramBank k v) = s.dieTemp ∧ State.dieHealth (s.setSramBank k v) = s.dieHealth ∧ State.link (s.setSramBank k v) = s.link ∧
    State.func (s.setSramBank k v) = s.func ∧ State.fnBox (s.setSramBank k v) = s.fnBox ∧ State.agentBox (s.setSramBank k v) = s.agentBox ∧
    State.cmdq (s.setSramBank k v) = s.cmdq ∧ State.dramMark (s.setSramBank k v) = s.dramMark ∧ State.ledger (s.setSramBank k v) = s.ledger ∧
    State.port (s.setSramBank k v) = s.port ∧ State.portBlock (s.setSramBank k v) = s.portBlock ∧ State.bankOf (s.setSramBank k v) = s.bankOf ∧
    State.pipe (s.setSramBank k v) = s.pipe ∧ State.tm (s.setSramBank k v) = s.tm ∧ State.laneOf (s.setSramBank k v) = s.laneOf ∧
    State.dieTime (s.setSramBank k v) = s.dieTime ∧ State.cipherOf (s.setSramBank k v) = s.cipherOf ∧ State.dmaCh (s.setSramBank k v) = s.dmaCh ∧
    State.nvme (s.setSramBank k v) = s.nvme ∧ State.storage (s.setSramBank k v) = s.storage ∧ State.podOf (s.setSramBank k v) = s.podOf ∧
    State.thread (s.setSramBank k v) = s.thread ∧ State.lockOf (s.setSramBank k v) = s.lockOf ∧ State.chanOf (s.setSramBank k v) = s.chanOf ∧
    State.seqOf (s.setSramBank k v) = s.seqOf ∧ State.context (s.setSramBank k v) = s.context := by
  repeat (first | exact rfl | refine ⟨rfl, ?_⟩)

@[simp] theorem State.sramBank_setSramBank (s : State) (k : Nat) (v : SramBank) (n : Nat) :
    (s.setSramBank k v).sramBank n = if n = k then v else s.sramBank n := Tbl.look_put _ _ _ _ _

@[simp] theorem State.modSramBank_keeps (s : State) (k : Nat) (f : SramBank → SramBank) :
    (s.modSramBank k f).boot = s.boot ∧ (s.modSramBank k f).roles = s.roles ∧ (s.modSramBank k f).chain = s.chain ∧
    (s.modSramBank k f).supply = s.supply ∧ (s.modSramBank k f).temps = s.temps ∧ (s.modSramBank k f).health = s.health ∧
    (s.modSramBank k f).links = s.links ∧ (s.modSramBank k f).funcs = s.funcs ∧ (s.modSramBank k f).tags = s.tags ∧
    (s.modSramBank k f).fnMbx = s.fnMbx ∧ (s.modSramBank k f).agentMbx = s.agentMbx ∧ (s.modSramBank k f).cmdqs = s.cmdqs ∧
    (s.modSramBank k f).journal = s.journal ∧ (s.modSramBank k f).protect = s.protect ∧ (s.modSramBank k f).errors = s.errors ∧
    (s.modSramBank k f).dram = s.dram ∧ (s.modSramBank k f).ledgers = s.ledgers ∧ (s.modSramBank k f).ports = s.ports ∧
    (s.modSramBank k f).portBlocks = s.portBlocks ∧ (s.modSramBank k f).synce = s.synce ∧ (s.modSramBank k f).banks = s.banks ∧
    (s.modSramBank k f).pipes = s.pipes ∧ (s.modSramBank k f).flight = s.flight ∧ (s.modSramBank k f).nextPkt = s.nextPkt ∧
    (s.modSramBank k f).tempo = s.tempo ∧ (s.modSramBank k f).tms = s.tms ∧ (s.modSramBank k f).fabric = s.fabric ∧
    (s.modSramBank k f).linkEnds = s.linkEnds ∧ (s.modSramBank k f).nextMsg = s.nextMsg ∧ (s.modSramBank k f).timeModel = s.timeModel ∧
    (s.modSramBank k f).pps = s.pps ∧ (s.modSramBank k f).times = s.times ∧ (s.modSramBank k f).ciphers = s.ciphers ∧
    (s.modSramBank k f).queues = s.queues ∧ (s.modSramBank k f).channels = s.channels ∧ (s.modSramBank k f).nvmes = s.nvmes ∧
    (s.modSramBank k f).storages = s.storages ∧ (s.modSramBank k f).partitions = s.partitions ∧ (s.modSramBank k f).twins = s.twins ∧
    (s.modSramBank k f).pods = s.pods ∧ (s.modSramBank k f).threads = s.threads ∧ (s.modSramBank k f).locks = s.locks ∧
    (s.modSramBank k f).chans = s.chans ∧ (s.modSramBank k f).seqs = s.seqs ∧ (s.modSramBank k f).contexts = s.contexts ∧
    (s.modSramBank k f).seqCounters = s.seqCounters ∧ (s.modSramBank k f).patch = s.patch ∧ (s.modSramBank k f).mem = s.mem ∧
    (s.modSramBank k f).out = s.out ∧ (s.modSramBank k f).freeCtr = s.freeCtr ∧ (s.modSramBank k f).pending = s.pending ∧
    State.dieTemp (s.modSramBank k f) = s.dieTemp ∧ State.dieHealth (s.modSramBank k f) = s.dieHealth ∧ State.link (s.modSramBank k f) = s.link ∧
    State.func (s.modSramBank k f) = s.func ∧ State.fnBox (s.modSramBank k f) = s.fnBox ∧ State.agentBox (s.modSramBank k f) = s.agentBox ∧
    State.cmdq (s.modSramBank k f) = s.cmdq ∧ State.dramMark (s.modSramBank k f) = s.dramMark ∧ State.ledger (s.modSramBank k f) = s.ledger ∧
    State.port (s.modSramBank k f) = s.port ∧ State.portBlock (s.modSramBank k f) = s.portBlock ∧ State.bankOf (s.modSramBank k f) = s.bankOf ∧
    State.pipe (s.modSramBank k f) = s.pipe ∧ State.tm (s.modSramBank k f) = s.tm ∧ State.laneOf (s.modSramBank k f) = s.laneOf ∧
    State.dieTime (s.modSramBank k f) = s.dieTime ∧ State.cipherOf (s.modSramBank k f) = s.cipherOf ∧ State.dmaCh (s.modSramBank k f) = s.dmaCh ∧
    State.nvme (s.modSramBank k f) = s.nvme ∧ State.storage (s.modSramBank k f) = s.storage ∧ State.podOf (s.modSramBank k f) = s.podOf ∧
    State.thread (s.modSramBank k f) = s.thread ∧ State.lockOf (s.modSramBank k f) = s.lockOf ∧ State.chanOf (s.modSramBank k f) = s.chanOf ∧
    State.seqOf (s.modSramBank k f) = s.seqOf ∧ State.context (s.modSramBank k f) = s.context := by
  repeat (first | exact rfl | refine ⟨rfl, ?_⟩)

@[simp] theorem State.sramBank_modSramBank (s : State) (k : Nat) (f : SramBank → SramBank) (n : Nat) :
    (s.modSramBank k f).sramBank n = if n = k then f (s.sramBank k) else s.sramBank n := Tbl.look_put _ _ _ _ _

@[simp] theorem State.setLedger_keeps (s : State) (k : Nat) (v : LedgerBook) :
    (s.setLedger k v).boot = s.boot ∧ (s.setLedger k v).roles = s.roles ∧ (s.setLedger k v).chain = s.chain ∧ (s.setLedger k v).supply = s.supply ∧
    (s.setLedger k v).temps = s.temps ∧ (s.setLedger k v).health = s.health ∧ (s.setLedger k v).links = s.links ∧ (s.setLedger k v).funcs = s.funcs ∧
    (s.setLedger k v).tags = s.tags ∧ (s.setLedger k v).fnMbx = s.fnMbx ∧ (s.setLedger k v).agentMbx = s.agentMbx ∧
    (s.setLedger k v).cmdqs = s.cmdqs ∧ (s.setLedger k v).journal = s.journal ∧ (s.setLedger k v).protect = s.protect ∧
    (s.setLedger k v).errors = s.errors ∧ (s.setLedger k v).dram = s.dram ∧ (s.setLedger k v).sram = s.sram ∧ (s.setLedger k v).ports = s.ports ∧
    (s.setLedger k v).portBlocks = s.portBlocks ∧ (s.setLedger k v).synce = s.synce ∧ (s.setLedger k v).banks = s.banks ∧
    (s.setLedger k v).pipes = s.pipes ∧ (s.setLedger k v).flight = s.flight ∧ (s.setLedger k v).nextPkt = s.nextPkt ∧
    (s.setLedger k v).tempo = s.tempo ∧ (s.setLedger k v).tms = s.tms ∧ (s.setLedger k v).fabric = s.fabric ∧
    (s.setLedger k v).linkEnds = s.linkEnds ∧ (s.setLedger k v).nextMsg = s.nextMsg ∧ (s.setLedger k v).timeModel = s.timeModel ∧
    (s.setLedger k v).pps = s.pps ∧ (s.setLedger k v).times = s.times ∧ (s.setLedger k v).ciphers = s.ciphers ∧ (s.setLedger k v).queues = s.queues ∧
    (s.setLedger k v).channels = s.channels ∧ (s.setLedger k v).nvmes = s.nvmes ∧ (s.setLedger k v).storages = s.storages ∧
    (s.setLedger k v).partitions = s.partitions ∧ (s.setLedger k v).twins = s.twins ∧ (s.setLedger k v).pods = s.pods ∧
    (s.setLedger k v).threads = s.threads ∧ (s.setLedger k v).locks = s.locks ∧ (s.setLedger k v).chans = s.chans ∧ (s.setLedger k v).seqs = s.seqs ∧
    (s.setLedger k v).contexts = s.contexts ∧ (s.setLedger k v).seqCounters = s.seqCounters ∧ (s.setLedger k v).patch = s.patch ∧
    (s.setLedger k v).mem = s.mem ∧ (s.setLedger k v).out = s.out ∧ (s.setLedger k v).freeCtr = s.freeCtr ∧ (s.setLedger k v).pending = s.pending ∧
    State.dieTemp (s.setLedger k v) = s.dieTemp ∧ State.dieHealth (s.setLedger k v) = s.dieHealth ∧ State.link (s.setLedger k v) = s.link ∧
    State.func (s.setLedger k v) = s.func ∧ State.fnBox (s.setLedger k v) = s.fnBox ∧ State.agentBox (s.setLedger k v) = s.agentBox ∧
    State.cmdq (s.setLedger k v) = s.cmdq ∧ State.dramMark (s.setLedger k v) = s.dramMark ∧ State.sramBank (s.setLedger k v) = s.sramBank ∧
    State.port (s.setLedger k v) = s.port ∧ State.portBlock (s.setLedger k v) = s.portBlock ∧ State.bankOf (s.setLedger k v) = s.bankOf ∧
    State.pipe (s.setLedger k v) = s.pipe ∧ State.tm (s.setLedger k v) = s.tm ∧ State.laneOf (s.setLedger k v) = s.laneOf ∧
    State.dieTime (s.setLedger k v) = s.dieTime ∧ State.cipherOf (s.setLedger k v) = s.cipherOf ∧ State.dmaCh (s.setLedger k v) = s.dmaCh ∧
    State.nvme (s.setLedger k v) = s.nvme ∧ State.storage (s.setLedger k v) = s.storage ∧ State.podOf (s.setLedger k v) = s.podOf ∧
    State.thread (s.setLedger k v) = s.thread ∧ State.lockOf (s.setLedger k v) = s.lockOf ∧ State.chanOf (s.setLedger k v) = s.chanOf ∧
    State.seqOf (s.setLedger k v) = s.seqOf ∧ State.context (s.setLedger k v) = s.context := by
  repeat (first | exact rfl | refine ⟨rfl, ?_⟩)

@[simp] theorem State.ledger_setLedger (s : State) (k : Nat) (v : LedgerBook) (n : Nat) :
    (s.setLedger k v).ledger n = if n = k then v else s.ledger n := Tbl.look_put _ _ _ _ _

@[simp] theorem State.modLedger_keeps (s : State) (k : Nat) (f : LedgerBook → LedgerBook) :
    (s.modLedger k f).boot = s.boot ∧ (s.modLedger k f).roles = s.roles ∧ (s.modLedger k f).chain = s.chain ∧ (s.modLedger k f).supply = s.supply ∧
    (s.modLedger k f).temps = s.temps ∧ (s.modLedger k f).health = s.health ∧ (s.modLedger k f).links = s.links ∧ (s.modLedger k f).funcs = s.funcs ∧
    (s.modLedger k f).tags = s.tags ∧ (s.modLedger k f).fnMbx = s.fnMbx ∧ (s.modLedger k f).agentMbx = s.agentMbx ∧
    (s.modLedger k f).cmdqs = s.cmdqs ∧ (s.modLedger k f).journal = s.journal ∧ (s.modLedger k f).protect = s.protect ∧
    (s.modLedger k f).errors = s.errors ∧ (s.modLedger k f).dram = s.dram ∧ (s.modLedger k f).sram = s.sram ∧ (s.modLedger k f).ports = s.ports ∧
    (s.modLedger k f).portBlocks = s.portBlocks ∧ (s.modLedger k f).synce = s.synce ∧ (s.modLedger k f).banks = s.banks ∧
    (s.modLedger k f).pipes = s.pipes ∧ (s.modLedger k f).flight = s.flight ∧ (s.modLedger k f).nextPkt = s.nextPkt ∧
    (s.modLedger k f).tempo = s.tempo ∧ (s.modLedger k f).tms = s.tms ∧ (s.modLedger k f).fabric = s.fabric ∧
    (s.modLedger k f).linkEnds = s.linkEnds ∧ (s.modLedger k f).nextMsg = s.nextMsg ∧ (s.modLedger k f).timeModel = s.timeModel ∧
    (s.modLedger k f).pps = s.pps ∧ (s.modLedger k f).times = s.times ∧ (s.modLedger k f).ciphers = s.ciphers ∧ (s.modLedger k f).queues = s.queues ∧
    (s.modLedger k f).channels = s.channels ∧ (s.modLedger k f).nvmes = s.nvmes ∧ (s.modLedger k f).storages = s.storages ∧
    (s.modLedger k f).partitions = s.partitions ∧ (s.modLedger k f).twins = s.twins ∧ (s.modLedger k f).pods = s.pods ∧
    (s.modLedger k f).threads = s.threads ∧ (s.modLedger k f).locks = s.locks ∧ (s.modLedger k f).chans = s.chans ∧ (s.modLedger k f).seqs = s.seqs ∧
    (s.modLedger k f).contexts = s.contexts ∧ (s.modLedger k f).seqCounters = s.seqCounters ∧ (s.modLedger k f).patch = s.patch ∧
    (s.modLedger k f).mem = s.mem ∧ (s.modLedger k f).out = s.out ∧ (s.modLedger k f).freeCtr = s.freeCtr ∧ (s.modLedger k f).pending = s.pending ∧
    State.dieTemp (s.modLedger k f) = s.dieTemp ∧ State.dieHealth (s.modLedger k f) = s.dieHealth ∧ State.link (s.modLedger k f) = s.link ∧
    State.func (s.modLedger k f) = s.func ∧ State.fnBox (s.modLedger k f) = s.fnBox ∧ State.agentBox (s.modLedger k f) = s.agentBox ∧
    State.cmdq (s.modLedger k f) = s.cmdq ∧ State.dramMark (s.modLedger k f) = s.dramMark ∧ State.sramBank (s.modLedger k f) = s.sramBank ∧
    State.port (s.modLedger k f) = s.port ∧ State.portBlock (s.modLedger k f) = s.portBlock ∧ State.bankOf (s.modLedger k f) = s.bankOf ∧
    State.pipe (s.modLedger k f) = s.pipe ∧ State.tm (s.modLedger k f) = s.tm ∧ State.laneOf (s.modLedger k f) = s.laneOf ∧
    State.dieTime (s.modLedger k f) = s.dieTime ∧ State.cipherOf (s.modLedger k f) = s.cipherOf ∧ State.dmaCh (s.modLedger k f) = s.dmaCh ∧
    State.nvme (s.modLedger k f) = s.nvme ∧ State.storage (s.modLedger k f) = s.storage ∧ State.podOf (s.modLedger k f) = s.podOf ∧
    State.thread (s.modLedger k f) = s.thread ∧ State.lockOf (s.modLedger k f) = s.lockOf ∧ State.chanOf (s.modLedger k f) = s.chanOf ∧
    State.seqOf (s.modLedger k f) = s.seqOf ∧ State.context (s.modLedger k f) = s.context := by
  repeat (first | exact rfl | refine ⟨rfl, ?_⟩)

@[simp] theorem State.ledger_modLedger (s : State) (k : Nat) (f : LedgerBook → LedgerBook) (n : Nat) :
    (s.modLedger k f).ledger n = if n = k then f (s.ledger k) else s.ledger n := Tbl.look_put _ _ _ _ _

@[simp] theorem State.setPort_keeps (s : State) (k : Nat) (v : Port) :
    (s.setPort k v).boot = s.boot ∧ (s.setPort k v).roles = s.roles ∧ (s.setPort k v).chain = s.chain ∧ (s.setPort k v).supply = s.supply ∧
    (s.setPort k v).temps = s.temps ∧ (s.setPort k v).health = s.health ∧ (s.setPort k v).links = s.links ∧ (s.setPort k v).funcs = s.funcs ∧
    (s.setPort k v).tags = s.tags ∧ (s.setPort k v).fnMbx = s.fnMbx ∧ (s.setPort k v).agentMbx = s.agentMbx ∧ (s.setPort k v).cmdqs = s.cmdqs ∧
    (s.setPort k v).journal = s.journal ∧ (s.setPort k v).protect = s.protect ∧ (s.setPort k v).errors = s.errors ∧ (s.setPort k v).dram = s.dram ∧
    (s.setPort k v).sram = s.sram ∧ (s.setPort k v).ledgers = s.ledgers ∧ (s.setPort k v).portBlocks = s.portBlocks ∧
    (s.setPort k v).synce = s.synce ∧ (s.setPort k v).banks = s.banks ∧ (s.setPort k v).pipes = s.pipes ∧ (s.setPort k v).flight = s.flight ∧
    (s.setPort k v).nextPkt = s.nextPkt ∧ (s.setPort k v).tempo = s.tempo ∧ (s.setPort k v).tms = s.tms ∧ (s.setPort k v).fabric = s.fabric ∧
    (s.setPort k v).linkEnds = s.linkEnds ∧ (s.setPort k v).nextMsg = s.nextMsg ∧ (s.setPort k v).timeModel = s.timeModel ∧
    (s.setPort k v).pps = s.pps ∧ (s.setPort k v).times = s.times ∧ (s.setPort k v).ciphers = s.ciphers ∧ (s.setPort k v).queues = s.queues ∧
    (s.setPort k v).channels = s.channels ∧ (s.setPort k v).nvmes = s.nvmes ∧ (s.setPort k v).storages = s.storages ∧
    (s.setPort k v).partitions = s.partitions ∧ (s.setPort k v).twins = s.twins ∧ (s.setPort k v).pods = s.pods ∧
    (s.setPort k v).threads = s.threads ∧ (s.setPort k v).locks = s.locks ∧ (s.setPort k v).chans = s.chans ∧ (s.setPort k v).seqs = s.seqs ∧
    (s.setPort k v).contexts = s.contexts ∧ (s.setPort k v).seqCounters = s.seqCounters ∧ (s.setPort k v).patch = s.patch ∧
    (s.setPort k v).mem = s.mem ∧ (s.setPort k v).out = s.out ∧ (s.setPort k v).freeCtr = s.freeCtr ∧ (s.setPort k v).pending = s.pending ∧
    State.dieTemp (s.setPort k v) = s.dieTemp ∧ State.dieHealth (s.setPort k v) = s.dieHealth ∧ State.link (s.setPort k v) = s.link ∧
    State.func (s.setPort k v) = s.func ∧ State.fnBox (s.setPort k v) = s.fnBox ∧ State.agentBox (s.setPort k v) = s.agentBox ∧
    State.cmdq (s.setPort k v) = s.cmdq ∧ State.dramMark (s.setPort k v) = s.dramMark ∧ State.sramBank (s.setPort k v) = s.sramBank ∧
    State.ledger (s.setPort k v) = s.ledger ∧ State.portBlock (s.setPort k v) = s.portBlock ∧ State.bankOf (s.setPort k v) = s.bankOf ∧
    State.pipe (s.setPort k v) = s.pipe ∧ State.tm (s.setPort k v) = s.tm ∧ State.laneOf (s.setPort k v) = s.laneOf ∧
    State.dieTime (s.setPort k v) = s.dieTime ∧ State.cipherOf (s.setPort k v) = s.cipherOf ∧ State.dmaCh (s.setPort k v) = s.dmaCh ∧
    State.nvme (s.setPort k v) = s.nvme ∧ State.storage (s.setPort k v) = s.storage ∧ State.podOf (s.setPort k v) = s.podOf ∧
    State.thread (s.setPort k v) = s.thread ∧ State.lockOf (s.setPort k v) = s.lockOf ∧ State.chanOf (s.setPort k v) = s.chanOf ∧
    State.seqOf (s.setPort k v) = s.seqOf ∧ State.context (s.setPort k v) = s.context := by
  repeat (first | exact rfl | refine ⟨rfl, ?_⟩)

@[simp] theorem State.port_setPort (s : State) (k : Nat) (v : Port) (n : Nat) :
    (s.setPort k v).port n = if n = k then v else s.port n := Tbl.look_put _ _ _ _ _

@[simp] theorem State.modPort_keeps (s : State) (k : Nat) (f : Port → Port) :
    (s.modPort k f).boot = s.boot ∧ (s.modPort k f).roles = s.roles ∧ (s.modPort k f).chain = s.chain ∧ (s.modPort k f).supply = s.supply ∧
    (s.modPort k f).temps = s.temps ∧ (s.modPort k f).health = s.health ∧ (s.modPort k f).links = s.links ∧ (s.modPort k f).funcs = s.funcs ∧
    (s.modPort k f).tags = s.tags ∧ (s.modPort k f).fnMbx = s.fnMbx ∧ (s.modPort k f).agentMbx = s.agentMbx ∧ (s.modPort k f).cmdqs = s.cmdqs ∧
    (s.modPort k f).journal = s.journal ∧ (s.modPort k f).protect = s.protect ∧ (s.modPort k f).errors = s.errors ∧ (s.modPort k f).dram = s.dram ∧
    (s.modPort k f).sram = s.sram ∧ (s.modPort k f).ledgers = s.ledgers ∧ (s.modPort k f).portBlocks = s.portBlocks ∧
    (s.modPort k f).synce = s.synce ∧ (s.modPort k f).banks = s.banks ∧ (s.modPort k f).pipes = s.pipes ∧ (s.modPort k f).flight = s.flight ∧
    (s.modPort k f).nextPkt = s.nextPkt ∧ (s.modPort k f).tempo = s.tempo ∧ (s.modPort k f).tms = s.tms ∧ (s.modPort k f).fabric = s.fabric ∧
    (s.modPort k f).linkEnds = s.linkEnds ∧ (s.modPort k f).nextMsg = s.nextMsg ∧ (s.modPort k f).timeModel = s.timeModel ∧
    (s.modPort k f).pps = s.pps ∧ (s.modPort k f).times = s.times ∧ (s.modPort k f).ciphers = s.ciphers ∧ (s.modPort k f).queues = s.queues ∧
    (s.modPort k f).channels = s.channels ∧ (s.modPort k f).nvmes = s.nvmes ∧ (s.modPort k f).storages = s.storages ∧
    (s.modPort k f).partitions = s.partitions ∧ (s.modPort k f).twins = s.twins ∧ (s.modPort k f).pods = s.pods ∧
    (s.modPort k f).threads = s.threads ∧ (s.modPort k f).locks = s.locks ∧ (s.modPort k f).chans = s.chans ∧ (s.modPort k f).seqs = s.seqs ∧
    (s.modPort k f).contexts = s.contexts ∧ (s.modPort k f).seqCounters = s.seqCounters ∧ (s.modPort k f).patch = s.patch ∧
    (s.modPort k f).mem = s.mem ∧ (s.modPort k f).out = s.out ∧ (s.modPort k f).freeCtr = s.freeCtr ∧ (s.modPort k f).pending = s.pending ∧
    State.dieTemp (s.modPort k f) = s.dieTemp ∧ State.dieHealth (s.modPort k f) = s.dieHealth ∧ State.link (s.modPort k f) = s.link ∧
    State.func (s.modPort k f) = s.func ∧ State.fnBox (s.modPort k f) = s.fnBox ∧ State.agentBox (s.modPort k f) = s.agentBox ∧
    State.cmdq (s.modPort k f) = s.cmdq ∧ State.dramMark (s.modPort k f) = s.dramMark ∧ State.sramBank (s.modPort k f) = s.sramBank ∧
    State.ledger (s.modPort k f) = s.ledger ∧ State.portBlock (s.modPort k f) = s.portBlock ∧ State.bankOf (s.modPort k f) = s.bankOf ∧
    State.pipe (s.modPort k f) = s.pipe ∧ State.tm (s.modPort k f) = s.tm ∧ State.laneOf (s.modPort k f) = s.laneOf ∧
    State.dieTime (s.modPort k f) = s.dieTime ∧ State.cipherOf (s.modPort k f) = s.cipherOf ∧ State.dmaCh (s.modPort k f) = s.dmaCh ∧
    State.nvme (s.modPort k f) = s.nvme ∧ State.storage (s.modPort k f) = s.storage ∧ State.podOf (s.modPort k f) = s.podOf ∧
    State.thread (s.modPort k f) = s.thread ∧ State.lockOf (s.modPort k f) = s.lockOf ∧ State.chanOf (s.modPort k f) = s.chanOf ∧
    State.seqOf (s.modPort k f) = s.seqOf ∧ State.context (s.modPort k f) = s.context := by
  repeat (first | exact rfl | refine ⟨rfl, ?_⟩)

@[simp] theorem State.port_modPort (s : State) (k : Nat) (f : Port → Port) (n : Nat) :
    (s.modPort k f).port n = if n = k then f (s.port k) else s.port n := Tbl.look_put _ _ _ _ _

@[simp] theorem State.setPortBlock_keeps (s : State) (k : Nat) (v : PortBlock) :
    (s.setPortBlock k v).boot = s.boot ∧ (s.setPortBlock k v).roles = s.roles ∧ (s.setPortBlock k v).chain = s.chain ∧
    (s.setPortBlock k v).supply = s.supply ∧ (s.setPortBlock k v).temps = s.temps ∧ (s.setPortBlock k v).health = s.health ∧
    (s.setPortBlock k v).links = s.links ∧ (s.setPortBlock k v).funcs = s.funcs ∧ (s.setPortBlock k v).tags = s.tags ∧
    (s.setPortBlock k v).fnMbx = s.fnMbx ∧ (s.setPortBlock k v).agentMbx = s.agentMbx ∧ (s.setPortBlock k v).cmdqs = s.cmdqs ∧
    (s.setPortBlock k v).journal = s.journal ∧ (s.setPortBlock k v).protect = s.protect ∧ (s.setPortBlock k v).errors = s.errors ∧
    (s.setPortBlock k v).dram = s.dram ∧ (s.setPortBlock k v).sram = s.sram ∧ (s.setPortBlock k v).ledgers = s.ledgers ∧
    (s.setPortBlock k v).ports = s.ports ∧ (s.setPortBlock k v).synce = s.synce ∧ (s.setPortBlock k v).banks = s.banks ∧
    (s.setPortBlock k v).pipes = s.pipes ∧ (s.setPortBlock k v).flight = s.flight ∧ (s.setPortBlock k v).nextPkt = s.nextPkt ∧
    (s.setPortBlock k v).tempo = s.tempo ∧ (s.setPortBlock k v).tms = s.tms ∧ (s.setPortBlock k v).fabric = s.fabric ∧
    (s.setPortBlock k v).linkEnds = s.linkEnds ∧ (s.setPortBlock k v).nextMsg = s.nextMsg ∧ (s.setPortBlock k v).timeModel = s.timeModel ∧
    (s.setPortBlock k v).pps = s.pps ∧ (s.setPortBlock k v).times = s.times ∧ (s.setPortBlock k v).ciphers = s.ciphers ∧
    (s.setPortBlock k v).queues = s.queues ∧ (s.setPortBlock k v).channels = s.channels ∧ (s.setPortBlock k v).nvmes = s.nvmes ∧
    (s.setPortBlock k v).storages = s.storages ∧ (s.setPortBlock k v).partitions = s.partitions ∧ (s.setPortBlock k v).twins = s.twins ∧
    (s.setPortBlock k v).pods = s.pods ∧ (s.setPortBlock k v).threads = s.threads ∧ (s.setPortBlock k v).locks = s.locks ∧
    (s.setPortBlock k v).chans = s.chans ∧ (s.setPortBlock k v).seqs = s.seqs ∧ (s.setPortBlock k v).contexts = s.contexts ∧
    (s.setPortBlock k v).seqCounters = s.seqCounters ∧ (s.setPortBlock k v).patch = s.patch ∧ (s.setPortBlock k v).mem = s.mem ∧
    (s.setPortBlock k v).out = s.out ∧ (s.setPortBlock k v).freeCtr = s.freeCtr ∧ (s.setPortBlock k v).pending = s.pending ∧
    State.dieTemp (s.setPortBlock k v) = s.dieTemp ∧ State.dieHealth (s.setPortBlock k v) = s.dieHealth ∧ State.link (s.setPortBlock k v) = s.link ∧
    State.func (s.setPortBlock k v) = s.func ∧ State.fnBox (s.setPortBlock k v) = s.fnBox ∧ State.agentBox (s.setPortBlock k v) = s.agentBox ∧
    State.cmdq (s.setPortBlock k v) = s.cmdq ∧ State.dramMark (s.setPortBlock k v) = s.dramMark ∧ State.sramBank (s.setPortBlock k v) = s.sramBank ∧
    State.ledger (s.setPortBlock k v) = s.ledger ∧ State.port (s.setPortBlock k v) = s.port ∧ State.bankOf (s.setPortBlock k v) = s.bankOf ∧
    State.pipe (s.setPortBlock k v) = s.pipe ∧ State.tm (s.setPortBlock k v) = s.tm ∧ State.laneOf (s.setPortBlock k v) = s.laneOf ∧
    State.dieTime (s.setPortBlock k v) = s.dieTime ∧ State.cipherOf (s.setPortBlock k v) = s.cipherOf ∧ State.dmaCh (s.setPortBlock k v) = s.dmaCh ∧
    State.nvme (s.setPortBlock k v) = s.nvme ∧ State.storage (s.setPortBlock k v) = s.storage ∧ State.podOf (s.setPortBlock k v) = s.podOf ∧
    State.thread (s.setPortBlock k v) = s.thread ∧ State.lockOf (s.setPortBlock k v) = s.lockOf ∧ State.chanOf (s.setPortBlock k v) = s.chanOf ∧
    State.seqOf (s.setPortBlock k v) = s.seqOf ∧ State.context (s.setPortBlock k v) = s.context := by
  repeat (first | exact rfl | refine ⟨rfl, ?_⟩)

@[simp] theorem State.portBlock_setPortBlock (s : State) (k : Nat) (v : PortBlock) (n : Nat) :
    (s.setPortBlock k v).portBlock n = if n = k then v else s.portBlock n := Tbl.look_put _ _ _ _ _

@[simp] theorem State.modPortBlock_keeps (s : State) (k : Nat) (f : PortBlock → PortBlock) :
    (s.modPortBlock k f).boot = s.boot ∧ (s.modPortBlock k f).roles = s.roles ∧ (s.modPortBlock k f).chain = s.chain ∧
    (s.modPortBlock k f).supply = s.supply ∧ (s.modPortBlock k f).temps = s.temps ∧ (s.modPortBlock k f).health = s.health ∧
    (s.modPortBlock k f).links = s.links ∧ (s.modPortBlock k f).funcs = s.funcs ∧ (s.modPortBlock k f).tags = s.tags ∧
    (s.modPortBlock k f).fnMbx = s.fnMbx ∧ (s.modPortBlock k f).agentMbx = s.agentMbx ∧ (s.modPortBlock k f).cmdqs = s.cmdqs ∧
    (s.modPortBlock k f).journal = s.journal ∧ (s.modPortBlock k f).protect = s.protect ∧ (s.modPortBlock k f).errors = s.errors ∧
    (s.modPortBlock k f).dram = s.dram ∧ (s.modPortBlock k f).sram = s.sram ∧ (s.modPortBlock k f).ledgers = s.ledgers ∧
    (s.modPortBlock k f).ports = s.ports ∧ (s.modPortBlock k f).synce = s.synce ∧ (s.modPortBlock k f).banks = s.banks ∧
    (s.modPortBlock k f).pipes = s.pipes ∧ (s.modPortBlock k f).flight = s.flight ∧ (s.modPortBlock k f).nextPkt = s.nextPkt ∧
    (s.modPortBlock k f).tempo = s.tempo ∧ (s.modPortBlock k f).tms = s.tms ∧ (s.modPortBlock k f).fabric = s.fabric ∧
    (s.modPortBlock k f).linkEnds = s.linkEnds ∧ (s.modPortBlock k f).nextMsg = s.nextMsg ∧ (s.modPortBlock k f).timeModel = s.timeModel ∧
    (s.modPortBlock k f).pps = s.pps ∧ (s.modPortBlock k f).times = s.times ∧ (s.modPortBlock k f).ciphers = s.ciphers ∧
    (s.modPortBlock k f).queues = s.queues ∧ (s.modPortBlock k f).channels = s.channels ∧ (s.modPortBlock k f).nvmes = s.nvmes ∧
    (s.modPortBlock k f).storages = s.storages ∧ (s.modPortBlock k f).partitions = s.partitions ∧ (s.modPortBlock k f).twins = s.twins ∧
    (s.modPortBlock k f).pods = s.pods ∧ (s.modPortBlock k f).threads = s.threads ∧ (s.modPortBlock k f).locks = s.locks ∧
    (s.modPortBlock k f).chans = s.chans ∧ (s.modPortBlock k f).seqs = s.seqs ∧ (s.modPortBlock k f).contexts = s.contexts ∧
    (s.modPortBlock k f).seqCounters = s.seqCounters ∧ (s.modPortBlock k f).patch = s.patch ∧ (s.modPortBlock k f).mem = s.mem ∧
    (s.modPortBlock k f).out = s.out ∧ (s.modPortBlock k f).freeCtr = s.freeCtr ∧ (s.modPortBlock k f).pending = s.pending ∧
    State.dieTemp (s.modPortBlock k f) = s.dieTemp ∧ State.dieHealth (s.modPortBlock k f) = s.dieHealth ∧ State.link (s.modPortBlock k f) = s.link ∧
    State.func (s.modPortBlock k f) = s.func ∧ State.fnBox (s.modPortBlock k f) = s.fnBox ∧ State.agentBox (s.modPortBlock k f) = s.agentBox ∧
    State.cmdq (s.modPortBlock k f) = s.cmdq ∧ State.dramMark (s.modPortBlock k f) = s.dramMark ∧ State.sramBank (s.modPortBlock k f) = s.sramBank ∧
    State.ledger (s.modPortBlock k f) = s.ledger ∧ State.port (s.modPortBlock k f) = s.port ∧ State.bankOf (s.modPortBlock k f) = s.bankOf ∧
    State.pipe (s.modPortBlock k f) = s.pipe ∧ State.tm (s.modPortBlock k f) = s.tm ∧ State.laneOf (s.modPortBlock k f) = s.laneOf ∧
    State.dieTime (s.modPortBlock k f) = s.dieTime ∧ State.cipherOf (s.modPortBlock k f) = s.cipherOf ∧ State.dmaCh (s.modPortBlock k f) = s.dmaCh ∧
    State.nvme (s.modPortBlock k f) = s.nvme ∧ State.storage (s.modPortBlock k f) = s.storage ∧ State.podOf (s.modPortBlock k f) = s.podOf ∧
    State.thread (s.modPortBlock k f) = s.thread ∧ State.lockOf (s.modPortBlock k f) = s.lockOf ∧ State.chanOf (s.modPortBlock k f) = s.chanOf ∧
    State.seqOf (s.modPortBlock k f) = s.seqOf ∧ State.context (s.modPortBlock k f) = s.context := by
  repeat (first | exact rfl | refine ⟨rfl, ?_⟩)

@[simp] theorem State.portBlock_modPortBlock (s : State) (k : Nat) (f : PortBlock → PortBlock) (n : Nat) :
    (s.modPortBlock k f).portBlock n = if n = k then f (s.portBlock k) else s.portBlock n := Tbl.look_put _ _ _ _ _

@[simp] theorem State.setBankOf_keeps (s : State) (k : Nat) (v : Bank) :
    (s.setBankOf k v).boot = s.boot ∧ (s.setBankOf k v).roles = s.roles ∧ (s.setBankOf k v).chain = s.chain ∧ (s.setBankOf k v).supply = s.supply ∧
    (s.setBankOf k v).temps = s.temps ∧ (s.setBankOf k v).health = s.health ∧ (s.setBankOf k v).links = s.links ∧ (s.setBankOf k v).funcs = s.funcs ∧
    (s.setBankOf k v).tags = s.tags ∧ (s.setBankOf k v).fnMbx = s.fnMbx ∧ (s.setBankOf k v).agentMbx = s.agentMbx ∧
    (s.setBankOf k v).cmdqs = s.cmdqs ∧ (s.setBankOf k v).journal = s.journal ∧ (s.setBankOf k v).protect = s.protect ∧
    (s.setBankOf k v).errors = s.errors ∧ (s.setBankOf k v).dram = s.dram ∧ (s.setBankOf k v).sram = s.sram ∧ (s.setBankOf k v).ledgers = s.ledgers ∧
    (s.setBankOf k v).ports = s.ports ∧ (s.setBankOf k v).portBlocks = s.portBlocks ∧ (s.setBankOf k v).synce = s.synce ∧
    (s.setBankOf k v).pipes = s.pipes ∧ (s.setBankOf k v).flight = s.flight ∧ (s.setBankOf k v).nextPkt = s.nextPkt ∧
    (s.setBankOf k v).tempo = s.tempo ∧ (s.setBankOf k v).tms = s.tms ∧ (s.setBankOf k v).fabric = s.fabric ∧
    (s.setBankOf k v).linkEnds = s.linkEnds ∧ (s.setBankOf k v).nextMsg = s.nextMsg ∧ (s.setBankOf k v).timeModel = s.timeModel ∧
    (s.setBankOf k v).pps = s.pps ∧ (s.setBankOf k v).times = s.times ∧ (s.setBankOf k v).ciphers = s.ciphers ∧ (s.setBankOf k v).queues = s.queues ∧
    (s.setBankOf k v).channels = s.channels ∧ (s.setBankOf k v).nvmes = s.nvmes ∧ (s.setBankOf k v).storages = s.storages ∧
    (s.setBankOf k v).partitions = s.partitions ∧ (s.setBankOf k v).twins = s.twins ∧ (s.setBankOf k v).pods = s.pods ∧
    (s.setBankOf k v).threads = s.threads ∧ (s.setBankOf k v).locks = s.locks ∧ (s.setBankOf k v).chans = s.chans ∧ (s.setBankOf k v).seqs = s.seqs ∧
    (s.setBankOf k v).contexts = s.contexts ∧ (s.setBankOf k v).seqCounters = s.seqCounters ∧ (s.setBankOf k v).patch = s.patch ∧
    (s.setBankOf k v).mem = s.mem ∧ (s.setBankOf k v).out = s.out ∧ (s.setBankOf k v).freeCtr = s.freeCtr ∧ (s.setBankOf k v).pending = s.pending ∧
    State.dieTemp (s.setBankOf k v) = s.dieTemp ∧ State.dieHealth (s.setBankOf k v) = s.dieHealth ∧ State.link (s.setBankOf k v) = s.link ∧
    State.func (s.setBankOf k v) = s.func ∧ State.fnBox (s.setBankOf k v) = s.fnBox ∧ State.agentBox (s.setBankOf k v) = s.agentBox ∧
    State.cmdq (s.setBankOf k v) = s.cmdq ∧ State.dramMark (s.setBankOf k v) = s.dramMark ∧ State.sramBank (s.setBankOf k v) = s.sramBank ∧
    State.ledger (s.setBankOf k v) = s.ledger ∧ State.port (s.setBankOf k v) = s.port ∧ State.portBlock (s.setBankOf k v) = s.portBlock ∧
    State.pipe (s.setBankOf k v) = s.pipe ∧ State.tm (s.setBankOf k v) = s.tm ∧ State.laneOf (s.setBankOf k v) = s.laneOf ∧
    State.dieTime (s.setBankOf k v) = s.dieTime ∧ State.cipherOf (s.setBankOf k v) = s.cipherOf ∧ State.dmaCh (s.setBankOf k v) = s.dmaCh ∧
    State.nvme (s.setBankOf k v) = s.nvme ∧ State.storage (s.setBankOf k v) = s.storage ∧ State.podOf (s.setBankOf k v) = s.podOf ∧
    State.thread (s.setBankOf k v) = s.thread ∧ State.lockOf (s.setBankOf k v) = s.lockOf ∧ State.chanOf (s.setBankOf k v) = s.chanOf ∧
    State.seqOf (s.setBankOf k v) = s.seqOf ∧ State.context (s.setBankOf k v) = s.context := by
  repeat (first | exact rfl | refine ⟨rfl, ?_⟩)

@[simp] theorem State.bankOf_setBankOf (s : State) (k : Nat) (v : Bank) (n : Nat) :
    (s.setBankOf k v).bankOf n = if n = k then v else s.bankOf n := Tbl.look_put _ _ _ _ _

@[simp] theorem State.modBankOf_keeps (s : State) (k : Nat) (f : Bank → Bank) :
    (s.modBankOf k f).boot = s.boot ∧ (s.modBankOf k f).roles = s.roles ∧ (s.modBankOf k f).chain = s.chain ∧ (s.modBankOf k f).supply = s.supply ∧
    (s.modBankOf k f).temps = s.temps ∧ (s.modBankOf k f).health = s.health ∧ (s.modBankOf k f).links = s.links ∧ (s.modBankOf k f).funcs = s.funcs ∧
    (s.modBankOf k f).tags = s.tags ∧ (s.modBankOf k f).fnMbx = s.fnMbx ∧ (s.modBankOf k f).agentMbx = s.agentMbx ∧
    (s.modBankOf k f).cmdqs = s.cmdqs ∧ (s.modBankOf k f).journal = s.journal ∧ (s.modBankOf k f).protect = s.protect ∧
    (s.modBankOf k f).errors = s.errors ∧ (s.modBankOf k f).dram = s.dram ∧ (s.modBankOf k f).sram = s.sram ∧ (s.modBankOf k f).ledgers = s.ledgers ∧
    (s.modBankOf k f).ports = s.ports ∧ (s.modBankOf k f).portBlocks = s.portBlocks ∧ (s.modBankOf k f).synce = s.synce ∧
    (s.modBankOf k f).pipes = s.pipes ∧ (s.modBankOf k f).flight = s.flight ∧ (s.modBankOf k f).nextPkt = s.nextPkt ∧
    (s.modBankOf k f).tempo = s.tempo ∧ (s.modBankOf k f).tms = s.tms ∧ (s.modBankOf k f).fabric = s.fabric ∧
    (s.modBankOf k f).linkEnds = s.linkEnds ∧ (s.modBankOf k f).nextMsg = s.nextMsg ∧ (s.modBankOf k f).timeModel = s.timeModel ∧
    (s.modBankOf k f).pps = s.pps ∧ (s.modBankOf k f).times = s.times ∧ (s.modBankOf k f).ciphers = s.ciphers ∧ (s.modBankOf k f).queues = s.queues ∧
    (s.modBankOf k f).channels = s.channels ∧ (s.modBankOf k f).nvmes = s.nvmes ∧ (s.modBankOf k f).storages = s.storages ∧
    (s.modBankOf k f).partitions = s.partitions ∧ (s.modBankOf k f).twins = s.twins ∧ (s.modBankOf k f).pods = s.pods ∧
    (s.modBankOf k f).threads = s.threads ∧ (s.modBankOf k f).locks = s.locks ∧ (s.modBankOf k f).chans = s.chans ∧ (s.modBankOf k f).seqs = s.seqs ∧
    (s.modBankOf k f).contexts = s.contexts ∧ (s.modBankOf k f).seqCounters = s.seqCounters ∧ (s.modBankOf k f).patch = s.patch ∧
    (s.modBankOf k f).mem = s.mem ∧ (s.modBankOf k f).out = s.out ∧ (s.modBankOf k f).freeCtr = s.freeCtr ∧ (s.modBankOf k f).pending = s.pending ∧
    State.dieTemp (s.modBankOf k f) = s.dieTemp ∧ State.dieHealth (s.modBankOf k f) = s.dieHealth ∧ State.link (s.modBankOf k f) = s.link ∧
    State.func (s.modBankOf k f) = s.func ∧ State.fnBox (s.modBankOf k f) = s.fnBox ∧ State.agentBox (s.modBankOf k f) = s.agentBox ∧
    State.cmdq (s.modBankOf k f) = s.cmdq ∧ State.dramMark (s.modBankOf k f) = s.dramMark ∧ State.sramBank (s.modBankOf k f) = s.sramBank ∧
    State.ledger (s.modBankOf k f) = s.ledger ∧ State.port (s.modBankOf k f) = s.port ∧ State.portBlock (s.modBankOf k f) = s.portBlock ∧
    State.pipe (s.modBankOf k f) = s.pipe ∧ State.tm (s.modBankOf k f) = s.tm ∧ State.laneOf (s.modBankOf k f) = s.laneOf ∧
    State.dieTime (s.modBankOf k f) = s.dieTime ∧ State.cipherOf (s.modBankOf k f) = s.cipherOf ∧ State.dmaCh (s.modBankOf k f) = s.dmaCh ∧
    State.nvme (s.modBankOf k f) = s.nvme ∧ State.storage (s.modBankOf k f) = s.storage ∧ State.podOf (s.modBankOf k f) = s.podOf ∧
    State.thread (s.modBankOf k f) = s.thread ∧ State.lockOf (s.modBankOf k f) = s.lockOf ∧ State.chanOf (s.modBankOf k f) = s.chanOf ∧
    State.seqOf (s.modBankOf k f) = s.seqOf ∧ State.context (s.modBankOf k f) = s.context := by
  repeat (first | exact rfl | refine ⟨rfl, ?_⟩)

@[simp] theorem State.bankOf_modBankOf (s : State) (k : Nat) (f : Bank → Bank) (n : Nat) :
    (s.modBankOf k f).bankOf n = if n = k then f (s.bankOf k) else s.bankOf n := Tbl.look_put _ _ _ _ _

@[simp] theorem State.setPipe_keeps (s : State) (k : Nat) (v : Pipe) :
    (s.setPipe k v).boot = s.boot ∧ (s.setPipe k v).roles = s.roles ∧ (s.setPipe k v).chain = s.chain ∧ (s.setPipe k v).supply = s.supply ∧
    (s.setPipe k v).temps = s.temps ∧ (s.setPipe k v).health = s.health ∧ (s.setPipe k v).links = s.links ∧ (s.setPipe k v).funcs = s.funcs ∧
    (s.setPipe k v).tags = s.tags ∧ (s.setPipe k v).fnMbx = s.fnMbx ∧ (s.setPipe k v).agentMbx = s.agentMbx ∧ (s.setPipe k v).cmdqs = s.cmdqs ∧
    (s.setPipe k v).journal = s.journal ∧ (s.setPipe k v).protect = s.protect ∧ (s.setPipe k v).errors = s.errors ∧ (s.setPipe k v).dram = s.dram ∧
    (s.setPipe k v).sram = s.sram ∧ (s.setPipe k v).ledgers = s.ledgers ∧ (s.setPipe k v).ports = s.ports ∧
    (s.setPipe k v).portBlocks = s.portBlocks ∧ (s.setPipe k v).synce = s.synce ∧ (s.setPipe k v).banks = s.banks ∧
    (s.setPipe k v).flight = s.flight ∧ (s.setPipe k v).nextPkt = s.nextPkt ∧ (s.setPipe k v).tempo = s.tempo ∧ (s.setPipe k v).tms = s.tms ∧
    (s.setPipe k v).fabric = s.fabric ∧ (s.setPipe k v).linkEnds = s.linkEnds ∧ (s.setPipe k v).nextMsg = s.nextMsg ∧
    (s.setPipe k v).timeModel = s.timeModel ∧ (s.setPipe k v).pps = s.pps ∧ (s.setPipe k v).times = s.times ∧ (s.setPipe k v).ciphers = s.ciphers ∧
    (s.setPipe k v).queues = s.queues ∧ (s.setPipe k v).channels = s.channels ∧ (s.setPipe k v).nvmes = s.nvmes ∧
    (s.setPipe k v).storages = s.storages ∧ (s.setPipe k v).partitions = s.partitions ∧ (s.setPipe k v).twins = s.twins ∧
    (s.setPipe k v).pods = s.pods ∧ (s.setPipe k v).threads = s.threads ∧ (s.setPipe k v).locks = s.locks ∧ (s.setPipe k v).chans = s.chans ∧
    (s.setPipe k v).seqs = s.seqs ∧ (s.setPipe k v).contexts = s.contexts ∧ (s.setPipe k v).seqCounters = s.seqCounters ∧
    (s.setPipe k v).patch = s.patch ∧ (s.setPipe k v).mem = s.mem ∧ (s.setPipe k v).out = s.out ∧ (s.setPipe k v).freeCtr = s.freeCtr ∧
    (s.setPipe k v).pending = s.pending ∧ State.dieTemp (s.setPipe k v) = s.dieTemp ∧ State.dieHealth (s.setPipe k v) = s.dieHealth ∧
    State.link (s.setPipe k v) = s.link ∧ State.func (s.setPipe k v) = s.func ∧ State.fnBox (s.setPipe k v) = s.fnBox ∧
    State.agentBox (s.setPipe k v) = s.agentBox ∧ State.cmdq (s.setPipe k v) = s.cmdq ∧ State.dramMark (s.setPipe k v) = s.dramMark ∧
    State.sramBank (s.setPipe k v) = s.sramBank ∧ State.ledger (s.setPipe k v) = s.ledger ∧ State.port (s.setPipe k v) = s.port ∧
    State.portBlock (s.setPipe k v) = s.portBlock ∧ State.bankOf (s.setPipe k v) = s.bankOf ∧ State.tm (s.setPipe k v) = s.tm ∧
    State.laneOf (s.setPipe k v) = s.laneOf ∧ State.dieTime (s.setPipe k v) = s.dieTime ∧ State.cipherOf (s.setPipe k v) = s.cipherOf ∧
    State.dmaCh (s.setPipe k v) = s.dmaCh ∧ State.nvme (s.setPipe k v) = s.nvme ∧ State.storage (s.setPipe k v) = s.storage ∧
    State.podOf (s.setPipe k v) = s.podOf ∧ State.thread (s.setPipe k v) = s.thread ∧ State.lockOf (s.setPipe k v) = s.lockOf ∧
    State.chanOf (s.setPipe k v) = s.chanOf ∧ State.seqOf (s.setPipe k v) = s.seqOf ∧ State.context (s.setPipe k v) = s.context := by
  repeat (first | exact rfl | refine ⟨rfl, ?_⟩)

@[simp] theorem State.pipe_setPipe (s : State) (k : Nat) (v : Pipe) (n : Nat) :
    (s.setPipe k v).pipe n = if n = k then v else s.pipe n := Tbl.look_put _ _ _ _ _

@[simp] theorem State.modPipe_keeps (s : State) (k : Nat) (f : Pipe → Pipe) :
    (s.modPipe k f).boot = s.boot ∧ (s.modPipe k f).roles = s.roles ∧ (s.modPipe k f).chain = s.chain ∧ (s.modPipe k f).supply = s.supply ∧
    (s.modPipe k f).temps = s.temps ∧ (s.modPipe k f).health = s.health ∧ (s.modPipe k f).links = s.links ∧ (s.modPipe k f).funcs = s.funcs ∧
    (s.modPipe k f).tags = s.tags ∧ (s.modPipe k f).fnMbx = s.fnMbx ∧ (s.modPipe k f).agentMbx = s.agentMbx ∧ (s.modPipe k f).cmdqs = s.cmdqs ∧
    (s.modPipe k f).journal = s.journal ∧ (s.modPipe k f).protect = s.protect ∧ (s.modPipe k f).errors = s.errors ∧ (s.modPipe k f).dram = s.dram ∧
    (s.modPipe k f).sram = s.sram ∧ (s.modPipe k f).ledgers = s.ledgers ∧ (s.modPipe k f).ports = s.ports ∧
    (s.modPipe k f).portBlocks = s.portBlocks ∧ (s.modPipe k f).synce = s.synce ∧ (s.modPipe k f).banks = s.banks ∧
    (s.modPipe k f).flight = s.flight ∧ (s.modPipe k f).nextPkt = s.nextPkt ∧ (s.modPipe k f).tempo = s.tempo ∧ (s.modPipe k f).tms = s.tms ∧
    (s.modPipe k f).fabric = s.fabric ∧ (s.modPipe k f).linkEnds = s.linkEnds ∧ (s.modPipe k f).nextMsg = s.nextMsg ∧
    (s.modPipe k f).timeModel = s.timeModel ∧ (s.modPipe k f).pps = s.pps ∧ (s.modPipe k f).times = s.times ∧ (s.modPipe k f).ciphers = s.ciphers ∧
    (s.modPipe k f).queues = s.queues ∧ (s.modPipe k f).channels = s.channels ∧ (s.modPipe k f).nvmes = s.nvmes ∧
    (s.modPipe k f).storages = s.storages ∧ (s.modPipe k f).partitions = s.partitions ∧ (s.modPipe k f).twins = s.twins ∧
    (s.modPipe k f).pods = s.pods ∧ (s.modPipe k f).threads = s.threads ∧ (s.modPipe k f).locks = s.locks ∧ (s.modPipe k f).chans = s.chans ∧
    (s.modPipe k f).seqs = s.seqs ∧ (s.modPipe k f).contexts = s.contexts ∧ (s.modPipe k f).seqCounters = s.seqCounters ∧
    (s.modPipe k f).patch = s.patch ∧ (s.modPipe k f).mem = s.mem ∧ (s.modPipe k f).out = s.out ∧ (s.modPipe k f).freeCtr = s.freeCtr ∧
    (s.modPipe k f).pending = s.pending ∧ State.dieTemp (s.modPipe k f) = s.dieTemp ∧ State.dieHealth (s.modPipe k f) = s.dieHealth ∧
    State.link (s.modPipe k f) = s.link ∧ State.func (s.modPipe k f) = s.func ∧ State.fnBox (s.modPipe k f) = s.fnBox ∧
    State.agentBox (s.modPipe k f) = s.agentBox ∧ State.cmdq (s.modPipe k f) = s.cmdq ∧ State.dramMark (s.modPipe k f) = s.dramMark ∧
    State.sramBank (s.modPipe k f) = s.sramBank ∧ State.ledger (s.modPipe k f) = s.ledger ∧ State.port (s.modPipe k f) = s.port ∧
    State.portBlock (s.modPipe k f) = s.portBlock ∧ State.bankOf (s.modPipe k f) = s.bankOf ∧ State.tm (s.modPipe k f) = s.tm ∧
    State.laneOf (s.modPipe k f) = s.laneOf ∧ State.dieTime (s.modPipe k f) = s.dieTime ∧ State.cipherOf (s.modPipe k f) = s.cipherOf ∧
    State.dmaCh (s.modPipe k f) = s.dmaCh ∧ State.nvme (s.modPipe k f) = s.nvme ∧ State.storage (s.modPipe k f) = s.storage ∧
    State.podOf (s.modPipe k f) = s.podOf ∧ State.thread (s.modPipe k f) = s.thread ∧ State.lockOf (s.modPipe k f) = s.lockOf ∧
    State.chanOf (s.modPipe k f) = s.chanOf ∧ State.seqOf (s.modPipe k f) = s.seqOf ∧ State.context (s.modPipe k f) = s.context := by
  repeat (first | exact rfl | refine ⟨rfl, ?_⟩)

@[simp] theorem State.pipe_modPipe (s : State) (k : Nat) (f : Pipe → Pipe) (n : Nat) :
    (s.modPipe k f).pipe n = if n = k then f (s.pipe k) else s.pipe n := Tbl.look_put _ _ _ _ _

@[simp] theorem State.setTm_keeps (s : State) (k : Nat) (v : Tm) :
    (s.setTm k v).boot = s.boot ∧ (s.setTm k v).roles = s.roles ∧ (s.setTm k v).chain = s.chain ∧ (s.setTm k v).supply = s.supply ∧
    (s.setTm k v).temps = s.temps ∧ (s.setTm k v).health = s.health ∧ (s.setTm k v).links = s.links ∧ (s.setTm k v).funcs = s.funcs ∧
    (s.setTm k v).tags = s.tags ∧ (s.setTm k v).fnMbx = s.fnMbx ∧ (s.setTm k v).agentMbx = s.agentMbx ∧ (s.setTm k v).cmdqs = s.cmdqs ∧
    (s.setTm k v).journal = s.journal ∧ (s.setTm k v).protect = s.protect ∧ (s.setTm k v).errors = s.errors ∧ (s.setTm k v).dram = s.dram ∧
    (s.setTm k v).sram = s.sram ∧ (s.setTm k v).ledgers = s.ledgers ∧ (s.setTm k v).ports = s.ports ∧ (s.setTm k v).portBlocks = s.portBlocks ∧
    (s.setTm k v).synce = s.synce ∧ (s.setTm k v).banks = s.banks ∧ (s.setTm k v).pipes = s.pipes ∧ (s.setTm k v).flight = s.flight ∧
    (s.setTm k v).nextPkt = s.nextPkt ∧ (s.setTm k v).tempo = s.tempo ∧ (s.setTm k v).fabric = s.fabric ∧ (s.setTm k v).linkEnds = s.linkEnds ∧
    (s.setTm k v).nextMsg = s.nextMsg ∧ (s.setTm k v).timeModel = s.timeModel ∧ (s.setTm k v).pps = s.pps ∧ (s.setTm k v).times = s.times ∧
    (s.setTm k v).ciphers = s.ciphers ∧ (s.setTm k v).queues = s.queues ∧ (s.setTm k v).channels = s.channels ∧ (s.setTm k v).nvmes = s.nvmes ∧
    (s.setTm k v).storages = s.storages ∧ (s.setTm k v).partitions = s.partitions ∧ (s.setTm k v).twins = s.twins ∧ (s.setTm k v).pods = s.pods ∧
    (s.setTm k v).threads = s.threads ∧ (s.setTm k v).locks = s.locks ∧ (s.setTm k v).chans = s.chans ∧ (s.setTm k v).seqs = s.seqs ∧
    (s.setTm k v).contexts = s.contexts ∧ (s.setTm k v).seqCounters = s.seqCounters ∧ (s.setTm k v).patch = s.patch ∧ (s.setTm k v).mem = s.mem ∧
    (s.setTm k v).out = s.out ∧ (s.setTm k v).freeCtr = s.freeCtr ∧ (s.setTm k v).pending = s.pending ∧ State.dieTemp (s.setTm k v) = s.dieTemp ∧
    State.dieHealth (s.setTm k v) = s.dieHealth ∧ State.link (s.setTm k v) = s.link ∧ State.func (s.setTm k v) = s.func ∧
    State.fnBox (s.setTm k v) = s.fnBox ∧ State.agentBox (s.setTm k v) = s.agentBox ∧ State.cmdq (s.setTm k v) = s.cmdq ∧
    State.dramMark (s.setTm k v) = s.dramMark ∧ State.sramBank (s.setTm k v) = s.sramBank ∧ State.ledger (s.setTm k v) = s.ledger ∧
    State.port (s.setTm k v) = s.port ∧ State.portBlock (s.setTm k v) = s.portBlock ∧ State.bankOf (s.setTm k v) = s.bankOf ∧
    State.pipe (s.setTm k v) = s.pipe ∧ State.laneOf (s.setTm k v) = s.laneOf ∧ State.dieTime (s.setTm k v) = s.dieTime ∧
    State.cipherOf (s.setTm k v) = s.cipherOf ∧ State.dmaCh (s.setTm k v) = s.dmaCh ∧ State.nvme (s.setTm k v) = s.nvme ∧
    State.storage (s.setTm k v) = s.storage ∧ State.podOf (s.setTm k v) = s.podOf ∧ State.thread (s.setTm k v) = s.thread ∧
    State.lockOf (s.setTm k v) = s.lockOf ∧ State.chanOf (s.setTm k v) = s.chanOf ∧ State.seqOf (s.setTm k v) = s.seqOf ∧
    State.context (s.setTm k v) = s.context := by
  repeat (first | exact rfl | refine ⟨rfl, ?_⟩)

@[simp] theorem State.tm_setTm (s : State) (k : Nat) (v : Tm) (n : Nat) :
    (s.setTm k v).tm n = if n = k then v else s.tm n := Tbl.look_put _ _ _ _ _

@[simp] theorem State.modTm_keeps (s : State) (k : Nat) (f : Tm → Tm) :
    (s.modTm k f).boot = s.boot ∧ (s.modTm k f).roles = s.roles ∧ (s.modTm k f).chain = s.chain ∧ (s.modTm k f).supply = s.supply ∧
    (s.modTm k f).temps = s.temps ∧ (s.modTm k f).health = s.health ∧ (s.modTm k f).links = s.links ∧ (s.modTm k f).funcs = s.funcs ∧
    (s.modTm k f).tags = s.tags ∧ (s.modTm k f).fnMbx = s.fnMbx ∧ (s.modTm k f).agentMbx = s.agentMbx ∧ (s.modTm k f).cmdqs = s.cmdqs ∧
    (s.modTm k f).journal = s.journal ∧ (s.modTm k f).protect = s.protect ∧ (s.modTm k f).errors = s.errors ∧ (s.modTm k f).dram = s.dram ∧
    (s.modTm k f).sram = s.sram ∧ (s.modTm k f).ledgers = s.ledgers ∧ (s.modTm k f).ports = s.ports ∧ (s.modTm k f).portBlocks = s.portBlocks ∧
    (s.modTm k f).synce = s.synce ∧ (s.modTm k f).banks = s.banks ∧ (s.modTm k f).pipes = s.pipes ∧ (s.modTm k f).flight = s.flight ∧
    (s.modTm k f).nextPkt = s.nextPkt ∧ (s.modTm k f).tempo = s.tempo ∧ (s.modTm k f).fabric = s.fabric ∧ (s.modTm k f).linkEnds = s.linkEnds ∧
    (s.modTm k f).nextMsg = s.nextMsg ∧ (s.modTm k f).timeModel = s.timeModel ∧ (s.modTm k f).pps = s.pps ∧ (s.modTm k f).times = s.times ∧
    (s.modTm k f).ciphers = s.ciphers ∧ (s.modTm k f).queues = s.queues ∧ (s.modTm k f).channels = s.channels ∧ (s.modTm k f).nvmes = s.nvmes ∧
    (s.modTm k f).storages = s.storages ∧ (s.modTm k f).partitions = s.partitions ∧ (s.modTm k f).twins = s.twins ∧ (s.modTm k f).pods = s.pods ∧
    (s.modTm k f).threads = s.threads ∧ (s.modTm k f).locks = s.locks ∧ (s.modTm k f).chans = s.chans ∧ (s.modTm k f).seqs = s.seqs ∧
    (s.modTm k f).contexts = s.contexts ∧ (s.modTm k f).seqCounters = s.seqCounters ∧ (s.modTm k f).patch = s.patch ∧ (s.modTm k f).mem = s.mem ∧
    (s.modTm k f).out = s.out ∧ (s.modTm k f).freeCtr = s.freeCtr ∧ (s.modTm k f).pending = s.pending ∧ State.dieTemp (s.modTm k f) = s.dieTemp ∧
    State.dieHealth (s.modTm k f) = s.dieHealth ∧ State.link (s.modTm k f) = s.link ∧ State.func (s.modTm k f) = s.func ∧
    State.fnBox (s.modTm k f) = s.fnBox ∧ State.agentBox (s.modTm k f) = s.agentBox ∧ State.cmdq (s.modTm k f) = s.cmdq ∧
    State.dramMark (s.modTm k f) = s.dramMark ∧ State.sramBank (s.modTm k f) = s.sramBank ∧ State.ledger (s.modTm k f) = s.ledger ∧
    State.port (s.modTm k f) = s.port ∧ State.portBlock (s.modTm k f) = s.portBlock ∧ State.bankOf (s.modTm k f) = s.bankOf ∧
    State.pipe (s.modTm k f) = s.pipe ∧ State.laneOf (s.modTm k f) = s.laneOf ∧ State.dieTime (s.modTm k f) = s.dieTime ∧
    State.cipherOf (s.modTm k f) = s.cipherOf ∧ State.dmaCh (s.modTm k f) = s.dmaCh ∧ State.nvme (s.modTm k f) = s.nvme ∧
    State.storage (s.modTm k f) = s.storage ∧ State.podOf (s.modTm k f) = s.podOf ∧ State.thread (s.modTm k f) = s.thread ∧
    State.lockOf (s.modTm k f) = s.lockOf ∧ State.chanOf (s.modTm k f) = s.chanOf ∧ State.seqOf (s.modTm k f) = s.seqOf ∧
    State.context (s.modTm k f) = s.context := by
  repeat (first | exact rfl | refine ⟨rfl, ?_⟩)

@[simp] theorem State.tm_modTm (s : State) (k : Nat) (f : Tm → Tm) (n : Nat) :
    (s.modTm k f).tm n = if n = k then f (s.tm k) else s.tm n := Tbl.look_put _ _ _ _ _

@[simp] theorem State.setLaneOf_keeps (s : State) (k : Nat) (v : Lane) :
    (s.setLaneOf k v).boot = s.boot ∧ (s.setLaneOf k v).roles = s.roles ∧ (s.setLaneOf k v).chain = s.chain ∧ (s.setLaneOf k v).supply = s.supply ∧
    (s.setLaneOf k v).temps = s.temps ∧ (s.setLaneOf k v).health = s.health ∧ (s.setLaneOf k v).links = s.links ∧ (s.setLaneOf k v).funcs = s.funcs ∧
    (s.setLaneOf k v).tags = s.tags ∧ (s.setLaneOf k v).fnMbx = s.fnMbx ∧ (s.setLaneOf k v).agentMbx = s.agentMbx ∧
    (s.setLaneOf k v).cmdqs = s.cmdqs ∧ (s.setLaneOf k v).journal = s.journal ∧ (s.setLaneOf k v).protect = s.protect ∧
    (s.setLaneOf k v).errors = s.errors ∧ (s.setLaneOf k v).dram = s.dram ∧ (s.setLaneOf k v).sram = s.sram ∧ (s.setLaneOf k v).ledgers = s.ledgers ∧
    (s.setLaneOf k v).ports = s.ports ∧ (s.setLaneOf k v).portBlocks = s.portBlocks ∧ (s.setLaneOf k v).synce = s.synce ∧
    (s.setLaneOf k v).banks = s.banks ∧ (s.setLaneOf k v).pipes = s.pipes ∧ (s.setLaneOf k v).flight = s.flight ∧
    (s.setLaneOf k v).nextPkt = s.nextPkt ∧ (s.setLaneOf k v).tempo = s.tempo ∧ (s.setLaneOf k v).tms = s.tms ∧
    (s.setLaneOf k v).linkEnds = s.linkEnds ∧ (s.setLaneOf k v).nextMsg = s.nextMsg ∧ (s.setLaneOf k v).timeModel = s.timeModel ∧
    (s.setLaneOf k v).pps = s.pps ∧ (s.setLaneOf k v).times = s.times ∧ (s.setLaneOf k v).ciphers = s.ciphers ∧ (s.setLaneOf k v).queues = s.queues ∧
    (s.setLaneOf k v).channels = s.channels ∧ (s.setLaneOf k v).nvmes = s.nvmes ∧ (s.setLaneOf k v).storages = s.storages ∧
    (s.setLaneOf k v).partitions = s.partitions ∧ (s.setLaneOf k v).twins = s.twins ∧ (s.setLaneOf k v).pods = s.pods ∧
    (s.setLaneOf k v).threads = s.threads ∧ (s.setLaneOf k v).locks = s.locks ∧ (s.setLaneOf k v).chans = s.chans ∧ (s.setLaneOf k v).seqs = s.seqs ∧
    (s.setLaneOf k v).contexts = s.contexts ∧ (s.setLaneOf k v).seqCounters = s.seqCounters ∧ (s.setLaneOf k v).patch = s.patch ∧
    (s.setLaneOf k v).mem = s.mem ∧ (s.setLaneOf k v).out = s.out ∧ (s.setLaneOf k v).freeCtr = s.freeCtr ∧ (s.setLaneOf k v).pending = s.pending ∧
    State.dieTemp (s.setLaneOf k v) = s.dieTemp ∧ State.dieHealth (s.setLaneOf k v) = s.dieHealth ∧ State.link (s.setLaneOf k v) = s.link ∧
    State.func (s.setLaneOf k v) = s.func ∧ State.fnBox (s.setLaneOf k v) = s.fnBox ∧ State.agentBox (s.setLaneOf k v) = s.agentBox ∧
    State.cmdq (s.setLaneOf k v) = s.cmdq ∧ State.dramMark (s.setLaneOf k v) = s.dramMark ∧ State.sramBank (s.setLaneOf k v) = s.sramBank ∧
    State.ledger (s.setLaneOf k v) = s.ledger ∧ State.port (s.setLaneOf k v) = s.port ∧ State.portBlock (s.setLaneOf k v) = s.portBlock ∧
    State.bankOf (s.setLaneOf k v) = s.bankOf ∧ State.pipe (s.setLaneOf k v) = s.pipe ∧ State.tm (s.setLaneOf k v) = s.tm ∧
    State.dieTime (s.setLaneOf k v) = s.dieTime ∧ State.cipherOf (s.setLaneOf k v) = s.cipherOf ∧ State.dmaCh (s.setLaneOf k v) = s.dmaCh ∧
    State.nvme (s.setLaneOf k v) = s.nvme ∧ State.storage (s.setLaneOf k v) = s.storage ∧ State.podOf (s.setLaneOf k v) = s.podOf ∧
    State.thread (s.setLaneOf k v) = s.thread ∧ State.lockOf (s.setLaneOf k v) = s.lockOf ∧ State.chanOf (s.setLaneOf k v) = s.chanOf ∧
    State.seqOf (s.setLaneOf k v) = s.seqOf ∧ State.context (s.setLaneOf k v) = s.context := by
  repeat (first | exact rfl | refine ⟨rfl, ?_⟩)

@[simp] theorem State.laneOf_setLaneOf (s : State) (k : Nat) (v : Lane) (n : Nat) :
    (s.setLaneOf k v).laneOf n = if n = k then v else s.laneOf n := Tbl.look_put _ _ _ _ _

@[simp] theorem State.modLaneOf_keeps (s : State) (k : Nat) (f : Lane → Lane) :
    (s.modLaneOf k f).boot = s.boot ∧ (s.modLaneOf k f).roles = s.roles ∧ (s.modLaneOf k f).chain = s.chain ∧ (s.modLaneOf k f).supply = s.supply ∧
    (s.modLaneOf k f).temps = s.temps ∧ (s.modLaneOf k f).health = s.health ∧ (s.modLaneOf k f).links = s.links ∧ (s.modLaneOf k f).funcs = s.funcs ∧
    (s.modLaneOf k f).tags = s.tags ∧ (s.modLaneOf k f).fnMbx = s.fnMbx ∧ (s.modLaneOf k f).agentMbx = s.agentMbx ∧
    (s.modLaneOf k f).cmdqs = s.cmdqs ∧ (s.modLaneOf k f).journal = s.journal ∧ (s.modLaneOf k f).protect = s.protect ∧
    (s.modLaneOf k f).errors = s.errors ∧ (s.modLaneOf k f).dram = s.dram ∧ (s.modLaneOf k f).sram = s.sram ∧ (s.modLaneOf k f).ledgers = s.ledgers ∧
    (s.modLaneOf k f).ports = s.ports ∧ (s.modLaneOf k f).portBlocks = s.portBlocks ∧ (s.modLaneOf k f).synce = s.synce ∧
    (s.modLaneOf k f).banks = s.banks ∧ (s.modLaneOf k f).pipes = s.pipes ∧ (s.modLaneOf k f).flight = s.flight ∧
    (s.modLaneOf k f).nextPkt = s.nextPkt ∧ (s.modLaneOf k f).tempo = s.tempo ∧ (s.modLaneOf k f).tms = s.tms ∧
    (s.modLaneOf k f).linkEnds = s.linkEnds ∧ (s.modLaneOf k f).nextMsg = s.nextMsg ∧ (s.modLaneOf k f).timeModel = s.timeModel ∧
    (s.modLaneOf k f).pps = s.pps ∧ (s.modLaneOf k f).times = s.times ∧ (s.modLaneOf k f).ciphers = s.ciphers ∧ (s.modLaneOf k f).queues = s.queues ∧
    (s.modLaneOf k f).channels = s.channels ∧ (s.modLaneOf k f).nvmes = s.nvmes ∧ (s.modLaneOf k f).storages = s.storages ∧
    (s.modLaneOf k f).partitions = s.partitions ∧ (s.modLaneOf k f).twins = s.twins ∧ (s.modLaneOf k f).pods = s.pods ∧
    (s.modLaneOf k f).threads = s.threads ∧ (s.modLaneOf k f).locks = s.locks ∧ (s.modLaneOf k f).chans = s.chans ∧ (s.modLaneOf k f).seqs = s.seqs ∧
    (s.modLaneOf k f).contexts = s.contexts ∧ (s.modLaneOf k f).seqCounters = s.seqCounters ∧ (s.modLaneOf k f).patch = s.patch ∧
    (s.modLaneOf k f).mem = s.mem ∧ (s.modLaneOf k f).out = s.out ∧ (s.modLaneOf k f).freeCtr = s.freeCtr ∧ (s.modLaneOf k f).pending = s.pending ∧
    State.dieTemp (s.modLaneOf k f) = s.dieTemp ∧ State.dieHealth (s.modLaneOf k f) = s.dieHealth ∧ State.link (s.modLaneOf k f) = s.link ∧
    State.func (s.modLaneOf k f) = s.func ∧ State.fnBox (s.modLaneOf k f) = s.fnBox ∧ State.agentBox (s.modLaneOf k f) = s.agentBox ∧
    State.cmdq (s.modLaneOf k f) = s.cmdq ∧ State.dramMark (s.modLaneOf k f) = s.dramMark ∧ State.sramBank (s.modLaneOf k f) = s.sramBank ∧
    State.ledger (s.modLaneOf k f) = s.ledger ∧ State.port (s.modLaneOf k f) = s.port ∧ State.portBlock (s.modLaneOf k f) = s.portBlock ∧
    State.bankOf (s.modLaneOf k f) = s.bankOf ∧ State.pipe (s.modLaneOf k f) = s.pipe ∧ State.tm (s.modLaneOf k f) = s.tm ∧
    State.dieTime (s.modLaneOf k f) = s.dieTime ∧ State.cipherOf (s.modLaneOf k f) = s.cipherOf ∧ State.dmaCh (s.modLaneOf k f) = s.dmaCh ∧
    State.nvme (s.modLaneOf k f) = s.nvme ∧ State.storage (s.modLaneOf k f) = s.storage ∧ State.podOf (s.modLaneOf k f) = s.podOf ∧
    State.thread (s.modLaneOf k f) = s.thread ∧ State.lockOf (s.modLaneOf k f) = s.lockOf ∧ State.chanOf (s.modLaneOf k f) = s.chanOf ∧
    State.seqOf (s.modLaneOf k f) = s.seqOf ∧ State.context (s.modLaneOf k f) = s.context := by
  repeat (first | exact rfl | refine ⟨rfl, ?_⟩)

@[simp] theorem State.laneOf_modLaneOf (s : State) (k : Nat) (f : Lane → Lane) (n : Nat) :
    (s.modLaneOf k f).laneOf n = if n = k then f (s.laneOf k) else s.laneOf n := Tbl.look_put _ _ _ _ _

@[simp] theorem State.setDieTime_keeps (s : State) (k : Nat) (v : DieTime) :
    (s.setDieTime k v).boot = s.boot ∧ (s.setDieTime k v).roles = s.roles ∧ (s.setDieTime k v).chain = s.chain ∧
    (s.setDieTime k v).supply = s.supply ∧ (s.setDieTime k v).temps = s.temps ∧ (s.setDieTime k v).health = s.health ∧
    (s.setDieTime k v).links = s.links ∧ (s.setDieTime k v).funcs = s.funcs ∧ (s.setDieTime k v).tags = s.tags ∧ (s.setDieTime k v).fnMbx = s.fnMbx ∧
    (s.setDieTime k v).agentMbx = s.agentMbx ∧ (s.setDieTime k v).cmdqs = s.cmdqs ∧ (s.setDieTime k v).journal = s.journal ∧
    (s.setDieTime k v).protect = s.protect ∧ (s.setDieTime k v).errors = s.errors ∧ (s.setDieTime k v).dram = s.dram ∧
    (s.setDieTime k v).sram = s.sram ∧ (s.setDieTime k v).ledgers = s.ledgers ∧ (s.setDieTime k v).ports = s.ports ∧
    (s.setDieTime k v).portBlocks = s.portBlocks ∧ (s.setDieTime k v).synce = s.synce ∧ (s.setDieTime k v).banks = s.banks ∧
    (s.setDieTime k v).pipes = s.pipes ∧ (s.setDieTime k v).flight = s.flight ∧ (s.setDieTime k v).nextPkt = s.nextPkt ∧
    (s.setDieTime k v).tempo = s.tempo ∧ (s.setDieTime k v).tms = s.tms ∧ (s.setDieTime k v).fabric = s.fabric ∧
    (s.setDieTime k v).linkEnds = s.linkEnds ∧ (s.setDieTime k v).nextMsg = s.nextMsg ∧ (s.setDieTime k v).timeModel = s.timeModel ∧
    (s.setDieTime k v).pps = s.pps ∧ (s.setDieTime k v).ciphers = s.ciphers ∧ (s.setDieTime k v).queues = s.queues ∧
    (s.setDieTime k v).channels = s.channels ∧ (s.setDieTime k v).nvmes = s.nvmes ∧ (s.setDieTime k v).storages = s.storages ∧
    (s.setDieTime k v).partitions = s.partitions ∧ (s.setDieTime k v).twins = s.twins ∧ (s.setDieTime k v).pods = s.pods ∧
    (s.setDieTime k v).threads = s.threads ∧ (s.setDieTime k v).locks = s.locks ∧ (s.setDieTime k v).chans = s.chans ∧
    (s.setDieTime k v).seqs = s.seqs ∧ (s.setDieTime k v).contexts = s.contexts ∧ (s.setDieTime k v).seqCounters = s.seqCounters ∧
    (s.setDieTime k v).patch = s.patch ∧ (s.setDieTime k v).mem = s.mem ∧ (s.setDieTime k v).out = s.out ∧ (s.setDieTime k v).freeCtr = s.freeCtr ∧
    (s.setDieTime k v).pending = s.pending ∧ State.dieTemp (s.setDieTime k v) = s.dieTemp ∧ State.dieHealth (s.setDieTime k v) = s.dieHealth ∧
    State.link (s.setDieTime k v) = s.link ∧ State.func (s.setDieTime k v) = s.func ∧ State.fnBox (s.setDieTime k v) = s.fnBox ∧
    State.agentBox (s.setDieTime k v) = s.agentBox ∧ State.cmdq (s.setDieTime k v) = s.cmdq ∧ State.dramMark (s.setDieTime k v) = s.dramMark ∧
    State.sramBank (s.setDieTime k v) = s.sramBank ∧ State.ledger (s.setDieTime k v) = s.ledger ∧ State.port (s.setDieTime k v) = s.port ∧
    State.portBlock (s.setDieTime k v) = s.portBlock ∧ State.bankOf (s.setDieTime k v) = s.bankOf ∧ State.pipe (s.setDieTime k v) = s.pipe ∧
    State.tm (s.setDieTime k v) = s.tm ∧ State.laneOf (s.setDieTime k v) = s.laneOf ∧ State.cipherOf (s.setDieTime k v) = s.cipherOf ∧
    State.dmaCh (s.setDieTime k v) = s.dmaCh ∧ State.nvme (s.setDieTime k v) = s.nvme ∧ State.storage (s.setDieTime k v) = s.storage ∧
    State.podOf (s.setDieTime k v) = s.podOf ∧ State.thread (s.setDieTime k v) = s.thread ∧ State.lockOf (s.setDieTime k v) = s.lockOf ∧
    State.chanOf (s.setDieTime k v) = s.chanOf ∧ State.seqOf (s.setDieTime k v) = s.seqOf ∧ State.context (s.setDieTime k v) = s.context := by
  repeat (first | exact rfl | refine ⟨rfl, ?_⟩)

@[simp] theorem State.dieTime_setDieTime (s : State) (k : Nat) (v : DieTime) (n : Nat) :
    (s.setDieTime k v).dieTime n = if n = k then v else s.dieTime n := Tbl.look_put _ _ _ _ _

@[simp] theorem State.modDieTime_keeps (s : State) (k : Nat) (f : DieTime → DieTime) :
    (s.modDieTime k f).boot = s.boot ∧ (s.modDieTime k f).roles = s.roles ∧ (s.modDieTime k f).chain = s.chain ∧
    (s.modDieTime k f).supply = s.supply ∧ (s.modDieTime k f).temps = s.temps ∧ (s.modDieTime k f).health = s.health ∧
    (s.modDieTime k f).links = s.links ∧ (s.modDieTime k f).funcs = s.funcs ∧ (s.modDieTime k f).tags = s.tags ∧ (s.modDieTime k f).fnMbx = s.fnMbx ∧
    (s.modDieTime k f).agentMbx = s.agentMbx ∧ (s.modDieTime k f).cmdqs = s.cmdqs ∧ (s.modDieTime k f).journal = s.journal ∧
    (s.modDieTime k f).protect = s.protect ∧ (s.modDieTime k f).errors = s.errors ∧ (s.modDieTime k f).dram = s.dram ∧
    (s.modDieTime k f).sram = s.sram ∧ (s.modDieTime k f).ledgers = s.ledgers ∧ (s.modDieTime k f).ports = s.ports ∧
    (s.modDieTime k f).portBlocks = s.portBlocks ∧ (s.modDieTime k f).synce = s.synce ∧ (s.modDieTime k f).banks = s.banks ∧
    (s.modDieTime k f).pipes = s.pipes ∧ (s.modDieTime k f).flight = s.flight ∧ (s.modDieTime k f).nextPkt = s.nextPkt ∧
    (s.modDieTime k f).tempo = s.tempo ∧ (s.modDieTime k f).tms = s.tms ∧ (s.modDieTime k f).fabric = s.fabric ∧
    (s.modDieTime k f).linkEnds = s.linkEnds ∧ (s.modDieTime k f).nextMsg = s.nextMsg ∧ (s.modDieTime k f).timeModel = s.timeModel ∧
    (s.modDieTime k f).pps = s.pps ∧ (s.modDieTime k f).ciphers = s.ciphers ∧ (s.modDieTime k f).queues = s.queues ∧
    (s.modDieTime k f).channels = s.channels ∧ (s.modDieTime k f).nvmes = s.nvmes ∧ (s.modDieTime k f).storages = s.storages ∧
    (s.modDieTime k f).partitions = s.partitions ∧ (s.modDieTime k f).twins = s.twins ∧ (s.modDieTime k f).pods = s.pods ∧
    (s.modDieTime k f).threads = s.threads ∧ (s.modDieTime k f).locks = s.locks ∧ (s.modDieTime k f).chans = s.chans ∧
    (s.modDieTime k f).seqs = s.seqs ∧ (s.modDieTime k f).contexts = s.contexts ∧ (s.modDieTime k f).seqCounters = s.seqCounters ∧
    (s.modDieTime k f).patch = s.patch ∧ (s.modDieTime k f).mem = s.mem ∧ (s.modDieTime k f).out = s.out ∧ (s.modDieTime k f).freeCtr = s.freeCtr ∧
    (s.modDieTime k f).pending = s.pending ∧ State.dieTemp (s.modDieTime k f) = s.dieTemp ∧ State.dieHealth (s.modDieTime k f) = s.dieHealth ∧
    State.link (s.modDieTime k f) = s.link ∧ State.func (s.modDieTime k f) = s.func ∧ State.fnBox (s.modDieTime k f) = s.fnBox ∧
    State.agentBox (s.modDieTime k f) = s.agentBox ∧ State.cmdq (s.modDieTime k f) = s.cmdq ∧ State.dramMark (s.modDieTime k f) = s.dramMark ∧
    State.sramBank (s.modDieTime k f) = s.sramBank ∧ State.ledger (s.modDieTime k f) = s.ledger ∧ State.port (s.modDieTime k f) = s.port ∧
    State.portBlock (s.modDieTime k f) = s.portBlock ∧ State.bankOf (s.modDieTime k f) = s.bankOf ∧ State.pipe (s.modDieTime k f) = s.pipe ∧
    State.tm (s.modDieTime k f) = s.tm ∧ State.laneOf (s.modDieTime k f) = s.laneOf ∧ State.cipherOf (s.modDieTime k f) = s.cipherOf ∧
    State.dmaCh (s.modDieTime k f) = s.dmaCh ∧ State.nvme (s.modDieTime k f) = s.nvme ∧ State.storage (s.modDieTime k f) = s.storage ∧
    State.podOf (s.modDieTime k f) = s.podOf ∧ State.thread (s.modDieTime k f) = s.thread ∧ State.lockOf (s.modDieTime k f) = s.lockOf ∧
    State.chanOf (s.modDieTime k f) = s.chanOf ∧ State.seqOf (s.modDieTime k f) = s.seqOf ∧ State.context (s.modDieTime k f) = s.context := by
  repeat (first | exact rfl | refine ⟨rfl, ?_⟩)

@[simp] theorem State.dieTime_modDieTime (s : State) (k : Nat) (f : DieTime → DieTime) (n : Nat) :
    (s.modDieTime k f).dieTime n = if n = k then f (s.dieTime k) else s.dieTime n := Tbl.look_put _ _ _ _ _

@[simp] theorem State.setCipherOf_keeps (s : State) (k : Nat) (v : Cipher) :
    (s.setCipherOf k v).boot = s.boot ∧ (s.setCipherOf k v).roles = s.roles ∧ (s.setCipherOf k v).chain = s.chain ∧
    (s.setCipherOf k v).supply = s.supply ∧ (s.setCipherOf k v).temps = s.temps ∧ (s.setCipherOf k v).health = s.health ∧
    (s.setCipherOf k v).links = s.links ∧ (s.setCipherOf k v).funcs = s.funcs ∧ (s.setCipherOf k v).tags = s.tags ∧
    (s.setCipherOf k v).fnMbx = s.fnMbx ∧ (s.setCipherOf k v).agentMbx = s.agentMbx ∧ (s.setCipherOf k v).cmdqs = s.cmdqs ∧
    (s.setCipherOf k v).journal = s.journal ∧ (s.setCipherOf k v).protect = s.protect ∧ (s.setCipherOf k v).errors = s.errors ∧
    (s.setCipherOf k v).dram = s.dram ∧ (s.setCipherOf k v).sram = s.sram ∧ (s.setCipherOf k v).ledgers = s.ledgers ∧
    (s.setCipherOf k v).ports = s.ports ∧ (s.setCipherOf k v).portBlocks = s.portBlocks ∧ (s.setCipherOf k v).synce = s.synce ∧
    (s.setCipherOf k v).banks = s.banks ∧ (s.setCipherOf k v).pipes = s.pipes ∧ (s.setCipherOf k v).flight = s.flight ∧
    (s.setCipherOf k v).nextPkt = s.nextPkt ∧ (s.setCipherOf k v).tempo = s.tempo ∧ (s.setCipherOf k v).tms = s.tms ∧
    (s.setCipherOf k v).fabric = s.fabric ∧ (s.setCipherOf k v).linkEnds = s.linkEnds ∧ (s.setCipherOf k v).nextMsg = s.nextMsg ∧
    (s.setCipherOf k v).timeModel = s.timeModel ∧ (s.setCipherOf k v).pps = s.pps ∧ (s.setCipherOf k v).times = s.times ∧
    (s.setCipherOf k v).queues = s.queues ∧ (s.setCipherOf k v).channels = s.channels ∧ (s.setCipherOf k v).nvmes = s.nvmes ∧
    (s.setCipherOf k v).storages = s.storages ∧ (s.setCipherOf k v).partitions = s.partitions ∧ (s.setCipherOf k v).twins = s.twins ∧
    (s.setCipherOf k v).pods = s.pods ∧ (s.setCipherOf k v).threads = s.threads ∧ (s.setCipherOf k v).locks = s.locks ∧
    (s.setCipherOf k v).chans = s.chans ∧ (s.setCipherOf k v).seqs = s.seqs ∧ (s.setCipherOf k v).contexts = s.contexts ∧
    (s.setCipherOf k v).seqCounters = s.seqCounters ∧ (s.setCipherOf k v).patch = s.patch ∧ (s.setCipherOf k v).mem = s.mem ∧
    (s.setCipherOf k v).out = s.out ∧ (s.setCipherOf k v).freeCtr = s.freeCtr ∧ (s.setCipherOf k v).pending = s.pending ∧
    State.dieTemp (s.setCipherOf k v) = s.dieTemp ∧ State.dieHealth (s.setCipherOf k v) = s.dieHealth ∧ State.link (s.setCipherOf k v) = s.link ∧
    State.func (s.setCipherOf k v) = s.func ∧ State.fnBox (s.setCipherOf k v) = s.fnBox ∧ State.agentBox (s.setCipherOf k v) = s.agentBox ∧
    State.cmdq (s.setCipherOf k v) = s.cmdq ∧ State.dramMark (s.setCipherOf k v) = s.dramMark ∧ State.sramBank (s.setCipherOf k v) = s.sramBank ∧
    State.ledger (s.setCipherOf k v) = s.ledger ∧ State.port (s.setCipherOf k v) = s.port ∧ State.portBlock (s.setCipherOf k v) = s.portBlock ∧
    State.bankOf (s.setCipherOf k v) = s.bankOf ∧ State.pipe (s.setCipherOf k v) = s.pipe ∧ State.tm (s.setCipherOf k v) = s.tm ∧
    State.laneOf (s.setCipherOf k v) = s.laneOf ∧ State.dieTime (s.setCipherOf k v) = s.dieTime ∧ State.dmaCh (s.setCipherOf k v) = s.dmaCh ∧
    State.nvme (s.setCipherOf k v) = s.nvme ∧ State.storage (s.setCipherOf k v) = s.storage ∧ State.podOf (s.setCipherOf k v) = s.podOf ∧
    State.thread (s.setCipherOf k v) = s.thread ∧ State.lockOf (s.setCipherOf k v) = s.lockOf ∧ State.chanOf (s.setCipherOf k v) = s.chanOf ∧
    State.seqOf (s.setCipherOf k v) = s.seqOf ∧ State.context (s.setCipherOf k v) = s.context := by
  repeat (first | exact rfl | refine ⟨rfl, ?_⟩)

@[simp] theorem State.cipherOf_setCipherOf (s : State) (k : Nat) (v : Cipher) (n : Nat) :
    (s.setCipherOf k v).cipherOf n = if n = k then v else s.cipherOf n := Tbl.look_put _ _ _ _ _

@[simp] theorem State.modCipherOf_keeps (s : State) (k : Nat) (f : Cipher → Cipher) :
    (s.modCipherOf k f).boot = s.boot ∧ (s.modCipherOf k f).roles = s.roles ∧ (s.modCipherOf k f).chain = s.chain ∧
    (s.modCipherOf k f).supply = s.supply ∧ (s.modCipherOf k f).temps = s.temps ∧ (s.modCipherOf k f).health = s.health ∧
    (s.modCipherOf k f).links = s.links ∧ (s.modCipherOf k f).funcs = s.funcs ∧ (s.modCipherOf k f).tags = s.tags ∧
    (s.modCipherOf k f).fnMbx = s.fnMbx ∧ (s.modCipherOf k f).agentMbx = s.agentMbx ∧ (s.modCipherOf k f).cmdqs = s.cmdqs ∧
    (s.modCipherOf k f).journal = s.journal ∧ (s.modCipherOf k f).protect = s.protect ∧ (s.modCipherOf k f).errors = s.errors ∧
    (s.modCipherOf k f).dram = s.dram ∧ (s.modCipherOf k f).sram = s.sram ∧ (s.modCipherOf k f).ledgers = s.ledgers ∧
    (s.modCipherOf k f).ports = s.ports ∧ (s.modCipherOf k f).portBlocks = s.portBlocks ∧ (s.modCipherOf k f).synce = s.synce ∧
    (s.modCipherOf k f).banks = s.banks ∧ (s.modCipherOf k f).pipes = s.pipes ∧ (s.modCipherOf k f).flight = s.flight ∧
    (s.modCipherOf k f).nextPkt = s.nextPkt ∧ (s.modCipherOf k f).tempo = s.tempo ∧ (s.modCipherOf k f).tms = s.tms ∧
    (s.modCipherOf k f).fabric = s.fabric ∧ (s.modCipherOf k f).linkEnds = s.linkEnds ∧ (s.modCipherOf k f).nextMsg = s.nextMsg ∧
    (s.modCipherOf k f).timeModel = s.timeModel ∧ (s.modCipherOf k f).pps = s.pps ∧ (s.modCipherOf k f).times = s.times ∧
    (s.modCipherOf k f).queues = s.queues ∧ (s.modCipherOf k f).channels = s.channels ∧ (s.modCipherOf k f).nvmes = s.nvmes ∧
    (s.modCipherOf k f).storages = s.storages ∧ (s.modCipherOf k f).partitions = s.partitions ∧ (s.modCipherOf k f).twins = s.twins ∧
    (s.modCipherOf k f).pods = s.pods ∧ (s.modCipherOf k f).threads = s.threads ∧ (s.modCipherOf k f).locks = s.locks ∧
    (s.modCipherOf k f).chans = s.chans ∧ (s.modCipherOf k f).seqs = s.seqs ∧ (s.modCipherOf k f).contexts = s.contexts ∧
    (s.modCipherOf k f).seqCounters = s.seqCounters ∧ (s.modCipherOf k f).patch = s.patch ∧ (s.modCipherOf k f).mem = s.mem ∧
    (s.modCipherOf k f).out = s.out ∧ (s.modCipherOf k f).freeCtr = s.freeCtr ∧ (s.modCipherOf k f).pending = s.pending ∧
    State.dieTemp (s.modCipherOf k f) = s.dieTemp ∧ State.dieHealth (s.modCipherOf k f) = s.dieHealth ∧ State.link (s.modCipherOf k f) = s.link ∧
    State.func (s.modCipherOf k f) = s.func ∧ State.fnBox (s.modCipherOf k f) = s.fnBox ∧ State.agentBox (s.modCipherOf k f) = s.agentBox ∧
    State.cmdq (s.modCipherOf k f) = s.cmdq ∧ State.dramMark (s.modCipherOf k f) = s.dramMark ∧ State.sramBank (s.modCipherOf k f) = s.sramBank ∧
    State.ledger (s.modCipherOf k f) = s.ledger ∧ State.port (s.modCipherOf k f) = s.port ∧ State.portBlock (s.modCipherOf k f) = s.portBlock ∧
    State.bankOf (s.modCipherOf k f) = s.bankOf ∧ State.pipe (s.modCipherOf k f) = s.pipe ∧ State.tm (s.modCipherOf k f) = s.tm ∧
    State.laneOf (s.modCipherOf k f) = s.laneOf ∧ State.dieTime (s.modCipherOf k f) = s.dieTime ∧ State.dmaCh (s.modCipherOf k f) = s.dmaCh ∧
    State.nvme (s.modCipherOf k f) = s.nvme ∧ State.storage (s.modCipherOf k f) = s.storage ∧ State.podOf (s.modCipherOf k f) = s.podOf ∧
    State.thread (s.modCipherOf k f) = s.thread ∧ State.lockOf (s.modCipherOf k f) = s.lockOf ∧ State.chanOf (s.modCipherOf k f) = s.chanOf ∧
    State.seqOf (s.modCipherOf k f) = s.seqOf ∧ State.context (s.modCipherOf k f) = s.context := by
  repeat (first | exact rfl | refine ⟨rfl, ?_⟩)

@[simp] theorem State.cipherOf_modCipherOf (s : State) (k : Nat) (f : Cipher → Cipher) (n : Nat) :
    (s.modCipherOf k f).cipherOf n = if n = k then f (s.cipherOf k) else s.cipherOf n := Tbl.look_put _ _ _ _ _

@[simp] theorem State.setDmaCh_keeps (s : State) (k : Nat) (v : DmaChannel) :
    (s.setDmaCh k v).boot = s.boot ∧ (s.setDmaCh k v).roles = s.roles ∧ (s.setDmaCh k v).chain = s.chain ∧ (s.setDmaCh k v).supply = s.supply ∧
    (s.setDmaCh k v).temps = s.temps ∧ (s.setDmaCh k v).health = s.health ∧ (s.setDmaCh k v).links = s.links ∧ (s.setDmaCh k v).funcs = s.funcs ∧
    (s.setDmaCh k v).tags = s.tags ∧ (s.setDmaCh k v).fnMbx = s.fnMbx ∧ (s.setDmaCh k v).agentMbx = s.agentMbx ∧ (s.setDmaCh k v).cmdqs = s.cmdqs ∧
    (s.setDmaCh k v).journal = s.journal ∧ (s.setDmaCh k v).protect = s.protect ∧ (s.setDmaCh k v).errors = s.errors ∧
    (s.setDmaCh k v).dram = s.dram ∧ (s.setDmaCh k v).sram = s.sram ∧ (s.setDmaCh k v).ledgers = s.ledgers ∧ (s.setDmaCh k v).ports = s.ports ∧
    (s.setDmaCh k v).portBlocks = s.portBlocks ∧ (s.setDmaCh k v).synce = s.synce ∧ (s.setDmaCh k v).banks = s.banks ∧
    (s.setDmaCh k v).pipes = s.pipes ∧ (s.setDmaCh k v).flight = s.flight ∧ (s.setDmaCh k v).nextPkt = s.nextPkt ∧ (s.setDmaCh k v).tempo = s.tempo ∧
    (s.setDmaCh k v).tms = s.tms ∧ (s.setDmaCh k v).fabric = s.fabric ∧ (s.setDmaCh k v).linkEnds = s.linkEnds ∧
    (s.setDmaCh k v).nextMsg = s.nextMsg ∧ (s.setDmaCh k v).timeModel = s.timeModel ∧ (s.setDmaCh k v).pps = s.pps ∧
    (s.setDmaCh k v).times = s.times ∧ (s.setDmaCh k v).ciphers = s.ciphers ∧ (s.setDmaCh k v).queues = s.queues ∧ (s.setDmaCh k v).nvmes = s.nvmes ∧
    (s.setDmaCh k v).storages = s.storages ∧ (s.setDmaCh k v).partitions = s.partitions ∧ (s.setDmaCh k v).twins = s.twins ∧
    (s.setDmaCh k v).pods = s.pods ∧ (s.setDmaCh k v).threads = s.threads ∧ (s.setDmaCh k v).locks = s.locks ∧ (s.setDmaCh k v).chans = s.chans ∧
    (s.setDmaCh k v).seqs = s.seqs ∧ (s.setDmaCh k v).contexts = s.contexts ∧ (s.setDmaCh k v).seqCounters = s.seqCounters ∧
    (s.setDmaCh k v).patch = s.patch ∧ (s.setDmaCh k v).mem = s.mem ∧ (s.setDmaCh k v).out = s.out ∧ (s.setDmaCh k v).freeCtr = s.freeCtr ∧
    (s.setDmaCh k v).pending = s.pending ∧ State.dieTemp (s.setDmaCh k v) = s.dieTemp ∧ State.dieHealth (s.setDmaCh k v) = s.dieHealth ∧
    State.link (s.setDmaCh k v) = s.link ∧ State.func (s.setDmaCh k v) = s.func ∧ State.fnBox (s.setDmaCh k v) = s.fnBox ∧
    State.agentBox (s.setDmaCh k v) = s.agentBox ∧ State.cmdq (s.setDmaCh k v) = s.cmdq ∧ State.dramMark (s.setDmaCh k v) = s.dramMark ∧
    State.sramBank (s.setDmaCh k v) = s.sramBank ∧ State.ledger (s.setDmaCh k v) = s.ledger ∧ State.port (s.setDmaCh k v) = s.port ∧
    State.portBlock (s.setDmaCh k v) = s.portBlock ∧ State.bankOf (s.setDmaCh k v) = s.bankOf ∧ State.pipe (s.setDmaCh k v) = s.pipe ∧
    State.tm (s.setDmaCh k v) = s.tm ∧ State.laneOf (s.setDmaCh k v) = s.laneOf ∧ State.dieTime (s.setDmaCh k v) = s.dieTime ∧
    State.cipherOf (s.setDmaCh k v) = s.cipherOf ∧ State.nvme (s.setDmaCh k v) = s.nvme ∧ State.storage (s.setDmaCh k v) = s.storage ∧
    State.podOf (s.setDmaCh k v) = s.podOf ∧ State.thread (s.setDmaCh k v) = s.thread ∧ State.lockOf (s.setDmaCh k v) = s.lockOf ∧
    State.chanOf (s.setDmaCh k v) = s.chanOf ∧ State.seqOf (s.setDmaCh k v) = s.seqOf ∧ State.context (s.setDmaCh k v) = s.context := by
  repeat (first | exact rfl | refine ⟨rfl, ?_⟩)

@[simp] theorem State.dmaCh_setDmaCh (s : State) (k : Nat) (v : DmaChannel) (n : Nat) :
    (s.setDmaCh k v).dmaCh n = if n = k then v else s.dmaCh n := Tbl.look_put _ _ _ _ _

@[simp] theorem State.modDmaCh_keeps (s : State) (k : Nat) (f : DmaChannel → DmaChannel) :
    (s.modDmaCh k f).boot = s.boot ∧ (s.modDmaCh k f).roles = s.roles ∧ (s.modDmaCh k f).chain = s.chain ∧ (s.modDmaCh k f).supply = s.supply ∧
    (s.modDmaCh k f).temps = s.temps ∧ (s.modDmaCh k f).health = s.health ∧ (s.modDmaCh k f).links = s.links ∧ (s.modDmaCh k f).funcs = s.funcs ∧
    (s.modDmaCh k f).tags = s.tags ∧ (s.modDmaCh k f).fnMbx = s.fnMbx ∧ (s.modDmaCh k f).agentMbx = s.agentMbx ∧ (s.modDmaCh k f).cmdqs = s.cmdqs ∧
    (s.modDmaCh k f).journal = s.journal ∧ (s.modDmaCh k f).protect = s.protect ∧ (s.modDmaCh k f).errors = s.errors ∧
    (s.modDmaCh k f).dram = s.dram ∧ (s.modDmaCh k f).sram = s.sram ∧ (s.modDmaCh k f).ledgers = s.ledgers ∧ (s.modDmaCh k f).ports = s.ports ∧
    (s.modDmaCh k f).portBlocks = s.portBlocks ∧ (s.modDmaCh k f).synce = s.synce ∧ (s.modDmaCh k f).banks = s.banks ∧
    (s.modDmaCh k f).pipes = s.pipes ∧ (s.modDmaCh k f).flight = s.flight ∧ (s.modDmaCh k f).nextPkt = s.nextPkt ∧ (s.modDmaCh k f).tempo = s.tempo ∧
    (s.modDmaCh k f).tms = s.tms ∧ (s.modDmaCh k f).fabric = s.fabric ∧ (s.modDmaCh k f).linkEnds = s.linkEnds ∧
    (s.modDmaCh k f).nextMsg = s.nextMsg ∧ (s.modDmaCh k f).timeModel = s.timeModel ∧ (s.modDmaCh k f).pps = s.pps ∧
    (s.modDmaCh k f).times = s.times ∧ (s.modDmaCh k f).ciphers = s.ciphers ∧ (s.modDmaCh k f).queues = s.queues ∧ (s.modDmaCh k f).nvmes = s.nvmes ∧
    (s.modDmaCh k f).storages = s.storages ∧ (s.modDmaCh k f).partitions = s.partitions ∧ (s.modDmaCh k f).twins = s.twins ∧
    (s.modDmaCh k f).pods = s.pods ∧ (s.modDmaCh k f).threads = s.threads ∧ (s.modDmaCh k f).locks = s.locks ∧ (s.modDmaCh k f).chans = s.chans ∧
    (s.modDmaCh k f).seqs = s.seqs ∧ (s.modDmaCh k f).contexts = s.contexts ∧ (s.modDmaCh k f).seqCounters = s.seqCounters ∧
    (s.modDmaCh k f).patch = s.patch ∧ (s.modDmaCh k f).mem = s.mem ∧ (s.modDmaCh k f).out = s.out ∧ (s.modDmaCh k f).freeCtr = s.freeCtr ∧
    (s.modDmaCh k f).pending = s.pending ∧ State.dieTemp (s.modDmaCh k f) = s.dieTemp ∧ State.dieHealth (s.modDmaCh k f) = s.dieHealth ∧
    State.link (s.modDmaCh k f) = s.link ∧ State.func (s.modDmaCh k f) = s.func ∧ State.fnBox (s.modDmaCh k f) = s.fnBox ∧
    State.agentBox (s.modDmaCh k f) = s.agentBox ∧ State.cmdq (s.modDmaCh k f) = s.cmdq ∧ State.dramMark (s.modDmaCh k f) = s.dramMark ∧
    State.sramBank (s.modDmaCh k f) = s.sramBank ∧ State.ledger (s.modDmaCh k f) = s.ledger ∧ State.port (s.modDmaCh k f) = s.port ∧
    State.portBlock (s.modDmaCh k f) = s.portBlock ∧ State.bankOf (s.modDmaCh k f) = s.bankOf ∧ State.pipe (s.modDmaCh k f) = s.pipe ∧
    State.tm (s.modDmaCh k f) = s.tm ∧ State.laneOf (s.modDmaCh k f) = s.laneOf ∧ State.dieTime (s.modDmaCh k f) = s.dieTime ∧
    State.cipherOf (s.modDmaCh k f) = s.cipherOf ∧ State.nvme (s.modDmaCh k f) = s.nvme ∧ State.storage (s.modDmaCh k f) = s.storage ∧
    State.podOf (s.modDmaCh k f) = s.podOf ∧ State.thread (s.modDmaCh k f) = s.thread ∧ State.lockOf (s.modDmaCh k f) = s.lockOf ∧
    State.chanOf (s.modDmaCh k f) = s.chanOf ∧ State.seqOf (s.modDmaCh k f) = s.seqOf ∧ State.context (s.modDmaCh k f) = s.context := by
  repeat (first | exact rfl | refine ⟨rfl, ?_⟩)

@[simp] theorem State.dmaCh_modDmaCh (s : State) (k : Nat) (f : DmaChannel → DmaChannel) (n : Nat) :
    (s.modDmaCh k f).dmaCh n = if n = k then f (s.dmaCh k) else s.dmaCh n := Tbl.look_put _ _ _ _ _

@[simp] theorem State.setNvme_keeps (s : State) (k : Nat) (v : Nvme) :
    (s.setNvme k v).boot = s.boot ∧ (s.setNvme k v).roles = s.roles ∧ (s.setNvme k v).chain = s.chain ∧ (s.setNvme k v).supply = s.supply ∧
    (s.setNvme k v).temps = s.temps ∧ (s.setNvme k v).health = s.health ∧ (s.setNvme k v).links = s.links ∧ (s.setNvme k v).funcs = s.funcs ∧
    (s.setNvme k v).tags = s.tags ∧ (s.setNvme k v).fnMbx = s.fnMbx ∧ (s.setNvme k v).agentMbx = s.agentMbx ∧ (s.setNvme k v).cmdqs = s.cmdqs ∧
    (s.setNvme k v).journal = s.journal ∧ (s.setNvme k v).protect = s.protect ∧ (s.setNvme k v).errors = s.errors ∧ (s.setNvme k v).dram = s.dram ∧
    (s.setNvme k v).sram = s.sram ∧ (s.setNvme k v).ledgers = s.ledgers ∧ (s.setNvme k v).ports = s.ports ∧
    (s.setNvme k v).portBlocks = s.portBlocks ∧ (s.setNvme k v).synce = s.synce ∧ (s.setNvme k v).banks = s.banks ∧ (s.setNvme k v).pipes = s.pipes ∧
    (s.setNvme k v).flight = s.flight ∧ (s.setNvme k v).nextPkt = s.nextPkt ∧ (s.setNvme k v).tempo = s.tempo ∧ (s.setNvme k v).tms = s.tms ∧
    (s.setNvme k v).fabric = s.fabric ∧ (s.setNvme k v).linkEnds = s.linkEnds ∧ (s.setNvme k v).nextMsg = s.nextMsg ∧
    (s.setNvme k v).timeModel = s.timeModel ∧ (s.setNvme k v).pps = s.pps ∧ (s.setNvme k v).times = s.times ∧ (s.setNvme k v).ciphers = s.ciphers ∧
    (s.setNvme k v).queues = s.queues ∧ (s.setNvme k v).channels = s.channels ∧ (s.setNvme k v).storages = s.storages ∧
    (s.setNvme k v).partitions = s.partitions ∧ (s.setNvme k v).twins = s.twins ∧ (s.setNvme k v).pods = s.pods ∧
    (s.setNvme k v).threads = s.threads ∧ (s.setNvme k v).locks = s.locks ∧ (s.setNvme k v).chans = s.chans ∧ (s.setNvme k v).seqs = s.seqs ∧
    (s.setNvme k v).contexts = s.contexts ∧ (s.setNvme k v).seqCounters = s.seqCounters ∧ (s.setNvme k v).patch = s.patch ∧
    (s.setNvme k v).mem = s.mem ∧ (s.setNvme k v).out = s.out ∧ (s.setNvme k v).freeCtr = s.freeCtr ∧ (s.setNvme k v).pending = s.pending ∧
    State.dieTemp (s.setNvme k v) = s.dieTemp ∧ State.dieHealth (s.setNvme k v) = s.dieHealth ∧ State.link (s.setNvme k v) = s.link ∧
    State.func (s.setNvme k v) = s.func ∧ State.fnBox (s.setNvme k v) = s.fnBox ∧ State.agentBox (s.setNvme k v) = s.agentBox ∧
    State.cmdq (s.setNvme k v) = s.cmdq ∧ State.dramMark (s.setNvme k v) = s.dramMark ∧ State.sramBank (s.setNvme k v) = s.sramBank ∧
    State.ledger (s.setNvme k v) = s.ledger ∧ State.port (s.setNvme k v) = s.port ∧ State.portBlock (s.setNvme k v) = s.portBlock ∧
    State.bankOf (s.setNvme k v) = s.bankOf ∧ State.pipe (s.setNvme k v) = s.pipe ∧ State.tm (s.setNvme k v) = s.tm ∧
    State.laneOf (s.setNvme k v) = s.laneOf ∧ State.dieTime (s.setNvme k v) = s.dieTime ∧ State.cipherOf (s.setNvme k v) = s.cipherOf ∧
    State.dmaCh (s.setNvme k v) = s.dmaCh ∧ State.storage (s.setNvme k v) = s.storage ∧ State.podOf (s.setNvme k v) = s.podOf ∧
    State.thread (s.setNvme k v) = s.thread ∧ State.lockOf (s.setNvme k v) = s.lockOf ∧ State.chanOf (s.setNvme k v) = s.chanOf ∧
    State.seqOf (s.setNvme k v) = s.seqOf ∧ State.context (s.setNvme k v) = s.context := by
  repeat (first | exact rfl | refine ⟨rfl, ?_⟩)

@[simp] theorem State.nvme_setNvme (s : State) (k : Nat) (v : Nvme) (n : Nat) :
    (s.setNvme k v).nvme n = if n = k then v else s.nvme n := Tbl.look_put _ _ _ _ _

@[simp] theorem State.modNvme_keeps (s : State) (k : Nat) (f : Nvme → Nvme) :
    (s.modNvme k f).boot = s.boot ∧ (s.modNvme k f).roles = s.roles ∧ (s.modNvme k f).chain = s.chain ∧ (s.modNvme k f).supply = s.supply ∧
    (s.modNvme k f).temps = s.temps ∧ (s.modNvme k f).health = s.health ∧ (s.modNvme k f).links = s.links ∧ (s.modNvme k f).funcs = s.funcs ∧
    (s.modNvme k f).tags = s.tags ∧ (s.modNvme k f).fnMbx = s.fnMbx ∧ (s.modNvme k f).agentMbx = s.agentMbx ∧ (s.modNvme k f).cmdqs = s.cmdqs ∧
    (s.modNvme k f).journal = s.journal ∧ (s.modNvme k f).protect = s.protect ∧ (s.modNvme k f).errors = s.errors ∧ (s.modNvme k f).dram = s.dram ∧
    (s.modNvme k f).sram = s.sram ∧ (s.modNvme k f).ledgers = s.ledgers ∧ (s.modNvme k f).ports = s.ports ∧
    (s.modNvme k f).portBlocks = s.portBlocks ∧ (s.modNvme k f).synce = s.synce ∧ (s.modNvme k f).banks = s.banks ∧ (s.modNvme k f).pipes = s.pipes ∧
    (s.modNvme k f).flight = s.flight ∧ (s.modNvme k f).nextPkt = s.nextPkt ∧ (s.modNvme k f).tempo = s.tempo ∧ (s.modNvme k f).tms = s.tms ∧
    (s.modNvme k f).fabric = s.fabric ∧ (s.modNvme k f).linkEnds = s.linkEnds ∧ (s.modNvme k f).nextMsg = s.nextMsg ∧
    (s.modNvme k f).timeModel = s.timeModel ∧ (s.modNvme k f).pps = s.pps ∧ (s.modNvme k f).times = s.times ∧ (s.modNvme k f).ciphers = s.ciphers ∧
    (s.modNvme k f).queues = s.queues ∧ (s.modNvme k f).channels = s.channels ∧ (s.modNvme k f).storages = s.storages ∧
    (s.modNvme k f).partitions = s.partitions ∧ (s.modNvme k f).twins = s.twins ∧ (s.modNvme k f).pods = s.pods ∧
    (s.modNvme k f).threads = s.threads ∧ (s.modNvme k f).locks = s.locks ∧ (s.modNvme k f).chans = s.chans ∧ (s.modNvme k f).seqs = s.seqs ∧
    (s.modNvme k f).contexts = s.contexts ∧ (s.modNvme k f).seqCounters = s.seqCounters ∧ (s.modNvme k f).patch = s.patch ∧
    (s.modNvme k f).mem = s.mem ∧ (s.modNvme k f).out = s.out ∧ (s.modNvme k f).freeCtr = s.freeCtr ∧ (s.modNvme k f).pending = s.pending ∧
    State.dieTemp (s.modNvme k f) = s.dieTemp ∧ State.dieHealth (s.modNvme k f) = s.dieHealth ∧ State.link (s.modNvme k f) = s.link ∧
    State.func (s.modNvme k f) = s.func ∧ State.fnBox (s.modNvme k f) = s.fnBox ∧ State.agentBox (s.modNvme k f) = s.agentBox ∧
    State.cmdq (s.modNvme k f) = s.cmdq ∧ State.dramMark (s.modNvme k f) = s.dramMark ∧ State.sramBank (s.modNvme k f) = s.sramBank ∧
    State.ledger (s.modNvme k f) = s.ledger ∧ State.port (s.modNvme k f) = s.port ∧ State.portBlock (s.modNvme k f) = s.portBlock ∧
    State.bankOf (s.modNvme k f) = s.bankOf ∧ State.pipe (s.modNvme k f) = s.pipe ∧ State.tm (s.modNvme k f) = s.tm ∧
    State.laneOf (s.modNvme k f) = s.laneOf ∧ State.dieTime (s.modNvme k f) = s.dieTime ∧ State.cipherOf (s.modNvme k f) = s.cipherOf ∧
    State.dmaCh (s.modNvme k f) = s.dmaCh ∧ State.storage (s.modNvme k f) = s.storage ∧ State.podOf (s.modNvme k f) = s.podOf ∧
    State.thread (s.modNvme k f) = s.thread ∧ State.lockOf (s.modNvme k f) = s.lockOf ∧ State.chanOf (s.modNvme k f) = s.chanOf ∧
    State.seqOf (s.modNvme k f) = s.seqOf ∧ State.context (s.modNvme k f) = s.context := by
  repeat (first | exact rfl | refine ⟨rfl, ?_⟩)

@[simp] theorem State.nvme_modNvme (s : State) (k : Nat) (f : Nvme → Nvme) (n : Nat) :
    (s.modNvme k f).nvme n = if n = k then f (s.nvme k) else s.nvme n := Tbl.look_put _ _ _ _ _

@[simp] theorem State.setStorage_keeps (s : State) (k : Nat) (v : Storage) :
    (s.setStorage k v).boot = s.boot ∧ (s.setStorage k v).roles = s.roles ∧ (s.setStorage k v).chain = s.chain ∧
    (s.setStorage k v).supply = s.supply ∧ (s.setStorage k v).temps = s.temps ∧ (s.setStorage k v).health = s.health ∧
    (s.setStorage k v).links = s.links ∧ (s.setStorage k v).funcs = s.funcs ∧ (s.setStorage k v).tags = s.tags ∧ (s.setStorage k v).fnMbx = s.fnMbx ∧
    (s.setStorage k v).agentMbx = s.agentMbx ∧ (s.setStorage k v).cmdqs = s.cmdqs ∧ (s.setStorage k v).journal = s.journal ∧
    (s.setStorage k v).protect = s.protect ∧ (s.setStorage k v).errors = s.errors ∧ (s.setStorage k v).dram = s.dram ∧
    (s.setStorage k v).sram = s.sram ∧ (s.setStorage k v).ledgers = s.ledgers ∧ (s.setStorage k v).ports = s.ports ∧
    (s.setStorage k v).portBlocks = s.portBlocks ∧ (s.setStorage k v).synce = s.synce ∧ (s.setStorage k v).banks = s.banks ∧
    (s.setStorage k v).pipes = s.pipes ∧ (s.setStorage k v).flight = s.flight ∧ (s.setStorage k v).nextPkt = s.nextPkt ∧
    (s.setStorage k v).tempo = s.tempo ∧ (s.setStorage k v).tms = s.tms ∧ (s.setStorage k v).fabric = s.fabric ∧
    (s.setStorage k v).linkEnds = s.linkEnds ∧ (s.setStorage k v).nextMsg = s.nextMsg ∧ (s.setStorage k v).timeModel = s.timeModel ∧
    (s.setStorage k v).pps = s.pps ∧ (s.setStorage k v).times = s.times ∧ (s.setStorage k v).ciphers = s.ciphers ∧
    (s.setStorage k v).queues = s.queues ∧ (s.setStorage k v).channels = s.channels ∧ (s.setStorage k v).nvmes = s.nvmes ∧
    (s.setStorage k v).partitions = s.partitions ∧ (s.setStorage k v).twins = s.twins ∧ (s.setStorage k v).pods = s.pods ∧
    (s.setStorage k v).threads = s.threads ∧ (s.setStorage k v).locks = s.locks ∧ (s.setStorage k v).chans = s.chans ∧
    (s.setStorage k v).seqs = s.seqs ∧ (s.setStorage k v).contexts = s.contexts ∧ (s.setStorage k v).seqCounters = s.seqCounters ∧
    (s.setStorage k v).patch = s.patch ∧ (s.setStorage k v).mem = s.mem ∧ (s.setStorage k v).out = s.out ∧ (s.setStorage k v).freeCtr = s.freeCtr ∧
    (s.setStorage k v).pending = s.pending ∧ State.dieTemp (s.setStorage k v) = s.dieTemp ∧ State.dieHealth (s.setStorage k v) = s.dieHealth ∧
    State.link (s.setStorage k v) = s.link ∧ State.func (s.setStorage k v) = s.func ∧ State.fnBox (s.setStorage k v) = s.fnBox ∧
    State.agentBox (s.setStorage k v) = s.agentBox ∧ State.cmdq (s.setStorage k v) = s.cmdq ∧ State.dramMark (s.setStorage k v) = s.dramMark ∧
    State.sramBank (s.setStorage k v) = s.sramBank ∧ State.ledger (s.setStorage k v) = s.ledger ∧ State.port (s.setStorage k v) = s.port ∧
    State.portBlock (s.setStorage k v) = s.portBlock ∧ State.bankOf (s.setStorage k v) = s.bankOf ∧ State.pipe (s.setStorage k v) = s.pipe ∧
    State.tm (s.setStorage k v) = s.tm ∧ State.laneOf (s.setStorage k v) = s.laneOf ∧ State.dieTime (s.setStorage k v) = s.dieTime ∧
    State.cipherOf (s.setStorage k v) = s.cipherOf ∧ State.dmaCh (s.setStorage k v) = s.dmaCh ∧ State.nvme (s.setStorage k v) = s.nvme ∧
    State.podOf (s.setStorage k v) = s.podOf ∧ State.thread (s.setStorage k v) = s.thread ∧ State.lockOf (s.setStorage k v) = s.lockOf ∧
    State.chanOf (s.setStorage k v) = s.chanOf ∧ State.seqOf (s.setStorage k v) = s.seqOf ∧ State.context (s.setStorage k v) = s.context := by
  repeat (first | exact rfl | refine ⟨rfl, ?_⟩)

@[simp] theorem State.storage_setStorage (s : State) (k : Nat) (v : Storage) (n : Nat) :
    (s.setStorage k v).storage n = if n = k then v else s.storage n := Tbl.look_put _ _ _ _ _

@[simp] theorem State.modStorage_keeps (s : State) (k : Nat) (f : Storage → Storage) :
    (s.modStorage k f).boot = s.boot ∧ (s.modStorage k f).roles = s.roles ∧ (s.modStorage k f).chain = s.chain ∧
    (s.modStorage k f).supply = s.supply ∧ (s.modStorage k f).temps = s.temps ∧ (s.modStorage k f).health = s.health ∧
    (s.modStorage k f).links = s.links ∧ (s.modStorage k f).funcs = s.funcs ∧ (s.modStorage k f).tags = s.tags ∧ (s.modStorage k f).fnMbx = s.fnMbx ∧
    (s.modStorage k f).agentMbx = s.agentMbx ∧ (s.modStorage k f).cmdqs = s.cmdqs ∧ (s.modStorage k f).journal = s.journal ∧
    (s.modStorage k f).protect = s.protect ∧ (s.modStorage k f).errors = s.errors ∧ (s.modStorage k f).dram = s.dram ∧
    (s.modStorage k f).sram = s.sram ∧ (s.modStorage k f).ledgers = s.ledgers ∧ (s.modStorage k f).ports = s.ports ∧
    (s.modStorage k f).portBlocks = s.portBlocks ∧ (s.modStorage k f).synce = s.synce ∧ (s.modStorage k f).banks = s.banks ∧
    (s.modStorage k f).pipes = s.pipes ∧ (s.modStorage k f).flight = s.flight ∧ (s.modStorage k f).nextPkt = s.nextPkt ∧
    (s.modStorage k f).tempo = s.tempo ∧ (s.modStorage k f).tms = s.tms ∧ (s.modStorage k f).fabric = s.fabric ∧
    (s.modStorage k f).linkEnds = s.linkEnds ∧ (s.modStorage k f).nextMsg = s.nextMsg ∧ (s.modStorage k f).timeModel = s.timeModel ∧
    (s.modStorage k f).pps = s.pps ∧ (s.modStorage k f).times = s.times ∧ (s.modStorage k f).ciphers = s.ciphers ∧
    (s.modStorage k f).queues = s.queues ∧ (s.modStorage k f).channels = s.channels ∧ (s.modStorage k f).nvmes = s.nvmes ∧
    (s.modStorage k f).partitions = s.partitions ∧ (s.modStorage k f).twins = s.twins ∧ (s.modStorage k f).pods = s.pods ∧
    (s.modStorage k f).threads = s.threads ∧ (s.modStorage k f).locks = s.locks ∧ (s.modStorage k f).chans = s.chans ∧
    (s.modStorage k f).seqs = s.seqs ∧ (s.modStorage k f).contexts = s.contexts ∧ (s.modStorage k f).seqCounters = s.seqCounters ∧
    (s.modStorage k f).patch = s.patch ∧ (s.modStorage k f).mem = s.mem ∧ (s.modStorage k f).out = s.out ∧ (s.modStorage k f).freeCtr = s.freeCtr ∧
    (s.modStorage k f).pending = s.pending ∧ State.dieTemp (s.modStorage k f) = s.dieTemp ∧ State.dieHealth (s.modStorage k f) = s.dieHealth ∧
    State.link (s.modStorage k f) = s.link ∧ State.func (s.modStorage k f) = s.func ∧ State.fnBox (s.modStorage k f) = s.fnBox ∧
    State.agentBox (s.modStorage k f) = s.agentBox ∧ State.cmdq (s.modStorage k f) = s.cmdq ∧ State.dramMark (s.modStorage k f) = s.dramMark ∧
    State.sramBank (s.modStorage k f) = s.sramBank ∧ State.ledger (s.modStorage k f) = s.ledger ∧ State.port (s.modStorage k f) = s.port ∧
    State.portBlock (s.modStorage k f) = s.portBlock ∧ State.bankOf (s.modStorage k f) = s.bankOf ∧ State.pipe (s.modStorage k f) = s.pipe ∧
    State.tm (s.modStorage k f) = s.tm ∧ State.laneOf (s.modStorage k f) = s.laneOf ∧ State.dieTime (s.modStorage k f) = s.dieTime ∧
    State.cipherOf (s.modStorage k f) = s.cipherOf ∧ State.dmaCh (s.modStorage k f) = s.dmaCh ∧ State.nvme (s.modStorage k f) = s.nvme ∧
    State.podOf (s.modStorage k f) = s.podOf ∧ State.thread (s.modStorage k f) = s.thread ∧ State.lockOf (s.modStorage k f) = s.lockOf ∧
    State.chanOf (s.modStorage k f) = s.chanOf ∧ State.seqOf (s.modStorage k f) = s.seqOf ∧ State.context (s.modStorage k f) = s.context := by
  repeat (first | exact rfl | refine ⟨rfl, ?_⟩)

@[simp] theorem State.storage_modStorage (s : State) (k : Nat) (f : Storage → Storage) (n : Nat) :
    (s.modStorage k f).storage n = if n = k then f (s.storage k) else s.storage n := Tbl.look_put _ _ _ _ _

@[simp] theorem State.setPodOf_keeps (s : State) (k : Nat) (v : Pod) :
    (s.setPodOf k v).boot = s.boot ∧ (s.setPodOf k v).roles = s.roles ∧ (s.setPodOf k v).chain = s.chain ∧ (s.setPodOf k v).supply = s.supply ∧
    (s.setPodOf k v).temps = s.temps ∧ (s.setPodOf k v).health = s.health ∧ (s.setPodOf k v).links = s.links ∧ (s.setPodOf k v).funcs = s.funcs ∧
    (s.setPodOf k v).tags = s.tags ∧ (s.setPodOf k v).fnMbx = s.fnMbx ∧ (s.setPodOf k v).agentMbx = s.agentMbx ∧ (s.setPodOf k v).cmdqs = s.cmdqs ∧
    (s.setPodOf k v).journal = s.journal ∧ (s.setPodOf k v).protect = s.protect ∧ (s.setPodOf k v).errors = s.errors ∧
    (s.setPodOf k v).dram = s.dram ∧ (s.setPodOf k v).sram = s.sram ∧ (s.setPodOf k v).ledgers = s.ledgers ∧ (s.setPodOf k v).ports = s.ports ∧
    (s.setPodOf k v).portBlocks = s.portBlocks ∧ (s.setPodOf k v).synce = s.synce ∧ (s.setPodOf k v).banks = s.banks ∧
    (s.setPodOf k v).pipes = s.pipes ∧ (s.setPodOf k v).flight = s.flight ∧ (s.setPodOf k v).nextPkt = s.nextPkt ∧ (s.setPodOf k v).tempo = s.tempo ∧
    (s.setPodOf k v).tms = s.tms ∧ (s.setPodOf k v).fabric = s.fabric ∧ (s.setPodOf k v).linkEnds = s.linkEnds ∧
    (s.setPodOf k v).nextMsg = s.nextMsg ∧ (s.setPodOf k v).timeModel = s.timeModel ∧ (s.setPodOf k v).pps = s.pps ∧
    (s.setPodOf k v).times = s.times ∧ (s.setPodOf k v).ciphers = s.ciphers ∧ (s.setPodOf k v).queues = s.queues ∧
    (s.setPodOf k v).channels = s.channels ∧ (s.setPodOf k v).nvmes = s.nvmes ∧ (s.setPodOf k v).storages = s.storages ∧
    (s.setPodOf k v).partitions = s.partitions ∧ (s.setPodOf k v).twins = s.twins ∧ (s.setPodOf k v).threads = s.threads ∧
    (s.setPodOf k v).locks = s.locks ∧ (s.setPodOf k v).chans = s.chans ∧ (s.setPodOf k v).seqs = s.seqs ∧ (s.setPodOf k v).contexts = s.contexts ∧
    (s.setPodOf k v).seqCounters = s.seqCounters ∧ (s.setPodOf k v).patch = s.patch ∧ (s.setPodOf k v).mem = s.mem ∧ (s.setPodOf k v).out = s.out ∧
    (s.setPodOf k v).freeCtr = s.freeCtr ∧ (s.setPodOf k v).pending = s.pending ∧ State.dieTemp (s.setPodOf k v) = s.dieTemp ∧
    State.dieHealth (s.setPodOf k v) = s.dieHealth ∧ State.link (s.setPodOf k v) = s.link ∧ State.func (s.setPodOf k v) = s.func ∧
    State.fnBox (s.setPodOf k v) = s.fnBox ∧ State.agentBox (s.setPodOf k v) = s.agentBox ∧ State.cmdq (s.setPodOf k v) = s.cmdq ∧
    State.dramMark (s.setPodOf k v) = s.dramMark ∧ State.sramBank (s.setPodOf k v) = s.sramBank ∧ State.ledger (s.setPodOf k v) = s.ledger ∧
    State.port (s.setPodOf k v) = s.port ∧ State.portBlock (s.setPodOf k v) = s.portBlock ∧ State.bankOf (s.setPodOf k v) = s.bankOf ∧
    State.pipe (s.setPodOf k v) = s.pipe ∧ State.tm (s.setPodOf k v) = s.tm ∧ State.laneOf (s.setPodOf k v) = s.laneOf ∧
    State.dieTime (s.setPodOf k v) = s.dieTime ∧ State.cipherOf (s.setPodOf k v) = s.cipherOf ∧ State.dmaCh (s.setPodOf k v) = s.dmaCh ∧
    State.nvme (s.setPodOf k v) = s.nvme ∧ State.storage (s.setPodOf k v) = s.storage ∧ State.thread (s.setPodOf k v) = s.thread ∧
    State.lockOf (s.setPodOf k v) = s.lockOf ∧ State.chanOf (s.setPodOf k v) = s.chanOf ∧ State.seqOf (s.setPodOf k v) = s.seqOf ∧
    State.context (s.setPodOf k v) = s.context := by
  repeat (first | exact rfl | refine ⟨rfl, ?_⟩)

@[simp] theorem State.podOf_setPodOf (s : State) (k : Nat) (v : Pod) (n : Nat) :
    (s.setPodOf k v).podOf n = if n = k then v else s.podOf n := Tbl.look_put _ _ _ _ _

@[simp] theorem State.modPodOf_keeps (s : State) (k : Nat) (f : Pod → Pod) :
    (s.modPodOf k f).boot = s.boot ∧ (s.modPodOf k f).roles = s.roles ∧ (s.modPodOf k f).chain = s.chain ∧ (s.modPodOf k f).supply = s.supply ∧
    (s.modPodOf k f).temps = s.temps ∧ (s.modPodOf k f).health = s.health ∧ (s.modPodOf k f).links = s.links ∧ (s.modPodOf k f).funcs = s.funcs ∧
    (s.modPodOf k f).tags = s.tags ∧ (s.modPodOf k f).fnMbx = s.fnMbx ∧ (s.modPodOf k f).agentMbx = s.agentMbx ∧ (s.modPodOf k f).cmdqs = s.cmdqs ∧
    (s.modPodOf k f).journal = s.journal ∧ (s.modPodOf k f).protect = s.protect ∧ (s.modPodOf k f).errors = s.errors ∧
    (s.modPodOf k f).dram = s.dram ∧ (s.modPodOf k f).sram = s.sram ∧ (s.modPodOf k f).ledgers = s.ledgers ∧ (s.modPodOf k f).ports = s.ports ∧
    (s.modPodOf k f).portBlocks = s.portBlocks ∧ (s.modPodOf k f).synce = s.synce ∧ (s.modPodOf k f).banks = s.banks ∧
    (s.modPodOf k f).pipes = s.pipes ∧ (s.modPodOf k f).flight = s.flight ∧ (s.modPodOf k f).nextPkt = s.nextPkt ∧ (s.modPodOf k f).tempo = s.tempo ∧
    (s.modPodOf k f).tms = s.tms ∧ (s.modPodOf k f).fabric = s.fabric ∧ (s.modPodOf k f).linkEnds = s.linkEnds ∧
    (s.modPodOf k f).nextMsg = s.nextMsg ∧ (s.modPodOf k f).timeModel = s.timeModel ∧ (s.modPodOf k f).pps = s.pps ∧
    (s.modPodOf k f).times = s.times ∧ (s.modPodOf k f).ciphers = s.ciphers ∧ (s.modPodOf k f).queues = s.queues ∧
    (s.modPodOf k f).channels = s.channels ∧ (s.modPodOf k f).nvmes = s.nvmes ∧ (s.modPodOf k f).storages = s.storages ∧
    (s.modPodOf k f).partitions = s.partitions ∧ (s.modPodOf k f).twins = s.twins ∧ (s.modPodOf k f).threads = s.threads ∧
    (s.modPodOf k f).locks = s.locks ∧ (s.modPodOf k f).chans = s.chans ∧ (s.modPodOf k f).seqs = s.seqs ∧ (s.modPodOf k f).contexts = s.contexts ∧
    (s.modPodOf k f).seqCounters = s.seqCounters ∧ (s.modPodOf k f).patch = s.patch ∧ (s.modPodOf k f).mem = s.mem ∧ (s.modPodOf k f).out = s.out ∧
    (s.modPodOf k f).freeCtr = s.freeCtr ∧ (s.modPodOf k f).pending = s.pending ∧ State.dieTemp (s.modPodOf k f) = s.dieTemp ∧
    State.dieHealth (s.modPodOf k f) = s.dieHealth ∧ State.link (s.modPodOf k f) = s.link ∧ State.func (s.modPodOf k f) = s.func ∧
    State.fnBox (s.modPodOf k f) = s.fnBox ∧ State.agentBox (s.modPodOf k f) = s.agentBox ∧ State.cmdq (s.modPodOf k f) = s.cmdq ∧
    State.dramMark (s.modPodOf k f) = s.dramMark ∧ State.sramBank (s.modPodOf k f) = s.sramBank ∧ State.ledger (s.modPodOf k f) = s.ledger ∧
    State.port (s.modPodOf k f) = s.port ∧ State.portBlock (s.modPodOf k f) = s.portBlock ∧ State.bankOf (s.modPodOf k f) = s.bankOf ∧
    State.pipe (s.modPodOf k f) = s.pipe ∧ State.tm (s.modPodOf k f) = s.tm ∧ State.laneOf (s.modPodOf k f) = s.laneOf ∧
    State.dieTime (s.modPodOf k f) = s.dieTime ∧ State.cipherOf (s.modPodOf k f) = s.cipherOf ∧ State.dmaCh (s.modPodOf k f) = s.dmaCh ∧
    State.nvme (s.modPodOf k f) = s.nvme ∧ State.storage (s.modPodOf k f) = s.storage ∧ State.thread (s.modPodOf k f) = s.thread ∧
    State.lockOf (s.modPodOf k f) = s.lockOf ∧ State.chanOf (s.modPodOf k f) = s.chanOf ∧ State.seqOf (s.modPodOf k f) = s.seqOf ∧
    State.context (s.modPodOf k f) = s.context := by
  repeat (first | exact rfl | refine ⟨rfl, ?_⟩)

@[simp] theorem State.podOf_modPodOf (s : State) (k : Nat) (f : Pod → Pod) (n : Nat) :
    (s.modPodOf k f).podOf n = if n = k then f (s.podOf k) else s.podOf n := Tbl.look_put _ _ _ _ _

@[simp] theorem State.setThread_keeps (s : State) (k : Nat) (v : Thread) :
    (s.setThread k v).boot = s.boot ∧ (s.setThread k v).roles = s.roles ∧ (s.setThread k v).chain = s.chain ∧ (s.setThread k v).supply = s.supply ∧
    (s.setThread k v).temps = s.temps ∧ (s.setThread k v).health = s.health ∧ (s.setThread k v).links = s.links ∧ (s.setThread k v).funcs = s.funcs ∧
    (s.setThread k v).tags = s.tags ∧ (s.setThread k v).fnMbx = s.fnMbx ∧ (s.setThread k v).agentMbx = s.agentMbx ∧
    (s.setThread k v).cmdqs = s.cmdqs ∧ (s.setThread k v).journal = s.journal ∧ (s.setThread k v).protect = s.protect ∧
    (s.setThread k v).errors = s.errors ∧ (s.setThread k v).dram = s.dram ∧ (s.setThread k v).sram = s.sram ∧ (s.setThread k v).ledgers = s.ledgers ∧
    (s.setThread k v).ports = s.ports ∧ (s.setThread k v).portBlocks = s.portBlocks ∧ (s.setThread k v).synce = s.synce ∧
    (s.setThread k v).banks = s.banks ∧ (s.setThread k v).pipes = s.pipes ∧ (s.setThread k v).flight = s.flight ∧
    (s.setThread k v).nextPkt = s.nextPkt ∧ (s.setThread k v).tempo = s.tempo ∧ (s.setThread k v).tms = s.tms ∧ (s.setThread k v).fabric = s.fabric ∧
    (s.setThread k v).linkEnds = s.linkEnds ∧ (s.setThread k v).nextMsg = s.nextMsg ∧ (s.setThread k v).timeModel = s.timeModel ∧
    (s.setThread k v).pps = s.pps ∧ (s.setThread k v).times = s.times ∧ (s.setThread k v).ciphers = s.ciphers ∧ (s.setThread k v).queues = s.queues ∧
    (s.setThread k v).channels = s.channels ∧ (s.setThread k v).nvmes = s.nvmes ∧ (s.setThread k v).storages = s.storages ∧
    (s.setThread k v).partitions = s.partitions ∧ (s.setThread k v).twins = s.twins ∧ (s.setThread k v).pods = s.pods ∧
    (s.setThread k v).locks = s.locks ∧ (s.setThread k v).chans = s.chans ∧ (s.setThread k v).seqs = s.seqs ∧
    (s.setThread k v).contexts = s.contexts ∧ (s.setThread k v).seqCounters = s.seqCounters ∧ (s.setThread k v).patch = s.patch ∧
    (s.setThread k v).mem = s.mem ∧ (s.setThread k v).out = s.out ∧ (s.setThread k v).freeCtr = s.freeCtr ∧ (s.setThread k v).pending = s.pending ∧
    State.dieTemp (s.setThread k v) = s.dieTemp ∧ State.dieHealth (s.setThread k v) = s.dieHealth ∧ State.link (s.setThread k v) = s.link ∧
    State.func (s.setThread k v) = s.func ∧ State.fnBox (s.setThread k v) = s.fnBox ∧ State.agentBox (s.setThread k v) = s.agentBox ∧
    State.cmdq (s.setThread k v) = s.cmdq ∧ State.dramMark (s.setThread k v) = s.dramMark ∧ State.sramBank (s.setThread k v) = s.sramBank ∧
    State.ledger (s.setThread k v) = s.ledger ∧ State.port (s.setThread k v) = s.port ∧ State.portBlock (s.setThread k v) = s.portBlock ∧
    State.bankOf (s.setThread k v) = s.bankOf ∧ State.pipe (s.setThread k v) = s.pipe ∧ State.tm (s.setThread k v) = s.tm ∧
    State.laneOf (s.setThread k v) = s.laneOf ∧ State.dieTime (s.setThread k v) = s.dieTime ∧ State.cipherOf (s.setThread k v) = s.cipherOf ∧
    State.dmaCh (s.setThread k v) = s.dmaCh ∧ State.nvme (s.setThread k v) = s.nvme ∧ State.storage (s.setThread k v) = s.storage ∧
    State.podOf (s.setThread k v) = s.podOf ∧ State.lockOf (s.setThread k v) = s.lockOf ∧ State.chanOf (s.setThread k v) = s.chanOf ∧
    State.seqOf (s.setThread k v) = s.seqOf ∧ State.context (s.setThread k v) = s.context := by
  repeat (first | exact rfl | refine ⟨rfl, ?_⟩)

@[simp] theorem State.thread_setThread (s : State) (k : Nat) (v : Thread) (n : Nat) :
    (s.setThread k v).thread n = if n = k then v else s.thread n := Tbl.look_put _ _ _ _ _

@[simp] theorem State.modThread_keeps (s : State) (k : Nat) (f : Thread → Thread) :
    (s.modThread k f).boot = s.boot ∧ (s.modThread k f).roles = s.roles ∧ (s.modThread k f).chain = s.chain ∧ (s.modThread k f).supply = s.supply ∧
    (s.modThread k f).temps = s.temps ∧ (s.modThread k f).health = s.health ∧ (s.modThread k f).links = s.links ∧ (s.modThread k f).funcs = s.funcs ∧
    (s.modThread k f).tags = s.tags ∧ (s.modThread k f).fnMbx = s.fnMbx ∧ (s.modThread k f).agentMbx = s.agentMbx ∧
    (s.modThread k f).cmdqs = s.cmdqs ∧ (s.modThread k f).journal = s.journal ∧ (s.modThread k f).protect = s.protect ∧
    (s.modThread k f).errors = s.errors ∧ (s.modThread k f).dram = s.dram ∧ (s.modThread k f).sram = s.sram ∧ (s.modThread k f).ledgers = s.ledgers ∧
    (s.modThread k f).ports = s.ports ∧ (s.modThread k f).portBlocks = s.portBlocks ∧ (s.modThread k f).synce = s.synce ∧
    (s.modThread k f).banks = s.banks ∧ (s.modThread k f).pipes = s.pipes ∧ (s.modThread k f).flight = s.flight ∧
    (s.modThread k f).nextPkt = s.nextPkt ∧ (s.modThread k f).tempo = s.tempo ∧ (s.modThread k f).tms = s.tms ∧ (s.modThread k f).fabric = s.fabric ∧
    (s.modThread k f).linkEnds = s.linkEnds ∧ (s.modThread k f).nextMsg = s.nextMsg ∧ (s.modThread k f).timeModel = s.timeModel ∧
    (s.modThread k f).pps = s.pps ∧ (s.modThread k f).times = s.times ∧ (s.modThread k f).ciphers = s.ciphers ∧ (s.modThread k f).queues = s.queues ∧
    (s.modThread k f).channels = s.channels ∧ (s.modThread k f).nvmes = s.nvmes ∧ (s.modThread k f).storages = s.storages ∧
    (s.modThread k f).partitions = s.partitions ∧ (s.modThread k f).twins = s.twins ∧ (s.modThread k f).pods = s.pods ∧
    (s.modThread k f).locks = s.locks ∧ (s.modThread k f).chans = s.chans ∧ (s.modThread k f).seqs = s.seqs ∧
    (s.modThread k f).contexts = s.contexts ∧ (s.modThread k f).seqCounters = s.seqCounters ∧ (s.modThread k f).patch = s.patch ∧
    (s.modThread k f).mem = s.mem ∧ (s.modThread k f).out = s.out ∧ (s.modThread k f).freeCtr = s.freeCtr ∧ (s.modThread k f).pending = s.pending ∧
    State.dieTemp (s.modThread k f) = s.dieTemp ∧ State.dieHealth (s.modThread k f) = s.dieHealth ∧ State.link (s.modThread k f) = s.link ∧
    State.func (s.modThread k f) = s.func ∧ State.fnBox (s.modThread k f) = s.fnBox ∧ State.agentBox (s.modThread k f) = s.agentBox ∧
    State.cmdq (s.modThread k f) = s.cmdq ∧ State.dramMark (s.modThread k f) = s.dramMark ∧ State.sramBank (s.modThread k f) = s.sramBank ∧
    State.ledger (s.modThread k f) = s.ledger ∧ State.port (s.modThread k f) = s.port ∧ State.portBlock (s.modThread k f) = s.portBlock ∧
    State.bankOf (s.modThread k f) = s.bankOf ∧ State.pipe (s.modThread k f) = s.pipe ∧ State.tm (s.modThread k f) = s.tm ∧
    State.laneOf (s.modThread k f) = s.laneOf ∧ State.dieTime (s.modThread k f) = s.dieTime ∧ State.cipherOf (s.modThread k f) = s.cipherOf ∧
    State.dmaCh (s.modThread k f) = s.dmaCh ∧ State.nvme (s.modThread k f) = s.nvme ∧ State.storage (s.modThread k f) = s.storage ∧
    State.podOf (s.modThread k f) = s.podOf ∧ State.lockOf (s.modThread k f) = s.lockOf ∧ State.chanOf (s.modThread k f) = s.chanOf ∧
    State.seqOf (s.modThread k f) = s.seqOf ∧ State.context (s.modThread k f) = s.context := by
  repeat (first | exact rfl | refine ⟨rfl, ?_⟩)

@[simp] theorem State.thread_modThread (s : State) (k : Nat) (f : Thread → Thread) (n : Nat) :
    (s.modThread k f).thread n = if n = k then f (s.thread k) else s.thread n := Tbl.look_put _ _ _ _ _

@[simp] theorem State.setLockOf_keeps (s : State) (k : Nat) (v : Lock) :
    (s.setLockOf k v).boot = s.boot ∧ (s.setLockOf k v).roles = s.roles ∧ (s.setLockOf k v).chain = s.chain ∧ (s.setLockOf k v).supply = s.supply ∧
    (s.setLockOf k v).temps = s.temps ∧ (s.setLockOf k v).health = s.health ∧ (s.setLockOf k v).links = s.links ∧ (s.setLockOf k v).funcs = s.funcs ∧
    (s.setLockOf k v).tags = s.tags ∧ (s.setLockOf k v).fnMbx = s.fnMbx ∧ (s.setLockOf k v).agentMbx = s.agentMbx ∧
    (s.setLockOf k v).cmdqs = s.cmdqs ∧ (s.setLockOf k v).journal = s.journal ∧ (s.setLockOf k v).protect = s.protect ∧
    (s.setLockOf k v).errors = s.errors ∧ (s.setLockOf k v).dram = s.dram ∧ (s.setLockOf k v).sram = s.sram ∧ (s.setLockOf k v).ledgers = s.ledgers ∧
    (s.setLockOf k v).ports = s.ports ∧ (s.setLockOf k v).portBlocks = s.portBlocks ∧ (s.setLockOf k v).synce = s.synce ∧
    (s.setLockOf k v).banks = s.banks ∧ (s.setLockOf k v).pipes = s.pipes ∧ (s.setLockOf k v).flight = s.flight ∧
    (s.setLockOf k v).nextPkt = s.nextPkt ∧ (s.setLockOf k v).tempo = s.tempo ∧ (s.setLockOf k v).tms = s.tms ∧ (s.setLockOf k v).fabric = s.fabric ∧
    (s.setLockOf k v).linkEnds = s.linkEnds ∧ (s.setLockOf k v).nextMsg = s.nextMsg ∧ (s.setLockOf k v).timeModel = s.timeModel ∧
    (s.setLockOf k v).pps = s.pps ∧ (s.setLockOf k v).times = s.times ∧ (s.setLockOf k v).ciphers = s.ciphers ∧ (s.setLockOf k v).queues = s.queues ∧
    (s.setLockOf k v).channels = s.channels ∧ (s.setLockOf k v).nvmes = s.nvmes ∧ (s.setLockOf k v).storages = s.storages ∧
    (s.setLockOf k v).partitions = s.partitions ∧ (s.setLockOf k v).twins = s.twins ∧ (s.setLockOf k v).pods = s.pods ∧
    (s.setLockOf k v).threads = s.threads ∧ (s.setLockOf k v).chans = s.chans ∧ (s.setLockOf k v).seqs = s.seqs ∧
    (s.setLockOf k v).contexts = s.contexts ∧ (s.setLockOf k v).seqCounters = s.seqCounters ∧ (s.setLockOf k v).patch = s.patch ∧
    (s.setLockOf k v).mem = s.mem ∧ (s.setLockOf k v).out = s.out ∧ (s.setLockOf k v).freeCtr = s.freeCtr ∧ (s.setLockOf k v).pending = s.pending ∧
    State.dieTemp (s.setLockOf k v) = s.dieTemp ∧ State.dieHealth (s.setLockOf k v) = s.dieHealth ∧ State.link (s.setLockOf k v) = s.link ∧
    State.func (s.setLockOf k v) = s.func ∧ State.fnBox (s.setLockOf k v) = s.fnBox ∧ State.agentBox (s.setLockOf k v) = s.agentBox ∧
    State.cmdq (s.setLockOf k v) = s.cmdq ∧ State.dramMark (s.setLockOf k v) = s.dramMark ∧ State.sramBank (s.setLockOf k v) = s.sramBank ∧
    State.ledger (s.setLockOf k v) = s.ledger ∧ State.port (s.setLockOf k v) = s.port ∧ State.portBlock (s.setLockOf k v) = s.portBlock ∧
    State.bankOf (s.setLockOf k v) = s.bankOf ∧ State.pipe (s.setLockOf k v) = s.pipe ∧ State.tm (s.setLockOf k v) = s.tm ∧
    State.laneOf (s.setLockOf k v) = s.laneOf ∧ State.dieTime (s.setLockOf k v) = s.dieTime ∧ State.cipherOf (s.setLockOf k v) = s.cipherOf ∧
    State.dmaCh (s.setLockOf k v) = s.dmaCh ∧ State.nvme (s.setLockOf k v) = s.nvme ∧ State.storage (s.setLockOf k v) = s.storage ∧
    State.podOf (s.setLockOf k v) = s.podOf ∧ State.thread (s.setLockOf k v) = s.thread ∧ State.chanOf (s.setLockOf k v) = s.chanOf ∧
    State.seqOf (s.setLockOf k v) = s.seqOf ∧ State.context (s.setLockOf k v) = s.context := by
  repeat (first | exact rfl | refine ⟨rfl, ?_⟩)

@[simp] theorem State.lockOf_setLockOf (s : State) (k : Nat) (v : Lock) (n : Nat) :
    (s.setLockOf k v).lockOf n = if n = k then v else s.lockOf n := Tbl.look_put _ _ _ _ _

@[simp] theorem State.modLockOf_keeps (s : State) (k : Nat) (f : Lock → Lock) :
    (s.modLockOf k f).boot = s.boot ∧ (s.modLockOf k f).roles = s.roles ∧ (s.modLockOf k f).chain = s.chain ∧ (s.modLockOf k f).supply = s.supply ∧
    (s.modLockOf k f).temps = s.temps ∧ (s.modLockOf k f).health = s.health ∧ (s.modLockOf k f).links = s.links ∧ (s.modLockOf k f).funcs = s.funcs ∧
    (s.modLockOf k f).tags = s.tags ∧ (s.modLockOf k f).fnMbx = s.fnMbx ∧ (s.modLockOf k f).agentMbx = s.agentMbx ∧
    (s.modLockOf k f).cmdqs = s.cmdqs ∧ (s.modLockOf k f).journal = s.journal ∧ (s.modLockOf k f).protect = s.protect ∧
    (s.modLockOf k f).errors = s.errors ∧ (s.modLockOf k f).dram = s.dram ∧ (s.modLockOf k f).sram = s.sram ∧ (s.modLockOf k f).ledgers = s.ledgers ∧
    (s.modLockOf k f).ports = s.ports ∧ (s.modLockOf k f).portBlocks = s.portBlocks ∧ (s.modLockOf k f).synce = s.synce ∧
    (s.modLockOf k f).banks = s.banks ∧ (s.modLockOf k f).pipes = s.pipes ∧ (s.modLockOf k f).flight = s.flight ∧
    (s.modLockOf k f).nextPkt = s.nextPkt ∧ (s.modLockOf k f).tempo = s.tempo ∧ (s.modLockOf k f).tms = s.tms ∧ (s.modLockOf k f).fabric = s.fabric ∧
    (s.modLockOf k f).linkEnds = s.linkEnds ∧ (s.modLockOf k f).nextMsg = s.nextMsg ∧ (s.modLockOf k f).timeModel = s.timeModel ∧
    (s.modLockOf k f).pps = s.pps ∧ (s.modLockOf k f).times = s.times ∧ (s.modLockOf k f).ciphers = s.ciphers ∧ (s.modLockOf k f).queues = s.queues ∧
    (s.modLockOf k f).channels = s.channels ∧ (s.modLockOf k f).nvmes = s.nvmes ∧ (s.modLockOf k f).storages = s.storages ∧
    (s.modLockOf k f).partitions = s.partitions ∧ (s.modLockOf k f).twins = s.twins ∧ (s.modLockOf k f).pods = s.pods ∧
    (s.modLockOf k f).threads = s.threads ∧ (s.modLockOf k f).chans = s.chans ∧ (s.modLockOf k f).seqs = s.seqs ∧
    (s.modLockOf k f).contexts = s.contexts ∧ (s.modLockOf k f).seqCounters = s.seqCounters ∧ (s.modLockOf k f).patch = s.patch ∧
    (s.modLockOf k f).mem = s.mem ∧ (s.modLockOf k f).out = s.out ∧ (s.modLockOf k f).freeCtr = s.freeCtr ∧ (s.modLockOf k f).pending = s.pending ∧
    State.dieTemp (s.modLockOf k f) = s.dieTemp ∧ State.dieHealth (s.modLockOf k f) = s.dieHealth ∧ State.link (s.modLockOf k f) = s.link ∧
    State.func (s.modLockOf k f) = s.func ∧ State.fnBox (s.modLockOf k f) = s.fnBox ∧ State.agentBox (s.modLockOf k f) = s.agentBox ∧
    State.cmdq (s.modLockOf k f) = s.cmdq ∧ State.dramMark (s.modLockOf k f) = s.dramMark ∧ State.sramBank (s.modLockOf k f) = s.sramBank ∧
    State.ledger (s.modLockOf k f) = s.ledger ∧ State.port (s.modLockOf k f) = s.port ∧ State.portBlock (s.modLockOf k f) = s.portBlock ∧
    State.bankOf (s.modLockOf k f) = s.bankOf ∧ State.pipe (s.modLockOf k f) = s.pipe ∧ State.tm (s.modLockOf k f) = s.tm ∧
    State.laneOf (s.modLockOf k f) = s.laneOf ∧ State.dieTime (s.modLockOf k f) = s.dieTime ∧ State.cipherOf (s.modLockOf k f) = s.cipherOf ∧
    State.dmaCh (s.modLockOf k f) = s.dmaCh ∧ State.nvme (s.modLockOf k f) = s.nvme ∧ State.storage (s.modLockOf k f) = s.storage ∧
    State.podOf (s.modLockOf k f) = s.podOf ∧ State.thread (s.modLockOf k f) = s.thread ∧ State.chanOf (s.modLockOf k f) = s.chanOf ∧
    State.seqOf (s.modLockOf k f) = s.seqOf ∧ State.context (s.modLockOf k f) = s.context := by
  repeat (first | exact rfl | refine ⟨rfl, ?_⟩)

@[simp] theorem State.lockOf_modLockOf (s : State) (k : Nat) (f : Lock → Lock) (n : Nat) :
    (s.modLockOf k f).lockOf n = if n = k then f (s.lockOf k) else s.lockOf n := Tbl.look_put _ _ _ _ _

@[simp] theorem State.setChanOf_keeps (s : State) (k : Nat) (v : Channel) :
    (s.setChanOf k v).boot = s.boot ∧ (s.setChanOf k v).roles = s.roles ∧ (s.setChanOf k v).chain = s.chain ∧ (s.setChanOf k v).supply = s.supply ∧
    (s.setChanOf k v).temps = s.temps ∧ (s.setChanOf k v).health = s.health ∧ (s.setChanOf k v).links = s.links ∧ (s.setChanOf k v).funcs = s.funcs ∧
    (s.setChanOf k v).tags = s.tags ∧ (s.setChanOf k v).fnMbx = s.fnMbx ∧ (s.setChanOf k v).agentMbx = s.agentMbx ∧
    (s.setChanOf k v).cmdqs = s.cmdqs ∧ (s.setChanOf k v).journal = s.journal ∧ (s.setChanOf k v).protect = s.protect ∧
    (s.setChanOf k v).errors = s.errors ∧ (s.setChanOf k v).dram = s.dram ∧ (s.setChanOf k v).sram = s.sram ∧ (s.setChanOf k v).ledgers = s.ledgers ∧
    (s.setChanOf k v).ports = s.ports ∧ (s.setChanOf k v).portBlocks = s.portBlocks ∧ (s.setChanOf k v).synce = s.synce ∧
    (s.setChanOf k v).banks = s.banks ∧ (s.setChanOf k v).pipes = s.pipes ∧ (s.setChanOf k v).flight = s.flight ∧
    (s.setChanOf k v).nextPkt = s.nextPkt ∧ (s.setChanOf k v).tempo = s.tempo ∧ (s.setChanOf k v).tms = s.tms ∧ (s.setChanOf k v).fabric = s.fabric ∧
    (s.setChanOf k v).linkEnds = s.linkEnds ∧ (s.setChanOf k v).nextMsg = s.nextMsg ∧ (s.setChanOf k v).timeModel = s.timeModel ∧
    (s.setChanOf k v).pps = s.pps ∧ (s.setChanOf k v).times = s.times ∧ (s.setChanOf k v).ciphers = s.ciphers ∧ (s.setChanOf k v).queues = s.queues ∧
    (s.setChanOf k v).channels = s.channels ∧ (s.setChanOf k v).nvmes = s.nvmes ∧ (s.setChanOf k v).storages = s.storages ∧
    (s.setChanOf k v).partitions = s.partitions ∧ (s.setChanOf k v).twins = s.twins ∧ (s.setChanOf k v).pods = s.pods ∧
    (s.setChanOf k v).threads = s.threads ∧ (s.setChanOf k v).locks = s.locks ∧ (s.setChanOf k v).seqs = s.seqs ∧
    (s.setChanOf k v).contexts = s.contexts ∧ (s.setChanOf k v).seqCounters = s.seqCounters ∧ (s.setChanOf k v).patch = s.patch ∧
    (s.setChanOf k v).mem = s.mem ∧ (s.setChanOf k v).out = s.out ∧ (s.setChanOf k v).freeCtr = s.freeCtr ∧ (s.setChanOf k v).pending = s.pending ∧
    State.dieTemp (s.setChanOf k v) = s.dieTemp ∧ State.dieHealth (s.setChanOf k v) = s.dieHealth ∧ State.link (s.setChanOf k v) = s.link ∧
    State.func (s.setChanOf k v) = s.func ∧ State.fnBox (s.setChanOf k v) = s.fnBox ∧ State.agentBox (s.setChanOf k v) = s.agentBox ∧
    State.cmdq (s.setChanOf k v) = s.cmdq ∧ State.dramMark (s.setChanOf k v) = s.dramMark ∧ State.sramBank (s.setChanOf k v) = s.sramBank ∧
    State.ledger (s.setChanOf k v) = s.ledger ∧ State.port (s.setChanOf k v) = s.port ∧ State.portBlock (s.setChanOf k v) = s.portBlock ∧
    State.bankOf (s.setChanOf k v) = s.bankOf ∧ State.pipe (s.setChanOf k v) = s.pipe ∧ State.tm (s.setChanOf k v) = s.tm ∧
    State.laneOf (s.setChanOf k v) = s.laneOf ∧ State.dieTime (s.setChanOf k v) = s.dieTime ∧ State.cipherOf (s.setChanOf k v) = s.cipherOf ∧
    State.dmaCh (s.setChanOf k v) = s.dmaCh ∧ State.nvme (s.setChanOf k v) = s.nvme ∧ State.storage (s.setChanOf k v) = s.storage ∧
    State.podOf (s.setChanOf k v) = s.podOf ∧ State.thread (s.setChanOf k v) = s.thread ∧ State.lockOf (s.setChanOf k v) = s.lockOf ∧
    State.seqOf (s.setChanOf k v) = s.seqOf ∧ State.context (s.setChanOf k v) = s.context := by
  repeat (first | exact rfl | refine ⟨rfl, ?_⟩)

@[simp] theorem State.chanOf_setChanOf (s : State) (k : Nat) (v : Channel) (n : Nat) :
    (s.setChanOf k v).chanOf n = if n = k then v else s.chanOf n := Tbl.look_put _ _ _ _ _

@[simp] theorem State.modChanOf_keeps (s : State) (k : Nat) (f : Channel → Channel) :
    (s.modChanOf k f).boot = s.boot ∧ (s.modChanOf k f).roles = s.roles ∧ (s.modChanOf k f).chain = s.chain ∧ (s.modChanOf k f).supply = s.supply ∧
    (s.modChanOf k f).temps = s.temps ∧ (s.modChanOf k f).health = s.health ∧ (s.modChanOf k f).links = s.links ∧ (s.modChanOf k f).funcs = s.funcs ∧
    (s.modChanOf k f).tags = s.tags ∧ (s.modChanOf k f).fnMbx = s.fnMbx ∧ (s.modChanOf k f).agentMbx = s.agentMbx ∧
    (s.modChanOf k f).cmdqs = s.cmdqs ∧ (s.modChanOf k f).journal = s.journal ∧ (s.modChanOf k f).protect = s.protect ∧
    (s.modChanOf k f).errors = s.errors ∧ (s.modChanOf k f).dram = s.dram ∧ (s.modChanOf k f).sram = s.sram ∧ (s.modChanOf k f).ledgers = s.ledgers ∧
    (s.modChanOf k f).ports = s.ports ∧ (s.modChanOf k f).portBlocks = s.portBlocks ∧ (s.modChanOf k f).synce = s.synce ∧
    (s.modChanOf k f).banks = s.banks ∧ (s.modChanOf k f).pipes = s.pipes ∧ (s.modChanOf k f).flight = s.flight ∧
    (s.modChanOf k f).nextPkt = s.nextPkt ∧ (s.modChanOf k f).tempo = s.tempo ∧ (s.modChanOf k f).tms = s.tms ∧ (s.modChanOf k f).fabric = s.fabric ∧
    (s.modChanOf k f).linkEnds = s.linkEnds ∧ (s.modChanOf k f).nextMsg = s.nextMsg ∧ (s.modChanOf k f).timeModel = s.timeModel ∧
    (s.modChanOf k f).pps = s.pps ∧ (s.modChanOf k f).times = s.times ∧ (s.modChanOf k f).ciphers = s.ciphers ∧ (s.modChanOf k f).queues = s.queues ∧
    (s.modChanOf k f).channels = s.channels ∧ (s.modChanOf k f).nvmes = s.nvmes ∧ (s.modChanOf k f).storages = s.storages ∧
    (s.modChanOf k f).partitions = s.partitions ∧ (s.modChanOf k f).twins = s.twins ∧ (s.modChanOf k f).pods = s.pods ∧
    (s.modChanOf k f).threads = s.threads ∧ (s.modChanOf k f).locks = s.locks ∧ (s.modChanOf k f).seqs = s.seqs ∧
    (s.modChanOf k f).contexts = s.contexts ∧ (s.modChanOf k f).seqCounters = s.seqCounters ∧ (s.modChanOf k f).patch = s.patch ∧
    (s.modChanOf k f).mem = s.mem ∧ (s.modChanOf k f).out = s.out ∧ (s.modChanOf k f).freeCtr = s.freeCtr ∧ (s.modChanOf k f).pending = s.pending ∧
    State.dieTemp (s.modChanOf k f) = s.dieTemp ∧ State.dieHealth (s.modChanOf k f) = s.dieHealth ∧ State.link (s.modChanOf k f) = s.link ∧
    State.func (s.modChanOf k f) = s.func ∧ State.fnBox (s.modChanOf k f) = s.fnBox ∧ State.agentBox (s.modChanOf k f) = s.agentBox ∧
    State.cmdq (s.modChanOf k f) = s.cmdq ∧ State.dramMark (s.modChanOf k f) = s.dramMark ∧ State.sramBank (s.modChanOf k f) = s.sramBank ∧
    State.ledger (s.modChanOf k f) = s.ledger ∧ State.port (s.modChanOf k f) = s.port ∧ State.portBlock (s.modChanOf k f) = s.portBlock ∧
    State.bankOf (s.modChanOf k f) = s.bankOf ∧ State.pipe (s.modChanOf k f) = s.pipe ∧ State.tm (s.modChanOf k f) = s.tm ∧
    State.laneOf (s.modChanOf k f) = s.laneOf ∧ State.dieTime (s.modChanOf k f) = s.dieTime ∧ State.cipherOf (s.modChanOf k f) = s.cipherOf ∧
    State.dmaCh (s.modChanOf k f) = s.dmaCh ∧ State.nvme (s.modChanOf k f) = s.nvme ∧ State.storage (s.modChanOf k f) = s.storage ∧
    State.podOf (s.modChanOf k f) = s.podOf ∧ State.thread (s.modChanOf k f) = s.thread ∧ State.lockOf (s.modChanOf k f) = s.lockOf ∧
    State.seqOf (s.modChanOf k f) = s.seqOf ∧ State.context (s.modChanOf k f) = s.context := by
  repeat (first | exact rfl | refine ⟨rfl, ?_⟩)

@[simp] theorem State.chanOf_modChanOf (s : State) (k : Nat) (f : Channel → Channel) (n : Nat) :
    (s.modChanOf k f).chanOf n = if n = k then f (s.chanOf k) else s.chanOf n := Tbl.look_put _ _ _ _ _

@[simp] theorem State.setSeqOf_keeps (s : State) (k : Nat) (v : Sequencer) :
    (s.setSeqOf k v).boot = s.boot ∧ (s.setSeqOf k v).roles = s.roles ∧ (s.setSeqOf k v).chain = s.chain ∧ (s.setSeqOf k v).supply = s.supply ∧
    (s.setSeqOf k v).temps = s.temps ∧ (s.setSeqOf k v).health = s.health ∧ (s.setSeqOf k v).links = s.links ∧ (s.setSeqOf k v).funcs = s.funcs ∧
    (s.setSeqOf k v).tags = s.tags ∧ (s.setSeqOf k v).fnMbx = s.fnMbx ∧ (s.setSeqOf k v).agentMbx = s.agentMbx ∧ (s.setSeqOf k v).cmdqs = s.cmdqs ∧
    (s.setSeqOf k v).journal = s.journal ∧ (s.setSeqOf k v).protect = s.protect ∧ (s.setSeqOf k v).errors = s.errors ∧
    (s.setSeqOf k v).dram = s.dram ∧ (s.setSeqOf k v).sram = s.sram ∧ (s.setSeqOf k v).ledgers = s.ledgers ∧ (s.setSeqOf k v).ports = s.ports ∧
    (s.setSeqOf k v).portBlocks = s.portBlocks ∧ (s.setSeqOf k v).synce = s.synce ∧ (s.setSeqOf k v).banks = s.banks ∧
    (s.setSeqOf k v).pipes = s.pipes ∧ (s.setSeqOf k v).flight = s.flight ∧ (s.setSeqOf k v).nextPkt = s.nextPkt ∧ (s.setSeqOf k v).tempo = s.tempo ∧
    (s.setSeqOf k v).tms = s.tms ∧ (s.setSeqOf k v).fabric = s.fabric ∧ (s.setSeqOf k v).linkEnds = s.linkEnds ∧
    (s.setSeqOf k v).nextMsg = s.nextMsg ∧ (s.setSeqOf k v).timeModel = s.timeModel ∧ (s.setSeqOf k v).pps = s.pps ∧
    (s.setSeqOf k v).times = s.times ∧ (s.setSeqOf k v).ciphers = s.ciphers ∧ (s.setSeqOf k v).queues = s.queues ∧
    (s.setSeqOf k v).channels = s.channels ∧ (s.setSeqOf k v).nvmes = s.nvmes ∧ (s.setSeqOf k v).storages = s.storages ∧
    (s.setSeqOf k v).partitions = s.partitions ∧ (s.setSeqOf k v).twins = s.twins ∧ (s.setSeqOf k v).pods = s.pods ∧
    (s.setSeqOf k v).threads = s.threads ∧ (s.setSeqOf k v).locks = s.locks ∧ (s.setSeqOf k v).chans = s.chans ∧
    (s.setSeqOf k v).contexts = s.contexts ∧ (s.setSeqOf k v).seqCounters = s.seqCounters ∧ (s.setSeqOf k v).patch = s.patch ∧
    (s.setSeqOf k v).mem = s.mem ∧ (s.setSeqOf k v).out = s.out ∧ (s.setSeqOf k v).freeCtr = s.freeCtr ∧ (s.setSeqOf k v).pending = s.pending ∧
    State.dieTemp (s.setSeqOf k v) = s.dieTemp ∧ State.dieHealth (s.setSeqOf k v) = s.dieHealth ∧ State.link (s.setSeqOf k v) = s.link ∧
    State.func (s.setSeqOf k v) = s.func ∧ State.fnBox (s.setSeqOf k v) = s.fnBox ∧ State.agentBox (s.setSeqOf k v) = s.agentBox ∧
    State.cmdq (s.setSeqOf k v) = s.cmdq ∧ State.dramMark (s.setSeqOf k v) = s.dramMark ∧ State.sramBank (s.setSeqOf k v) = s.sramBank ∧
    State.ledger (s.setSeqOf k v) = s.ledger ∧ State.port (s.setSeqOf k v) = s.port ∧ State.portBlock (s.setSeqOf k v) = s.portBlock ∧
    State.bankOf (s.setSeqOf k v) = s.bankOf ∧ State.pipe (s.setSeqOf k v) = s.pipe ∧ State.tm (s.setSeqOf k v) = s.tm ∧
    State.laneOf (s.setSeqOf k v) = s.laneOf ∧ State.dieTime (s.setSeqOf k v) = s.dieTime ∧ State.cipherOf (s.setSeqOf k v) = s.cipherOf ∧
    State.dmaCh (s.setSeqOf k v) = s.dmaCh ∧ State.nvme (s.setSeqOf k v) = s.nvme ∧ State.storage (s.setSeqOf k v) = s.storage ∧
    State.podOf (s.setSeqOf k v) = s.podOf ∧ State.thread (s.setSeqOf k v) = s.thread ∧ State.lockOf (s.setSeqOf k v) = s.lockOf ∧
    State.chanOf (s.setSeqOf k v) = s.chanOf ∧ State.context (s.setSeqOf k v) = s.context := by
  repeat (first | exact rfl | refine ⟨rfl, ?_⟩)

@[simp] theorem State.seqOf_setSeqOf (s : State) (k : Nat) (v : Sequencer) (n : Nat) :
    (s.setSeqOf k v).seqOf n = if n = k then v else s.seqOf n := Tbl.look_put _ _ _ _ _

@[simp] theorem State.modSeqOf_keeps (s : State) (k : Nat) (f : Sequencer → Sequencer) :
    (s.modSeqOf k f).boot = s.boot ∧ (s.modSeqOf k f).roles = s.roles ∧ (s.modSeqOf k f).chain = s.chain ∧ (s.modSeqOf k f).supply = s.supply ∧
    (s.modSeqOf k f).temps = s.temps ∧ (s.modSeqOf k f).health = s.health ∧ (s.modSeqOf k f).links = s.links ∧ (s.modSeqOf k f).funcs = s.funcs ∧
    (s.modSeqOf k f).tags = s.tags ∧ (s.modSeqOf k f).fnMbx = s.fnMbx ∧ (s.modSeqOf k f).agentMbx = s.agentMbx ∧ (s.modSeqOf k f).cmdqs = s.cmdqs ∧
    (s.modSeqOf k f).journal = s.journal ∧ (s.modSeqOf k f).protect = s.protect ∧ (s.modSeqOf k f).errors = s.errors ∧
    (s.modSeqOf k f).dram = s.dram ∧ (s.modSeqOf k f).sram = s.sram ∧ (s.modSeqOf k f).ledgers = s.ledgers ∧ (s.modSeqOf k f).ports = s.ports ∧
    (s.modSeqOf k f).portBlocks = s.portBlocks ∧ (s.modSeqOf k f).synce = s.synce ∧ (s.modSeqOf k f).banks = s.banks ∧
    (s.modSeqOf k f).pipes = s.pipes ∧ (s.modSeqOf k f).flight = s.flight ∧ (s.modSeqOf k f).nextPkt = s.nextPkt ∧ (s.modSeqOf k f).tempo = s.tempo ∧
    (s.modSeqOf k f).tms = s.tms ∧ (s.modSeqOf k f).fabric = s.fabric ∧ (s.modSeqOf k f).linkEnds = s.linkEnds ∧
    (s.modSeqOf k f).nextMsg = s.nextMsg ∧ (s.modSeqOf k f).timeModel = s.timeModel ∧ (s.modSeqOf k f).pps = s.pps ∧
    (s.modSeqOf k f).times = s.times ∧ (s.modSeqOf k f).ciphers = s.ciphers ∧ (s.modSeqOf k f).queues = s.queues ∧
    (s.modSeqOf k f).channels = s.channels ∧ (s.modSeqOf k f).nvmes = s.nvmes ∧ (s.modSeqOf k f).storages = s.storages ∧
    (s.modSeqOf k f).partitions = s.partitions ∧ (s.modSeqOf k f).twins = s.twins ∧ (s.modSeqOf k f).pods = s.pods ∧
    (s.modSeqOf k f).threads = s.threads ∧ (s.modSeqOf k f).locks = s.locks ∧ (s.modSeqOf k f).chans = s.chans ∧
    (s.modSeqOf k f).contexts = s.contexts ∧ (s.modSeqOf k f).seqCounters = s.seqCounters ∧ (s.modSeqOf k f).patch = s.patch ∧
    (s.modSeqOf k f).mem = s.mem ∧ (s.modSeqOf k f).out = s.out ∧ (s.modSeqOf k f).freeCtr = s.freeCtr ∧ (s.modSeqOf k f).pending = s.pending ∧
    State.dieTemp (s.modSeqOf k f) = s.dieTemp ∧ State.dieHealth (s.modSeqOf k f) = s.dieHealth ∧ State.link (s.modSeqOf k f) = s.link ∧
    State.func (s.modSeqOf k f) = s.func ∧ State.fnBox (s.modSeqOf k f) = s.fnBox ∧ State.agentBox (s.modSeqOf k f) = s.agentBox ∧
    State.cmdq (s.modSeqOf k f) = s.cmdq ∧ State.dramMark (s.modSeqOf k f) = s.dramMark ∧ State.sramBank (s.modSeqOf k f) = s.sramBank ∧
    State.ledger (s.modSeqOf k f) = s.ledger ∧ State.port (s.modSeqOf k f) = s.port ∧ State.portBlock (s.modSeqOf k f) = s.portBlock ∧
    State.bankOf (s.modSeqOf k f) = s.bankOf ∧ State.pipe (s.modSeqOf k f) = s.pipe ∧ State.tm (s.modSeqOf k f) = s.tm ∧
    State.laneOf (s.modSeqOf k f) = s.laneOf ∧ State.dieTime (s.modSeqOf k f) = s.dieTime ∧ State.cipherOf (s.modSeqOf k f) = s.cipherOf ∧
    State.dmaCh (s.modSeqOf k f) = s.dmaCh ∧ State.nvme (s.modSeqOf k f) = s.nvme ∧ State.storage (s.modSeqOf k f) = s.storage ∧
    State.podOf (s.modSeqOf k f) = s.podOf ∧ State.thread (s.modSeqOf k f) = s.thread ∧ State.lockOf (s.modSeqOf k f) = s.lockOf ∧
    State.chanOf (s.modSeqOf k f) = s.chanOf ∧ State.context (s.modSeqOf k f) = s.context := by
  repeat (first | exact rfl | refine ⟨rfl, ?_⟩)

@[simp] theorem State.seqOf_modSeqOf (s : State) (k : Nat) (f : Sequencer → Sequencer) (n : Nat) :
    (s.modSeqOf k f).seqOf n = if n = k then f (s.seqOf k) else s.seqOf n := Tbl.look_put _ _ _ _ _

@[simp] theorem State.setContext_keeps (s : State) (k : Nat) (v : Context) :
    (s.setContext k v).boot = s.boot ∧ (s.setContext k v).roles = s.roles ∧ (s.setContext k v).chain = s.chain ∧
    (s.setContext k v).supply = s.supply ∧ (s.setContext k v).temps = s.temps ∧ (s.setContext k v).health = s.health ∧
    (s.setContext k v).links = s.links ∧ (s.setContext k v).funcs = s.funcs ∧ (s.setContext k v).tags = s.tags ∧ (s.setContext k v).fnMbx = s.fnMbx ∧
    (s.setContext k v).agentMbx = s.agentMbx ∧ (s.setContext k v).cmdqs = s.cmdqs ∧ (s.setContext k v).journal = s.journal ∧
    (s.setContext k v).protect = s.protect ∧ (s.setContext k v).errors = s.errors ∧ (s.setContext k v).dram = s.dram ∧
    (s.setContext k v).sram = s.sram ∧ (s.setContext k v).ledgers = s.ledgers ∧ (s.setContext k v).ports = s.ports ∧
    (s.setContext k v).portBlocks = s.portBlocks ∧ (s.setContext k v).synce = s.synce ∧ (s.setContext k v).banks = s.banks ∧
    (s.setContext k v).pipes = s.pipes ∧ (s.setContext k v).flight = s.flight ∧ (s.setContext k v).nextPkt = s.nextPkt ∧
    (s.setContext k v).tempo = s.tempo ∧ (s.setContext k v).tms = s.tms ∧ (s.setContext k v).fabric = s.fabric ∧
    (s.setContext k v).linkEnds = s.linkEnds ∧ (s.setContext k v).nextMsg = s.nextMsg ∧ (s.setContext k v).timeModel = s.timeModel ∧
    (s.setContext k v).pps = s.pps ∧ (s.setContext k v).times = s.times ∧ (s.setContext k v).ciphers = s.ciphers ∧
    (s.setContext k v).queues = s.queues ∧ (s.setContext k v).channels = s.channels ∧ (s.setContext k v).nvmes = s.nvmes ∧
    (s.setContext k v).storages = s.storages ∧ (s.setContext k v).partitions = s.partitions ∧ (s.setContext k v).twins = s.twins ∧
    (s.setContext k v).pods = s.pods ∧ (s.setContext k v).threads = s.threads ∧ (s.setContext k v).locks = s.locks ∧
    (s.setContext k v).chans = s.chans ∧ (s.setContext k v).seqs = s.seqs ∧ (s.setContext k v).seqCounters = s.seqCounters ∧
    (s.setContext k v).patch = s.patch ∧ (s.setContext k v).mem = s.mem ∧ (s.setContext k v).out = s.out ∧ (s.setContext k v).freeCtr = s.freeCtr ∧
    (s.setContext k v).pending = s.pending ∧ State.dieTemp (s.setContext k v) = s.dieTemp ∧ State.dieHealth (s.setContext k v) = s.dieHealth ∧
    State.link (s.setContext k v) = s.link ∧ State.func (s.setContext k v) = s.func ∧ State.fnBox (s.setContext k v) = s.fnBox ∧
    State.agentBox (s.setContext k v) = s.agentBox ∧ State.cmdq (s.setContext k v) = s.cmdq ∧ State.dramMark (s.setContext k v) = s.dramMark ∧
    State.sramBank (s.setContext k v) = s.sramBank ∧ State.ledger (s.setContext k v) = s.ledger ∧ State.port (s.setContext k v) = s.port ∧
    State.portBlock (s.setContext k v) = s.portBlock ∧ State.bankOf (s.setContext k v) = s.bankOf ∧ State.pipe (s.setContext k v) = s.pipe ∧
    State.tm (s.setContext k v) = s.tm ∧ State.laneOf (s.setContext k v) = s.laneOf ∧ State.dieTime (s.setContext k v) = s.dieTime ∧
    State.cipherOf (s.setContext k v) = s.cipherOf ∧ State.dmaCh (s.setContext k v) = s.dmaCh ∧ State.nvme (s.setContext k v) = s.nvme ∧
    State.storage (s.setContext k v) = s.storage ∧ State.podOf (s.setContext k v) = s.podOf ∧ State.thread (s.setContext k v) = s.thread ∧
    State.lockOf (s.setContext k v) = s.lockOf ∧ State.chanOf (s.setContext k v) = s.chanOf ∧ State.seqOf (s.setContext k v) = s.seqOf := by
  repeat (first | exact rfl | refine ⟨rfl, ?_⟩)

@[simp] theorem State.context_setContext (s : State) (k : Nat) (v : Context) (n : Nat) :
    (s.setContext k v).context n = if n = k then v else s.context n := Tbl.look_put _ _ _ _ _

@[simp] theorem State.modContext_keeps (s : State) (k : Nat) (f : Context → Context) :
    (s.modContext k f).boot = s.boot ∧ (s.modContext k f).roles = s.roles ∧ (s.modContext k f).chain = s.chain ∧
    (s.modContext k f).supply = s.supply ∧ (s.modContext k f).temps = s.temps ∧ (s.modContext k f).health = s.health ∧
    (s.modContext k f).links = s.links ∧ (s.modContext k f).funcs = s.funcs ∧ (s.modContext k f).tags = s.tags ∧ (s.modContext k f).fnMbx = s.fnMbx ∧
    (s.modContext k f).agentMbx = s.agentMbx ∧ (s.modContext k f).cmdqs = s.cmdqs ∧ (s.modContext k f).journal = s.journal ∧
    (s.modContext k f).protect = s.protect ∧ (s.modContext k f).errors = s.errors ∧ (s.modContext k f).dram = s.dram ∧
    (s.modContext k f).sram = s.sram ∧ (s.modContext k f).ledgers = s.ledgers ∧ (s.modContext k f).ports = s.ports ∧
    (s.modContext k f).portBlocks = s.portBlocks ∧ (s.modContext k f).synce = s.synce ∧ (s.modContext k f).banks = s.banks ∧
    (s.modContext k f).pipes = s.pipes ∧ (s.modContext k f).flight = s.flight ∧ (s.modContext k f).nextPkt = s.nextPkt ∧
    (s.modContext k f).tempo = s.tempo ∧ (s.modContext k f).tms = s.tms ∧ (s.modContext k f).fabric = s.fabric ∧
    (s.modContext k f).linkEnds = s.linkEnds ∧ (s.modContext k f).nextMsg = s.nextMsg ∧ (s.modContext k f).timeModel = s.timeModel ∧
    (s.modContext k f).pps = s.pps ∧ (s.modContext k f).times = s.times ∧ (s.modContext k f).ciphers = s.ciphers ∧
    (s.modContext k f).queues = s.queues ∧ (s.modContext k f).channels = s.channels ∧ (s.modContext k f).nvmes = s.nvmes ∧
    (s.modContext k f).storages = s.storages ∧ (s.modContext k f).partitions = s.partitions ∧ (s.modContext k f).twins = s.twins ∧
    (s.modContext k f).pods = s.pods ∧ (s.modContext k f).threads = s.threads ∧ (s.modContext k f).locks = s.locks ∧
    (s.modContext k f).chans = s.chans ∧ (s.modContext k f).seqs = s.seqs ∧ (s.modContext k f).seqCounters = s.seqCounters ∧
    (s.modContext k f).patch = s.patch ∧ (s.modContext k f).mem = s.mem ∧ (s.modContext k f).out = s.out ∧ (s.modContext k f).freeCtr = s.freeCtr ∧
    (s.modContext k f).pending = s.pending ∧ State.dieTemp (s.modContext k f) = s.dieTemp ∧ State.dieHealth (s.modContext k f) = s.dieHealth ∧
    State.link (s.modContext k f) = s.link ∧ State.func (s.modContext k f) = s.func ∧ State.fnBox (s.modContext k f) = s.fnBox ∧
    State.agentBox (s.modContext k f) = s.agentBox ∧ State.cmdq (s.modContext k f) = s.cmdq ∧ State.dramMark (s.modContext k f) = s.dramMark ∧
    State.sramBank (s.modContext k f) = s.sramBank ∧ State.ledger (s.modContext k f) = s.ledger ∧ State.port (s.modContext k f) = s.port ∧
    State.portBlock (s.modContext k f) = s.portBlock ∧ State.bankOf (s.modContext k f) = s.bankOf ∧ State.pipe (s.modContext k f) = s.pipe ∧
    State.tm (s.modContext k f) = s.tm ∧ State.laneOf (s.modContext k f) = s.laneOf ∧ State.dieTime (s.modContext k f) = s.dieTime ∧
    State.cipherOf (s.modContext k f) = s.cipherOf ∧ State.dmaCh (s.modContext k f) = s.dmaCh ∧ State.nvme (s.modContext k f) = s.nvme ∧
    State.storage (s.modContext k f) = s.storage ∧ State.podOf (s.modContext k f) = s.podOf ∧ State.thread (s.modContext k f) = s.thread ∧
    State.lockOf (s.modContext k f) = s.lockOf ∧ State.chanOf (s.modContext k f) = s.chanOf ∧ State.seqOf (s.modContext k f) = s.seqOf := by
  repeat (first | exact rfl | refine ⟨rfl, ?_⟩)

@[simp] theorem State.context_modContext (s : State) (k : Nat) (f : Context → Context) (n : Nat) :
    (s.modContext k f).context n = if n = k then f (s.context k) else s.context n := Tbl.look_put _ _ _ _ _

@[simp] theorem State.setDieTemp_set (s : State) (k : Nat) (v w : DieTemp) : (s.setDieTemp k v).setDieTemp k w = s.setDieTemp k w := by
  simp [State.setDieTemp]

@[simp] theorem State.modDieTemp_set (s : State) (k : Nat) (v : DieTemp) (f : DieTemp → DieTemp) :
    (s.setDieTemp k v).modDieTemp k f = s.setDieTemp k (f v) := by simp [State.modDieTemp]

@[simp] theorem State.setDieTemp_mod (s : State) (k : Nat) (f : DieTemp → DieTemp) (w : DieTemp) :
    (s.modDieTemp k f).setDieTemp k w = s.setDieTemp k w := by simp [State.modDieTemp]

@[simp] theorem State.modDieTemp_mod (s : State) (k : Nat) (f g : DieTemp → DieTemp) :
    (s.modDieTemp k f).modDieTemp k g = s.modDieTemp k (fun x => g (f x)) := by simp [State.modDieTemp]

@[simp] theorem State.setDieHealth_set (s : State) (k : Nat) (v w : DieHealth) : (s.setDieHealth k v).setDieHealth k w = s.setDieHealth k w := by
  simp [State.setDieHealth]

@[simp] theorem State.modDieHealth_set (s : State) (k : Nat) (v : DieHealth) (f : DieHealth → DieHealth) :
    (s.setDieHealth k v).modDieHealth k f = s.setDieHealth k (f v) := by simp [State.modDieHealth]

@[simp] theorem State.setDieHealth_mod (s : State) (k : Nat) (f : DieHealth → DieHealth) (w : DieHealth) :
    (s.modDieHealth k f).setDieHealth k w = s.setDieHealth k w := by simp [State.modDieHealth]

@[simp] theorem State.modDieHealth_mod (s : State) (k : Nat) (f g : DieHealth → DieHealth) :
    (s.modDieHealth k f).modDieHealth k g = s.modDieHealth k (fun x => g (f x)) := by simp [State.modDieHealth]

@[simp] theorem State.setLink_set (s : State) (k : Nat) (v w : Link) : (s.setLink k v).setLink k w = s.setLink k w := by
  simp [State.setLink]

@[simp] theorem State.modLink_set (s : State) (k : Nat) (v : Link) (f : Link → Link) :
    (s.setLink k v).modLink k f = s.setLink k (f v) := by simp [State.modLink]

@[simp] theorem State.setLink_mod (s : State) (k : Nat) (f : Link → Link) (w : Link) :
    (s.modLink k f).setLink k w = s.setLink k w := by simp [State.modLink]

@[simp] theorem State.modLink_mod (s : State) (k : Nat) (f g : Link → Link) :
    (s.modLink k f).modLink k g = s.modLink k (fun x => g (f x)) := by simp [State.modLink]

@[simp] theorem State.setFunc_set (s : State) (k : Nat) (v w : Func) : (s.setFunc k v).setFunc k w = s.setFunc k w := by
  simp [State.setFunc]

@[simp] theorem State.modFunc_set (s : State) (k : Nat) (v : Func) (f : Func → Func) :
    (s.setFunc k v).modFunc k f = s.setFunc k (f v) := by simp [State.modFunc]

@[simp] theorem State.setFunc_mod (s : State) (k : Nat) (f : Func → Func) (w : Func) :
    (s.modFunc k f).setFunc k w = s.setFunc k w := by simp [State.modFunc]

@[simp] theorem State.modFunc_mod (s : State) (k : Nat) (f g : Func → Func) :
    (s.modFunc k f).modFunc k g = s.modFunc k (fun x => g (f x)) := by simp [State.modFunc]

@[simp] theorem State.setFnBox_set (s : State) (k : Nat) (v w : FnMailbox) : (s.setFnBox k v).setFnBox k w = s.setFnBox k w := by
  simp [State.setFnBox]

@[simp] theorem State.modFnBox_set (s : State) (k : Nat) (v : FnMailbox) (f : FnMailbox → FnMailbox) :
    (s.setFnBox k v).modFnBox k f = s.setFnBox k (f v) := by simp [State.modFnBox]

@[simp] theorem State.setFnBox_mod (s : State) (k : Nat) (f : FnMailbox → FnMailbox) (w : FnMailbox) :
    (s.modFnBox k f).setFnBox k w = s.setFnBox k w := by simp [State.modFnBox]

@[simp] theorem State.modFnBox_mod (s : State) (k : Nat) (f g : FnMailbox → FnMailbox) :
    (s.modFnBox k f).modFnBox k g = s.modFnBox k (fun x => g (f x)) := by simp [State.modFnBox]

@[simp] theorem State.setAgentBox_set (s : State) (k : Nat) (v w : AgentMailbox) : (s.setAgentBox k v).setAgentBox k w = s.setAgentBox k w := by
  simp [State.setAgentBox]

@[simp] theorem State.modAgentBox_set (s : State) (k : Nat) (v : AgentMailbox) (f : AgentMailbox → AgentMailbox) :
    (s.setAgentBox k v).modAgentBox k f = s.setAgentBox k (f v) := by simp [State.modAgentBox]

@[simp] theorem State.setAgentBox_mod (s : State) (k : Nat) (f : AgentMailbox → AgentMailbox) (w : AgentMailbox) :
    (s.modAgentBox k f).setAgentBox k w = s.setAgentBox k w := by simp [State.modAgentBox]

@[simp] theorem State.modAgentBox_mod (s : State) (k : Nat) (f g : AgentMailbox → AgentMailbox) :
    (s.modAgentBox k f).modAgentBox k g = s.modAgentBox k (fun x => g (f x)) := by simp [State.modAgentBox]

@[simp] theorem State.setCmdq_set (s : State) (k : Nat) (v w : Cmdq) : (s.setCmdq k v).setCmdq k w = s.setCmdq k w := by
  simp [State.setCmdq]

@[simp] theorem State.modCmdq_set (s : State) (k : Nat) (v : Cmdq) (f : Cmdq → Cmdq) :
    (s.setCmdq k v).modCmdq k f = s.setCmdq k (f v) := by simp [State.modCmdq]

@[simp] theorem State.setCmdq_mod (s : State) (k : Nat) (f : Cmdq → Cmdq) (w : Cmdq) :
    (s.modCmdq k f).setCmdq k w = s.setCmdq k w := by simp [State.modCmdq]

@[simp] theorem State.modCmdq_mod (s : State) (k : Nat) (f g : Cmdq → Cmdq) :
    (s.modCmdq k f).modCmdq k g = s.modCmdq k (fun x => g (f x)) := by simp [State.modCmdq]

@[simp] theorem State.setDramMark_set (s : State) (k : Nat) (v w : DramMark) : (s.setDramMark k v).setDramMark k w = s.setDramMark k w := by
  simp [State.setDramMark]

@[simp] theorem State.modDramMark_set (s : State) (k : Nat) (v : DramMark) (f : DramMark → DramMark) :
    (s.setDramMark k v).modDramMark k f = s.setDramMark k (f v) := by simp [State.modDramMark]

@[simp] theorem State.setDramMark_mod (s : State) (k : Nat) (f : DramMark → DramMark) (w : DramMark) :
    (s.modDramMark k f).setDramMark k w = s.setDramMark k w := by simp [State.modDramMark]

@[simp] theorem State.modDramMark_mod (s : State) (k : Nat) (f g : DramMark → DramMark) :
    (s.modDramMark k f).modDramMark k g = s.modDramMark k (fun x => g (f x)) := by simp [State.modDramMark]

@[simp] theorem State.setSramBank_set (s : State) (k : Nat) (v w : SramBank) : (s.setSramBank k v).setSramBank k w = s.setSramBank k w := by
  simp [State.setSramBank]

@[simp] theorem State.modSramBank_set (s : State) (k : Nat) (v : SramBank) (f : SramBank → SramBank) :
    (s.setSramBank k v).modSramBank k f = s.setSramBank k (f v) := by simp [State.modSramBank]

@[simp] theorem State.setSramBank_mod (s : State) (k : Nat) (f : SramBank → SramBank) (w : SramBank) :
    (s.modSramBank k f).setSramBank k w = s.setSramBank k w := by simp [State.modSramBank]

@[simp] theorem State.modSramBank_mod (s : State) (k : Nat) (f g : SramBank → SramBank) :
    (s.modSramBank k f).modSramBank k g = s.modSramBank k (fun x => g (f x)) := by simp [State.modSramBank]

@[simp] theorem State.setLedger_set (s : State) (k : Nat) (v w : LedgerBook) : (s.setLedger k v).setLedger k w = s.setLedger k w := by
  simp [State.setLedger]

@[simp] theorem State.modLedger_set (s : State) (k : Nat) (v : LedgerBook) (f : LedgerBook → LedgerBook) :
    (s.setLedger k v).modLedger k f = s.setLedger k (f v) := by simp [State.modLedger]

@[simp] theorem State.setLedger_mod (s : State) (k : Nat) (f : LedgerBook → LedgerBook) (w : LedgerBook) :
    (s.modLedger k f).setLedger k w = s.setLedger k w := by simp [State.modLedger]

@[simp] theorem State.modLedger_mod (s : State) (k : Nat) (f g : LedgerBook → LedgerBook) :
    (s.modLedger k f).modLedger k g = s.modLedger k (fun x => g (f x)) := by simp [State.modLedger]

@[simp] theorem State.setPort_set (s : State) (k : Nat) (v w : Port) : (s.setPort k v).setPort k w = s.setPort k w := by
  simp [State.setPort]

@[simp] theorem State.modPort_set (s : State) (k : Nat) (v : Port) (f : Port → Port) :
    (s.setPort k v).modPort k f = s.setPort k (f v) := by simp [State.modPort]

@[simp] theorem State.setPort_mod (s : State) (k : Nat) (f : Port → Port) (w : Port) :
    (s.modPort k f).setPort k w = s.setPort k w := by simp [State.modPort]

@[simp] theorem State.modPort_mod (s : State) (k : Nat) (f g : Port → Port) :
    (s.modPort k f).modPort k g = s.modPort k (fun x => g (f x)) := by simp [State.modPort]

@[simp] theorem State.setPortBlock_set (s : State) (k : Nat) (v w : PortBlock) : (s.setPortBlock k v).setPortBlock k w = s.setPortBlock k w := by
  simp [State.setPortBlock]

@[simp] theorem State.modPortBlock_set (s : State) (k : Nat) (v : PortBlock) (f : PortBlock → PortBlock) :
    (s.setPortBlock k v).modPortBlock k f = s.setPortBlock k (f v) := by simp [State.modPortBlock]

@[simp] theorem State.setPortBlock_mod (s : State) (k : Nat) (f : PortBlock → PortBlock) (w : PortBlock) :
    (s.modPortBlock k f).setPortBlock k w = s.setPortBlock k w := by simp [State.modPortBlock]

@[simp] theorem State.modPortBlock_mod (s : State) (k : Nat) (f g : PortBlock → PortBlock) :
    (s.modPortBlock k f).modPortBlock k g = s.modPortBlock k (fun x => g (f x)) := by simp [State.modPortBlock]

@[simp] theorem State.setBankOf_set (s : State) (k : Nat) (v w : Bank) : (s.setBankOf k v).setBankOf k w = s.setBankOf k w := by
  simp [State.setBankOf]

@[simp] theorem State.modBankOf_set (s : State) (k : Nat) (v : Bank) (f : Bank → Bank) :
    (s.setBankOf k v).modBankOf k f = s.setBankOf k (f v) := by simp [State.modBankOf]

@[simp] theorem State.setBankOf_mod (s : State) (k : Nat) (f : Bank → Bank) (w : Bank) :
    (s.modBankOf k f).setBankOf k w = s.setBankOf k w := by simp [State.modBankOf]

@[simp] theorem State.modBankOf_mod (s : State) (k : Nat) (f g : Bank → Bank) :
    (s.modBankOf k f).modBankOf k g = s.modBankOf k (fun x => g (f x)) := by simp [State.modBankOf]

@[simp] theorem State.setPipe_set (s : State) (k : Nat) (v w : Pipe) : (s.setPipe k v).setPipe k w = s.setPipe k w := by
  simp [State.setPipe]

@[simp] theorem State.modPipe_set (s : State) (k : Nat) (v : Pipe) (f : Pipe → Pipe) :
    (s.setPipe k v).modPipe k f = s.setPipe k (f v) := by simp [State.modPipe]

@[simp] theorem State.setPipe_mod (s : State) (k : Nat) (f : Pipe → Pipe) (w : Pipe) :
    (s.modPipe k f).setPipe k w = s.setPipe k w := by simp [State.modPipe]

@[simp] theorem State.modPipe_mod (s : State) (k : Nat) (f g : Pipe → Pipe) :
    (s.modPipe k f).modPipe k g = s.modPipe k (fun x => g (f x)) := by simp [State.modPipe]

@[simp] theorem State.setTm_set (s : State) (k : Nat) (v w : Tm) : (s.setTm k v).setTm k w = s.setTm k w := by
  simp [State.setTm]

@[simp] theorem State.modTm_set (s : State) (k : Nat) (v : Tm) (f : Tm → Tm) :
    (s.setTm k v).modTm k f = s.setTm k (f v) := by simp [State.modTm]

@[simp] theorem State.setTm_mod (s : State) (k : Nat) (f : Tm → Tm) (w : Tm) :
    (s.modTm k f).setTm k w = s.setTm k w := by simp [State.modTm]

@[simp] theorem State.modTm_mod (s : State) (k : Nat) (f g : Tm → Tm) :
    (s.modTm k f).modTm k g = s.modTm k (fun x => g (f x)) := by simp [State.modTm]

@[simp] theorem State.setLaneOf_set (s : State) (k : Nat) (v w : Lane) : (s.setLaneOf k v).setLaneOf k w = s.setLaneOf k w := by
  simp [State.setLaneOf]

@[simp] theorem State.modLaneOf_set (s : State) (k : Nat) (v : Lane) (f : Lane → Lane) :
    (s.setLaneOf k v).modLaneOf k f = s.setLaneOf k (f v) := by simp [State.modLaneOf]

@[simp] theorem State.setLaneOf_mod (s : State) (k : Nat) (f : Lane → Lane) (w : Lane) :
    (s.modLaneOf k f).setLaneOf k w = s.setLaneOf k w := by simp [State.modLaneOf]

@[simp] theorem State.modLaneOf_mod (s : State) (k : Nat) (f g : Lane → Lane) :
    (s.modLaneOf k f).modLaneOf k g = s.modLaneOf k (fun x => g (f x)) := by simp [State.modLaneOf]

@[simp] theorem State.setDieTime_set (s : State) (k : Nat) (v w : DieTime) : (s.setDieTime k v).setDieTime k w = s.setDieTime k w := by
  simp [State.setDieTime]

@[simp] theorem State.modDieTime_set (s : State) (k : Nat) (v : DieTime) (f : DieTime → DieTime) :
    (s.setDieTime k v).modDieTime k f = s.setDieTime k (f v) := by simp [State.modDieTime]

@[simp] theorem State.setDieTime_mod (s : State) (k : Nat) (f : DieTime → DieTime) (w : DieTime) :
    (s.modDieTime k f).setDieTime k w = s.setDieTime k w := by simp [State.modDieTime]

@[simp] theorem State.modDieTime_mod (s : State) (k : Nat) (f g : DieTime → DieTime) :
    (s.modDieTime k f).modDieTime k g = s.modDieTime k (fun x => g (f x)) := by simp [State.modDieTime]

@[simp] theorem State.setCipherOf_set (s : State) (k : Nat) (v w : Cipher) : (s.setCipherOf k v).setCipherOf k w = s.setCipherOf k w := by
  simp [State.setCipherOf]

@[simp] theorem State.modCipherOf_set (s : State) (k : Nat) (v : Cipher) (f : Cipher → Cipher) :
    (s.setCipherOf k v).modCipherOf k f = s.setCipherOf k (f v) := by simp [State.modCipherOf]

@[simp] theorem State.setCipherOf_mod (s : State) (k : Nat) (f : Cipher → Cipher) (w : Cipher) :
    (s.modCipherOf k f).setCipherOf k w = s.setCipherOf k w := by simp [State.modCipherOf]

@[simp] theorem State.modCipherOf_mod (s : State) (k : Nat) (f g : Cipher → Cipher) :
    (s.modCipherOf k f).modCipherOf k g = s.modCipherOf k (fun x => g (f x)) := by simp [State.modCipherOf]

@[simp] theorem State.setDmaCh_set (s : State) (k : Nat) (v w : DmaChannel) : (s.setDmaCh k v).setDmaCh k w = s.setDmaCh k w := by
  simp [State.setDmaCh]

@[simp] theorem State.modDmaCh_set (s : State) (k : Nat) (v : DmaChannel) (f : DmaChannel → DmaChannel) :
    (s.setDmaCh k v).modDmaCh k f = s.setDmaCh k (f v) := by simp [State.modDmaCh]

@[simp] theorem State.setDmaCh_mod (s : State) (k : Nat) (f : DmaChannel → DmaChannel) (w : DmaChannel) :
    (s.modDmaCh k f).setDmaCh k w = s.setDmaCh k w := by simp [State.modDmaCh]

@[simp] theorem State.modDmaCh_mod (s : State) (k : Nat) (f g : DmaChannel → DmaChannel) :
    (s.modDmaCh k f).modDmaCh k g = s.modDmaCh k (fun x => g (f x)) := by simp [State.modDmaCh]

@[simp] theorem State.setNvme_set (s : State) (k : Nat) (v w : Nvme) : (s.setNvme k v).setNvme k w = s.setNvme k w := by
  simp [State.setNvme]

@[simp] theorem State.modNvme_set (s : State) (k : Nat) (v : Nvme) (f : Nvme → Nvme) :
    (s.setNvme k v).modNvme k f = s.setNvme k (f v) := by simp [State.modNvme]

@[simp] theorem State.setNvme_mod (s : State) (k : Nat) (f : Nvme → Nvme) (w : Nvme) :
    (s.modNvme k f).setNvme k w = s.setNvme k w := by simp [State.modNvme]

@[simp] theorem State.modNvme_mod (s : State) (k : Nat) (f g : Nvme → Nvme) :
    (s.modNvme k f).modNvme k g = s.modNvme k (fun x => g (f x)) := by simp [State.modNvme]

@[simp] theorem State.setStorage_set (s : State) (k : Nat) (v w : Storage) : (s.setStorage k v).setStorage k w = s.setStorage k w := by
  simp [State.setStorage]

@[simp] theorem State.modStorage_set (s : State) (k : Nat) (v : Storage) (f : Storage → Storage) :
    (s.setStorage k v).modStorage k f = s.setStorage k (f v) := by simp [State.modStorage]

@[simp] theorem State.setStorage_mod (s : State) (k : Nat) (f : Storage → Storage) (w : Storage) :
    (s.modStorage k f).setStorage k w = s.setStorage k w := by simp [State.modStorage]

@[simp] theorem State.modStorage_mod (s : State) (k : Nat) (f g : Storage → Storage) :
    (s.modStorage k f).modStorage k g = s.modStorage k (fun x => g (f x)) := by simp [State.modStorage]

@[simp] theorem State.setPodOf_set (s : State) (k : Nat) (v w : Pod) : (s.setPodOf k v).setPodOf k w = s.setPodOf k w := by
  simp [State.setPodOf]

@[simp] theorem State.modPodOf_set (s : State) (k : Nat) (v : Pod) (f : Pod → Pod) :
    (s.setPodOf k v).modPodOf k f = s.setPodOf k (f v) := by simp [State.modPodOf]

@[simp] theorem State.setPodOf_mod (s : State) (k : Nat) (f : Pod → Pod) (w : Pod) :
    (s.modPodOf k f).setPodOf k w = s.setPodOf k w := by simp [State.modPodOf]

@[simp] theorem State.modPodOf_mod (s : State) (k : Nat) (f g : Pod → Pod) :
    (s.modPodOf k f).modPodOf k g = s.modPodOf k (fun x => g (f x)) := by simp [State.modPodOf]

@[simp] theorem State.setThread_set (s : State) (k : Nat) (v w : Thread) : (s.setThread k v).setThread k w = s.setThread k w := by
  simp [State.setThread]

@[simp] theorem State.modThread_set (s : State) (k : Nat) (v : Thread) (f : Thread → Thread) :
    (s.setThread k v).modThread k f = s.setThread k (f v) := by simp [State.modThread]

@[simp] theorem State.setThread_mod (s : State) (k : Nat) (f : Thread → Thread) (w : Thread) :
    (s.modThread k f).setThread k w = s.setThread k w := by simp [State.modThread]

@[simp] theorem State.modThread_mod (s : State) (k : Nat) (f g : Thread → Thread) :
    (s.modThread k f).modThread k g = s.modThread k (fun x => g (f x)) := by simp [State.modThread]

@[simp] theorem State.setLockOf_set (s : State) (k : Nat) (v w : Lock) : (s.setLockOf k v).setLockOf k w = s.setLockOf k w := by
  simp [State.setLockOf]

@[simp] theorem State.modLockOf_set (s : State) (k : Nat) (v : Lock) (f : Lock → Lock) :
    (s.setLockOf k v).modLockOf k f = s.setLockOf k (f v) := by simp [State.modLockOf]

@[simp] theorem State.setLockOf_mod (s : State) (k : Nat) (f : Lock → Lock) (w : Lock) :
    (s.modLockOf k f).setLockOf k w = s.setLockOf k w := by simp [State.modLockOf]

@[simp] theorem State.modLockOf_mod (s : State) (k : Nat) (f g : Lock → Lock) :
    (s.modLockOf k f).modLockOf k g = s.modLockOf k (fun x => g (f x)) := by simp [State.modLockOf]

@[simp] theorem State.setChanOf_set (s : State) (k : Nat) (v w : Channel) : (s.setChanOf k v).setChanOf k w = s.setChanOf k w := by
  simp [State.setChanOf]

@[simp] theorem State.modChanOf_set (s : State) (k : Nat) (v : Channel) (f : Channel → Channel) :
    (s.setChanOf k v).modChanOf k f = s.setChanOf k (f v) := by simp [State.modChanOf]

@[simp] theorem State.setChanOf_mod (s : State) (k : Nat) (f : Channel → Channel) (w : Channel) :
    (s.modChanOf k f).setChanOf k w = s.setChanOf k w := by simp [State.modChanOf]

@[simp] theorem State.modChanOf_mod (s : State) (k : Nat) (f g : Channel → Channel) :
    (s.modChanOf k f).modChanOf k g = s.modChanOf k (fun x => g (f x)) := by simp [State.modChanOf]

@[simp] theorem State.setSeqOf_set (s : State) (k : Nat) (v w : Sequencer) : (s.setSeqOf k v).setSeqOf k w = s.setSeqOf k w := by
  simp [State.setSeqOf]

@[simp] theorem State.modSeqOf_set (s : State) (k : Nat) (v : Sequencer) (f : Sequencer → Sequencer) :
    (s.setSeqOf k v).modSeqOf k f = s.setSeqOf k (f v) := by simp [State.modSeqOf]

@[simp] theorem State.setSeqOf_mod (s : State) (k : Nat) (f : Sequencer → Sequencer) (w : Sequencer) :
    (s.modSeqOf k f).setSeqOf k w = s.setSeqOf k w := by simp [State.modSeqOf]

@[simp] theorem State.modSeqOf_mod (s : State) (k : Nat) (f g : Sequencer → Sequencer) :
    (s.modSeqOf k f).modSeqOf k g = s.modSeqOf k (fun x => g (f x)) := by simp [State.modSeqOf]

@[simp] theorem State.setContext_set (s : State) (k : Nat) (v w : Context) : (s.setContext k v).setContext k w = s.setContext k w := by
  simp [State.setContext]

@[simp] theorem State.modContext_set (s : State) (k : Nat) (v : Context) (f : Context → Context) :
    (s.setContext k v).modContext k f = s.setContext k (f v) := by simp [State.modContext]

@[simp] theorem State.setContext_mod (s : State) (k : Nat) (f : Context → Context) (w : Context) :
    (s.modContext k f).setContext k w = s.setContext k w := by simp [State.modContext]

@[simp] theorem State.modContext_mod (s : State) (k : Nat) (f g : Context → Context) :
    (s.modContext k f).modContext k g = s.modContext k (fun x => g (f x)) := by simp [State.modContext]

@[simp] theorem State.emit_keeps (s : State) (o : Out) :
    (s.emit o).boot = s.boot ∧ (s.emit o).roles = s.roles ∧ (s.emit o).chain = s.chain ∧ (s.emit o).supply = s.supply ∧ (s.emit o).temps = s.temps ∧
    (s.emit o).health = s.health ∧ (s.emit o).links = s.links ∧ (s.emit o).funcs = s.funcs ∧ (s.emit o).tags = s.tags ∧ (s.emit o).fnMbx = s.fnMbx ∧
    (s.emit o).agentMbx = s.agentMbx ∧ (s.emit o).cmdqs = s.cmdqs ∧ (s.emit o).journal = s.journal ∧ (s.emit o).protect = s.protect ∧
    (s.emit o).errors = s.errors ∧ (s.emit o).dram = s.dram ∧ (s.emit o).sram = s.sram ∧ (s.emit o).ledgers = s.ledgers ∧ (s.emit o).ports = s.ports ∧
    (s.emit o).portBlocks = s.portBlocks ∧ (s.emit o).synce = s.synce ∧ (s.emit o).banks = s.banks ∧ (s.emit o).pipes = s.pipes ∧
    (s.emit o).flight = s.flight ∧ (s.emit o).nextPkt = s.nextPkt ∧ (s.emit o).tempo = s.tempo ∧ (s.emit o).tms = s.tms ∧
    (s.emit o).fabric = s.fabric ∧ (s.emit o).linkEnds = s.linkEnds ∧ (s.emit o).nextMsg = s.nextMsg ∧ (s.emit o).timeModel = s.timeModel ∧
    (s.emit o).pps = s.pps ∧ (s.emit o).times = s.times ∧ (s.emit o).ciphers = s.ciphers ∧ (s.emit o).queues = s.queues ∧
    (s.emit o).channels = s.channels ∧ (s.emit o).nvmes = s.nvmes ∧ (s.emit o).storages = s.storages ∧ (s.emit o).partitions = s.partitions ∧
    (s.emit o).twins = s.twins ∧ (s.emit o).pods = s.pods ∧ (s.emit o).threads = s.threads ∧ (s.emit o).locks = s.locks ∧ (s.emit o).chans = s.chans ∧
    (s.emit o).seqs = s.seqs ∧ (s.emit o).contexts = s.contexts ∧ (s.emit o).seqCounters = s.seqCounters ∧ (s.emit o).patch = s.patch ∧
    (s.emit o).mem = s.mem ∧ (s.emit o).freeCtr = s.freeCtr ∧ (s.emit o).pending = s.pending ∧ State.dieTemp (s.emit o) = s.dieTemp ∧
    State.dieHealth (s.emit o) = s.dieHealth ∧ State.link (s.emit o) = s.link ∧ State.func (s.emit o) = s.func ∧ State.fnBox (s.emit o) = s.fnBox ∧
    State.agentBox (s.emit o) = s.agentBox ∧ State.cmdq (s.emit o) = s.cmdq ∧ State.dramMark (s.emit o) = s.dramMark ∧
    State.sramBank (s.emit o) = s.sramBank ∧ State.ledger (s.emit o) = s.ledger ∧ State.port (s.emit o) = s.port ∧
    State.portBlock (s.emit o) = s.portBlock ∧ State.bankOf (s.emit o) = s.bankOf ∧ State.pipe (s.emit o) = s.pipe ∧ State.tm (s.emit o) = s.tm ∧
    State.laneOf (s.emit o) = s.laneOf ∧ State.dieTime (s.emit o) = s.dieTime ∧ State.cipherOf (s.emit o) = s.cipherOf ∧
    State.dmaCh (s.emit o) = s.dmaCh ∧ State.nvme (s.emit o) = s.nvme ∧ State.storage (s.emit o) = s.storage ∧ State.podOf (s.emit o) = s.podOf ∧
    State.thread (s.emit o) = s.thread ∧ State.lockOf (s.emit o) = s.lockOf ∧ State.chanOf (s.emit o) = s.chanOf ∧ State.seqOf (s.emit o) = s.seqOf ∧
    State.context (s.emit o) = s.context := by
  repeat (first | exact rfl | refine ⟨rfl, ?_⟩)

@[simp] theorem State.emit_out (s : State) (o : Out) : (s.emit o).out = s.out ++ [o] := rfl

@[simp] theorem State.writeBytes_keeps (s : State) (r : Region) (a : Nat) (bs : List Byte) :
    (s.writeBytes r a bs).boot = s.boot ∧ (s.writeBytes r a bs).roles = s.roles ∧ (s.writeBytes r a bs).chain = s.chain ∧
    (s.writeBytes r a bs).supply = s.supply ∧ (s.writeBytes r a bs).temps = s.temps ∧ (s.writeBytes r a bs).health = s.health ∧
    (s.writeBytes r a bs).links = s.links ∧ (s.writeBytes r a bs).funcs = s.funcs ∧ (s.writeBytes r a bs).tags = s.tags ∧
    (s.writeBytes r a bs).fnMbx = s.fnMbx ∧ (s.writeBytes r a bs).agentMbx = s.agentMbx ∧ (s.writeBytes r a bs).cmdqs = s.cmdqs ∧
    (s.writeBytes r a bs).journal = s.journal ∧ (s.writeBytes r a bs).protect = s.protect ∧ (s.writeBytes r a bs).errors = s.errors ∧
    (s.writeBytes r a bs).dram = s.dram ∧ (s.writeBytes r a bs).sram = s.sram ∧ (s.writeBytes r a bs).ledgers = s.ledgers ∧
    (s.writeBytes r a bs).ports = s.ports ∧ (s.writeBytes r a bs).portBlocks = s.portBlocks ∧ (s.writeBytes r a bs).synce = s.synce ∧
    (s.writeBytes r a bs).banks = s.banks ∧ (s.writeBytes r a bs).pipes = s.pipes ∧ (s.writeBytes r a bs).flight = s.flight ∧
    (s.writeBytes r a bs).nextPkt = s.nextPkt ∧ (s.writeBytes r a bs).tempo = s.tempo ∧ (s.writeBytes r a bs).tms = s.tms ∧
    (s.writeBytes r a bs).fabric = s.fabric ∧ (s.writeBytes r a bs).linkEnds = s.linkEnds ∧ (s.writeBytes r a bs).nextMsg = s.nextMsg ∧
    (s.writeBytes r a bs).timeModel = s.timeModel ∧ (s.writeBytes r a bs).pps = s.pps ∧ (s.writeBytes r a bs).times = s.times ∧
    (s.writeBytes r a bs).ciphers = s.ciphers ∧ (s.writeBytes r a bs).queues = s.queues ∧ (s.writeBytes r a bs).channels = s.channels ∧
    (s.writeBytes r a bs).nvmes = s.nvmes ∧ (s.writeBytes r a bs).storages = s.storages ∧ (s.writeBytes r a bs).partitions = s.partitions ∧
    (s.writeBytes r a bs).twins = s.twins ∧ (s.writeBytes r a bs).pods = s.pods ∧ (s.writeBytes r a bs).threads = s.threads ∧
    (s.writeBytes r a bs).locks = s.locks ∧ (s.writeBytes r a bs).chans = s.chans ∧ (s.writeBytes r a bs).seqs = s.seqs ∧
    (s.writeBytes r a bs).contexts = s.contexts ∧ (s.writeBytes r a bs).seqCounters = s.seqCounters ∧ (s.writeBytes r a bs).patch = s.patch ∧
    (s.writeBytes r a bs).out = s.out ∧ (s.writeBytes r a bs).freeCtr = s.freeCtr ∧ (s.writeBytes r a bs).pending = s.pending ∧
    State.dieTemp (s.writeBytes r a bs) = s.dieTemp ∧ State.dieHealth (s.writeBytes r a bs) = s.dieHealth ∧
    State.link (s.writeBytes r a bs) = s.link ∧ State.func (s.writeBytes r a bs) = s.func ∧ State.fnBox (s.writeBytes r a bs) = s.fnBox ∧
    State.agentBox (s.writeBytes r a bs) = s.agentBox ∧ State.cmdq (s.writeBytes r a bs) = s.cmdq ∧
    State.dramMark (s.writeBytes r a bs) = s.dramMark ∧ State.sramBank (s.writeBytes r a bs) = s.sramBank ∧
    State.ledger (s.writeBytes r a bs) = s.ledger ∧ State.port (s.writeBytes r a bs) = s.port ∧ State.portBlock (s.writeBytes r a bs) = s.portBlock ∧
    State.bankOf (s.writeBytes r a bs) = s.bankOf ∧ State.pipe (s.writeBytes r a bs) = s.pipe ∧ State.tm (s.writeBytes r a bs) = s.tm ∧
    State.laneOf (s.writeBytes r a bs) = s.laneOf ∧ State.dieTime (s.writeBytes r a bs) = s.dieTime ∧
    State.cipherOf (s.writeBytes r a bs) = s.cipherOf ∧ State.dmaCh (s.writeBytes r a bs) = s.dmaCh ∧ State.nvme (s.writeBytes r a bs) = s.nvme ∧
    State.storage (s.writeBytes r a bs) = s.storage ∧ State.podOf (s.writeBytes r a bs) = s.podOf ∧ State.thread (s.writeBytes r a bs) = s.thread ∧
    State.lockOf (s.writeBytes r a bs) = s.lockOf ∧ State.chanOf (s.writeBytes r a bs) = s.chanOf ∧ State.seqOf (s.writeBytes r a bs) = s.seqOf ∧
    State.context (s.writeBytes r a bs) = s.context := by
  repeat (first | exact rfl | refine ⟨rfl, ?_⟩)

@[simp] theorem State.writeByte_keeps (s : State) (r : Region) (a : Nat) (b : Byte) :
    (s.writeByte r a b).boot = s.boot ∧ (s.writeByte r a b).roles = s.roles ∧ (s.writeByte r a b).chain = s.chain ∧
    (s.writeByte r a b).supply = s.supply ∧ (s.writeByte r a b).temps = s.temps ∧ (s.writeByte r a b).health = s.health ∧
    (s.writeByte r a b).links = s.links ∧ (s.writeByte r a b).funcs = s.funcs ∧ (s.writeByte r a b).tags = s.tags ∧
    (s.writeByte r a b).fnMbx = s.fnMbx ∧ (s.writeByte r a b).agentMbx = s.agentMbx ∧ (s.writeByte r a b).cmdqs = s.cmdqs ∧
    (s.writeByte r a b).journal = s.journal ∧ (s.writeByte r a b).protect = s.protect ∧ (s.writeByte r a b).errors = s.errors ∧
    (s.writeByte r a b).dram = s.dram ∧ (s.writeByte r a b).sram = s.sram ∧ (s.writeByte r a b).ledgers = s.ledgers ∧
    (s.writeByte r a b).ports = s.ports ∧ (s.writeByte r a b).portBlocks = s.portBlocks ∧ (s.writeByte r a b).synce = s.synce ∧
    (s.writeByte r a b).banks = s.banks ∧ (s.writeByte r a b).pipes = s.pipes ∧ (s.writeByte r a b).flight = s.flight ∧
    (s.writeByte r a b).nextPkt = s.nextPkt ∧ (s.writeByte r a b).tempo = s.tempo ∧ (s.writeByte r a b).tms = s.tms ∧
    (s.writeByte r a b).fabric = s.fabric ∧ (s.writeByte r a b).linkEnds = s.linkEnds ∧ (s.writeByte r a b).nextMsg = s.nextMsg ∧
    (s.writeByte r a b).timeModel = s.timeModel ∧ (s.writeByte r a b).pps = s.pps ∧ (s.writeByte r a b).times = s.times ∧
    (s.writeByte r a b).ciphers = s.ciphers ∧ (s.writeByte r a b).queues = s.queues ∧ (s.writeByte r a b).channels = s.channels ∧
    (s.writeByte r a b).nvmes = s.nvmes ∧ (s.writeByte r a b).storages = s.storages ∧ (s.writeByte r a b).partitions = s.partitions ∧
    (s.writeByte r a b).twins = s.twins ∧ (s.writeByte r a b).pods = s.pods ∧ (s.writeByte r a b).threads = s.threads ∧
    (s.writeByte r a b).locks = s.locks ∧ (s.writeByte r a b).chans = s.chans ∧ (s.writeByte r a b).seqs = s.seqs ∧
    (s.writeByte r a b).contexts = s.contexts ∧ (s.writeByte r a b).seqCounters = s.seqCounters ∧ (s.writeByte r a b).patch = s.patch ∧
    (s.writeByte r a b).out = s.out ∧ (s.writeByte r a b).freeCtr = s.freeCtr ∧ (s.writeByte r a b).pending = s.pending ∧
    State.dieTemp (s.writeByte r a b) = s.dieTemp ∧ State.dieHealth (s.writeByte r a b) = s.dieHealth ∧ State.link (s.writeByte r a b) = s.link ∧
    State.func (s.writeByte r a b) = s.func ∧ State.fnBox (s.writeByte r a b) = s.fnBox ∧ State.agentBox (s.writeByte r a b) = s.agentBox ∧
    State.cmdq (s.writeByte r a b) = s.cmdq ∧ State.dramMark (s.writeByte r a b) = s.dramMark ∧ State.sramBank (s.writeByte r a b) = s.sramBank ∧
    State.ledger (s.writeByte r a b) = s.ledger ∧ State.port (s.writeByte r a b) = s.port ∧ State.portBlock (s.writeByte r a b) = s.portBlock ∧
    State.bankOf (s.writeByte r a b) = s.bankOf ∧ State.pipe (s.writeByte r a b) = s.pipe ∧ State.tm (s.writeByte r a b) = s.tm ∧
    State.laneOf (s.writeByte r a b) = s.laneOf ∧ State.dieTime (s.writeByte r a b) = s.dieTime ∧ State.cipherOf (s.writeByte r a b) = s.cipherOf ∧
    State.dmaCh (s.writeByte r a b) = s.dmaCh ∧ State.nvme (s.writeByte r a b) = s.nvme ∧ State.storage (s.writeByte r a b) = s.storage ∧
    State.podOf (s.writeByte r a b) = s.podOf ∧ State.thread (s.writeByte r a b) = s.thread ∧ State.lockOf (s.writeByte r a b) = s.lockOf ∧
    State.chanOf (s.writeByte r a b) = s.chanOf ∧ State.seqOf (s.writeByte r a b) = s.seqOf ∧ State.context (s.writeByte r a b) = s.context := by
  repeat (first | exact rfl | refine ⟨rfl, ?_⟩)

@[simp] theorem State.raise_keeps (s : State) (c v j d u a b : Nat) :
    (s.raise c v j d u a b).boot = s.boot ∧ (s.raise c v j d u a b).roles = s.roles ∧ (s.raise c v j d u a b).chain = s.chain ∧
    (s.raise c v j d u a b).supply = s.supply ∧ (s.raise c v j d u a b).temps = s.temps ∧ (s.raise c v j d u a b).health = s.health ∧
    (s.raise c v j d u a b).links = s.links ∧ (s.raise c v j d u a b).funcs = s.funcs ∧ (s.raise c v j d u a b).tags = s.tags ∧
    (s.raise c v j d u a b).fnMbx = s.fnMbx ∧ (s.raise c v j d u a b).agentMbx = s.agentMbx ∧ (s.raise c v j d u a b).cmdqs = s.cmdqs ∧
    (s.raise c v j d u a b).journal = s.journal ∧ (s.raise c v j d u a b).protect = s.protect ∧ (s.raise c v j d u a b).dram = s.dram ∧
    (s.raise c v j d u a b).sram = s.sram ∧ (s.raise c v j d u a b).ledgers = s.ledgers ∧ (s.raise c v j d u a b).ports = s.ports ∧
    (s.raise c v j d u a b).portBlocks = s.portBlocks ∧ (s.raise c v j d u a b).synce = s.synce ∧ (s.raise c v j d u a b).banks = s.banks ∧
    (s.raise c v j d u a b).pipes = s.pipes ∧ (s.raise c v j d u a b).flight = s.flight ∧ (s.raise c v j d u a b).nextPkt = s.nextPkt ∧
    (s.raise c v j d u a b).tempo = s.tempo ∧ (s.raise c v j d u a b).tms = s.tms ∧ (s.raise c v j d u a b).fabric = s.fabric ∧
    (s.raise c v j d u a b).linkEnds = s.linkEnds ∧ (s.raise c v j d u a b).nextMsg = s.nextMsg ∧ (s.raise c v j d u a b).timeModel = s.timeModel ∧
    (s.raise c v j d u a b).pps = s.pps ∧ (s.raise c v j d u a b).times = s.times ∧ (s.raise c v j d u a b).ciphers = s.ciphers ∧
    (s.raise c v j d u a b).queues = s.queues ∧ (s.raise c v j d u a b).channels = s.channels ∧ (s.raise c v j d u a b).nvmes = s.nvmes ∧
    (s.raise c v j d u a b).storages = s.storages ∧ (s.raise c v j d u a b).partitions = s.partitions ∧ (s.raise c v j d u a b).twins = s.twins ∧
    (s.raise c v j d u a b).pods = s.pods ∧ (s.raise c v j d u a b).threads = s.threads ∧ (s.raise c v j d u a b).locks = s.locks ∧
    (s.raise c v j d u a b).chans = s.chans ∧ (s.raise c v j d u a b).seqs = s.seqs ∧ (s.raise c v j d u a b).contexts = s.contexts ∧
    (s.raise c v j d u a b).seqCounters = s.seqCounters ∧ (s.raise c v j d u a b).patch = s.patch ∧ (s.raise c v j d u a b).mem = s.mem ∧
    (s.raise c v j d u a b).out = s.out ∧ (s.raise c v j d u a b).freeCtr = s.freeCtr ∧ (s.raise c v j d u a b).pending = s.pending ∧
    State.dieTemp (s.raise c v j d u a b) = s.dieTemp ∧ State.dieHealth (s.raise c v j d u a b) = s.dieHealth ∧
    State.link (s.raise c v j d u a b) = s.link ∧ State.func (s.raise c v j d u a b) = s.func ∧ State.fnBox (s.raise c v j d u a b) = s.fnBox ∧
    State.agentBox (s.raise c v j d u a b) = s.agentBox ∧ State.cmdq (s.raise c v j d u a b) = s.cmdq ∧
    State.dramMark (s.raise c v j d u a b) = s.dramMark ∧ State.sramBank (s.raise c v j d u a b) = s.sramBank ∧
    State.ledger (s.raise c v j d u a b) = s.ledger ∧ State.port (s.raise c v j d u a b) = s.port ∧
    State.portBlock (s.raise c v j d u a b) = s.portBlock ∧ State.bankOf (s.raise c v j d u a b) = s.bankOf ∧
    State.pipe (s.raise c v j d u a b) = s.pipe ∧ State.tm (s.raise c v j d u a b) = s.tm ∧ State.laneOf (s.raise c v j d u a b) = s.laneOf ∧
    State.dieTime (s.raise c v j d u a b) = s.dieTime ∧ State.cipherOf (s.raise c v j d u a b) = s.cipherOf ∧
    State.dmaCh (s.raise c v j d u a b) = s.dmaCh ∧ State.nvme (s.raise c v j d u a b) = s.nvme ∧ State.storage (s.raise c v j d u a b) = s.storage ∧
    State.podOf (s.raise c v j d u a b) = s.podOf ∧ State.thread (s.raise c v j d u a b) = s.thread ∧
    State.lockOf (s.raise c v j d u a b) = s.lockOf ∧ State.chanOf (s.raise c v j d u a b) = s.chanOf ∧
    State.seqOf (s.raise c v j d u a b) = s.seqOf ∧ State.context (s.raise c v j d u a b) = s.context := by
  repeat (first | exact rfl | refine ⟨rfl, ?_⟩)

@[simp] theorem State.draw_keeps (s : State) (n : Nat) :
    (s.draw n).2.boot = s.boot ∧ (s.draw n).2.roles = s.roles ∧ (s.draw n).2.chain = s.chain ∧ (s.draw n).2.supply = s.supply ∧
    (s.draw n).2.temps = s.temps ∧ (s.draw n).2.health = s.health ∧ (s.draw n).2.links = s.links ∧ (s.draw n).2.funcs = s.funcs ∧
    (s.draw n).2.tags = s.tags ∧ (s.draw n).2.fnMbx = s.fnMbx ∧ (s.draw n).2.agentMbx = s.agentMbx ∧ (s.draw n).2.cmdqs = s.cmdqs ∧
    (s.draw n).2.journal = s.journal ∧ (s.draw n).2.protect = s.protect ∧ (s.draw n).2.errors = s.errors ∧ (s.draw n).2.dram = s.dram ∧
    (s.draw n).2.sram = s.sram ∧ (s.draw n).2.ledgers = s.ledgers ∧ (s.draw n).2.ports = s.ports ∧ (s.draw n).2.portBlocks = s.portBlocks ∧
    (s.draw n).2.synce = s.synce ∧ (s.draw n).2.banks = s.banks ∧ (s.draw n).2.pipes = s.pipes ∧ (s.draw n).2.flight = s.flight ∧
    (s.draw n).2.nextPkt = s.nextPkt ∧ (s.draw n).2.tempo = s.tempo ∧ (s.draw n).2.tms = s.tms ∧ (s.draw n).2.fabric = s.fabric ∧
    (s.draw n).2.linkEnds = s.linkEnds ∧ (s.draw n).2.nextMsg = s.nextMsg ∧ (s.draw n).2.timeModel = s.timeModel ∧ (s.draw n).2.pps = s.pps ∧
    (s.draw n).2.times = s.times ∧ (s.draw n).2.ciphers = s.ciphers ∧ (s.draw n).2.queues = s.queues ∧ (s.draw n).2.channels = s.channels ∧
    (s.draw n).2.nvmes = s.nvmes ∧ (s.draw n).2.storages = s.storages ∧ (s.draw n).2.partitions = s.partitions ∧ (s.draw n).2.twins = s.twins ∧
    (s.draw n).2.pods = s.pods ∧ (s.draw n).2.threads = s.threads ∧ (s.draw n).2.locks = s.locks ∧ (s.draw n).2.chans = s.chans ∧
    (s.draw n).2.seqs = s.seqs ∧ (s.draw n).2.contexts = s.contexts ∧ (s.draw n).2.seqCounters = s.seqCounters ∧ (s.draw n).2.patch = s.patch ∧
    (s.draw n).2.mem = s.mem ∧ (s.draw n).2.out = s.out ∧ (s.draw n).2.pending = s.pending ∧ State.dieTemp (s.draw n).2 = s.dieTemp ∧
    State.dieHealth (s.draw n).2 = s.dieHealth ∧ State.link (s.draw n).2 = s.link ∧ State.func (s.draw n).2 = s.func ∧
    State.fnBox (s.draw n).2 = s.fnBox ∧ State.agentBox (s.draw n).2 = s.agentBox ∧ State.cmdq (s.draw n).2 = s.cmdq ∧
    State.dramMark (s.draw n).2 = s.dramMark ∧ State.sramBank (s.draw n).2 = s.sramBank ∧ State.ledger (s.draw n).2 = s.ledger ∧
    State.port (s.draw n).2 = s.port ∧ State.portBlock (s.draw n).2 = s.portBlock ∧ State.bankOf (s.draw n).2 = s.bankOf ∧
    State.pipe (s.draw n).2 = s.pipe ∧ State.tm (s.draw n).2 = s.tm ∧ State.laneOf (s.draw n).2 = s.laneOf ∧ State.dieTime (s.draw n).2 = s.dieTime ∧
    State.cipherOf (s.draw n).2 = s.cipherOf ∧ State.dmaCh (s.draw n).2 = s.dmaCh ∧ State.nvme (s.draw n).2 = s.nvme ∧
    State.storage (s.draw n).2 = s.storage ∧ State.podOf (s.draw n).2 = s.podOf ∧ State.thread (s.draw n).2 = s.thread ∧
    State.lockOf (s.draw n).2 = s.lockOf ∧ State.chanOf (s.draw n).2 = s.chanOf ∧ State.seqOf (s.draw n).2 = s.seqOf ∧
    State.context (s.draw n).2 = s.context := by
  repeat (first | exact rfl | refine ⟨rfl, ?_⟩)

@[simp] theorem State.draw_ctr (s : State) (n : Nat) : (s.draw n).2.freeCtr = s.freeCtr + 1 := rfl

end Sys2Proof.Machine
end

