-- ==== Sys2Proof/Laws/Quiet.lean ====
section
/-! SUPPORT. Replies, interrupts, records and writes to host memory leave a state alike. -/

namespace Sys2Proof.Machine

/-- What the quiet part holds. -/
theorem State.quiet_fields {s t : State} (h : s.quiet = t.quiet) :
    s.boot = t.boot ∧ s.roles = t.roles ∧ s.supply = t.supply ∧ s.temps = t.temps ∧ s.health = t.health ∧ s.protect =
    t.protect ∧ s.dram = t.dram ∧ s.sram = t.sram ∧ s.ledgers = t.ledgers ∧ s.ports = t.ports ∧ s.portBlocks = t.portBlocks ∧
    s.synce = t.synce ∧ s.banks = t.banks ∧ s.pipes = t.pipes ∧ s.flight = t.flight ∧ s.nextPkt = t.nextPkt ∧ s.tempo =
    t.tempo ∧ s.tms = t.tms ∧ s.fabric = t.fabric ∧ s.timeModel = t.timeModel ∧ s.pps = t.pps ∧ s.times = t.times ∧ s.ciphers
    = t.ciphers ∧ s.queues = t.queues ∧ s.channels = t.channels ∧ s.storages = t.storages ∧ s.partitions = t.partitions ∧
    s.twins = t.twins ∧ s.pods = t.pods ∧ s.locks = t.locks ∧ s.seqs = t.seqs ∧ s.contexts = t.contexts ∧ s.seqCounters =
    t.seqCounters ∧ s.patch = t.patch ∧ s.pending = t.pending := by
  exact ⟨congrArg State.boot (a₁ := s.quiet) (a₂ := t.quiet) h,
    congrArg State.roles (a₁ := s.quiet) (a₂ := t.quiet) h,
    congrArg State.supply (a₁ := s.quiet) (a₂ := t.quiet) h,
    congrArg State.temps (a₁ := s.quiet) (a₂ := t.quiet) h,
    congrArg State.health (a₁ := s.quiet) (a₂ := t.quiet) h,
    congrArg State.protect (a₁ := s.quiet) (a₂ := t.quiet) h,
    congrArg State.dram (a₁ := s.quiet) (a₂ := t.quiet) h,
    congrArg State.sram (a₁ := s.quiet) (a₂ := t.quiet) h,
    congrArg State.ledgers (a₁ := s.quiet) (a₂ := t.quiet) h,
    congrArg State.ports (a₁ := s.quiet) (a₂ := t.quiet) h,
    congrArg State.portBlocks (a₁ := s.quiet) (a₂ := t.quiet) h,
    congrArg State.synce (a₁ := s.quiet) (a₂ := t.quiet) h,
    congrArg State.banks (a₁ := s.quiet) (a₂ := t.quiet) h,
    congrArg State.pipes (a₁ := s.quiet) (a₂ := t.quiet) h,
    congrArg State.flight (a₁ := s.quiet) (a₂ := t.quiet) h,
    congrArg State.nextPkt (a₁ := s.quiet) (a₂ := t.quiet) h,
    congrArg State.tempo (a₁ := s.quiet) (a₂ := t.quiet) h,
    congrArg State.tms (a₁ := s.quiet) (a₂ := t.quiet) h,
    congrArg State.fabric (a₁ := s.quiet) (a₂ := t.quiet) h,
    congrArg State.timeModel (a₁ := s.quiet) (a₂ := t.quiet) h,
    congrArg State.pps (a₁ := s.quiet) (a₂ := t.quiet) h,
    congrArg State.times (a₁ := s.quiet) (a₂ := t.quiet) h,
    congrArg State.ciphers (a₁ := s.quiet) (a₂ := t.quiet) h,
    congrArg State.queues (a₁ := s.quiet) (a₂ := t.quiet) h,
    congrArg State.channels (a₁ := s.quiet) (a₂ := t.quiet) h,
    congrArg State.storages (a₁ := s.quiet) (a₂ := t.quiet) h,
    congrArg State.partitions (a₁ := s.quiet) (a₂ := t.quiet) h,
    congrArg State.twins (a₁ := s.quiet) (a₂ := t.quiet) h,
    congrArg State.pods (a₁ := s.quiet) (a₂ := t.quiet) h,
    congrArg State.locks (a₁ := s.quiet) (a₂ := t.quiet) h,
    congrArg State.seqs (a₁ := s.quiet) (a₂ := t.quiet) h,
    congrArg State.contexts (a₁ := s.quiet) (a₂ := t.quiet) h,
    congrArg State.seqCounters (a₁ := s.quiet) (a₂ := t.quiet) h,
    congrArg State.patch (a₁ := s.quiet) (a₂ := t.quiet) h,
    congrArg State.pending (a₁ := s.quiet) (a₂ := t.quiet) h⟩

/-! ## Being alike -/

theorem State.like_of {s t : State} (hq : t.quiet = s.quiet) (ha : t.agentMbx = s.agentMbx) (ht : t.threads = s.threads)
    (hc : t.chans = s.chans) : t.like s := by
  refine ⟨hq, fun k => ?_, fun _ => ⟨ht, hc⟩⟩
  unfold State.agentBox
  rw [ha]

theorem State.like_refl (s : State) : s.like s := State.like_of rfl rfl rfl rfl

theorem State.like_trans {s t u : State} (h : u.like t) (g : t.like s) : u.like s := by
  obtain ⟨h1, h2, h3⟩ := h
  obtain ⟨g1, g2, g3⟩ := g
  refine ⟨h1.trans g1, fun k => (h2 k).trans (g2 k), fun hk => ?_⟩
  have hk' : ∀ k, isThreadId (t.agentBox k).receiver = false := fun k => by rw [g2 k]; exact hk k
  exact ⟨(h3 hk').1.trans (g3 hk).1, (h3 hk').2.trans (g3 hk).2⟩

/-- A fold of operations that each leave a state alike leaves it alike. -/
theorem like_foldl {α : Type} (f : State → α → State) (h : ∀ s a, (f s a).like s) (l : List α) (s : State) :
    (l.foldl f s).like s := by
  induction l generalizing s with
  | nil => exact State.like_refl s
  | cons a l ih => exact State.like_trans (ih _) (h s a)

theorem State.like_ite {s t u : State} {p : Prop} [Decidable p] (h : t.like s) (g : u.like s) : (if p then t else u).like s := by
  split
  · exact h
  · exact g

/-! ## What each operation leaves alike -/

theorem State.like_emit (s : State) (o : Out) : (s.emit o).like s := State.like_of rfl rfl rfl rfl

theorem State.like_raise (s : State) (c v j d u a b : Nat) : (s.raise c v j d u a b).like s := State.like_of rfl rfl rfl rfl

theorem State.like_draw (s : State) (n : Nat) : (s.draw n).2.like s := State.like_of rfl rfl rfl rfl

theorem State.like_writeBytes (s : State) (r : Region) (a : Nat) (bs : List Byte) : (s.writeBytes r a bs).like s :=
  State.like_of rfl rfl rfl rfl

theorem State.like_setFunc (s : State) (k : Nat) (v : Func) : (s.setFunc k v).like s := State.like_of rfl rfl rfl rfl

theorem State.like_modFunc (s : State) (k : Nat) (f : Func → Func) : (s.modFunc k f).like s := State.like_of rfl rfl rfl rfl

theorem State.like_setFnBox (s : State) (k : Nat) (v : FnMailbox) : (s.setFnBox k v).like s := State.like_of rfl rfl rfl rfl

theorem State.like_modFnBox (s : State) (k : Nat) (f : FnMailbox → FnMailbox) : (s.modFnBox k f).like s :=
  State.like_of rfl rfl rfl rfl

theorem State.like_modCmdq (s : State) (k : Nat) (f : Cmdq → Cmdq) : (s.modCmdq k f).like s := State.like_of rfl rfl rfl rfl

theorem State.like_setNvme (s : State) (k : Nat) (v : Nvme) : (s.setNvme k v).like s := State.like_of rfl rfl rfl rfl

theorem State.like_modNvme (s : State) (k : Nat) (f : Nvme → Nvme) : (s.modNvme k f).like s := State.like_of rfl rfl rfl rfl

theorem State.like_journal (s : State) (j : Journal) : ({ s with journal := j } : State).like s := State.like_of rfl rfl rfl rfl

theorem State.like_errors (s : State) (e : Errors) : ({ s with errors := e } : State).like s := State.like_of rfl rfl rfl rfl

/-- An inter-agent mailbox with the same receiver. -/
theorem State.like_setAgentBox (s : State) (k : Nat) (v : AgentMailbox) (h : v.receiver = (s.agentBox k).receiver) :
    (s.setAgentBox k v).like s := by
  refine ⟨rfl, fun n => ?_, fun _ => ⟨rfl, rfl⟩⟩
  rw [State.agentBox_setAgentBox]
  split
  · next hn => rw [h, hn]
  · rfl

/-- A change of a link's count of timeouts or attributes. -/
theorem State.like_modLink (s : State) (k : Nat) (f : Link → Link) (h : ∀ l, (f l).quiet = l.quiet) : (s.modLink k f).like s := by
  refine State.like_of ?_ rfl rfl rfl
  have e : (List.range 8).map (fun d => (d, ((s.modLink k f).link d).quiet)) = (List.range 8).map (fun d => (d, (s.link d).quiet)) := by
    apply List.map_congr_left
    intro d _
    rw [State.link_modLink]
    split
    · next hd => rw [h, hd]
    · rfl
  unfold State.quiet
  rw [e]
  rfl

theorem State.like_orderSafe (s : State) (k : Nat) : (s.orderSafe k).like s := State.like_modLink s k _ (fun _ => rfl)

theorem State.like_reportTimeout (s : State) (fn u g : Nat) : (s.reportTimeout fn u g).like s := by
  unfold State.reportTimeout
  dsimp only
  exact State.like_trans (State.like_raise _ _ _ _ _ _ _ _) (State.like_trans (State.like_modLink _ _ _ (fun _ => rfl))
    (State.like_ite (State.like_emit _ _) (State.like_refl s)))

theorem State.like_msi (s : State) (fn v : Nat) : (s.msi fn v).like s := by
  unfold State.msi
  exact State.like_ite (State.like_emit _ _) (State.like_setFunc _ _ _)

theorem State.like_putWrite (s : State) (fn : Nat) (w : HeldWrite) : (s.putWrite fn w).like s := by
  unfold State.putWrite State.issueWrite
  exact State.like_ite (State.like_ite (State.like_reportTimeout _ _ _ _)
    (State.like_ite (State.like_of rfl rfl rfl rfl) (State.like_writeBytes _ _ _ _))) (State.like_modFunc _ _ _)

theorem State.like_hostWrite (s : State) (fn a : Nat) (bs : List Byte) : (s.hostWrite fn a bs).like s := State.like_putWrite s fn _

theorem State.like_queueWrite (s : State) (fn q a : Nat) (bs : List Byte) : (s.queueWrite fn q a bs).like s :=
  State.like_trans (State.like_putWrite _ _ _) (State.like_orderSafe s _)

/-- A confirming read takes a tag and changes nothing else. -/
theorem State.like_mirrorRead (s : State) : s.mirrorRead.like s := by
  unfold State.mirrorRead
  split
  · exact State.like_refl s
  · unfold State.needRead
    split
    · exact State.like_refl s
    · unfold State.issueRead
      dsimp only
      split
      · exact State.like_refl s
      · split
        · exact State.like_refl s
        · exact State.like_of rfl rfl rfl rfl

theorem State.like_mirrorFlush (s : State) : s.mirrorFlush.like s := by
  unfold State.mirrorFlush
  dsimp only
  exact State.like_trans (State.like_mirrorRead _) (State.like_trans (State.like_journal _ _)
    (like_foldl _ (fun s e => State.like_writeBytes s _ _ _) _ s))

theorem State.like_mirrorStep (s : State) : s.mirrorStep.like s := by
  unfold State.mirrorStep
  split
  · exact State.like_ite (State.like_mirrorFlush s) (State.like_journal _ _)
  · exact State.like_refl s

theorem State.like_journalAdd (s : State) (e : JEntry) : (s.journalAdd e).like s := by
  unfold State.journalAdd
  dsimp only
  split
  · exact State.like_refl s
  · exact State.like_trans (State.like_mirrorStep _) (State.like_ite (State.like_of rfl rfl rfl rfl) (State.like_journal _ _))

theorem State.like_journalPut (s : State) (e : JEntry) : (s.journalPut e).like s := by
  unfold State.journalPut
  exact State.like_ite (State.like_trans (State.like_journalAdd _ _) (State.like_journalAdd _ _)) (State.like_journalAdd _ _)

theorem State.like_firmwareEntry (s : State) (w : Nat) : (s.firmwareEntry w).like s := State.like_journalPut s _

theorem State.like_recordCommand (s : State) (p : Packet) (st t : Nat) (r : List Byte) : (s.recordCommand p st t r).like s :=
  State.like_journalPut s _

theorem State.like_fillOutbound (s : State) (fn : Nat) : (s.fillOutbound fn).like s := by
  unfold State.fillOutbound
  exact State.like_ite (State.like_trans (State.like_msi _ _ _) (State.like_setFnBox _ _ _)) (State.like_setFnBox _ _ _)

/-- A thread whose wait may end changes threads and channels alone. -/
theorem State.quiet_settleThread (s : State) (t : Nat) : (s.settleThread t).quiet = s.quiet ∧ (s.settleThread t).agentMbx = s.agentMbx := by
  unfold State.settleThread
  dsimp only
  split
  · split
    · split <;> exact ⟨rfl, rfl⟩
    · split <;> exact ⟨rfl, rfl⟩
    · exact ⟨rfl, rfl⟩
  · exact ⟨rfl, rfl⟩

theorem State.quiet_raiseInput (s : State) (t i k x : Nat) : (s.raiseInput t i k x).quiet = s.quiet ∧ (s.raiseInput t i k x).agentMbx = s.agentMbx := by
  unfold State.raiseInput
  dsimp only
  split
  · exact ⟨(State.quiet_settleThread _ t).1, (State.quiet_settleThread _ t).2⟩
  · exact ⟨rfl, rfl⟩

/-- Words that wake a receiver. -/
theorem State.like_wakeReceiver (s : State) (n : Nat) : (s.wakeReceiver n).like s := by
  unfold State.wakeReceiver
  dsimp only
  split
  · next h =>
    obtain ⟨hq, ha⟩ := State.quiet_raiseInput s (threadOfId (s.agentBox n).receiver) (s.agentBox n).event 4 0
    refine ⟨hq, fun k => congrArg (fun m => (Tbl.look AgentMailbox.reset m k).receiver) ha, fun hk => ?_⟩
    rw [hk n] at h
    cases h
  · exact State.like_refl s

theorem State.like_fillAgent (s : State) (n : Nat) : (s.fillAgent n).like s := by
  unfold State.fillAgent
  dsimp only
  have h := State.like_setAgentBox s n { s.agentBox n with
    queue := (s.agentBox n).queue ++ (s.agentBox n).held.take (16 - (s.agentBox n).queue.length),
    held := (s.agentBox n).held.drop ((s.agentBox n).held.take (16 - (s.agentBox n).queue.length)).length,
    nextIsB := (s.agentBox n).rotate ((s.agentBox n).held.take (16 - (s.agentBox n).queue.length)).length } rfl
  exact State.like_ite h (State.like_trans (State.like_wakeReceiver _ _) h)

theorem State.like_chainReply (s : State) (q : Nat) (b : List Byte) : (s.chainReply q b).like s := State.like_of rfl rfl rfl rfl

theorem State.like_sendChainReply (s : State) (q : Nat) (b : List Byte) : (s.sendChainReply q b).like s :=
  State.like_of rfl rfl rfl rfl

theorem State.like_nvmeDrain (s : State) (fn cq n : Nat) : (s.nvmeDrain fn cq n).like s := by
  induction n generalizing s with
  | zero => exact State.like_refl s
  | succ n ih =>
    unfold State.nvmeDrain
    split
    · exact State.like_refl s
    · split
      · exact State.like_refl s
      · dsimp only
        refine State.like_ite (State.like_refl s) (State.like_trans (ih _) ?_)
        exact State.like_ite
          (State.like_trans (State.like_msi _ _ _) (State.like_trans (State.like_modNvme _ _ _) (State.like_queueWrite _ _ _ _ _)))
          (State.like_trans (State.like_modNvme _ _ _) (State.like_queueWrite _ _ _ _ _))

theorem State.like_nvmeDrainAll (s : State) (fn : Nat) : (s.nvmeDrainAll fn).like s := by
  unfold State.nvmeDrainAll
  exact like_foldl _ (fun s (e : Nat × NvmeQueue) => State.like_nvmeDrain s fn e.1 _) _ s

theorem State.like_nvmePost (s : State) (fn sq cid d st : Nat) : (s.nvmePost fn sq cid d st).like s := by
  unfold State.nvmePost
  dsimp only
  split
  · exact State.like_refl s
  · exact State.like_trans (State.like_nvmeDrain _ _ _ _) (State.like_setNvme _ _ _)

theorem State.like_sendReply (s : State) (p : Packet) (r : Reply) : (s.sendReply p r).like s := by
  unfold State.sendReply
  refine State.like_ite (State.like_refl s) ?_
  split
  · exact State.like_modCmdq _ _ _
  · exact State.like_trans (State.like_fillOutbound _ _) (State.like_modFnBox _ _ _)
  · split
    · exact State.like_refl s
    · exact State.like_trans (State.like_fillAgent _ _) (State.like_setAgentBox _ _ _ rfl)
  · exact State.like_trans (State.like_nvmePost _ _ _ _ _ _) (State.like_modNvme _ _ _)
  · exact State.like_ite (State.like_sendChainReply _ _ _) (State.like_refl s)
  · exact State.like_refl s

theorem State.like_releaseWaiting (s : State) : s.releaseWaiting.like s := by
  unfold State.releaseWaiting
  exact State.like_ite (State.like_refl s) (State.like_trans (like_foldl _ (fun s (e : Packet × Reply) => State.like_sendReply s e.1 _) _ _)
    (State.like_journal _ _))

theorem State.like_mirrorCheck (s : State) : s.mirrorCheck.like s :=
  State.like_trans (State.like_releaseWaiting _) (State.like_mirrorStep s)

/-- Delivering a reply. -/
theorem State.like_deliver (s : State) (p : Packet) (r : Reply) : (s.deliver p r).like s := by
  unfold State.deliver
  exact State.like_ite (State.like_trans (State.like_journal _ _) (State.like_releaseWaiting s))
    (State.like_trans (State.like_sendReply _ _ _) (State.like_releaseWaiting s))

/-- Making a record. -/
theorem State.like_makeRecord (s : State) (l : Latched) (h : Bool) : (s.makeRecord l h).1.like s := by
  unfold State.makeRecord
  dsimp only
  split
  · exact State.like_errors _ _
  · split
    · exact State.like_trans (like_foldl _ (fun s d => State.like_msi s _ _) _ _) (State.like_errors _ _)
    · exact State.like_errors _ _

theorem State.like_replied (s : State) (q : Packet) (r : List Byte) : (s.replied q r).like s := State.like_deliver s q _

theorem State.like_recorded (s : State) (q : Packet) (r : List Byte) : (s.recorded q r).like s :=
  State.like_trans (State.like_deliver _ _ _) (State.like_recordCommand s _ _ _ _)

theorem State.like_recordedAs (s : State) (q : Packet) (st : Nat) (r : List Byte) : (s.recordedAs q st r).like s :=
  State.like_trans (State.like_deliver _ _ _) (State.like_recordCommand s _ _ _ _)

end Sys2Proof.Machine
end

