-- ==== Sys2Proof/Laws/Command.lean ====
section
/-! SUPPORT. What submitting a command packet comes to: the decision of the lead, the reply of a command that is not journalled, the
record and reply of one that is. -/

namespace Sys2Proof.Machine

/-- A packet the lead takes is decided by its row. -/
theorem State.submit_takes {s : State} {q : Packet} {row : OpRow} (run : State → Answer) (post : State → State) (h : s.takes q)
    (hr : opRow q.opcode = some row) : s.submit q run post = s.decideWith q row run post := by
  obtain ⟨h1, h2, h3, h4, h5, _⟩ := h
  simp [State.submit, h1, h2, h3, hr, h5]

/-- A command that is not journalled and ends OK is answered with its result. -/
theorem State.submit_replied {s t : State} {q : Packet} {row : OpRow} {run : State → Answer} (post : State → State)
    {r : List Byte} (h : s.takes q) (hr : opRow q.opcode = some row) (hj : row.journalled = false) (ha : run s = t.answers r) :
    s.submit q run post = t.replied q r := by
  rw [State.submit_takes run post h hr]
  obtain ⟨h1, h2, h3, h4, _, hp⟩ := h
  simp [State.decideWith, Nat.not_le.mpr h4, hp, hj, ha, State.answers, State.replied]

/-- A journalled command that ends OK is recorded and answered; its run changes neither the journal nor the tempo. -/
theorem State.submit_recorded {s t : State} {q : Packet} {row : OpRow} {run : State → Answer} {r : List Byte}
    (h : s.takesRecorded q) (hr : opRow q.opcode = some row) (hj : row.journalled = true) (ha : run s = t.answers r)
    (hn : t.journal.next = s.journal.next) (hc : t.tempo.current = s.tempo.current) :
    s.submit q run (fun s => s) = t.recorded q r := by
  obtain ⟨ht, h5, h6, h8, h9⟩ := h
  rw [State.submit_takes run _ ht hr]
  obtain ⟨h1, h2, h3, h4, _, hp⟩ := ht
  simp [State.decideWith, Nat.not_le.mpr h4, hp, hj, ha, State.answers, State.recorded, h5, h6, h8, h9, hn, hc, stOk, stBusy]

/-- A journalled command that ends in another status than OK or BUSY_RETRY is recorded and answered with it. -/
theorem State.submit_recordedAs {s t : State} {q : Packet} {row : OpRow} {run : State → Answer} {st : Nat} {r : List Byte}
    (post : State → State) (h : s.takesRecorded q) (hr : opRow q.opcode = some row) (hj : row.journalled = true)
    (ha : run s = { state := t, status := some st, result := r }) (h0 : st ≠ stOk) (h2 : st ≠ stBusy)
    (hc : t.tempo.current = s.tempo.current) : s.submit q run post = t.recordedAs q st r := by
  obtain ⟨ht, h5, h6, h8, h9⟩ := h
  rw [State.submit_takes run _ ht hr]
  obtain ⟨h1, h2', h3, h4, _, hp⟩ := ht
  simp [State.decideWith, Nat.not_le.mpr h4, hp, hj, ha, State.recordedAs, h5, h6, h8, h9, hc, h0, h2]

/-- A command that fails is answered with its status; a journalled one is recorded first. -/
theorem State.submit_fails {s : State} {q : Packet} {row : OpRow} {run : State → Answer} (post : State → State) {st : Nat}
    (h : s.takes q) (hr : opRow q.opcode = some row) (hj : row.journalled = false) (ha : run s = s.fails st) :
    s.submit q run post = s.deliver q (q.reply st 0 0 0 []) := by
  rw [State.submit_takes run post h hr]
  obtain ⟨h1, h2, h3, h4, _, hp⟩ := h
  simp [State.decideWith, Nat.not_le.mpr h4, hp, hj, ha, State.fails]

end Sys2Proof.Machine
end

