-- ==== Sys2Proof/Laws/PerInstr.lean ====
section
/-! SUPPORT. A law of every command's encoding: the word of a well-formed instruction has 32 bits (spec/17 R545). -/

set_option Elab.async false
set_option linter.unusedSimpArgs false

namespace Sys2Proof.Laws.Word
open Machine

/-- The word of the command, where it has one, is a 32-bit word. -/
def Statement (i : Instr) : Prop := i.wf = true → ∀ w, encodeWord i = some w → w < 2 ^ 32

theorem none_word {i : Instr} (h : encodeWord i = none) : Statement i := by
  intro _ w e; rw [h] at e; cases e

theorem vauxRise : Statement .vauxRise := none_word rfl
theorem vauxLoss : Statement .vauxLoss := none_word rfl
theorem vinRise : Statement .vinRise := none_word rfl
theorem railsGood : Statement .railsGood := none_word rfl
theorem vinLow : Statement .vinLow := none_word rfl
theorem railOutOfRegulation (die : Nat) : Statement (.railOutOfRegulation die) := none_word rfl
theorem pkgResetN (asserted : Bool) : Statement (.pkgResetN asserted) := none_word rfl
theorem perstN (position : Nat) (asserted : Bool) : Statement (.perstN position asserted) := none_word rfl
theorem trstN : Statement .trstN := none_word rfl
theorem rootPllLock : Statement .rootPllLock := none_word rfl
theorem selfTest (position : Nat) (passed : Bool) : Statement (.selfTest position passed) := none_word rfl
theorem dieChain : Statement .dieChain := none_word rfl
theorem flashHeaderRead (present : Bool) (modes : Nat) (a b : Option ImageHeader) : Statement (.flashHeaderRead present modes a b) := none_word rfl
theorem imageRead (check : ImageCheck) : Statement (.imageRead check) := none_word rfl
theorem firmwareStart : Statement .firmwareStart := none_word rfl
theorem bootWatchdog : Statement .bootWatchdog := none_word rfl
theorem refclkLoss : Statement .refclkLoss := none_word rfl
theorem refclkHoldoverExpiry : Statement .refclkHoldoverExpiry := none_word rfl
theorem refclkReturn : Statement .refclkReturn := none_word rfl
theorem pllLockLoss (die : Nat) (standbyOk : Bool) : Statement (.pllLockLoss die standbyOk) := none_word rfl
theorem temperatureMeasure (die : Nat) (temp : Int) : Statement (.temperatureMeasure die temp) := none_word rfl
theorem thermalTrip (die : Nat) : Statement (.thermalTrip die) := none_word rfl
theorem supplyMeasure (vinMv vauxMv inputDw : Nat) : Statement (.supplyMeasure vinMv vauxMv inputDw) := none_word rfl
theorem stollekFrameReceive (frame : List Byte) : Statement (.stollekFrameReceive frame) := none_word rfl
theorem enumerate (seq next mode maxRate : Nat) : Statement (.enumerate seq next mode maxRate) := none_word rfl
theorem rate (seq code : Nat) : Statement (.rate seq code) := none_word rfl
theorem release (dest seq : Nat) : Statement (.release dest seq) := none_word rfl
theorem bypass (dest seq : Nat) (enter : Bool) : Statement (.bypass dest seq enter) := none_word rfl
theorem status (dest seq : Nat) : Statement (.status dest seq) := none_word rfl
theorem wake (dest seq mask : Nat) : Statement (.wake dest seq mask) := none_word rfl
theorem spdm (link : Option Nat) (seq code : Nat) (body : List Byte) : Statement (.spdm link seq code body) := none_word rfl
theorem command (seq byte0 : Nat) (data : List Byte) : Statement (.command seq byte0 data) := none_word rfl
theorem commandFetch (seq n : Nat) : Statement (.commandFetch seq n) := none_word rfl
theorem chainPartialCommandTimeout : Statement .chainPartialCommandTimeout := none_word rfl
theorem chainReplyHoldTimeout : Statement .chainReplyHoldTimeout := none_word rfl
theorem endorseFrame (seq byte0 : Nat) (data : List Byte) (good : SigResult) : Statement (.endorseFrame seq byte0 data good) := none_word rfl
theorem chainClockLoss : Statement .chainClockLoss := none_word rfl
theorem txnFramePrepare (seq txn group instant : Nat) : Statement (.txnFramePrepare seq txn group instant) := none_word rfl
theorem txnFrameCommit (seq txn group instant : Nat) : Statement (.txnFrameCommit seq txn group instant) := none_word rfl
theorem txnFrameAbort (seq txn group instant : Nat) : Statement (.txnFrameAbort seq txn group instant) := none_word rfl
theorem txnFrameStatus (seq txn group instant : Nat) : Statement (.txnFrameStatus seq txn group instant) := none_word rfl
theorem crossPackageCommitDeadline (txn : Nat) : Statement (.crossPackageCommitDeadline txn) := none_word rfl
theorem linkTraining (link speed width : Nat) (flit reversed : Bool) (failedLanes : Nat) : Statement (.linkTraining link speed width flit reversed failedLanes) := none_word rfl
theorem receiverDetection (link : Nat) (present : Bool) : Statement (.receiverDetection link present) := none_word rfl
theorem surpriseLinkDown (link : Nat) : Statement (.surpriseLinkDown link) := none_word rfl
theorem malformedTlp (link : Nat) : Statement (.malformedTlp link) := none_word rfl
theorem hostPathInternalError (link : Nat) : Statement (.hostPathInternalError link) := none_word rfl
theorem hotReset (link : Nat) : Statement (.hotReset link) := none_word rfl
theorem busMasterEnableClear (fn : Nat) : Statement (.busMasterEnableClear fn) := none_word rfl
theorem busMasterEnableSet (fn : Nat) : Statement (.busMasterEnableSet fn) := none_word rfl
theorem functionLevelReset (fn : Nat) : Statement (.functionLevelReset fn) := none_word rfl
theorem vfEnableClear (pf : Nat) : Statement (.vfEnableClear pf) := none_word rfl
theorem d3hotEntry (fn : Nat) : Statement (.d3hotEntry fn) := none_word rfl
theorem d3hotExit (fn : Nat) : Statement (.d3hotExit fn) := none_word rfl
theorem pmeEvent (fn : Nat) : Statement (.pmeEvent fn) := none_word rfl
theorem configurationRequest (fn : Nat) (write : Bool) (field value : Nat) : Statement (.configurationRequest fn write field value) := none_word rfl
theorem completionArrival (link tag : Nat) (data : List Byte) (good : Bool) : Statement (.completionArrival link tag data good) := none_word rfl
theorem completionTimeout (link tag : Nat) : Statement (.completionTimeout link tag) := none_word rfl
theorem quarantineExpiry (link tag : Nat) : Statement (.quarantineExpiry link tag) := none_word rfl
theorem ideCheckFailure (link stream : Nat) : Statement (.ideCheckFailure link stream) := none_word rfl
theorem containmentRelease (link value : Nat) : Statement (.containmentRelease link value) := none_word rfl
theorem releaseArmTimeout (link : Nat) : Statement (.releaseArmTimeout link) := none_word rfl
theorem mbxSend (box writer : Nat) (value : Word32) : Statement (.mbxSend box writer value) := none_word rfl
theorem mbxSendEnd (box writer : Nat) (value : Word32) : Statement (.mbxSendEnd box writer value) := none_word rfl
theorem mbxRecv (box reader : Nat) : Statement (.mbxRecv box reader) := none_word rfl
theorem cmdqRequestDoorbell (link tail : Nat) : Statement (.cmdqRequestDoorbell link tail) := none_word rfl
theorem cmdqReplyHeadWrite (link head : Nat) : Statement (.cmdqReplyHeadWrite link head) := none_word rfl
theorem cmdqEnable (link : Nat) (on : Bool) : Statement (.cmdqEnable link on) := none_word rfl
theorem commandPacketFetched (link : Nat) : Statement (.commandPacketFetched link) := none_word rfl
theorem commandReplyWrite (link : Nat) : Statement (.commandReplyWrite link) := none_word rfl
theorem deviceInfo (p : Packet) : Statement (.deviceInfo p) := none_word rfl
theorem journalQuery (p : Packet) : Statement (.journalQuery p) := none_word rfl
theorem journalMirrorSet (p : Packet) : Statement (.journalMirrorSet p) := none_word rfl
theorem journalMirrorClear (p : Packet) : Statement (.journalMirrorClear p) := none_word rfl
theorem journalMark (p : Packet) : Statement (.journalMark p) := none_word rfl
theorem mirrorConfirmRead (good : Bool) : Statement (.mirrorConfirmRead good) := none_word rfl
theorem mirrorRetry : Statement .mirrorRetry := none_word rfl
theorem mirrorResume : Statement .mirrorResume := none_word rfl
theorem commandPacket (fn : Nat) (cid : Nat) (address length : Nat) : Statement (.commandPacket fn cid address length) := none_word rfl
theorem commandReply (fn : Nat) (cid : Nat) (sequence address length : Nat) : Statement (.commandReply fn cid sequence address length) := none_word rfl
theorem propose (p : ProposePacket) : Statement (.propose p) := none_word rfl
theorem endorse (p : Packet) (good : SigResult) : Statement (.endorse p good) := none_word rfl
theorem authorityConfirm (p : Packet) (good : SigResult) : Statement (.authorityConfirm p good) := none_word rfl
theorem proposalQuery (p : Packet) : Statement (.proposalQuery p) := none_word rfl
theorem proposalWithdraw (p : Packet) (good : SigResult) : Statement (.proposalWithdraw p good) := none_word rfl
theorem proposalExpiry (proposal : Nat) : Statement (.proposalExpiry proposal) := none_word rfl
theorem debugUnlockExpiry : Statement .debugUnlockExpiry := none_word rfl
theorem portSetMode (p : Packet) : Statement (.portSetMode p) := none_word rfl
theorem portQuery (p : Packet) : Statement (.portQuery p) := none_word rfl
theorem portSetLanes (p : Packet) : Statement (.portSetLanes p) := none_word rfl
theorem portSetFilter (p : Packet) : Statement (.portSetFilter p) := none_word rfl
theorem autoNegotiation (port : Nat) (speed fec : Nat) (page : Option SparingPage) : Statement (.autoNegotiation port speed fec page) := none_word rfl
theorem autoNegotiationTimeout (port : Nat) : Statement (.autoNegotiationTimeout port) := none_word rfl
theorem portLinkUp (port : Nat) : Statement (.portLinkUp port) := none_word rfl
theorem portLinkDown (port : Nat) : Statement (.portLinkDown port) := none_word rfl
theorem laneFailure (die lane : Nat) : Statement (.laneFailure die lane) := none_word rfl
theorem preemptVerify (port : Nat) (answered : Bool) : Statement (.preemptVerify port answered) := none_word rfl
theorem frameReceive (port : Nat) (bytes : List Byte) (fcsGood : Bool) (frag : Fragment) : Statement (.frameReceive port bytes fcsGood frag) := none_word rfl
theorem pauseExpiry (port cls : Nat) : Statement (.pauseExpiry port cls) := none_word rfl
theorem pfcWatchdogTrip (port cls : Nat) : Statement (.pfcWatchdogTrip port cls) := none_word rfl
theorem pauseRefresh (port : Nat) : Statement (.pauseRefresh port) := none_word rfl
theorem synceRefLoss : Statement .synceRefLoss := none_word rfl
theorem synceRefReturn : Statement .synceRefReturn := none_word rfl
theorem statsSnapshot (port : Nat) : Statement (.statsSnapshot port) := none_word rfl
theorem statsClear (port : Nat) : Statement (.statsClear port) := none_word rfl
theorem wakeFrame (bytes : List Byte) : Statement (.wakeFrame bytes) := none_word rfl
theorem packetAdmit (die pipe : Nat) (faults : List Nat) : Statement (.packetAdmit die pipe faults) := none_word rfl
theorem flowReadResult (die : Nat) (read : Nat × Bool) : Statement (.flowReadResult die read) := none_word rfl
theorem actionProgram (packet : Nat) (fault : Option Nat) : Statement (.actionProgram packet fault) := none_word rfl
theorem learnApply (die : LearnService) : Statement (.learnApply die) := none_word rfl
theorem tcamDataPlaneWrite (die : TcamService) : Statement (.tcamDataPlaneWrite die) := none_word rfl
theorem entryRewrite (die table index : Nat) : Statement (.entryRewrite die table index) := none_word rfl
theorem counterCacheMiss (die pair : Nat) : Statement (.counterCacheMiss die pair) := none_word rfl
theorem policerSweep (die : Nat) : Statement (.policerSweep die) := none_word rfl
theorem cipherUnitStart (die unit : Nat) : Statement (.cipherUnitStart die unit) := none_word rfl
theorem cipherUnitDone (die unit : Nat) (tagGood : Bool) (output : List Byte) : Statement (.cipherUnitDone die unit tagGood output) := none_word rfl
theorem plaintextDepart (die unit : Nat) : Statement (.plaintextDepart die unit) := none_word rfl
theorem install (die slot fn : Nat) : Statement (.install die slot fn) := none_word rfl
theorem retire (die slot fn : Nat) : Statement (.retire die slot fn) := none_word rfl
theorem installWaitEnd (die slot : Nat) : Statement (.installWaitEnd die slot) := none_word rfl
theorem keyInstall (p : Packet) : Statement (.keyInstall p) := none_word rfl
theorem keyRetire (p : Packet) : Statement (.keyRetire p) := none_word rfl
theorem keypageMode (p : Packet) : Statement (.keypageMode p) := none_word rfl
theorem tmEnqueue (die leaf : Nat) (pkt : TmPkt) : Statement (.tmEnqueue die leaf pkt) := none_word rfl
theorem fabricEnqueue (die dest : Nat) (pkt : TmPkt) : Statement (.fabricEnqueue die dest pkt) := none_word rfl
theorem fabricSend (die dim chan : Nat) (detour : Bool) : Statement (.fabricSend die dim chan detour) := none_word rfl
theorem flitReceive (die dim chan : Nat) (detour : Bool) : Statement (.flitReceive die dim chan detour) := none_word rfl
theorem fabricPause (die fromDie cls : Nat) (pause : Bool) : Statement (.fabricPause die fromDie cls pause) := none_word rfl
theorem schedule (port : Nat) : Statement (.schedule port) := none_word rfl
theorem gateEntryChange (port : Nat) : Statement (.gateEntryChange port) := none_word rfl
theorem gateTakeover (port : Nat) : Statement (.gateTakeover port) := none_word rfl
theorem rateProfileSet (p : Packet) : Statement (.rateProfileSet p) := none_word rfl
theorem tmQuery (p : Packet) : Statement (.tmQuery p) := none_word rfl
theorem tmNodeSet (p : Packet) : Statement (.tmNodeSet p) := none_word rfl
theorem shaperSet (p : Packet) : Statement (.shaperSet p) := none_word rfl
theorem gateListSet (p : Packet) : Statement (.gateListSet p) := none_word rfl
theorem tableInsert (p : Packet) : Statement (.tableInsert p) := none_word rfl
theorem tableDelete (p : Packet) : Statement (.tableDelete p) := none_word rfl
theorem tableModify (p : Packet) : Statement (.tableModify p) := none_word rfl
theorem tableQuery (p : Packet) : Statement (.tableQuery p) := none_word rfl
theorem programLoad (p : Packet) : Statement (.programLoad p) := none_word rfl
theorem steerSet (p : Packet) : Statement (.steerSet p) := none_word rfl
theorem actionParamSet (p : Packet) : Statement (.actionParamSet p) := none_word rfl
theorem txnBegin (p : Packet) : Statement (.txnBegin p) := none_word rfl
theorem txnCommit (p : Packet) : Statement (.txnCommit p) := none_word rfl
theorem txnAbort (p : Packet) : Statement (.txnAbort p) := none_word rfl
theorem txnQuery (p : Packet) : Statement (.txnQuery p) := none_word rfl
theorem txnExpiry (txn : Nat) : Statement (.txnExpiry txn) := none_word rfl
theorem phaseOne (txn : Nat) : Statement (.phaseOne txn) := none_word rfl
theorem prepare (die : Nat) : Statement (.prepare die) := none_word rfl
theorem prepareAnswer (die : Nat) (ready : Bool) : Statement (.prepareAnswer die ready) := none_word rfl
theorem tempoSwitch : Statement .tempoSwitch := none_word rfl
theorem ageingSweep (die : Nat) : Statement (.ageingSweep die) := none_word rfl
theorem reclaim (die : Nat) : Statement (.reclaim die) := none_word rfl
theorem timeQuery (p : Packet) : Statement (.timeQuery p) := none_word rfl
theorem timeSet (p : Packet) : Statement (.timeSet p) := none_word rfl
theorem timeAdjust (p : Packet) : Statement (.timeAdjust p) := none_word rfl
theorem timeChangeTick : Statement .timeChangeTick := none_word rfl
theorem alignmentMeasurement (die : Nat) (offset : Int) : Statement (.alignmentMeasurement die offset) := none_word rfl
theorem alignmentTimeout (die : Nat) : Statement (.alignmentTimeout die) := none_word rfl
theorem timeCapture (die : Nat) : Statement (.timeCapture die) := none_word rfl
theorem ppsConfig (p : Packet) : Statement (.ppsConfig p) := none_word rfl
theorem ppsInEdge (edge : PpsEdge) : Statement (.ppsInEdge edge) := none_word rfl
theorem ppsOutPulse (rise : Bool) : Statement (.ppsOutPulse rise) := none_word rfl
theorem queueCreate (p : Packet) : Statement (.queueCreate p) := none_word rfl
theorem queueDestroy (p : Packet) : Statement (.queueDestroy p) := none_word rfl
theorem queueQuery (p : Packet) : Statement (.queueQuery p) := none_word rfl
theorem queueSetMapping (p : Packet) : Statement (.queueSetMapping p) := none_word rfl
theorem sqDoorbell (fn queue index : Nat) : Statement (.sqDoorbell fn queue index) := none_word rfl
theorem cqDoorbell (fn queue index : Nat) (arm : Bool) : Statement (.cqDoorbell fn queue index arm) := none_word rfl
theorem paceAck (die chan bytes : Nat) : Statement (.paceAck die chan bytes) := none_word rfl
theorem sqFetch (fn queue : Nat) : Statement (.sqFetch fn queue) := none_word rfl
theorem sqEntryFetched (fn queue : Nat) : Statement (.sqEntryFetched fn queue) := none_word rfl
theorem ownWaitRetry (fn queue : Nat) : Statement (.ownWaitRetry fn queue) := none_word rfl
theorem controlFetchRetry (fn queue index : Nat) : Statement (.controlFetchRetry fn queue index) := none_word rfl
theorem send (fn queue index : Nat) : Statement (.send fn queue index) := none_word rfl
theorem sendTso (fn queue index : Nat) : Statement (.sendTso fn queue index) := none_word rfl
theorem rxPost (fn queue index : Nat) : Statement (.rxPost fn queue index) := none_word rfl
theorem nop (fn queue index : Nat) : Statement (.nop fn queue index) := none_word rfl
theorem rxDeliver (fn queue : Nat) (pkt : TmPkt) : Statement (.rxDeliver fn queue pkt) := none_word rfl
theorem rxHoldExpiry (fn queue : Nat) : Statement (.rxHoldExpiry fn queue) := none_word rfl
theorem completionWrite (fn queue : Nat) : Statement (.completionWrite fn queue) := none_word rfl
theorem interruptModerationExpiry (fn queue : Nat) : Statement (.interruptModerationExpiry fn queue) := none_word rfl
theorem dmaCopy (die chan n : Nat) : Statement (.dmaCopy die chan n) := none_word rfl
theorem dmaFill (die chan n : Nat) : Statement (.dmaFill die chan n) := none_word rfl
theorem dmaCompare (die chan n : Nat) : Statement (.dmaCompare die chan n) := none_word rfl
theorem dmaReadBack (die chan : Nat) : Statement (.dmaReadBack die chan) := none_word rfl
theorem dmaPause (die chan : Nat) (on : Bool) : Statement (.dmaPause die chan on) := none_word rfl
theorem dmaAbort (die chan : Nat) : Statement (.dmaAbort die chan) := none_word rfl
theorem dmaGo (die chan binder : Nat) : Statement (.dmaGo die chan binder) := none_word rfl
theorem dmaElemWrite (die chan binder offset : Nat) (bytes : List Byte) : Statement (.dmaElemWrite die chan binder offset bytes) := none_word rfl
theorem namespaceCreate (p : Packet) : Statement (.namespaceCreate p) := none_word rfl
theorem namespaceDestroy (p : Packet) : Statement (.namespaceDestroy p) := none_word rfl
theorem targetPathSet (p : Packet) : Statement (.targetPathSet p) := none_word rfl
theorem ccEnClear (fn : Nat) : Statement (.ccEnClear fn) := none_word rfl
theorem nvmeRead (fn sq : Nat) : Statement (.nvmeRead fn sq) := none_word rfl
theorem nvmeWrite (fn sq : Nat) : Statement (.nvmeWrite fn sq) := none_word rfl
theorem nvmeFlush (fn sq : Nat) : Statement (.nvmeFlush fn sq) := none_word rfl
theorem nvmeCompare (fn sq : Nat) : Statement (.nvmeCompare fn sq) := none_word rfl
theorem nvmeWriteZeroes (fn sq : Nat) : Statement (.nvmeWriteZeroes fn sq) := none_word rfl
theorem nvmeDatasetManagement (fn sq : Nat) : Statement (.nvmeDatasetManagement fn sq) := none_word rfl
theorem nvmeAbort (fn : Nat) : Statement (.nvmeAbort fn) := none_word rfl
theorem createIoSq (fn : Nat) : Statement (.createIoSq fn) := none_word rfl
theorem deleteIoSq (fn : Nat) : Statement (.deleteIoSq fn) := none_word rfl
theorem createIoCq (fn : Nat) : Statement (.createIoCq fn) := none_word rfl
theorem deleteIoCq (fn : Nat) : Statement (.deleteIoCq fn) := none_word rfl
theorem identify (fn : Nat) : Statement (.identify fn) := none_word rfl
theorem getLogPage (fn : Nat) : Statement (.getLogPage fn) := none_word rfl
theorem setFeatures (fn : Nat) : Statement (.setFeatures fn) := none_word rfl
theorem getFeatures (fn : Nat) : Statement (.getFeatures fn) := none_word rfl
theorem asynchronousEventRequest (fn : Nat) : Statement (.asynchronousEventRequest fn) := none_word rfl
theorem targetCompletion (die cmd status : Nat) (data : List Byte) : Statement (.targetCompletion die cmd status data) := none_word rfl
theorem pathConnect (die target path : Nat) (remotes : Tbl RemoteNs) : Statement (.pathConnect die target path remotes) := none_word rfl
theorem anaChange (die target path : Nat) (states : List (Nat × Ana)) : Statement (.anaChange die target path states) := none_word rfl
theorem pathDown (die target path : Nat) : Statement (.pathDown die target path) := none_word rfl
theorem pathReconnect (die target path : Nat) : Statement (.pathReconnect die target path) := none_word rfl
theorem fenceExpiry (die target path : Nat) : Statement (.fenceExpiry die target path) := none_word rfl
theorem ioHoldExpiry (die cmd : Nat) : Statement (.ioHoldExpiry die cmd) := none_word rfl
theorem orphanTimeout (die cmd : Nat) : Statement (.orphanTimeout die cmd) := none_word rfl
theorem funcCreate (p : Packet) : Statement (.funcCreate p) := none_word rfl
theorem funcDestroy (p : Packet) : Statement (.funcDestroy p) := none_word rfl
theorem funcQuery (p : Packet) : Statement (.funcQuery p) := none_word rfl
theorem funcSetResources (p : Packet) : Statement (.funcSetResources p) := none_word rfl
theorem twinPairPair (p : Packet) : Statement (.twinPairPair p) := none_word rfl
theorem twinPairUnpair (p : Packet) : Statement (.twinPairUnpair p) := none_word rfl
theorem twinPairSwap (p : Packet) : Statement (.twinPairSwap p) := none_word rfl
theorem availabilityObserve (pair : Nat) (bMember : Bool) : Statement (.availabilityObserve pair bMember) := none_word rfl
theorem funcFreeze (p : Packet) : Statement (.funcFreeze p) := none_word rfl
theorem freezeReadDone (fn : Nat) : Statement (.freezeReadDone fn) := none_word rfl
theorem funcSave (p : Packet) : Statement (.funcSave p) := none_word rfl
theorem funcRestore (p : Packet) : Statement (.funcRestore p) := none_word rfl
theorem funcThaw (p : Packet) : Statement (.funcThaw p) := none_word rfl
theorem threadLoad (p : Packet) : Statement (.threadLoad p) := none_word rfl
theorem threadUnload (p : Packet) : Statement (.threadUnload p) := none_word rfl
theorem threadQuery (p : Packet) : Statement (.threadQuery p) := none_word rfl
theorem threadDebugStop (p : Packet) : Statement (.threadDebugStop p) := none_word rfl
theorem threadDebugResume (p : Packet) : Statement (.threadDebugResume p) := none_word rfl
theorem threadDebugStep (p : Packet) : Statement (.threadDebugStep p) := none_word rfl
theorem threadDebugKill (p : Packet) : Statement (.threadDebugKill p) := none_word rfl
theorem threadDebugRead (p : Packet) : Statement (.threadDebugRead p) := none_word rfl
theorem threadDebugWriteReg (p : Packet) : Statement (.threadDebugWriteReg p) := none_word rfl
theorem threadDebugBreakSet (p : Packet) : Statement (.threadDebugBreakSet p) := none_word rfl
theorem threadDebugBreakClear (p : Packet) : Statement (.threadDebugBreakClear p) := none_word rfl
theorem threadCtrlResume (t writer : Nat) : Statement (.threadCtrlResume t writer) := none_word rfl
theorem threadCtrlRestart (t writer : Nat) : Statement (.threadCtrlRestart t writer) := none_word rfl
theorem threadCtrlKill (t writer : Nat) : Statement (.threadCtrlKill t writer) := none_word rfl
theorem threadCtrlReleaseLocks (t writer : Nat) : Statement (.threadCtrlReleaseLocks t writer) := none_word rfl
theorem threadEventDeadline (t writer value : Nat) : Statement (.threadEventDeadline t writer value) := none_word rfl
theorem threadTimer (t : Nat) : Statement (.threadTimer t) := none_word rfl
theorem pktViewOpen (t view cell : Nat) : Statement (.pktViewOpen t view cell) := none_word rfl
theorem pktViewLength (t view length : Nat) : Statement (.pktViewLength t view length) := none_word rfl
theorem alloc (t view : Nat) : Statement (.alloc t view) := none_word rfl
theorem free (t view : Nat) : Statement (.free t view) := none_word rfl
theorem lockRead (pod lock : Nat) (readers : List Nat) : Statement (.lockRead pod lock readers) := none_word rfl
theorem lockRelease (pod lock writer : Nat) : Statement (.lockRelease pod lock writer) := none_word rfl
theorem messageCommit (t : Nat) : Statement (.messageCommit t) := none_word rfl
theorem interruptTake (t : Nat) : Statement (.interruptTake t) := none_word rfl
theorem breakpointHit (t : Nat) : Statement (.breakpointHit t) := none_word rfl
theorem stalemateReport (pod : Nat) : Statement (.stalemateReport pod) := none_word rfl
theorem coreFailure (pod position : Nat) : Statement (.coreFailure pod position) := none_word rfl
theorem add (t rd ra rb : Nat) : Statement (.add t rd ra rb) := by
  intro h w e
  simp [Instr.wf, okThread, okReg, okImm, okShift, okUpper, okJump, okSr, okFunc] at h
  simp [encodeWord, encR, encI, encJ, encU] at e
  omega
theorem sub (t rd ra rb : Nat) : Statement (.sub t rd ra rb) := by
  intro h w e
  simp [Instr.wf, okThread, okReg, okImm, okShift, okUpper, okJump, okSr, okFunc] at h
  simp [encodeWord, encR, encI, encJ, encU] at e
  omega
theorem and (t rd ra rb : Nat) : Statement (.and t rd ra rb) := by
  intro h w e
  simp [Instr.wf, okThread, okReg, okImm, okShift, okUpper, okJump, okSr, okFunc] at h
  simp [encodeWord, encR, encI, encJ, encU] at e
  omega
theorem or (t rd ra rb : Nat) : Statement (.or t rd ra rb) := by
  intro h w e
  simp [Instr.wf, okThread, okReg, okImm, okShift, okUpper, okJump, okSr, okFunc] at h
  simp [encodeWord, encR, encI, encJ, encU] at e
  omega
theorem xor (t rd ra rb : Nat) : Statement (.xor t rd ra rb) := by
  intro h w e
  simp [Instr.wf, okThread, okReg, okImm, okShift, okUpper, okJump, okSr, okFunc] at h
  simp [encodeWord, encR, encI, encJ, encU] at e
  omega
theorem shl (t rd ra rb : Nat) : Statement (.shl t rd ra rb) := by
  intro h w e
  simp [Instr.wf, okThread, okReg, okImm, okShift, okUpper, okJump, okSr, okFunc] at h
  simp [encodeWord, encR, encI, encJ, encU] at e
  omega
theorem shr (t rd ra rb : Nat) : Statement (.shr t rd ra rb) := by
  intro h w e
  simp [Instr.wf, okThread, okReg, okImm, okShift, okUpper, okJump, okSr, okFunc] at h
  simp [encodeWord, encR, encI, encJ, encU] at e
  omega
theorem sar (t rd ra rb : Nat) : Statement (.sar t rd ra rb) := by
  intro h w e
  simp [Instr.wf, okThread, okReg, okImm, okShift, okUpper, okJump, okSr, okFunc] at h
  simp [encodeWord, encR, encI, encJ, encU] at e
  omega
theorem slt (t rd ra rb : Nat) : Statement (.slt t rd ra rb) := by
  intro h w e
  simp [Instr.wf, okThread, okReg, okImm, okShift, okUpper, okJump, okSr, okFunc] at h
  simp [encodeWord, encR, encI, encJ, encU] at e
  omega
theorem sltu (t rd ra rb : Nat) : Statement (.sltu t rd ra rb) := by
  intro h w e
  simp [Instr.wf, okThread, okReg, okImm, okShift, okUpper, okJump, okSr, okFunc] at h
  simp [encodeWord, encR, encI, encJ, encU] at e
  omega
theorem min (t rd ra rb : Nat) : Statement (.min t rd ra rb) := by
  intro h w e
  simp [Instr.wf, okThread, okReg, okImm, okShift, okUpper, okJump, okSr, okFunc] at h
  simp [encodeWord, encR, encI, encJ, encU] at e
  omega
theorem max (t rd ra rb : Nat) : Statement (.max t rd ra rb) := by
  intro h w e
  simp [Instr.wf, okThread, okReg, okImm, okShift, okUpper, okJump, okSr, okFunc] at h
  simp [encodeWord, encR, encI, encJ, encU] at e
  omega
theorem minu (t rd ra rb : Nat) : Statement (.minu t rd ra rb) := by
  intro h w e
  simp [Instr.wf, okThread, okReg, okImm, okShift, okUpper, okJump, okSr, okFunc] at h
  simp [encodeWord, encR, encI, encJ, encU] at e
  omega
theorem maxu (t rd ra rb : Nat) : Statement (.maxu t rd ra rb) := by
  intro h w e
  simp [Instr.wf, okThread, okReg, okImm, okShift, okUpper, okJump, okSr, okFunc] at h
  simp [encodeWord, encR, encI, encJ, encU] at e
  omega
theorem mul (t rd ra rb : Nat) : Statement (.mul t rd ra rb) := by
  intro h w e
  simp [Instr.wf, okThread, okReg, okImm, okShift, okUpper, okJump, okSr, okFunc] at h
  simp [encodeWord, encR, encI, encJ, encU] at e
  omega
theorem mulh (t rd ra rb : Nat) : Statement (.mulh t rd ra rb) := by
  intro h w e
  simp [Instr.wf, okThread, okReg, okImm, okShift, okUpper, okJump, okSr, okFunc] at h
  simp [encodeWord, encR, encI, encJ, encU] at e
  omega
theorem mulhu (t rd ra rb : Nat) : Statement (.mulhu t rd ra rb) := by
  intro h w e
  simp [Instr.wf, okThread, okReg, okImm, okShift, okUpper, okJump, okSr, okFunc] at h
  simp [encodeWord, encR, encI, encJ, encU] at e
  omega
theorem div (t rd ra rb : Nat) : Statement (.div t rd ra rb) := by
  intro h w e
  simp [Instr.wf, okThread, okReg, okImm, okShift, okUpper, okJump, okSr, okFunc] at h
  simp [encodeWord, encR, encI, encJ, encU] at e
  omega
theorem divu (t rd ra rb : Nat) : Statement (.divu t rd ra rb) := by
  intro h w e
  simp [Instr.wf, okThread, okReg, okImm, okShift, okUpper, okJump, okSr, okFunc] at h
  simp [encodeWord, encR, encI, encJ, encU] at e
  omega
theorem rem (t rd ra rb : Nat) : Statement (.rem t rd ra rb) := by
  intro h w e
  simp [Instr.wf, okThread, okReg, okImm, okShift, okUpper, okJump, okSr, okFunc] at h
  simp [encodeWord, encR, encI, encJ, encU] at e
  omega
theorem remu (t rd ra rb : Nat) : Statement (.remu t rd ra rb) := by
  intro h w e
  simp [Instr.wf, okThread, okReg, okImm, okShift, okUpper, okJump, okSr, okFunc] at h
  simp [encodeWord, encR, encI, encJ, encU] at e
  omega
theorem clz (t rd ra : Nat) : Statement (.clz t rd ra) := by
  intro h w e
  simp [Instr.wf, okThread, okReg, okImm, okShift, okUpper, okJump, okSr, okFunc] at h
  simp [encodeWord, encR, encI, encJ, encU] at e
  omega
theorem ctz (t rd ra : Nat) : Statement (.ctz t rd ra) := by
  intro h w e
  simp [Instr.wf, okThread, okReg, okImm, okShift, okUpper, okJump, okSr, okFunc] at h
  simp [encodeWord, encR, encI, encJ, encU] at e
  omega
theorem popc (t rd ra : Nat) : Statement (.popc t rd ra) := by
  intro h w e
  simp [Instr.wf, okThread, okReg, okImm, okShift, okUpper, okJump, okSr, okFunc] at h
  simp [encodeWord, encR, encI, encJ, encU] at e
  omega
theorem bswap64 (t rd ra : Nat) : Statement (.bswap64 t rd ra) := by
  intro h w e
  simp [Instr.wf, okThread, okReg, okImm, okShift, okUpper, okJump, okSr, okFunc] at h
  simp [encodeWord, encR, encI, encJ, encU] at e
  omega
theorem bswap32 (t rd ra : Nat) : Statement (.bswap32 t rd ra) := by
  intro h w e
  simp [Instr.wf, okThread, okReg, okImm, okShift, okUpper, okJump, okSr, okFunc] at h
  simp [encodeWord, encR, encI, encJ, encU] at e
  omega
theorem bswap16 (t rd ra : Nat) : Statement (.bswap16 t rd ra) := by
  intro h w e
  simp [Instr.wf, okThread, okReg, okImm, okShift, okUpper, okJump, okSr, okFunc] at h
  simp [encodeWord, encR, encI, encJ, encU] at e
  omega
theorem addi (t rd ra imm : Nat) : Statement (.addi t rd ra imm) := by
  intro h w e
  simp [Instr.wf, okThread, okReg, okImm, okShift, okUpper, okJump, okSr, okFunc] at h
  simp [encodeWord, encR, encI, encJ, encU] at e
  omega
theorem andi (t rd ra imm : Nat) : Statement (.andi t rd ra imm) := by
  intro h w e
  simp [Instr.wf, okThread, okReg, okImm, okShift, okUpper, okJump, okSr, okFunc] at h
  simp [encodeWord, encR, encI, encJ, encU] at e
  omega
theorem ori (t rd ra imm : Nat) : Statement (.ori t rd ra imm) := by
  intro h w e
  simp [Instr.wf, okThread, okReg, okImm, okShift, okUpper, okJump, okSr, okFunc] at h
  simp [encodeWord, encR, encI, encJ, encU] at e
  omega
theorem xori (t rd ra imm : Nat) : Statement (.xori t rd ra imm) := by
  intro h w e
  simp [Instr.wf, okThread, okReg, okImm, okShift, okUpper, okJump, okSr, okFunc] at h
  simp [encodeWord, encR, encI, encJ, encU] at e
  omega
theorem shli (t rd ra imm : Nat) : Statement (.shli t rd ra imm) := by
  intro h w e
  simp [Instr.wf, okThread, okReg, okImm, okShift, okUpper, okJump, okSr, okFunc] at h
  simp [encodeWord, encR, encI, encJ, encU] at e
  omega
theorem shri (t rd ra imm : Nat) : Statement (.shri t rd ra imm) := by
  intro h w e
  simp [Instr.wf, okThread, okReg, okImm, okShift, okUpper, okJump, okSr, okFunc] at h
  simp [encodeWord, encR, encI, encJ, encU] at e
  omega
theorem sari (t rd ra imm : Nat) : Statement (.sari t rd ra imm) := by
  intro h w e
  simp [Instr.wf, okThread, okReg, okImm, okShift, okUpper, okJump, okSr, okFunc] at h
  simp [encodeWord, encR, encI, encJ, encU] at e
  omega
theorem slti (t rd ra imm : Nat) : Statement (.slti t rd ra imm) := by
  intro h w e
  simp [Instr.wf, okThread, okReg, okImm, okShift, okUpper, okJump, okSr, okFunc] at h
  simp [encodeWord, encR, encI, encJ, encU] at e
  omega
theorem sltiu (t rd ra imm : Nat) : Statement (.sltiu t rd ra imm) := by
  intro h w e
  simp [Instr.wf, okThread, okReg, okImm, okShift, okUpper, okJump, okSr, okFunc] at h
  simp [encodeWord, encR, encI, encJ, encU] at e
  omega
theorem lui (t rd imm : Nat) : Statement (.lui t rd imm) := by
  intro h w e
  simp [Instr.wf, okThread, okReg, okImm, okShift, okUpper, okJump, okSr, okFunc] at h
  simp [encodeWord, encR, encI, encJ, encU] at e
  omega
theorem ld8u (t rd ra imm : Nat) : Statement (.ld8u t rd ra imm) := by
  intro h w e
  simp [Instr.wf, okThread, okReg, okImm, okShift, okUpper, okJump, okSr, okFunc] at h
  simp [encodeWord, encR, encI, encJ, encU] at e
  omega
theorem ld16u (t rd ra imm : Nat) : Statement (.ld16u t rd ra imm) := by
  intro h w e
  simp [Instr.wf, okThread, okReg, okImm, okShift, okUpper, okJump, okSr, okFunc] at h
  simp [encodeWord, encR, encI, encJ, encU] at e
  omega
theorem ld32u (t rd ra imm : Nat) : Statement (.ld32u t rd ra imm) := by
  intro h w e
  simp [Instr.wf, okThread, okReg, okImm, okShift, okUpper, okJump, okSr, okFunc] at h
  simp [encodeWord, encR, encI, encJ, encU] at e
  omega
theorem ld64 (t rd ra imm : Nat) : Statement (.ld64 t rd ra imm) := by
  intro h w e
  simp [Instr.wf, okThread, okReg, okImm, okShift, okUpper, okJump, okSr, okFunc] at h
  simp [encodeWord, encR, encI, encJ, encU] at e
  omega
theorem ld8s (t rd ra imm : Nat) : Statement (.ld8s t rd ra imm) := by
  intro h w e
  simp [Instr.wf, okThread, okReg, okImm, okShift, okUpper, okJump, okSr, okFunc] at h
  simp [encodeWord, encR, encI, encJ, encU] at e
  omega
theorem ld16s (t rd ra imm : Nat) : Statement (.ld16s t rd ra imm) := by
  intro h w e
  simp [Instr.wf, okThread, okReg, okImm, okShift, okUpper, okJump, okSr, okFunc] at h
  simp [encodeWord, encR, encI, encJ, encU] at e
  omega
theorem ld32s (t rd ra imm : Nat) : Statement (.ld32s t rd ra imm) := by
  intro h w e
  simp [Instr.wf, okThread, okReg, okImm, okShift, okUpper, okJump, okSr, okFunc] at h
  simp [encodeWord, encR, encI, encJ, encU] at e
  omega
theorem st8 (t ra rb imm : Nat) : Statement (.st8 t ra rb imm) := by
  intro h w e
  simp [Instr.wf, okThread, okReg, okImm, okShift, okUpper, okJump, okSr, okFunc] at h
  simp [encodeWord, encR, encI, encJ, encU] at e
  omega
theorem st16 (t ra rb imm : Nat) : Statement (.st16 t ra rb imm) := by
  intro h w e
  simp [Instr.wf, okThread, okReg, okImm, okShift, okUpper, okJump, okSr, okFunc] at h
  simp [encodeWord, encR, encI, encJ, encU] at e
  omega
theorem st32 (t ra rb imm : Nat) : Statement (.st32 t ra rb imm) := by
  intro h w e
  simp [Instr.wf, okThread, okReg, okImm, okShift, okUpper, okJump, okSr, okFunc] at h
  simp [encodeWord, encR, encI, encJ, encU] at e
  omega
theorem st64 (t ra rb imm : Nat) : Statement (.st64 t ra rb imm) := by
  intro h w e
  simp [Instr.wf, okThread, okReg, okImm, okShift, okUpper, okJump, okSr, okFunc] at h
  simp [encodeWord, encR, encI, encJ, encU] at e
  omega
theorem amo (t rd ra rb func : Nat) : Statement (.amo t rd ra rb func) := by
  intro h w e
  simp [Instr.wf, okThread, okReg, okImm, okShift, okUpper, okJump, okSr, okFunc] at h
  simp [encodeWord, encR, encI, encJ, encU] at e
  omega
theorem beq (t ra rb offset : Nat) : Statement (.beq t ra rb offset) := by
  intro h w e
  simp [Instr.wf, okThread, okReg, okImm, okShift, okUpper, okJump, okSr, okFunc] at h
  simp [encodeWord, encR, encI, encJ, encU] at e
  omega
theorem bne (t ra rb offset : Nat) : Statement (.bne t ra rb offset) := by
  intro h w e
  simp [Instr.wf, okThread, okReg, okImm, okShift, okUpper, okJump, okSr, okFunc] at h
  simp [encodeWord, encR, encI, encJ, encU] at e
  omega
theorem blt (t ra rb offset : Nat) : Statement (.blt t ra rb offset) := by
  intro h w e
  simp [Instr.wf, okThread, okReg, okImm, okShift, okUpper, okJump, okSr, okFunc] at h
  simp [encodeWord, encR, encI, encJ, encU] at e
  omega
theorem bge (t ra rb offset : Nat) : Statement (.bge t ra rb offset) := by
  intro h w e
  simp [Instr.wf, okThread, okReg, okImm, okShift, okUpper, okJump, okSr, okFunc] at h
  simp [encodeWord, encR, encI, encJ, encU] at e
  omega
theorem bltu (t ra rb offset : Nat) : Statement (.bltu t ra rb offset) := by
  intro h w e
  simp [Instr.wf, okThread, okReg, okImm, okShift, okUpper, okJump, okSr, okFunc] at h
  simp [encodeWord, encR, encI, encJ, encU] at e
  omega
theorem bgeu (t ra rb offset : Nat) : Statement (.bgeu t ra rb offset) := by
  intro h w e
  simp [Instr.wf, okThread, okReg, okImm, okShift, okUpper, okJump, okSr, okFunc] at h
  simp [encodeWord, encR, encI, encJ, encU] at e
  omega
theorem j (t offset : Nat) : Statement (.j t offset) := by
  intro h w e
  simp [Instr.wf, okThread, okReg, okImm, okShift, okUpper, okJump, okSr, okFunc] at h
  simp [encodeWord, encR, encI, encJ, encU] at e
  omega
theorem jal (t offset : Nat) : Statement (.jal t offset) := by
  intro h w e
  simp [Instr.wf, okThread, okReg, okImm, okShift, okUpper, okJump, okSr, okFunc] at h
  simp [encodeWord, encR, encI, encJ, encU] at e
  omega
theorem jalr (t rd ra imm : Nat) : Statement (.jalr t rd ra imm) := by
  intro h w e
  simp [Instr.wf, okThread, okReg, okImm, okShift, okUpper, okJump, okSr, okFunc] at h
  simp [encodeWord, encR, encI, encJ, encU] at e
  omega
theorem chw (t ra rb : Nat) : Statement (.chw t ra rb) := by
  intro h w e
  simp [Instr.wf, okThread, okReg, okImm, okShift, okUpper, okJump, okSr, okFunc] at h
  simp [encodeWord, encR, encI, encJ, encU] at e
  omega
theorem chwe (t ra rb : Nat) : Statement (.chwe t ra rb) := by
  intro h w e
  simp [Instr.wf, okThread, okReg, okImm, okShift, okUpper, okJump, okSr, okFunc] at h
  simp [encodeWord, encR, encI, encJ, encU] at e
  omega
theorem chwep (t rd ra rb : Nat) : Statement (.chwep t rd ra rb) := by
  intro h w e
  simp [Instr.wf, okThread, okReg, okImm, okShift, okUpper, okJump, okSr, okFunc] at h
  simp [encodeWord, encR, encI, encJ, encU] at e
  omega
theorem chr (t rd ra : Nat) : Statement (.chr t rd ra) := by
  intro h w e
  simp [Instr.wf, okThread, okReg, okImm, okShift, okUpper, okJump, okSr, okFunc] at h
  simp [encodeWord, encR, encI, encJ, encU] at e
  omega
theorem chrp (t rd ra : Nat) : Statement (.chrp t rd ra) := by
  intro h w e
  simp [Instr.wf, okThread, okReg, okImm, okShift, okUpper, okJump, okSr, okFunc] at h
  simp [encodeWord, encR, encI, encJ, encU] at e
  omega
theorem ewait (t rd : Nat) : Statement (.ewait t rd) := by
  intro h w e
  simp [Instr.wf, okThread, okReg, okImm, okShift, okUpper, okJump, okSr, okFunc] at h
  simp [encodeWord, encR, encI, encJ, encU] at e
  omega
theorem epoll (t rd : Nat) : Statement (.epoll t rd) := by
  intro h w e
  simp [Instr.wf, okThread, okReg, okImm, okShift, okUpper, okJump, okSr, okFunc] at h
  simp [encodeWord, encR, encI, encJ, encU] at e
  omega
theorem signal (t ra rb : Nat) : Statement (.signal t ra rb) := by
  intro h w e
  simp [Instr.wf, okThread, okReg, okImm, okShift, okUpper, okJump, okSr, okFunc] at h
  simp [encodeWord, encR, encI, encJ, encU] at e
  omega
theorem mfsr (t rd sr : Nat) : Statement (.mfsr t rd sr) := by
  intro h w e
  simp [Instr.wf, okThread, okReg, okImm, okShift, okUpper, okJump, okSr, okFunc] at h
  simp [encodeWord, encR, encI, encJ, encU] at e
  omega
theorem mtsr (t ra sr : Nat) : Statement (.mtsr t ra sr) := by
  intro h w e
  simp [Instr.wf, okThread, okReg, okImm, okShift, okUpper, okJump, okSr, okFunc] at h
  simp [encodeWord, encR, encI, encJ, encU] at e
  omega
theorem iret (t : Nat) : Statement (.iret t) := by
  intro h w e
  simp [Instr.wf, okThread, okReg, okImm, okShift, okUpper, okJump, okSr, okFunc] at h
  simp [encodeWord, encR, encI, encJ, encU] at e
  omega
theorem breakInsn (t : Nat) : Statement (.breakInsn t) := by
  intro h w e
  simp [Instr.wf, okThread, okReg, okImm, okShift, okUpper, okJump, okSr, okFunc] at h
  simp [encodeWord, encR, encI, encJ, encU] at e
  omega
theorem yield (t : Nat) : Statement (.yield t) := by
  intro h w e
  simp [Instr.wf, okThread, okReg, okImm, okShift, okUpper, okJump, okSr, okFunc] at h
  simp [encodeWord, encR, encI, encJ, encU] at e
  omega
theorem fence (t : Nat) : Statement (.fence t) := by
  intro h w e
  simp [Instr.wf, okThread, okReg, okImm, okShift, okUpper, okJump, okSr, okFunc] at h
  simp [encodeWord, encR, encI, encJ, encU] at e
  omega
theorem fenceS (t : Nat) : Statement (.fenceS t) := by
  intro h w e
  simp [Instr.wf, okThread, okReg, okImm, okShift, okUpper, okJump, okSr, okFunc] at h
  simp [encodeWord, encR, encI, encJ, encU] at e
  omega
theorem fenceI (t : Nat) : Statement (.fenceI t) := by
  intro h w e
  simp [Instr.wf, okThread, okReg, okImm, okShift, okUpper, okJump, okSr, okFunc] at h
  simp [encodeWord, encR, encI, encJ, encU] at e
  omega
theorem hld (t rd ra field : Nat) : Statement (.hld t rd ra field) := by
  intro h w e
  simp [Instr.wf, okThread, okReg, okImm, okShift, okUpper, okJump, okSr, okFunc] at h
  simp [encodeWord, encR, encI, encJ, encU] at e
  omega
theorem hst (t rd ra field : Nat) : Statement (.hst t rd ra field) := by
  intro h w e
  simp [Instr.wf, okThread, okReg, okImm, okShift, okUpper, okJump, okSr, okFunc] at h
  simp [encodeWord, encR, encI, encJ, encU] at e
  omega
theorem csumAdd (t rd ra rb : Nat) : Statement (.csumAdd t rd ra rb) := by
  intro h w e
  simp [Instr.wf, okThread, okReg, okImm, okShift, okUpper, okJump, okSr, okFunc] at h
  simp [encodeWord, encR, encI, encJ, encU] at e
  omega
theorem csumFold (t rd ra : Nat) : Statement (.csumFold t rd ra) := by
  intro h w e
  simp [Instr.wf, okThread, okReg, okImm, okShift, okUpper, okJump, okSr, okFunc] at h
  simp [encodeWord, encR, encI, encJ, encU] at e
  omega
theorem csumFoldn (t rd ra : Nat) : Statement (.csumFoldn t rd ra) := by
  intro h w e
  simp [Instr.wf, okThread, okReg, okImm, okShift, okUpper, okJump, okSr, okFunc] at h
  simp [encodeWord, encR, encI, encJ, encU] at e
  omega
theorem crc32B (t rd ra rb : Nat) : Statement (.crc32B t rd ra rb) := by
  intro h w e
  simp [Instr.wf, okThread, okReg, okImm, okShift, okUpper, okJump, okSr, okFunc] at h
  simp [encodeWord, encR, encI, encJ, encU] at e
  omega
theorem crc32D (t rd ra rb : Nat) : Statement (.crc32D t rd ra rb) := by
  intro h w e
  simp [Instr.wf, okThread, okReg, okImm, okShift, okUpper, okJump, okSr, okFunc] at h
  simp [encodeWord, encR, encI, encJ, encU] at e
  omega
theorem crc32cB (t rd ra rb : Nat) : Statement (.crc32cB t rd ra rb) := by
  intro h w e
  simp [Instr.wf, okThread, okReg, okImm, okShift, okUpper, okJump, okSr, okFunc] at h
  simp [encodeWord, encR, encI, encJ, encU] at e
  omega
theorem crc32cD (t rd ra rb : Nat) : Statement (.crc32cD t rd ra rb) := by
  intro h w e
  simp [Instr.wf, okThread, okReg, okImm, okShift, okUpper, okJump, okSr, okFunc] at h
  simp [encodeWord, encR, encI, encJ, encU] at e
  omega
theorem mix64 (t rd ra rb : Nat) : Statement (.mix64 t rd ra rb) := by
  intro h w e
  simp [Instr.wf, okThread, okReg, okImm, okShift, okUpper, okJump, okSr, okFunc] at h
  simp [encodeWord, encR, encI, encJ, encU] at e
  omega
theorem seqContextSet (p : Packet) : Statement (.seqContextSet p) := none_word rfl
theorem seqQuery (p : Packet) : Statement (.seqQuery p) := none_word rfl
theorem microword (die seq : Nat) : Statement (.microword die seq) := none_word rfl
theorem serviceRequest (die seq : Nat) : Statement (.serviceRequest die seq) := none_word rfl
theorem microcodeFault (die seq cause : Nat) (ofContext : Bool) : Statement (.microcodeFault die seq cause ofContext) := none_word rfl
theorem contextLoad (die context : Nat) : Statement (.contextLoad die context) := none_word rfl
theorem sequencerFrameEnqueue (die context : Nat) (frame : List Byte) : Statement (.sequencerFrameEnqueue die context frame) := none_word rfl
theorem errorAck (p : Packet) : Statement (.errorAck p) := none_word rfl
theorem errorQuery (p : Packet) : Statement (.errorQuery p) := none_word rfl
theorem errorInject (p : Packet) : Statement (.errorInject p) := none_word rfl
theorem ledgerAudit (p : Packet) : Statement (.ledgerAudit p) := none_word rfl
theorem periodicAudit (die : Nat) : Statement (.periodicAudit die) := none_word rfl
theorem errorHandle (done : Bool) : Statement (.errorHandle done) := none_word rfl
theorem recordClose (ersn : Nat) : Statement (.recordClose ersn) := none_word rfl
theorem sramReadError (die bank row : Nat) (corrected : Bool) : Statement (.sramReadError die bank row corrected) := none_word rfl
theorem rowSpare (die bank row : Nat) : Statement (.rowSpare die bank row) := none_word rfl
theorem dramReadError (die subchannel device line : Nat) (corrected : Bool) : Statement (.dramReadError die subchannel device line corrected) := none_word rfl
theorem patrolScrub (die : Nat) : Statement (.patrolScrub die) := none_word rfl
theorem lockstepMismatch (die : Nat) : Statement (.lockstepMismatch die) := none_word rfl
theorem lockstepRestart (die : Nat) : Statement (.lockstepRestart die) := none_word rfl
theorem dieHeartbeat (die : Nat) (alive : Option Nat) : Statement (.dieHeartbeat die alive) := none_word rfl
theorem dieSilent (die : Nat) : Statement (.dieSilent die) := none_word rfl
theorem dieRemoval (die reason : Nat) : Statement (.dieRemoval die reason) := none_word rfl
theorem castling : Statement .castling := none_word rfl
theorem mirrorUnreachable : Statement .mirrorUnreachable := none_word rfl
theorem mirrorFillDone : Statement .mirrorFillDone := none_word rfl
theorem registerWrite (fn offset size value : Nat) : Statement (.registerWrite fn offset size value) := none_word rfl
theorem pfcWatchdogRelease (port cls : Nat) : Statement (.pfcWatchdogRelease port cls) := none_word rfl
theorem dunythLinkOutOfService (die dim : Nat) : Statement (.dunythLinkOutOfService die dim) := none_word rfl
theorem clearOnRead (fn : Nat) (span : ReadSpan) : Statement (.clearOnRead fn span) := none_word rfl
theorem vfEnableSet (pf count : Nat) : Statement (.vfEnableSet pf count) := none_word rfl
theorem ccEnSet (fn : Nat) : Statement (.ccEnSet fn) := none_word rfl
theorem illegalInstruction (t : Nat) (word : Word32) : Statement (.illegalInstruction t word) := none_word rfl

end Sys2Proof.Laws.Word
end

