-- ==== Sys2Proof/Tests/Slice0.lean ====
section
/-! SUPPORT. The model's own tests: the well-formedness checks each refuse an ill-formed command, words written out from
the spec's encodings decode to their instructions, and, for every statement with hypotheses, a named witness shows a state
and operands that meet them together. -/

set_option Elab.async false
set_option linter.unusedVariables false
set_option maxRecDepth 20000

namespace Sys2Proof.Tests
open Machine

/-- A READY package with its host links up and the physical functions of die 0 and 1 mastering the bus. -/
def up : State :=
  { State.reset with
    boot := { Boot.reset with stage := .ready, pkgReady := true, pkgReset := false, pllLocked := true }
    links := [(0, { Link.reset with speed := 6, width := 16 }), (1, { Link.reset with speed := 6, width := 16 })]
    funcs := [(pf0 0, { Func.pf0Reset with busMaster := true }), (fnId 0 1 0, { Func.pf1Reset with busMaster := true }),
      (pf0 1, { Func.pf0Reset with busMaster := true }), (fnId 1 1 0, { Func.pf1Reset with busMaster := true })] }

/-- Bytes from numbers. -/
def by8 (l : List Nat) : List Byte := l.map (BitVec.ofNat 8)

/-- A packet of the command queue of link 0. -/
def pk (opcode : Nat) (params : List Byte) : Packet :=
  { route := .queue 0 0, sender := pf0 0, die := 0, opcode := opcode, paramLen := params.length, flags := 0, txn := 0, token := 0,
    sequence := 5, reserved := 0, params := params }

/-! Each well-formedness check refuses a command that breaks it alone. -/

theorem test_wf_die : (Instr.dieSilent 8).wf = false := by decide
theorem test_wf_port : (Instr.schedule 64).wf = false := by decide
theorem test_wf_thread : (Instr.iret 64).wf = false := by decide
theorem test_wf_thread_number : (Instr.iret 3456).wf = false := by decide
theorem test_wf_pod : (Instr.stalemateReport 48).wf = false := by decide
theorem test_wf_register : (Instr.add 0 32 0 0).wf = false := by decide
theorem test_wf_register_source : (Instr.csumAdd 0 1 2 32).wf = false := by decide
theorem test_wf_immediate : (Instr.addi 0 0 0 65536).wf = false := by decide
theorem test_wf_shift : (Instr.shli 0 0 0 64).wf = false := by decide
theorem test_wf_upper : (Instr.lui 0 0 (2 ^ 21)).wf = false := by decide
theorem test_wf_jump : (Instr.j 0 (2 ^ 26)).wf = false := by decide
theorem test_wf_special_register : (Instr.mfsr 0 0 4096).wf = false := by decide
theorem test_wf_amo_function : (Instr.amo 0 0 0 0 16).wf = false := by decide
theorem test_wf_chain_field : (Instr.rate 256 0).wf = false := by decide
theorem test_wf_function : (Instr.busMasterEnableSet 4096).wf = false := by decide
theorem test_wf_function_class : (Instr.d3hotExit (2 ^ 20)).wf = false := by decide
theorem test_wf_identity : (Instr.lockRelease 0 0 (2 ^ 24)).wf = false := by decide
theorem test_wf_queue : (Instr.sqFetch 0 256).wf = false := by decide
theorem test_wf_ring_index : (Instr.sqDoorbell 0 0 65536).wf = false := by decide
theorem test_wf_dma_channel : (Instr.dmaReadBack 0 64).wf = false := by decide
theorem test_wf_class : (Instr.pauseExpiry 0 8).wf = false := by decide
theorem test_wf_key_slot : (Instr.installWaitEnd 0 131072).wf = false := by decide
theorem test_wf_sequencer : (Instr.microword 0 16).wf = false := by decide
theorem test_wf_context : (Instr.contextLoad 0 262144).wf = false := by decide
theorem test_wf_dimension : (Instr.dunythLinkOutOfService 0 3).wf = false := by decide
theorem test_wf_tag : (Instr.completionTimeout 0 16384).wf = false := by decide
theorem test_wf_bank : (Instr.rowSpare 0 32 0).wf = false := by decide
theorem test_wf_lock : (Instr.lockRead 0 64 [0]).wf = false := by decide
theorem test_wf_lock_reader : (Instr.lockRead 0 63 [2 ^ 24]).wf = false := by decide
theorem test_wf_view : (Instr.alloc 0 2).wf = false := by decide
theorem test_wf_target : (Instr.fenceExpiry 0 1024 0).wf = false := by decide
theorem test_wf_path : (Instr.pathDown 0 0 8).wf = false := by decide
theorem test_wf_stream : (Instr.ideCheckFailure 0 9).wf = false := by decide
theorem test_wf_pipe : (Instr.packetAdmit 0 2 []).wf = false := by decide
theorem test_wf_cell : (Instr.pktViewOpen 0 0 196608).wf = false := by decide
theorem test_wf_lane : (Instr.laneFailure 0 9).wf = false := by decide
theorem test_wf_position : (Instr.coreFailure 0 9).wf = false := by decide
theorem test_wf_channel : (Instr.flitReceive 0 0 4 false).wf = false := by decide
theorem test_wf_packet : (Instr.deviceInfo { pk 0x0001 [] with opcode := 65536 }).wf = false := by decide
theorem test_wf_transaction : (Instr.txnExpiry 65536).wf = false := by decide
theorem test_wf_accepts : (Instr.add 0 31 31 31).wf = true ∧ (Instr.coreFailure 47 8).wf = true
    ∧ (Instr.deviceInfo (pk 0x0001 [])).wf = true := by decide

/-! Words written out from the encodings of Tables 17.3 to 17.7, one a format, and the three words of the worked example
of spec/17. -/

theorem test_decode_int : decodeWord 3 (0 * 2 ^ 26 + 1 * 2 ^ 21 + 2 * 2 ^ 16 + 3 * 2 ^ 11 + 0x014) = some (.div 3 1 2 3) := by decide
theorem test_decode_imm : decodeWord 3 (0x08 * 2 ^ 26 + 1 * 2 ^ 21 + 2 * 2 ^ 16 + 0xFFFF) = some (.slti 3 1 2 0xFFFF) := by decide
theorem test_decode_load : decodeWord 3 (0x16 * 2 ^ 26 + 4 * 2 ^ 21 + 5 * 2 ^ 16 + 8) = some (.ld32s 3 4 5 8) := by decide
theorem test_decode_store : decodeWord 3 (0x18 * 2 ^ 26 + 4 * 2 ^ 21 + 5 * 2 ^ 16 + 8) = some (.st8 3 5 4 8) := by decide
theorem test_decode_amo : decodeWord 3 (0x1C * 2 ^ 26 + 4 * 2 ^ 21 + 5 * 2 ^ 16 + 6 * 2 ^ 11 + 7) = some (.amo 3 4 5 6 7) := by decide
theorem test_decode_branch : decodeWord 3 0x8460FFFB = some (.bne 3 3 0 0xFFFB) := by decide
theorem test_decode_channel : decodeWord 3 0xC0220004 = some (.chr 3 1 2) := by decide
theorem test_decode_event : decodeWord 3 (0x31 * 2 ^ 26 + 7 * 2 ^ 21 + 1) = some (.epoll 3 7) := by decide
theorem test_decode_system : decodeWord 3 (0x34 * 2 ^ 26 + 5) = some (.fenceS 3) := by decide
theorem test_decode_special : decodeWord 3 (0x33 * 2 ^ 26 + 9 * 2 ^ 16 + 0x004) = some (.mtsr 3 9 4) := by decide
theorem test_decode_field : decodeWord 3 0xE0C93194 = some (.hld 3 6 9 (12 * 2 ^ 10 + 3 * 2 ^ 7 + 20)) := by decide
theorem test_decode_hash : decodeWord 3 (0x3B * 2 ^ 26 + 1 * 2 ^ 21 + 2 * 2 ^ 16 + 3 * 2 ^ 11 + 3) = some (.crc32cD 3 1 2 3) := by decide
theorem test_decode_reserved : decodeWord 3 (0x34 * 2 ^ 26 + 1 * 2 ^ 11 + 5) = none := by decide

/-! Worked examples of the spec. -/

/-- Thread 3 of core 17 of die 5, and virtual function 5 of PF1 of die 2 (spec/00). -/
theorem test_identities : masterId 1 5 (17 * 8 + 3) = 0x1A008B ∧ fnId 2 1 5 = 0x40805 := by decide
/-- The full ring of 1,024 entries across the wrap of its indices (spec/13 R423). -/
theorem test_ring_count : ringCount 0x0010 0xFC10 = 1024 := by decide
/-- The route from die 6 to die 1, 6 → 7 → 5 → 1 (spec/01 R21). -/
theorem test_route : up.nextHop 6 1 false = some (0, false) ∧ up.nextHop 7 1 false = some (1, false) ∧ up.nextHop 5 1 false = some (2, false) := by
  decide +kernel
/-- PKG_ROLES after die 0 is castled away (spec/19, Table 19.6). -/
theorem test_pkg_roles :
    ({ up with roles := { up.roles with lead := 1, mirror := 2, substitute := true, failed := 1, castlings := 1 } } : State).pkgRoles
      = 0x1801FFA1 := by decide +kernel
/-- The model of Table 11.2 with T0 = 0 before its step of −250 ns and +2 ppm at tick 5,000,000,016,000. -/
def timeEx : TimeModel :=
  { TimeModel.reset with
    baseTick := 3400000016000, pending := some (5000000016000, -16384000, 0xA00014F8B589, false, 1) }
/-- Its last reading under the old model, in units of 2⁻¹⁶ ns (Table 11.2, step 2). -/
theorem test_time_before : timeEx.full 5000000015999 = 999999999999375 * 65536 / 1000 := by decide +kernel
/-- The rebase, and the reading 1,600,000 ticks later (Table 11.2, steps 3 and 4). -/
theorem test_time_after : timeEx.rebase.offset = 999999999750 * 65536 ∧ timeEx.rebase.offsetSub = 0
    ∧ timeEx.rebase.full (5000000016000 + 1600000) / 65536 = 1000000999752 := by decide +kernel
/-- SPARE_STATUS of the lane spared at port 16 (spec/06, Table 06.6). -/
theorem test_spare_status :
    ({ up with portBlocks := [(2, { PortBlock.reset with sparePort := 16, spareWired := true, spareInUse := true, replacedLane := 5 })] } :
      State).spareStatus 2 = 0x5D0 := by decide +kernel
/-- W of the enumeration example takes address 1 (spec/02). -/
theorem test_enumerate : ∃ t, exec (.enumerate 0 1 0 2) up = .next t ∧ t.chain.address = 1 := ⟨_, rfl, by decide +kernel⟩
theorem test_reset_pending : State.reset.pending = [] := by decide

/-! Values the witnesses share. -/

def s01 : State := { up with boot := { up.boot with stage := .init } }
def p01 : Packet := pk 0x0901 (by8 [0,0,0,0] ++ toLe 4 136 ++ toLe 8 4096)
def p02 : Packet := pk 0x8403 (by8 [3,2,1,0] ++ toLe 4 4194000 ++ toLe 4 304)
def v01 : MbxWord := { word := 5, stamp := 4, last := false, collided := false }
def p03 : Packet := pk 0x0C02 (toLe 4 3 ++ toLe 4 0 ++ toLe 16 11 ++ toLe 32 12)
def p04 : Packet := pk 0x8102 (by8 [2,0,0,0] ++ toLe 4 (fnId 1 0 6) ++ toLe 4 0)
def s02 : State := { up with cmdqs := [(0, { Cmdq.reset with enable := true })] }
def s03 : State := { up with dram := [(3, { DramMark.reset with corrected := 5 })] }
def v02 : SigResult := { rsaVerifies := true, pqVerifies := true, imageVerifies := true }
def v03 : QueuePair := (newQueue (toLe 1 0 ++ toLe 1 0 ++ toLe 1 0x21 ++ toLe 29 0) none)
def p05 : Packet := pk 0x0401 (by8 [5,1,0,2,1,0,0,0,0,0,0,0,0,0,0,0,1,2,0,0] ++ by8 [])
def p06 : Packet := pk 0x0401 (by8 [5,1,0,2,0,0,0,0,0,0,0,0,0,0,0,0,1,2,0,0] ++ by8 [])
def s04 : State := { up with sram := [(27, { SramBank.reset with suspects := [4] })] }
def v04 : PodPkt := ({ bytes := List.replicate 60 3, cells := 1, ing := none } : PodPkt)
def s05 : State := { up with chain := { up.chain with bypassed := true, address := 4 } }
def s06 : State := { up with health := [(0, { DieHealth.reset with aliveMisses := 3 })] }
def s07 : State := { up with health := [(0, { DieHealth.reset with aliveMisses := 4 })] }
def s08 : State := { up with chain := { up.chain with address := 12, released := false } }
def s09 : State := { up with chain := { up.chain with partialCmd := some (127, by8 [9]) } }
def v05 : Versioned := { bornA := 0, valueA := [1], bornB := 2, valueB := [2], newerB := true }
def p07 : Packet := pk 0x8901 (by8 [0,0,0,0] ++ toLe 4 (threadId 1) ++ toLe 8 0 ++ toLe 8 0)
def s10 : State := { up with health := [(0, { DieHealth.reset with condemned := some 2 })] }
def p08 : Packet := pk 0x8901 (by8 [0,0,31,0] ++ toLe 4 (threadId 1) ++ toLe 8 77 ++ toLe 8 0)
def s11 : State := { up with chain := { up.chain with held := some (List.replicate 1024 7) } }
def s12 : State := { up with health := [(0, { DieHealth.reset with pairRestarting := true })] }
def p09 : Packet := pk 0x0403 (by8 [5,0,0,0,0,0,0,0] ++ toLe 8 0x8000 ++ toLe 4 36 ++ by8 [1,2,0,0])
def s13 : State := { up with errors := { Errors.reset with records := [], first := 5, next := 7 } }
def v06 : KeyVersion := { KeyVersion.reset with state := .active, cfg := 0x41, seq := 5, softLimit := 100 }
def s14 : State := { up with funcs := [(0, { Func.pf0Reset with busMaster := true, txHeld := true })] }
def s15 : State := { up with funcs := [(0, { Func.pf0Reset with busMaster := true, rssWritten := true })] }
def v07 : PartialRx := { count := 1, next := 2, bytes := [], rules := (Port.reset).rules, stamp := 0, tick := 0 }
def v08 : Policer := { Policer.reset with mode := 2, cir := 8, cbs := 100, tokensC := 5, tokensEp := 12800000 }
def s16 : State := { up with queues := [(3, v03)] }
def v09 : QueuePair := ({ newQueue (toLe 1 0 ++ toLe 1 0 ++ toLe 1 0x21 ++ toLe 29 0) none with cqTail := 4 } : QueuePair)
def v10 : QueuePair := ({ newQueue (toLe 1 0 ++ toLe 1 0 ++ toLe 1 0x21 ++ toLe 29 0) none with sqTail := 2 } : QueuePair)
def v11 : QueuePair := ({ newQueue (toLe 1 0 ++ toLe 1 0 ++ toLe 1 0x21 ++ toLe 29 0) none with kind := .rx } : QueuePair)
def v12 : KeyVersion := { KeyVersion.reset with state := .active, cfg := 0x01, seq := 500, softLimit := 100, window := [500] }
def v13 : QueuePair := ({ newQueue (toLe 1 0 ++ toLe 1 0 ++ toLe 1 0x21 ++ toLe 29 0) none with forced := true } : QueuePair)
def s17 : State := { up with links := [(0, { Link.reset with speed := 6, spdmVersion := true, spdmAlgorithms := true })] }
def v14 : TableDecl := { table := 5, kind := .flow, keyLen := 2, entrySize := 32, capacity := 1, blocks := 1, dataPlane := true }
def v15 : TableDecl := { table := 5, kind := .tcam, keyLen := 2, entrySize := 32, capacity := 1, blocks := 1, dataPlane := true }
def s18 : State := { up with cmdqs := [(0, { Cmdq.reset with enable := true, rplTail := 16, reqTail := 16, reqHead := 16 })] }
def v16 : MsgPart := ({ msg := 4, src := 0, dst := 3, detoured := false, bytes := 126, load := some (.message 3 77) } : MsgPart)
def v17 : TableDecl := { table := 5, kind := .exact, keyLen := 2, entrySize := 32, capacity := 16, blocks := 1, dataPlane := true }
def v18 : TableDecl := { table := 5, kind := .lpm4, keyLen := 4, entrySize := 32, capacity := 16, blocks := 1, dataPlane := false }
def s19 : State := { up with ports := [(0, { Port.reset with present := true, lanes := 8, ceiling := 7, phase := .up, speed := 7 })] }
def s20 : State := { up with tms := [(0, (Tm.reset.createTree 0))], ports := [(0, { Port.reset with present := true, phase := .up })] }
def v19 : QueuePair := ({ newQueue (toLe 1 0 ++ toLe 1 0 ++ toLe 1 0x21 ++ toLe 29 0) none with sqTail := 2, ownWait := true } : QueuePair)
def v20 : GateList := ({ base := 0, cycle := 2000, extension := 0, takeover := 0, entries := [(0, 255, 1000), (0, 255, 1000)] } : GateList)
def s21 : State := { up with links := [(0, { Link.reset with speed := 6, width := 16, frozen := true, cause := 3, nonce := some 65535 })] }
def v21 : HostTag := { fn := pf0 0, use := .channel 65, remaining := 64, quarantined := false, timeoutUs := 50000, discard := true, op := 5 }
def v22 : HostTag := { fn := pf0 0, use := .channel 65, remaining := 64, quarantined := true, timeoutUs := 50000, discard := false, op := 5 }
def v23 : HostTag := { fn := pf0 0, use := .channel 65, remaining := 64, quarantined := false, timeoutUs := 50000, discard := false, op := 5 }
def s22 : State := { up with ports := [(0, { Port.reset with present := true, lanes := 8, ceiling := 7, phase := .training, speed := 7 })] }
def s23 : State := { up with queues := [(3, v09)] }
def s24 : State := { up with queues := [(3, v10)] }
def s25 : State := { up with threads := [(1, { Thread.reset with state := .killed, pc := 4096 })], pods := [(0, { Pod.reset with loaded := true })] }
def s26 : State := { up with threads := [(1, { Thread.reset with state := .running, pc := 4096 })], pods := [(0, { Pod.reset with loaded := true })] }
def s27 : State := { up with threads := [(1, { Thread.reset with state := .stopped, pc := 4096 })], pods := [(0, { Pod.reset with loaded := true })] }
def v24 : LearnReq := { table := 5, key := [1, 2], mask := [255, 255], priority := 1, place := 1024, action := 9, params := [3], delete := false, pipe := 1 }
def s28 : State := { up with threads := [(1, { Thread.reset with state := .outOfService, pc := 4096 })], pods := [(0, { Pod.reset with loaded := true })] }
def s29 : State := { up with seqs := [(3, { Sequencer.reset with state := .running, upc := 0x4000 })], patch := { State.reset.patch with words0 := [0x0] } }
def v25 : Nat × HostTag := (tagKey 0 3, { fn := fnId 0 1 0, use := .packet 6, remaining := 64, quarantined := false, timeoutUs := 50000, discard := false, op := 5 })
def v26 : ThreadImage := { podMem := [(64, by8 [1,2,3,4,5,6,7,8])], shared := [], threads := [], chans := [], dramBase := 60 * 2 ^ 30, dramSize := 8192, dma := 1 }
def v27 : NvmeQueue := ({ base := 65536, size := 4, head := 0, tail := 1, peer := 0, intEnable := true, phase := false, held := [], retried := false } : NvmeQueue)
def v28 : NvmeQueue := ({ base := 65536, size := 4, head := 0, tail := 1, peer := 1, intEnable := true, phase := false, held := [], retried := false } : NvmeQueue)
def v29 : TwinPair := ({ memberA := 5, memberB := fnId 1 0 6, activeActive := false, bActive := false, bTakesZero := false, seenA := true, seenB := true } : TwinPair)
def s30 : State := { up with queues := [(3, v19)] }
def s31 : State := { up with agentMbx := [(3, { AgentMailbox.reset with enable := true, receiver := pf0 0, senderA := threadId 0, senderB := pf0 0, queue := [] })] }
def v30 : List Byte := by8 [4,0] ++ toLe 2 6 ++ toLe 4 1 ++ toLe 16 0 ++ toLe 8 131072 ++ toLe 8 0 ++ toLe 4 4 ++ toLe 4 0 ++ toLe 4 0 ++ toLe 4 0 ++ toLe 4 0 ++ toLe 4 0
def v31 : List Byte := by8 [193,0] ++ toLe 2 6 ++ toLe 4 1 ++ toLe 16 0 ++ toLe 8 131072 ++ toLe 8 0 ++ toLe 4 32 ++ toLe 4 0 ++ toLe 4 0 ++ toLe 4 0 ++ toLe 4 0 ++ toLe 4 0
def v32 : List Byte := by8 [194,0] ++ toLe 2 6 ++ toLe 4 1 ++ toLe 16 0 ++ toLe 8 131072 ++ toLe 8 0 ++ toLe 4 6 ++ toLe 4 32 ++ toLe 4 0 ++ toLe 4 0 ++ toLe 4 0 ++ toLe 4 0
def v33 : Target := ({ policy := 0, ioHoldS := 30, cmdTimeoutMs := 30000, fenceMs := 1000, subnqn := [], hostnqn := [], paths := [], reissued := 0, rotor := 0 } : Target)
def s32 : State := { up with agentMbx := [(3, { AgentMailbox.reset with enable := true, receiver := threadId 2, senderA := threadId 0, senderB := pf0 0, queue := [] })] }
def s33 : State := { up with ports := [(0, { Port.reset with present := true, lanes := 8, ceiling := 7, phase := .up, speed := 7, txSynce := true, wantSynce := true })] }
def s34 : State := { up with pipes := [(0, { Pipe.reset with counterCache := [(5, (1, 64))], policers := [(0, { Policer.reset with mode := 1, cir := 8, cbs := 100 })] })] }
def s35 : State := { up with threads := [(1, { Thread.reset with state := .running, pc := 4096, regs := [(1, 0x1FF)] })], pods := [(0, { Pod.reset with loaded := true })] }
def s36 : State := { up with threads := [(1, { Thread.reset with state := .faulted, pc := 4096, faultCause := fcBreak })], pods := [(0, { Pod.reset with loaded := true })] }
def s37 : State := { up with tags := [(tagKey 0 3, v21)] }
def s38 : State := { up with tags := [(tagKey 0 3, v22)] }
def s39 : State := { up with tempo := up.tempo, times := [(0, { DieTime.reset with tick := 5000 }), (1, { DieTime.reset with tick := 5000, goodRuns := 15, aligned := true })] }
def s40 : State := { up with threads := [(1, { Thread.reset with state := .running, pc := 4096, regs := [(1, 5), (2, 77)] })], pods := [(0, { Pod.reset with loaded := true })] }
def v34 : Commit := { txn := 9, single := none, tempo := 1, waiting := 0, prepared := 1, failed := none, committed := true, jsn := 4, result := [], switchAt := 0, notBefore := 0 }
def s41 : State := { up with threads := [(1, { Thread.reset with state := .running, pc := 4096 })], pods := [(0, { Pod.reset with loaded := true, breakpoints := [(3, 4096)] })] }
def v35 : Commit := { txn := 9, single := none, tempo := 1, waiting := 1, prepared := 1, failed := none, committed := false, jsn := 0, result := [], switchAt := 0, notBefore := 0 }
def v36 : List Byte := by8 [8,0] ++ toLe 2 6 ++ toLe 4 1 ++ toLe 16 0 ++ toLe 8 131072 ++ toLe 8 0 ++ toLe 4 (1 + 65536 * 6) ++ toLe 4 0 ++ toLe 4 0 ++ toLe 4 0 ++ toLe 4 0 ++ toLe 4 0
def v37 : Flit := ({ chan := 2, credits := 0, seq := 5, parts := [v16] } : Flit)
def s42 : State := { up with threads := [(1, { Thread.reset with state := .running, pc := 8192, regs := [(1, BitVec.ofInt 64 (-1)), (2, 1)] })], pods := [(0, { Pod.reset with loaded := true })] }
def v38 : TEntry := { table := 5, key := [1, 2], mask := [], prefixLen := 0, priority := 0, place := 0, born := 0, retired := none, action := 9, dataPlane := false, pinned := false, params := [3] }
def s43 : State := { up with threads := [(1, { Thread.reset with state := .running, pc := 4096, eventMask := 0x3, pending := 2, eventSrc := 7 })], pods := [(0, { Pod.reset with loaded := true })] }
def s44 : State := { up with ciphers := [(0, { Cipher.reset with slots := [(3, { KeySlot.reset with newer := v06 })] })] }
def v39 : TEntry := { table := 5, key := [1, 2], mask := [255, 0], prefixLen := 0, priority := 1, place := 9, born := 0, retired := none, action := 9, dataPlane := false, pinned := false, params := [3] }
def v40 : TEntry := { table := 5, key := [1, 2], mask := [255, 255], prefixLen := 0, priority := 1, place := 0, born := 0, retired := none, action := 9, dataPlane := false, pinned := false, params := [3] }
def v41 : Latched := ({ cause := 0x0604, severity := 1, subject := 0, die := 0, unit := 5, detailA := 9, detailB := 0, injected := false, recordOnly := false, time := 5, timeLast := 5, repeats := 2 } : Latched)
def v42 : Latched := ({ cause := 0x0603, severity := 3, subject := 0, die := 0, unit := 5, detailA := 9, detailB := 0, injected := false, recordOnly := false, time := 5, timeLast := 5, repeats := 2 } : Latched)
def v43 : TmLeaf := ({ prio := 3, tc := 3, quantum := 144, parent := 0, maxCells := 16384, alpha := 3, dropCounter := none, shaper := Shaper.reset, deficit := 0, fresh := true, profile := false, queue := [] } : TmLeaf)
def s45 : State := { up with threads := [(1, { Thread.reset with state := .running, pc := 4096, regs := [(1, BitVec.ofInt 64 (-2 ^ 63)), (2, BitVec.ofInt 64 (-1))] })], pods := [(0, { Pod.reset with loaded := true })] }
def s46 : State := { up with ports := [(0, { Port.reset with present := true, lanes := 8, ceiling := 7, phase := .up, speed := 7, verify := .verifying, preempt := Staged.both { PreemptCfg.reset with enable := true } })] }
def s47 : State := ((State.issueRead s30 (pf0 0) (.control 3 0 2) 128).getD up)
def v44 : CipherUnit := { source := .packet 4, slot := 3, born := 0, encrypt := false, reinject := false, phase := .lane, seq := 5, bytes := [], aad := [], verify := 0, tempo := 0, klass := 0, index := 0, out := [], order := 0 }
def s48 : State := { up with agentMbx := [(3, { AgentMailbox.reset with enable := true, receiver := pf0 0, senderA := threadId 0, senderB := pf0 0, queue := [v01] })] }
def v45 : Namespace := ({ fn := fnId 0 1 0, nsid := 1, protect := false, readOnly := false, lbads := 9, blocks := 1000, target := 7, remoteNsid := 5, remoteOffset := 0, writeSlot := 0, readSlot := 0, destroying := false } : Namespace)
def s49 : State := { up with threads := [(1, { Thread.reset with state := .running, pc := 4096 })], pods := [(0, { Pod.reset with loaded := true })], locks := [(3, { Lock.reset with held := true, owner := threadId 1, pointer := 9 })] }
def s50 : State := { up with seqs := [(3, { Sequencer.reset with state := .running, upc := 0x4000 })], patch := { State.reset.patch with words0 := [0x0] }, contexts := [(19, { Context.reset with kind := 3, state := 1, owner := pf0 0 })] }
def s51 : State := { up with pipes := [(0, { Pipe.reset with  })], banks := [(0, { Bank.reset with standard := false, decls := [v17] })] }
def s52 : State := { up with ports := [(0, { Port.reset with present := true, lanes := 8, ceiling := 7, phase := .up, speed := 7, partialRx := some v07 })] }
def v46 : Proposal := { kind := 8, scope := 255, params := (toLe 2 8 ++ toLe 1 0xFF ++ toLe 1 0 ++ toLe 4 4 ++ toLe 4 3600), nonce := 11, digest := 12, state := .pending, byAuthority := true, deadline := 10 ^ 12, sourceDie := 0, objCount := 0, fails := 0 }
def s53 : State := { up with channels := [(3, ({ DmaChannel.reset with binder := .sequencer 2, elem := by8 [33,0,0,0] ++ toLe 4 600 ++ toLe 2 1 ++ toLe 2 1 ++ toLe 2 1 ++ toLe 2 0 ++ toLe 8 8192 ++ toLe 8 0 ++ toLe 8 16384 ++ toLe 24 0 } : DmaChannel))] }
def v47 : Path := ({ transport := 0, flags := 0, queues := 1, priority := 0, qdepth := 32, port := 4420, vrf := 0, address := List.replicate 16 1, localAddress := List.replicate 16 2, state := .connecting, remotes := [], contexts := [], downAt := 0 } : Path)
def v48 : Proposal := ({ kind := 8, scope := 255, params := (toLe 2 8 ++ toLe 1 0xFF ++ toLe 1 0 ++ toLe 4 4 ++ toLe 4 3600), nonce := 11, digest := 12, state := .pending, byAuthority := true, deadline := 0, sourceDie := 0, objCount := 0, fails := 0 } : Proposal)
def v49 : Tbl Proposal := [(3, v48)]
def s54 : State := { up with pipes := [(0, { Pipe.reset with entries := [{ table := 5, key := [1, 2], mask := [255, 255], prefixLen := 0, priority := 1, place := 0, born := 0, retired := some 0, action := 9, dataPlane := false, pinned := false, params := [3] }] })] }
def v50 : TmPkt := ({ bytes := List.replicate 60 0, tc := 3, ingressClass := 3, sourceKind := 0, sourceId := 0, dest := 0, pipe := 0, fromDie := none, fromPort := none, inTick := 0, peerDelay := 0, hash := 0, stamp := 0, csum := 0, macMatch := 0, tx := none } : TmPkt)
def s55 : State := { up with journal := { Journal.reset with mirror := .active, mirrorSync := true, unconfirmed := [7, 9] }, tags := [(tagKey 0 3, { fn := pf0 0, use := .mirror 7, remaining := 64, quarantined := false, timeoutUs := 50000, discard := false, op := 5 })] }
def s56 : State := (State.writeBytes ({ up with threads := [(1, { Thread.reset with state := .running, pc := 4096, regs := [(1, 4100), (2, 0xFEDCBA9876543210), (3, 0x1122)] })], pods := [(0, { Pod.reset with loaded := true })] }) (.pod 0) 4104 (toLe 8 0x8899AABBCCDDEEFF))
def s57 : State := { up with channels := [(3, ({ DmaChannel.reset with binder := .queue (pf0 0) 3, busy := true, elem := by8 [32,0,0,0] ++ toLe 4 600 ++ toLe 2 1 ++ toLe 2 1 ++ toLe 2 1 ++ toLe 2 0 ++ toLe 8 8192 ++ toLe 8 0 ++ toLe 8 16384 ++ toLe 24 0 } : DmaChannel))] }
def s58 : State := { up with channels := [(3, ({ DmaChannel.reset with binder := .queue (pf0 0) 3, busy := true, elem := by8 [33,0,0,0] ++ toLe 4 600 ++ toLe 2 1 ++ toLe 2 1 ++ toLe 2 1 ++ toLe 2 0 ++ toLe 8 8192 ++ toLe 8 0 ++ toLe 8 16384 ++ toLe 24 0 } : DmaChannel))] }
def v51 : TmPkt := ({ bytes := List.replicate 60 0, tc := 3, ingressClass := 3, sourceKind := 0, sourceId := 0, dest := 2 ^ 28 + 3, pipe := 0, fromDie := none, fromPort := none, inTick := 0, peerDelay := 0, hash := 0, stamp := 0, csum := 0, macMatch := 0, tx := none } : TmPkt)
def v52 : NvmeCmd := ({ fn := fnId 0 1 0, sq := 1, cid := 6, opcode := 1, nsid := 1, lba := 0, blocks := 1, frags := [], phase := .path, target := 7, orphan := false, reissues := 0, again := false, stage := 0, data := [], pos := 0, part := 0, status := 0, since := 0 } : NvmeCmd)
def v53 : NvmeCmd := ({ fn := fnId 0 1 0, sq := 1, cid := 6, opcode := 1, nsid := 1, lba := 0, blocks := 1, frags := [], phase := .sent 2, target := 7, orphan := true, reissues := 0, again := false, stage := 0, data := [], pos := 0, part := 0, status := 0, since := 0 } : NvmeCmd)
def v54 : NvmeCmd := ({ fn := fnId 0 1 0, sq := 1, cid := 6, opcode := 1, nsid := 1, lba := 0, blocks := 1, frags := [], phase := .sent 2, target := 7, orphan := false, reissues := 0, again := false, stage := 0, data := [], pos := 0, part := 0, status := 0, since := 0 } : NvmeCmd)
def v55 : Txn := { state := .opened, owner := pf0 0, crossPackage := false, abortOnReset := false, group := 0, timeoutMs := 30000, deadline := 10 ^ 12, staged := [], instant := 0, tempo := 0, late := false, failJsn := 0, failStatus := 0, commitCmd := none, commitPoint := false }
def s59 : State := { up with banks := [(0, { Bank.reset with standard := false, decls := [v17], entryTable := [(1, 40)] })], pipes := [(0, { Pipe.reset with entries := [] })] }
def s60 : State := (State.writeBytes ({ up with threads := [(1, { Thread.reset with state := .running, pc := 4096, regs := [(1, 4104), (2, 0xFEDCBA9876543210), (4, 0x8899AABBCCDDEEFF)] })], pods := [(0, { Pod.reset with loaded := true })] }) (.pod 0) 4104 (toLe 8 0x8899AABBCCDDEEFF))
def v56 : Txn := { state := .prepared, owner := masterId 4 0 0, crossPackage := true, abortOnReset := false, group := 5, timeoutMs := 30000, deadline := 10 ^ 12, staged := [], instant := 20000000, tempo := 4, late := false, failJsn := 0, failStatus := 0, commitCmd := none, commitPoint := false }
def v57 : EntrySpec := ({ decl := v17, dies := 1, key := [1, 2], mask := [], prefixLen := 0, priority := 0, action := 1, params := [], pinned := false, replace := false, at_ := none, txn := some 0 } : EntrySpec)
def v58 : EntrySpec := ({ decl := v17, dies := 1, key := [1, 2], mask := [], prefixLen := 0, priority := 0, action := 0, params := [], pinned := false, replace := false, at_ := none, txn := some 0 } : EntrySpec)
def v59 : SubmitEntry := ({ index := 1, opcode := 1, ctrl := 4, tc := 3, totalLen := 60, mss := 0, hdrLen := 0, csumFlags := 0, user := 0, offs := [0,0,0,0], frags := [(8192, 60)], desc := [], phase := .reading, status := 0, stamp := 0, length := 0, eop := false, info := 0, hash := 0, rxTc := 0, macMatch := 0 } : SubmitEntry)
def v60 : SubmitEntry := ({ index := 2, opcode := 1, ctrl := 4, tc := 3, totalLen := 60, mss := 0, hdrLen := 0, csumFlags := 0, user := 0, offs := [0,0,0,0], frags := [(8192, 60)], desc := [], phase := .finished, status := 0, stamp := 0, length := 0, eop := false, info := 0, hash := 0, rxTc := 0, macMatch := 0 } : SubmitEntry)
def v61 : SubmitEntry := ({ index := 1, opcode := 2, ctrl := 4, tc := 3, totalLen := 60, mss := 40, hdrLen := 20, csumFlags := 0, user := 0, offs := [0,0,0,0], frags := [(8192, 60)], desc := [], phase := .reading, status := 0, stamp := 0, length := 0, eop := false, info := 0, hash := 0, rxTc := 0, macMatch := 0 } : SubmitEntry)
def s61 : State := { up with threads := [(1, { Thread.reset with state := .running, pc := 4096, regs := [(1, 5), (2, 77)], staging := [1,2], stagedFor := 5 })], pods := [(0, { Pod.reset with loaded := true })], chans := [(5, { Channel.reset with enable := true, writer := threadId 1, reader := threadId 2, words := [] })] }
def s62 : State := { up with flight := [], ciphers := [(0, { Cipher.reset with slots := [(3, { KeySlot.reset with stCfg := 0x41, stKey := 77, stSeq := 1, newer := v06 })], units := [] })], protect := { Protect.reset with keyPages := [(0, pf0 0 * 64)] } }
def s63 : State := { up with protect := { Protect.reset with proposals := [(3, v46)], nextProposal := 4 } }
def s64 : State := { up with tempo := { Tempo.reset with txns := [(9, v55)] } }
def v62 : FlightPkt := { die := 0, pipe := 0, tempo := 0, bank := 0, phase := .hold, sourceKind := 0, sourceId := 0, tc := 0, stamp := 0, original := List.replicate 60 0, frame := List.replicate 60 0, vector := List.replicate 512 0, params := [], flowLookups := [], fn := 0, verdict := Verdict.none, cells := 1, tx := none, ing := none, inTick := 0 }
def s65 : State := (State.writeBytes (State.pass s56 1) (.pod 0) 4104 (toLe 8 0xFEDCBA9876543210))
def s66 : State := { up with threads := [(1, { Thread.reset with state := .running, pc := 4096, view1 := { PktView.reset with firstCell := 7, isOpen := true } })], pods := [(0, { Pod.reset with loaded := true, packets := [(7, v04)] })], tms := [(0, { Tm.reset with free := 196607, pipeline := 1 })] }
def s67 : State := { up with errors := { Errors.reset with records := [({ ersn := 6, timeFirst := 1, timeLast := 1, count := 3, severity := 1, isOpen := true, handled := true, preempted := false, injected := false, signalled := false, cause := 0x0603, subject := 0, die := 0, unit := 5, detailA := 9, detailB := 0, bootId := 0 } : ErrRecord)], first := 5, next := 7 } }
def s68 : State := { up with funcs := [(0, { Func.pf0Reset with busMaster := true }), (5, { Func.reset with provisioned := true, queuePairs := 8, vectors := 9, vectorsInEffect := 9, busMaster := true, windows := [(0, 2 ^ 64 - 1)] }), (fnId 1 0 6, { Func.reset with provisioned := true, queuePairs := 8, vectors := 9, vectorsInEffect := 9, windows := [(0, 2 ^ 64 - 1)] })] }
def s69 : State := { up with funcs := [(pf0 0, { Func.pf0Reset with busMaster := true, vfEnable := true, numVfs := 2 }), (fnId 0 0 2, { Func.reset with provisioned := true, busMaster := true, d3hot := true, pmeEnable := true })], tags := [(tagKey 0 3, { fn := pf0 0, use := .channel 1, remaining := 64, quarantined := false, timeoutUs := 50000, discard := false, op := 5 })] }
def v63 : Path := ({ transport := 0, flags := 0, queues := 1, priority := 0, qdepth := 32, port := 4420, vrf := 0, address := List.replicate 16 1, localAddress := List.replicate 16 2, state := .live, remotes := [(5, ({ lbads := 9, blocks := 1000, metaBytes := 0, protection := false, writeZeroes := true, ana := .optimized } : RemoteNs))], contexts := [], downAt := 0 } : Path)
def s70 : State := { up with funcs := [(0, { Func.pf0Reset with busMaster := true }), (5, { Func.reset with provisioned := true, queuePairs := 8, vectors := 9, vectorsInEffect := 9, busMaster := true, windows := [(0, 2 ^ 64 - 1)], mig := .paused }), (fnId 1 0 6, { Func.reset with provisioned := true, queuePairs := 8, vectors := 9, vectorsInEffect := 9, windows := [(0, 2 ^ 64 - 1)] })] }
def s71 : State := { up with chain := { up.chain with address := 3 }, tempo := { Tempo.reset with txns := [(9, v56)] } }
def v64 : FlightPkt := { die := 0, pipe := 0, tempo := 0, bank := 0, phase := .flowWait, sourceKind := 0, sourceId := 0, tc := 0, stamp := 0, original := List.replicate 60 0, frame := List.replicate 60 0, vector := List.replicate 384 0 ++ List.replicate 128 (255 : Byte), params := [], flowLookups := [(1, 2, [1, 2])], fn := 0, verdict := Verdict.none, cells := 1, tx := none, ing := none, inTick := 0 }
def v65 : FlightPkt := { die := 0, pipe := 0, tempo := 0, bank := 0, phase := .cipherIn 0, sourceKind := 0, sourceId := 0, tc := 0, stamp := 0, original := List.replicate 60 0, frame := List.replicate 60 0, vector := List.replicate 512 0, params := [], flowLookups := [], fn := 0, verdict := { Verdict.none with cipherSlot := some 3, decrypt := false }, cells := 1, tx := none, ing := none, inTick := 0 }
def v66 : List Latched := [v41, v42]
def s72 : State := { up with funcs := [(0, { Func.pf0Reset with busMaster := true, vfEnable := true, numVfs := 8 }), (5, { Func.reset with provisioned := true, queuePairs := 8, vectors := 9, vectorsInEffect := 9, busMaster := true, windows := [(0, 2 ^ 64 - 1)] }), (fnId 1 0 6, { Func.reset with provisioned := true, queuePairs := 8, vectors := 9, vectorsInEffect := 9, windows := [(0, 2 ^ 64 - 1)] })] }
def v67 : Target := ({ policy := 0, ioHoldS := 30, cmdTimeoutMs := 30000, fenceMs := 1000, subnqn := [], hostnqn := [], paths := [(2, v47)], reissued := 0, rotor := 0 } : Target)
def v68 : Pipe := { Pipe.reset with entries := [v39, { table := 5, key := [1, 2], mask := [0, 255], prefixLen := 0, priority := 2, place := 99, born := 0, retired := none, action := 9, dataPlane := false, pinned := false, params := [3] }] }
def v69 : QueuePair := ({ newQueue (toLe 1 0 ++ toLe 1 0 ++ toLe 1 0x21 ++ toLe 29 0) none with accepted := [v59] } : QueuePair)
def v70 : QueuePair := ({ newQueue (toLe 1 0 ++ toLe 1 0 ++ toLe 1 0x21 ++ toLe 29 0) none with accepted := [v61] } : QueuePair)
def v71 : FlightPkt := { die := 0, pipe := 0, tempo := 0, bank := 0, phase := .cipher 0, sourceKind := 0, sourceId := 0, tc := 0, stamp := 0, original := List.replicate 60 0, frame := List.replicate 12 0 ++ by8 [0x88, 0xE5, 0, 0, 0, 0, 0, 5] ++ List.replicate 80 0, vector := List.replicate 512 0, params := [], flowLookups := [], fn := 0, verdict := { Verdict.none with cipherSlot := some 3, decrypt := true }, cells := 1, tx := none, ing := none, inTick := 0 }
def s73 : State := { up with banks := [(0, { Bank.reset with standard := false, decls := [v17], entryTable := [(1, 40)] })], pipes := [(0, { Pipe.reset with entries := [v38] })] }
def v72 : TmLeaf := ({ prio := 3, tc := 3, quantum := 144, parent := 0, maxCells := 16384, alpha := 3, dropCounter := none, shaper := Shaper.reset, deficit := 0, fresh := true, profile := false, queue := [v50] } : TmLeaf)
def s74 : State := { up with flight := [(4, v62)], banks := [(0, { Bank.reset with standard := false })], tms := [(0, { Tm.reset with free := 196607, pipeline := 1 })] }
def s75 : State := { up with tempo := { Tempo.reset with txns := [(9, v55)], inProgress := some v34 } }
def s76 : State := { up with tempo := { Tempo.reset with txns := [(9, v55)], inProgress := some v35 } }
def v73 : Target := ({ policy := 0, ioHoldS := 30, cmdTimeoutMs := 30000, fenceMs := 1000, subnqn := [], hostnqn := [], paths := [(2, v63)], reissued := 0, rotor := 0 } : Target)
def s77 : State := { up with funcs := [(0, { Func.pf0Reset with busMaster := true }), (5, { Func.reset with provisioned := true, queuePairs := 8, vectors := 9, vectorsInEffect := 9, busMaster := true, windows := [(0, 2 ^ 64 - 1)] }), (fnId 1 0 6, { Func.reset with provisioned := true, queuePairs := 8, vectors := 9, vectorsInEffect := 9, windows := [(0, 2 ^ 64 - 1)] })], twins := [(5, v29)] }
def s78 : State := { up with storages := [(0, { Storage.reset with namespaces := [(0, v45)], targets := [(7, v33)], cmds := [(3, v53)] })] }
def s79 : State := { up with storages := [(0, { Storage.reset with namespaces := [(0, v45)], targets := [(7, v33)], cmds := [(3, v54)] })] }
def s80 : State := { up with storages := [(0, { Storage.reset with namespaces := [(0, v45)], targets := [(7, v73)], cmds := [] })] }
def s81 : State := { up with flight := [(4, v71)], ciphers := [(0, { Cipher.reset with slots := [(3, { KeySlot.reset with newer := v12 })], units := [(8, v44)] })] }

/-! The witnesses. -/

/-- PROGRAM_LOAD of the standard program over a bank with no action words is in order whatever the standard program's size is. -/
theorem man_PL : ∃ (s : State) (p : Packet) (b : Bank), s.takesRecorded (p.of 0x8402) ∧ s.expireTxns = s ∧ p.txn = 0 ∧
    s.tempo.bankClaim = none ∧ partProgramLoad (p.of 0x8402) s = .ok b ∧ s.lockedBut 0 (objNum objBank 0 0) = false := by
  refine ⟨{ up with banks := [(0, { Bank.reset with standard := false })] }, pk 0x8402 (toLe 12 0 ++ toLe 4 1), Bank.reset,
    by decide +kernel, by decide +kernel, rfl, rfl, ?_, by decide +kernel⟩
  have h1 : programOf ((pk 0x8402 (toLe 12 0 ++ toLe 4 1)).of 0x8402) { up with banks := [(0, { Bank.reset with standard := false })] }
      = .ok Bank.reset := by rfl
  have h2 : ∀ n, decide (65024 < 0 + n % 65025) = false := by intro n; simp; omega
  have h3 : ∀ l : List TableDecl, banksUnfit 64 { Bank.reset with standard := false } Bank.reset
      = (decide (15 * 2 ^ 20 < (((Bank.reset.tables 64).filter (fun d => !(Bank.tables { Bank.reset with standard := false } 64).contains d)).map exactBytes).sum)
        || ((Bank.reset.tables 64).filter (fun d => !(Bank.tables { Bank.reset with standard := false } 64).contains d)).any (fun d => ([] : List TableDecl).any (tcamOverlap d))
        || ((Bank.reset.tables 64).filter (fun d => !(Bank.tables { Bank.reset with standard := false } 64).contains d)).any (fun d => d.kind == .flow && (decide (64 < 2 * d.capacity) || false))
        || false) := by
    intro l
    have := h2 Config.stdActionWords
    simp only [banksUnfit, Bank.wordCount, Bank.tables, Bank.reset] at this ⊢
    simp at this ⊢
    omega
  unfold partProgramLoad
  rw [h1]
  have h4 : banksUnfit 64 { Bank.reset with standard := false } Bank.reset = false := by rw [h3 []]; decide +kernel
  have h5 : State.bankClash { up with banks := [(0, { Bank.reset with standard := false })] } { Bank.reset with standard := false } Bank.reset = false := by
    decide +kernel
  have h6 : ∀ l : List Nat, l.any (fun d => banksUnfit (State.dramOf { up with banks := [(0, { Bank.reset with standard := false })] } d)
      { Bank.reset with standard := false } Bank.reset) = false := by
    intro l
    rw [List.any_eq_false]
    intro d _
    show ¬ banksUnfit 64 { Bank.reset with standard := false } Bank.reset = true
    simp [h4]
  show (if State.bankClash { up with banks := [(0, { Bank.reset with standard := false })] } { Bank.reset with standard := false } Bank.reset = true then
    Except.error stWrongState else if State.workingDies { up with banks := [(0, { Bank.reset with standard := false })] } |>.any (fun d =>
      banksUnfit (State.dramOf { up with banks := [(0, { Bank.reset with standard := false })] } d) { Bank.reset with standard := false } Bank.reset) then
        .error stNoResource else .ok Bank.reset) = _
  rw [h5, h6]; rfl

theorem man_SP : ∃ (s u : State) (die n i : Nat) (t : Target) (p q : Path), s.target? die n = some t ∧ Tbl.find t.paths i = some p
    ∧ s.live die = true ∧ p.state = .down ∧ s.passedMs die p.downAt 2000 = true ∧ s.connectPath die (pf0 die) p = some (u, q) := by
  let p : Path :=
    { transport := 0, flags := 0, queues := 0, priority := 0, qdepth := 32, port := 4420, vrf := 0,
      address := List.replicate 16 1, localAddress := List.replicate 16 2, state := .down, remotes := [], contexts := [], downAt := 0 }
  let t : Target :=
    { policy := 0, ioHoldS := 30, cmdTimeoutMs := 30000, fenceMs := 1000, subnqn := [], hostnqn := [],
      paths := [(2, p)], reissued := 0, rotor := 0 }
  let s : State := { up with storages := [(0, { Storage.reset with targets := [(7, t)] })], times := [(0, { DieTime.reset with tick := 10 ^ 11 })] }
  have h : (s.connectPath 0 (pf0 0) p).isSome = true := by decide +kernel
  obtain ⟨⟨u, q⟩, hu⟩ := Option.isSome_iff_exists.mp h
  exact ⟨s, u, 0, 7, 2, t, p, q, by decide +kernel, by decide +kernel, by decide +kernel, rfl, by decide +kernel, hu⟩

theorem witness_IdleStepTicks :
    ∃ s : State, (s.pending = []) :=
  ⟨up, by decide +kernel⟩

theorem witness_SupplyAndResetEvents :
    (∃ s : State, (s.boot.vaux = false))
    ∧ (∃ s : State, (s.boot.vin = false))
    ∧ (∃ s : State, (s.boot.vin = true) ∧ (s.boot.vaux = true))
    ∧ (∃ s : State, ∃ die : Nat, (s.boot.vin = true) ∧ (s.boot.railsGood = true) ∧ (die < s.dieCount)
      ∧ (s.boot.stopped = false) ∧ (s.boot.stage = .ready))
    ∧ (∃ s : State, ∃ position : Nat, (position < s.dieCount))
    ∧ (∃ s : State, ∃ position : Nat, (position < s.dieCount) ∧ (s.boot.pkgReset = true))
    ∧ (∃ s : State, (s.boot.refclk = true) ∧ (s.boot.pllLocked = true))
    ∧ (∃ s : State, (s.boot.refclk = true) ∧ (s.boot.pllLocked = false))
    ∧ (∃ s : State, (s.boot.refclkHoldover = true) ∧ (s.boot.stopped = false)
      ∧ (s.boot.holdoverAt + 100 * ticksPerMs ≤ s.dieTick s.roles.lead))
    ∧ (∃ s : State, (s.boot.refclkHoldover = true) ∧ (s.boot.stopped = false)
      ∧ (s.dieTick s.roles.lead < s.boot.holdoverAt + 100 * ticksPerMs))
    ∧ (∃ s : State, ∃ die : Nat, ∃ temp : Int, (s.dieWorks die = true) ∧ (temp ≤ 150)) :=
  ⟨⟨{ up with boot := { up.boot with vaux := false } }, by decide +kernel⟩,
    ⟨{ up with boot := { up.boot with vin := false } }, by decide +kernel⟩,
    ⟨up, by decide +kernel⟩,
    ⟨up, 7, by decide +kernel⟩,
    ⟨up, 7, by decide +kernel⟩,
    ⟨{ up with boot := { up.boot with pkgReset := true } }, 7, by decide +kernel⟩,
    ⟨up, by decide +kernel⟩,
    ⟨{ up with boot := { up.boot with pllLocked := false } }, by decide +kernel⟩,
    ⟨{ up with boot := { up.boot with refclkHoldover := true, holdoverAt := 5 }, times := [(0, { DieTime.reset with tick := 10 ^ 9 })] },
      by decide +kernel⟩,
    ⟨{ up with boot := { up.boot with refclkHoldover := true } }, by decide +kernel⟩,
    ⟨up, 7, 150, by decide +kernel⟩⟩

theorem witness_StartUpStages :
    (∃ s : State, (s.boot.stage = .reset) ∧ (s.boot.pkgReset = false) ∧ (s.boot.railsGood = true) ∧ (s.boot.refclk = true))
    ∧ (∃ s : State, ∃ position : Nat, ∃ passed : Bool, (s.boot.stage = .selftest) ∧ (position < s.dieCount))
    ∧ (∃ s : State, (s.boot.stage = .selftest) ∧ (bit (s.boot.selfDone &&& s.boot.selfPass) 0 = true))
    ∧ (∃ s : State, (s.boot.stage = .selftest) ∧ (bit (s.boot.selfDone &&& s.boot.selfPass) 0 = false)
      ∧ (bit (s.boot.selfDone &&& s.boot.selfPass) 1 = true))
    ∧ (∃ s : State, (s.boot.stage = .selftest) ∧ (bit (s.boot.selfDone &&& s.boot.selfPass) 0 = false)
      ∧ (bit (s.boot.selfDone &&& s.boot.selfPass) 1 = false))
    ∧ (∃ s : State, ∃ mode : Nat, ∃ a : Option ImageHeader, ∃ b : Option ImageHeader, (s.boot.stage = .flash)
      ∧ (s.boot.fuses.lifecycle ≠ .decommissioned) ∧ (s.boot.slotFailedA = false) ∧ (s.boot.slotFailedB = false))
    ∧ (∃ s : State, ∃ check : ImageCheck, ∃ h : ImageHeader, (s.boot.stage = .verify) ∧ (s.boot.tryHeader = some h)
      ∧ (imageValid s.boot.fuses h (s.boot.digests h check).bodySha check.rsaVerifies check.pqVerifies = true))
    ∧ (∃ s : State, (s.boot.stage = .init))
    ∧ (∃ s : State, (s.boot.stage = .init) ∧ (s.boot.slot = 0)) :=
  ⟨⟨{ up with boot := { up.boot with stage := .reset } }, by decide +kernel⟩,
    ⟨{ up with boot := { up.boot with stage := .selftest } }, 7, true, by decide +kernel⟩,
    ⟨{ up with boot := { up.boot with stage := .selftest, selfDone := 255, selfPass := 253 } }, by decide +kernel⟩,
    ⟨{ up with boot := { up.boot with stage := .selftest, selfDone := 255, selfPass := 254 } }, by decide +kernel⟩,
    ⟨{ up with boot := { up.boot with stage := .selftest, selfDone := 255, selfPass := 252 } }, by decide +kernel⟩,
    ⟨{ up with boot := { up.boot with stage := .flash } }, 5,
      some { magic := 0x31414C54, headerLen := 0x2000, imageLen := 0x2700, flags := 0, generation := 3, svn := 0, keyIndex := 0, reservedZero := true, bodyDigest := 9, modulus := List.replicate 384 0, pqKey := [] },
      some { ({ magic := 0x31414C54, headerLen := 0x2000, imageLen := 0x2700, flags := 0, generation := 3, svn := 0, keyIndex := 0, reservedZero := true, bodyDigest := 9, modulus := List.replicate 384 0, pqKey := [] } : ImageHeader) with generation := 4 },
      by decide +kernel⟩,
    ⟨{ up with boot := { up.boot with stage := .verify, headerA := some { magic := 0x31414C54, headerLen := 0x2000, imageLen := 0x2700, flags := 0, generation := 3, svn := 0, keyIndex := 0, reservedZero := true, bodyDigest := 9, modulus := List.replicate 384 0, pqKey := [] } } },
      { rsaVerifies := true, pqVerifies := true, headerSha := 5, bodySha := 9, measurement := 77 },
      { magic := 0x31414C54, headerLen := 0x2000, imageLen := 0x2700, flags := 0, generation := 3, svn := 0, keyIndex := 0, reservedZero := true, bodyDigest := 9, modulus := List.replicate 384 0, pqKey := [] },
      by decide +kernel⟩,
    ⟨s01, by decide +kernel⟩,
    ⟨s01, by decide +kernel⟩⟩

theorem witness_ChainFrames :
    (∃ s : State, ∃ frame : List Byte, (s.chainAlive = true) ∧ (s.inBypass = false)
      ∧ (leAt frame (8 + leAt frame 6 2) 4 ≠ crc32 (sub frame 2 (6 + leAt frame 6 2))))
    ∧ (∃ s : State, ∃ dest : Nat, ∃ src : Nat, ∃ type : Nat, ∃ seq : Nat, ∃ payload : List Byte, (s.chainAlive = true)
      ∧ (dest < 256) ∧ (src < 256) ∧ (type < 256) ∧ (seq < 256) ∧ (payload.length ≤ 1024)
      ∧ let f := chainFrame dest src type seq payload; let heard : State := { s with chain := { s.chain with hunting := false, clockSeen := true } }; (type = 0x03) ∧ (s.chainNames dest = true))
    ∧ (∃ s : State, ∃ dest : Nat, ∃ src : Nat, ∃ type : Nat, ∃ seq : Nat, ∃ payload : List Byte, (s.chainAlive = true)
      ∧ (dest < 256) ∧ (src < 256) ∧ (type < 256) ∧ (seq < 256) ∧ (payload.length ≤ 1024)
      ∧ let f := chainFrame dest src type seq payload; let heard : State := { s with chain := { s.chain with hunting := false, clockSeen := true } }; (type = 0x05) ∧ (s.chainNames dest = true))
    ∧ (∃ s : State, ∃ dest : Nat, ∃ src : Nat, ∃ type : Nat, ∃ seq : Nat, ∃ payload : List Byte, (s.chainAlive = true)
      ∧ (dest < 256) ∧ (src < 256) ∧ (type < 256) ∧ (seq < 256) ∧ (payload.length ≤ 1024)
      ∧ let f := chainFrame dest src type seq payload; let heard : State := { s with chain := { s.chain with hunting := false, clockSeen := true } }; (type = 0x01) ∧ (payload.length = 3) ∧ (dest = 0xFF) ∧ (src = 0))
    ∧ (∃ s : State, ∃ dest : Nat, ∃ src : Nat, ∃ type : Nat, ∃ seq : Nat, ∃ payload : List Byte, (s.chainAlive = true)
      ∧ (dest < 256) ∧ (src < 256) ∧ (type < 256) ∧ (seq < 256) ∧ (payload.length ≤ 1024)
      ∧ let f := chainFrame dest src type seq payload; let heard : State := { s with chain := { s.chain with hunting := false, clockSeen := true } }; (type = 0x03 ∨ type = 0x05 ∨ 5 < type) ∧ (s.chainNames dest = false))
    ∧ (∃ s : State, ∃ frame : List Byte, (s.chainAlive = false)) :=
  ⟨⟨up, by8 [0,0,255,0,3,1,0,0,1,2,3,4], by decide +kernel⟩,
    ⟨up, 255, 0, 3, 9, [], by decide +kernel⟩,
    ⟨up, 255, 0, 5, 9, [], by decide +kernel⟩,
    ⟨up, 255, 0, 1, 9, by8 [4,0,2], by decide +kernel⟩,
    ⟨up, 3, 0, 7, 9, [], by decide +kernel⟩,
    ⟨{ up with chain := { up.chain with forwarding := false } }, by8 [1,2], by decide +kernel⟩⟩

theorem witness_ChainManagement :
    (∃ s : State, ∃ seq : Nat, ∃ next : Nat, ∃ maxRate : Nat, (s.chainAlive = true) ∧ (s.chain.bypassed = false)
      ∧ (s.chain.address = 0) ∧ (next ≠ 0xFF))
    ∧ (∃ s : State, ∃ seq : Nat, ∃ next : Nat, ∃ maxRate : Nat, (s.chainAlive = true) ∧ (s.chain.bypassed = false)
      ∧ (s.chain.address ≠ 0))
    ∧ (∃ s : State, ∃ seq : Nat, ∃ next : Nat, ∃ maxRate : Nat, (s.chainAlive = true) ∧ (s.chain.bypassed = false)
      ∧ (next ≠ 0xFF))
    ∧ (∃ s : State, ∃ seq : Nat, ∃ maxRate : Nat, (s.chainAlive = true) ∧ (s.chain.bypassed = false) ∧ (s.chain.address = 0))
    ∧ (∃ s : State, ∃ seq : Nat, ∃ maxRate : Nat, (s.chainAlive = true) ∧ (s.chain.bypassed = false))
    ∧ (∃ s : State, ∃ seq : Nat, ∃ next : Nat, ∃ maxRate : Nat, (s.chainAlive = true) ∧ (s.chain.bypassed = true))
    ∧ (∃ s : State, ∃ seq : Nat, ∃ code : Nat, (s.chainTakes = true) ∧ (code ≤ 2))
    ∧ (∃ s : State, ∃ seq : Nat, ∃ code : Nat, (s.chainTakes = true) ∧ (2 < code))
    ∧ (∃ s : State, ∃ dest : Nat, ∃ seq : Nat, (s.chainNames dest = true) ∧ (s.boot.fuses.lifecycle ≠ .decommissioned))
    ∧ (∃ s : State, ∃ dest : Nat, ∃ seq : Nat, (s.chainNames dest = false))
    ∧ (∃ s : State, ∃ dest : Nat, ∃ seq : Nat, ∃ enter : Bool, (s.chainNames dest = true)
      ∧ (s.boot.fuses.lifecycle ≠ .decommissioned))
    ∧ (∃ s : State, ∃ dest : Nat, ∃ seq : Nat, ∃ enter : Bool, (s.chainAlive = true) ∧ (s.inBypass = true)
      ∧ (s.chainDest dest = true))
    ∧ (∃ s : State, ∃ dest : Nat, ∃ seq : Nat, (s.chainNames dest = true) ∧ (s.boot.fuses.lifecycle ≠ .decommissioned))
    ∧ (∃ s : State, ∃ dest : Nat, ∃ seq : Nat, (s.chainNames dest = true) ∧ (s.boot.fuses.lifecycle = .decommissioned))
    ∧ (∃ s : State, ∃ dest : Nat, ∃ seq : Nat, ∃ mask : Nat, (s.chainNames dest = true)
      ∧ (s.boot.fuses.lifecycle ≠ .decommissioned) ∧ (s.synce.chainWakeEn = true))
    ∧ (∃ s : State, ∃ dest : Nat, ∃ seq : Nat, ∃ mask : Nat, (s.chainNames dest = true)
      ∧ (s.boot.fuses.lifecycle ≠ .decommissioned) ∧ (s.synce.chainWakeEn = false)) :=
  ⟨⟨up, 7, 254, 3, by decide +kernel⟩,
    ⟨s08, 7, 254, 3, by decide +kernel⟩,
    ⟨up, 7, 254, 3, by decide +kernel⟩,
    ⟨up, 7, 3, by decide +kernel⟩,
    ⟨up, 7, 3, by decide +kernel⟩,
    ⟨s05, 7, 254, 3, by decide +kernel⟩,
    ⟨up, 7, 2, by decide +kernel⟩,
    ⟨up, 7, 3, by decide +kernel⟩,
    ⟨s08, 12, 7, by decide +kernel⟩,
    ⟨s08, 13, 7, by decide +kernel⟩,
    ⟨s08, 255, 7, true, by decide +kernel⟩,
    ⟨s05, 255, 7, false, by decide +kernel⟩,
    ⟨s08, 12, 7, by decide +kernel⟩,
    ⟨{ up with chain := { up.chain with address := 12 }, boot := { up.boot with fuses := { up.boot.fuses with lifecycle := .decommissioned } } },
      12, 7, by decide +kernel⟩,
    ⟨{ up with chain := { up.chain with address := 12 }, links := [(0, Link.reset), (2, { Link.reset with d3cold := true })] },
      12, 7, 0x05, by decide +kernel⟩,
    ⟨{ up with chain := { up.chain with address := 12 }, synce := { Synce.reset with chainWakeEn := false } }, 12, 7, 255,
      by decide +kernel⟩⟩

theorem witness_ChainCommands :
    (∃ s : State, ∃ seq : Nat, ∃ data : List Byte, (s.chainTakes = true) ∧ (s.decides = true) ∧ (data ≠ []))
    ∧ (∃ s : State, ∃ seq : Nat, ∃ n : Nat, ∃ bs : List Byte, ∃ data : List Byte, (s.chainTakes = true) ∧ (s.decides = true)
      ∧ (data ≠ []) ∧ (s.chain.partialCmd = some (n, bs)) ∧ (0 < n) ∧ (n < 128) ∧ (n < 127))
    ∧ (∃ s : State, ∃ seq : Nat, ∃ n : Nat, ∃ bs : List Byte, ∃ data : List Byte, (s.chainTakes = true) ∧ (s.decides = true)
      ∧ (data ≠ []) ∧ (s.chain.partialCmd = some (n, bs)) ∧ (0 < n) ∧ (n < 128) ∧ (n = 127))
    ∧ (∃ s : State, ∃ seq : Nat, ∃ n : Nat, ∃ bs : List Byte, ∃ data : List Byte, (s.chainTakes = true) ∧ (s.decides = true)
      ∧ (data ≠ []) ∧ (s.chain.partialCmd = some (n, bs)) ∧ (0 < n) ∧ (n < 128))
    ∧ (∃ s : State, ∃ seq : Nat, ∃ data : List Byte, (s.chainTakes = true) ∧ (s.decides = true) ∧ (data ≠ []))
    ∧ (∃ s : State, ∃ seq : Nat, ∃ n : Nat, ∃ m : Nat, ∃ bs : List Byte, ∃ data : List Byte, (s.chainTakes = true)
      ∧ (s.decides = true) ∧ (data ≠ []) ∧ (s.chain.partialCmd = some (n, bs)) ∧ (0 < m) ∧ (m < 128) ∧ (m ≠ n)
      ∧ (m + 1 ≠ n))
    ∧ (∃ s : State, ∃ seq : Nat, ∃ n : Nat, ∃ bs : List Byte, (s.chainTakes = true) ∧ (s.decides = true) ∧ (n < 128)
      ∧ (s.chain.held = some bs) ∧ (1023 * (n + 1) < bs.length))
    ∧ (∃ s : State, ∃ seq : Nat, ∃ n : Nat, ∃ bs : List Byte, (s.chainTakes = true) ∧ (s.decides = true) ∧ (n < 128)
      ∧ (s.chain.held = some bs) ∧ (1023 * n < bs.length) ∧ (bs.length ≤ 1023 * (n + 1)))
    ∧ (∃ s : State, ∃ seq : Nat, ∃ n : Nat, (s.chainTakes = true) ∧ (s.decides = true) ∧ (s.chain.held = none))
    ∧ (∃ s : State, ∃ seq : Nat, ∃ data : List Byte, ∃ good : SigResult, (s.chainTakes = true) ∧ (s.decides = true)) :=
  ⟨⟨up, 3, by8 [1,2,3], by decide +kernel⟩,
    ⟨{ up with chain := { up.chain with partialCmd := some (126, by8 [9]) } }, 3, 126, by8 [9], by8 [1,2,3],
      by decide +kernel⟩,
    ⟨s09, 3, 127, by8 [9], by8 [1,2,3], by decide +kernel⟩,
    ⟨s09, 3, 127, by8 [9], by8 [1,2,3], by decide +kernel⟩,
    ⟨up, 3, by8 [1,2,3], by decide +kernel⟩,
    ⟨{ up with chain := { up.chain with partialCmd := some (2, by8 [9]) } }, 3, 2, 3, by8 [9], by8 [1,2,3],
      by decide +kernel⟩,
    ⟨s11, 3, 0, List.replicate 1024 7, by decide +kernel⟩,
    ⟨s11, 3, 1, List.replicate 1024 7, by decide +kernel⟩,
    ⟨up, 3, 0, by decide +kernel⟩,
    ⟨up, 3, by8 [1,2,3], v02, by decide +kernel⟩⟩

theorem witness_SpdmResponder :
    (∃ s : State, ∃ seq : Nat, ∃ body : List Byte, (s.chainTakes = true) ∧ (s.decides = true))
    ∧ (∃ s : State, ∃ l : Nat, ∃ seq : Nat, ∃ body : List Byte, (s.doeReach l = true) ∧ ((s.link l).spdmVersion = false))
    ∧ (∃ s : State, ∃ l : Nat, ∃ seq : Nat, ∃ body : List Byte, (s.doeReach l = true) ∧ ((s.link l).spdmVersion = true))
    ∧ (∃ s : State, ∃ l : Nat, ∃ seq : Nat, ∃ index : Nat, ∃ m : List Byte, (s.doeReach l = true)
      ∧ ((s.link l).spdmVersion = true) ∧ ((s.link l).spdmAlgorithms = true) ∧ (index < 256)
      ∧ (s.measurement index = some m))
    ∧ (∃ s : State, ∃ l : Nat, ∃ seq : Nat, ∃ body : List Byte, (s.doeReach l = true) ∧ ((s.link l).spdmVersion = true)
      ∧ ((s.link l).spdmAlgorithms = true) ∧ ((s.link l).spdmExchange = false))
    ∧ (∃ s : State, ∃ l : Nat, ∃ seq : Nat, ∃ body : List Byte, (s.doeReach l = true) ∧ ((s.link l).spdmVersion = true)
      ∧ ((s.link l).spdmAlgorithms = true)) :=
  ⟨⟨up, 3, [], by decide +kernel⟩,
    ⟨up, 0, 3, [], by decide +kernel⟩,
    ⟨{ up with links := [(0, { Link.reset with speed := 6, spdmVersion := true })] }, 0, 3, [], by decide +kernel⟩,
    ⟨s17, 0, 3, 5, (up.measurement 5).getD [], by decide +kernel⟩,
    ⟨s17, 0, 3, [], by decide +kernel⟩,
    ⟨s17, 0, 3, [], by decide +kernel⟩⟩

theorem witness_CrossPackageTransactions :
    (∃ s : State, ∃ seq : Nat, ∃ txn : Nat, ∃ group : Nat, ∃ instant : Nat, ∃ t : Txn, (s.txnFrames = true)
      ∧ (s.txnWaits = false) ∧ (s.expireTxns = s) ∧ (s.txnNamed txn group = .ok t) ∧ (t.state = .opened)
      ∧ (s.prepareStatus txn t instant = none))
    ∧ (∃ s : State, ∃ seq : Nat, ∃ txn : Nat, ∃ group : Nat, ∃ instant : Nat, ∃ t : Txn, (s.txnFrames = true)
      ∧ (s.txnWaits = false) ∧ (s.expireTxns = s) ∧ (s.txnNamed txn group = .ok t) ∧ (t.state = .prepared)
      ∧ (t.commitPoint = false) ∧ (s.commitLate t = false) ∧ (t.instant = instant))
    ∧ (∃ s : State, ∃ seq : Nat, ∃ txn : Nat, ∃ group : Nat, ∃ instant : Nat, ∃ t : Txn, (s.txnFrames = true)
      ∧ (s.txnWaits = false) ∧ (s.expireTxns = s) ∧ (s.txnNamed txn group = .ok t) ∧ (t.state = .prepared)
      ∧ (t.commitPoint = false))
    ∧ (∃ s : State, ∃ seq : Nat, ∃ txn : Nat, ∃ group : Nat, ∃ instant : Nat, ∃ t : Txn, (s.txnFrames = true)
      ∧ (s.txnWaits = false) ∧ (s.expireTxns = s) ∧ (s.txnNamed txn group = .ok t) ∧ (t.state = .prepared)
      ∧ (t.commitPoint = true))
    ∧ (∃ s : State, ∃ seq : Nat, ∃ txn : Nat, ∃ group : Nat, ∃ instant : Nat, ∃ t : Txn, (s.txnFrames = true)
      ∧ (s.txnNamed txn group = .ok t) ∧ (t.state = .committed))
    ∧ (∃ s : State, ∃ txn : Nat, ∃ t : Txn, (Tbl.find s.tempo.txns txn = some t) ∧ (t.crossPackage = true)
      ∧ (t.state = .prepared) ∧ (t.commitPoint = false) ∧ (t.instant < s.nowNs + 2000000))
    ∧ (∃ s : State, ∃ txn : Nat, ∃ t : Txn, (Tbl.find s.tempo.txns txn = some t) ∧ (t.crossPackage = true)
      ∧ (t.state = .prepared) ∧ (t.commitPoint = false) ∧ (s.nowNs + 2000000 ≤ t.instant)) :=
  ⟨⟨{ up with chain := { up.chain with address := 3 }, tempo := { Tempo.reset with txns := [(9, { state := .opened, owner := masterId 4 0 0, crossPackage := true, abortOnReset := false, group := 5, timeoutMs := 30000, deadline := 10 ^ 12, staged := [], instant := 0, tempo := 4, late := false, failJsn := 0, failStatus := 0, commitCmd := none, commitPoint := false })] } },
      1, 9, 5, 20000000,
      { state := .opened, owner := masterId 4 0 0, crossPackage := true, abortOnReset := false, group := 5, timeoutMs := 30000, deadline := 10 ^ 12, staged := [], instant := 0, tempo := 4, late := false, failJsn := 0, failStatus := 0, commitCmd := none, commitPoint := false },
      by decide +kernel⟩,
    ⟨s71, 1, 9, 5, 20000000, v56, by decide +kernel⟩,
    ⟨s71, 1, 9, 5, 20000000, v56, by decide +kernel⟩,
    ⟨{ up with chain := { up.chain with address := 3 }, tempo := { Tempo.reset with txns := [(9, { state := .prepared, owner := masterId 4 0 0, crossPackage := true, abortOnReset := false, group := 5, timeoutMs := 30000, deadline := 10 ^ 12, staged := [], instant := 20000000, tempo := 4, late := false, failJsn := 0, failStatus := 0, commitCmd := none, commitPoint := true })] } },
      1, 9, 5, 20000000,
      { state := .prepared, owner := masterId 4 0 0, crossPackage := true, abortOnReset := false, group := 5, timeoutMs := 30000, deadline := 10 ^ 12, staged := [], instant := 20000000, tempo := 4, late := false, failJsn := 0, failStatus := 0, commitCmd := none, commitPoint := true },
      by decide +kernel⟩,
    ⟨{ up with chain := { up.chain with address := 3 }, tempo := { Tempo.reset with txns := [(9, { state := .committed, owner := masterId 4 0 0, crossPackage := true, abortOnReset := false, group := 5, timeoutMs := 30000, deadline := 10 ^ 12, staged := [], instant := 20000000, tempo := 4, late := false, failJsn := 0, failStatus := 0, commitCmd := none, commitPoint := true })] } },
      1, 9, 5, 20000000,
      { state := .committed, owner := masterId 4 0 0, crossPackage := true, abortOnReset := false, group := 5, timeoutMs := 30000, deadline := 10 ^ 12, staged := [], instant := 20000000, tempo := 4, late := false, failJsn := 0, failStatus := 0, commitCmd := none, commitPoint := true },
      by decide +kernel⟩,
    ⟨{ up with chain := { up.chain with address := 3 }, tempo := { Tempo.reset with txns := [(9, { state := .prepared, owner := masterId 4 0 0, crossPackage := true, abortOnReset := false, group := 5, timeoutMs := 30000, deadline := 10 ^ 12, staged := [], instant := 1999999, tempo := 4, late := false, failJsn := 0, failStatus := 0, commitCmd := none, commitPoint := false })] } },
      9,
      { state := .prepared, owner := masterId 4 0 0, crossPackage := true, abortOnReset := false, group := 5, timeoutMs := 30000, deadline := 10 ^ 12, staged := [], instant := 1999999, tempo := 4, late := false, failJsn := 0, failStatus := 0, commitCmd := none, commitPoint := false },
      by decide +kernel⟩,
    ⟨s71, 9, v56, by decide +kernel⟩⟩

theorem witness_LinkEvents :
    (∃ s : State, ∃ link : Nat, ∃ speed : Nat, ∃ width : Nat, ∃ lanes : Nat, ∃ flit : Bool, ∃ reversed : Bool,
      (s.dieWorks link = true) ∧ (s.boot.pkgReset = false) ∧ (s.boot.pllLocked = true) ∧ ((s.link link).perst = false)
      ∧ (1 ≤ speed) ∧ (speed ≤ 6) ∧ (standardWidth width = true) ∧ (lanes % 65536 = 0))
    ∧ (∃ s : State, ∃ link : Nat, ∃ speed : Nat, ∃ lanes : Nat, ∃ flit : Bool, ∃ reversed : Bool, (s.dieWorks link = true)
      ∧ (s.boot.pkgReset = false) ∧ (s.boot.pllLocked = true) ∧ ((s.link link).perst = false) ∧ (1 ≤ speed)
      ∧ (speed ≤ 6) ∧ (lanes % 65536 = 0x0100))
    ∧ (∃ s : State, ∃ link : Nat, ∃ present : Bool, ((s.link link).speed = 0) ∧ (s.dieWorks link = true))
    ∧ (∃ s : State, ∃ link : Nat, (s.linkUp link = true) ∧ ((s.link link).frozen = false))
    ∧ (∃ s : State, ∃ link : Nat, (s.dieWorks link = true) ∧ (s.boot.pllLocked = true) ∧ ((s.link link).frozen = false))
    ∧ (∃ s : State, ∃ link : Nat, (s.linkUp link = true) ∧ ((s.link link).frozen = true))
    ∧ (∃ s : State, ∃ link : Nat, (s.linkUp link = true) ∧ ((s.link link).frozen = false))
    ∧ (∃ s : State, ∃ link : Nat, (s.ready = true) ∧ (s.linkUp link = true))
    ∧ (∃ s : State, ∃ link : Nat, ∃ stream : Nat, ∃ i : IdeStream, (s.linkUp link = true)
      ∧ (Tbl.find (s.link link).ide stream = some i)) :=
  ⟨⟨{ up with boot := { up.boot with pkgReset := false }, links := [] }, 7, 6, 16, 65536, false, true, by decide +kernel⟩,
    ⟨up, 7, 6, 65536 + 256, false, true, by decide +kernel⟩,
    ⟨{ up with links := [] }, 7, true, by decide +kernel⟩,
    ⟨up, 0, by decide +kernel⟩,
    ⟨up, 0, by decide +kernel⟩,
    ⟨{ up with links := [(0, { Link.reset with speed := 6, width := 16, frozen := true, cause := 1, repeatCount := 255 })] },
      0, by decide +kernel⟩,
    ⟨up, 0, by decide +kernel⟩,
    ⟨up, 0, by decide +kernel⟩,
    ⟨{ up with links := [(0, { Link.reset with speed := 6, width := 16, ide := [(1, { secure := true, requesters := [], ranges := [], key := 0 })] })] },
      0, 1, { secure := true, requesters := [], ranges := [], key := 0 }, by decide +kernel⟩⟩

theorem witness_ContainmentRelease :
    (∃ s : State, ∃ link : Nat, (s.ready = true) ∧ (s.linkUp link = true) ∧ ((s.link link).frozen = true)
      ∧ ((s.link link).armed = false) ∧ (s.nonceOf link < 65536))
    ∧ (∃ s : State, ∃ link : Nat, (s.ready = true) ∧ (s.linkUp link = true) ∧ ((s.link link).frozen = true)
      ∧ ((s.link link).armed = true) ∧ (s.nonceOf link < 65536))
    ∧ (∃ s : State, ∃ link : Nat, ∃ value : Nat, (s.ready = true) ∧ (s.linkUp link = true) ∧ ((s.link link).frozen = true)
      ∧ (value < 2 ^ 32) ∧ (value ≠ (if (s.link link).armed then 0x5A5A0000 else 0xA5A50000) + s.nonceOf link))
    ∧ (∃ s : State, ∃ link : Nat, ∃ value : Nat, ((s.link link).frozen = false))
    ∧ (∃ s : State, ∃ link : Nat, ((s.link link).frozen = true) ∧ ((s.link link).armed = true))
    ∧ (∃ s : State, ∃ link : Nat, ((s.link link).cause = 3 ∨ (s.link link).cause = 4)) :=
  ⟨⟨s21, 0, by decide +kernel⟩,
    ⟨{ up with links := [(0, { Link.reset with speed := 6, width := 16, frozen := true, cause := 3, nonce := some 65535, armed := true })] },
      0, by decide +kernel⟩,
    ⟨s21, 0, 2 ^ 32 - 1, by decide +kernel⟩,
    ⟨up, 0, 5, by decide +kernel⟩,
    ⟨{ up with links := [(0, { Link.reset with speed := 6, width := 16, frozen := true, armed := true })] }, 0,
      by decide +kernel⟩,
    ⟨{ up with links := [(0, { Link.reset with speed := 6, width := 16, cause := 4 })] }, 0, by decide +kernel⟩⟩

theorem witness_FunctionControl :
    (∃ s : State, ∃ fn : Nat, (s.ready = true) ∧ (s.configReach fn = true))
    ∧ (∃ s : State, ∃ fn : Nat, (s.ready = true) ∧ (s.configReach fn = true))
    ∧ (∃ s : State, ∃ fn : Nat, (s.ready = true) ∧ (s.configReach fn = true) ∧ (fnVf fn ≠ 0))
    ∧ (∃ s : State, ∃ fn : Nat, (s.ready = true) ∧ (s.configReach fn = true) ∧ (fnVf fn = 0))
    ∧ (∃ s : State, ∃ pf : Nat, (s.ready = true) ∧ (s.configReach pf = true) ∧ (fnVf pf = 0) ∧ (s.vfsOf pf = []))
    ∧ (∃ s : State, ∃ fn : Nat, (s.ready = true) ∧ (s.configReach fn = true))
    ∧ (∃ s : State, ∃ fn : Nat, (s.ready = true) ∧ (s.configReach fn = true))
    ∧ (∃ s : State, ∃ fn : Nat, (s.linkUp (mDie fn) = true) ∧ ((s.link (mDie fn)).frozen = false)
      ∧ (s.linkInsecure (mDie fn) = false) ∧ ((s.func fn).d3hot = true) ∧ ((s.func fn).pmeEnable = true)
      ∧ ((s.link (mDie fn)).wakeBy.contains fn = false))
    ∧ (∃ s : State, ∃ fn : Nat, (s.dieWorks (mDie fn) = true)
      ∧ ((s.link (mDie fn)).speed = 0 ∨ (s.link (mDie fn)).frozen = true) ∧ ((s.func fn).d3hot = true)
      ∧ ((s.func fn).pmeEnable = true) ∧ ((s.link (mDie fn)).wakeBy.contains fn = false))
    ∧ (∃ s : State, ∃ fn : Nat, ∃ field : Nat, ∃ value : Nat, (s.linkUp (mDie fn) = true) ∧ (s.linkInsecure (mDie fn) = false)
      ∧ (s.ready = true) ∧ (s.configReach fn = true))
    ∧ (∃ s : State, ∃ fn : Nat, ∃ value : Nat, (s.linkUp (mDie fn) = true) ∧ (s.linkInsecure (mDie fn) = false)
      ∧ (s.ready = true) ∧ (s.configReach fn = true))
    ∧ (∃ s : State, ∃ fn : Nat, ∃ field : Nat, ∃ value : Nat, ∃ write : Bool, (s.linkUp (mDie fn) = true)
      ∧ (s.linkInsecure (mDie fn) = false) ∧ (s.ready = false))
    ∧ (∃ s : State, ∃ pf : Nat, ∃ n : Nat, (s.ready = true) ∧ (s.configReach pf = true) ∧ (fnVf pf = 0)) :=
  ⟨⟨s69, pf0 0, by decide +kernel⟩,
    ⟨s69, fnId 0 0 2, by decide +kernel⟩,
    ⟨s69, fnId 0 0 2, by decide +kernel⟩,
    ⟨s69, pf0 0, by decide +kernel⟩,
    ⟨up, pf0 1, by decide +kernel⟩,
    ⟨s69, pf0 0, by decide +kernel⟩,
    ⟨s69, fnId 0 0 2, by decide +kernel⟩,
    ⟨s69, fnId 0 0 2, by decide +kernel⟩,
    ⟨{ up with links := [(0, Link.reset)], funcs := [(pf0 0, { Func.pf0Reset with busMaster := true, vfEnable := true, numVfs := 2 }), (fnId 0 0 2, { Func.reset with provisioned := true, busMaster := true, d3hot := true, pmeEnable := true })] },
      fnId 0 0 2, by decide +kernel⟩,
    ⟨s69, fnId 0 0 2, 3, 1, by decide +kernel⟩,
    ⟨s69, fnId 0 0 2, 1, by decide +kernel⟩,
    ⟨s01, fnId 0 0 2, 3, 1, true, by decide +kernel⟩,
    ⟨up, pf0 1, 3, by decide +kernel⟩⟩

theorem witness_HostCompletions :
    (∃ s : State, ∃ link : Nat, ∃ tag : Nat, ∃ data : List Byte, ∃ t : HostTag, (s.linkUp link = true)
      ∧ ((s.link link).frozen = false) ∧ (Tbl.find s.tags (tagKey link tag) = some t) ∧ (t.quarantined = false)
      ∧ (t.discard = false) ∧ (s.ideSilent t.fn = false) ∧ (data.length < t.remaining))
    ∧ (∃ s : State, ∃ link : Nat, ∃ tag : Nat, ∃ data : List Byte, ∃ good : Bool, ∃ t : HostTag, (s.linkUp link = true)
      ∧ ((s.link link).frozen = false) ∧ (Tbl.find s.tags (tagKey link tag) = some t) ∧ (t.quarantined = false)
      ∧ (t.discard = true) ∧ (s.ideSilent t.fn = false) ∧ (t.remaining ≤ data.length))
    ∧ (∃ s : State, ∃ link : Nat, ∃ tag : Nat, ∃ data : List Byte, ∃ good : Bool, ∃ t : HostTag, (s.linkUp link = true)
      ∧ (Tbl.find s.tags (tagKey link tag) = some t) ∧ (t.quarantined = true) ∧ (s.ideSilent t.fn = false))
    ∧ (∃ s : State, ∃ link : Nat, ∃ tag : Nat, ∃ data : List Byte, ∃ good : Bool, (s.linkUp link = true)
      ∧ (Tbl.find s.tags (tagKey link tag) = none) ∧ (s.linkInsecure link = false))
    ∧ (∃ s : State, ∃ link : Nat, ∃ tag : Nat, ∃ data : List Byte, ∃ t : HostTag, (s.linkUp link = true)
      ∧ ((s.link link).frozen = true) ∧ (Tbl.find s.tags (tagKey link tag) = some t) ∧ (t.quarantined = false)
      ∧ (s.ideSilent t.fn = false))
    ∧ (∃ s : State, ∃ link : Nat, ∃ tag : Nat, ∃ t : HostTag, (s.dieWorks link = true)
      ∧ (Tbl.find s.tags (tagKey link tag) = some t) ∧ (t.quarantined = false) ∧ (t.discard = true) ∧ (mDie t.fn = link))
    ∧ (∃ s : State, ∃ link : Nat, ∃ tag : Nat, ∃ chan : Nat, ∃ q : Nat, ∃ t : HostTag, (s.dieWorks link = true)
      ∧ (Tbl.find s.tags (tagKey link tag) = some t) ∧ (t.quarantined = false) ∧ (t.discard = false)
      ∧ (t.use = .channel chan) ∧ ((s.dmaCh chan).busy = true) ∧ ((s.dmaCh chan).binder = .sequencer q))
    ∧ (∃ s : State, ∃ link : Nat, ∃ tag : Nat, ∃ t : HostTag, (Tbl.find s.tags (tagKey link tag) = some t)
      ∧ (t.quarantined = true)) :=
  ⟨⟨{ up with tags := [(tagKey 0 3, { fn := pf0 0, use := .channel 65, remaining := 65, quarantined := false, timeoutUs := 50000, discard := false, op := 5 })] },
      0, 3, List.replicate 64 1,
      { fn := pf0 0, use := .channel 65, remaining := 65, quarantined := false, timeoutUs := 50000, discard := false, op := 5 },
      by decide +kernel⟩,
    ⟨s37, 0, 3, List.replicate 64 1, true, v21, by decide +kernel⟩,
    ⟨s38, 0, 3, List.replicate 64 1, true, v22, by decide +kernel⟩,
    ⟨{ up with tags := [(tagKey 0 3, v23)] }, 0, 4, List.replicate 64 1, true, by decide +kernel⟩,
    ⟨{ up with links := [(0, { Link.reset with speed := 6, frozen := true })], tags := [(tagKey 0 3, v23)] }, 0, 3,
      List.replicate 64 1, v23, by decide +kernel⟩,
    ⟨s37, 0, 3, v21, by decide +kernel⟩,
    ⟨{ up with tags := [(tagKey 0 3, v23)], channels := [(65, { DmaChannel.reset with busy := true, binder := .sequencer 2 })] },
      0, 3, 65, 2, v23, by decide +kernel⟩,
    ⟨s38, 0, 3, v22, by decide +kernel⟩⟩

theorem witness_Mailboxes :
    (∃ s : State, ∃ fn : Nat, ∃ v : Word32, (fn < agentBoxBase) ∧ (s.memReach fn = true) ∧ ((s.fnBox fn).inbound.length < 16))
    ∧ (∃ s : State, ∃ fn : Nat, ∃ v : Word32, (fn < agentBoxBase) ∧ (s.memReach fn = true) ∧ ((s.fnBox fn).inbound.length = 16))
    ∧ (∃ s : State, ∃ k : Nat, ∃ writer : Nat, ∃ v : Word32, (s.agentReach (k / 256) writer = true)
      ∧ ((s.agentBox k).enable = true) ∧ (writer = (s.agentBox k).senderA ∨ writer = (s.agentBox k).senderB)
      ∧ (isThreadId (s.agentBox k).receiver = false)
      ∧ let turn := (s.agentBox k).senderA != (s.agentBox k).senderB && !(s.agentBox k).nextIsB; ((s.agentBox k).queue.length < 16))
    ∧ (∃ s : State, ∃ k : Nat, ∃ writer : Nat, ∃ v : Word32, (s.agentReach (k / 256) writer = true)
      ∧ ((s.agentBox k).enable = true) ∧ (writer = (s.agentBox k).senderA ∨ writer = (s.agentBox k).senderB)
      ∧ (isThreadId (s.agentBox k).receiver = false)
      ∧ let turn := (s.agentBox k).senderA != (s.agentBox k).senderB && !(s.agentBox k).nextIsB; ((s.agentBox k).queue.length = 16))
    ∧ (∃ s : State, ∃ k : Nat, ∃ writer : Nat, ∃ v : Word32, (s.agentReach (k / 256) writer = true)
      ∧ ((s.agentBox k).enable = true) ∧ (writer = (s.agentBox k).senderA ∨ writer = (s.agentBox k).senderB)
      ∧ (isThreadId (s.agentBox k).receiver = true) ∧ ((s.agentBox k).queue.length < 16))
    ∧ (∃ s : State, ∃ k : Nat, ∃ writer : Nat, ∃ v : Word32, (s.agentReach (k / 256) writer = true)
      ∧ ((s.agentBox k).enable = false ∨ (writer ≠ (s.agentBox k).senderA ∧ writer ≠ (s.agentBox k).senderB)))
    ∧ (∃ s : State, ∃ k : Nat, ∃ w : MbxWord, ∃ rest : List MbxWord, ((s.agentBox k).queue = w :: rest)
      ∧ ((s.agentBox k).held = []) ∧ (s.agentReach (k / 256) (s.agentBox k).receiver = true))
    ∧ (∃ s : State, ∃ k : Nat, ∃ reader : Nat, (reader ≠ (s.agentBox k).receiver))
    ∧ (∃ s : State, ∃ k : Nat, ∃ reader : Nat, ((s.agentBox k).queue = []))
    ∧ (∃ s : State, ∃ fn : Nat, ∃ w : MbxWord, ∃ rest : List MbxWord, (fn < agentBoxBase) ∧ (s.memReach fn = true)
      ∧ ((s.fnBox fn).outbound = w :: rest) ∧ ((s.fnBox fn).held = []))
    ∧ (∃ s : State, ∃ fn : Nat, ∃ reader : Nat, (fn < agentBoxBase) ∧ ((s.fnBox fn).outbound = [] ∨ reader ≠ fn))
    ∧ (∃ s : State, ∃ fn : Nat, ∃ v : Word32, (fn < agentBoxBase) ∧ (s.memReach fn = true)
      ∧ ((s.dieHealth (mDie fn)).pairRestarting = false)
      ∧ let stored := s.sendFunction fn { word := v, stamp := fn, last := true, collided := false }; True)
    ∧ (∃ s : State, ∃ fn : Nat, ∃ v : Word32, (fn < agentBoxBase) ∧ (s.memReach fn = true)
      ∧ ((s.dieHealth (mDie fn)).pairRestarting = true) ∧ ((s.fnBox fn).inbound.length < 16))
    ∧ (∃ s : State, ∃ k : Nat, ∃ writer : Nat, ∃ v : Word32, (s.agentReach (k / 256) writer = true)
      ∧ ((s.agentBox k).enable = true) ∧ (writer = (s.agentBox k).senderA ∨ writer = (s.agentBox k).senderB)
      ∧ (isThreadId (s.agentBox k).receiver = false) ∧ ((s.agentBox k).receiver ≠ fwId (k / 256))
      ∧ ((s.agentBox k).queue.length < 16)) :=
  ⟨⟨up, pf0 0, 7, by decide +kernel⟩,
    ⟨{ up with fnMbx := [(pf0 0, { FnMailbox.reset with inbound := List.replicate 16 { word := 5, stamp := pf0 0, last := false, collided := false } })] },
      pf0 0, 7, by decide +kernel⟩,
    ⟨s31, 3, pf0 0, 7, by decide +kernel⟩,
    ⟨{ up with agentMbx := [(3, { AgentMailbox.reset with enable := true, receiver := pf0 0, senderA := threadId 0, senderB := pf0 0, queue := List.replicate 16 v01 })] },
      3, pf0 0, 7, by decide +kernel⟩,
    ⟨s32, 3, pf0 0, 7, by decide +kernel⟩,
    ⟨s31, 3, threadId 5, 7, by decide +kernel⟩,
    ⟨s48, 3, v01, [], by decide +kernel⟩,
    ⟨s48, 3, threadId 0, by decide +kernel⟩,
    ⟨s32, 3, threadId 0, by decide +kernel⟩,
    ⟨{ up with fnMbx := [(pf0 0, { FnMailbox.reset with outbound := [v01, v01] })] }, pf0 0, v01, [v01], by decide +kernel⟩,
    ⟨up, pf0 0, pf0 0, by decide +kernel⟩,
    ⟨up, pf0 0, 7, by decide +kernel⟩,
    ⟨s12, pf0 0, 7, by decide +kernel⟩,
    ⟨s31, 3, pf0 0, 7, by decide +kernel⟩⟩

theorem witness_CommandQueue :
    (∃ s : State, ∃ link : Nat, ∃ tail : Nat, (s.memReach (pf0 link) = true)
      ∧ (idxCount (tail % 65536) (s.cmdq link).reqHead ≤ (s.cmdq link).slots))
    ∧ (∃ s : State, ∃ link : Nat, ∃ tail : Nat, (s.memReach (pf0 link) = true) ∧ ((s.cmdq link).enable = true)
      ∧ ((s.cmdq link).fetching = false) ∧ (s.canIssue (pf0 link) = true) ∧ ((s.cmdq link).stalled = false)
      ∧ (tail % 65536 ≠ (s.cmdq link).reqHead) ∧ (idxCount (tail % 65536) (s.cmdq link).reqHead ≤ (s.cmdq link).slots)
      ∧ (s.tags = [])
      ∧ (s.ideBlocks (pf0 link) ((s.cmdq link).slotAddr (s.cmdq link).reqBase (s.cmdq link).reqHead) = false))
    ∧ (∃ s : State, ∃ link : Nat, ∃ tail : Nat, (s.memReach (pf0 link) = true)
      ∧ ((s.cmdq link).slots < idxCount (tail % 65536) (s.cmdq link).reqHead))
    ∧ (∃ s : State, ∃ link : Nat, ∃ head : Nat, (s.memReach (pf0 link) = true)
      ∧ (idxCount (s.cmdq link).rplTail (head % 65536) ≤ (s.cmdq link).slots))
    ∧ (∃ s : State, ∃ link : Nat, ∃ head : Nat, (s.memReach (pf0 link) = true)
      ∧ ((s.cmdq link).slots < idxCount (s.cmdq link).rplTail (head % 65536)))
    ∧ (∃ s : State, ∃ link : Nat, (s.memReach (pf0 link) = true) ∧ ((s.cmdq link).enable = false))
    ∧ (∃ s : State, ∃ link : Nat, (s.memReach (pf0 link) = true) ∧ ((s.cmdq link).enable = true))
    ∧ (∃ s : State, ∃ link : Nat, (s.memReach (pf0 link) = true))
    ∧ (∃ s : State, ∃ link : Nat, (s.live link = true) ∧ ((s.dieHealth link).pairRestarting = false)
      ∧ ((s.cmdq link).fetching = true) ∧ (s.canIssue (pf0 link) = true)
      ∧ ((s.readOf (pf0 link) (.command (s.cmdq link).reqHead)).isSome = true))
    ∧ (∃ s : State, ∃ link : Nat, ∃ i : Nat, ∃ irq : Bool, ∃ r : Reply, ∃ rest : List (Nat × Option Reply × Bool),
      (s.canIssue (pf0 link) = true) ∧ ((s.cmdq link).replyFull = false) ∧ ((s.cmdq link).replies = (i, some r,
      irq) :: rest)) :=
  ⟨⟨s02, 0, 65536 + 16, by decide +kernel⟩,
    ⟨s02, 0, 65536 + 16, by decide +kernel⟩,
    ⟨s02, 0, 17, by decide +kernel⟩,
    ⟨s18, 0, 0, by decide +kernel⟩,
    ⟨s18, 0, 60000, by decide +kernel⟩,
    ⟨{ up with cmdqs := [(0, { Cmdq.reset with  })] }, 0, by decide +kernel⟩,
    ⟨s02, 0, by decide +kernel⟩,
    ⟨s02, 0, by decide +kernel⟩,
    ⟨{ up with cmdqs := [(0, { Cmdq.reset with enable := true, reqTail := 2, fetching := true })], tags := [(tagKey 0 3, { fn := pf0 0, use := .command 0, remaining := 64, quarantined := false, timeoutUs := 50000, discard := false, op := 5 })] },
      0, by decide +kernel⟩,
    ⟨{ up with cmdqs := [(0, { Cmdq.reset with enable := true, replies := [(0, some { status := 0, flags := 0, result := [], sequence := 5, jsn := 0, token := 0, opcode := 1, txn := 0, tempo := 0 }, false)], rplHead := 0 })] },
      0, 0, false,
      { status := 0, flags := 0, result := [], sequence := 5, jsn := 0, token := 0, opcode := 1, txn := 0, tempo := 0 },
      [], by decide +kernel⟩⟩

theorem witness_AdminPackets :
    (∃ s : State, ∃ fn : Nat, ∃ q : NvmeQueue, ∃ b : List Byte, ((s.dieHealth (mDie fn)).pairRestarting = false)
      ∧ (s.nvmeHead fn 0 = some (q, b)) ∧ (sqeOpcode b = 0xC1) ∧ (s.readOf fn (.packet (sqeCid b)) = none))
    ∧ (∃ s : State, ∃ fn : Nat, ∃ q : NvmeQueue, ∃ b : List Byte, ∃ r : Nat × HostTag,
      ((s.dieHealth (mDie fn)).pairRestarting = false) ∧ (s.nvmeHead fn 0 = some (q, b)) ∧ (sqeOpcode b = 0xC1)
      ∧ (s.readOf fn (.packet (sqeCid b)) = some r)
      ∧ let u := s.retireRead fn (.packet (sqeCid b)); (u.adminRuns fn q b) ∧ (sqeDw b 10 < 32 ∨ 4096 < sqeDw b 10))
    ∧ (∃ s : State, ∃ fn : Nat, ∃ q : NvmeQueue, ∃ b : List Byte, ∃ r : Nat × HostTag,
      ((s.dieHealth (mDie fn)).pairRestarting = false) ∧ (s.nvmeHead fn 0 = some (q, b)) ∧ (sqeOpcode b = 0xC1)
      ∧ (s.readOf fn (.packet (sqeCid b)) = some r)
      ∧ let u := s.retireRead fn (.packet (sqeCid b)); (u.adminRuns fn q b) ∧ ∃ l, (32 ≤ sqeDw b 10) ∧ (sqeDw b 10 ≤ 4096) ∧ ((u.nvmeTake fn 0 q).hostRanges fn b (sqeDw b 10) = .ok l) ∧ ((u.nvmeTake fn 0 q).fragsBlocked fn l = false) ∧ let p := packetOf (.admin fn (sqeCid b)) fn (mDie fn) ((u.nvmeTake fn 0 q).readFrags fn l); True)
    ∧ (∃ s : State, ∃ fn : Nat, ∃ q : NvmeQueue, ∃ b : List Byte, (s.adminRuns fn q b) ∧ (sqeOpcode b = 0xC2)
      ∧ let u := s.nvmeTake fn 0 q; ((u.nvme fn).replies.reverse.find? (fun e => e.1 == sqeDw b 10) = none))
    ∧ (∃ s : State, ∃ fn : Nat, ∃ q : NvmeQueue, ∃ b : List Byte, (s.adminRuns fn q b) ∧ (sqeOpcode b = 0xC2)
      ∧ let u := s.nvmeTake fn 0 q; ∃ bs, ∃ l, ((u.nvme fn).replies.reverse.find? (fun e => e.1 == sqeDw b 10) = some (sqeDw b 10, bs)) ∧ (u.hostRanges fn b (sqeDw b 11) = .ok l) ∧ (u.fragsBlocked fn l = false)) :=
  ⟨⟨(State.writeBytes ({ up with storages := [(0, { Storage.reset with namespaces := [(0, v45)], targets := [(7, v33)], cmds := [] })], nvmes := [(2048, { Nvme.reset with cc := 1, csts := 1, sqs := [(0, v27)], cqs := [(0, ({ base := 65536, size := 4, head := 0, tail := 0, peer := 0, intEnable := true, phase := true, held := [], retried := false } : NvmeQueue))] })] } : State) (.host 0) 65536 v31),
      fnId 0 1 0, v27, v31, by decide +kernel⟩,
    ⟨(State.writeBytes ({ up with storages := [(0, { Storage.reset with namespaces := [(0, v45)], targets := [(7, v33)], cmds := [] })], nvmes := [(2048, { Nvme.reset with cc := 1, csts := 1, sqs := [(0, v27)], cqs := [(0, ({ base := 65536, size := 4, head := 0, tail := 0, peer := 0, intEnable := true, phase := true, held := [], retried := false } : NvmeQueue))] })], tags := [v25] } : State) (.host 0) 65536 (by8 [193,0] ++ toLe 2 6 ++ toLe 4 1 ++ toLe 16 0 ++ toLe 8 131072 ++ toLe 8 0 ++ toLe 4 16 ++ toLe 4 0 ++ toLe 4 0 ++ toLe 4 0 ++ toLe 4 0 ++ toLe 4 0)),
      fnId 0 1 0, v27,
      by8 [193,0] ++ toLe 2 6 ++ toLe 4 1 ++ toLe 16 0 ++ toLe 8 131072 ++ toLe 8 0 ++ toLe 4 16 ++ toLe 4 0 ++ toLe 4 0 ++ toLe 4 0 ++ toLe 4 0 ++ toLe 4 0,
      v25, by decide +kernel⟩,
    ⟨(State.writeBytes ({ up with storages := [(0, { Storage.reset with namespaces := [(0, v45)], targets := [(7, v33)], cmds := [] })], nvmes := [(2048, { Nvme.reset with cc := 1, csts := 1, sqs := [(0, v27)], cqs := [(0, ({ base := 65536, size := 4, head := 0, tail := 0, peer := 0, intEnable := true, phase := true, held := [], retried := false } : NvmeQueue))] })], tags := [v25] } : State) (.host 0) 65536 v31),
      fnId 0 1 0, v27, v31, v25, by decide +kernel, by decide +kernel, by decide +kernel, by decide +kernel,
      by decide +kernel, [(131072, 32)], by decide +kernel⟩,
    ⟨(State.writeBytes ({ up with storages := [(0, { Storage.reset with namespaces := [(0, v45)], targets := [(7, v33)], cmds := [] })], nvmes := [(2048, { Nvme.reset with cc := 1, csts := 1, sqs := [(0, v27)], cqs := [(0, ({ base := 65536, size := 4, head := 0, tail := 0, peer := 0, intEnable := true, phase := true, held := [], retried := false } : NvmeQueue))] })] } : State) (.host 0) 65536 v32),
      fnId 0 1 0, v27, v32, by decide +kernel⟩,
    ⟨(State.writeBytes ({ up with storages := [(0, { Storage.reset with namespaces := [(0, v45)], targets := [(7, v33)], cmds := [] })], nvmes := [(2048, { Nvme.reset with cc := 1, csts := 1, sqs := [(0, v27)], cqs := [(0, ({ base := 65536, size := 4, head := 0, tail := 0, peer := 0, intEnable := true, phase := true, held := [], retried := false } : NvmeQueue))], replies := [(6, by8 [1, 2, 3])] })] } : State) (.host 0) 65536 v32),
      fnId 0 1 0, v27, v32, by decide +kernel, by decide +kernel, by8 [1, 2, 3], [(131072, 32)], by decide +kernel⟩⟩

theorem witness_JournalCommands :
    (∃ s : State, ∃ p : Packet, (s.takes (p.of 0x0001)) ∧ (p.paramLen = 0))
    ∧ (∃ s : State, ∃ p : Packet, (s.takes (p.of 0x0002)) ∧ (p.paramLen = 24) ∧ (leAt p.params 8 2 = 1)
      ∧ (leAt p.params 0x0A 2 = 0) ∧ (leAt p.params 0x0C 4 = 0) ∧ (leAt p.params 0x10 8 = 0) ∧ (mClass p.sender = 4)
      ∧ ∃ e : JEntry, ∃ rest : List JEntry,
      (s.journal.entries.filter (fun x => decide (max (leAt p.params 0 8) s.journal.first ≤ x.jsn)) = e :: rest))
    ∧ (∃ s : State, ∃ p : Packet, (s.takesRecorded (p.of 0x0005)) ∧ (p.paramLen = 8))
    ∧ (∃ s : State, ∃ p : Packet, (s.takesRecorded (p.of 0x0003)) ∧ (p.paramLen = 16) ∧ (leAt p.params 1 1 < 2)
      ∧ (leAt p.params 2 6 = 0) ∧ (leAt p.params 0 1 = mDie p.sender) ∧ (leAt p.params 8 8 ≠ 0)
      ∧ (leAt p.params 8 8 % 4096 = 0) ∧ (s.dieStatus (mDie p.sender) = none))
    ∧ (∃ s : State, ∃ p : Packet, (s.takesRecorded (p.of 0x0004)) ∧ (p.paramLen = 0) ∧ (s.journal.mirror ≠ .off)
      ∧ (p.sender = pf0 s.journal.mirrorDie)) :=
  ⟨⟨up, pk 1 [], by decide +kernel⟩,
    ⟨{ up with journal := { Journal.reset with entries := [{ jsn := 1, token := 0, master := 0, status := 0, opcode := 5, txn := 0, tempo := 0, bootId := 0, time := 0, digest := 0, resultWord := 0 }], next := 2 } },
      { pk 2 (toLe 8 1 ++ toLe 2 1 ++ List.replicate 14 0) with sender := masterId 4 0 0, route := .chain 3 },
      by decide +kernel, by decide +kernel, by decide +kernel, by decide +kernel, by decide +kernel, by decide +kernel,
      by decide +kernel,
      { jsn := 1, token := 0, master := 0, status := 0, opcode := 5, txn := 0, tempo := 0, bootId := 0, time := 0, digest := 0, resultWord := 0 },
      [], by decide +kernel⟩,
    ⟨up, pk 5 (toLe 8 77), by decide +kernel⟩,
    ⟨up, pk 3 (toLe 8 0 ++ toLe 8 0x10000), by decide +kernel⟩,
    ⟨{ up with journal := { Journal.reset with mirror := .active } }, pk 4 [], by decide +kernel⟩⟩

theorem witness_JournalMirror :
    (∃ s : State, ∃ k : Nat, ∃ n : Nat, (s.journal.mirror = .active) ∧ (s.mirrorReading = some (k, n))
      ∧ (s.journal.unconfirmed ≠ []))
    ∧ (∃ s : State, ∃ good : Bool, (s.mirrorReading = none))
    ∧ (∃ s : State, ∃ k : Nat, ∃ n : Nat, (s.journal.mirror = .active) ∧ (s.mirrorReading = some (k, n))
      ∧ (s.journal.unconfirmed ≠ []))
    ∧ (∃ s : State, (s.journal.mirror = .suspended) ∧ (s.journal.confirmFailed = true) ∧ (s.mirrorCan = true))
    ∧ (∃ s : State, (s.journal.mirror = .suspended) ∧ (s.journal.confirmFailed = false) ∧ (s.mirrorCan = true)) :=
  ⟨⟨s55, tagKey 0 3, 7, by decide +kernel⟩,
    ⟨{ up with journal := { Journal.reset with mirror := .active, mirrorSync := true, unconfirmed := [7, 9] } }, true,
      by decide +kernel⟩,
    ⟨s55, tagKey 0 3, 7, by decide +kernel⟩,
    ⟨{ up with journal := { Journal.reset with mirror := .suspended, mirrorSync := true, unconfirmed := [], confirmFailed := true } },
      by decide +kernel⟩,
    ⟨{ up with journal := { Journal.reset with mirror := .suspended, mirrorSync := true, confirmFailed := false } },
      by decide +kernel⟩⟩

theorem witness_Proposals :
    (∃ s : State, ∃ p : Packet, ∃ good : SigResult, (s.takesRecorded (p.of 0x0C01)) ∧ (8 ≤ p.params.length)
      ∧ (leAt p.params 3 1 = 0) ∧ (leAt p.params 4 4 = (p.params.drop 8).length)
      ∧ (s.boot.fuses.lifecycle ≠ .manufacture)
      ∧ (s.proposeRefused (p.of 0x0C01) (leAt p.params 0 2) (leAt p.params 2 1) = none)
      ∧ (s.checkChange (leAt p.params 0 2) (leAt p.params 2 1) (p.params.drop 8) = none) ∧ (s.protect.live < 16)
      ∧ let n := s.protect.nextProposal; let nonce := (s.draw 128).1; let digest := le (sha256 p.params); let q : Proposal := { kind := leAt p.params 0 2, scope := leAt p.params 2 1, params := p.params, nonce := nonce, digest := digest, state := if mClass p.sender = 4 then .proposed else .pending, byAuthority := decide (mClass p.sender = 4), deadline := s.leadTick + 60 * ticksPerSec, sourceDie := s.roles.lead, objCount := Tbl.look 0 s.protect.counts (objectOf (leAt p.params 0 2) (leAt p.params 2 1) (p.params.drop 8)), fails := 0 }; True)
    ∧ (∃ s : State, ∃ p : Packet, ∃ good : SigResult, ∃ q : Proposal, (s.takesRecorded (p.of 0x0C02)) ∧ (mClass p.sender = 4)
      ∧ (Tbl.find s.protect.proposals (leAt p.params 8 4) = some q) ∧ (q.state = .proposed) ∧ (s.leadTick < q.deadline)
      ∧ (s.statementValid p.params good = true) ∧ (leAt p.params 4 1 = 1))
    ∧ (∃ s : State, ∃ p : Packet, ∃ q : Proposal, (s.takes (p.of 0x0C03))
      ∧ (Tbl.find s.protect.proposals (leAt p.params 0 4) = some q) ∧ (q.state = .committed) ∧ (q.kind = 2))
    ∧ (∃ s : State, ∃ p : Packet, ∃ good : SigResult, ∃ q : Proposal, (s.takesRecorded (p.of 0x0C04)) ∧ (mClass p.sender ≠ 4)
      ∧ (Tbl.find s.protect.proposals (leAt p.params 0 4) = some q) ∧ (q.state = .pending) ∧ (s.leadTick < q.deadline)
      ∧ (p.params.length = 24) ∧ (leAt p.params 4 4 = 0) ∧ (p.sender = s.hostParty q.kind q.scope)
      ∧ (leAt p.params 8 16 = q.nonce))
    ∧ (∃ s : State, ∃ n : Nat, ∃ q : Proposal, (Tbl.find s.protect.proposals n = some q)
      ∧ (q.state = .proposed ∨ q.state = .pending) ∧ (q.deadline ≤ s.leadTick))
    ∧ (∃ s : State, ∃ n : Nat, ∃ q : Proposal, (Tbl.find s.protect.proposals n = some q)
      ∧ (q.state = .committed ∨ s.leadTick < q.deadline))
    ∧ (∃ s : State, ∃ n : Nat, (s.protect.debugUntil = some n) ∧ (n ≤ s.leadTick))
    ∧ (∃ s : State, ∃ n : Nat, (s.protect.debugUntil = some n) ∧ (s.leadTick < n)) :=
  ⟨⟨up, pk 0x0C01 (toLe 2 8 ++ toLe 1 0xFF ++ toLe 1 0 ++ toLe 4 4 ++ toLe 4 3600), v02, by decide +kernel⟩,
    ⟨{ up with protect := { Protect.reset with proposals := [(3, { kind := 8, scope := 255, params := (toLe 2 8 ++ toLe 1 0xFF ++ toLe 1 0 ++ toLe 4 4 ++ toLe 4 3600), nonce := 11, digest := 12, state := .proposed, byAuthority := true, deadline := 10 ^ 12, sourceDie := 0, objCount := 0, fails := 0 })], nextProposal := 4 } },
      { pk 0x0C02 (toLe 4 0x53544131 ++ toLe 1 1 ++ toLe 1 0 ++ toLe 2 0 ++ toLe 4 3 ++ toLe 4 0 ++ toLe 16 11 ++ toLe 32 12 ++ sha256 [] ++ List.replicate 384 0) with sender := masterId 4 0 0, route := .chain 3 },
      v02,
      { kind := 8, scope := 255, params := (toLe 2 8 ++ toLe 1 0xFF ++ toLe 1 0 ++ toLe 4 4 ++ toLe 4 3600), nonce := 11, digest := 12, state := .proposed, byAuthority := true, deadline := 10 ^ 12, sourceDie := 0, objCount := 0, fails := 0 },
      by decide +kernel⟩,
    ⟨{ up with protect := { Protect.reset with proposals := [(3, { kind := 2, scope := 0, params := (toLe 2 2 ++ toLe 1 0 ++ toLe 1 0 ++ toLe 4 20 ++ (toLe 4 3 ++ List.replicate 12 0 ++ toLe 4 1)), nonce := 11, digest := 12, state := .committed, byAuthority := true, deadline := 10 ^ 12, sourceDie := 0, objCount := 0, fails := 0 })], nextProposal := 4 } },
      pk 0x0C03 (toLe 4 3),
      { kind := 2, scope := 0, params := (toLe 2 2 ++ toLe 1 0 ++ toLe 1 0 ++ toLe 4 20 ++ (toLe 4 3 ++ List.replicate 12 0 ++ toLe 4 1)), nonce := 11, digest := 12, state := .committed, byAuthority := true, deadline := 10 ^ 12, sourceDie := 0, objCount := 0, fails := 0 },
      by decide +kernel⟩,
    ⟨s63, pk 0x0C04 (toLe 4 3 ++ toLe 4 0 ++ toLe 16 11), v02, v46, by decide +kernel⟩,
    ⟨{ up with protect := { Protect.reset with proposals := v49 } }, 3, v48, by decide +kernel⟩,
    ⟨{ up with protect := { Protect.reset with proposals := [(3, { kind := 8, scope := 255, params := (toLe 2 8 ++ toLe 1 0xFF ++ toLe 1 0 ++ toLe 4 4 ++ toLe 4 3600), nonce := 11, digest := 12, state := .committed, byAuthority := true, deadline := 10 ^ 12, sourceDie := 0, objCount := 0, fails := 0 })], nextProposal := 4 } },
      3,
      { kind := 8, scope := 255, params := (toLe 2 8 ++ toLe 1 0xFF ++ toLe 1 0 ++ toLe 4 4 ++ toLe 4 3600), nonce := 11, digest := 12, state := .committed, byAuthority := true, deadline := 10 ^ 12, sourceDie := 0, objCount := 0, fails := 0 },
      by decide +kernel⟩,
    ⟨{ up with protect := { Protect.reset with debugUntil := some 0 } }, 0, by decide +kernel⟩,
    ⟨{ up with protect := { Protect.reset with debugUntil := some 3 } }, 3, by decide +kernel⟩⟩

theorem witness_Endorsement :
    (∃ s : State, ∃ p : Packet, ∃ good : SigResult, ∃ q : Proposal, ∃ n : Nat, (s.takesRecorded (p.of 0x0C02))
      ∧ (mClass p.sender ≠ 4) ∧ (n = leAt p.params 0 4) ∧ (Tbl.find s.protect.proposals n = some q)
      ∧ (q.state = .pending) ∧ (s.leadTick < q.deadline) ∧ (p.params.length = 56) ∧ (leAt p.params 4 4 = 0)
      ∧ (p.sender = s.hostParty q.kind q.scope) ∧ (q.byAuthority = true) ∧ (leAt p.params 8 16 = q.nonce)
      ∧ (leAt p.params 24 32 = q.digest) ∧ (q.kind = 8) ∧ (checkUnlock (q.params.drop 8) = none)
      ∧ (Tbl.look 0 s.protect.counts (objectOf 8 q.scope (q.params.drop 8)) = q.objCount))
    ∧ (∃ s : State, ∃ p : Packet, ∃ good : SigResult, ∃ q : Proposal, ∃ n : Nat, (s.takesRecorded (p.of 0x0C02))
      ∧ (mClass p.sender ≠ 4) ∧ (n = leAt p.params 0 4) ∧ (Tbl.find s.protect.proposals n = some q)
      ∧ (q.state = .pending) ∧ (s.leadTick < q.deadline) ∧ (p.params.length = 56) ∧ (leAt p.params 4 4 = 0)
      ∧ (p.sender = s.hostParty q.kind q.scope) ∧ (q.byAuthority = true) ∧ (leAt p.params 8 16 = q.nonce)
      ∧ (leAt p.params 24 32 = q.digest) ∧ (q.kind = 2) ∧ (checkMbxBind (q.params.drop 8) = none)
      ∧ (Tbl.look 0 s.protect.counts (objectOf 2 q.scope (q.params.drop 8)) = q.objCount))
    ∧ (∃ s : State, ∃ p : Packet, ∃ good : SigResult, ∃ q : Proposal, ∃ n : Nat, (s.takesRecorded (p.of 0x0C02))
      ∧ (mClass p.sender ≠ 4) ∧ (n = leAt p.params 0 4) ∧ (Tbl.find s.protect.proposals n = some q)
      ∧ (q.state = .pending) ∧ (s.leadTick < q.deadline) ∧ (p.params.length = 56) ∧ (leAt p.params 4 4 = 0)
      ∧ (p.sender = s.hostParty q.kind q.scope) ∧ (q.byAuthority = true) ∧ (leAt p.params 8 16 ≠ q.nonce))
    ∧ (∃ s : State, ∃ n : Nat, ∃ q : Proposal, (Tbl.find s.protect.proposals n = some q) ∧ (q.state = .pending) ∧ (q.fails = 3))
    ∧ (∃ t : Tbl Proposal, ∃ n : Nat, ∃ q : Proposal, (t.length ≤ 256) ∧ (Tbl.find t n = some q))
    ∧ (∃ t : Tbl Proposal, ∃ n : Nat, ∃ q : Proposal,
      ((t.map (fun e => e.1)).Nodup) ∧ (Tbl.find t n = some q) ∧ (q.state = .proposed ∨ q.state = .pending))
    ∧ (∃ s : State, ∃ p : Packet, ∃ n : Nat, ∃ q : Proposal, ∃ good : SigResult,
      (Tbl.look 0 s.protect.counts (objectOf q.kind q.scope (q.params.drop 8)) ≠ q.objCount)) :=
  ⟨⟨s63, p03, v02, v46, 3, by decide +kernel⟩,
    ⟨{ up with protect := { Protect.reset with proposals := [(3, { kind := 2, scope := 0, params := (toLe 2 2 ++ toLe 1 0 ++ toLe 1 0 ++ toLe 4 20 ++ (toLe 4 3 ++ List.replicate 12 0 ++ toLe 4 1)), nonce := 11, digest := 12, state := .pending, byAuthority := true, deadline := 10 ^ 12, sourceDie := 0, objCount := 0, fails := 0 })], nextProposal := 4 } },
      p03, v02,
      { kind := 2, scope := 0, params := (toLe 2 2 ++ toLe 1 0 ++ toLe 1 0 ++ toLe 4 20 ++ (toLe 4 3 ++ List.replicate 12 0 ++ toLe 4 1)), nonce := 11, digest := 12, state := .pending, byAuthority := true, deadline := 10 ^ 12, sourceDie := 0, objCount := 0, fails := 0 },
      3, by decide +kernel⟩,
    ⟨s63, pk 0x0C02 (toLe 4 3 ++ toLe 4 0 ++ toLe 16 10 ++ toLe 32 12), v02, v46, 3, by decide +kernel⟩,
    ⟨{ up with protect := { Protect.reset with proposals := [(3, { kind := 8, scope := 255, params := (toLe 2 8 ++ toLe 1 0xFF ++ toLe 1 0 ++ toLe 4 4 ++ toLe 4 3600), nonce := 11, digest := 12, state := .pending, byAuthority := true, deadline := 10 ^ 12, sourceDie := 0, objCount := 0, fails := 3 })], nextProposal := 4 } },
      3,
      { kind := 8, scope := 255, params := (toLe 2 8 ++ toLe 1 0xFF ++ toLe 1 0 ++ toLe 4 4 ++ toLe 4 3600), nonce := 11, digest := 12, state := .pending, byAuthority := true, deadline := 10 ^ 12, sourceDie := 0, objCount := 0, fails := 3 },
      by decide +kernel⟩,
    ⟨v49, 3, v48, by decide +kernel⟩,
    ⟨v49, 3, v48, by decide +kernel⟩,
    ⟨{ up with protect := { Protect.reset with proposals := [(3, { kind := 8, scope := 255, params := (toLe 2 8 ++ toLe 1 0xFF ++ toLe 1 0 ++ toLe 4 4 ++ toLe 4 3600), nonce := 11, digest := 12, state := .pending, byAuthority := true, deadline := 10 ^ 12, sourceDie := 0, objCount := 1, fails := 0 })], nextProposal := 4 } },
      p03, 3,
      { kind := 8, scope := 255, params := (toLe 2 8 ++ toLe 1 0xFF ++ toLe 1 0 ++ toLe 4 4 ++ toLe 4 3600), nonce := 11, digest := 12, state := .pending, byAuthority := true, deadline := 10 ^ 12, sourceDie := 0, objCount := 1, fails := 0 },
      v02, by decide +kernel⟩⟩

theorem witness_PortCommands :
    (∃ s : State, ∃ p : Packet, (s.takesRecorded (p.of 0x0301)) ∧ (p.paramLen = 8)
      ∧ (s.dieStatus (leAt p.params 0 1) = none) ∧ (leAt p.params 1 1 ≤ 1) ∧ (1 ≤ leAt p.params 2 1)
      ∧ (leAt p.params 2 1 ≤ 4) ∧ ((leAt p.params 2 1 = 1 → leAt p.params 1 1 = 0)) ∧ (leAt p.params 3 1 = 0) ∧ ((∀ i,
      i < 4 → leAt p.params (4 + i) 1 = 0)) ∧ ((s.portBlock (leAt p.params 0 1)).layout0 ≠ 1))
    ∧ (∃ s : State, ∃ die : Nat, ((∀ i, i < 8 → (s.port (8 * die + i)).present = false)) ∧ (die < 8)
      ∧ let t := s.applyLayout die 0 1 [0, 0, 0, 0]; True)
    ∧ (∃ s : State, ∃ die : Nat, ((∀ i, i < 8 → (s.port (8 * die + i)).present = false)) ∧ (die < 8)
      ∧ let t := s.applyLayout die 0 1 [0, 0, 0, 0]; True)
    ∧ (∃ s : State, ∃ die : Nat, ((∀ i, i < 8 → (s.port (8 * die + i)).present = false)) ∧ (die < 8)
      ∧ let t := s.applyLayout die 0 1 [0, 0, 0, 0]; True)
    ∧ (∃ s : State, ∃ die : Nat, ((∀ i, i < 8 → (s.port (8 * die + i)).present = false)) ∧ (die < 8)
      ∧ let t := s.applyLayout die 0 1 [0, 0, 0, 0]; True)
    ∧ (∃ s : State, ∃ die : Nat, ((∀ i, i < 8 → (s.port (8 * die + i)).present = false)) ∧ (die < 8)
      ∧ let t := s.applyLayout die 0 1 [0, 0, 0, 0]; ∃ i, (1 ≤ i) ∧ (i < 8))
    ∧ (∃ s : State, ∃ die : Nat, ((∀ i, i < 8 → (s.port (8 * die + i)).present = false)) ∧ (die < 8)
      ∧ let t := s.applyLayout die 0 1 [0, 0, 0, 0]; True)
    ∧ (∃ s : State, ∃ p : Packet, (s.takes (p.of 0x0302)) ∧ (p.paramLen = 4) ∧ (leAt p.params 1 3 = 0)
      ∧ (s.portStatusOf (leAt p.params 0 1) = none) ∧ let q := s.port (leAt p.params 0 1); True)
    ∧ (∃ s : State, ∃ p : Packet, (s.takesRecorded (p.of 0x8301)) ∧ (p.paramLen = 24) ∧ (leAt p.params 1 1 = 2)
      ∧ (leAt p.params 0x0B 1 = 0) ∧ (s.portStatusOf (leAt p.params 0 1) = none) ∧ (1518 ≤ leAt p.params 8 2)
      ∧ (leAt p.params 8 2 ≤ 9216) ∧ (leAt p.params 0x0A 1 = 1) ∧ ((s.port (leAt p.params 0 1)).phase = .up))
    ∧ (∃ s : State, ∃ p : Packet, (s.takesRecorded (p.of 0x8301)) ∧ (p.paramLen = 24) ∧ (leAt p.params 1 1 = 1)
      ∧ (leAt p.params 0x0B 1 = 0) ∧ (s.portStatusOf (leAt p.params 0 1) = none)
      ∧ ((s.port (leAt p.params 0 1)).phyGood p.params = true) ∧ (leAt p.params 5 1 = 0)
      ∧ let port := leAt p.params 0 1; True)
    ∧ (∃ s : State, ∃ p : Packet, (s.takesRecorded (p.of 0x8302)) ∧ (p.paramLen = 12) ∧ (leAt p.params 1 1 = 7)
      ∧ (leAt p.params 2 1 < 64) ∧ (leAt p.params 3 1 = 1) ∧ (leAt p.params 4 8 < 2 ^ 49)
      ∧ (s.portStatusOf (leAt p.params 0 1) = none) ∧ ((s.port (leAt p.params 0 1)).phase = .up)) :=
  ⟨⟨up, pk 0x0301 (by8 [0,0,1,0,0,0,0,0]), by decide +kernel⟩,
    ⟨up, 7, by decide +kernel⟩,
    ⟨up, 7, by decide +kernel⟩,
    ⟨up, 7, by decide +kernel⟩,
    ⟨up, 7, by decide +kernel⟩,
    ⟨up, 7, by decide +kernel, by decide +kernel, 1, by decide +kernel⟩,
    ⟨up, 7, by decide +kernel⟩,
    ⟨s19, pk 0x0302 (toLe 4 0), by decide +kernel⟩,
    ⟨s19, pk 0x8301 (by8 [0,2,0,0,0,0,0,0] ++ toLe 2 9216 ++ by8 [1,0] ++ List.replicate 12 0), by decide +kernel⟩,
    ⟨s19, pk 0x8301 (by8 [0,1,0,0,0,0,0,2] ++ List.replicate 16 0), by decide +kernel⟩,
    ⟨s19, pk 0x8302 (by8 [0,7,63,1] ++ toLe 8 (2 ^ 49 - 1)), by decide +kernel⟩⟩

theorem witness_PortLink :
    (∃ s : State, ∃ port : Nat, ∃ speed : Nat, ∃ fec : Nat, (s.live (port / 8) = true) ∧ ((s.port port).present = true)
      ∧ ((s.port port).phase = .negotiating) ∧ ((s.port port).speedFits speed = true))
    ∧ (∃ s : State, ∃ port : Nat, (s.live (port / 8) = true) ∧ ((s.port port).present = true)
      ∧ ((s.port port).phase = .training) ∧ ((s.port port).anForced = false))
    ∧ (∃ s : State, ∃ port : Nat, (s.live (port / 8) = true) ∧ ((s.port port).present = true)
      ∧ ((s.port port).phase = .training) ∧ ((s.port port).retireLane = none) ∧ (s.synce.outEnable = false))
    ∧ (∃ s : State, ∃ port : Nat, ∃ l : Nat, (s.live (port / 8) = true) ∧ ((s.port port).present = true)
      ∧ ((s.port port).phase = .training) ∧ ((s.port port).retireLane = some l) ∧ (s.synce.outEnable = false)
      ∧ ((s.portBlock (port / 8)).spareInUse = false))
    ∧ (∃ s : State, ∃ port : Nat, ∃ l : Nat, (s.live (port / 8) = true) ∧ ((s.port port).present = true)
      ∧ ((s.port port).phase = .training) ∧ ((s.port port).retireLane = some l) ∧ (s.synce.outEnable = false)
      ∧ ((s.portBlock (port / 8)).spareInUse = true) ∧ ((s.portBlock (port / 8)).spareFor = port)
      ∧ ((s.portBlock (port / 8)).replacedLane = port % 8 + l))
    ∧ (∃ s : State, ∃ port : Nat, (s.live (port / 8) = true) ∧ ((s.port port).present = true)
      ∧ ((s.port port).anForced = false) ∧ (s.synce.outEnable = false))
    ∧ (∃ s : State, ∃ die : Nat, ∃ lane : Nat, ∃ port : Nat, (s.live die = true) ∧ (lane < 8)
      ∧ (s.portOfLane die lane = some port) ∧ ((s.port port).phase = .up) ∧ ((s.port port).sparingAvailable = true)
      ∧ ((s.port port).anForced = false) ∧ ((s.portBlock (port / 8)).spareInUse = false))
    ∧ (∃ s : State, ∃ die : Nat, ∃ lane : Nat, ∃ port : Nat, (s.live die = true) ∧ (lane < 8)
      ∧ (s.portOfLane die lane = some port) ∧ ((s.port port).phase = .up)
      ∧ ((s.port port).sparingAvailable = false ∨ (s.port port).anForced = true))
    ∧ (∃ s : State, ∃ port : Nat, (s.live (port / 8) = true) ∧ ((s.port port).phase = .up)
      ∧ ((s.port port).verify = .verifying) ∧ ((s.port port).preempt.inEffect.enable = true)
      ∧ ((s.port port).preempt.inEffect.verifyDisable = false))
    ∧ (∃ s : State, ∃ port : Nat, (s.live (port / 8) = true) ∧ ((s.port port).phase = .up)
      ∧ ((s.port port).verify = .verifying) ∧ ((s.port port).preempt.inEffect.enable = true)
      ∧ ((s.port port).preempt.inEffect.verifyDisable = false) ∧ ((s.port port).verifyTries = 3))
    ∧ (∃ s : State, ∃ port : Nat, (s.live (port / 8) = true) ∧ ((s.port port).phase = .up)
      ∧ ((s.port port).verify = .verifying) ∧ ((s.port port).preempt.inEffect.enable = true)
      ∧ ((s.port port).preempt.inEffect.verifyDisable = false) ∧ ((s.port port).verifyTries < 3)) :=
  ⟨⟨{ up with ports := [(0, { Port.reset with present := true, lanes := 8, ceiling := 7, phase := .negotiating, speed := 7 })] },
      0, 7, 0, by decide +kernel⟩,
    ⟨s22, 0, by decide +kernel⟩,
    ⟨s22, 0, by decide +kernel⟩,
    ⟨{ up with ports := [(0, { Port.reset with present := true, lanes := 8, ceiling := 7, phase := .training, speed := 7, retireLane := some 3 })] },
      0, 3, by decide +kernel⟩,
    ⟨{ up with ports := [(0, { Port.reset with present := true, lanes := 8, ceiling := 7, phase := .training, speed := 7, retireLane := some 3 })], portBlocks := [(0, { PortBlock.reset with spareInUse := true, spareFor := 0, replacedLane := 3 })] },
      0, 3, by decide +kernel⟩,
    ⟨s19, 0, by decide +kernel⟩,
    ⟨{ up with ports := [(0, { Port.reset with present := true, lanes := 8, ceiling := 7, phase := .up, speed := 7, sparingAvailable := true })] },
      0, 7, 0, by decide +kernel⟩,
    ⟨s19, 0, 7, 0, by decide +kernel⟩,
    ⟨s46, 0, by decide +kernel⟩,
    ⟨{ up with ports := [(0, { Port.reset with present := true, lanes := 8, ceiling := 7, phase := .up, speed := 7, verify := .verifying, preempt := Staged.both { PreemptCfg.reset with enable := true }, verifyTries := 3 })] },
      0, by decide +kernel⟩,
    ⟨s46, 0, by decide +kernel⟩⟩

theorem witness_FrameReception :
    (∃ s : State, ∃ port : Nat, ∃ f : List Byte, (s.live (port / 8) = true) ∧ ((s.port port).present = true)
      ∧ ((s.port port).phase = .up) ∧ (f.length < 60))
    ∧ (∃ s : State, ∃ port : Nat, ∃ f : List Byte, (s.live (port / 8) = true) ∧ ((s.port port).present = true)
      ∧ ((s.port port).phase = .up) ∧ (60 ≤ f.length))
    ∧ (∃ s : State, ∃ port : Nat, ∃ f : List Byte, (s.live (port / 8) = true) ∧ ((s.port port).present = true)
      ∧ ((s.port port).phase = .up) ∧ (60 ≤ f.length) ∧ ((s.port port).rxSafe.cfg.inEffect.maxFrame < f.length + 4)
      ∧ (port ≠ 8 * s.boot.numberMask))
    ∧ (∃ s : State, ∃ t : State, ∃ port : Nat, ∃ f : List Byte, (s.live (port / 8) = true) ∧ ((s.port port).present = true)
      ∧ ((s.port port).phase = .up) ∧ (60 ≤ f.length) ∧ (f.length + 4 ≤ (s.port port).rxSafe.cfg.inEffect.maxFrame)
      ∧ (isPause f = false) ∧ (port ≠ 8 * s.boot.numberMask) ∧ ((s.port port).rxSafe.cfg.inEffect.filterMode = false)
      ∧ let u := s.modPort port Port.rxSafe; let r := u.countGood port f; ((r.port port).admitted < (r.port port).admitLimit) ∧ (r.findCells (port / 8) (ingOfPort port f) (cellsFor f.length) = (t, true)))
    ∧ (∃ s : State, ∃ port : Nat, ∃ f : List Byte, (s.live (port / 8) = true) ∧ ((s.port port).present = true)
      ∧ ((s.port port).phase = .up) ∧ (60 ≤ f.length) ∧ (f.length + 4 ≤ (s.port port).rxSafe.cfg.inEffect.maxFrame)
      ∧ (isPause f = false) ∧ (port ≠ 8 * s.boot.numberMask) ∧ ((s.port port).rxSafe.cfg.inEffect.filterMode = true)
      ∧ ((s.port port).rxSafe.rules.macMatch f = 127))
    ∧ (∃ s : State, ∃ port : Nat, ∃ n : Nat, ∃ f : List Byte, (s.live (port / 8) = true) ∧ ((s.port port).present = true)
      ∧ ((s.port port).phase = .up) ∧ ((s.port port).partialRx = none)
      ∧ let u := (s.modPort port (fun p => { p with partialRx := none })).modPort port Port.rxSafe; let q : PartialRx := { count := n % 4, next := 0, bytes := f, rules := (u.port port).rules, stamp := (u.ingressStamp port).1, tick := (u.ingressStamp port).2 }; True)
    ∧ (∃ s : State, ∃ port : Nat, ∃ n : Nat, ∃ k : Nat, ∃ f : List Byte, ∃ q : PartialRx, (s.live (port / 8) = true)
      ∧ ((s.port port).present = true) ∧ ((s.port port).phase = .up) ∧ ((s.port port).partialRx = some q)
      ∧ (q.count = n % 4) ∧ (q.next = k % 4)
      ∧ let q' : PartialRx := { q with next := (q.next + 1) % 4, bytes := q.bytes ++ f }; True)
    ∧ (∃ s : State, ∃ port : Nat, ∃ n : Nat, ∃ k : Nat, ∃ f : List Byte, ∃ q : PartialRx, (s.live (port / 8) = true)
      ∧ ((s.port port).present = true) ∧ ((s.port port).phase = .up) ∧ ((s.port port).partialRx = some q)
      ∧ (q.count ≠ n % 4 ∨ q.next ≠ k % 4))
    ∧ (∃ s : State, ∃ die : Nat, ∃ key : Nat, (s.cellsBalance die) ∧ (4 ≤ s.sharedFree die)) :=
  ⟨⟨s19, 0, List.replicate 59 (0 : Byte), by decide +kernel⟩,
    ⟨s19, 0, List.replicate 60 (0 : Byte), by decide +kernel⟩,
    ⟨{ up with ports := [(1, { Port.reset with present := true, lanes := 8, ceiling := 7, phase := .up, speed := 7, cfg := Staged.both { PortCfg.reset with maxFrame := 63, filterMode := false } })] },
      1, List.replicate 60 (0 : Byte), by decide +kernel⟩,
    ⟨{ up with ports := [(4, { Port.reset with present := true, lanes := 8, ceiling := 7, phase := .up, speed := 7 })] },
      (((({ up with ports := [(4, { Port.reset with present := true, lanes := 8, ceiling := 7, phase := .up, speed := 7 })] } : State).modPort 4 Port.rxSafe).countGood 4 (by8 [0,0,0,0,0,2] ++ List.replicate 54 0)).findCells 0 (ingOfPort 4 (by8 [0,0,0,0,0,2] ++ List.replicate 54 0)) (cellsFor 60)).1,
      4, by8 [0,0,0,0,0,2] ++ List.replicate 54 0, by decide +kernel⟩,
    ⟨{ up with ports := [(4, { Port.reset with present := true, lanes := 8, ceiling := 7, phase := .up, speed := 7, cfg := Staged.both { PortCfg.reset with filterMode := true } })] },
      4, by8 [2] ++ List.replicate 59 (0 : Byte), by decide +kernel⟩,
    ⟨s19, 0, 5, List.replicate 64 (0 : Byte), by decide +kernel⟩,
    ⟨s52, 0, 5, 6, List.replicate 64 (0 : Byte), v07, by decide +kernel⟩,
    ⟨s52, 0, 5, 7, List.replicate 64 (0 : Byte), v07, by decide +kernel⟩,
    ⟨up, 0, 0, by decide +kernel⟩⟩

theorem witness_PortPauses :
    (∃ s : State, ∃ port : Nat, ∃ cls : Nat, (cls < 8))
    ∧ (∃ s : State, ∃ port : Nat, ∃ cls : Nat, (s.live (port / 8) = true) ∧ (cls < 8) ∧ (bit (s.port port).paused cls = true)
      ∧ (bit (s.port port).tripped cls = false) ∧ ((s.port port).pfc.inEffect.watchdogMs ≠ 0))
    ∧ (∃ s : State, ∃ port : Nat, ∃ cls : Nat, (cls < 8))
    ∧ (∃ s : State, ∃ port : Nat, (s.live (port / 8) = true) ∧ ((s.port port).phase = .up) ∧ ((s.port port).pauseReq = 1)
      ∧ ((s.port port).txSafe.pfc.inEffect.mode = 2) ∧ (bit (s.port port).txSafe.pfc.inEffect.txAllow 0 = true)) :=
  ⟨⟨up, 0, 7, by decide +kernel⟩,
    ⟨{ up with ports := [(0, { Port.reset with present := true, lanes := 8, ceiling := 7, phase := .up, speed := 7, paused := 128, pfc := Staged.both { PfcCfg.reset with watchdogMs := 1 } })] },
      0, 7, by decide +kernel⟩,
    ⟨up, 0, 7, by decide +kernel⟩,
    ⟨{ up with ports := [(0, { Port.reset with present := true, lanes := 8, ceiling := 7, phase := .up, speed := 7, pauseReq := 1, pfc := Staged.both { PfcCfg.reset with mode := 2, txAllow := 1 } })] },
      0, by decide +kernel⟩⟩

theorem witness_PortServices :
    (∃ s : State, (s.synce.refLost = false) ∧ (s.ready = true))
    ∧ (∃ s : State, ∃ port : Nat, (s.memReach (pf0 (port / 8)) = true))
    ∧ (∃ s : State, ∃ port : Nat, (s.memReach (pf0 (port / 8)) = true))
    ∧ (∃ s : State, ∃ f : List Byte, (s.boot.vaux = true) ∧ (s.boot.vin = false) ∧ (s.synce.wakeEnable = true)
      ∧ (leAt f 0 6 = s.synce.wakeAddr) ∧ (beAt f 12 2 = 0x88B5) ∧ (leAt f 14 8 = s.synce.wakePattern))
    ∧ (∃ s : State, ∃ f : List Byte, (s.boot.vin = false) ∧ (leAt f 14 8 ≠ s.synce.wakePattern))
    ∧ (∃ s : State, ∃ f : List Byte, (s.boot.vaux = true) ∧ (s.boot.vin = true)
      ∧ let port := 8 * s.boot.numberMask; (s.live (port / 8) = true) ∧ ((s.port port).present = true) ∧ ((s.port port).phase = .up)) :=
  ⟨⟨s33, by decide +kernel⟩,
    ⟨s33, 0, by decide +kernel⟩,
    ⟨s33, 0, by decide +kernel⟩,
    ⟨{ up with boot := { up.boot with vin := false }, synce := { Synce.reset with wakeEnable := true, wakeAddr := 0x060504030201, wakePattern := 77, wakeFrameLinks := 5 }, links := [(2, { Link.reset with d3cold := true })] },
      toLe 6 0x060504030201 ++ List.replicate 6 0 ++ by8 [0x88, 0xB5] ++ toLe 8 77, by decide +kernel⟩,
    ⟨{ up with boot := { up.boot with vin := false }, synce := { Synce.reset with wakeEnable := true, wakeAddr := 0x060504030201, wakePattern := 77, wakeFrameLinks := 5 } },
      [], by decide +kernel⟩,
    ⟨s19, List.replicate 64 (0 : Byte), by decide +kernel⟩⟩

theorem witness_Admission :
    (∃ s : State, ∃ die : Nat, ∃ i : Nat, ∃ f : RxFrame, ∃ rest : List RxFrame, (s.live die = true)
      ∧ (s.holdUsed die 0 < 4096) ∧ (s.nextPort die = some i) ∧ ((s.port (8 * die + i)).admission = f :: rest)
      ∧ let t := (s.modPortBlock die (fun b => { b with rotor := (i + 1) % 8 })).modPort (8 * die + i) (fun p => { p with admission := rest }); True)
    ∧ (∃ s : State, ∃ die : Nat, ∃ k : Nat, ∃ f : P1Frame, (s.live die = true) ∧ (s.holdUsed die 1 < 4096)
      ∧ ((s.pipe die).nextSource = some k)
      ∧ ((s.pipe die).p1Queue.find? (fun f => f.source == k) = some f) ∧ (f.chan = none))
    ∧ (∃ s : State, ∃ die : Nat, ∃ pipe : Nat, ∃ f : Entrant, (pipe < 2) ∧ (Tbl.find s.flight s.nextPkt = none)
      ∧ let t := s.enterPipe die pipe [] f; True) :=
  ⟨⟨{ up with ports := [(7, { Port.reset with present := true, phase := .up, admission := [{ bytes := List.replicate 60 0, macMatch := 127, stamp := 5, tick := 6 }] })], portBlocks := [(0, { PortBlock.reset with rotor := 7 })] },
      0, 7, { bytes := List.replicate 60 0, macMatch := 127, stamp := 5, tick := 6 }, [], by decide +kernel⟩,
    ⟨{ up with pipes := [(0, { Pipe.reset with p1Queue := [{ sourceKind := 1, sourceId := pf0 0, tc := 3, bytes := List.replicate 60 0, tx := none, cells := 1, ing := none, stamp := 0, inTick := 0 }] })] },
      0,
      ({ sourceKind := 1, sourceId := pf0 0, tc := 3, bytes := List.replicate 60 0, tx := none, cells := 1, ing := none, stamp := 0, inTick := 0 } : P1Frame).source,
      { sourceKind := 1, sourceId := pf0 0, tc := 3, bytes := List.replicate 60 0, tx := none, cells := 1, ing := none, stamp := 0, inTick := 0 },
      by decide +kernel⟩,
    ⟨up, 0, 1,
      { sourceKind := 0, sourceId := 0, tc := none, bytes := List.replicate 60 0, macMatch := 0, stamp := 0, inTick := 0, tx := none, cells := 1, ing := none, zeroOk := false },
      by decide +kernel⟩⟩

theorem witness_FlowReads :
    (∃ s : State, ∃ die : Nat, ∃ t : Nat, ∃ key : List Byte, (s.live die = true) ∧ ((s.pipe die).flowReads = [(t, key,
      false)])
      ∧ let p1 := { s.pipe die with flowReads := [] }.cachePut t key (!(s.pipe die).holdsKey t key) false; (s.flight = []))
    ∧ (∃ s : State, ∃ die : Nat, ∃ i : Nat, ∃ t : Nat, ∃ n : Nat, ∃ ns : List Nat, ∃ key : List Byte, ∃ k : FlightPkt,
      (s.live die = true) ∧ ((s.pipe die).flowReads = [(t, key, false)]) ∧ (s.flight = [(i, k)]) ∧ (k.die = die)
      ∧ (k.waitsFor t key = n :: ns))
    ∧ (∃ s : State, ∃ die : Nat, ∃ i : Nat, ∃ t : Nat, ∃ n : Nat, ∃ ns : List Nat, ∃ key : List Byte, ∃ k : FlightPkt,
      ∃ e : TEntry, (s.live die = true) ∧ ((s.pipe die).flowReads = [(t, key, false)]) ∧ (s.flight = [(i, k)])
      ∧ (k.die = die) ∧ (k.waitsFor t key = n :: ns) ∧ ((s.pipe die).versionAt t key k.tempo = some e))
    ∧ (∃ s : State, ∃ die : Nat, ∃ t : Nat, ∃ key : List Byte, ∃ d : TableDecl, ∃ bad : Bool, (s.live die = true)
      ∧ ((s.pipe die).flowReads = [(t, key, true)]) ∧ (s.flight = [])
      ∧ ((s.bankOf s.tempo.bank).table? (s.dramOf die) t = some d)) :=
  ⟨⟨{ up with pipes := [(0, { Pipe.reset with flowReads := [(2, [1, 2], false)] })] }, 0, 2, [1, 2], by decide +kernel⟩,
    ⟨{ up with pipes := [(0, { Pipe.reset with flowReads := [(2, [1, 2], false)] })], flight := [(4, v64)] }, 0, 4, 2, 1,
      [], [1, 2], v64, by decide +kernel⟩,
    ⟨{ up with pipes := [(0, { Pipe.reset with flowReads := [(2, [1, 2], false)], entries := [{ table := 2, key := [1, 2], mask := [255, 255], prefixLen := 0, priority := 1, place := 0, born := 0, retired := none, action := 9, dataPlane := false, pinned := false, params := [3] }] })], flight := [(4, v64)] },
      0, 4, 2, 1, [], [1, 2], v64,
      { table := 2, key := [1, 2], mask := [255, 255], prefixLen := 0, priority := 1, place := 0, born := 0, retired := none, action := 9, dataPlane := false, pinned := false, params := [3] },
      by decide +kernel⟩,
    ⟨{ up with pipes := [(0, { Pipe.reset with flowReads := [(2, [1, 2], true)] })], banks := [(0, { Bank.reset with standard := false, decls := [{ table := 2, kind := .flow, keyLen := 2, entrySize := 32, capacity := 1, blocks := 1, dataPlane := true }] })] },
      0, 2, [1, 2],
      { table := 2, kind := .flow, keyLen := 2, entrySize := 32, capacity := 1, blocks := 1, dataPlane := true }, true,
      by decide +kernel⟩⟩

theorem witness_ActionPrograms :
    (∃ s : State, ∃ id : Nat, ∃ k : FlightPkt, (Tbl.find s.flight id = some k) ∧ (s.live k.die = true)
      ∧ (s.programMayStart id k = true) ∧ (s.counterWaits k.die = false)
      ∧ let a := s.programOn k; (a.cipher = none ∨ s.cipherQueue k.die k.pipe < 2048))
    ∧ (∃ s : State, ∃ id : Nat, ∃ k : FlightPkt, (Tbl.find s.flight id = some k) ∧ (s.live k.die = true)
      ∧ (s.programMayStart id k = true) ∧ (s.counterWaits k.die = false) ∧ ((s.bankOf k.bank).standard = false)
      ∧ (Tbl.look 0 (s.bankOf k.bank).entryTable k.pipe = 0))
    ∧ (∃ s : State, ∃ id : Nat, ∃ place : Nat, ∃ k : FlightPkt, (Tbl.find s.flight id = some k) ∧ (s.live k.die = true)
      ∧ (s.programMayStart id k = true) ∧ (s.counterWaits k.die = false) ∧ (place < policerWord))
    ∧ (∃ s : State, ∃ id : Nat, ∃ k : FlightPkt, ∃ code : Nat, (k.tx = none) ∧ (s.cellsBalance k.die)
      ∧ (k.cells ≤ (s.tm k.die).pipeline)) :=
  ⟨⟨s74, 4, v62, by decide +kernel⟩,
    ⟨s74, 4, v62, by decide +kernel⟩,
    ⟨s74, 4, policerWord - 1, v62, by decide +kernel⟩,
    ⟨{ up with flight := [(4, v62)], tms := [(0, { Tm.reset with free := 196607, pipeline := 1 })] }, 4, v62, 5,
      by decide +kernel⟩⟩

theorem witness_DataPlaneWrites :
    (∃ s : State, ∃ die : Nat, ∃ r : LearnReq, ∃ rest : List LearnReq, ∃ d : TableDecl, (s.live die = true)
      ∧ ((s.pipe die).learn = r :: rest) ∧ (d.kind = .flow) ∧ (r.delete = false)
      ∧ let t := (s.modPipe die (fun p => { p with learn := rest })).learnRoom die; let x : EntrySpec := { decl := d, dies := 0, key := r.key, mask := r.mask, prefixLen := 0, priority := r.priority, action := r.action, params := r.params, pinned := false, replace := false, at_ := none, txn := none }; (t.dataPlaneTable r.table = some d) ∧ ∃ n : Nat, ((t.pipe die).named x t.tempo.current = []) ∧ (t.placeFor die x 0 = .ok n))
    ∧ (∃ s : State, ∃ die : Nat, ∃ r : LearnReq, ∃ rest : List LearnReq, ∃ d : TableDecl, (s.live die = true)
      ∧ ((s.pipe die).learn = r :: rest) ∧ (d.kind = .flow) ∧ (r.delete = false)
      ∧ let t := (s.modPipe die (fun p => { p with learn := rest })).learnRoom die; let x : EntrySpec := { decl := d, dies := 0, key := r.key, mask := r.mask, prefixLen := 0, priority := r.priority, action := r.action, params := r.params, pinned := false, replace := false, at_ := none, txn := none }; (t.dataPlaneTable r.table = some d) ∧ ∃ e : TEntry, ∃ l : List TEntry, ((t.pipe die).named x t.tempo.current = e :: l))
    ∧ (∃ s : State, ∃ die : Nat, ∃ who : Nat, ∃ r : LearnReq, (s.live die = true) ∧ (s.mayAsk die (some who) = true)
      ∧ ((s.pipe die).learn.length < 64))
    ∧ (∃ s : State, ∃ die : Nat, ∃ r : LearnReq, ∃ rest : List LearnReq, ∃ d : TableDecl, (s.live die = true)
      ∧ ((s.pipe die).tcamWrites = r :: rest)
      ∧ let t := (s.modPipe die (fun p => { p with tcamWrites := rest })).tcamRoom die; (t.dataPlaneTable r.table = some d) ∧ (1024 * d.capacity ≤ r.place) ∧ (r.place < 1024 * (d.capacity + d.blocks)))
    ∧ (∃ s : State, ∃ die : Nat, ∃ r : LearnReq, ∃ rest : List LearnReq, ∃ d : TableDecl, (s.live die = true)
      ∧ ((s.pipe die).tcamWrites = r :: rest)
      ∧ let t := (s.modPipe die (fun p => { p with tcamWrites := rest })).tcamRoom die; (t.dataPlaneTable r.table = some d) ∧ (r.place < 1024 * d.capacity))
    ∧ (∃ s : State, ∃ die : Nat, ∃ r : LearnReq, (s.live die = true) ∧ ((s.pipe die).tcamWrites.length < 16))
    ∧ (∃ s : State, ∃ die : Nat, ∃ r : LearnReq, (s.live die = true) ∧ ((s.pipe die).tcamWrites.length = 16))
    ∧ (∃ s : State, ∃ die : Nat, ∃ table : Nat, ∃ index : Nat, ∃ e : TEntry, (s.live die = true)
      ∧ ((s.pipe die).entries.find? (fun e => e.table == table && e.place == index && e.dataPlane) = some e))
    ∧ (∃ s : State, ∃ die : Nat, ∃ table : Nat, ∃ index : Nat,
      ((s.pipe die).entries.find? (fun e => e.table == table && e.place == index && e.dataPlane) = none)) :=
  ⟨⟨{ up with pipes := [(0, { Pipe.reset with learn := [v24] })], banks := [(0, { Bank.reset with standard := false, decls := [v14] })] },
      0, v24, [], v14, by decide +kernel, by decide +kernel, by decide +kernel, by decide +kernel, by decide +kernel,
      (Pipe.reset).flowPlace 1 5 [1, 2], by decide +kernel⟩,
    ⟨{ up with pipes := [(0, { Pipe.reset with learn := [v24], entries := [v40] })], banks := [(0, { Bank.reset with standard := false, decls := [v14] })] },
      0, v24, [], v14, by decide +kernel, by decide +kernel, by decide +kernel, by decide +kernel, by decide +kernel,
      v40, [], by decide +kernel⟩,
    ⟨{ up with threads := [(3, { Thread.reset with state := .running })] }, 0, 3, v24, by decide +kernel⟩,
    ⟨{ up with pipes := [(0, { Pipe.reset with tcamWrites := [{ table := 5, key := [1, 2], mask := [255, 255], priority := 1, place := 2047, action := 9, params := [3], delete := false, pipe := 1 }] })], banks := [(0, { Bank.reset with standard := false, decls := [v15] })] },
      0,
      { table := 5, key := [1, 2], mask := [255, 255], priority := 1, place := 2047, action := 9, params := [3], delete := false, pipe := 1 },
      [], v15, by decide +kernel⟩,
    ⟨{ up with pipes := [(0, { Pipe.reset with tcamWrites := [{ table := 5, key := [1, 2], mask := [255, 255], priority := 1, place := 1023, action := 9, params := [3], delete := false, pipe := 1 }] })], banks := [(0, { Bank.reset with standard := false, decls := [v15] })] },
      0,
      { table := 5, key := [1, 2], mask := [255, 255], priority := 1, place := 1023, action := 9, params := [3], delete := false, pipe := 1 },
      [], v15, by decide +kernel⟩,
    ⟨up, 0, v24, by decide +kernel⟩,
    ⟨{ up with pipes := [(0, { Pipe.reset with tcamWrites := List.replicate 16 v24 })] }, 0, v24, by decide +kernel⟩,
    ⟨{ up with pipes := [(0, { Pipe.reset with entries := [{ table := 5, key := [1, 2], mask := [255, 255], prefixLen := 0, priority := 1, place := 0, born := 0, retired := none, action := 9, dataPlane := true, pinned := false, params := [3] }] })] },
      0, 5, 0,
      { table := 5, key := [1, 2], mask := [255, 255], prefixLen := 0, priority := 1, place := 0, born := 0, retired := none, action := 9, dataPlane := true, pinned := false, params := [3] },
      by decide +kernel⟩,
    ⟨up, 0, 5, 0, by decide +kernel⟩⟩

theorem witness_CountersAndPolicers :
    (∃ s : State, ∃ die : Nat, ∃ pair : Nat, (s.live die = true) ∧ ((s.pipe die).counterMisses.contains (pair / 4) = true)
      ∧ ((s.pipe die).counterLines.length < 4096))
    ∧ (∃ s : State, ∃ die : Nat, ∃ pair : Nat, (s.live die = true) ∧ ((s.pipe die).counterMisses.contains (pair / 4) = true)
      ∧ (4096 ≤ (s.pipe die).counterLines.length))
    ∧ (∃ s : State, ∃ die : Nat, ∃ pair : Nat, ((s.pipe die).counterMisses.contains (pair / 4) = false))
    ∧ (∃ p : Pipe, ∃ k : Nat, ∃ d : Nat × Nat,
      ((p.counterCache.map (fun e => e.1)).Nodup) ∧ (Tbl.find p.counterCache k = some d))
    ∧ (∃ s : State, ∃ die : Nat, (s.live die = true))
    ∧ (∃ q : Policer, ∃ now : Nat, (q.tokensC + (now - q.last) * q.cir ≤ q.cbs * byteUnits))
    ∧ (∃ q : Policer, ∃ n : Nat, ∃ pre : Nat, (q.mode = 2) ∧ (q.colorAware = false))
    ∧ (∃ q : Policer, ∃ n : Nat, ∃ pre : Nat, (q.mode = 1) ∧ (q.colorAware = false)) :=
  ⟨⟨{ up with pipes := [(0, { Pipe.reset with counterMisses := [1], counterLines := [3, 4] })] }, 0, 7, by decide +kernel⟩,
    ⟨{ up with pipes := [(0, { Pipe.reset with counterMisses := [9000], counterLines := List.range 4096 })] }, 0, 36003,
      by decide +kernel⟩,
    ⟨s34, 0, 7, by decide +kernel⟩,
    ⟨{ Pipe.reset with counterCache := [(5, (1, 64))] }, 5, (1, 64), by decide +kernel⟩,
    ⟨s34, 0, by decide +kernel⟩,
    ⟨v08, 9000, by decide +kernel⟩,
    ⟨v08, 1, 0, by decide +kernel⟩,
    ⟨{ Policer.reset with mode := 1, cir := 8, cbs := 100, tokensC := 5, tokensEp := 12800000 }, 1, 0, by decide +kernel⟩⟩

theorem witness_TableQueries :
    (∃ s : State, ∃ p : Packet, ∃ d : TableDecl, ∃ e : TEntry, (s.takes (p.of 0x0403)) ∧ (p.paramLen = 0x14 + pad4 d.keyLen)
      ∧ ((s.bankOf s.tempo.bank).table? (s.dramOf s.roles.lead) (leAt p.params 0 1) = some d) ∧ (d.kind = .exact)
      ∧ (leAt p.params 2 1 = 0) ∧ (leAt p.params 3 1 = 0) ∧ (leAt p.params 4 4 = 0) ∧ (leAt p.params 8 8 ≠ 0)
      ∧ (s.dieStatus (leAt p.params 1 1) = none) ∧ ((s.pipe (leAt p.params 1 1)).entries = [e]) ∧ (e.table = d.table)
      ∧ (e.key = sub p.params 0x14 d.keyLen) ∧ (0 < (e.record d).length) ∧ ((e.record d).length ≤ leAt p.params 0x10 4))
    ∧ (∃ s : State, ∃ p : Packet, ∃ d : TableDecl, (s.takes (p.of 0x0403)) ∧ (p.paramLen = 0x14 + pad4 d.keyLen)
      ∧ ((s.bankOf s.tempo.bank).table? (s.dramOf s.roles.lead) (leAt p.params 0 1) = some d) ∧ (d.kind = .exact)
      ∧ (leAt p.params 2 1 = 0) ∧ (leAt p.params 3 1 = 0) ∧ (leAt p.params 4 4 = 0) ∧ (leAt p.params 8 8 ≠ 0)
      ∧ (s.dieStatus (leAt p.params 1 1) = none) ∧ ((s.pipe (leAt p.params 1 1)).entries = []))
    ∧ (∃ s : State, ∃ p : Packet, (s.takes (p.of 0x0403))
      ∧ ((s.bankOf s.tempo.bank).table? (s.dramOf s.roles.lead) (leAt p.params 0 1) = none)) :=
  ⟨⟨{ up with pipes := [(0, { Pipe.reset with entries := [v40] })], banks := [(0, { Bank.reset with standard := false, decls := [v17] })] },
      p09, v17, v40, by decide +kernel⟩,
    ⟨s51, p09, v17, by decide +kernel⟩,
    ⟨s51, pk 0x0403 (by8 [6,0,0,0,0,0,0,0] ++ toLe 8 0x8000 ++ toLe 4 36 ++ by8 [1,2,0,0]), by decide +kernel⟩⟩

theorem witness_CipherEngine :
    (∃ s : State, ∃ die : Nat, ∃ id : Nat, ∃ slot : Nat, ∃ k : FlightPkt, ∃ v : KeyVersion, (s.boot.cipher = true)
      ∧ (s.live die = true) ∧ ((s.cipherOf die).laneFree = true) ∧ (Tbl.find s.flight id = some k)
      ∧ (k.verdict.cipherSlot = some slot) ∧ (k.die = die) ∧ (k.phase = .cipherIn 0) ∧ (s.cipherTurn id k = true)
      ∧ ((s.keySlot die slot).at k.tempo = some v) ∧ (v.state ≠ .faulted) ∧ (s.slotAllowed k slot v = true)
      ∧ (k.verdict.decrypt = false) ∧ (v.proto = 1) ∧ (v.state ≠ .exhausted)
      ∧ (cellsFor (sealedLen v k.frame k.l3) = k.cells))
    ∧ (∃ s : State, ∃ die : Nat, ∃ id : Nat, ∃ slot : Nat, ∃ k : FlightPkt, (s.boot.cipher = true) ∧ (s.live die = true)
      ∧ ((s.cipherOf die).laneFree = true) ∧ (Tbl.find s.flight id = some k) ∧ (k.verdict.cipherSlot = some slot)
      ∧ (k.die = die) ∧ (k.phase = .cipherIn 0) ∧ (s.cipherTurn id k = true) ∧ ((s.keySlot die slot).at k.tempo = none))
    ∧ (∃ s : State, ∃ die : Nat, ∃ id : Nat, ∃ slot : Nat, ∃ k : FlightPkt, ∃ v : KeyVersion, ∃ x : Opened,
      (s.boot.cipher = true) ∧ (s.live die = true) ∧ ((s.cipherOf die).laneFree = true)
      ∧ (Tbl.find s.flight id = some k) ∧ (k.verdict.cipherSlot = some slot) ∧ (k.die = die) ∧ (k.phase = .cipherIn 0)
      ∧ (s.cipherTurn id k = true) ∧ ((s.keySlot die slot).at k.tempo = some v) ∧ (v.state ≠ .faulted)
      ∧ (s.slotAllowed k slot v = true) ∧ (k.verdict.decrypt = true) ∧ (v.slotId = 0)
      ∧ (openFrame v k.frame k.l3 = some x) ∧ (v.fresh (v.wholeSeq x.low) = false))
    ∧ (∃ s : State, ∃ die : Nat, ∃ unit : Nat, ∃ id : Nat, ∃ w : CipherUnit, ∃ v : KeyVersion, ∃ k : FlightPkt,
      (s.cipherUnit die unit = some w) ∧ (s.live die = true) ∧ (w.phase = .lane)
      ∧ ((s.keySlot die w.slot).bornAt w.born = some v) ∧ (w.encrypt = true) ∧ ((s.cipherOf die).leads w = true)
      ∧ (w.source = .packet id) ∧ (Tbl.find s.flight id = some k))
    ∧ (∃ s : State, ∃ die : Nat, ∃ unit : Nat, ∃ id : Nat, ∃ w : CipherUnit, ∃ v : KeyVersion, ∃ k : FlightPkt,
      (s.cipherUnit die unit = some w) ∧ (s.live die = true) ∧ (w.phase = .lane)
      ∧ ((s.keySlot die w.slot).bornAt w.born = some v) ∧ (w.encrypt = false) ∧ (w.source = .packet id)
      ∧ (Tbl.find s.flight id = some k))
    ∧ (∃ s : State, ∃ die : Nat, ∃ unit : Nat, ∃ id : Nat, ∃ w : CipherUnit, ∃ k : FlightPkt, ∃ out : List Byte,
      (w.source = .packet id) ∧ (Tbl.find s.flight id = some k) ∧ let t := s.tagChecks die unit w out; True)
    ∧ (∃ s : State, ∃ die : Nat, ∃ unit : Nat, ∃ id : Nat, ∃ w : CipherUnit, ∃ v : KeyVersion, ∃ k : FlightPkt, ∃ x : Opened,
      (s.cipherUnit die unit = some w) ∧ (s.live die = true) ∧ (w.phase = .verified)
      ∧ ((s.cipherOf die).leads w = true) ∧ (w.source = .packet id) ∧ (Tbl.find s.flight id = some k)
      ∧ ((s.keySlot die w.slot).bornAt w.born = some v) ∧ (openFrame v k.frame k.l3 = some x) ∧ (w.reinject = false))
    ∧ (∃ s : State, ∃ die : Nat, ∃ unit : Nat, ∃ w : CipherUnit, (s.cipherUnit die unit = some w)
      ∧ ((s.cipherOf die).leads w = false)) :=
  ⟨⟨{ up with flight := [(4, v65)], ciphers := [(0, { Cipher.reset with slots := [(3, { KeySlot.reset with newer := v06 })], units := [] })] },
      0, 4, 3, v65, v06, by decide +kernel⟩,
    ⟨{ up with flight := [(4, v65)], ciphers := [(0, { Cipher.reset with slots := [(9, { KeySlot.reset with newer := v06 })], units := [] })] },
      0, 4, 3, v65, by decide +kernel⟩,
    ⟨{ up with flight := [(4, { die := 0, pipe := 0, tempo := 0, bank := 0, phase := .cipherIn 0, sourceKind := 0, sourceId := 0, tc := 0, stamp := 0, original := List.replicate 60 0, frame := List.replicate 12 0 ++ by8 [0x88, 0xE5, 0, 0, 0, 0, 0, 5] ++ List.replicate 80 0, vector := List.replicate 512 0, params := [], flowLookups := [], fn := 0, verdict := { Verdict.none with cipherSlot := some 3, decrypt := true }, cells := 1, tx := none, ing := none, inTick := 0 })], ciphers := [(0, { Cipher.reset with slots := [(3, { KeySlot.reset with newer := v12 })], units := [] })] },
      0, 4, 3,
      { die := 0, pipe := 0, tempo := 0, bank := 0, phase := .cipherIn 0, sourceKind := 0, sourceId := 0, tc := 0, stamp := 0, original := List.replicate 60 0, frame := List.replicate 12 0 ++ by8 [0x88, 0xE5, 0, 0, 0, 0, 0, 5] ++ List.replicate 80 0, vector := List.replicate 512 0, params := [], flowLookups := [], fn := 0, verdict := { Verdict.none with cipherSlot := some 3, decrypt := true }, cells := 1, tx := none, ing := none, inTick := 0 },
      v12, { id := none, low := 5, start := 20, len := 64 }, by decide +kernel⟩,
    ⟨{ up with flight := [(4, { die := 0, pipe := 0, tempo := 0, bank := 0, phase := .cipher 0, sourceKind := 0, sourceId := 0, tc := 0, stamp := 0, original := List.replicate 60 0, frame := List.replicate 60 0, vector := List.replicate 512 0, params := [], flowLookups := [], fn := 0, verdict := { Verdict.none with cipherSlot := some 3 }, cells := 1, tx := none, ing := none, inTick := 0 })], ciphers := [(0, { Cipher.reset with slots := [(3, { KeySlot.reset with newer := v06 })], units := [(8, { source := .packet 4, slot := 3, born := 0, encrypt := true, reinject := false, phase := .lane, seq := 5, bytes := [], aad := [], verify := 0, tempo := 0, klass := 0, index := 0, out := [], order := 0 })] })] },
      0, 8, 4,
      { source := .packet 4, slot := 3, born := 0, encrypt := true, reinject := false, phase := .lane, seq := 5, bytes := [], aad := [], verify := 0, tempo := 0, klass := 0, index := 0, out := [], order := 0 },
      v06,
      { die := 0, pipe := 0, tempo := 0, bank := 0, phase := .cipher 0, sourceKind := 0, sourceId := 0, tc := 0, stamp := 0, original := List.replicate 60 0, frame := List.replicate 60 0, vector := List.replicate 512 0, params := [], flowLookups := [], fn := 0, verdict := { Verdict.none with cipherSlot := some 3 }, cells := 1, tx := none, ing := none, inTick := 0 },
      by decide +kernel⟩,
    ⟨s81, 0, 8, 4, v44, v12, v71, by decide +kernel⟩,
    ⟨s81, 0, 8, 4, v44, v71, [7], by decide +kernel⟩,
    ⟨{ up with flight := [(4, { die := 0, pipe := 0, tempo := 0, bank := 0, phase := .verify true, sourceKind := 0, sourceId := 0, tc := 0, stamp := 0, original := List.replicate 60 0, frame := List.replicate 12 0 ++ by8 [0x88, 0xE5, 0, 0, 0, 0, 0, 5] ++ List.replicate 80 0, vector := List.replicate 512 0, params := [], flowLookups := [], fn := 0, verdict := { Verdict.none with cipherSlot := some 3, decrypt := true }, cells := 1, tx := none, ing := none, inTick := 0 })], ciphers := [(0, { Cipher.reset with slots := [(3, { KeySlot.reset with newer := v12 })], units := [(8, { source := .packet 4, slot := 3, born := 0, encrypt := false, reinject := false, phase := .verified, seq := 5, bytes := [], aad := [], verify := 0, tempo := 0, klass := 0, index := 0, out := List.replicate 64 9, order := 0 })] })] },
      0, 8, 4,
      { source := .packet 4, slot := 3, born := 0, encrypt := false, reinject := false, phase := .verified, seq := 5, bytes := [], aad := [], verify := 0, tempo := 0, klass := 0, index := 0, out := List.replicate 64 9, order := 0 },
      v12,
      { die := 0, pipe := 0, tempo := 0, bank := 0, phase := .verify true, sourceKind := 0, sourceId := 0, tc := 0, stamp := 0, original := List.replicate 60 0, frame := List.replicate 12 0 ++ by8 [0x88, 0xE5, 0, 0, 0, 0, 0, 5] ++ List.replicate 80 0, vector := List.replicate 512 0, params := [], flowLookups := [], fn := 0, verdict := { Verdict.none with cipherSlot := some 3, decrypt := true }, cells := 1, tx := none, ing := none, inTick := 0 },
      { id := none, low := 5, start := 20, len := 64 }, by decide +kernel⟩,
    ⟨{ up with flight := [(4, { die := 0, pipe := 0, tempo := 0, bank := 0, phase := .verify true, sourceKind := 0, sourceId := 0, tc := 0, stamp := 0, original := List.replicate 60 0, frame := List.replicate 12 0 ++ by8 [0x88, 0xE5, 0, 0, 0, 0, 0, 5] ++ List.replicate 80 0, vector := List.replicate 512 0, params := [], flowLookups := [], fn := 0, verdict := { Verdict.none with cipherSlot := some 3, decrypt := true }, cells := 1, tx := none, ing := none, inTick := 0 })], ciphers := [(0, { Cipher.reset with slots := [(3, { KeySlot.reset with newer := v12 })], units := [(6, { source := .packet 4, slot := 3, born := 0, encrypt := false, reinject := false, phase := .verified, seq := 5, bytes := [], aad := [], verify := 0, tempo := 0, klass := 0, index := 0, out := List.replicate 64 9, order := 0 }), (8, { source := .packet 4, slot := 3, born := 0, encrypt := false, reinject := false, phase := .verified, seq := 5, bytes := [], aad := [], verify := 0, tempo := 0, klass := 0, index := 0, out := [], order := 2 })] })] },
      0, 8,
      { source := .packet 4, slot := 3, born := 0, encrypt := false, reinject := false, phase := .verified, seq := 5, bytes := [], aad := [], verify := 0, tempo := 0, klass := 0, index := 0, out := [], order := 2 },
      by decide +kernel⟩⟩

theorem witness_KeySlots :
    (∃ s : State, ∃ die : Nat, ∃ slot : Nat, ∃ fn : Nat, (s.pageReach die slot fn = true)
      ∧ ((s.keySlot die slot).installBusy = false) ∧ (s.committing (objNum objKeySlot die slot) = false)
      ∧ (cfgGood (s.keySlot die slot).stCfg = true) ∧ (s.lockedBut 0 (objNum objKeySlot die slot) = false)
      ∧ (s.pageForbids die slot (s.keySlot die slot).stCfg = false) ∧ (s.slotWaits die slot = false))
    ∧ (∃ s : State, ∃ die : Nat, ∃ slot : Nat, ∃ fn : Nat, (s.pageReach die slot fn = true)
      ∧ ((s.keySlot die slot).installBusy = false) ∧ (s.committing (objNum objKeySlot die slot) = false)
      ∧ (cfgGood (s.keySlot die slot).stCfg = true) ∧ (s.lockedBut 0 (objNum objKeySlot die slot) = false)
      ∧ (s.pageForbids die slot (s.keySlot die slot).stCfg = false) ∧ (s.slotWaits die slot = true))
    ∧ (∃ s : State, ∃ die : Nat, ∃ slot : Nat, ∃ fn : Nat, (s.pageReach die slot fn = true)
      ∧ ((s.keySlot die slot).installBusy = true ∨ s.committing (objNum objKeySlot die slot) = true))
    ∧ (∃ s : State, ∃ die : Nat, ∃ slot : Nat, ∃ fn : Nat, (s.pageReach die slot fn = true)
      ∧ ((s.keySlot die slot).installBusy = false) ∧ (s.committing (objNum objKeySlot die slot) = false)
      ∧ (cfgGood (s.keySlot die slot).stCfg = false))
    ∧ (∃ s : State, ∃ die : Nat, ∃ slot : Nat, ∃ fn : Nat, (s.pageReach die slot fn = false))
    ∧ (∃ s : State, ∃ die : Nat, ∃ slot : Nat, ∃ fn : Nat, ∃ v : KeyVersion, (s.pageReach die slot fn = true)
      ∧ ((s.keySlot die slot).installBusy = false) ∧ (s.committing (objNum objKeySlot die slot) = false)
      ∧ (s.lockedBut 0 (objNum objKeySlot die slot) = false) ∧ ((s.keySlot die slot).at s.tempo.current = some v))
    ∧ (∃ s : State, ∃ die : Nat, ∃ slot : Nat, (s.live die = true) ∧ ((s.keySlot die slot).installBusy = true)
      ∧ (s.slotWaits die slot = false))
    ∧ (∃ k : KeySlot, ∃ v : KeyVersion, ∃ t : Nat, (k.newer.state ≠ .empty) ∧ (k.newer.retired = none) ∧ (v.state ≠ .empty)
      ∧ (v.retired = none) ∧ (validAt v.born none t = true) ∧ (k.newer.born ≠ v.born)) :=
  ⟨⟨s62, 0, 3, pf0 0, by decide +kernel⟩,
    ⟨{ up with ciphers := [(0, { Cipher.reset with slots := [(3, { KeySlot.reset with stCfg := 0x41, older := v06, newer := { KeyVersion.reset with state := .active, cfg := 0x41, seq := 5, softLimit := 100, born := 1 } })], units := [] })], protect := { Protect.reset with keyPages := [(0, pf0 0 * 64)] }, flight := [(4, v62)] },
      0, 3, pf0 0, by decide +kernel⟩,
    ⟨{ up with flight := [], ciphers := [(0, { Cipher.reset with slots := [(3, { KeySlot.reset with stCfg := 0x41, installBusy := true })], units := [] })], protect := { Protect.reset with keyPages := [(0, pf0 0 * 64)] } },
      0, 3, pf0 0, by decide +kernel⟩,
    ⟨{ up with flight := [], ciphers := [(0, { Cipher.reset with slots := [(3, { KeySlot.reset with stCfg := 0x40100000000 })], units := [] })], protect := { Protect.reset with keyPages := [(0, pf0 0 * 64)] } },
      0, 3, pf0 0, by decide +kernel⟩,
    ⟨s62, 0, 3, pf0 1, by decide +kernel⟩,
    ⟨s62, 0, 3, pf0 0, v06, by decide +kernel⟩,
    ⟨{ up with flight := [], ciphers := [(0, { Cipher.reset with slots := [(3, { KeySlot.reset with installBusy := true })], units := [] })], protect := { Protect.reset with keyPages := [(0, pf0 0 * 64)] } },
      0, 3, by decide +kernel⟩,
    ⟨{ KeySlot.reset with newer := v06 },
      { KeyVersion.reset with state := .active, cfg := 0x41, seq := 5, softLimit := 100, born := 3 }, 3,
      by decide +kernel⟩⟩

theorem witness_KeypageModes :
    (∃ s : State, ∃ p : Packet, (s.takesRecorded (p.of 0x8701)) ∧ (p.paramLen = 8) ∧ (leAt p.params 1 1 = 0)
      ∧ (leAt p.params 2 2 = 0) ∧ (leAt p.params 6 2 ≠ 0) ∧ (leAt p.params 6 2 ≤ 4096)
      ∧ (leAt p.params 4 2 + leAt p.params 6 2 ≤ 4096) ∧ (s.dieStatus (leAt p.params 0 1) = none))
    ∧ (∃ s : State, ∃ p : Packet, (s.takesRecorded (p.of 0x8701)) ∧ (p.paramLen = 8) ∧ (leAt p.params 1 1 = 1)
      ∧ (leAt p.params 2 2 = 0) ∧ (leAt p.params 6 2 ≠ 0) ∧ (leAt p.params 6 2 ≤ 4096)
      ∧ (leAt p.params 4 2 + leAt p.params 6 2 ≤ 4096) ∧ (s.dieStatus (leAt p.params 0 1) = none))
    ∧ (∃ s : State, ∃ p : Packet, (s.takesRecorded (p.of 0x8701)) ∧ (4096 < leAt p.params 4 2 + leAt p.params 6 2)) :=
  ⟨⟨up, pk 0x8701 (by8 [0,0,0,0] ++ toLe 2 4095 ++ toLe 2 1), by decide +kernel⟩,
    ⟨up, pk 0x8701 (by8 [0,1,0,0] ++ toLe 2 4095 ++ toLe 2 1), by decide +kernel⟩,
    ⟨up, pk 0x8701 (by8 [0,1,0,0] ++ toLe 2 4095 ++ toLe 2 2), by decide +kernel⟩⟩

theorem witness_TransactionalCommands :
    (∃ f : Packet → Instr, ∃ op : Nat, ((f, op) ∈ ([(.tableInsert, 0x0401), (.tableDelete, 0x0402), (.tableModify, 0x8401),
      (.steerSet, 0x0404), (.actionParamSet, 0x8403), (.rateProfileSet, 0x0501), (.tmNodeSet, 0x8501), (.shaperSet,
      0x8502), (.queueSetMapping, 0x8201), (.keyInstall, 0x0701), (.keyRetire,
      0x0702)] : List ((Packet → Instr) × Nat))) ∧ ∃ s : State, ∃ p : Packet, (s.takesRecorded (p.of op))
      ∧ ((op = 0x8403 → leAt p.params 0 1 < 3)) ∧ (s.expireTxns = s) ∧ ∃ t : State, ∃ r : List Byte, (p.txn = 0)
      ∧ (partOf (p.of op) s.nextTempo none s = .ok (t, r))
      ∧ ((objsOf (p.of op) s).eraseDups.any (s.lockedBut 0) = false))
    ∧ (∃ f : Packet → Instr, ∃ op : Nat, ((f, op) ∈ ([(.tableInsert, 0x0401), (.tableDelete, 0x0402), (.tableModify, 0x8401),
      (.steerSet, 0x0404), (.actionParamSet, 0x8403), (.rateProfileSet, 0x0501), (.tmNodeSet, 0x8501), (.shaperSet,
      0x8502), (.queueSetMapping, 0x8201), (.keyInstall, 0x0701), (.keyRetire,
      0x0702)] : List ((Packet → Instr) × Nat))) ∧ ∃ s : State, ∃ p : Packet, (s.takesRecorded (p.of op))
      ∧ ((op = 0x8403 → leAt p.params 0 1 < 3)) ∧ (s.expireTxns = s) ∧ ∃ st : Nat, (p.txn = 0)
      ∧ (partOf (p.of op) s.nextTempo none s = .error st) ∧ (st ≠ stOk) ∧ (st ≠ stBusy))
    ∧ (∃ f : Packet → Instr, ∃ op : Nat, ((f, op) ∈ ([(.tableInsert, 0x0401), (.tableDelete, 0x0402), (.tableModify, 0x8401),
      (.steerSet, 0x0404), (.actionParamSet, 0x8403), (.rateProfileSet, 0x0501), (.tmNodeSet, 0x8501), (.shaperSet,
      0x8502), (.queueSetMapping, 0x8201), (.keyInstall, 0x0701), (.keyRetire,
      0x0702)] : List ((Packet → Instr) × Nat))) ∧ ∃ s : State, ∃ p : Packet, (s.takesRecorded (p.of op))
      ∧ ((op = 0x8403 → leAt p.params 0 1 < 3)) ∧ (s.expireTxns = s) ∧ ∃ x : Txn, ∃ t : State, ∃ r : List Byte,
      (p.txn ≠ 0) ∧ (Tbl.find s.tempo.txns p.txn = some x) ∧ (x.ownedBy p.sender = true) ∧ (x.state = .opened)
      ∧ (partOf (p.of op) s.nextTempo none (s.folded x) = .ok (t, r))
      ∧ let objs := (objsOf (p.of op) (s.folded x)).eraseDups; ((x.objects ++ objs).eraseDups.length ≤ 1048576))
    ∧ (∃ (s : State) (p : Packet) (b : Bank), s.takesRecorded (p.of 0x8402) ∧ s.expireTxns = s ∧ p.txn = 0 ∧
    s.tempo.bankClaim = none ∧ partProgramLoad (p.of 0x8402) s = .ok b ∧ s.lockedBut 0 (objNum objBank 0 0) = false) :=
  ⟨⟨.keyRetire, 0x0702, by (repeat' apply And.intro) <;> first | decide +kernel | rfl | trivial | simp, s44,
      pk 0x0702 (toLe 4 0 ++ toLe 4 3), by (repeat' apply And.intro) <;> first | decide +kernel | rfl | trivial | simp,
      by (repeat' apply And.intro) <;> first | decide +kernel | rfl | trivial | simp,
      by (repeat' apply And.intro) <;> first | decide +kernel | rfl | trivial | simp,
      (s44.setKeySlot 0 3 ((s44.keySlot 0 3).retire 1)), [],
      by (repeat' apply And.intro) <;> first | decide +kernel | rfl | trivial | simp⟩,
    ⟨.keyRetire, 0x0702, by (repeat' apply And.intro) <;> first | decide +kernel | rfl | trivial | simp, up,
      pk 0x0702 (toLe 4 0 ++ toLe 4 3), by (repeat' apply And.intro) <;> first | decide +kernel | rfl | trivial | simp,
      by (repeat' apply And.intro) <;> first | decide +kernel | rfl | trivial | simp,
      by (repeat' apply And.intro) <;> first | decide +kernel | rfl | trivial | simp, stNotFound,
      by (repeat' apply And.intro) <;> first | decide +kernel | rfl | trivial | simp⟩,
    ⟨.keyRetire, 0x0702, by (repeat' apply And.intro) <;> first | decide +kernel | rfl | trivial | simp,
      { up with ciphers := [(0, { Cipher.reset with slots := [(3, { KeySlot.reset with newer := v06 })] })], tempo := { Tempo.reset with txns := [(9, v55)] } },
      { pk 0x0702 (toLe 4 0 ++ toLe 4 3) with txn := 9 },
      by (repeat' apply And.intro) <;> first | decide +kernel | rfl | trivial | simp,
      by (repeat' apply And.intro) <;> first | decide +kernel | rfl | trivial | simp,
      by (repeat' apply And.intro) <;> first | decide +kernel | rfl | trivial | simp, v55,
      (({ up with ciphers := [(0, { Cipher.reset with slots := [(3, { KeySlot.reset with newer := v06 })] })], tempo := { Tempo.reset with txns := [(9, v55)] } } : State).setKeySlot 0 3 ((s44.keySlot 0 3).retire 1)),
      [], by (repeat' apply And.intro) <;> first | decide +kernel | rfl | trivial | simp⟩,
    man_PL⟩

theorem witness_TransactionLife :
    (∃ s : State, ∃ p : Packet, (s.takesRecorded (p.of 0x0B01)) ∧ (s.expireTxns = s) ∧ (p.txn = 0)
      ∧ (p.paramLen = 16 ∨ p.paramLen = 0) ∧ (leAt p.params 4 1 = 0) ∧ (leAt p.params 5 3 = 0)
      ∧ (leAt p.params 0x0C 4 = 0) ∧ (leAt p.params 0 4 = 0) ∧ (leAt p.params 8 4 = 0) ∧ (s.tempo.txns.length < 64))
    ∧ (∃ s : State, ∃ n : Nat, ∃ t : Txn, (Tbl.find s.tempo.txns n = some t) ∧ (t.state = .opened) ∧ (t.deadline ≤ s.leadTick))
    ∧ (∃ s : State, ∃ n : Nat, ∃ t : Txn, (Tbl.find s.tempo.txns n = some t) ∧ (t.state = .opened) ∧ (s.leadTick < t.deadline))
    ∧ (∃ s : State, ∃ p : Packet, ∃ t : Txn, (s.takesRecorded (p.of 0x0B03)) ∧ (s.expireTxns = s) ∧ (p.paramLen = 0)
      ∧ (Tbl.find s.tempo.txns p.txn = some t) ∧ (t.ownedBy p.sender = true) ∧ (t.state = .opened)
      ∧ (t.commitCmd = none))
    ∧ (∃ s : State, ∃ p : Packet, ∃ t : Txn, (s.takes (p.of 0x0B04)) ∧ (s.expireTxns = s) ∧ (p.paramLen = 0) ∧ (p.txn ≠ 0)
      ∧ (Tbl.find s.tempo.txns p.txn = some t) ∧ (t.ownedBy p.sender = true))
    ∧ (∃ s : State, ∃ p : Packet, ∃ t : Txn, (s.takesRecorded (p.of 0x0B02)) ∧ (s.expireTxns = s)
      ∧ (p.paramLen = 16 ∨ p.paramLen = 0) ∧ (leAt p.params 0 1 = 0) ∧ (leAt p.params 1 7 = 0)
      ∧ (leAt p.params 8 8 = 0) ∧ (Tbl.find s.tempo.txns p.txn = some t) ∧ (t.crossPackage = false)
      ∧ (t.ownedBy p.sender = true) ∧ (t.state = .opened)
      ∧ let u := s.touchTxn p.txn; (u.conflictIn p.txn t = none) ∧ (u.recheck s.nextTempo t.staged = none))
    ∧ (∃ s : State, ∃ p : Packet, ∃ t : Txn, (s.takesRecorded (p.of 0x0B02)) ∧ (s.expireTxns = s)
      ∧ (p.paramLen = 16 ∨ p.paramLen = 0) ∧ (leAt p.params 0 1 = 0) ∧ (leAt p.params 1 7 = 0)
      ∧ (leAt p.params 8 8 = 0) ∧ (Tbl.find s.tempo.txns p.txn = some t) ∧ (t.crossPackage = false)
      ∧ (t.ownedBy p.sender = true) ∧ (t.state = .opened)
      ∧ let u := s.touchTxn p.txn; ∃ j, (u.conflictIn p.txn t = some j))
    ∧ (∃ s : State, ∃ n : Nat, ∃ t : Txn, (Tbl.find s.tempo.txns n = some t) ∧ (t.state = .scheduled) ∧ (s.decides = true)
      ∧ (s.leadBusy = false) ∧ (s.tempo.inProgress = none) ∧ (t.instant ≤ s.nowNs + s.prepareLead t)
      ∧ ((∀ e ∈ s.tempo.txns, t.instant ≤ e.2.instant)))
    ∧ (∃ s : State, ∃ n : Nat, ∃ t : Txn, (Tbl.find s.tempo.txns n = some t) ∧ (t.state = .scheduled) ∧ (s.decides = true)
      ∧ (s.leadBusy = false) ∧ (s.tempo.inProgress = none) ∧ (s.nowNs + s.prepareLead t < t.instant)) :=
  ⟨⟨up, pk 0x0B01 (List.replicate 16 0), by decide +kernel⟩,
    ⟨{ up with tempo := { Tempo.reset with txns := [(9, { state := .opened, owner := pf0 0, crossPackage := false, abortOnReset := false, group := 0, timeoutMs := 30000, deadline := 0, staged := [], instant := 0, tempo := 0, late := false, failJsn := 0, failStatus := 0, commitCmd := none, commitPoint := false })] } },
      9,
      { state := .opened, owner := pf0 0, crossPackage := false, abortOnReset := false, group := 0, timeoutMs := 30000, deadline := 0, staged := [], instant := 0, tempo := 0, late := false, failJsn := 0, failStatus := 0, commitCmd := none, commitPoint := false },
      by decide +kernel⟩,
    ⟨s64, 9, v55, by decide +kernel⟩,
    ⟨s64, { pk 0x0B03 [] with txn := 9 }, v55, by decide +kernel⟩,
    ⟨s64, { pk 0x0B04 [] with txn := 9 }, v55, by decide +kernel⟩,
    ⟨s64, { pk 0x0B02 (List.replicate 16 0) with txn := 9 }, v55, by decide +kernel⟩,
    ⟨{ up with tempo := { Tempo.reset with txns := [(9, { state := .opened, owner := pf0 0, crossPackage := false, abortOnReset := false, group := 0, timeoutMs := 30000, deadline := 10 ^ 12, staged := [{ packet := pk 0x0702 (toLe 4 0 ++ toLe 4 3), jsn := 6, objects := [(8, 1)], handle := none }], instant := 0, tempo := 0, late := false, failJsn := 0, failStatus := 0, commitCmd := none, commitPoint := false })], lastCommit := [(8, 5)] } },
      { pk 0x0B02 (List.replicate 16 0) with txn := 9 },
      { state := .opened, owner := pf0 0, crossPackage := false, abortOnReset := false, group := 0, timeoutMs := 30000, deadline := 10 ^ 12, staged := [{ packet := pk 0x0702 (toLe 4 0 ++ toLe 4 3), jsn := 6, objects := [(8, 1)], handle := none }], instant := 0, tempo := 0, late := false, failJsn := 0, failStatus := 0, commitCmd := none, commitPoint := false },
      by decide +kernel, by decide +kernel, by decide +kernel, by decide +kernel, by decide +kernel, by decide +kernel,
      by decide +kernel, by decide +kernel, by decide +kernel, by decide +kernel, 6, by decide +kernel⟩,
    ⟨{ up with tempo := { Tempo.reset with txns := [(9, { state := .scheduled, owner := pf0 0, crossPackage := false, abortOnReset := false, group := 0, timeoutMs := 30000, deadline := 10 ^ 12, staged := [], instant := 50000, tempo := 0, late := false, failJsn := 0, failStatus := 0, commitCmd := none, commitPoint := false })] } },
      9,
      { state := .scheduled, owner := pf0 0, crossPackage := false, abortOnReset := false, group := 0, timeoutMs := 30000, deadline := 10 ^ 12, staged := [], instant := 50000, tempo := 0, late := false, failJsn := 0, failStatus := 0, commitCmd := none, commitPoint := false },
      by decide +kernel⟩,
    ⟨{ up with tempo := { Tempo.reset with txns := [(9, { state := .scheduled, owner := pf0 0, crossPackage := false, abortOnReset := false, group := 0, timeoutMs := 30000, deadline := 10 ^ 12, staged := [], instant := 10 ^ 12, tempo := 0, late := false, failJsn := 0, failStatus := 0, commitCmd := none, commitPoint := false })] } },
      9,
      { state := .scheduled, owner := pf0 0, crossPackage := false, abortOnReset := false, group := 0, timeoutMs := 30000, deadline := 10 ^ 12, staged := [], instant := 10 ^ 12, tempo := 0, late := false, failJsn := 0, failStatus := 0, commitCmd := none, commitPoint := false },
      by decide +kernel⟩⟩

theorem witness_CommitFlow :
    (∃ s : State, ∃ die : Nat, ∃ c : Commit, (s.tempo.inProgress = some c) ∧ (c.committed = false)
      ∧ (bit c.waiting die = true) ∧ (bit c.prepared die = false) ∧ (s.live die = true)
      ∧ let objs := (s.commitCmds c).flatMap (fun x => x.objects.map (fun e => e.1)); (s.mustWait die objs = true))
    ∧ (∃ s : State, ∃ die : Nat, ∃ c : Commit, (s.tempo.inProgress = some c) ∧ (c.committed = false)
      ∧ (bit c.waiting die = true) ∧ (bit c.prepared die = false) ∧ (s.live die = true)
      ∧ let objs := (s.commitCmds c).flatMap (fun x => x.objects.map (fun e => e.1)); (s.mustWait die objs = false))
    ∧ (∃ s : State, ∃ die : Nat, ∃ c : Commit, (s.tempo.inProgress = some c) ∧ (c.committed = false)
      ∧ (bit c.waiting die = true) ∧ (bit c.prepared die = true) ∧ (s.live die = true) ∧ (s.leadGone = false)
      ∧ (c.failed = none) ∧ (s.recheck c.tempo (s.commitCmds c) = none) ∧ (s.journal.buffered = [])
      ∧ (setBit c.waiting die false ≠ 0))
    ∧ (∃ s : State, ∃ die : Nat, ∃ c : Commit, (s.tempo.inProgress = some c) ∧ (c.committed = false)
      ∧ (bit c.waiting die = true) ∧ (bit c.prepared die = true) ∧ (s.live die = true) ∧ (s.leadGone = false)
      ∧ (c.failed = none) ∧ (s.recheck c.tempo (s.commitCmds c) = none) ∧ (s.journal.buffered = [])
      ∧ (setBit c.waiting die false = 0))
    ∧ (∃ s : State, ∃ die : Nat, ∃ c : Commit, (s.tempo.inProgress = some c) ∧ (c.committed = false)
      ∧ (bit c.waiting die = true) ∧ (bit c.prepared die = true) ∧ (s.live die = true) ∧ (s.leadGone = false)
      ∧ (c.failed = none) ∧ (s.recheck c.tempo (s.commitCmds c) = none) ∧ (s.journal.buffered = [])
      ∧ (setBit c.waiting die false = 0))
    ∧ (∃ s : State, ∃ c : Commit, (s.tempo.inProgress = some c) ∧ (c.committed = true) ∧ (s.ready = true)
      ∧ (s.leadGone = false) ∧ ((s.dieHealth s.roles.lead).pairRestarting = false) ∧ (s.journal.buffered = [])
      ∧ (s.switchDue c = true))
    ∧ (∃ s : State, ∃ c : Commit, (s.tempo.inProgress = some c) ∧ (c.committed = true) ∧ (s.ready = true)
      ∧ (s.leadGone = false) ∧ ((s.dieHealth s.roles.lead).pairRestarting = false) ∧ (s.journal.buffered = [])
      ∧ (s.switchDue c = false))
    ∧ (∃ s : State, ∃ c : Commit, (s.tempo.inProgress = some c) ∧ (c.committed = true))
    ∧ (∃ s : State, (s.tempo.inProgress = none)) :=
  ⟨⟨{ up with tempo := { Tempo.reset with inProgress := some { txn := 0, single := some { packet := pk 0x0702 (toLe 4 0 ++ toLe 4 3), jsn := 6, objects := [(objNum objKeySlot 0 3, 1)], handle := none }, tempo := 1, waiting := 1, prepared := 0, failed := none, committed := false, jsn := 0, result := [], switchAt := 0, notBefore := 0 }, current := 1 }, ciphers := [(0, { Cipher.reset with slots := [(3, { KeySlot.reset with newer := { KeyVersion.reset with state := .active, cfg := 0x41, seq := 5, softLimit := 100, born := 1 }, older := v06 })] })], flight := [(4, v62)] },
      0,
      { txn := 0, single := some { packet := pk 0x0702 (toLe 4 0 ++ toLe 4 3), jsn := 6, objects := [(objNum objKeySlot 0 3, 1)], handle := none }, tempo := 1, waiting := 1, prepared := 0, failed := none, committed := false, jsn := 0, result := [], switchAt := 0, notBefore := 0 },
      by decide +kernel⟩,
    ⟨{ up with tempo := { Tempo.reset with txns := [(9, v55)], inProgress := some { txn := 9, single := none, tempo := 1, waiting := 1, prepared := 0, failed := none, committed := false, jsn := 0, result := [], switchAt := 0, notBefore := 0 } } },
      0,
      { txn := 9, single := none, tempo := 1, waiting := 1, prepared := 0, failed := none, committed := false, jsn := 0, result := [], switchAt := 0, notBefore := 0 },
      by decide +kernel⟩,
    ⟨{ up with tempo := { Tempo.reset with txns := [(9, v55)], inProgress := some { txn := 9, single := none, tempo := 1, waiting := 3, prepared := 1, failed := none, committed := false, jsn := 0, result := [], switchAt := 0, notBefore := 0 } } },
      0,
      { txn := 9, single := none, tempo := 1, waiting := 3, prepared := 1, failed := none, committed := false, jsn := 0, result := [], switchAt := 0, notBefore := 0 },
      by decide +kernel⟩,
    ⟨s76, 0, v35, by decide +kernel⟩,
    ⟨s76, 0, v35, by decide +kernel⟩,
    ⟨s75, v34, by decide +kernel⟩,
    ⟨{ up with tempo := { Tempo.reset with txns := [(9, v55)], inProgress := some { txn := 9, single := none, tempo := 1, waiting := 0, prepared := 1, failed := none, committed := true, jsn := 4, result := [], switchAt := 0, notBefore := 10 } } },
      { txn := 9, single := none, tempo := 1, waiting := 0, prepared := 1, failed := none, committed := true, jsn := 4, result := [], switchAt := 0, notBefore := 10 },
      by decide +kernel⟩,
    ⟨s75, v34, by decide +kernel⟩,
    ⟨up, by decide +kernel⟩⟩

theorem witness_Versions :
    (∃ a : Nat, ∃ b : Nat, (a < 2 ^ 32) ∧ (b < 2 ^ 32))
    ∧ (∃ born : Nat, ∃ t : Nat, (born < 2 ^ 32) ∧ (t < 2 ^ 31))
    ∧ (∃ born : Nat, ∃ t : Nat, (born < 2 ^ 32) ∧ (0 < t) ∧ (t < 2 ^ 31))
    ∧ (∃ born : Nat, ∃ r : Nat, ∃ t : Nat, (born < 2 ^ 32) ∧ (r < 2 ^ 32) ∧ (t < 2 ^ 31))
    ∧ (∃ s : State, ∃ die : Nat, (s.live die = true))
    ∧ (∃ s : State, ∃ die : Nat, (s.live die = true))
    ∧ (∃ current : Nat, ∃ oldest : Nat, ∃ born : Nat, (current < 2 ^ 32) ∧ (born < 2 ^ 32)
      ∧ ((current + 2 ^ 32 - born) % 2 ^ 32 < 2 ^ 29)) :=
  ⟨⟨2 ^ 32 - 1, 2 ^ 31 - 2, by decide +kernel⟩,
    ⟨2 ^ 32 - 1, 2 ^ 31 - 1, by decide +kernel⟩,
    ⟨2 ^ 32 - 1, 2 ^ 31 - 1, by decide +kernel⟩,
    ⟨2 ^ 32 - 1, 5, 2 ^ 31 - 1, by decide +kernel⟩,
    ⟨s54, 0, by decide +kernel⟩,
    ⟨s54, 0, by decide +kernel⟩,
    ⟨2 ^ 29 - 1, 7, 0, by decide +kernel⟩⟩

theorem witness_QueueAdmission :
    (∃ s : State, ∃ die : Nat, ∃ leaf : Nat, ∃ i : Nat, ∃ pkt : TmPkt, ∃ l : TmLeaf, (s.live die = true)
      ∧ let q := { pkt with dest := 2 * 2 ^ 28 + destPort pkt.dest * 2 ^ 22 + leaf % 65536, tc := pkt.tc % 8, ingressClass := pkt.ingressClass % 8 }; let u := s.takeCells die (pkt.cells - (s.tm die).pipeline); ((u.tm die).leafFor q = some i) ∧ ((u.tm die).leaf? i = some l) ∧ (u.admits die l.cells l.maxCells l.alpha q = none))
    ∧ (∃ s : State, ∃ die : Nat, ∃ leaf : Nat, ∃ i : Nat, ∃ pkt : TmPkt, ∃ l : TmLeaf, (s.live die = true)
      ∧ let q := { pkt with dest := 2 * 2 ^ 28 + destPort pkt.dest * 2 ^ 22 + leaf % 65536, tc := pkt.tc % 8, ingressClass := pkt.ingressClass % 8 }; let u := s.takeCells die (pkt.cells - (s.tm die).pipeline); ((u.tm die).leafFor q = none))
    ∧ (∃ s : State, ∃ die : Nat, ∃ leaf : Nat, ∃ d : Nat, ∃ pkt : TmPkt, (s.live die = true) ∧ (pkt.tx = none)
      ∧ (s.cellsBalance d))
    ∧ (∃ s : State, ∃ die : Nat, ∃ dest : Nat, ∃ pkt : TmPkt, (s.live die = true) ∧ (dest < s.dieCount) ∧ (dest ≠ die)
      ∧ (s.dieWorks dest = true)
      ∧ let q := { pkt with tc := pkt.tc % 8, ingressClass := pkt.ingressClass % 8 }; let u := s.takeCells die (pkt.cells - (s.tm die).pipeline); let l := Tbl.look FabricLane.reset (u.tm die).lanes (8 * dest + pkt.tc % 8); (u.admits die ((l.queue.map TmPkt.cells).sum) ((u.tm die).cls (pkt.tc % 8)).fabricMax 3 q = none))
    ∧ (∃ s : State, ∃ die : Nat, ∃ dest : Nat, ∃ pkt : TmPkt, (s.live die = true) ∧ (dest < s.dieCount) ∧ (dest ≠ die)
      ∧ (s.dieWorks dest = false))
    ∧ (∃ s : State, ∃ die : Nat, ∃ dest : Nat, ∃ d : Nat, ∃ pkt : TmPkt, (s.live die = true) ∧ (dest < s.dieCount)
      ∧ (dest ≠ die) ∧ (s.dieWorks dest = true) ∧ (pkt.tx = none) ∧ (s.cellsBalance d)) :=
  ⟨⟨s20, 0, 65535, 3, v50, v43, by decide +kernel⟩,
    ⟨s20, 0, 77, 3, v50, v43, by decide +kernel⟩,
    ⟨s20, 0, 65535, 0, v50, by decide +kernel⟩,
    ⟨s20, 0, 1, v50, by decide +kernel⟩,
    ⟨{ up with roles := { State.reset.roles with failed := 2 } }, 0, 1, v50, by decide +kernel⟩,
    ⟨s20, 0, 1, 0, v50, by decide +kernel⟩⟩

theorem witness_FabricLinks :
    (∃ chan : Nat, (chan < 4))
    ∧ (∃ s : State, ∃ die : Nat, ∃ dim : Nat, (s.ready = true) ∧ (s.dunythUp die dim = true)
      ∧ let own := slotChan (s.linkEnd die dim).slot; let t := s.setLinkEnd die dim { s.linkEnd die dim with slot := ((s.linkEnd die dim).slot + 1) % 16 }; ∃ det, (s.readyLane die dim own = some det))
    ∧ (∃ s : State, ∃ die : Nat, ∃ dim : Nat, (s.ready = true) ∧ (s.dunythUp die dim = true)
      ∧ let own := slotChan (s.linkEnd die dim).slot; let t := s.setLinkEnd die dim { s.linkEnd die dim with slot := ((s.linkEnd die dim).slot + 1) % 16 }; (s.readyLane die dim own = none) ∧ ∃ det, (s.readyLane die dim 1 = some det))
    ∧ (∃ s : State, ∃ die : Nat, ∃ dim : Nat, (s.ready = true) ∧ (s.dunythUp die dim = true)
      ∧ let own := slotChan (s.linkEnd die dim).slot; let t := s.setLinkEnd die dim { s.linkEnd die dim with slot := ((s.linkEnd die dim).slot + 1) % 16 }; (s.readyLane die dim own = none) ∧ (s.readyLane die dim 1 = none) ∧ ∃ det, (s.readyLane die dim 0 = some det))
    ∧ (∃ s : State, ∃ die : Nat, ∃ dim : Nat, (s.ready = true) ∧ (s.dunythUp die dim = true)
      ∧ let own := slotChan (s.linkEnd die dim).slot; let t := s.setLinkEnd die dim { s.linkEnd die dim with slot := ((s.linkEnd die dim).slot + 1) % 16 }; (s.readyLane die dim own = none) ∧ (s.readyLane die dim 1 = none) ∧ (s.readyLane die dim 0 = none) ∧ ∃ det, (s.readyLane die dim 2 = some det))
    ∧ (∃ s : State, ∃ die : Nat, ∃ dim : Nat, (s.ready = true) ∧ (s.dunythUp die dim = true)
      ∧ let own := slotChan (s.linkEnd die dim).slot; let t := s.setLinkEnd die dim { s.linkEnd die dim with slot := ((s.linkEnd die dim).slot + 1) % 16 }; (s.readyLane die dim own = none) ∧ (s.readyLane die dim 1 = none) ∧ (s.readyLane die dim 0 = none) ∧ (s.readyLane die dim 2 = none) ∧ ∃ det, (s.readyLane die dim 3 = some det))
    ∧ (∃ s : State, ∃ die : Nat, ∃ dim : Nat, ∃ chan : Nat, ∃ det : Bool, (s.readyLane die dim chan = some det))
    ∧ (∃ s : State, ∃ die : Nat, ∃ dim : Nat, ∃ chan : Nat, ∃ det : Bool, (chan ≠ 2 ∨ det = true)
      ∧ let x := s.laneOf (laneKey die dim chan det); let back := laneKey (die ^^^ 2 ^ dim) dim chan det; let t := s.sendFlit die dim chan det; let sent : Flit := { chan := chan, credits := (s.laneOf back).freed, seq := (s.linkEnd die dim).seq, parts := (packFlit 125 x.sendQ).1 }; True)
    ∧ (∃ s : State, ∃ die : Nat, ∃ dim : Nat, ∃ chan : Nat, ∃ det : Bool, ∃ f : Flit, ∃ rest : List Flit, ∃ m : MsgPart,
      (s.ready = true) ∧ (s.dunythUp die dim = true) ∧ (chan < 4)
      ∧ ((s.laneOf (laneKey (die ^^^ 2 ^ dim) dim chan det)).buffer = f :: rest) ∧ (f.parts = [m]) ∧ (m.dst = die)
      ∧ let t := s.setLaneOf (laneKey (die ^^^ 2 ^ dim) dim chan det) { s.laneOf (laneKey (die ^^^ 2 ^ dim) dim chan det) with buffer := rest, freed := (s.laneOf (laneKey (die ^^^ 2 ^ dim) dim chan det)).freed + 1 }; True)
    ∧ (∃ s : State, ∃ die : Nat, ∃ dim : Nat, ∃ chan : Nat, ∃ n : Nat, ∃ det : Bool, ∃ lane : Bool, ∃ f : Flit,
      ∃ rest : List Flit, ∃ m : MsgPart, (s.ready = true) ∧ (s.dunythUp die dim = true) ∧ (chan < 4)
      ∧ ((s.laneOf (laneKey (die ^^^ 2 ^ dim) dim chan lane)).buffer = f :: rest) ∧ (f.parts = [m]) ∧ (m.dst ≠ die)
      ∧ (s.nextHop die m.dst (lane || m.detoured) = some (n, det))
      ∧ let on := lane || m.detoured; (125 < (s.laneOf (laneKey die n chan on)).waiting))
    ∧ (∃ s : State, ∃ die : Nat, ∃ dim : Nat, ∃ chan : Nat, ∃ n : Nat, ∃ det : Bool, ∃ lane : Bool, ∃ f : Flit,
      ∃ rest : List Flit, ∃ m : MsgPart, (s.ready = true) ∧ (s.dunythUp die dim = true) ∧ (chan < 4)
      ∧ ((s.laneOf (laneKey (die ^^^ 2 ^ dim) dim chan lane)).buffer = f :: rest) ∧ (f.parts = [m]) ∧ (m.dst ≠ die)
      ∧ (s.nextHop die m.dst (lane || m.detoured) = some (n, det))
      ∧ let on := lane || m.detoured; ((s.laneOf (laneKey die n chan on)).waiting ≤ 125))
    ∧ (∃ s : State, ∃ die : Nat, ∃ src : Nat, ∃ c : Nat, ∃ on : Bool, (s.live die = true) ∧ (c < 8) ∧ (src < s.dieCount))
    ∧ (∃ s : State, ∃ die : Nat, ∃ dest : Nat, ∃ c : Nat, (bit (Tbl.look 0 (s.tm die).pausedByDest dest) c = true) ∧ ∃ k,
      (k ∈ s.fabricKids die dest)) :=
  ⟨⟨3, by decide +kernel⟩,
    ⟨{ up with fabric := [(laneKey 0 0 0 false, { sendQ := [({ msg := 4, src := 0, dst := 1, detoured := false, bytes := 100, load := some (.message 3 77) } : MsgPart)], buffer := [], freed := 0 })] },
      0, 0, by decide +kernel, by decide +kernel, false, by decide +kernel⟩,
    ⟨{ up with fabric := [(laneKey 0 0 1 false, { sendQ := [({ msg := 4, src := 0, dst := 1, detoured := false, bytes := 100, load := some (.message 3 77) } : MsgPart)], buffer := [], freed := 0 })] },
      0, 0, by decide +kernel, by decide +kernel, by decide +kernel, false, by decide +kernel⟩,
    ⟨{ up with fabric := [(laneKey 0 0 0 false, { sendQ := [({ msg := 4, src := 0, dst := 1, detoured := false, bytes := 100, load := some (.message 3 77) } : MsgPart)], buffer := [], freed := 0 })], linkEnds := [(0, { LinkEnd.reset with slot := 15 })] },
      0, 0, by decide +kernel, by decide +kernel, by decide +kernel, by decide +kernel, false, by decide +kernel⟩,
    ⟨{ up with fabric := [(laneKey 0 0 2 false, { sendQ := [({ msg := 4, src := 0, dst := 1, detoured := false, bytes := 100, load := some (.message 3 77) } : MsgPart)], buffer := [], freed := 0 })] },
      0, 0, by decide +kernel, by decide +kernel, by decide +kernel, by decide +kernel, by decide +kernel, false,
      by decide +kernel⟩,
    ⟨{ up with fabric := [(laneKey 0 0 3 false, { sendQ := [({ msg := 4, src := 0, dst := 1, detoured := false, bytes := 100, load := some (.message 3 77) } : MsgPart)], buffer := [], freed := 0 })] },
      0, 0, by decide +kernel, by decide +kernel, by decide +kernel, by decide +kernel, by decide +kernel,
      by decide +kernel, false, by decide +kernel⟩,
    ⟨{ up with fabric := [(laneKey 0 0 2 true, { sendQ := [({ msg := 4, src := 0, dst := 1, detoured := false, bytes := 100, load := some (.message 3 77) } : MsgPart)], buffer := List.replicate 31 ({ chan := 2, credits := 0, seq := 5, parts := [({ msg := 4, src := 0, dst := 1, detoured := false, bytes := 100, load := some (.message 3 77) } : MsgPart)] } : Flit), freed := 0 })] },
      0, 0, 2, true, by decide +kernel⟩,
    ⟨up, 0, 0, 1, false, by decide +kernel⟩,
    ⟨{ up with fabric := [(laneKey 0 0 2 true, { sendQ := [], buffer := [({ chan := 2, credits := 0, seq := 5, parts := [({ msg := 4, src := 0, dst := 1, detoured := false, bytes := 100, load := some (.message 3 77) } : MsgPart)] } : Flit)], freed := 0 })] },
      1, 0, 2, true,
      ({ chan := 2, credits := 0, seq := 5, parts := [({ msg := 4, src := 0, dst := 1, detoured := false, bytes := 100, load := some (.message 3 77) } : MsgPart)] } : Flit),
      [], ({ msg := 4, src := 0, dst := 1, detoured := false, bytes := 100, load := some (.message 3 77) } : MsgPart),
      by decide +kernel⟩,
    ⟨{ up with fabric := [(laneKey 0 0 2 false, { sendQ := [], buffer := [v37], freed := 0 }), (laneKey 1 1 2 false, { sendQ := [v16], buffer := [], freed := 0 })] },
      1, 0, 2, 1, false, false, v37, [], v16, by decide +kernel⟩,
    ⟨{ up with fabric := [(laneKey 0 0 2 false, { sendQ := [], buffer := [v37], freed := 0 })] }, 1, 0, 2, 1, false, false,
      v37, [], v16, by decide +kernel⟩,
    ⟨up, 0, 1, 2, true, by decide +kernel⟩,
    ⟨{ up with tms := [(0, { Tm.reset with lanes := [(8 + 3, { FabricLane.reset with queue := [v50] }), (8 + 4, { FabricLane.reset with queue := [v50] })], pausedByDest := [(1, 8)] })] },
      0, 1, 3, by decide +kernel,
      ({ id := 4, prio := 0, st := 0, deficit := 0, fresh := FabricLane.reset.fresh, quantum := 150, len := 64 } : Child),
      by decide +kernel⟩⟩

theorem witness_Scheduling :
    (∃ s : State, ∃ port : Nat, ∃ leaf : Nat, ∃ len : Nat, ∃ t : Tm, ∃ l : TmLeaf, ∃ k : TmPkt, ∃ rest : List TmPkt,
      (s.live (port / 8) = true) ∧ ((s.port port).present = true)
      ∧ let g := s.gateRefresh port; let now := g.modPort port Port.txSafe; (now.choosePort port = some (leaf, len, t)) ∧ (t.leaf? leaf = some l) ∧ (l.queue = k :: rest) ∧ (k.sourceKind = 0))
    ∧ (∃ s : State, ∃ port : Nat, (s.live (port / 8) = true) ∧ ((s.port port).present = true)
      ∧ let g := s.gateRefresh port; ((g.modPort port Port.txSafe).choosePort port = none) ∧ ((g.port port).partialTx = none))
    ∧ (∃ s : State, ∃ port : Nat, ∃ l : TmLeaf, (bit (s.gateOf port).gates l.tc = false))
    ∧ (∃ s : State, ∃ port : Nat, ∃ l : TmLeaf, (bit (s.port port).paused l.tc = true)
      ∧ (bit (s.port port).tripped l.tc = false))
    ∧ (∃ s : State, ∃ port : Nat, ∃ n : GateList, ((s.gateOf port).next = some n) ∧ (s.live (port / 8) = true)
      ∧ (n.takeover ≤ s.nsAt (port / 8)))
    ∧ (∃ s : State, ∃ port : Nat, ∃ n : GateList, ((s.gateOf port).next = some n) ∧ (s.live (port / 8) = true)
      ∧ (s.nsAt (port / 8) < n.takeover))
    ∧ (∃ s : State, ∃ port : Nat, ∃ l : GateList, ∃ gates : Nat, ∃ n : Nat, (s.live (port / 8) = true)
      ∧ ((s.gateOf port).next = none) ∧ ((s.gateOf port).running = some l)
      ∧ (l.entries[l.entryAt (s.nsAt (port / 8))]? = some (0, gates, n))
      ∧ (l.cycleOf (s.nsAt (port / 8)) = (s.gateOf port).cycleNo)
      ∧ (l.entryAt (s.nsAt (port / 8)) = (s.gateOf port).entry + 1) ∧ (gates = (s.gateOf port).gates)
      ∧ ((s.gateOf port).hold = (s.port port).hold))
    ∧ (∃ s : State, ∃ port : Nat, ∃ l : GateList, ((s.gateOf port).next = none) ∧ ((s.gateOf port).running = some l)
      ∧ (l.cycleOf (s.nsAt (port / 8)) = (s.gateOf port).cycleNo)
      ∧ (l.entryAt (s.nsAt (port / 8)) = (s.gateOf port).entry))
    ∧ (∃ base : Nat, ∃ cycle : Nat, ∃ decided : Nat, (0 < cycle)) :=
  ⟨⟨{ up with tms := [(0, (Tm.reset.createTree 0).setLeaf 3 v72)], ports := [(0, { Port.reset with present := true, phase := .up })] },
      0, 3, 84,
      ((State.choosePort { up with tms := [(0, (Tm.reset.createTree 0).setLeaf 3 v72)], ports := [(0, { Port.reset with present := true, phase := .up })] } 0).getD (0,
      0, Tm.reset)).2.2,
      (({ up with tms := [(0, (Tm.reset.createTree 0).setLeaf 3 v72)], ports := [(0, { Port.reset with present := true, phase := .up })] } : State).choosePort 0).map (fun x => (x.2.2.leaf? 3).getD v43) |>.getD v43, v50, [], by decide +kernel⟩,
    ⟨s20, 0, by decide +kernel⟩,
    ⟨{ up with tms := [(0, ({ Tm.reset.createTree 0 with gates := [(0, ({ GateCtl.reset with gates := 0xF7 } : GateCtl))] }))], ports := [(0, { Port.reset with present := true, phase := .up })] },
      0, v72, by decide +kernel⟩,
    ⟨{ up with ports := [(0, { Port.reset with present := true, phase := .up, paused := 8 })] }, 0, v72, by decide +kernel⟩,
    ⟨{ up with tms := [(0, ({ Tm.reset.createTree 0 with gates := [(0, { GateCtl.reset with next := some v20 })] }))], ports := [(0, { Port.reset with present := true, phase := .up })] },
      0, v20, by decide +kernel⟩,
    ⟨{ up with tms := [(0, ({ Tm.reset.createTree 0 with gates := [(0, { GateCtl.reset with next := some ({ base := 0, cycle := 2000, extension := 0, takeover := 10 ^ 9, entries := [(0, 255, 1000), (0, 255, 1000)] } : GateList) })] }))], ports := [(0, { Port.reset with present := true, phase := .up })] },
      0,
      ({ base := 0, cycle := 2000, extension := 0, takeover := 10 ^ 9, entries := [(0, 255, 1000), (0, 255, 1000)] } : GateList),
      by decide +kernel⟩,
    ⟨{ up with tms := [(0, ({ Tm.reset.createTree 0 with gates := [(0, { GateCtl.reset with running := some ({ base := 500, cycle := 2000, extension := 0, takeover := 0, entries := [(0, 255, 1000), (0, 255, 1000)] } : GateList), cycleNo := -1, gates := 255 })] }))], ports := [(0, { Port.reset with present := true, phase := .up })] },
      0,
      ({ base := 500, cycle := 2000, extension := 0, takeover := 0, entries := [(0, 255, 1000), (0, 255, 1000)] } : GateList),
      255, 1000, by decide +kernel⟩,
    ⟨{ up with tms := [(0, ({ Tm.reset.createTree 0 with gates := [(0, { GateCtl.reset with running := some v20 })] }))], ports := [(0, { Port.reset with present := true, phase := .up })], timeModel := { State.reset.timeModel with valid := true } },
      0, v20, by decide +kernel⟩,
    ⟨5, 7, 100, by decide +kernel⟩⟩

theorem witness_TrafficCommands :
    (∃ s : State, ∃ p : Packet, (s.takesRecorded (p.of 0x8503)) ∧ (p.paramLen = 32) ∧ (leAt p.params 1 1 = 1)
      ∧ (leAt p.params 2 2 = 1) ∧ (leAt p.params 4 4 = 0) ∧ (s.portStatusOf (leAt p.params 0 1) = none)
      ∧ (1000 ≤ leAt p.params 0x10 4) ∧ (leAt p.params 0x10 4 ≤ 1000000000)
      ∧ (leAt p.params 0x14 4 ≤ leAt p.params 0x10 4) ∧ (leAt p.params 0x18 1 ≤ 2) ∧ (10 ≤ leAt p.params 0x1C 4)
      ∧ (leAt p.params 0x1C 4 ≤ 1000000000) ∧ (leAt p.params 0x1A 2 = 0)
      ∧ let port := leAt p.params 0 1; let at_ := takeoverAt (leAt p.params 8 8) (leAt p.params 0x10 4) (s.nsAt s.roles.lead); let l : GateList := { base := leAt p.params 8 8, cycle := leAt p.params 0x10 4, extension := leAt p.params 0x14 4, takeover := at_, entries := [(leAt p.params 0x18 1, leAt p.params 0x19 1, leAt p.params 0x1C 4)] }; True)
    ∧ (∃ s : State, ∃ p : Packet, (s.takesRecorded (p.of 0x8503)) ∧ (p.paramLen = 24) ∧ (leAt p.params 1 1 = 0)
      ∧ (leAt p.params 2 2 = 0) ∧ (leAt p.params 4 4 = 0) ∧ (leAt p.params 8 8 = 0) ∧ (leAt p.params 0x10 4 = 0)
      ∧ (leAt p.params 0x14 4 = 0) ∧ (s.portStatusOf (leAt p.params 0 1) = none))
    ∧ (∃ s : State, ∃ p : Packet, ∃ n : TmNode, (s.takes (p.of 0x0502)) ∧ (p.paramLen = 8) ∧ (leAt p.params 1 1 = 2)
      ∧ (leAt p.params 2 2 = 0) ∧ (s.dieStatus (leAt p.params 0 1) = none) ∧ (leAt p.params 4 4 < 8192)
      ∧ let t := s.tm (leAt p.params 0 1); let i := leAt p.params 4 4; let h := n.shaper.at (s.clockAt (leAt p.params 0 1)); (t.node? 2 i = some n) ∧ (t.leavesOf i = []))
    ∧ (∃ s : State, ∃ p : Packet, (s.takes (p.of 0x0502)) ∧ (p.paramLen ≠ 8)) :=
  ⟨⟨s20,
      pk 0x8503 (by8 [0,1,1,0,0,0,0,0] ++ toLe 8 5 ++ toLe 4 1000000000 ++ toLe 4 1000000000 ++ by8 [2,0xFE,0,0] ++ toLe 4 10),
      by decide +kernel⟩,
    ⟨s20, pk 0x8503 (List.replicate 24 0), by decide +kernel⟩,
    ⟨{ up with tms := [(0, (Tm.reset).setNode 2 8191 (defaultNode 0 0))] }, pk 0x0502 (by8 [0,2,0,0] ++ toLe 4 8191),
      defaultNode 0 0, by decide +kernel⟩,
    ⟨s20, pk 0x0502 [], by decide +kernel⟩⟩

theorem witness_TrafficChanges :
    (∃ h : Shaper, ∃ now : Nat, (h.tokensC + (((now - h.last) * h.cir : Nat) : Int) ≤ ((h.cbs * byteUnits : Nat) : Int)))
    ∧ (∃ h : Shaper, ∃ n : Nat, (h.enable = true) ∧ (0 < n) ∧ (h.cir ≠ 0) ∧ (h.pir ≠ 0) ∧ (h.tokensC = 0) ∧ (h.tokensP = 0))
    ∧ (∃ s : State, ∃ p : Packet, ∃ l : TmLeaf, (p.paramLen = 24) ∧ (leAt p.params 1 1 = 3) ∧ (leAt p.params 2 1 = 1)
      ∧ (leAt p.params 3 1 = 0) ∧ (s.dieStatus (leAt p.params 0 1) = none)
      ∧ (badRates (leAt p.params 8 4) (leAt p.params 0x0C 4) (leAt p.params 0x10 4) (leAt p.params 0x14 4) = false)
      ∧ ((s.tm (leAt p.params 0 1)).leaf? (leAt p.params 4 4) = some l))
    ∧ (∃ s : State, ∃ p : Packet, ∃ r : RateProfile, ∃ n : TmNode, (p.paramLen = 24) ∧ (leAt p.params 3 1 = 0)
      ∧ (leAt p.params 5 3 = 0) ∧ (leAt p.params 0x14 4 = 0) ∧ (mClass (leAt p.params 0 3) = 0)
      ∧ (fnPf (leAt p.params 0 3) ≤ 1) ∧ (s.portStatusOf (leAt p.params 4 1) = none) ∧ (leAt p.params 0x10 4 = 0)
      ∧ (badRates (leAt p.params 8 4) (profileBucket (leAt p.params 8 4)) (leAt p.params 0x0C 4) (profileBucket (leAt p.params 0x0C 4)) = false)
      ∧ ((s.func (leAt p.params 0 3)).provisioned = true) ∧ (s.dieStatus (mDie (leAt p.params 0 3)) = none)
      ∧ let die := leAt p.params 4 1 / 8; ((s.tm die).profiles.find? (fun x => x.fn == leAt p.params 0 3 && x.port == leAt p.params 4 1) = some r) ∧ ((s.tm die).node? 2 r.node = some n))
    ∧ (∃ s : State, ∃ p : Packet, ∃ l : TmLeaf, (p.paramLen = 32) ∧ (leAt p.params 1 1 = 1) ∧ (leAt p.params 2 1 = 0)
      ∧ (leAt p.params 3 1 = 0) ∧ (s.dieStatus (leAt p.params 0 1) = none)
      ∧ (allZero (sub p.params 0x15 3 ++ sub p.params 0x1C 4) = true) ∧ (leAt p.params 4 4 < 65535)
      ∧ (leAt p.params 8 1 ≤ 7) ∧ (leAt p.params 9 1 ≤ 7) ∧ (leAt p.params 0x0A 2 ≠ 0) ∧ (leAt p.params 0x10 4 ≠ 0)
      ∧ (leAt p.params 0x10 4 ≤ 196608) ∧ (leAt p.params 0x14 1 ≤ 7) ∧ (leAt p.params 0x18 4 = 0xFFFFFFFF)
      ∧ let die := leAt p.params 0 1; let i := leAt p.params 4 4; ((s.tm die).leaf? i = some l) ∧ (l.profile = false) ∧ ((s.tm die).badParent 3 (leAt p.params 0x0C 4) ((s.tm die).portOf 3 i) = none) ∧ (l.parent = leAt p.params 0x0C 4) ∧ (l.quantum = leAt p.params 0x0A 2))
    ∧ (∃ s : State, ∃ p : Packet, (p.paramLen = 32) ∧ (leAt p.params 1 1 = 0) ∧ (leAt p.params 2 1 = 1)
      ∧ (leAt p.params 3 1 = 0) ∧ (s.dieStatus (leAt p.params 0 1) = none) ∧ (allZero (sub p.params 8 24) = true)
      ∧ (leAt p.params 4 4 < 8)) :=
  ⟨⟨{ Shaper.reset with enable := true, cir := 8, cbs := 100, pir := 16, pbs := 100 }, 50, by decide +kernel⟩,
    ⟨{ Shaper.reset with enable := true, cir := 8, cbs := 100, pir := 16, pbs := 100, tokensC := 0, tokensP := 0 }, 84,
      by decide +kernel⟩,
    ⟨s20, pk 0x8502 (by8 [0,3,1,0,3,0,0,0] ++ toLe 4 8 ++ toLe 4 64 ++ toLe 4 800000000 ++ toLe 4 64), v43,
      by decide +kernel⟩,
    ⟨{ up with tms := [(0, ({ Tm.reset.createTree 0 with profiles := [{ fn := pf0 0, port := 0, node := 64, leaves := [] }] } : Tm).setNode 2 64 (defaultNode 0 0))], ports := [(0, { Port.reset with present := true, phase := .up })] },
      pk 0x8501 (toLe 3 (pf0 0) ++ by8 [0,0,0,0,0] ++ toLe 4 8 ++ toLe 4 16 ++ toLe 8 0),
      { fn := pf0 0, port := 0, node := 64, leaves := [] }, defaultNode 0 0, by decide +kernel⟩,
    ⟨s20, pk 0x8501 (by8 [0,1,0,0,3,0,0,0,
      7,7,144,0] ++ toLe 4 0 ++ toLe 4 196608 ++ by8 [7,0,0,0] ++ toLe 4 0xFFFFFFFF ++ toLe 4 0), v43,
      by decide +kernel⟩,
    ⟨s20, pk 0x8501 (by8 [0,0,1,0,3,0,0,0] ++ List.replicate 24 0), by decide +kernel⟩⟩

theorem witness_LookupChoice :
    (∃ p : Pipe, ∃ d : TableDecl, ∃ key : List Byte, ∃ tempo : Nat, ∃ e : TEntry, ∃ x : TEntry, (d.kind.isLpm = true)
      ∧ (p.find d key tempo = some e) ∧ (x ∈ p.entries) ∧ (x.table = d.table) ∧ (x.visible tempo = true)
      ∧ (maskPrefix key x.prefixLen = x.key))
    ∧ (∃ p : Pipe, ∃ d : TableDecl, ∃ key : List Byte, ∃ tempo : Nat, ∃ e : TEntry, ∃ x : TEntry, (d.kind = .tcam)
      ∧ (p.find d key tempo = some e) ∧ (x ∈ p.entries) ∧ (x.table = d.table) ∧ (x.visible tempo = true)
      ∧ (maskedEq key x.key x.mask = true))
    ∧ (∃ p : Pipe, ∃ d : TableDecl, ∃ key : List Byte, ∃ tempo : Nat, ∃ x : TEntry, (d.kind = .tcam) ∧ (x ∈ p.entries)
      ∧ (x.table = d.table) ∧ (x.visible tempo = true) ∧ (maskedEq key x.key x.mask = true))
    ∧ (∃ p : Pipe, ∃ d : TableDecl, ∃ key : List Byte, ∃ tempo : Nat, ((∀ x ∈ p.entries, x.visible tempo = false))) :=
  ⟨⟨{ Pipe.reset with entries := [{ table := 5, key := [0, 0, 10, 0, 0, 0], mask := [], prefixLen := 8, priority := 1, place := 0, born := 0, retired := none, action := 9, dataPlane := false, pinned := false, params := [3] }, { table := 5, key := [0, 0, 10, 1, 0, 0], mask := [], prefixLen := 16, priority := 1, place := 1, born := 0, retired := none, action := 9, dataPlane := false, pinned := false, params := [3] }] },
      v18, [0, 0, 10, 1, 2, 3], 0,
      { table := 5, key := [0, 0, 10, 1, 0, 0], mask := [], prefixLen := 16, priority := 1, place := 1, born := 0, retired := none, action := 9, dataPlane := false, pinned := false, params := [3] },
      { table := 5, key := [0, 0, 10, 0, 0, 0], mask := [], prefixLen := 8, priority := 1, place := 0, born := 0, retired := none, action := 9, dataPlane := false, pinned := false, params := [3] },
      by decide +kernel⟩,
    ⟨v68, v15, [1, 2], 0,
      { table := 5, key := [1, 2], mask := [0, 255], prefixLen := 0, priority := 2, place := 99, born := 0, retired := none, action := 9, dataPlane := false, pinned := false, params := [3] },
      v39, by decide +kernel⟩,
    ⟨v68, v15, [1, 2], 0, v39, by decide +kernel⟩,
    ⟨Pipe.reset, v18, [0, 0, 10, 1, 2, 3], 0, by decide +kernel⟩⟩

theorem witness_TableChanges :
    (∃ s : State, ∃ p : Packet, ∃ x : EntrySpec, ∃ die : Nat, ∃ n : Nat, ∃ tempo : Nat, (parseEntry 0 p s = .ok x)
      ∧ (s.namedDies x.dies = [die]) ∧ (x.replace = false) ∧ (x.decl.kind = .exact) ∧ ((s.pipe die).named x tempo = [])
      ∧ (s.placeFor die x 0 = .ok n))
    ∧ (∃ s : State, ∃ p : Packet, ∃ x : EntrySpec, ∃ die : Nat, ∃ tempo : Nat, ∃ e : TEntry, (parseEntry 0 p s = .ok x)
      ∧ (s.namedDies x.dies = [die]) ∧ (x.replace = false) ∧ (e ∈ (s.pipe die).named x tempo) ∧ (e.dataPlane = false))
    ∧ (∃ s : State, ∃ p : Packet, ∃ x : EntrySpec, ∃ die : Nat, ∃ tempo : Nat, ∃ e : TEntry, (parseEntry 1 p s = .ok x)
      ∧ (s.namedDies x.dies = [die]) ∧ ((s.pipe die).named x tempo = [e]))
    ∧ (∃ s : State, ∃ p : Packet, ∃ x : EntrySpec, ∃ die : Nat, ∃ tempo : Nat, (parseEntry 1 p s = .ok x)
      ∧ (s.namedDies x.dies = [die]) ∧ ((s.pipe die).named x tempo = []))
    ∧ (∃ s : State, ∃ p : Packet, ∃ x : EntrySpec, ∃ die : Nat, ∃ n : Nat, ∃ tempo : Nat, ∃ e : TEntry,
      (parseEntry 2 p s = .ok x) ∧ (s.namedDies x.dies = [die]) ∧ (x.replace = true) ∧ (x.decl.kind = .exact)
      ∧ ((s.pipe die).named x tempo = [e]) ∧ (s.placeFor die { x with pinned := x.pinned && !e.pinned } 0 = .ok n))
    ∧ (∃ q : Pipe, ∃ x : EntrySpec, ∃ n : Nat, ∃ tempo : Nat, (x.decl.kind = .exact) ∧ (q.named x tempo = [])
      ∧ (tempo < 2 ^ 32))
    ∧ (∃ q : Pipe, ∃ d : TableDecl, ∃ e : TEntry, ∃ tempo : Nat, ∃ t : Nat, (e ∈ q.entries) ∧ (e.retired = none)
      ∧ (e.born ≠ tempo) ∧ (e.visible t = true) ∧ (earlier t tempo = true)) :=
  ⟨⟨s59, p05, v57, 0, 0, 3, by decide +kernel⟩,
    ⟨s73, p05, v57, 0, 3, v38, by decide +kernel⟩,
    ⟨s73, p06, v58, 0, 3, v38, by decide +kernel⟩,
    ⟨s59, p06, v58, 0, 3, by decide +kernel⟩,
    ⟨s73, pk 0x0401 (by8 [5,1,4,2,1,0,0,0,0,0,0,0,0,0,0,0,1,2,0,0] ++ by8 []),
      ({ decl := v17, dies := 1, key := [1, 2], mask := [], prefixLen := 0, priority := 0, action := 1, params := [], pinned := false, replace := true, at_ := none, txn := some 0 } : EntrySpec),
      0, 1, 3, v38, by decide +kernel⟩,
    ⟨{ Pipe.reset with entries := [{ table := 6, key := [1, 2], mask := [255, 255], prefixLen := 0, priority := 1, place := 0, born := 0, retired := none, action := 9, dataPlane := false, pinned := false, params := [3] }] },
      ({ decl := v17, dies := 1, key := [1, 2], mask := [], prefixLen := 0, priority := 0, action := 9, params := [3], pinned := false, replace := false, at_ := none, txn := some 0 } : EntrySpec),
      4, 2 ^ 32 - 1, by decide +kernel⟩,
    ⟨{ Pipe.reset with entries := [v38] }, v17, v38, 2 ^ 31 - 1, 0, by decide +kernel⟩⟩

theorem witness_RecordChanges :
    (∃ s : State, ∃ p : Packet, ∃ die : Nat, ∃ tempo : Nat, (p.paramLen = 40) ∧ (leAt p.params 0 1 = 0)
      ∧ (leAt p.params 2 2 = 1) ∧ (leAt p.params 4 4 < 8192) ∧ (s.diesStatus (leAt p.params 1 1) = none)
      ∧ (s.namedDies (leAt p.params 1 1) = [die]))
    ∧ (∃ s : State, ∃ p : Packet, ∃ die : Nat, ∃ tempo : Nat, (p.paramLen = 12) ∧ (leAt p.params 0 1 = 3)
      ∧ (leAt p.params 2 2 = 1) ∧ (p.txn = 0) ∧ (leAt p.params 4 4 + leAt p.params 8 4 ≤ 4194304)
      ∧ (s.diesStatus (leAt p.params 1 1) = none) ∧ (s.namedDies (leAt p.params 1 1) = [die]))
    ∧ (∃ s : State, ∃ p : Packet, ∃ die : Nat, ∃ tempo : Nat, (p.paramLen = 28) ∧ (leAt p.params 0 1 = 4)
      ∧ (leAt p.params 2 1 = 0) ∧ (leAt p.params 3 1 = 0) ∧ (leAt p.params 4 4 < 32768)
      ∧ (policerBad (p.params.drop 8) = false) ∧ (s.diesStatus (leAt p.params 1 1) = none)
      ∧ (s.namedDies (leAt p.params 1 1) = [die]))
    ∧ (∃ s : State, ∃ p : Packet, ∃ die : Nat, ∃ tempo : Nat, (p.paramLen = 8) ∧ (leAt p.params 0 1 = 4)
      ∧ (leAt p.params 2 1 = 1) ∧ (leAt p.params 3 1 = 0) ∧ (leAt p.params 4 4 < 32768)
      ∧ (s.diesStatus (leAt p.params 1 1) = none) ∧ (s.namedDies (leAt p.params 1 1) = [die]))
    ∧ (∃ v : Versioned, ∃ bs : List Byte, ∃ tempo : Nat, ∃ t : Nat, (earlier t tempo = false))
    ∧ (∃ v : Versioned, ∃ bs : List Byte, ∃ tempo : Nat, ∃ t : Nat, (earlier t tempo = true))
    ∧ (∃ s : State, ∃ p : Packet, (s.takesRecorded (p.of 0x8403)) ∧ (p.paramLen = 12) ∧ (leAt p.params 0 1 = 3)
      ∧ (leAt p.params 2 2 = 1) ∧ (p.txn = 0) ∧ (leAt p.params 4 4 + leAt p.params 8 4 ≤ 4194304)
      ∧ (s.diesStatus (leAt p.params 1 1) = none) ∧ ∃ die, (s.namedDies (leAt p.params 1 1) = [die])) :=
  ⟨⟨up, pk 0x8403 (by8 [0,2,1,0] ++ toLe 4 8191 ++ List.replicate 32 7), 1, 1, by decide +kernel⟩,
    ⟨up, p02, 1, 1, by decide +kernel⟩,
    ⟨up, pk 0x0404 (by8 [4,2,0,0] ++ toLe 4 32767 ++ by8 [1,0,0,0] ++ toLe 4 8 ++ toLe 4 0 ++ toLe 4 1518 ++ toLe 4 0), 1,
      1, by decide +kernel⟩,
    ⟨up, pk 0x0404 (by8 [4,1,1,0] ++ toLe 4 32767), 0, 3, by decide +kernel⟩,
    ⟨v05, [3], 5, 5, by decide +kernel⟩,
    ⟨v05, [3], 5, 4, by decide +kernel⟩,
    ⟨up, p02, by decide +kernel, by decide +kernel, by decide +kernel, by decide +kernel, by decide +kernel,
      by decide +kernel, by decide +kernel, 1, by decide +kernel⟩⟩

theorem witness_KeyAndMappingChanges :
    (∃ s : State, ∃ p : Packet, ∃ tempo : Nat, (p.paramLen = 88) ∧ (leAt p.params 1 3 = 0) ∧ (leAt p.params 4 4 < 2 ^ 17)
      ∧ (cfgGood (leAt p.params 0x38 8) = true)
      ∧ (s.pageForbids (leAt p.params 0 1) (leAt p.params 4 4) (leAt p.params 0x38 8) = false)
      ∧ (s.dieStatus (leAt p.params 0 1) = none))
    ∧ (∃ s : State, ∃ p : Packet, ∃ tempo : Nat, ∃ v : KeyVersion, (p.paramLen = 8) ∧ (leAt p.params 1 3 = 0)
      ∧ (leAt p.params 4 4 < 2 ^ 17) ∧ (s.dieStatus (leAt p.params 0 1) = none)
      ∧ ((s.keySlot (leAt p.params 0 1) (leAt p.params 4 4)).at tempo = some v))
    ∧ (∃ s : State, ∃ p : Packet, ∃ tempo : Nat, (p.paramLen = 8) ∧ (leAt p.params 1 3 = 0) ∧ (leAt p.params 4 4 < 2 ^ 17)
      ∧ (s.dieStatus (leAt p.params 0 1) = none) ∧ ((s.keySlot (leAt p.params 0 1) (leAt p.params 4 4)).at tempo = none))
    ∧ (∃ cfg : Nat, ∃ id : Nat, ∃ limit : Nat, ∃ born : Nat, (bits cfg 3 0 ≠ 3) ∧ (bit cfg 6 = true))
    ∧ (∃ s : State, ∃ p : Packet, (s.checkMapping p = none) ∧ (leAt p.params 3 1 = 0))
    ∧ (∃ s : State, ∃ p : Packet, ∃ st : Nat, (s.checkMapping p = some st)) :=
  ⟨⟨up,
      pk 0x0701 (toLe 4 0 ++ toLe 4 131071 ++ toLe 32 77 ++ toLe 12 5 ++ toLe 4 1 ++ toLe 8 0x41 ++ toLe 8 9 ++ toLe 8 0 ++ toLe 8 100),
      1, by decide +kernel⟩,
    ⟨s44, pk 0x0702 (toLe 4 0 ++ toLe 4 3), 1, v06, by decide +kernel⟩,
    ⟨up, pk 0x0702 (toLe 4 0 ++ toLe 4 131071), 1, by decide +kernel⟩,
    ⟨0x41, 0, 0, 0, by decide +kernel⟩,
    ⟨((State.setQueue up (pf0 0) 0 (newQueue (toLe 32 256) none))),
      pk 0x8301 (toLe 3 (pf0 0) ++ by8 [0,0,128,0,0] ++ List.replicate 128 0), by decide +kernel⟩,
    ⟨up, pk 0x8301 (toLe 3 (pf0 0) ++ by8 [2,0,128,0,0]), stBadParam, by decide +kernel⟩⟩

theorem witness_TimeModelRules :
    (∃ s : State, ∃ p : Packet, (s.takes (p.of 0x0601)) ∧ (p.paramLen = 0))
    ∧ (∃ s : State, ∃ p : Packet, (s.takesRecorded (p.of 0x0602)) ∧ (s.timeModel.pending = none) ∧ (p.paramLen = 16)
      ∧ (leAt p.params 10 6 = 0))
    ∧ (∃ s : State, ∃ p : Packet, (s.takesRecorded (p.of 0x8601)) ∧ (s.timeModel.pending = none) ∧ (p.paramLen = 32)
      ∧ (leAt p.params 0 1 = 2) ∧ (leAt p.params 1 7 = 0) ∧ (leAt p.params 8 8 = 0) ∧ (leAt p.params 0x10 8 = 0)
      ∧ (nominalRate ≤ leAt p.params 0x18 8 + rateSpan) ∧ (leAt p.params 0x18 8 ≤ nominalRate + rateSpan))
    ∧ (∃ s : State, ∃ p : Packet, ∃ x : Nat × Int × Nat × Bool × Nat, (s.takesRecorded (p.of 0x0602))
      ∧ (s.timeModel.pending = some x))
    ∧ (∃ s : State, (s.timeModel.pending = none))
    ∧ (∃ s : State, ∃ k : Nat, ∃ rate : Nat, ∃ value : Nat, ∃ step : Int, ∃ set : Bool, (s.timeModel.pending = some (k, step,
      rate, set, value)) ∧ (s.ready = true) ∧ ((∃ d ∈ s.workingDies, s.tickAt d < k)))
    ∧ (∃ s : State, ∃ k : Nat, ∃ rate : Nat, ∃ value : Nat, ∃ step : Int, ∃ set : Bool, (s.timeModel.pending = some (k, step,
      rate, set, value)) ∧ (s.ready = true) ∧ ((∀ d ∈ s.workingDies, k ≤ s.tickAt d)) ∧ ((∀ p < 64,
      (s.port p).present = false)) ∧ let t : State := { s with timeModel := s.timeModel.rebase }; True)
    ∧ (∃ m : TimeModel, ∃ k : Nat, ∃ value : Nat, (m.pending = some (k, 0, 0, true, value)) ∧ (value < 2 ^ 96))
    ∧ (∃ s : State, ∃ die : Nat, ∃ offset : Int, (s.live die = true) ∧ (die ≠ s.timeModel.refDie) ∧ (offset.natAbs ≤ 4))
    ∧ (∃ s : State, ∃ die : Nat, (s.live die = true) ∧ (die ≠ s.timeModel.refDie) ∧ ((s.dieTime die).aligned = true)
      ∧ ((s.dieTime die).measured + 10 * ticksPerMs ≤ (s.dieTime die).tick))
    ∧ (∃ s : State, ∃ die : Nat, ((s.dieTime die).tick < (s.dieTime die).measured + 10 * ticksPerMs))
    ∧ (∃ s : State, ∃ die : Nat, (s.hostReach die = true)) :=
  ⟨⟨up, pk 0x0601 [], by decide +kernel⟩,
    ⟨{ up with timeModel := { State.reset.timeModel with offset := 9 } }, pk 0x0602 (toLe 8 77 ++ toLe 2 5 ++ toLe 6 0),
      by decide +kernel⟩,
    ⟨up, pk 0x8601 (by8 [2,0,0,0,0,0,0,0] ++ toLe 16 0 ++ toLe 8 (nominalRate + rateSpan)), by decide +kernel⟩,
    ⟨{ up with timeModel := { State.reset.timeModel with pending := some (6000, 0, 0, true, 78) } }, pk 0x0602 [], (6000,
      0, 0, true, 78), by decide +kernel⟩,
    ⟨up, by decide +kernel⟩,
    ⟨{ up with timeModel := { State.reset.timeModel with pending := some (6000, 0, 0, true, 78) }, times := [(0, { DieTime.reset with tick := 5000 }), (1, { DieTime.reset with tick := 5000, goodRuns := 15, aligned := true })] },
      6000, 0, 78, 0, true, by decide +kernel⟩,
    ⟨{ up with timeModel := { State.reset.timeModel with pending := some (6000, 0, 0, true, 78) }, times := (List.range 8).map (fun d => (d, { DieTime.reset with tick := 6000 })) }, 6000, 0, 78, 0, true, by decide +kernel⟩,
    ⟨{ TimeModel.reset with pending := some (6000, 0, 0, true, 78) }, 6000, 78, by decide +kernel⟩,
    ⟨s39, 1, -4, by decide +kernel⟩,
    ⟨{ up with times := [(1, { DieTime.reset with tick := 16000000, goodRuns := 15, aligned := true })] }, 1,
      by decide +kernel⟩,
    ⟨up, 1, by decide +kernel⟩,
    ⟨s39, 1, by decide +kernel⟩⟩

theorem witness_PulsePerSecond :
    (∃ s : State, ∃ p : Packet, (s.takesRecorded (p.of 0x8602)) ∧ (p.paramLen = 16) ∧ (s.pps.out = false)
      ∧ let c := ppsOf (leAt p.params 0 16); (1000 ≤ c.periodNs) ∧ (c.periodNs ≤ 1000000000) ∧ (c.widthNs ≠ 0) ∧ (c.widthNs < c.periodNs))
    ∧ (∃ s : State, ∃ ph : Nat, (s.live s.servingDie = true) ∧ (s.pps.cfg.inEffect.inEnable = true)
      ∧ (s.pps.cfg.inEffect.inFalling = false) ∧ (s.pps.lastEdge = none) ∧ (s.pps.cfg.inEffect.vector = 0x7FF))
    ∧ (∃ s : State, ∃ l : Nat, ∃ ph : Nat, ∃ rising : Bool, (s.pps.lastEdge = some l) ∧ (s.tickAt s.servingDie < l + 1600))
    ∧ (∃ s : State, (s.live s.servingDie = true) ∧ (s.pps.out = false) ∧ (s.pps.cfg.inEffect.outEnable = true)
      ∧ (s.pps.cfg.inEffect.outWaitValid = false) ∧ (s.pps.nextRise ≤ s.ppsTime))
    ∧ (∃ s : State, (s.live s.servingDie = true) ∧ (s.pps.out = false) ∧ (s.pps.cfg.inEffect.outEnable = true)
      ∧ (s.pps.cfg.inEffect.outWaitValid = false) ∧ (s.ppsTime < s.pps.nextRise))
    ∧ (∃ s : State, (s.live s.servingDie = true) ∧ (s.pps.out = true)
      ∧ (s.pps.outTick + ceilDiv (8 * s.pps.cfg.inEffect.widthNs) 5 ≤ s.tickAt s.servingDie))
    ∧ (∃ s : State, (s.live s.servingDie = true) ∧ (s.pps.out = true)
      ∧ (s.tickAt s.servingDie < s.pps.outTick + ceilDiv (8 * s.pps.cfg.inEffect.widthNs) 5)) :=
  ⟨⟨up, pk 0x8602 (toLe 16 (2 ^ 2 + 2 ^ 96 * 1000 + 2 ^ 64 * 999)), by decide +kernel⟩,
    ⟨{ up with pps := { Pps.reset with cfg := Staged.both { PpsCfg.reset with inEnable := true, inAdj := 65535 } } }, 9,
      by decide +kernel⟩,
    ⟨{ up with pps := { Pps.reset with lastEdge := some 0 } }, 0, 9, true, by decide +kernel⟩,
    ⟨{ up with pps := { Pps.reset with cfg := Staged.both { PpsCfg.reset with outEnable := true, outWaitValid := false } } },
      by decide +kernel⟩,
    ⟨{ up with pps := { Pps.reset with cfg := Staged.both { PpsCfg.reset with outEnable := true, outWaitValid := false, widthNs := 100 }, outFrom := 10 ^ 9 }, timeModel := { State.reset.timeModel with valid := true } },
      by decide +kernel⟩,
    ⟨{ up with pps := { Pps.reset with out := true, cfg := Staged.both { PpsCfg.reset with outEnable := true, outWaitValid := false, widthNs := 100 } }, times := (List.range 8).map (fun d => (d, { DieTime.reset with tick := 6000 })) }, by decide +kernel⟩,
    ⟨{ up with pps := { Pps.reset with out := true, cfg := Staged.both { PpsCfg.reset with outEnable := true, outWaitValid := false, widthNs := 100 } } },
      by decide +kernel⟩⟩

theorem witness_QueueCommands :
    (∃ s : State, ∃ p : Packet, ∃ fn : Nat, (s.takesRecorded (p.of 0x0201)) ∧ (s.queueTarget (p.of 0x0201) 32 = .ok fn)
      ∧ (badQueueParams p.params = false) ∧ ((s.queuesOf fn).length < (s.func fn).queuePairs)
      ∧ ((s.queuesOf fn).length < 256) ∧ (leAt p.params 1 1 = 0) ∧ (2 ≤ s.sharedSlots (mDie fn))
      ∧ (leAt p.params 0 1 ≠ 0xFF) ∧ ((s.queuesOf fn).contains (leAt p.params 0 1) = false) ∧ (s.canIssue fn = true)
      ∧ ((s.func fn).rssWritten = true))
    ∧ (∃ s : State, ∃ p : Packet, ∃ fn : Nat, (s.takesRecorded (p.of 0x0201)) ∧ (s.queueTarget (p.of 0x0201) 32 = .ok fn)
      ∧ (badQueueParams p.params = true))
    ∧ (∃ s : State, ∃ p : Packet, ∃ fn : Nat, ∃ q : QueuePair, (s.takesRecorded (p.of 0x0202))
      ∧ (s.queueTarget (p.of 0x0202) 4 = .ok fn) ∧ (s.queue? fn (leAt p.params 0 1) = some q) ∧ (leAt p.params 1 3 = 0)
      ∧ (q.forced = true) ∧ (q.channel = none) ∧ (q.backlog = []) ∧ ((s.func fn).rssWritten = true))
    ∧ (∃ s : State, ∃ p : Packet, ∃ fn : Nat, ∃ q : QueuePair, (s.takes (p.of 0x0203))
      ∧ (s.queueTarget (p.of 0x0203) 4 = .ok fn) ∧ (s.queue? fn (leAt p.params 0 1) = some q) ∧ (leAt p.params 1 3 = 0))
    ∧ (∃ s : State, ∃ p : Packet, (s.decides = true) ∧ (s.framing (p.of 0x0203) = none) ∧ (s.leadGone = false)
      ∧ (s.heldFor (p.of 0x0203) < 16) ∧ (s.bare (p.of 0x0203) = true) ∧ (s.tempo.inProgress = none)) :=
  ⟨⟨s15, pk 0x0201 (by8 [3,0,0x21,0] ++ toLe 28 0), pf0 0, by decide +kernel⟩,
    ⟨s15, pk 0x0201 (by8 [3,0,0,0] ++ toLe 28 0), pf0 0, by decide +kernel⟩,
    ⟨{ up with queues := [(3, v13)], funcs := [(0, { Func.pf0Reset with busMaster := true, rssWritten := true })] },
      pk 0x0202 (by8 [3,0,0,0]), pf0 0, v13, by decide +kernel⟩,
    ⟨{ up with queues := [(3, v13)] }, pk 0x0203 (by8 [3,0,0,0]), pf0 0, v13, by decide +kernel⟩,
    ⟨up, { pk 0x0203 (by8 [3,0,0,0]) with sender := fnId 0 0 3, route := .mailbox (fnId 0 0 3) }, by decide +kernel⟩⟩

theorem witness_Doorbells :
    (∃ s : State, ∃ fn : Nat, ∃ n : Nat, ∃ i : Nat, ∃ q : QueuePair, (s.hostReach (mDie fn) = true)
      ∧ (s.isStorage fn = false) ∧ (s.queue? fn n = some q) ∧ (ringCount (i % 65536) q.sqHead ≤ q.sqSize))
    ∧ (∃ s : State, ∃ fn : Nat, ∃ n : Nat, ∃ i : Nat, ∃ q : QueuePair, (s.hostReach (mDie fn) = true)
      ∧ (s.isStorage fn = false) ∧ (s.queue? fn n = some q) ∧ (q.sqSize < ringCount (i % 65536) q.sqHead))
    ∧ (∃ s : State, ∃ fn : Nat, ∃ n : Nat, ∃ i : Nat, ∃ arm : Bool, ∃ q : QueuePair, (s.hostReach (mDie fn) = true)
      ∧ (s.isStorage fn = false) ∧ (s.queue? fn n = some q) ∧ (q.mode ≠ .ownWb)
      ∧ (ringCount q.cqTail (i % 65536) ≤ q.hostHeld))
    ∧ (∃ s : State, ∃ fn : Nat, ∃ n : Nat, ∃ i : Nat, ∃ arm : Bool, ∃ q : QueuePair, (s.hostReach (mDie fn) = true)
      ∧ (s.isStorage fn = false) ∧ (s.queue? fn n = some q) ∧ (q.mode ≠ .ownWb)
      ∧ (q.hostHeld < ringCount q.cqTail (i % 65536)))
    ∧ (∃ s : State, ∃ t : State, ∃ fn : Nat, ∃ n : Nat, ∃ q : QueuePair, (s.isStorage fn = false) ∧ (s.queue? fn n = some q)
      ∧ (s.live (mDie fn) = true) ∧ ((s.func fn).txHeld = false) ∧ (s.fetchStopped fn q = false)
      ∧ (ringCount q.sqTail q.fetch ≠ 0) ∧ (ringCount q.sqTail q.fetch ≤ q.sqSize) ∧ (s.controlRead fn n = none)
      ∧ (s.tableRead fn n = none) ∧ (s.ideBlocks fn (q.sqAddr q.fetch) = false)
      ∧ (s.issueRead fn (.control n q.fetch (min 8 (ringCount q.sqTail q.fetch))) (64 * min 8 (ringCount q.sqTail q.fetch)) = some t)
      ∧ (q.ownWait = false))
    ∧ (∃ s : State, ∃ t : State, ∃ fn : Nat, ∃ n : Nat, ∃ q : QueuePair, (s.isStorage fn = false) ∧ (s.queue? fn n = some q)
      ∧ (s.live (mDie fn) = true) ∧ ((s.func fn).txHeld = false) ∧ (s.fetchStopped fn q = false)
      ∧ (ringCount q.sqTail q.fetch ≠ 0) ∧ (ringCount q.sqTail q.fetch ≤ q.sqSize) ∧ (s.controlRead fn n = none)
      ∧ (s.tableRead fn n = none) ∧ (s.ideBlocks fn (q.sqAddr q.fetch) = false)
      ∧ (s.issueRead fn (.control n q.fetch (min 8 (ringCount q.sqTail q.fetch))) (64 * min 8 (ringCount q.sqTail q.fetch)) = some t)
      ∧ (q.ownWait = true))
    ∧ (∃ s : State, ∃ t : State, ∃ fn : Nat, ∃ n : Nat, ∃ q : QueuePair, (s.isStorage fn = false) ∧ (s.queue? fn n = some q)
      ∧ (s.live (mDie fn) = true) ∧ ((s.func fn).txHeld = false) ∧ (s.fetchStopped fn q = false)
      ∧ (ringCount q.sqTail q.fetch ≠ 0) ∧ (ringCount q.sqTail q.fetch ≤ q.sqSize) ∧ (s.controlRead fn n = none)
      ∧ (s.tableRead fn n = none) ∧ (s.ideBlocks fn (q.sqAddr q.fetch) = false)
      ∧ (s.issueRead fn (.control n q.fetch (min 8 (ringCount q.sqTail q.fetch))) (64 * min 8 (ringCount q.sqTail q.fetch)) = some t)
      ∧ (q.ownWait = true) ∧ (q.ownSince + q.backoffUs * ticksPerUs ≤ s.dieTick (mDie fn)))
    ∧ (∃ s : State, ∃ t : State, ∃ fn : Nat, ∃ n : Nat, ∃ q : QueuePair, (s.isStorage fn = false) ∧ (s.queue? fn n = some q)
      ∧ (s.live (mDie fn) = true) ∧ ((s.func fn).txHeld = false) ∧ (s.fetchStopped fn q = false)
      ∧ (ringCount q.sqTail q.fetch ≠ 0) ∧ (ringCount q.sqTail q.fetch ≤ q.sqSize) ∧ (s.controlRead fn n = none)
      ∧ (s.tableRead fn n = none) ∧ (s.ideBlocks fn (q.sqAddr q.fetch) = false)
      ∧ (s.issueRead fn (.control n q.fetch (min 8 (ringCount q.sqTail q.fetch))) (64 * min 8 (ringCount q.sqTail q.fetch)) = some t)
      ∧ (q.ownWait = true) ∧ (s.dieTick (mDie fn) < q.ownSince + q.backoffUs * ticksPerUs))
    ∧ (∃ s : State, ∃ t : State, ∃ fn : Nat, ∃ n : Nat, ∃ q : QueuePair, (s.isStorage fn = false) ∧ (s.queue? fn n = some q)
      ∧ (s.live (mDie fn) = true) ∧ ((s.func fn).txHeld = false) ∧ (s.fetchStopped fn q = false)
      ∧ (ringCount q.sqTail q.fetch ≠ 0) ∧ (ringCount q.sqTail q.fetch ≤ q.sqSize) ∧ (s.controlRead fn n = none)
      ∧ (s.tableRead fn n = none) ∧ (s.ideBlocks fn (q.sqAddr q.fetch) = false)
      ∧ (s.issueRead fn (.control n q.fetch (min 8 (ringCount q.sqTail q.fetch))) (64 * min 8 (ringCount q.sqTail q.fetch)) = some t)
      ∧ (q.retried = true))
    ∧ (∃ s : State, ∃ fn : Nat, ∃ n : Nat, ∃ k : Nat, ∃ i : Nat, (s.live (mDie fn) = true) ∧ (s.canIssue fn = true)
      ∧ (s.tableRead fn n = none) ∧ (s.controlRead fn n = some (k, i, 1)))
    ∧ (∃ s : State, ∃ fn : Nat, ∃ n : Nat, ∃ k : Nat, ∃ i : Nat, (s.live (mDie fn) = true) ∧ (s.canIssue fn = true)
      ∧ (s.tableRead fn n = some (k, i, 1)))
    ∧ (∃ s : State, ∃ fn : Nat, ∃ n : Nat, ∃ left : Nat, ∃ q : QueuePair, ∃ ready : Bool, (s.queue? fn n = some q)
      ∧ ((s.func fn).halted = true ∨ s.slotsFor (mDie fn) q (q.inFlight + 1) = false))
    ∧ (∃ s : State, ∃ fn : Nat, ∃ n : Nat, ∃ left : Nat, ∃ q : QueuePair, ∃ ready : Bool, (s.queue? fn n = some q)
      ∧ ((s.func fn).halted = false) ∧ (s.slotsFor (mDie fn) q (q.inFlight + 1) = true)
      ∧ (bit (leAt (s.hostRead fn (q.sqAddr q.fetch) 64) 3 1) 0 = false))
    ∧ (∃ s : State, ∃ fn : Nat, ∃ n : Nat, ∃ left : Nat, ∃ q : QueuePair, ∃ ready : Bool, (s.queue? fn n = some q)
      ∧ ((s.func fn).halted = false) ∧ (s.slotsFor (mDie fn) q (q.inFlight + 1) = true) ∧ (q.kind = .rx)
      ∧ (bit (leAt (s.hostRead fn (q.sqAddr q.fetch) 64) 3 1) 0 = true)
      ∧ (leAt (s.hostRead fn (q.sqAddr q.fetch) 64) 0 1 = 1))
    ∧ (∃ s : State, ∃ fn : Nat, ∃ n : Nat, (s.controlRead fn n = none) ∧ (s.tableRead fn n = none)) :=
  ⟨⟨s16, pf0 0, 3, 2, v03, by decide +kernel⟩,
    ⟨s16, pf0 0, 3, 3, v03, by decide +kernel⟩,
    ⟨s23, pf0 0, 3, 0, true, v09, by decide +kernel⟩,
    ⟨s23, pf0 0, 3, 65535, true, v09, by decide +kernel⟩,
    ⟨s24, ((State.issueRead s24 (pf0 0) (.control 3 0 2) 128).getD up), pf0 0, 3, v10, by decide +kernel⟩,
    ⟨s30, s47, pf0 0, 3, v19, by decide +kernel⟩,
    ⟨s30, s47, pf0 0, 3, v19, by decide +kernel⟩,
    ⟨{ up with queues := [(3, ({ newQueue (toLe 1 0 ++ toLe 1 0 ++ toLe 1 0x21 ++ toLe 29 0) none with sqTail := 2, ownWait := true, backoffUs := 5 } : QueuePair))] },
      ((State.issueRead { up with queues := [(3, ({ newQueue (toLe 1 0 ++ toLe 1 0 ++ toLe 1 0x21 ++ toLe 29 0) none with sqTail := 2, ownWait := true, backoffUs := 5 } : QueuePair))] } (pf0 0) (.control 3 0 2) 128).getD up),
      pf0 0, 3,
      ({ newQueue (toLe 1 0 ++ toLe 1 0 ++ toLe 1 0x21 ++ toLe 29 0) none with sqTail := 2, ownWait := true, backoffUs := 5 } : QueuePair),
      by decide +kernel⟩,
    ⟨{ up with queues := [(3, ({ newQueue (toLe 1 0 ++ toLe 1 0 ++ toLe 1 0x21 ++ toLe 29 0) none with sqTail := 2, retried := true } : QueuePair))] },
      ((State.issueRead { up with queues := [(3, ({ newQueue (toLe 1 0 ++ toLe 1 0 ++ toLe 1 0x21 ++ toLe 29 0) none with sqTail := 2, retried := true } : QueuePair))] } (pf0 0) (.control 3 0 2) 128).getD up),
      pf0 0, 3,
      ({ newQueue (toLe 1 0 ++ toLe 1 0 ++ toLe 1 0x21 ++ toLe 29 0) none with sqTail := 2, retried := true } : QueuePair),
      by decide +kernel⟩,
    ⟨((State.issueRead s24 (pf0 0) (.control 3 0 1) 64).getD up), pf0 0, 3, 0, 0, by decide +kernel⟩,
    ⟨{ up with queues := [(3, v10)], tags := [(tagKey 0 3, ({ fn := pf0 0, use := .table 3 9 1, remaining := 64, quarantined := false, timeoutUs := 50000, discard := false, op := 5 } : HostTag))] },
      pf0 0, 3, tagKey 0 3, 9, by decide +kernel⟩,
    ⟨{ up with queues := [(3, v10)], funcs := [(pf0 0, { Func.pf0Reset with busMaster := true, halted := true })] }, pf0 0,
      3, 2, v10, false, by decide +kernel⟩,
    ⟨s24, pf0 0, 3, 2, v10, false, by decide +kernel⟩,
    ⟨(State.writeBytes ({ up with queues := [(3, ({ newQueue (toLe 1 0 ++ toLe 1 0 ++ toLe 1 0x21 ++ toLe 29 0) none with sqTail := 2, sqBase := 4096, kind := .rx } : QueuePair))] } : State) (.host 0) 4096 (by8 [1,
      0, 0, 1])), pf0 0, 3, 2,
      ({ newQueue (toLe 1 0 ++ toLe 1 0 ++ toLe 1 0x21 ++ toLe 29 0) none with sqTail := 2, sqBase := 4096, kind := .rx } : QueuePair),
      false, by decide +kernel⟩,
    ⟨s24, pf0 0, 3, by decide +kernel⟩⟩

theorem witness_SubmitEntries :
    (∃ s : State, ∃ fn : Nat, ∃ n : Nat, ∃ i : Nat, ∃ q : QueuePair, ∃ e : SubmitEntry, (s.readyEntry fn n i 1 = some (q,
      e)) ∧ (s.canIssue fn = true) ∧ (q.forced = false) ∧ (bit e.ctrl 1 = false) ∧ (e.opcode = 1)
      ∧ (s.needRead fn (.payload n e.index) e.totalLen = none))
    ∧ (∃ s : State, ∃ fn : Nat, ∃ n : Nat, ∃ i : Nat, ∃ q : QueuePair, ∃ e : SubmitEntry, (s.readyEntry fn n i 1 = some (q,
      e)) ∧ (s.canIssue fn = true) ∧ (q.forced = false) ∧ (bit e.ctrl 1 = false) ∧ (e.opcode = 1) ∧ ∃ w,
      (s.needRead fn (.payload n e.index) e.totalLen = some w)
      ∧ let r := w.retireRead fn (.payload n e.index); (r.fragsBlocked fn e.frags = false))
    ∧ (∃ s : State, ∃ fn : Nat, ∃ n : Nat, ∃ i : Nat, ∃ q : QueuePair, ∃ e : SubmitEntry, (s.readyEntry fn n i 2 = some (q,
      e)) ∧ (s.canIssue fn = true) ∧ (q.forced = false) ∧ (s.needRead fn (.payload n e.index) e.totalLen = none))
    ∧ (∃ s : State, ∃ fn : Nat, ∃ n : Nat, ∃ i : Nat, ∃ q : QueuePair, ∃ e : SubmitEntry, (s.readyEntry fn n i 2 = some (q,
      e)) ∧ (s.canIssue fn = true) ∧ (q.forced = false) ∧ ∃ w, (s.needRead fn (.payload n e.index) e.totalLen = some w))
    ∧ (∃ s : State, ∃ fn : Nat, ∃ n : Nat, ∃ i : Nat, ∃ op : Nat, ∃ q : QueuePair, ∃ e : SubmitEntry,
      (s.readyEntry fn n i op = some (q, e)) ∧ (q.forced = true) ∧ (op = 1))
    ∧ (∃ s : State, ∃ fn : Nat, ∃ n : Nat, ∃ i : Nat, ∃ op : Nat, ∃ q : QueuePair, ∃ e : SubmitEntry,
      (s.readyEntry fn n i op = some (q, e)) ∧ (q.forced = true) ∧ (op = 2))
    ∧ (∃ s : State, ∃ fn : Nat, ∃ n : Nat, ∃ i : Nat, ∃ q : QueuePair, ∃ e : SubmitEntry, (s.readyEntry fn n i 0x10 = some (q,
      e)) ∧ (q.backlog = []))
    ∧ (∃ s : State, ∃ fn : Nat, ∃ n : Nat, ∃ i : Nat, ∃ q : QueuePair, ∃ e : SubmitEntry, (s.readyEntry fn n i 0x3F = some (q,
      e)))
    ∧ (∃ q : QueuePair, ∃ a : SubmitEntry, ∃ b : SubmitEntry, (q.accepted = [a, b]) ∧ (a.phase ≠ .finished))
    ∧ (∃ q : QueuePair, ∃ e : SubmitEntry, (q.accepted = [e]) ∧ (e.phase = .finished) ∧ (q.mode = .entry)) :=
  ⟨⟨{ up with queues := [(3, v69)], tags := (List.range 32).map (fun i => (tagKey 0 i, ({ fn := pf0 0, use := .command 77, remaining := 64, quarantined := false, timeoutUs := 50000, discard := false, op := 5 } : HostTag))) }, pf0 0, 3, 1, v69, v59, by decide +kernel⟩,
    ⟨{ up with queues := [(3, v69)] }, pf0 0, 3, 1, v69, v59, by decide +kernel, by decide +kernel, by decide +kernel,
      by decide +kernel, by decide +kernel,
      ((State.needRead ({ up with queues := [(3, v69)] } : State) (pf0 0) (.payload 3 1) 60).getD up),
      by decide +kernel⟩,
    ⟨{ up with queues := [(3, v70)], tags := (List.range 32).map (fun i => (tagKey 0 i, ({ fn := pf0 0, use := .command 77, remaining := 64, quarantined := false, timeoutUs := 50000, discard := false, op := 5 } : HostTag))) }, pf0 0, 3, 1, v70, v61, by decide +kernel⟩,
    ⟨{ up with queues := [(3, v70)] }, pf0 0, 3, 1, v70, v61, by decide +kernel, by decide +kernel, by decide +kernel,
      ((State.needRead ({ up with queues := [(3, v70)] } : State) (pf0 0) (.payload 3 1) 60).getD up),
      by decide +kernel⟩,
    ⟨{ up with queues := [(3, ({ newQueue (toLe 1 0 ++ toLe 1 0 ++ toLe 1 0x21 ++ toLe 29 0) none with accepted := [v59], forced := true } : QueuePair))] },
      pf0 0, 3, 1, 1,
      ({ newQueue (toLe 1 0 ++ toLe 1 0 ++ toLe 1 0x21 ++ toLe 29 0) none with accepted := [v59], forced := true } : QueuePair),
      v59, by decide +kernel⟩,
    ⟨{ up with queues := [(3, ({ newQueue (toLe 1 0 ++ toLe 1 0 ++ toLe 1 0x21 ++ toLe 29 0) none with accepted := [v61], forced := true } : QueuePair))] },
      pf0 0, 3, 1, 2,
      ({ newQueue (toLe 1 0 ++ toLe 1 0 ++ toLe 1 0x21 ++ toLe 29 0) none with accepted := [v61], forced := true } : QueuePair),
      v61, by decide +kernel⟩,
    ⟨{ up with queues := [(3, ({ newQueue (toLe 1 0 ++ toLe 1 0 ++ toLe 1 0x21 ++ toLe 29 0) none with accepted := [({ index := 1, opcode := 0x10, ctrl := 4, tc := 3, totalLen := 2048, mss := 0, hdrLen := 0, csumFlags := 0, user := 0, offs := [0,0,0,0], frags := [(8192, 60)], desc := [], phase := .reading, status := 0, stamp := 0, length := 0, eop := false, info := 0, hash := 0, rxTc := 0, macMatch := 0 } : SubmitEntry)], kind := .rx } : QueuePair))] },
      pf0 0, 3, 1,
      ({ newQueue (toLe 1 0 ++ toLe 1 0 ++ toLe 1 0x21 ++ toLe 29 0) none with accepted := [({ index := 1, opcode := 0x10, ctrl := 4, tc := 3, totalLen := 2048, mss := 0, hdrLen := 0, csumFlags := 0, user := 0, offs := [0,0,0,0], frags := [(8192, 60)], desc := [], phase := .reading, status := 0, stamp := 0, length := 0, eop := false, info := 0, hash := 0, rxTc := 0, macMatch := 0 } : SubmitEntry)], kind := .rx } : QueuePair),
      ({ index := 1, opcode := 0x10, ctrl := 4, tc := 3, totalLen := 2048, mss := 0, hdrLen := 0, csumFlags := 0, user := 0, offs := [0,0,0,0], frags := [(8192, 60)], desc := [], phase := .reading, status := 0, stamp := 0, length := 0, eop := false, info := 0, hash := 0, rxTc := 0, macMatch := 0 } : SubmitEntry),
      by decide +kernel⟩,
    ⟨{ up with queues := [(3, ({ newQueue (toLe 1 0 ++ toLe 1 0 ++ toLe 1 0x21 ++ toLe 29 0) none with accepted := [({ index := 1, opcode := 0x3F, ctrl := 4, tc := 3, totalLen := 60, mss := 0, hdrLen := 0, csumFlags := 0, user := 0, offs := [0,0,0,0], frags := [(8192, 60)], desc := [], phase := .reading, status := 0, stamp := 0, length := 0, eop := false, info := 0, hash := 0, rxTc := 0, macMatch := 0 } : SubmitEntry)] } : QueuePair))] },
      pf0 0, 3, 1,
      ({ newQueue (toLe 1 0 ++ toLe 1 0 ++ toLe 1 0x21 ++ toLe 29 0) none with accepted := [({ index := 1, opcode := 0x3F, ctrl := 4, tc := 3, totalLen := 60, mss := 0, hdrLen := 0, csumFlags := 0, user := 0, offs := [0,0,0,0], frags := [(8192, 60)], desc := [], phase := .reading, status := 0, stamp := 0, length := 0, eop := false, info := 0, hash := 0, rxTc := 0, macMatch := 0 } : SubmitEntry)] } : QueuePair),
      ({ index := 1, opcode := 0x3F, ctrl := 4, tc := 3, totalLen := 60, mss := 0, hdrLen := 0, csumFlags := 0, user := 0, offs := [0,0,0,0], frags := [(8192, 60)], desc := [], phase := .reading, status := 0, stamp := 0, length := 0, eop := false, info := 0, hash := 0, rxTc := 0, macMatch := 0 } : SubmitEntry),
      by decide +kernel⟩,
    ⟨({ newQueue (toLe 1 0 ++ toLe 1 0 ++ toLe 1 0x21 ++ toLe 29 0) none with accepted := [v59, v60] } : QueuePair), v59,
      v60, by decide +kernel⟩,
    ⟨({ newQueue (toLe 1 0 ++ toLe 1 0 ++ toLe 1 0x21 ++ toLe 29 0) none with accepted := [v60] } : QueuePair), v60,
      by decide +kernel⟩⟩

theorem witness_ReceiveAndComplete :
    (∃ s : State, ∃ fn : Nat, ∃ n : Nat, ∃ pkt : TmPkt, ∃ q : QueuePair, (s.live (mDie fn) = true)
      ∧ ((s.link (mDie fn)).frozen = false) ∧ ((s.func fn).halted = false) ∧ (s.canIssue fn = true)
      ∧ ((s.func fn).mig = .running) ∧ (s.queue? fn n = some q) ∧ (q.kind = .rx) ∧ (q.backlog = []) ∧ ∃ l,
      (s.rxOutcome fn q pkt.bytes.length = .deliver l))
    ∧ (∃ s : State, ∃ fn : Nat, ∃ n : Nat, ∃ pkt : TmPkt, ∃ q : QueuePair, (s.live (mDie fn) = true)
      ∧ ((s.link (mDie fn)).frozen = false) ∧ ((s.func fn).halted = false) ∧ (s.canIssue fn = true)
      ∧ ((s.func fn).mig = .running) ∧ (s.queue? fn n = some q) ∧ (q.kind = .rx) ∧ (q.backlog = [])
      ∧ (s.rxOutcome fn q pkt.bytes.length = .tooLong))
    ∧ (∃ s : State, ∃ fn : Nat, ∃ n : Nat, ∃ pkt : TmPkt, ∃ q : QueuePair, (s.live (mDie fn) = true)
      ∧ ((s.link (mDie fn)).frozen = false) ∧ ((s.func fn).halted = false) ∧ (s.canIssue fn = true)
      ∧ ((s.func fn).mig = .running) ∧ (s.queue? fn n = some q) ∧ (q.kind = .rx) ∧ (q.backlog = [])
      ∧ (s.rxOutcome fn q pkt.bytes.length = .lacking) ∧ (((s.tm (mDie fn)).cls pkt.ingressClass).lossless = true))
    ∧ (∃ s : State, ∃ fn : Nat, ∃ n : Nat, ∃ pkt : TmPkt, ∃ q : QueuePair, (s.live (mDie fn) = true)
      ∧ ((s.link (mDie fn)).frozen = false) ∧ ((s.func fn).halted = false) ∧ (s.canIssue fn = true)
      ∧ ((s.func fn).mig = .running) ∧ (s.queue? fn n = some q) ∧ (q.kind = .rx) ∧ (q.backlog = [])
      ∧ (s.rxOutcome fn q pkt.bytes.length = .lacking) ∧ (((s.tm (mDie fn)).cls pkt.ingressClass).lossless = false))
    ∧ (∃ s : State, ∃ fn : Nat, ∃ n : Nat, ∃ pkt : TmPkt, (s.live (mDie fn) = true) ∧ ((s.link (mDie fn)).frozen = true))
    ∧ (∃ s : State, ∃ fn : Nat, ∃ n : Nat, ∃ since : Nat, ∃ q : QueuePair, ∃ p : TmPkt, ∃ rest : List (Nat × TmPkt),
      (s.queue? fn n = some q) ∧ (q.backlog = (since, p) :: rest)
      ∧ (s.dieTick (mDie fn) < since + q.rxHoldUs * ticksPerUs))
    ∧ (∃ s : State, ∃ fn : Nat, ∃ n : Nat, ∃ since : Nat, ∃ q : QueuePair, ∃ p : TmPkt, ∃ rest : List (Nat × TmPkt),
      (s.queue? fn n = some q) ∧ (q.backlog = (since, p) :: rest)
      ∧ (since + q.rxHoldUs * ticksPerUs ≤ s.dieTick (mDie fn)))
    ∧ (∃ s : State, ∃ fn : Nat, ∃ n : Nat, ∃ k : Nat, ∃ q : QueuePair, ∃ bs : List Byte, ∃ irq : Bool,
      ∃ rest : List (List Byte × Bool × Nat), (s.live (mDie fn) = true) ∧ (s.queue? fn n = some q) ∧ (q.held = (bs,
      irq, k) :: rest) ∧ (s.canIssue fn = true) ∧ ((s.func fn).mig = .running) ∧ (q.mode = .entry)
      ∧ (q.hostHeld < q.cqSize) ∧ (q.wbAddr = 0))
    ∧ (∃ s : State, ∃ fn : Nat, ∃ n : Nat, ∃ k : Nat, ∃ q : QueuePair, ∃ bs : List Byte, ∃ irq : Bool,
      ∃ rest : List (List Byte × Bool × Nat), (s.live (mDie fn) = true) ∧ (s.queue? fn n = some q) ∧ (q.held = (bs,
      irq, k) :: rest) ∧ (q.mode = .entry) ∧ (q.cqSize ≤ q.hostHeld))
    ∧ (∃ s : State, ∃ fn : Nat, ∃ n : Nat, ∃ v : Nat, ∃ at_ : Nat, ∃ q : QueuePair, (s.live (mDie fn) = true)
      ∧ (s.queue? fn n = some q) ∧ (q.armed = true) ∧ (q.mode = .entry) ∧ (0 < q.hostHeld) ∧ (q.vector = some v)
      ∧ (q.writtenAt.head? = some at_) ∧ (at_ + q.intUsec * ticksPerUs ≤ s.dieTick (mDie fn)))
    ∧ (∃ s : State, ∃ fn : Nat, ∃ n : Nat, ∃ v : Nat, ∃ at_ : Nat, ∃ q : QueuePair, (s.live (mDie fn) = true)
      ∧ (s.queue? fn n = some q) ∧ (q.armed = true) ∧ (q.mode = .entry) ∧ (0 < q.hostHeld) ∧ (q.vector = some v)
      ∧ (q.writtenAt.head? = some at_) ∧ (s.dieTick (mDie fn) < at_ + q.intUsec * ticksPerUs)) :=
  ⟨⟨{ up with queues := [(3, ({ newQueue (toLe 1 0 ++ toLe 1 0 ++ toLe 1 0x21 ++ toLe 29 0) none with accepted := [({ index := 1, opcode := 0x10, ctrl := 4, tc := 3, totalLen := 2048, mss := 0, hdrLen := 0, csumFlags := 0, user := 0, offs := [0,0,0,0], frags := [(8192, 60)], desc := [], phase := .posted, status := 0, stamp := 0, length := 0, eop := false, info := 0, hash := 0, rxTc := 0, macMatch := 0 } : SubmitEntry)], kind := .rx } : QueuePair))], tms := [(0, { Tm.reset with free := 196607, pipeline := 1 })] },
      pf0 0, 3, v51,
      ({ newQueue (toLe 1 0 ++ toLe 1 0 ++ toLe 1 0x21 ++ toLe 29 0) none with accepted := [({ index := 1, opcode := 0x10, ctrl := 4, tc := 3, totalLen := 2048, mss := 0, hdrLen := 0, csumFlags := 0, user := 0, offs := [0,0,0,0], frags := [(8192, 60)], desc := [], phase := .posted, status := 0, stamp := 0, length := 0, eop := false, info := 0, hash := 0, rxTc := 0, macMatch := 0 } : SubmitEntry)], kind := .rx } : QueuePair),
      by decide +kernel, by decide +kernel, by decide +kernel, by decide +kernel, by decide +kernel, by decide +kernel,
      by decide +kernel, by decide +kernel,
      [({ index := 1, opcode := 0x10, ctrl := 4, tc := 3, totalLen := 2048, mss := 0, hdrLen := 0, csumFlags := 0, user := 0, offs := [0,0,0,0], frags := [(8192, 60)], desc := [], phase := .posted, status := 0, stamp := 0, length := 0, eop := false, info := 0, hash := 0, rxTc := 0, macMatch := 0 } : SubmitEntry)],
      by decide +kernel⟩,
    ⟨{ up with queues := [(3, ({ newQueue (toLe 1 0 ++ toLe 1 0 ++ toLe 1 0x21 ++ toLe 29 0) none with accepted := [({ index := 0, opcode := 0x10, ctrl := 4, tc := 3, totalLen := 4, mss := 0, hdrLen := 0, csumFlags := 0, user := 0, offs := [0,0,0,0], frags := [(8192, 60)], desc := [], phase := .posted, status := 0, stamp := 0, length := 0, eop := false, info := 0, hash := 0, rxTc := 0, macMatch := 0 } : SubmitEntry), ({ index := 1, opcode := 0x10, ctrl := 4, tc := 3, totalLen := 4, mss := 0, hdrLen := 0, csumFlags := 0, user := 0, offs := [0,0,0,0], frags := [(8192, 60)], desc := [], phase := .posted, status := 0, stamp := 0, length := 0, eop := false, info := 0, hash := 0, rxTc := 0, macMatch := 0 } : SubmitEntry), ({ index := 2, opcode := 0x10, ctrl := 4, tc := 3, totalLen := 4, mss := 0, hdrLen := 0, csumFlags := 0, user := 0, offs := [0,0,0,0], frags := [(8192, 60)], desc := [], phase := .posted, status := 0, stamp := 0, length := 0, eop := false, info := 0, hash := 0, rxTc := 0, macMatch := 0 } : SubmitEntry), ({ index := 3, opcode := 0x10, ctrl := 4, tc := 3, totalLen := 4, mss := 0, hdrLen := 0, csumFlags := 0, user := 0, offs := [0,0,0,0], frags := [(8192, 60)], desc := [], phase := .posted, status := 0, stamp := 0, length := 0, eop := false, info := 0, hash := 0, rxTc := 0, macMatch := 0 } : SubmitEntry), ({ index := 4, opcode := 0x10, ctrl := 4, tc := 3, totalLen := 4, mss := 0, hdrLen := 0, csumFlags := 0, user := 0, offs := [0,0,0,0], frags := [(8192, 60)], desc := [], phase := .posted, status := 0, stamp := 0, length := 0, eop := false, info := 0, hash := 0, rxTc := 0, macMatch := 0 } : SubmitEntry), ({ index := 5, opcode := 0x10, ctrl := 4, tc := 3, totalLen := 4, mss := 0, hdrLen := 0, csumFlags := 0, user := 0, offs := [0,0,0,0], frags := [(8192, 60)], desc := [], phase := .posted, status := 0, stamp := 0, length := 0, eop := false, info := 0, hash := 0, rxTc := 0, macMatch := 0 } : SubmitEntry), ({ index := 6, opcode := 0x10, ctrl := 4, tc := 3, totalLen := 4, mss := 0, hdrLen := 0, csumFlags := 0, user := 0, offs := [0,0,0,0], frags := [(8192, 60)], desc := [], phase := .posted, status := 0, stamp := 0, length := 0, eop := false, info := 0, hash := 0, rxTc := 0, macMatch := 0 } : SubmitEntry), ({ index := 7, opcode := 0x10, ctrl := 4, tc := 3, totalLen := 4, mss := 0, hdrLen := 0, csumFlags := 0, user := 0, offs := [0,0,0,0], frags := [(8192, 60)], desc := [], phase := .posted, status := 0, stamp := 0, length := 0, eop := false, info := 0, hash := 0, rxTc := 0, macMatch := 0 } : SubmitEntry)], kind := .rx } : QueuePair))], tms := [(0, { Tm.reset with free := 196607, pipeline := 1 })] },
      pf0 0, 3, v51,
      ({ newQueue (toLe 1 0 ++ toLe 1 0 ++ toLe 1 0x21 ++ toLe 29 0) none with accepted := [({ index := 0, opcode := 0x10, ctrl := 4, tc := 3, totalLen := 4, mss := 0, hdrLen := 0, csumFlags := 0, user := 0, offs := [0,0,0,0], frags := [(8192, 60)], desc := [], phase := .posted, status := 0, stamp := 0, length := 0, eop := false, info := 0, hash := 0, rxTc := 0, macMatch := 0 } : SubmitEntry), ({ index := 1, opcode := 0x10, ctrl := 4, tc := 3, totalLen := 4, mss := 0, hdrLen := 0, csumFlags := 0, user := 0, offs := [0,0,0,0], frags := [(8192, 60)], desc := [], phase := .posted, status := 0, stamp := 0, length := 0, eop := false, info := 0, hash := 0, rxTc := 0, macMatch := 0 } : SubmitEntry), ({ index := 2, opcode := 0x10, ctrl := 4, tc := 3, totalLen := 4, mss := 0, hdrLen := 0, csumFlags := 0, user := 0, offs := [0,0,0,0], frags := [(8192, 60)], desc := [], phase := .posted, status := 0, stamp := 0, length := 0, eop := false, info := 0, hash := 0, rxTc := 0, macMatch := 0 } : SubmitEntry), ({ index := 3, opcode := 0x10, ctrl := 4, tc := 3, totalLen := 4, mss := 0, hdrLen := 0, csumFlags := 0, user := 0, offs := [0,0,0,0], frags := [(8192, 60)], desc := [], phase := .posted, status := 0, stamp := 0, length := 0, eop := false, info := 0, hash := 0, rxTc := 0, macMatch := 0 } : SubmitEntry), ({ index := 4, opcode := 0x10, ctrl := 4, tc := 3, totalLen := 4, mss := 0, hdrLen := 0, csumFlags := 0, user := 0, offs := [0,0,0,0], frags := [(8192, 60)], desc := [], phase := .posted, status := 0, stamp := 0, length := 0, eop := false, info := 0, hash := 0, rxTc := 0, macMatch := 0 } : SubmitEntry), ({ index := 5, opcode := 0x10, ctrl := 4, tc := 3, totalLen := 4, mss := 0, hdrLen := 0, csumFlags := 0, user := 0, offs := [0,0,0,0], frags := [(8192, 60)], desc := [], phase := .posted, status := 0, stamp := 0, length := 0, eop := false, info := 0, hash := 0, rxTc := 0, macMatch := 0 } : SubmitEntry), ({ index := 6, opcode := 0x10, ctrl := 4, tc := 3, totalLen := 4, mss := 0, hdrLen := 0, csumFlags := 0, user := 0, offs := [0,0,0,0], frags := [(8192, 60)], desc := [], phase := .posted, status := 0, stamp := 0, length := 0, eop := false, info := 0, hash := 0, rxTc := 0, macMatch := 0 } : SubmitEntry), ({ index := 7, opcode := 0x10, ctrl := 4, tc := 3, totalLen := 4, mss := 0, hdrLen := 0, csumFlags := 0, user := 0, offs := [0,0,0,0], frags := [(8192, 60)], desc := [], phase := .posted, status := 0, stamp := 0, length := 0, eop := false, info := 0, hash := 0, rxTc := 0, macMatch := 0 } : SubmitEntry)], kind := .rx } : QueuePair),
      by decide +kernel⟩,
    ⟨{ up with queues := [(3, v11)], tms := [(0, { Tm.reset with free := 196607, pipeline := 1, classes := [(3, { TmClass.reset with lossless := true })] })] },
      pf0 0, 3, v51, v11, by decide +kernel⟩,
    ⟨{ up with queues := [(3, v11)], tms := [(0, { Tm.reset with free := 196607, pipeline := 1 })] }, pf0 0, 3, v51, v11,
      by decide +kernel⟩,
    ⟨{ up with queues := [(3, v11)], tms := [(0, { Tm.reset with free := 196607, pipeline := 1 })], links := [(0, { Link.reset with speed := 6, width := 16, frozen := true })] },
      pf0 0, 3, v51, by decide +kernel⟩,
    ⟨{ up with queues := [(3, ({ newQueue (toLe 1 0 ++ toLe 1 0 ++ toLe 1 0x21 ++ toLe 29 0) none with kind := .rx, backlog := [(0, v51)] } : QueuePair))], tms := [(0, { Tm.reset with free := 196607, pipeline := 1 })] },
      pf0 0, 3, 0,
      ({ newQueue (toLe 1 0 ++ toLe 1 0 ++ toLe 1 0x21 ++ toLe 29 0) none with kind := .rx, backlog := [(0, v51)] } : QueuePair),
      v51, [], by decide +kernel⟩,
    ⟨{ up with queues := [(3, ({ newQueue (toLe 1 0 ++ toLe 1 0 ++ toLe 1 0x21 ++ toLe 29 0) none with kind := .rx, backlog := [(0, v51)], rxHoldUs := 0 } : QueuePair))], tms := [(0, { Tm.reset with free := 196607, pipeline := 1 })] },
      pf0 0, 3, 0,
      ({ newQueue (toLe 1 0 ++ toLe 1 0 ++ toLe 1 0x21 ++ toLe 29 0) none with kind := .rx, backlog := [(0, v51)], rxHoldUs := 0 } : QueuePair),
      v51, [], by decide +kernel⟩,
    ⟨{ up with queues := [(3, ({ newQueue (toLe 1 0 ++ toLe 1 0 ++ toLe 1 0x21 ++ toLe 29 0) none with held := [(List.replicate 32 7, true, 1)] } : QueuePair))] },
      pf0 0, 3, 1,
      ({ newQueue (toLe 1 0 ++ toLe 1 0 ++ toLe 1 0x21 ++ toLe 29 0) none with held := [(List.replicate 32 7, true, 1)] } : QueuePair),
      List.replicate 32 7, true, [], by decide +kernel⟩,
    ⟨{ up with queues := [(3, ({ newQueue (toLe 1 0 ++ toLe 1 0 ++ toLe 1 0x21 ++ toLe 29 0) none with held := [(List.replicate 32 7, true, 1)], cqTail := 4 } : QueuePair))] },
      pf0 0, 3, 1,
      ({ newQueue (toLe 1 0 ++ toLe 1 0 ++ toLe 1 0x21 ++ toLe 29 0) none with held := [(List.replicate 32 7, true, 1)], cqTail := 4 } : QueuePair),
      List.replicate 32 7, true, [], by decide +kernel⟩,
    ⟨{ up with queues := [(3, ({ newQueue (toLe 1 0 ++ toLe 1 0 ++ toLe 1 0x21 ++ toLe 29 0) none with armed := true, cqTail := 1, vector := some 2, writtenAt := [0] } : QueuePair))] },
      pf0 0, 3, 2, 0,
      ({ newQueue (toLe 1 0 ++ toLe 1 0 ++ toLe 1 0x21 ++ toLe 29 0) none with armed := true, cqTail := 1, vector := some 2, writtenAt := [0] } : QueuePair),
      by decide +kernel⟩,
    ⟨{ up with queues := [(3, ({ newQueue (toLe 1 0 ++ toLe 1 0 ++ toLe 1 0x21 ++ toLe 29 0) none with armed := true, cqTail := 1, vector := some 2, writtenAt := [0], intUsec := 5 } : QueuePair))] },
      pf0 0, 3, 2, 0,
      ({ newQueue (toLe 1 0 ++ toLe 1 0 ++ toLe 1 0x21 ++ toLe 29 0) none with armed := true, cqTail := 1, vector := some 2, writtenAt := [0], intUsec := 5 } : QueuePair),
      by decide +kernel⟩⟩

theorem witness_DmaChannels :
    (∃ s : State, ∃ die : Nat, ∃ chan : Nat, (descOp (s.dmaCh (dmaKey die chan)).elem = 0x20)
      ∧ (s.dmaLive (dmaKey die chan) = true) ∧ ((s.dmaCh (dmaKey die chan)).runs = true))
    ∧ (∃ s : State, ∃ die : Nat, ∃ chan : Nat, (descOp (s.dmaCh (dmaKey die chan)).elem = 0x21)
      ∧ (s.dmaLive (dmaKey die chan) = true) ∧ ((s.dmaCh (dmaKey die chan)).runs = true))
    ∧ (∃ s : State, ∃ die : Nat, ∃ chan : Nat, let k := dmaKey die chan; (s.dmaIssue k = none))
    ∧ (∃ s : State, ∃ die : Nat, ∃ chan : Nat, let k := dmaKey die chan; ∃ t, (s.dmaIssue k = some t))
    ∧ (∃ s : State, ∃ die : Nat, ∃ chan : Nat,
      let k := dmaKey die chan; (descOp (s.dmaCh k).elem = 0x22) ∧ (s.dmaLive k = true) ∧ ((s.dmaCh k).runs = true))
    ∧ (∃ s : State, ∃ k : Nat, ∃ i : Nat,
      let c := s.dmaCh k; (descOp c.elem = 0x22) ∧ (descFlags c.elem = 0) ∧ (s.ideBlocks (s.dmaFn k) (c.srcAddr + c.offset) = false) ∧ (s.ideBlocks (s.dmaFn k) (c.dstAddr + c.offset) = false) ∧ (firstDiff (s.spaceRead k 0 (c.srcAddr + c.offset) (min 512 (descLen c.elem - c.offset))) (s.spaceRead k 0 (c.dstAddr + c.offset) (min 512 (descLen c.elem - c.offset))) 0 = some i))
    ∧ (∃ s : State, ∃ die : Nat, ∃ chan : Nat,
      let k := dmaKey die chan; let c := s.dmaCh k; (descOp c.elem = 0x21) ∧ (descFlags c.elem = 0) ∧ (descLen c.elem ≤ 512) ∧ (1 < descCount c.elem 0) ∧ (c.offset = 0) ∧ (c.i0 = 0) ∧ (s.dmaLive k = true) ∧ (c.runs = true) ∧ (s.ideBlocks (s.dmaFn k) c.dstAddr = false))
    ∧ (∃ s : State, ∃ die : Nat, ∃ chan : Nat, ((s.dmaCh (dmaKey die chan)).readBack = true)
      ∧ (s.dmaLive (dmaKey die chan) = true) ∧ (s.dmaIssue (dmaKey die chan) = none))
    ∧ (∃ s : State, ∃ die : Nat, ∃ chan : Nat, ((s.dmaCh (dmaKey die chan)).readBack = true)
      ∧ (s.dmaLive (dmaKey die chan) = true) ∧ ∃ t, (s.dmaIssue (dmaKey die chan) = some t))
    ∧ (∃ s : State, ∃ die : Nat, ∃ chan : Nat, ∃ on : Bool, (s.live die = true))
    ∧ (∃ s : State, ∃ die : Nat, ∃ chan : Nat, (s.live die = true) ∧ ((s.dmaCh (dmaKey die chan)).busy = true))
    ∧ (∃ s : State, ∃ die : Nat, ∃ chan : Nat, ∃ n : Nat, (s.live die = true))
    ∧ (∃ s : State, ∃ die : Nat, ∃ chan : Nat, ∃ q : Nat, (s.live die = true)
      ∧ ((s.dmaCh (dmaKey die chan)).binder = .sequencer q) ∧ ((s.dmaCh (dmaKey die chan)).busy = false)
      ∧ (checkDescriptor (s.func (s.dmaFn (dmaKey die chan))) false (s.dmaCh (dmaKey die chan)).elem = 0))
    ∧ (∃ s : State, ∃ die : Nat, ∃ chan : Nat, ∃ q : Nat, ∃ b : Nat, ((s.dmaCh (dmaKey die chan)).binder = .sequencer q)
      ∧ (b ≠ seqId q))
    ∧ (∃ s : State, ∃ die : Nat, ∃ chan : Nat, ∃ q : Nat, ∃ b : Nat, ((s.dmaCh (dmaKey die chan)).binder = .sequencer q)
      ∧ (b ≠ seqId q) ∧ ∃ o : Nat, ∃ bs : List Byte, True)
    ∧ (∃ s : State, ∃ die : Nat, ∃ chan : Nat, ∃ q : Nat, ∃ o : Nat, ∃ bs : List Byte, (s.live die = true)
      ∧ ((s.dmaCh (dmaKey die chan)).binder = .sequencer q) ∧ ((s.dmaCh (dmaKey die chan)).busy = false))
    ∧ (∃ s : State, ∃ die : Nat, ∃ chan : Nat, ∃ q : Nat, ∃ o : Nat, ∃ bs : List Byte, (s.live die = true)
      ∧ ((s.dmaCh (dmaKey die chan)).binder = .sequencer q) ∧ ((s.dmaCh (dmaKey die chan)).busy = true)
      ∧ ((s.dmaCh (dmaKey die chan)).pause = false) ∧ ((s.dmaCh (dmaKey die chan)).forced = false)) :=
  ⟨⟨s57, 0, 3, by decide +kernel⟩,
    ⟨s58, 0, 3, by decide +kernel⟩,
    ⟨{ up with channels := [(3, ({ DmaChannel.reset with binder := .queue (pf0 0) 3, busy := true, elem := by8 [32,0,0,0] ++ toLe 4 600 ++ toLe 2 1 ++ toLe 2 1 ++ toLe 2 1 ++ toLe 2 0 ++ toLe 8 8192 ++ toLe 8 0 ++ toLe 8 16384 ++ toLe 24 0 } : DmaChannel))], tags := (List.range 32).map (fun i => (tagKey 0 i, ({ fn := pf0 0, use := .command 77, remaining := 64, quarantined := false, timeoutUs := 50000, discard := false, op := 5 } : HostTag))) }, 0, 3, by decide +kernel⟩,
    ⟨s57, 0, 3, (s57.dmaIssue (dmaKey 0 3)).getD up, by decide +kernel⟩,
    ⟨{ up with channels := [(3, ({ DmaChannel.reset with binder := .queue (pf0 0) 3, busy := true, elem := by8 [34,0,0,0] ++ toLe 4 600 ++ toLe 2 1 ++ toLe 2 1 ++ toLe 2 1 ++ toLe 2 0 ++ toLe 8 8192 ++ toLe 8 0 ++ toLe 8 16384 ++ toLe 24 0 } : DmaChannel))] },
      0, 3, by decide +kernel⟩,
    ⟨(State.writeBytes ({ up with channels := [(3, ({ DmaChannel.reset with binder := .queue (pf0 0) 3, busy := true, elem := by8 [34,0,0,0] ++ toLe 4 600 ++ toLe 2 1 ++ toLe 2 1 ++ toLe 2 1 ++ toLe 2 0 ++ toLe 8 8192 ++ toLe 8 0 ++ toLe 8 16384 ++ toLe 24 0 } : DmaChannel))] } : State) (.host 0) 8196 ([1])),
      dmaKey 0 3, 4, by decide +kernel⟩,
    ⟨{ up with channels := [(3, ({ DmaChannel.reset with binder := .queue (pf0 0) 3, busy := true, elem := by8 [33,0,0,0] ++ toLe 4 500 ++ toLe 2 2 ++ toLe 2 1 ++ toLe 2 1 ++ toLe 2 0 ++ toLe 8 8192 ++ toLe 8 0 ++ toLe 8 16384 ++ toLe 24 0 } : DmaChannel))] },
      0, 3, by decide +kernel⟩,
    ⟨{ up with channels := [(3, ({ DmaChannel.reset with binder := .queue (pf0 0) 3, busy := true, elem := by8 [33,0,0,0] ++ toLe 4 600 ++ toLe 2 1 ++ toLe 2 1 ++ toLe 2 1 ++ toLe 2 0 ++ toLe 8 8192 ++ toLe 8 0 ++ toLe 8 16384 ++ toLe 24 0, readBack := true } : DmaChannel))], tags := (List.range 32).map (fun i => (tagKey 0 i, ({ fn := pf0 0, use := .command 77, remaining := 64, quarantined := false, timeoutUs := 50000, discard := false, op := 5 } : HostTag))) }, 0, 3, by decide +kernel⟩,
    ⟨{ up with channels := [(3, ({ DmaChannel.reset with binder := .queue (pf0 0) 3, busy := true, elem := by8 [33,0,0,0] ++ toLe 4 600 ++ toLe 2 1 ++ toLe 2 1 ++ toLe 2 1 ++ toLe 2 0 ++ toLe 8 8192 ++ toLe 8 0 ++ toLe 8 16384 ++ toLe 24 0, readBack := true } : DmaChannel))] },
      0, 3, by decide +kernel, by decide +kernel,
      (({ up with channels := [(3, ({ DmaChannel.reset with binder := .queue (pf0 0) 3, busy := true, elem := by8 [33,0,0,0] ++ toLe 4 600 ++ toLe 2 1 ++ toLe 2 1 ++ toLe 2 1 ++ toLe 2 0 ++ toLe 8 8192 ++ toLe 8 0 ++ toLe 8 16384 ++ toLe 24 0, readBack := true } : DmaChannel))] } : State).dmaIssue (dmaKey 0 3)).getD up,
      by decide +kernel⟩,
    ⟨s57, 0, 3, true, by decide +kernel⟩,
    ⟨s58, 0, 3, by decide +kernel⟩,
    ⟨s57, 0, 3, 700, by decide +kernel⟩,
    ⟨s53, 0, 3, 2, by decide +kernel⟩,
    ⟨s53, 0, 3, 2, seqId 3, by decide +kernel⟩,
    ⟨s53, 0, 3, 2, seqId 3, by decide +kernel, by decide +kernel, 0, [1], by decide +kernel⟩,
    ⟨s53, 0, 3, 2, 60, [1,2,3,4,5,6], by decide +kernel⟩,
    ⟨{ up with channels := [(3, ({ DmaChannel.reset with binder := .sequencer 2, elem := by8 [33,0,0,0] ++ toLe 4 600 ++ toLe 2 1 ++ toLe 2 1 ++ toLe 2 1 ++ toLe 2 0 ++ toLe 8 8192 ++ toLe 8 0 ++ toLe 8 16384 ++ toLe 24 0, busy := true } : DmaChannel))] },
      0, 3, 2, 60, [1,2,3,4,5,6], by decide +kernel⟩⟩

theorem witness_NamespaceCommands :
    (∃ s : State, ∃ p : Packet, ∃ t : Target, (s.takesRecorded (p.of 0x0801)) ∧ (p.paramLen = 0x28) ∧ (mClass p.sender = 0)
      ∧ (fnPf p.sender = 0)
      ∧ let fn := leAt p.params 0 3; let nsid := leAt p.params 4 2; (leAt p.params 3 1 = 0) ∧ (mClass fn = 0) ∧ (fnPf fn = 1) ∧ (nsid ≠ 0) ∧ (nsid ≤ 256) ∧ (leAt p.params 6 1 = 9) ∧ (leAt p.params 7 1 = 0) ∧ (leAt p.params 8 8 ≠ 0) ∧ (leAt p.params 0x12 2 = 0) ∧ (leAt p.params 0x10 2 < 1024) ∧ (leAt p.params 0x20 4 = 0) ∧ (leAt p.params 0x24 4 = 0) ∧ (s.dieStatus (mDie fn) = none) ∧ ((s.func fn).provisioned = true) ∧ (s.namespaceOf fn nsid = none) ∧ (s.target? (mDie fn) (leAt p.params 0x10 2) = some t) ∧ ((s.storage (mDie fn)).namespaces.length < min (s.partition (mDie fn) 1).namespaces 8192) ∧ (s.hasRegions (mDie fn) = true) ∧ ((s.nvme fn).ready = false))
    ∧ (∃ s : State, ∃ p : Packet, ∃ x : Namespace, (s.takesRecorded (p.of 0x0802)) ∧ (p.paramLen = 8)
      ∧ (leAt p.params 3 1 = 0) ∧ (leAt p.params 6 2 = 0) ∧ (leAt p.params 4 2 ≠ 0) ∧ (leAt p.params 4 2 ≤ 256)
      ∧ (fnPf p.sender = 0)
      ∧ let fn := leAt p.params 0 3; (mClass fn = 0) ∧ (fnPf fn = 1) ∧ (s.dieStatus (mDie fn) = none) ∧ (s.namespaceOf fn (leAt p.params 4 2) = some x) ∧ (x.destroying = false) ∧ ((s.storage (mDie fn)).cmds = []))
    ∧ (∃ s : State, ∃ p : Packet, ∃ x : Target, (s.takesRecorded (p.of 0x8801)) ∧ (p.paramLen = 0x290)
      ∧ (leAt p.params 1 1 = 1) ∧ (leAt p.params 2 2 < 1024) ∧ (s.dieStatus (leAt p.params 0 1) = none)
      ∧ (s.target? (leAt p.params 0 1) (leAt p.params 2 2) = some x)
      ∧ ((s.storage (leAt p.params 0 1)).namespaces.any (fun e => e.2.target == leAt p.params 2 2) = true))
    ∧ (∃ s : State, ∃ p : Packet, ∃ x : Target, (s.takesRecorded (p.of 0x8801)) ∧ (p.paramLen = 0x290)
      ∧ (leAt p.params 1 1 = 1) ∧ (leAt p.params 2 2 < 1024) ∧ (s.dieStatus (leAt p.params 0 1) = none)
      ∧ (s.target? (leAt p.params 0 1) (leAt p.params 2 2) = some x)
      ∧ ((s.storage (leAt p.params 0 1)).namespaces.any (fun e => e.2.target == leAt p.params 2 2) = false) ∧ (x.paths = [])) :=
  ⟨⟨{ up with storages := [(0, { Storage.reset with namespaces := [], targets := [(1023, v33)], cmds := [] })], partitions := [(1, { Partition.reset 1 with namespaces := 64 })] },
      pk 0x0801 (toLe 4 (fnId 0 1 0) ++ toLe 2 256 ++ by8 [9,
      0] ++ toLe 8 1000 ++ toLe 4 1023 ++ toLe 4 5 ++ toLe 8 0 ++ toLe 8 0), v33, by decide +kernel⟩,
    ⟨{ up with storages := [(0, { Storage.reset with namespaces := [(0, v45)], targets := [], cmds := [] })] },
      pk 0x0802 (toLe 4 (fnId 0 1 0) ++ toLe 4 1), v45, by decide +kernel⟩,
    ⟨{ up with storages := [(0, { Storage.reset with namespaces := [(0, v45)], targets := [(7, v33)], cmds := [] })] },
      pk 0x8801 (by8 [0,1,7,0] ++ toLe 652 0), v33, by decide +kernel⟩,
    ⟨{ up with storages := [(0, { Storage.reset with namespaces := [], targets := [(7, v33)], cmds := [] })] },
      pk 0x8801 (by8 [0,1,7,0] ++ toLe 652 0), v33, by decide +kernel⟩⟩

theorem witness_NvmeIo :
    (∃ f : Nat → Nat → Instr, ∃ op : Nat, ((f, op) ∈ ([(.nvmeRead, 2), (.nvmeWrite, 1), (.nvmeCompare, 5),
      (.nvmeWriteZeroes, 8)] : List ((Nat → Nat → Instr) × Nat))) ∧ ∃ s : State, ∃ fn : Nat, ∃ sq : Nat,
      ∃ q : NvmeQueue, ∃ b : List Byte, (sq ≠ 0) ∧ (s.nvmeHead fn sq = some (q, b)) ∧ (sqeOpcode b = op)
      ∧ (sqeReserved b = false) ∧ (s.fetchList fn sq q.head b (s.ioLen fn b) = none)
      ∧ let t := s.nvmeTake fn sq q; (t.openNamespace fn (sqeNsid b) = none))
    ∧ (∃ f : Nat → Nat → Instr, ∃ op : Nat, ((f, op) ∈ ([(.nvmeRead, 2), (.nvmeWrite, 1), (.nvmeCompare, 5),
      (.nvmeWriteZeroes, 8)] : List ((Nat → Nat → Instr) × Nat))) ∧ ∃ s : State, ∃ fn : Nat, ∃ sq : Nat,
      ∃ q : NvmeQueue, ∃ b : List Byte, (sq ≠ 0) ∧ (s.nvmeHead fn sq = some (q, b)) ∧ (sqeOpcode b = op)
      ∧ (sqeReserved b = false) ∧ (s.fetchList fn sq q.head b (s.ioLen fn b) = none)
      ∧ let t := s.nvmeTake fn sq q; ∃ x, (t.openNamespace fn (sqeNsid b) = some x) ∧ (x.blocks < sqeLba b + sqeBlocks b))
    ∧ (∃ f : Nat → Nat → Instr, ∃ op : Nat, ((f, op) ∈ ([(.nvmeRead, 2), (.nvmeWrite, 1), (.nvmeCompare, 5),
      (.nvmeWriteZeroes, 8)] : List ((Nat → Nat → Instr) × Nat))) ∧ ∃ s : State, ∃ fn : Nat, ∃ sq : Nat,
      ∃ q : NvmeQueue, ∃ b : List Byte, (sq ≠ 0) ∧ (s.nvmeHead fn sq = some (q, b)) ∧ (sqeOpcode b = op)
      ∧ (sqeReserved b = false) ∧ (s.fetchList fn sq q.head b (s.ioLen fn b) = none)
      ∧ let t := s.nvmeTake fn sq q; ∃ x, (t.openNamespace fn (sqeNsid b) = some x) ∧ ∃ l, (sqeLba b + sqeBlocks b ≤ x.blocks) ∧ ((op ≠ 8 → sqeBlocks b * 2 ^ x.lbads ≤ 2 ^ 20)) ∧ (x.readOnly = false) ∧ (t.hostRanges fn b (if op = 8 then 0 else sqeBlocks b * 2 ^ x.lbads) = .ok l))
    ∧ (∃ f : Nat → Nat → Instr, ∃ op : Nat, ((f, op) ∈ ([(.nvmeRead, 2), (.nvmeWrite, 1), (.nvmeCompare, 5),
      (.nvmeWriteZeroes, 8)] : List ((Nat → Nat → Instr) × Nat))) ∧ ∃ s : State, ∃ fn : Nat, ∃ sq : Nat,
      ∃ q : NvmeQueue, ∃ b : List Byte, (sq ≠ 0) ∧ (s.nvmeHead fn sq = some (q, b)) ∧ (sqeOpcode b = op)
      ∧ (sqeReserved b = false) ∧ (s.fetchList fn sq q.head b (s.ioLen fn b) = none)
      ∧ let t := s.nvmeTake fn sq q; ∃ x, (t.openNamespace fn (sqeNsid b) = some x) ∧ (sqeLba b + sqeBlocks b ≤ x.blocks) ∧ (x.readOnly = true) ∧ (op = 8))
    ∧ (∃ s : State, ∃ fn : Nat, ∃ sq : Nat, ∃ q : NvmeQueue, ∃ b : List Byte, ∃ x : Namespace, (sq ≠ 0)
      ∧ (s.nvmeHead fn sq = some (q, b)) ∧ (sqeOpcode b = 0) ∧ (sqeReserved b = false)
      ∧ (s.fetchList fn sq q.head b (s.ioLen fn b) = none) ∧ (sqeNsid b ≠ 0xFFFFFFFF)
      ∧ ((s.nvmeTake fn sq q).openNamespace fn (sqeNsid b) = some x))
    ∧ (∃ s : State, ∃ fn : Nat, ∃ sq : Nat, ∃ q : NvmeQueue, ∃ b : List Byte, ∃ x : Namespace, ∃ l : List (Nat × Nat),
      (sq ≠ 0) ∧ (s.nvmeHead fn sq = some (q, b)) ∧ (sqeOpcode b = 9) ∧ (sqeReserved b = false)
      ∧ (s.fetchList fn sq q.head b (s.ioLen fn b) = none)
      ∧ let t := s.nvmeTake fn sq q; (t.openNamespace fn (sqeNsid b) = some x) ∧ (t.hostRanges fn b (16 * (bits (sqeDw b 10) 7 0 + 1)) = .ok l) ∧ (t.fragsBlocked fn l = false) ∧ (bits (sqeDw b 10) 7 0 = 0) ∧ (leAt (t.readFrags fn l) 8 8 + leAt (t.readFrags fn l) 4 4 ≤ x.blocks) ∧ (x.protect = true ∨ bit (sqeDw b 11) 2 = false))
    ∧ (∃ s : State, ∃ fn : Nat, ∃ sq : Nat, ∃ q : NvmeQueue, ∃ b : List Byte, ∃ x : Namespace, ∃ l : List (Nat × Nat),
      (sq ≠ 0) ∧ (s.nvmeHead fn sq = some (q, b)) ∧ (sqeOpcode b = 9) ∧ (sqeReserved b = false)
      ∧ (s.fetchList fn sq q.head b (s.ioLen fn b) = none)
      ∧ let t := s.nvmeTake fn sq q; (t.openNamespace fn (sqeNsid b) = some x) ∧ (t.hostRanges fn b (16 * (bits (sqeDw b 10) 7 0 + 1)) = .ok l) ∧ (t.fragsBlocked fn l = false) ∧ (bits (sqeDw b 10) 7 0 = 0) ∧ (leAt (t.readFrags fn l) 8 8 + leAt (t.readFrags fn l) 4 4 ≤ x.blocks) ∧ (x.protect = false) ∧ (bit (sqeDw b 11) 2 = true))
    ∧ (∃ f : Nat → Nat → Instr, ∃ op : Nat, ((f, op) ∈ ([(.nvmeRead, 2), (.nvmeWrite, 1), (.nvmeCompare, 5),
      (.nvmeDatasetManagement, 9)] : List ((Nat → Nat → Instr) × Nat))) ∧ ∃ s : State, ∃ t : State, ∃ fn : Nat,
      ∃ sq : Nat, ∃ q : NvmeQueue, ∃ b : List Byte, (sq ≠ 0) ∧ (s.nvmeHead fn sq = some (q, b)) ∧ (sqeOpcode b = op)
      ∧ (s.fetchList fn sq q.head b (s.ioLen fn b) = some t))
    ∧ (∃ f : Nat → Nat → Instr, (f ∈ ([.nvmeRead, .nvmeWrite, .nvmeCompare, .nvmeWriteZeroes, .nvmeFlush,
      .nvmeDatasetManagement] : List (Nat → Nat → Instr))) ∧ ∃ s : State, ∃ fn : Nat, ∃ sq : Nat, ∃ q : NvmeQueue,
      ∃ b : List Byte, (sq ≠ 0) ∧ (s.nvmeHead fn sq = some (q, b)) ∧ (ioKnown (sqeOpcode b) = false)) :=
  ⟨⟨.nvmeRead, 2, by (repeat' apply And.intro) <;> first | decide +kernel | rfl | trivial | simp,
      (State.writeBytes ({ up with storages := [(0, { Storage.reset with namespaces := [(0, v45)], targets := [(7, v33)], cmds := [] })], nvmes := [(2048, { Nvme.reset with cc := 1, csts := 1, sqs := [(1, v28)], cqs := [(1, ({ base := 65536, size := 4, head := 0, tail := 0, peer := 0, intEnable := true, phase := true, held := [], retried := false } : NvmeQueue))] })] } : State) (.host 0) 65536 (by8 [2,0] ++ toLe 2 6 ++ toLe 4 9 ++ toLe 16 0 ++ toLe 8 131072 ++ toLe 8 0 ++ toLe 4 0 ++ toLe 4 0 ++ toLe 4 0 ++ toLe 4 0 ++ toLe 4 0 ++ toLe 4 0)),
      fnId 0 1 0, 1, v28,
      by8 [2,0] ++ toLe 2 6 ++ toLe 4 9 ++ toLe 16 0 ++ toLe 8 131072 ++ toLe 8 0 ++ toLe 4 0 ++ toLe 4 0 ++ toLe 4 0 ++ toLe 4 0 ++ toLe 4 0 ++ toLe 4 0,
      by (repeat' apply And.intro) <;> first | decide +kernel | rfl | trivial | simp⟩,
    ⟨.nvmeRead, 2, by (repeat' apply And.intro) <;> first | decide +kernel | rfl | trivial | simp,
      (State.writeBytes ({ up with storages := [(0, { Storage.reset with namespaces := [(0, v45)], targets := [(7, v33)], cmds := [] })], nvmes := [(2048, { Nvme.reset with cc := 1, csts := 1, sqs := [(1, v28)], cqs := [(1, ({ base := 65536, size := 4, head := 0, tail := 0, peer := 0, intEnable := true, phase := true, held := [], retried := false } : NvmeQueue))] })] } : State) (.host 0) 65536 (by8 [2,0] ++ toLe 2 6 ++ toLe 4 1 ++ toLe 16 0 ++ toLe 8 131072 ++ toLe 8 0 ++ toLe 4 999 ++ toLe 4 0 ++ toLe 4 1 ++ toLe 4 0 ++ toLe 4 0 ++ toLe 4 0)),
      fnId 0 1 0, 1, v28,
      by8 [2,0] ++ toLe 2 6 ++ toLe 4 1 ++ toLe 16 0 ++ toLe 8 131072 ++ toLe 8 0 ++ toLe 4 999 ++ toLe 4 0 ++ toLe 4 1 ++ toLe 4 0 ++ toLe 4 0 ++ toLe 4 0,
      by (repeat' apply And.intro) <;> first | decide +kernel | rfl | trivial | simp,
      by (repeat' apply And.intro) <;> first | decide +kernel | rfl | trivial | simp,
      by (repeat' apply And.intro) <;> first | decide +kernel | rfl | trivial | simp,
      by (repeat' apply And.intro) <;> first | decide +kernel | rfl | trivial | simp,
      by (repeat' apply And.intro) <;> first | decide +kernel | rfl | trivial | simp, v45,
      by (repeat' apply And.intro) <;> first | decide +kernel | rfl | trivial | simp⟩,
    ⟨.nvmeRead, 2, by (repeat' apply And.intro) <;> first | decide +kernel | rfl | trivial | simp,
      (State.writeBytes ({ up with storages := [(0, { Storage.reset with namespaces := [(0, v45)], targets := [(7, v33)], cmds := [] })], nvmes := [(2048, { Nvme.reset with cc := 1, csts := 1, sqs := [(1, v28)], cqs := [(1, ({ base := 65536, size := 4, head := 0, tail := 0, peer := 0, intEnable := true, phase := true, held := [], retried := false } : NvmeQueue))] })] } : State) (.host 0) 65536 (by8 [2,0] ++ toLe 2 6 ++ toLe 4 1 ++ toLe 16 0 ++ toLe 8 131072 ++ toLe 8 0 ++ toLe 4 998 ++ toLe 4 0 ++ toLe 4 1 ++ toLe 4 0 ++ toLe 4 0 ++ toLe 4 0)),
      fnId 0 1 0, 1, v28,
      by8 [2,0] ++ toLe 2 6 ++ toLe 4 1 ++ toLe 16 0 ++ toLe 8 131072 ++ toLe 8 0 ++ toLe 4 998 ++ toLe 4 0 ++ toLe 4 1 ++ toLe 4 0 ++ toLe 4 0 ++ toLe 4 0,
      by (repeat' apply And.intro) <;> first | decide +kernel | rfl | trivial | simp,
      by (repeat' apply And.intro) <;> first | decide +kernel | rfl | trivial | simp,
      by (repeat' apply And.intro) <;> first | decide +kernel | rfl | trivial | simp,
      by (repeat' apply And.intro) <;> first | decide +kernel | rfl | trivial | simp,
      by (repeat' apply And.intro) <;> first | decide +kernel | rfl | trivial | simp, v45,
      by (repeat' apply And.intro) <;> first | decide +kernel | rfl | trivial | simp, [(131072, 1024)],
      by (repeat' apply And.intro) <;> first | decide +kernel | rfl | trivial | simp⟩,
    ⟨.nvmeWriteZeroes, 8, by (repeat' apply And.intro) <;> first | decide +kernel | rfl | trivial | simp,
      (State.writeBytes ({ up with storages := [(0, { Storage.reset with namespaces := [(0, ({ fn := fnId 0 1 0, nsid := 1, protect := false, readOnly := true, lbads := 9, blocks := 1000, target := 7, remoteNsid := 5, remoteOffset := 0, writeSlot := 0, readSlot := 0, destroying := false } : Namespace))], targets := [(7, v33)], cmds := [] })], nvmes := [(2048, { Nvme.reset with cc := 1, csts := 1, sqs := [(1, v28)], cqs := [(1, ({ base := 65536, size := 4, head := 0, tail := 0, peer := 0, intEnable := true, phase := true, held := [], retried := false } : NvmeQueue))] })] } : State) (.host 0) 65536 (by8 [8,0] ++ toLe 2 6 ++ toLe 4 1 ++ toLe 16 0 ++ toLe 8 131072 ++ toLe 8 0 ++ toLe 4 998 ++ toLe 4 0 ++ toLe 4 1 ++ toLe 4 0 ++ toLe 4 0 ++ toLe 4 0)),
      fnId 0 1 0, 1, v28,
      by8 [8,0] ++ toLe 2 6 ++ toLe 4 1 ++ toLe 16 0 ++ toLe 8 131072 ++ toLe 8 0 ++ toLe 4 998 ++ toLe 4 0 ++ toLe 4 1 ++ toLe 4 0 ++ toLe 4 0 ++ toLe 4 0,
      by (repeat' apply And.intro) <;> first | decide +kernel | rfl | trivial | simp,
      by (repeat' apply And.intro) <;> first | decide +kernel | rfl | trivial | simp,
      by (repeat' apply And.intro) <;> first | decide +kernel | rfl | trivial | simp,
      by (repeat' apply And.intro) <;> first | decide +kernel | rfl | trivial | simp,
      by (repeat' apply And.intro) <;> first | decide +kernel | rfl | trivial | simp,
      ({ fn := fnId 0 1 0, nsid := 1, protect := false, readOnly := true, lbads := 9, blocks := 1000, target := 7, remoteNsid := 5, remoteOffset := 0, writeSlot := 0, readSlot := 0, destroying := false } : Namespace),
      by (repeat' apply And.intro) <;> first | decide +kernel | rfl | trivial | simp⟩,
    ⟨(State.writeBytes ({ up with storages := [(0, { Storage.reset with namespaces := [(0, v45)], targets := [(7, v33)], cmds := [] })], nvmes := [(2048, { Nvme.reset with cc := 1, csts := 1, sqs := [(1, v28)], cqs := [(1, ({ base := 65536, size := 4, head := 0, tail := 0, peer := 0, intEnable := true, phase := true, held := [], retried := false } : NvmeQueue))] })] } : State) (.host 0) 65536 (by8 [0,0] ++ toLe 2 6 ++ toLe 4 1 ++ toLe 16 0 ++ toLe 8 131072 ++ toLe 8 0 ++ toLe 4 0 ++ toLe 4 0 ++ toLe 4 0 ++ toLe 4 0 ++ toLe 4 0 ++ toLe 4 0)),
      fnId 0 1 0, 1, v28,
      by8 [0,0] ++ toLe 2 6 ++ toLe 4 1 ++ toLe 16 0 ++ toLe 8 131072 ++ toLe 8 0 ++ toLe 4 0 ++ toLe 4 0 ++ toLe 4 0 ++ toLe 4 0 ++ toLe 4 0 ++ toLe 4 0,
      v45, by decide +kernel⟩,
    ⟨(State.writeBytes ({ up with storages := [(0, { Storage.reset with namespaces := [(0, v45)], targets := [(7, v33)], cmds := [] })], nvmes := [(2048, { Nvme.reset with cc := 1, csts := 1, sqs := [(1, v28)], cqs := [(1, ({ base := 65536, size := 4, head := 0, tail := 0, peer := 0, intEnable := true, phase := true, held := [], retried := false } : NvmeQueue))] })] } : State) (.host 0) 65536 (by8 [9,0] ++ toLe 2 6 ++ toLe 4 1 ++ toLe 16 0 ++ toLe 8 131072 ++ toLe 8 0 ++ toLe 4 0 ++ toLe 4 0 ++ toLe 4 0 ++ toLe 4 0 ++ toLe 4 0 ++ toLe 4 0)),
      fnId 0 1 0, 1, v28,
      by8 [9,0] ++ toLe 2 6 ++ toLe 4 1 ++ toLe 16 0 ++ toLe 8 131072 ++ toLe 8 0 ++ toLe 4 0 ++ toLe 4 0 ++ toLe 4 0 ++ toLe 4 0 ++ toLe 4 0 ++ toLe 4 0,
      v45, [(131072, 16)], by decide +kernel⟩,
    ⟨(State.writeBytes ({ up with storages := [(0, { Storage.reset with namespaces := [(0, v45)], targets := [(7, v33)], cmds := [] })], nvmes := [(2048, { Nvme.reset with cc := 1, csts := 1, sqs := [(1, v28)], cqs := [(1, ({ base := 65536, size := 4, head := 0, tail := 0, peer := 0, intEnable := true, phase := true, held := [], retried := false } : NvmeQueue))] })] } : State) (.host 0) 65536 (by8 [9,0] ++ toLe 2 6 ++ toLe 4 1 ++ toLe 16 0 ++ toLe 8 131072 ++ toLe 8 0 ++ toLe 4 0 ++ toLe 4 4 ++ toLe 4 0 ++ toLe 4 0 ++ toLe 4 0 ++ toLe 4 0)),
      fnId 0 1 0, 1, v28,
      by8 [9,0] ++ toLe 2 6 ++ toLe 4 1 ++ toLe 16 0 ++ toLe 8 131072 ++ toLe 8 0 ++ toLe 4 0 ++ toLe 4 4 ++ toLe 4 0 ++ toLe 4 0 ++ toLe 4 0 ++ toLe 4 0,
      v45, [(131072, 16)], by decide +kernel⟩,
    ⟨.nvmeRead, 2, by (repeat' apply And.intro) <;> first | decide +kernel | rfl | trivial | simp,
      (State.writeBytes ({ up with storages := [(0, { Storage.reset with namespaces := [(0, v45)], targets := [(7, v33)], cmds := [] })], nvmes := [(2048, { Nvme.reset with cc := 1, csts := 1, sqs := [(1, v28)], cqs := [(1, ({ base := 65536, size := 4, head := 0, tail := 0, peer := 0, intEnable := true, phase := true, held := [], retried := false } : NvmeQueue))] })] } : State) (.host 0) 65536 (by8 [2,0] ++ toLe 2 6 ++ toLe 4 1 ++ toLe 16 0 ++ toLe 8 131072 ++ toLe 8 65792 ++ toLe 4 0 ++ toLe 4 0 ++ toLe 4 23 ++ toLe 4 0 ++ toLe 4 0 ++ toLe 4 0)),
      ((State.fetchList (State.writeBytes ({ up with storages := [(0, { Storage.reset with namespaces := [(0, v45)], targets := [(7, v33)], cmds := [] })], nvmes := [(2048, { Nvme.reset with cc := 1, csts := 1, sqs := [(1, v28)], cqs := [(1, ({ base := 65536, size := 4, head := 0, tail := 0, peer := 0, intEnable := true, phase := true, held := [], retried := false } : NvmeQueue))] })] } : State) (.host 0) 65536 (by8 [2,0] ++ toLe 2 6 ++ toLe 4 1 ++ toLe 16 0 ++ toLe 8 131072 ++ toLe 8 65792 ++ toLe 4 0 ++ toLe 4 0 ++ toLe 4 23 ++ toLe 4 0 ++ toLe 4 0 ++ toLe 4 0)) (fnId 0 1 0) 1 0 (by8 [2,0] ++ toLe 2 6 ++ toLe 4 1 ++ toLe 16 0 ++ toLe 8 131072 ++ toLe 8 65792 ++ toLe 4 0 ++ toLe 4 0 ++ toLe 4 23 ++ toLe 4 0 ++ toLe 4 0 ++ toLe 4 0) (State.ioLen (State.writeBytes ({ up with storages := [(0, { Storage.reset with namespaces := [(0, v45)], targets := [(7, v33)], cmds := [] })], nvmes := [(2048, { Nvme.reset with cc := 1, csts := 1, sqs := [(1, v28)], cqs := [(1, ({ base := 65536, size := 4, head := 0, tail := 0, peer := 0, intEnable := true, phase := true, held := [], retried := false } : NvmeQueue))] })] } : State) (.host 0) 65536 (by8 [2,0] ++ toLe 2 6 ++ toLe 4 1 ++ toLe 16 0 ++ toLe 8 131072 ++ toLe 8 65792 ++ toLe 4 0 ++ toLe 4 0 ++ toLe 4 23 ++ toLe 4 0 ++ toLe 4 0 ++ toLe 4 0)) (fnId 0 1 0) (by8 [2,0] ++ toLe 2 6 ++ toLe 4 1 ++ toLe 16 0 ++ toLe 8 131072 ++ toLe 8 65792 ++ toLe 4 0 ++ toLe 4 0 ++ toLe 4 23 ++ toLe 4 0 ++ toLe 4 0 ++ toLe 4 0))).getD up),
      fnId 0 1 0, 1, v28,
      by8 [2,0] ++ toLe 2 6 ++ toLe 4 1 ++ toLe 16 0 ++ toLe 8 131072 ++ toLe 8 65792 ++ toLe 4 0 ++ toLe 4 0 ++ toLe 4 23 ++ toLe 4 0 ++ toLe 4 0 ++ toLe 4 0,
      by (repeat' apply And.intro) <;> first | decide +kernel | rfl | trivial | simp⟩,
    ⟨.nvmeRead, by (repeat' apply And.intro) <;> first | decide +kernel | rfl | trivial | simp,
      (State.writeBytes ({ up with storages := [(0, { Storage.reset with namespaces := [(0, v45)], targets := [(7, v33)], cmds := [] })], nvmes := [(2048, { Nvme.reset with cc := 1, csts := 1, sqs := [(1, v28)], cqs := [(1, ({ base := 65536, size := 4, head := 0, tail := 0, peer := 0, intEnable := true, phase := true, held := [], retried := false } : NvmeQueue))] })] } : State) (.host 0) 65536 (by8 [119,0] ++ toLe 2 6 ++ toLe 4 1 ++ toLe 16 0 ++ toLe 8 131072 ++ toLe 8 0 ++ toLe 4 0 ++ toLe 4 0 ++ toLe 4 0 ++ toLe 4 0 ++ toLe 4 0 ++ toLe 4 0)),
      fnId 0 1 0, 1, v28,
      by8 [119,0] ++ toLe 2 6 ++ toLe 4 1 ++ toLe 16 0 ++ toLe 8 131072 ++ toLe 8 0 ++ toLe 4 0 ++ toLe 4 0 ++ toLe 4 0 ++ toLe 4 0 ++ toLe 4 0 ++ toLe 4 0,
      by (repeat' apply And.intro) <;> first | decide +kernel | rfl | trivial | simp⟩⟩

theorem witness_NvmeAdmin :
    (∃ s : State, ∃ fn : Nat, ∃ q : NvmeQueue, ∃ b : List Byte, (s.adminRuns fn q b)
      ∧ let t := s.nvmeTake fn 0 q; let w := sqeDw b 11; let qid := bits (sqeDw b 10) 15 0; let n := bits (sqeDw b 10) 31 16 + 1; let base : NvmeQueue := { base := leAt b 24 8, size := n, head := 0, tail := 0, peer := bits w 31 16, intEnable := false, phase := false, held := [], retried := false }; (sqeOpcode b = 5) ∧ (badQueue (t.nvme fn) b (t.nvme fn).cqs = none) ∧ ((t.nvme fn).cqs.length < min (t.func fn).queuePairs 256) ∧ (2 ≤ t.sharedSlots (mDie fn)) ∧ (bits w 31 16 < (t.func fn).vectorsInEffect) ∧ (bits w 15 2 = 0) ∧ ((t.func fn).inWindow (leAt b 24 8) (16 * n) = true))
    ∧ (∃ s : State, ∃ fn : Nat, ∃ q : NvmeQueue, ∃ b : List Byte, (s.adminRuns fn q b)
      ∧ let t := s.nvmeTake fn 0 q; let w := sqeDw b 11; let qid := bits (sqeDw b 10) 15 0; let n := bits (sqeDw b 10) 31 16 + 1; let base : NvmeQueue := { base := leAt b 24 8, size := n, head := 0, tail := 0, peer := bits w 31 16, intEnable := false, phase := false, held := [], retried := false }; (sqeOpcode b = 1) ∧ (badQueue (t.nvme fn) b (t.nvme fn).sqs = none) ∧ (bits w 31 16 ≠ 0) ∧ ((Tbl.find (t.nvme fn).cqs (bits w 31 16)).isSome = true) ∧ ((t.nvme fn).sqs.length < 256) ∧ (bits w 15 3 = 0) ∧ ((t.func fn).inWindow (leAt b 24 8) (64 * n) = true))
    ∧ (∃ s : State, ∃ fn : Nat, ∃ q : NvmeQueue, ∃ b : List Byte, (s.adminRuns fn q b)
      ∧ let t := s.nvmeTake fn 0 q; let w := sqeDw b 11; let qid := bits (sqeDw b 10) 15 0; let n := bits (sqeDw b 10) 31 16 + 1; let base : NvmeQueue := { base := leAt b 24 8, size := n, head := 0, tail := 0, peer := bits w 31 16, intEnable := false, phase := false, held := [], retried := false }; (sqeOpcode b = 4) ∧ (qid ≠ 0) ∧ ((Tbl.find (t.nvme fn).cqs qid).isSome = true) ∧ (n = 1) ∧ ((t.nvme fn).sqs.any (fun e => e.2.peer == qid) = true))
    ∧ (∃ s : State, ∃ fn : Nat, ∃ q : NvmeQueue, ∃ b : List Byte, (s.adminRuns fn q b)
      ∧ let t := s.nvmeTake fn 0 q; let w := sqeDw b 11; let qid := bits (sqeDw b 10) 15 0; let n := bits (sqeDw b 10) 31 16 + 1; let base : NvmeQueue := { base := leAt b 24 8, size := n, head := 0, tail := 0, peer := bits w 31 16, intEnable := false, phase := false, held := [], retried := false }; (sqeOpcode b = 4) ∧ (qid ≠ 0) ∧ ((Tbl.find (t.nvme fn).cqs qid).isSome = true) ∧ (n = 1) ∧ ((t.nvme fn).sqs.any (fun e => e.2.peer == qid) = false))
    ∧ (∃ s : State, ∃ fn : Nat, ∃ q : NvmeQueue, ∃ b : List Byte, (s.adminRuns fn q b)
      ∧ let t := s.nvmeTake fn 0 q; let w := sqeDw b 11; let qid := bits (sqeDw b 10) 15 0; let n := bits (sqeDw b 10) 31 16 + 1; let base : NvmeQueue := { base := leAt b 24 8, size := n, head := 0, tail := 0, peer := bits w 31 16, intEnable := false, phase := false, held := [], retried := false }; (sqeOpcode b = 0) ∧ (qid ≠ 0) ∧ ((Tbl.find (t.nvme fn).sqs qid).isSome = true) ∧ (n = 1) ∧ ((t.storage (mDie fn)).cmds = []))
    ∧ (∃ s : State, ∃ fn : Nat, ∃ q : NvmeQueue, ∃ b : List Byte, (s.adminRuns fn q b)
      ∧ let t := s.nvmeTake fn 0 q; let w := sqeDw b 11; let qid := bits (sqeDw b 10) 15 0; let n := bits (sqeDw b 10) 31 16 + 1; let base : NvmeQueue := { base := leAt b 24 8, size := n, head := 0, tail := 0, peer := bits w 31 16, intEnable := false, phase := false, held := [], retried := false }; (sqeOpcode b = 6) ∧ (bits (sqeDw b 10) 15 0 = 1))
    ∧ (∃ s : State, ∃ fn : Nat, ∃ q : NvmeQueue, ∃ b : List Byte, (s.adminRuns fn q b)
      ∧ let t := s.nvmeTake fn 0 q; let w := sqeDw b 11; let qid := bits (sqeDw b 10) 15 0; let n := bits (sqeDw b 10) 31 16 + 1; let base : NvmeQueue := { base := leAt b 24 8, size := n, head := 0, tail := 0, peer := bits w 31 16, intEnable := false, phase := false, held := [], retried := false }; (sqeOpcode b = 6) ∧ (bits (sqeDw b 10) 15 0 = 0) ∧ (sqeNsid b ≠ 0) ∧ (sqeNsid b ≤ 256))
    ∧ (∃ s : State, ∃ fn : Nat, ∃ q : NvmeQueue, ∃ b : List Byte, (s.adminRuns fn q b)
      ∧ let t := s.nvmeTake fn 0 q; let w := sqeDw b 11; let qid := bits (sqeDw b 10) 15 0; let n := bits (sqeDw b 10) 31 16 + 1; let base : NvmeQueue := { base := leAt b 24 8, size := n, head := 0, tail := 0, peer := bits w 31 16, intEnable := false, phase := false, held := [], retried := false }; (sqeOpcode b = 2) ∧ (bits (sqeDw b 10) 7 0 = 4) ∧ (leAt b 48 8 = 0) ∧ (bit (sqeDw b 10) 15 = true))
    ∧ (∃ s : State, ∃ fn : Nat, ∃ q : NvmeQueue, ∃ b : List Byte, (s.adminRuns fn q b)
      ∧ let t := s.nvmeTake fn 0 q; let w := sqeDw b 11; let qid := bits (sqeDw b 10) 15 0; let n := bits (sqeDw b 10) 31 16 + 1; let base : NvmeQueue := { base := leAt b 24 8, size := n, head := 0, tail := 0, peer := bits w 31 16, intEnable := false, phase := false, held := [], retried := false }; (sqeOpcode b = 9) ∧ (bits (sqeDw b 10) 31 8 = 0) ∧ (bits (sqeDw b 10) 7 0 = 0x0B))
    ∧ (∃ s : State, ∃ fn : Nat, ∃ q : NvmeQueue, ∃ b : List Byte, (s.adminRuns fn q b)
      ∧ let t := s.nvmeTake fn 0 q; let w := sqeDw b 11; let qid := bits (sqeDw b 10) 15 0; let n := bits (sqeDw b 10) 31 16 + 1; let base : NvmeQueue := { base := leAt b 24 8, size := n, head := 0, tail := 0, peer := bits w 31 16, intEnable := false, phase := false, held := [], retried := false }; (sqeOpcode b = 9) ∧ (bits (sqeDw b 10) 31 8 = 0) ∧ (bits (sqeDw b 10) 7 0 = 0x06))
    ∧ (∃ s : State, ∃ fn : Nat, ∃ q : NvmeQueue, ∃ b : List Byte, (s.adminRuns fn q b)
      ∧ let t := s.nvmeTake fn 0 q; let w := sqeDw b 11; let qid := bits (sqeDw b 10) 15 0; let n := bits (sqeDw b 10) 31 16 + 1; let base : NvmeQueue := { base := leAt b 24 8, size := n, head := 0, tail := 0, peer := bits w 31 16, intEnable := false, phase := false, held := [], retried := false }; (sqeOpcode b = 0x0A) ∧ (bits (sqeDw b 10) 31 8 = 0) ∧ (bits (sqeDw b 10) 7 0 = 0x0B))
    ∧ (∃ s : State, ∃ fn : Nat, ∃ q : NvmeQueue, ∃ b : List Byte, (s.adminRuns fn q b)
      ∧ let t := s.nvmeTake fn 0 q; let w := sqeDw b 11; let qid := bits (sqeDw b 10) 15 0; let n := bits (sqeDw b 10) 31 16 + 1; let base : NvmeQueue := { base := leAt b 24 8, size := n, head := 0, tail := 0, peer := bits w 31 16, intEnable := false, phase := false, held := [], retried := false }; (sqeOpcode b = 0x0C))
    ∧ (∃ s : State, ∃ fn : Nat, ∃ q : NvmeQueue, ∃ b : List Byte, (s.adminRuns fn q b)
      ∧ let t := s.nvmeTake fn 0 q; let w := sqeDw b 11; let qid := bits (sqeDw b 10) 15 0; let n := bits (sqeDw b 10) 31 16 + 1; let base : NvmeQueue := { base := leAt b 24 8, size := n, head := 0, tail := 0, peer := bits w 31 16, intEnable := false, phase := false, held := [], retried := false }; (sqeOpcode b = 8) ∧ ((t.storage (mDie fn)).cmds = []))
    ∧ (∃ s : State, ∃ fn : Nat, ∃ q : NvmeQueue, ∃ b : List Byte, (s.adminRuns fn q b)
      ∧ let t := s.nvmeTake fn 0 q; let w := sqeDw b 11; let qid := bits (sqeDw b 10) 15 0; let n := bits (sqeDw b 10) 31 16 + 1; let base : NvmeQueue := { base := leAt b 24 8, size := n, head := 0, tail := 0, peer := bits w 31 16, intEnable := false, phase := false, held := [], retried := false }; ∃ k : Nat, ∃ c : NvmeCmd, (sqeOpcode b = 8) ∧ ((t.storage (mDie fn)).cmds = [(k, c)]) ∧ (c.fn = fn) ∧ (c.sq = bits (sqeDw b 10) 15 0) ∧ (c.cid = bits (sqeDw b 10) 31 16) ∧ (c.orphan = false) ∧ (c.phase = .staging) ∧ (c.reissues = 0) ∧ (c.pos = 0))
    ∧ (∃ f : Nat → Instr, (f ∈ ([.createIoSq, .deleteIoSq, .createIoCq, .deleteIoCq, .identify, .getLogPage, .setFeatures,
      .getFeatures, .asynchronousEventRequest, .nvmeAbort] : List (Nat → Instr))) ∧ ∃ s : State, ∃ fn : Nat,
      ∃ q : NvmeQueue, ∃ b : List Byte, (s.nvmeHead fn 0 = some (q, b)) ∧ (s.adminKnown fn (sqeOpcode b) = false))
    ∧ (∃ s : State, ∃ t : State, ∃ fn : Nat, ∃ q : NvmeQueue, ∃ b : List Byte, (s.nvmeHead fn 0 = some (q, b))
      ∧ (s.adminKnown fn (sqeOpcode b) = true) ∧ (s.fetchList fn 0 q.head b (adminLen b) = some t) ∧ (sqeOpcode b = 6))
    ∧ (∃ s : State, ∃ t : State, ∃ fn : Nat, ∃ q : NvmeQueue, ∃ b : List Byte, (s.nvmeHead fn 0 = some (q, b))
      ∧ (s.adminKnown fn (sqeOpcode b) = true) ∧ (s.fetchList fn 0 q.head b (adminLen b) = some t) ∧ (sqeOpcode b = 2))
    ∧ (∃ s : State, ∃ fn : Nat, (s.hostReach (mDie fn) = true) ∧ (s.isStorage fn = true) ∧ ((s.func fn).halted = false)
      ∧ (bit (s.nvme fn).cc 0 = false) ∧ (bit (s.nvme fn).csts 0 = false))
    ∧ (∃ s : State, ∃ fn : Nat, (s.hostReach (mDie fn) = true) ∧ (s.isStorage fn = true) ∧ (bit (s.nvme fn).cc 0 = true)
      ∧ ((s.storage (mDie fn)).cmds = [])) :=
  ⟨⟨(State.writeBytes ({ up with storages := [(0, { Storage.reset with namespaces := [(0, v45)], targets := [(7, v33)], cmds := [] })], nvmes := [(2048, { Nvme.reset with cc := 1, csts := 1, sqs := [(0, v27)], cqs := [(0, ({ base := 65536, size := 4, head := 0, tail := 0, peer := 0, intEnable := true, phase := true, held := [], retried := false } : NvmeQueue))] })] } : State) (.host 0) 65536 (by8 [5,0] ++ toLe 2 6 ++ toLe 4 1 ++ toLe 16 0 ++ toLe 8 131072 ++ toLe 8 0 ++ toLe 4 (255 + 65536 * 3) ++ toLe 4 (3 + 65536 * 64) ++ toLe 4 0 ++ toLe 4 0 ++ toLe 4 0 ++ toLe 4 0)),
      fnId 0 1 0, v27,
      by8 [5,0] ++ toLe 2 6 ++ toLe 4 1 ++ toLe 16 0 ++ toLe 8 131072 ++ toLe 8 0 ++ toLe 4 (255 + 65536 * 3) ++ toLe 4 (3 + 65536 * 64) ++ toLe 4 0 ++ toLe 4 0 ++ toLe 4 0 ++ toLe 4 0,
      by decide +kernel⟩,
    ⟨(State.writeBytes ({ up with storages := [(0, { Storage.reset with namespaces := [(0, v45)], targets := [(7, v33)], cmds := [] })], nvmes := [(2048, { Nvme.reset with cc := 1, csts := 1, sqs := [(0, v27)], cqs := [(0, ({ base := 65536, size := 4, head := 0, tail := 0, peer := 0, intEnable := true, phase := false, held := [], retried := false } : NvmeQueue)), (4, ({ base := 65536, size := 4, head := 0, tail := 0, peer := 0, intEnable := true, phase := false, held := [], retried := false } : NvmeQueue))] })] } : State) (.host 0) 65536 (by8 [1,0] ++ toLe 2 6 ++ toLe 4 1 ++ toLe 16 0 ++ toLe 8 131072 ++ toLe 8 0 ++ toLe 4 (255 + 65536 * 3) ++ toLe 4 (1 + 65536 * 4) ++ toLe 4 0 ++ toLe 4 0 ++ toLe 4 0 ++ toLe 4 0)),
      fnId 0 1 0, v27,
      by8 [1,0] ++ toLe 2 6 ++ toLe 4 1 ++ toLe 16 0 ++ toLe 8 131072 ++ toLe 8 0 ++ toLe 4 (255 + 65536 * 3) ++ toLe 4 (1 + 65536 * 4) ++ toLe 4 0 ++ toLe 4 0 ++ toLe 4 0 ++ toLe 4 0,
      by decide +kernel⟩,
    ⟨(State.writeBytes ({ up with storages := [(0, { Storage.reset with namespaces := [(0, v45)], targets := [(7, v33)], cmds := [] })], nvmes := [(2048, { Nvme.reset with cc := 1, csts := 1, sqs := [(0, v27), (9, ({ base := 65536, size := 4, head := 0, tail := 1, peer := 4, intEnable := true, phase := false, held := [], retried := false } : NvmeQueue))], cqs := [(0, ({ base := 65536, size := 4, head := 0, tail := 0, peer := 0, intEnable := true, phase := false, held := [], retried := false } : NvmeQueue)), (4, ({ base := 65536, size := 4, head := 0, tail := 0, peer := 0, intEnable := true, phase := false, held := [], retried := false } : NvmeQueue))] })] } : State) (.host 0) 65536 v30),
      fnId 0 1 0, v27, v30, by decide +kernel⟩,
    ⟨(State.writeBytes ({ up with storages := [(0, { Storage.reset with namespaces := [(0, v45)], targets := [(7, v33)], cmds := [] })], nvmes := [(2048, { Nvme.reset with cc := 1, csts := 1, sqs := [(0, v27)], cqs := [(0, ({ base := 65536, size := 4, head := 0, tail := 0, peer := 0, intEnable := true, phase := false, held := [], retried := false } : NvmeQueue)), (4, ({ base := 65536, size := 4, head := 0, tail := 0, peer := 0, intEnable := true, phase := false, held := [], retried := false } : NvmeQueue))] })] } : State) (.host 0) 65536 v30),
      fnId 0 1 0, v27, v30, by decide +kernel⟩,
    ⟨(State.writeBytes ({ up with storages := [(0, { Storage.reset with namespaces := [(0, v45)], targets := [(7, v33)], cmds := [] })], nvmes := [(2048, { Nvme.reset with cc := 1, csts := 1, sqs := [(0, v27), (9, ({ base := 65536, size := 4, head := 0, tail := 1, peer := 4, intEnable := true, phase := false, held := [], retried := false } : NvmeQueue))], cqs := [(0, ({ base := 65536, size := 4, head := 0, tail := 0, peer := 0, intEnable := true, phase := false, held := [], retried := false } : NvmeQueue)), (4, ({ base := 65536, size := 4, head := 0, tail := 0, peer := 0, intEnable := true, phase := false, held := [], retried := false } : NvmeQueue))] })] } : State) (.host 0) 65536 (by8 [0,0] ++ toLe 2 6 ++ toLe 4 1 ++ toLe 16 0 ++ toLe 8 131072 ++ toLe 8 0 ++ toLe 4 9 ++ toLe 4 0 ++ toLe 4 0 ++ toLe 4 0 ++ toLe 4 0 ++ toLe 4 0)),
      fnId 0 1 0, v27,
      by8 [0,0] ++ toLe 2 6 ++ toLe 4 1 ++ toLe 16 0 ++ toLe 8 131072 ++ toLe 8 0 ++ toLe 4 9 ++ toLe 4 0 ++ toLe 4 0 ++ toLe 4 0 ++ toLe 4 0 ++ toLe 4 0,
      by decide +kernel⟩,
    ⟨(State.writeBytes ({ up with storages := [(0, { Storage.reset with namespaces := [(0, v45)], targets := [(7, v33)], cmds := [] })], nvmes := [(2048, { Nvme.reset with cc := 1, csts := 1, sqs := [(0, v27)], cqs := [(0, ({ base := 65536, size := 4, head := 0, tail := 0, peer := 0, intEnable := true, phase := true, held := [], retried := false } : NvmeQueue))] })] } : State) (.host 0) 65536 (by8 [6,0] ++ toLe 2 6 ++ toLe 4 1 ++ toLe 16 0 ++ toLe 8 131072 ++ toLe 8 0 ++ toLe 4 1 ++ toLe 4 0 ++ toLe 4 0 ++ toLe 4 0 ++ toLe 4 0 ++ toLe 4 0)),
      fnId 0 1 0, v27,
      by8 [6,0] ++ toLe 2 6 ++ toLe 4 1 ++ toLe 16 0 ++ toLe 8 131072 ++ toLe 8 0 ++ toLe 4 1 ++ toLe 4 0 ++ toLe 4 0 ++ toLe 4 0 ++ toLe 4 0 ++ toLe 4 0,
      by decide +kernel⟩,
    ⟨(State.writeBytes ({ up with storages := [(0, { Storage.reset with namespaces := [(0, v45)], targets := [(7, v33)], cmds := [] })], nvmes := [(2048, { Nvme.reset with cc := 1, csts := 1, sqs := [(0, v27)], cqs := [(0, ({ base := 65536, size := 4, head := 0, tail := 0, peer := 0, intEnable := true, phase := true, held := [], retried := false } : NvmeQueue))] })] } : State) (.host 0) 65536 (by8 [6,0] ++ toLe 2 6 ++ toLe 4 256 ++ toLe 16 0 ++ toLe 8 131072 ++ toLe 8 0 ++ toLe 4 0 ++ toLe 4 0 ++ toLe 4 0 ++ toLe 4 0 ++ toLe 4 0 ++ toLe 4 0)),
      fnId 0 1 0, v27,
      by8 [6,0] ++ toLe 2 6 ++ toLe 4 256 ++ toLe 16 0 ++ toLe 8 131072 ++ toLe 8 0 ++ toLe 4 0 ++ toLe 4 0 ++ toLe 4 0 ++ toLe 4 0 ++ toLe 4 0 ++ toLe 4 0,
      by decide +kernel⟩,
    ⟨(State.writeBytes ({ up with storages := [(0, { Storage.reset with namespaces := [(0, v45)], targets := [(7, v33)], cmds := [] })], nvmes := [(2048, { Nvme.reset with cc := 1, csts := 1, sqs := [(0, v27)], cqs := [(0, ({ base := 65536, size := 4, head := 0, tail := 0, peer := 0, intEnable := true, phase := true, held := [], retried := false } : NvmeQueue))], changedNs := [3,5] })] } : State) (.host 0) 65536 (by8 [2,0] ++ toLe 2 6 ++ toLe 4 1 ++ toLe 16 0 ++ toLe 8 131072 ++ toLe 8 0 ++ toLe 4 (4 + 2 ^ 15 + 2 ^ 16) ++ toLe 4 0 ++ toLe 4 0 ++ toLe 4 0 ++ toLe 4 0 ++ toLe 4 0)),
      fnId 0 1 0, v27,
      by8 [2,0] ++ toLe 2 6 ++ toLe 4 1 ++ toLe 16 0 ++ toLe 8 131072 ++ toLe 8 0 ++ toLe 4 (4 + 2 ^ 15 + 2 ^ 16) ++ toLe 4 0 ++ toLe 4 0 ++ toLe 4 0 ++ toLe 4 0 ++ toLe 4 0,
      by decide +kernel⟩,
    ⟨(State.writeBytes ({ up with storages := [(0, { Storage.reset with namespaces := [(0, v45)], targets := [(7, v33)], cmds := [] })], nvmes := [(2048, { Nvme.reset with cc := 1, csts := 1, sqs := [(0, v27)], cqs := [(0, ({ base := 65536, size := 4, head := 0, tail := 0, peer := 0, intEnable := true, phase := true, held := [], retried := false } : NvmeQueue))] })] } : State) (.host 0) 65536 (by8 [9,0] ++ toLe 2 6 ++ toLe 4 1 ++ toLe 16 0 ++ toLe 8 131072 ++ toLe 8 0 ++ toLe 4 11 ++ toLe 4 511 ++ toLe 4 0 ++ toLe 4 0 ++ toLe 4 0 ++ toLe 4 0)),
      fnId 0 1 0, v27,
      by8 [9,0] ++ toLe 2 6 ++ toLe 4 1 ++ toLe 16 0 ++ toLe 8 131072 ++ toLe 8 0 ++ toLe 4 11 ++ toLe 4 511 ++ toLe 4 0 ++ toLe 4 0 ++ toLe 4 0 ++ toLe 4 0,
      by decide +kernel⟩,
    ⟨(State.writeBytes ({ up with storages := [(0, { Storage.reset with namespaces := [(0, v45)], targets := [(7, v33)], cmds := [] })], nvmes := [(2048, { Nvme.reset with cc := 1, csts := 1, sqs := [(0, v27)], cqs := [(0, ({ base := 65536, size := 4, head := 0, tail := 0, peer := 0, intEnable := true, phase := true, held := [], retried := false } : NvmeQueue))] })] } : State) (.host 0) 65536 (by8 [9,0] ++ toLe 2 6 ++ toLe 4 1 ++ toLe 16 0 ++ toLe 8 131072 ++ toLe 8 0 ++ toLe 4 6 ++ toLe 4 0 ++ toLe 4 0 ++ toLe 4 0 ++ toLe 4 0 ++ toLe 4 0)),
      fnId 0 1 0, v27,
      by8 [9,0] ++ toLe 2 6 ++ toLe 4 1 ++ toLe 16 0 ++ toLe 8 131072 ++ toLe 8 0 ++ toLe 4 6 ++ toLe 4 0 ++ toLe 4 0 ++ toLe 4 0 ++ toLe 4 0 ++ toLe 4 0,
      by decide +kernel⟩,
    ⟨(State.writeBytes ({ up with storages := [(0, { Storage.reset with namespaces := [(0, v45)], targets := [(7, v33)], cmds := [] })], nvmes := [(2048, { Nvme.reset with cc := 1, csts := 1, sqs := [(0, v27)], cqs := [(0, ({ base := 65536, size := 4, head := 0, tail := 0, peer := 0, intEnable := true, phase := true, held := [], retried := false } : NvmeQueue))], featAsync := 77 })] } : State) (.host 0) 65536 (by8 [10,0] ++ toLe 2 6 ++ toLe 4 1 ++ toLe 16 0 ++ toLe 8 131072 ++ toLe 8 0 ++ toLe 4 11 ++ toLe 4 0 ++ toLe 4 0 ++ toLe 4 0 ++ toLe 4 0 ++ toLe 4 0)),
      fnId 0 1 0, v27,
      by8 [10,0] ++ toLe 2 6 ++ toLe 4 1 ++ toLe 16 0 ++ toLe 8 131072 ++ toLe 8 0 ++ toLe 4 11 ++ toLe 4 0 ++ toLe 4 0 ++ toLe 4 0 ++ toLe 4 0 ++ toLe 4 0,
      by decide +kernel⟩,
    ⟨(State.writeBytes ({ up with storages := [(0, { Storage.reset with namespaces := [(0, v45)], targets := [(7, v33)], cmds := [] })], nvmes := [(2048, { Nvme.reset with cc := 1, csts := 1, sqs := [(0, v27)], cqs := [(0, ({ base := 65536, size := 4, head := 0, tail := 0, peer := 0, intEnable := true, phase := true, held := [], retried := false } : NvmeQueue))] })] } : State) (.host 0) 65536 (by8 [12,0] ++ toLe 2 6 ++ toLe 4 1 ++ toLe 16 0 ++ toLe 8 131072 ++ toLe 8 0 ++ toLe 4 0 ++ toLe 4 0 ++ toLe 4 0 ++ toLe 4 0 ++ toLe 4 0 ++ toLe 4 0)),
      fnId 0 1 0, v27,
      by8 [12,0] ++ toLe 2 6 ++ toLe 4 1 ++ toLe 16 0 ++ toLe 8 131072 ++ toLe 8 0 ++ toLe 4 0 ++ toLe 4 0 ++ toLe 4 0 ++ toLe 4 0 ++ toLe 4 0 ++ toLe 4 0,
      by decide +kernel⟩,
    ⟨(State.writeBytes ({ up with storages := [(0, { Storage.reset with namespaces := [(0, v45)], targets := [(7, v33)], cmds := [] })], nvmes := [(2048, { Nvme.reset with cc := 1, csts := 1, sqs := [(0, v27)], cqs := [(0, ({ base := 65536, size := 4, head := 0, tail := 0, peer := 0, intEnable := true, phase := true, held := [], retried := false } : NvmeQueue))] })] } : State) (.host 0) 65536 v36),
      fnId 0 1 0, v27, v36, by decide +kernel⟩,
    ⟨(State.writeBytes ({ up with storages := [(0, { Storage.reset with namespaces := [(0, v45)], targets := [(7, v33)], cmds := [(3, ({ fn := fnId 0 1 0, sq := 1, cid := 6, opcode := 1, nsid := 1, lba := 0, blocks := 1, frags := [], phase := .staging, target := 7, orphan := false, reissues := 0, again := false, stage := 0, data := [], pos := 0, part := 0, status := 0, since := 0 } : NvmeCmd))] })], nvmes := [(2048, { Nvme.reset with cc := 1, csts := 1, sqs := [(0, v27)], cqs := [(0, ({ base := 65536, size := 4, head := 0, tail := 0, peer := 0, intEnable := true, phase := true, held := [], retried := false } : NvmeQueue))] })] } : State) (.host 0) 65536 v36),
      fnId 0 1 0, v27, v36, by decide +kernel, 3,
      ({ fn := fnId 0 1 0, sq := 1, cid := 6, opcode := 1, nsid := 1, lba := 0, blocks := 1, frags := [], phase := .staging, target := 7, orphan := false, reissues := 0, again := false, stage := 0, data := [], pos := 0, part := 0, status := 0, since := 0 } : NvmeCmd),
      by decide +kernel⟩,
    ⟨.identify, by (repeat' apply And.intro) <;> first | decide +kernel | rfl | trivial | simp,
      (State.writeBytes ({ up with storages := [(0, { Storage.reset with namespaces := [(0, v45)], targets := [(7, v33)], cmds := [] })], nvmes := [(2048, { Nvme.reset with cc := 1, csts := 1, sqs := [(0, v27)], cqs := [(0, ({ base := 65536, size := 4, head := 0, tail := 0, peer := 0, intEnable := true, phase := true, held := [], retried := false } : NvmeQueue))] })] } : State) (.host 0) 65536 (by8 [127,0] ++ toLe 2 6 ++ toLe 4 1 ++ toLe 16 0 ++ toLe 8 131072 ++ toLe 8 0 ++ toLe 4 0 ++ toLe 4 0 ++ toLe 4 0 ++ toLe 4 0 ++ toLe 4 0 ++ toLe 4 0)),
      fnId 0 1 0, v27,
      by8 [127,0] ++ toLe 2 6 ++ toLe 4 1 ++ toLe 16 0 ++ toLe 8 131072 ++ toLe 8 0 ++ toLe 4 0 ++ toLe 4 0 ++ toLe 4 0 ++ toLe 4 0 ++ toLe 4 0 ++ toLe 4 0,
      by (repeat' apply And.intro) <;> first | decide +kernel | rfl | trivial | simp⟩,
    ⟨(State.writeBytes ({ up with storages := [(0, { Storage.reset with namespaces := [(0, v45)], targets := [(7, v33)], cmds := [] })], nvmes := [(2048, { Nvme.reset with cc := 1, csts := 1, sqs := [(0, v27)], cqs := [(0, ({ base := 65536, size := 4, head := 0, tail := 0, peer := 0, intEnable := true, phase := true, held := [], retried := false } : NvmeQueue))] })] } : State) (.host 0) 65536 (by8 [6,0x40] ++ toLe 2 6 ++ toLe 4 1 ++ toLe 16 0 ++ toLe 8 65792 ++ toLe 4 16 ++ toLe 3 0 ++ toLe 1 0x30 ++ toLe 4 1 ++ toLe 4 0 ++ toLe 4 0 ++ toLe 4 0 ++ toLe 4 0 ++ toLe 4 0)),
      ((State.fetchList (State.writeBytes ({ up with storages := [(0, { Storage.reset with namespaces := [(0, v45)], targets := [(7, v33)], cmds := [] })], nvmes := [(2048, { Nvme.reset with cc := 1, csts := 1, sqs := [(0, v27)], cqs := [(0, ({ base := 65536, size := 4, head := 0, tail := 0, peer := 0, intEnable := true, phase := true, held := [], retried := false } : NvmeQueue))] })] } : State) (.host 0) 65536 (by8 [6,0x40] ++ toLe 2 6 ++ toLe 4 1 ++ toLe 16 0 ++ toLe 8 65792 ++ toLe 4 16 ++ toLe 3 0 ++ toLe 1 0x30 ++ toLe 4 1 ++ toLe 4 0 ++ toLe 4 0 ++ toLe 4 0 ++ toLe 4 0 ++ toLe 4 0)) (fnId 0 1 0) 0 0 (by8 [6,0x40] ++ toLe 2 6 ++ toLe 4 1 ++ toLe 16 0 ++ toLe 8 65792 ++ toLe 4 16 ++ toLe 3 0 ++ toLe 1 0x30 ++ toLe 4 1 ++ toLe 4 0 ++ toLe 4 0 ++ toLe 4 0 ++ toLe 4 0 ++ toLe 4 0) (adminLen (by8 [6,0x40] ++ toLe 2 6 ++ toLe 4 1 ++ toLe 16 0 ++ toLe 8 65792 ++ toLe 4 16 ++ toLe 3 0 ++ toLe 1 0x30 ++ toLe 4 1 ++ toLe 4 0 ++ toLe 4 0 ++ toLe 4 0 ++ toLe 4 0 ++ toLe 4 0))).getD up),
      fnId 0 1 0, v27,
      by8 [6,0x40] ++ toLe 2 6 ++ toLe 4 1 ++ toLe 16 0 ++ toLe 8 65792 ++ toLe 4 16 ++ toLe 3 0 ++ toLe 1 0x30 ++ toLe 4 1 ++ toLe 4 0 ++ toLe 4 0 ++ toLe 4 0 ++ toLe 4 0 ++ toLe 4 0,
      by decide +kernel⟩,
    ⟨(State.writeBytes ({ up with storages := [(0, { Storage.reset with namespaces := [(0, v45)], targets := [(7, v33)], cmds := [] })], nvmes := [(2048, { Nvme.reset with cc := 1, csts := 1, sqs := [(0, v27)], cqs := [(0, ({ base := 65536, size := 4, head := 0, tail := 0, peer := 0, intEnable := true, phase := true, held := [], retried := false } : NvmeQueue))] })] } : State) (.host 0) 65536 (by8 [2,0] ++ toLe 2 6 ++ toLe 4 1 ++ toLe 16 0 ++ toLe 8 131072 ++ toLe 8 65792 ++ toLe 4 (4 + 2 ^ 16 * 4095) ++ toLe 4 0 ++ toLe 4 0 ++ toLe 4 0 ++ toLe 4 0 ++ toLe 4 0)),
      ((State.fetchList (State.writeBytes ({ up with storages := [(0, { Storage.reset with namespaces := [(0, v45)], targets := [(7, v33)], cmds := [] })], nvmes := [(2048, { Nvme.reset with cc := 1, csts := 1, sqs := [(0, v27)], cqs := [(0, ({ base := 65536, size := 4, head := 0, tail := 0, peer := 0, intEnable := true, phase := true, held := [], retried := false } : NvmeQueue))] })] } : State) (.host 0) 65536 (by8 [2,0] ++ toLe 2 6 ++ toLe 4 1 ++ toLe 16 0 ++ toLe 8 131072 ++ toLe 8 65792 ++ toLe 4 (4 + 2 ^ 16 * 4095) ++ toLe 4 0 ++ toLe 4 0 ++ toLe 4 0 ++ toLe 4 0 ++ toLe 4 0)) (fnId 0 1 0) 0 0 (by8 [2,0] ++ toLe 2 6 ++ toLe 4 1 ++ toLe 16 0 ++ toLe 8 131072 ++ toLe 8 65792 ++ toLe 4 (4 + 2 ^ 16 * 4095) ++ toLe 4 0 ++ toLe 4 0 ++ toLe 4 0 ++ toLe 4 0 ++ toLe 4 0) (adminLen (by8 [2,0] ++ toLe 2 6 ++ toLe 4 1 ++ toLe 16 0 ++ toLe 8 131072 ++ toLe 8 65792 ++ toLe 4 (4 + 2 ^ 16 * 4095) ++ toLe 4 0 ++ toLe 4 0 ++ toLe 4 0 ++ toLe 4 0 ++ toLe 4 0))).getD up),
      fnId 0 1 0, v27,
      by8 [2,0] ++ toLe 2 6 ++ toLe 4 1 ++ toLe 16 0 ++ toLe 8 131072 ++ toLe 8 65792 ++ toLe 4 (4 + 2 ^ 16 * 4095) ++ toLe 4 0 ++ toLe 4 0 ++ toLe 4 0 ++ toLe 4 0 ++ toLe 4 0,
      by decide +kernel⟩,
    ⟨up, fnId 0 1 0, by decide +kernel⟩,
    ⟨(State.writeBytes ({ up with storages := [(0, { Storage.reset with namespaces := [(0, v45)], targets := [(7, v33)], cmds := [] })], nvmes := [(2048, { Nvme.reset with cc := 1, csts := 1, sqs := [(0, v27)], cqs := [(0, ({ base := 65536, size := 4, head := 0, tail := 0, peer := 0, intEnable := true, phase := true, held := [], retried := false } : NvmeQueue))] })] } : State) (.host 0) 65536 ([])),
      fnId 0 1 0, by decide +kernel⟩⟩

theorem witness_StoragePaths :
    (∃ s : State, ∃ die : Nat, ∃ k : Nat, ∃ st : Nat, ∃ i : Nat, ∃ c : NvmeCmd, ∃ d : List Byte, (s.cmd? die k = some c)
      ∧ (c.phase = .sent i) ∧ (s.live die = true) ∧ (c.orphan = true))
    ∧ (∃ s : State, ∃ die : Nat, ∃ k : Nat, ∃ st : Nat, ∃ i : Nat, ∃ c : NvmeCmd, ∃ d : List Byte, (s.cmd? die k = some c)
      ∧ (c.phase = .sent i) ∧ (s.live die = true) ∧ (c.orphan = false) ∧ (st ≠ 0))
    ∧ (∃ s : State, ∃ die : Nat, ∃ k : Nat, ∃ st : Nat, ∃ i : Nat, ∃ c : NvmeCmd, ∃ d : List Byte, (s.cmd? die k = some c)
      ∧ (c.phase = .sent i) ∧ (s.live die = true) ∧ (c.orphan = false) ∧ (st = 0) ∧ (c.opcode = 1))
    ∧ (∃ s : State, ∃ die : Nat, ∃ k : Nat, ∃ c : NvmeCmd, ∃ t : Target, (s.cmd? die k = some c) ∧ (c.orphan = true)
      ∧ (s.live die = true) ∧ (s.target? die c.target = some t) ∧ (s.passedMs die c.since t.cmdTimeoutMs = true))
    ∧ (∃ s : State, ∃ die : Nat, ∃ k : Nat, ∃ c : NvmeCmd, ∃ t : Target, (s.cmd? die k = some c) ∧ (c.orphan = true)
      ∧ (s.live die = true) ∧ (s.target? die c.target = some t) ∧ (s.passedMs die c.since t.cmdTimeoutMs = false))
    ∧ (∃ s : State, ∃ die : Nat, ∃ k : Nat, ∃ c : NvmeCmd, ∃ x : Namespace, ∃ t : Target, (s.cmd? die k = some c)
      ∧ (c.phase = .path) ∧ (s.live die = true) ∧ (s.namespaceOf c.fn c.nsid = some x)
      ∧ (s.target? die c.target = some t)
      ∧ ((t.choose x.remoteNsid).isSome = true ∨ s.passedMs die c.since (1000 * t.ioHoldS) = false))
    ∧ (∃ s : State, ∃ die : Nat, ∃ k : Nat, ∃ c : NvmeCmd, ∃ x : Namespace, ∃ t : Target, (s.cmd? die k = some c)
      ∧ (c.phase = .path) ∧ (s.live die = true) ∧ (s.namespaceOf c.fn c.nsid = some x)
      ∧ (s.target? die c.target = some t) ∧ (t.choose x.remoteNsid = none)
      ∧ (s.passedMs die c.since (1000 * t.ioHoldS) = true))
    ∧ (∃ s : State, ∃ die : Nat, ∃ n : Nat, ∃ i : Nat, ∃ t : Target, ∃ p : Path, ∃ r : Tbl RemoteNs,
      (s.target? die n = some t) ∧ (Tbl.find t.paths i = some p) ∧ (s.live die = true) ∧ (p.state = .connecting)
      ∧ (p.contexts = []) ∧ ((s.storage die).namespaces.filter (fun e => e.2.target == n) = []))
    ∧ (∃ s : State, ∃ die : Nat, ∃ n : Nat, ∃ i : Nat, ∃ k : Nat, ∃ t : Target, ∃ p : Path, ∃ r : RemoteNs, ∃ x : Namespace,
      (s.target? die n = some t) ∧ (Tbl.find t.paths i = some p) ∧ (s.live die = true) ∧ (p.state = .connecting)
      ∧ (p.contexts = []) ∧ ((s.storage die).namespaces = [(k, x)]) ∧ (x.target = n) ∧ (r.fits x = false))
    ∧ (∃ s : State, ∃ die : Nat, ∃ n : Nat, ∃ i : Nat, ∃ m : Nat, ∃ t : Target, ∃ p : Path, ∃ r : RemoteNs, ∃ a : Ana,
      (s.target? die n = some t) ∧ (Tbl.find t.paths i = some p) ∧ (s.live die = true) ∧ (p.state = .live)
      ∧ (p.remotes = [(m, r)]))
    ∧ (∃ s : State, ∃ die : Nat, ∃ n : Nat, ∃ i : Nat, ∃ t : Target, ∃ p : Path, (s.target? die n = some t)
      ∧ (Tbl.find t.paths i = some p) ∧ (s.live die = true) ∧ (p.state = .live) ∧ (p.contexts = [])
      ∧ ((s.storage die).cmds = []) ∧ (t.paths = [(i, p)]))
    ∧ (∃ s : State, ∃ u : State, ∃ die : Nat, ∃ n : Nat, ∃ i : Nat, ∃ t : Target, ∃ p : Path, ∃ q : Path,
      (s.target? die n = some t) ∧ (Tbl.find t.paths i = some p) ∧ (s.live die = true) ∧ (p.state = .down)
      ∧ (s.passedMs die p.downAt 2000 = false))
    ∧ (∃ (s u : State) (die n i : Nat) (t : Target) (p q : Path), s.target? die n = some t ∧ Tbl.find t.paths i = some p
    ∧ s.live die = true ∧ p.state = .down ∧ s.passedMs die p.downAt 2000 = true ∧ s.connectPath die (pf0 die) p = some (u, q))
    ∧ (∃ s : State, ∃ die : Nat, ∃ n : Nat, ∃ i : Nat, (s.live die = true)) :=
  ⟨⟨s78, 0, 3, 0, 2, v53, [], by decide +kernel⟩,
    ⟨s79, 0, 3, 6, 2, v54, [], by decide +kernel⟩,
    ⟨s79, 0, 3, 0, 2, v54, [], by decide +kernel⟩,
    ⟨{ up with storages := [(0, { Storage.reset with namespaces := [(0, v45)], targets := [(7, v33)], cmds := [(3, v53)] })], times := [(0, { DieTime.reset with tick := 10 ^ 11 })] },
      0, 3, v53, v33, by decide +kernel⟩,
    ⟨s78, 0, 3, v53, v33, by decide +kernel⟩,
    ⟨{ up with storages := [(0, { Storage.reset with namespaces := [(0, v45)], targets := [(7, v33)], cmds := [(3, v52)] })] },
      0, 3, v52, v45, v33, by decide +kernel⟩,
    ⟨{ up with storages := [(0, { Storage.reset with namespaces := [(0, v45)], targets := [(7, v33)], cmds := [(3, v52)] })], times := [(0, { DieTime.reset with tick := 10 ^ 11 })] },
      0, 3, v52, v45, v33, by decide +kernel⟩,
    ⟨{ up with storages := [(0, { Storage.reset with namespaces := [], targets := [(7, v67)], cmds := [] })] }, 0, 7, 2,
      v67, v47, [(5,
      ({ lbads := 9, blocks := 1000, metaBytes := 0, protection := false, writeZeroes := true, ana := .optimized } : RemoteNs))],
      by decide +kernel⟩,
    ⟨{ up with storages := [(0, { Storage.reset with namespaces := [(3, v45)], targets := [(7, v67)], cmds := [] })] }, 0,
      7, 2, 3, v67, v47,
      ({ lbads := 9, blocks := 999, metaBytes := 0, protection := false, writeZeroes := true, ana := .optimized } : RemoteNs),
      v45, by decide +kernel⟩,
    ⟨s80, 0, 7, 2, 5, v73, v63,
      ({ lbads := 9, blocks := 1000, metaBytes := 0, protection := false, writeZeroes := true, ana := .optimized } : RemoteNs),
      .inaccessible, by decide +kernel⟩,
    ⟨s80, 0, 7, 2, v73, v63, by decide +kernel⟩,
    ⟨{ up with storages := [(0, { Storage.reset with namespaces := [(0, v45)], targets := [(7, ({ policy := 0, ioHoldS := 30, cmdTimeoutMs := 30000, fenceMs := 1000, subnqn := [], hostnqn := [], paths := [(2, ({ transport := 0, flags := 0, queues := 1, priority := 0, qdepth := 32, port := 4420, vrf := 0, address := List.replicate 16 1, localAddress := List.replicate 16 2, state := .down, remotes := [], contexts := [], downAt := 0 } : Path))], reissued := 0, rotor := 0 } : Target))], cmds := [] })] },
      ((State.connectPath { up with storages := [(0, { Storage.reset with namespaces := [(0, v45)], targets := [(7, ({ policy := 0, ioHoldS := 30, cmdTimeoutMs := 30000, fenceMs := 1000, subnqn := [], hostnqn := [], paths := [(2, ({ transport := 0, flags := 0, queues := 1, priority := 0, qdepth := 32, port := 4420, vrf := 0, address := List.replicate 16 1, localAddress := List.replicate 16 2, state := .down, remotes := [], contexts := [], downAt := 0 } : Path))], reissued := 0, rotor := 0 } : Target))], cmds := [] })] } 0 (pf0 0) ({ transport := 0, flags := 0, queues := 1, priority := 0, qdepth := 32, port := 4420, vrf := 0, address := List.replicate 16 1, localAddress := List.replicate 16 2, state := .down, remotes := [], contexts := [], downAt := 0 } : Path)).getD (up,
      ({ transport := 0, flags := 0, queues := 1, priority := 0, qdepth := 32, port := 4420, vrf := 0, address := List.replicate 16 1, localAddress := List.replicate 16 2, state := .down, remotes := [], contexts := [], downAt := 0 } : Path))).1,
      0, 7, 2,
      ({ policy := 0, ioHoldS := 30, cmdTimeoutMs := 30000, fenceMs := 1000, subnqn := [], hostnqn := [], paths := [(2, ({ transport := 0, flags := 0, queues := 1, priority := 0, qdepth := 32, port := 4420, vrf := 0, address := List.replicate 16 1, localAddress := List.replicate 16 2, state := .down, remotes := [], contexts := [], downAt := 0 } : Path))], reissued := 0, rotor := 0 } : Target),
      ({ transport := 0, flags := 0, queues := 1, priority := 0, qdepth := 32, port := 4420, vrf := 0, address := List.replicate 16 1, localAddress := List.replicate 16 2, state := .down, remotes := [], contexts := [], downAt := 0 } : Path),
      ((State.connectPath { up with storages := [(0, { Storage.reset with namespaces := [(0, v45)], targets := [(7, ({ policy := 0, ioHoldS := 30, cmdTimeoutMs := 30000, fenceMs := 1000, subnqn := [], hostnqn := [], paths := [(2, ({ transport := 0, flags := 0, queues := 1, priority := 0, qdepth := 32, port := 4420, vrf := 0, address := List.replicate 16 1, localAddress := List.replicate 16 2, state := .down, remotes := [], contexts := [], downAt := 0 } : Path))], reissued := 0, rotor := 0 } : Target))], cmds := [] })] } 0 (pf0 0) ({ transport := 0, flags := 0, queues := 1, priority := 0, qdepth := 32, port := 4420, vrf := 0, address := List.replicate 16 1, localAddress := List.replicate 16 2, state := .down, remotes := [], contexts := [], downAt := 0 } : Path)).getD (up,
      ({ transport := 0, flags := 0, queues := 1, priority := 0, qdepth := 32, port := 4420, vrf := 0, address := List.replicate 16 1, localAddress := List.replicate 16 2, state := .down, remotes := [], contexts := [], downAt := 0 } : Path))).2,
      by decide +kernel⟩,
    man_SP,
    ⟨{ up with storages := [(0, { Storage.reset with namespaces := [(0, v45)], targets := [(7, v33)], cmds := [(3, ({ fn := fnId 0 1 0, sq := 1, cid := 6, opcode := 1, nsid := 1, lba := 0, blocks := 1, frags := [], phase := .fence 2, target := 7, orphan := false, reissues := 0, again := false, stage := 0, data := [], pos := 0, part := 0, status := 0, since := 0 } : NvmeCmd))] })] },
      0, 7, 2, by decide +kernel⟩⟩

theorem witness_FunctionsAndTwins :
    (∃ s : State, ∃ p : Packet, ∃ pf : Nat, ∃ vf : Nat, (s.takesRecorded (p.of 0x0101)) ∧ (p.paramLen = 4)
      ∧ (leAt p.params 0 1 = pf) ∧ (pf ≤ 1) ∧ (leAt p.params 1 1 = 0) ∧ (leAt p.params 2 2 = vf) ∧ (vf ≠ 0)
      ∧ (vf ≤ (s.partition (mDie p.sender) pf).totalVfs) ∧ (s.boot.fuses.lifecycle ≠ .provisioned)
      ∧ ((s.func (fnId (mDie p.sender) pf vf)).provisioned = false)
      ∧ ((s.treeGrants (mDie p.sender) pf).1 + 8 ≤ (s.partition (mDie p.sender) pf).queuePairs)
      ∧ ((s.treeGrants (mDie p.sender) pf).2.1 + 9 ≤ (s.partition (mDie p.sender) pf).vectors)
      ∧ let made := s.modFunc (fnId (mDie p.sender) pf vf) (fun f => { f with provisioned := true, queuePairs := 8, vectors := 9, vectorsInEffect := 9, stageMax := if pf = 1 then (s.partition (mDie p.sender) pf).stageMaxMib else 0, txBudget := 1024, windows := [(0, 2 ^ 64 - 1)] }); True)
    ∧ (∃ s : State, ∃ fn : Nat, ∃ n : Nat, ∃ f, (f ≠ fn))
    ∧ (∃ s : State, ∃ p : Packet, ∃ fn : Nat, (s.takesRecorded (p.of 0x0102)) ∧ (p.paramLen = 4) ∧ (leAt p.params 0 4 = fn)
      ∧ (namesOwn p.sender fn = true) ∧ (fnVf fn ≠ 0) ∧ ((s.func fn).provisioned = true) ∧ (s.tied fn = true))
    ∧ (∃ s : State, ∃ p : Packet, ∃ fn : Nat, (s.takesRecorded (p.of 0x0102)) ∧ (p.paramLen = 4) ∧ (leAt p.params 0 4 = fn)
      ∧ (namesOwn p.sender fn = true) ∧ (fnVf fn ≠ 0) ∧ ((s.func fn).provisioned = true) ∧ (s.tied fn = false))
    ∧ (∃ s : State, ∃ p : Packet, ∃ fn : Nat, (s.takes (p.of 0x0103)) ∧ (p.paramLen = 4) ∧ (leAt p.params 0 4 = fn)
      ∧ (namesOwn p.sender fn = true) ∧ (fnVf fn ≤ (s.partition (mDie fn) (fnPf fn)).totalVfs)
      ∧ (issuerOf p.sender = isM))
    ∧ (∃ s : State, ∃ p : Packet, ∃ fn : Nat, (s.takesRecorded (p.of 0x8101)) ∧ (p.paramLen = 80) ∧ (leAt p.params 0 3 = fn)
      ∧ (namesOwn p.sender fn = true) ∧ (leAt p.params 3 1 = 4) ∧ (leAt p.params 0xA 2 = 0)
      ∧ ((s.func fn).provisioned = true) ∧ (64 ≤ leAt p.params 0xC 4) ∧ (leAt p.params 0xC 4 ≤ 196608))
    ∧ (∃ s : State, ∃ fn : Nat, ∃ n : Nat,
      let t := s.modFunc fn (fun f => { f with txBudget := n }); ((s.func fn).txHeld = false) ∧ (s.txCells fn < n))
    ∧ (∃ s : State, ∃ fn : Nat, ∃ n : Nat,
      let t := s.modFunc fn (fun f => { f with txBudget := n }); ((s.func fn).txHeld = false) ∧ (n ≤ s.txCells fn))
    ∧ (∃ s : State, ∃ fn : Nat, ∃ n : Nat,
      let t := s.modFunc fn (fun f => { f with txBudget := n }); ((s.func fn).txHeld = true) ∧ (4 * s.txCells fn < 3 * n))
    ∧ (∃ s : State, ∃ fn : Nat, ∃ n : Nat,
      let t := s.modFunc fn (fun f => { f with txBudget := n }); ((s.func fn).txHeld = true) ∧ (3 * n ≤ 4 * s.txCells fn))
    ∧ (∃ s : State, ∃ p : Packet, ∃ fn : Nat, (s.takesRecorded (p.of 0x8101)) ∧ (p.paramLen = 80) ∧ (leAt p.params 0 3 = fn)
      ∧ (namesOwn p.sender fn = true) ∧ (leAt p.params 3 1 = 1) ∧ (leAt p.params 0xA 2 = 0)
      ∧ ((s.func fn).provisioned = true) ∧ (fnVf fn ≠ 0) ∧ (s.countsStatus fn p.params = none))
    ∧ (∃ s : State, ∃ p : Packet, ∃ x : Nat, ∃ y : Nat, (s.takesRecorded (p.of 0x8102)) ∧ (p.paramLen = 12)
      ∧ (leAt p.params 0 1 = 0) ∧ (leAt p.params 1 1 = 0) ∧ (leAt p.params 2 2 = 0) ∧ (leAt p.params 4 4 = x)
      ∧ (leAt p.params 8 4 = y) ∧ (badMember x = false) ∧ (badMember y = false) ∧ (mDie x ≠ mDie y) ∧ (fnPf x = fnPf y)
      ∧ (s.dieStatus (mDie x) = none) ∧ (s.dieStatus (mDie y) = none) ∧ ((s.func x).provisioned = true)
      ∧ ((s.func y).provisioned = true) ∧ (s.pairOf x = none) ∧ (s.pairOf y = none))
    ∧ (∃ s : State, ∃ p : Packet, ∃ t : TwinPair, (s.takesRecorded (p.of 0x8102)) ∧ (p.paramLen = 12)
      ∧ (leAt p.params 1 1 = 0) ∧ (leAt p.params 2 2 = 0) ∧ (leAt p.params 8 4 = 0)
      ∧ (badMember (leAt p.params 4 4) = false) ∧ (s.pairOf (leAt p.params 4 4) = some t)
      ∧ (s.dieStatus (mDie (leAt p.params 4 4)) = none) ∧ (leAt p.params 0 1 = 1))
    ∧ (∃ s : State, ∃ p : Packet, ∃ t : TwinPair, (s.takesRecorded (p.of 0x8102)) ∧ (p.paramLen = 12)
      ∧ (leAt p.params 1 1 = 0) ∧ (leAt p.params 2 2 = 0) ∧ (leAt p.params 8 4 = 0)
      ∧ (badMember (leAt p.params 4 4) = false) ∧ (s.pairOf (leAt p.params 4 4) = some t)
      ∧ (s.dieStatus (mDie (leAt p.params 4 4)) = none) ∧ (leAt p.params 0 1 = 2) ∧ (t.activeActive = true))
    ∧ (∃ s : State, ∃ p : Packet, ∃ t : TwinPair, (s.takesRecorded (p.of 0x8102)) ∧ (p.paramLen = 12)
      ∧ (leAt p.params 1 1 = 0) ∧ (leAt p.params 2 2 = 0) ∧ (leAt p.params 8 4 = 0)
      ∧ (badMember (leAt p.params 4 4) = false) ∧ (s.pairOf (leAt p.params 4 4) = some t)
      ∧ (s.dieStatus (mDie (leAt p.params 4 4)) = none) ∧ (leAt p.params 0 1 = 2) ∧ (t.activeActive = false)
      ∧ (t.seenA = true) ∧ (t.seenB = true))
    ∧ (∃ s : State, ∃ pair : Nat, ∃ b : Bool, ∃ t : TwinPair, (Tbl.find s.twins pair = some t) ∧ (s.ready = true)) :=
  ⟨⟨up, pk 0x0101 (by8 [0,0,0,3]), 0, 768, by decide +kernel⟩,
    ⟨up, fnId 0 0 5, 1, pf0 1, by decide +kernel⟩,
    ⟨{ up with funcs := [(0, { Func.pf0Reset with busMaster := true }), (5, { Func.reset with provisioned := true, queuePairs := 8, vectors := 9, vectorsInEffect := 9, busMaster := true, windows := [(0, 2 ^ 64 - 1)] }), (fnId 1 0 6, { Func.reset with provisioned := true, queuePairs := 8, vectors := 9, vectorsInEffect := 9, windows := [(0, 2 ^ 64 - 1)] })], twins := [(5, { memberA := 5, memberB := fnId 1 0 6, activeActive := false, bActive := false, bTakesZero := false, seenA := true, seenB := false })] },
      pk 0x0102 (toLe 4 (fnId 0 0 5)), fnId 0 0 5, by decide +kernel⟩,
    ⟨s68, pk 0x0102 (toLe 4 (fnId 0 0 5)), fnId 0 0 5, by decide +kernel⟩,
    ⟨s68, pk 0x0103 (toLe 4 (fnId 0 0 5)), fnId 0 0 5, by decide +kernel⟩,
    ⟨s68, pk 0x8101 (toLe 3 (fnId 0 0 5) ++ by8 [4] ++ toLe 8 0 ++ toLe 4 196608 ++ toLe 64 0), fnId 0 0 5,
      by decide +kernel⟩,
    ⟨up, pf0 0, 1, by decide +kernel⟩,
    ⟨up, pf0 0, 0, by decide +kernel⟩,
    ⟨s14, pf0 0, 1, by decide +kernel⟩,
    ⟨s14, pf0 0, 0, by decide +kernel⟩,
    ⟨s68, pk 0x8101 (toLe 3 (fnId 0 0 5) ++ by8 [1] ++ toLe 2 256 ++ toLe 2 2048 ++ toLe 4 2 ++ toLe 68 0), fnId 0 0 5,
      by decide +kernel⟩,
    ⟨s68, pk 0x8102 (by8 [0,0,0,0] ++ toLe 4 (fnId 0 0 5) ++ toLe 4 (fnId 1 0 6)), fnId 0 0 5, fnId 1 0 6,
      by decide +kernel⟩,
    ⟨s77, pk 0x8102 (by8 [1,0,0,0] ++ toLe 4 (fnId 1 0 6) ++ toLe 4 0), v29, by decide +kernel⟩,
    ⟨{ up with funcs := [(0, { Func.pf0Reset with busMaster := true }), (5, { Func.reset with provisioned := true, queuePairs := 8, vectors := 9, vectorsInEffect := 9, busMaster := true, windows := [(0, 2 ^ 64 - 1)] }), (fnId 1 0 6, { Func.reset with provisioned := true, queuePairs := 8, vectors := 9, vectorsInEffect := 9, windows := [(0, 2 ^ 64 - 1)] })], twins := [(5, ({ memberA := 5, memberB := fnId 1 0 6, activeActive := true, bActive := false, bTakesZero := false, seenA := true, seenB := true } : TwinPair))] },
      p04,
      ({ memberA := 5, memberB := fnId 1 0 6, activeActive := true, bActive := false, bTakesZero := false, seenA := true, seenB := true } : TwinPair),
      by decide +kernel⟩,
    ⟨s77, p04, v29, by decide +kernel⟩,
    ⟨{ up with funcs := [(0, { Func.pf0Reset with busMaster := true }), (5, { Func.reset with provisioned := true, queuePairs := 8, vectors := 9, vectorsInEffect := 9, busMaster := true, windows := [(0, 2 ^ 64 - 1)] }), (fnId 1 0 6, { Func.reset with provisioned := true, queuePairs := 8, vectors := 9, vectorsInEffect := 9, windows := [(0, 2 ^ 64 - 1)] })], twins := [(5, ({ memberA := 5, memberB := fnId 1 0 6, activeActive := false, bActive := true, bTakesZero := false, seenA := true, seenB := true } : TwinPair))] },
      5, true,
      ({ memberA := 5, memberB := fnId 1 0 6, activeActive := false, bActive := true, bTakesZero := false, seenA := true, seenB := true } : TwinPair),
      by decide +kernel⟩⟩

theorem witness_Migration :
    (∃ s : State, ∃ p : Packet, ∃ fn : Nat, (s.takesRecorded (p.of 0x0E01)) ∧ (s.migTarget (p.of 0x0E01) 4 = .ok fn)
      ∧ ((s.func fn).halted = true ∨ (s.func fn).mig ≠ .running))
    ∧ (∃ s : State, ∃ p : Packet, ∃ fn : Nat, (s.takesRecorded (p.of 0x0E01)) ∧ (s.migTarget (p.of 0x0E01) 4 = .ok fn)
      ∧ ((s.func fn).halted = false) ∧ ((s.func fn).mig = .running) ∧ let f := s.freeze fn; True)
    ∧ (∃ s : State, ∃ fn : Nat, ∃ f, (f ≠ fn))
    ∧ (∃ s : State, ∃ fn : Nat, (s.live (mDie fn) = true) ∧ ((s.func fn).mig = .pausing) ∧ ((s.func fn).halted = false)
      ∧ (s.canIssue fn = true) ∧ (s.workLeft fn = false) ∧ (s.readOf fn .freeze = none))
    ∧ (∃ s : State, ∃ fn : Nat, (s.live (mDie fn) = true) ∧ ((s.func fn).mig = .pausing) ∧ ((s.func fn).halted = false)
      ∧ (s.canIssue fn = true) ∧ (s.workLeft fn = false) ∧ ∃ r, (s.readOf fn .freeze = some r))
    ∧ (∃ s : State, ∃ p : Packet, ∃ fn : Nat, (s.takesRecorded (p.of 0x0E02)) ∧ (s.migTarget (p.of 0x0E02) 20 = .ok fn)
      ∧ (leAt p.params 4 4 = 0) ∧ ((s.func fn).mig = .paused) ∧ (leAt p.params 0x10 4 < (s.snapshot fn).length))
    ∧ (∃ s : State, ∃ p : Packet, ∃ fn : Nat, (s.takesRecorded (p.of 0x0E02)) ∧ (s.migTarget (p.of 0x0E02) 20 = .ok fn)
      ∧ (leAt p.params 4 4 = 0) ∧ ((s.func fn).mig = .paused) ∧ ((s.snapshot fn).length ≤ leAt p.params 0x10 4))
    ∧ (∃ s : State, ∃ p : Packet, ∃ fn : Nat, ∃ bs : List Byte, ∃ l : List (Nat × Nat × List Byte),
      (s.takesRecorded (p.of 0x0E03)) ∧ (s.migTarget (p.of 0x0E03) 20 = .ok fn) ∧ (leAt p.params 4 4 = 0)
      ∧ ((s.func fn).mig = .paused) ∧ (s.pairsHeld fn = 0) ∧ (s.canIssue (pf0 (mDie fn)) = true)
      ∧ (s.hostRead (pf0 (mDie fn)) (leAt p.params 8 8) (leAt p.params 0x10 4) = bs) ∧ (64 ≤ leAt p.params 0x10 4)
      ∧ (leAt bs 0 4 = 0x31504E53) ∧ (leAt bs 4 2 = 1) ∧ (leAt bs 6 1 = fnPf fn) ∧ (64 ≤ leAt bs 8 4)
      ∧ (leAt bs 8 4 ≤ leAt p.params 0x10 4) ∧ (leAt bs 0x14 4 = s.chipIdent % 256)
      ∧ ((bs.drop 0x20).take 32 = sha256 ((bs.take (leAt bs 8 4)).drop 64))
      ∧ (snapParse (fnPf fn) 0 ((bs.take (leAt bs 8 4)).drop 64) (leAt bs 7 1) = some l)
      ∧ (badRecords (s.func fn) l = false) ∧ (s.restoreLacks fn l = false))
    ∧ (∃ s : State, ∃ p : Packet, ∃ fn : Nat, (s.takesRecorded (p.of 0x0E04)) ∧ (s.migTarget (p.of 0x0E04) 4 = .ok fn)
      ∧ ((s.func fn).mig = .running))
    ∧ (∃ s : State, ∃ p : Packet, ∃ fn : Nat, (s.takesRecorded (p.of 0x0E04)) ∧ (s.migTarget (p.of 0x0E04) 4 = .ok fn)
      ∧ ((s.func fn).mig ≠ .running)) :=
  ⟨⟨s70, pk 0x0E01 (toLe 4 (fnId 0 0 5)), fnId 0 0 5, by decide +kernel⟩,
    ⟨s68, pk 0x0E01 (toLe 4 (fnId 0 0 5)), fnId 0 0 5, by decide +kernel⟩,
    ⟨s68, fnId 0 0 5, pf0 1, by decide +kernel⟩,
    ⟨{ up with funcs := [(0, { Func.pf0Reset with busMaster := true }), (5, { Func.reset with provisioned := true, queuePairs := 8, vectors := 9, vectorsInEffect := 9, busMaster := true, windows := [(0, 2 ^ 64 - 1)], mig := .pausing }), (fnId 1 0 6, { Func.reset with provisioned := true, queuePairs := 8, vectors := 9, vectorsInEffect := 9, windows := [(0, 2 ^ 64 - 1)] })] },
      fnId 0 0 5, by decide +kernel⟩,
    ⟨{ up with funcs := [(0, { Func.pf0Reset with busMaster := true }), (5, { Func.reset with provisioned := true, busMaster := true, mig := .pausing })], tags := [(tagKey 0 3, ({ fn := fnId 0 0 5, use := .freeze, remaining := 1, quarantined := false, timeoutUs := 50000, discard := false, op := 5 } : HostTag))] },
      fnId 0 0 5, by decide +kernel, by decide +kernel, by decide +kernel, by decide +kernel, by decide +kernel,
      (tagKey 0 3,
      ({ fn := fnId 0 0 5, use := .freeze, remaining := 1, quarantined := false, timeoutUs := 50000, discard := false, op := 5 } : HostTag)),
      by decide +kernel⟩,
    ⟨s70, pk 0x0E02 (toLe 4 (fnId 0 0 5) ++ toLe 4 0 ++ toLe 8 4096 ++ toLe 4 9), fnId 0 0 5, by decide +kernel⟩,
    ⟨s70, pk 0x0E02 (toLe 4 (fnId 0 0 5) ++ toLe 4 0 ++ toLe 8 4096 ++ toLe 4 4096), fnId 0 0 5, by decide +kernel⟩,
    ⟨(State.writeBytes s70 (.host 0) 4096 (by8 [83, 78, 80, 49, 1, 0, 0, 5, 152, 2, 0, 0, 5, 0, 0, 0, 0, 0, 0, 0, 33, 0, 0,
      0, 1, 0, 0, 0, 0, 0, 0, 0, 180, 175, 124, 190, 198, 199, 43, 178, 145, 198, 202, 245, 37, 137, 172, 227, 60, 216,
      183, 70, 202, 198, 121, 183, 133, 93, 195, 1, 175, 140, 150, 2, 1, 0, 1, 0, 80, 0, 0, 0, 0, 0, 0, 0, 8, 0, 9, 0,
      0, 1, 0, 0, 0, 4, 0, 0, 0, 0, 0, 0, 0, 0, 0, 0, 255, 255, 255, 255, 255, 255, 255, 255, 0, 0, 0, 0, 0, 0, 0, 0,
      0, 0, 0, 0, 0, 0, 0, 0, 0, 0, 0, 0, 0, 0, 0, 0, 0, 0, 0, 0, 0, 0, 0, 0, 0, 0, 0, 0, 0, 0, 0, 0, 0, 0, 0, 0, 0, 0,
      0, 0, 2, 0, 1, 0, 64, 0, 0, 0, 2, 0, 33, 4, 0, 0, 0, 0, 0, 0, 0, 0, 0, 0, 0, 0, 0, 0, 0, 0, 0, 0, 0, 0, 0, 0, 0,
      0, 0, 0, 0, 0, 0, 0, 1, 0, 0, 0, 0, 0, 16, 64, 0, 1, 0, 232, 3, 0, 0, 0, 0, 255, 0, 0, 0, 0, 0, 0, 0, 0, 0, 0, 0,
      0, 4, 0, 1, 0, 128, 0, 0, 0, 0, 0, 0, 0, 0, 0, 0, 0, 0, 0, 0, 0, 0, 0, 0, 0, 0, 0, 0, 0, 0, 0, 0, 0, 0, 0, 0, 0,
      0, 0, 0, 0, 0, 0, 0, 0, 0, 0, 0, 0, 0, 0, 0, 0, 0, 0, 0, 0, 0, 0, 0, 0, 0, 0, 0, 0, 0, 0, 0, 0, 0, 0, 0, 0, 0, 0,
      0, 0, 0, 0, 0, 0, 0, 0, 0, 0, 0, 0, 0, 0, 0, 0, 0, 0, 0, 0, 0, 0, 0, 0, 0, 0, 0, 0, 0, 0, 0, 0, 0, 0, 0, 0, 0, 0,
      0, 0, 0, 0, 0, 0, 0, 0, 0, 0, 0, 0, 0, 0, 0, 0, 0, 0, 0, 0, 0, 0, 0, 0, 5, 0, 9, 0, 152, 0, 0, 0, 0, 0, 0, 0, 0,
      0, 0, 0, 0, 0, 0, 0, 0, 0, 0, 0, 0, 0, 0, 0, 0, 0, 0, 0, 0, 0, 0, 0, 0, 0, 0, 0, 0, 0, 0, 0, 0, 0, 0, 0, 0, 0, 0,
      0, 0, 0, 0, 0, 0, 0, 0, 0, 0, 0, 0, 0, 0, 0, 0, 0, 0, 0, 0, 0, 0, 0, 0, 0, 0, 0, 0, 0, 0, 0, 0, 0, 0, 0, 0, 0, 0,
      0, 0, 0, 0, 0, 0, 0, 0, 0, 0, 0, 0, 0, 0, 0, 0, 0, 0, 0, 0, 0, 0, 0, 0, 0, 0, 0, 0, 0, 0, 0, 0, 0, 0, 0, 0, 0, 0,
      0, 0, 0, 0, 0, 0, 0, 0, 0, 0, 0, 0, 0, 0, 0, 0, 0, 0, 0, 0, 0, 0, 0, 0, 0, 0, 0, 0, 0, 0, 0, 0, 0, 7, 0, 1, 0,
      136, 0, 0, 0, 0, 0, 0, 0, 0, 0, 0, 0, 0, 0, 0, 0, 0, 0, 0, 0, 0, 0, 0, 0, 0, 0, 0, 0, 0, 0, 0, 0, 0, 0, 0, 0, 0,
      0, 0, 0, 0, 0, 0, 0, 0, 0, 0, 0, 0, 0, 0, 0, 0, 0, 0, 0, 0, 0, 0, 0, 0, 0, 0, 0, 0, 0, 0, 0, 0, 0, 0, 0, 0, 0, 0,
      0, 0, 0, 0, 0, 0, 0, 0, 0, 0, 0, 0, 0, 0, 0, 0, 0, 0, 0, 0, 0, 0, 0, 0, 0, 0, 0, 0, 0, 0, 0, 0, 0, 0, 0, 0, 0, 0,
      0, 0, 0, 0, 0, 0, 0, 0, 0, 0, 0, 0, 0, 0, 0, 0, 0, 0, 0, 0, 0, 0, 0, 0, 0, 0, 0])),
      pk 0x0E03 (toLe 4 (fnId 0 0 5) ++ toLe 4 0 ++ toLe 8 4096 ++ toLe 4 664), fnId 0 0 5, by8 [83, 78, 80, 49, 1, 0,
      0, 5, 152, 2, 0, 0, 5, 0, 0, 0, 0, 0, 0, 0, 33, 0, 0, 0, 1, 0, 0, 0, 0, 0, 0, 0, 180, 175, 124, 190, 198, 199,
      43, 178, 145, 198, 202, 245, 37, 137, 172, 227, 60, 216, 183, 70, 202, 198, 121, 183, 133, 93, 195, 1, 175, 140,
      150, 2, 1, 0, 1, 0, 80, 0, 0, 0, 0, 0, 0, 0, 8, 0, 9, 0, 0, 1, 0, 0, 0, 4, 0, 0, 0, 0, 0, 0, 0, 0, 0, 0, 255,
      255, 255, 255, 255, 255, 255, 255, 0, 0, 0, 0, 0, 0, 0, 0, 0, 0, 0, 0, 0, 0, 0, 0, 0, 0, 0, 0, 0, 0, 0, 0, 0, 0,
      0, 0, 0, 0, 0, 0, 0, 0, 0, 0, 0, 0, 0, 0, 0, 0, 0, 0, 0, 0, 0, 0, 2, 0, 1, 0, 64, 0, 0, 0, 2, 0, 33, 4, 0, 0, 0,
      0, 0, 0, 0, 0, 0, 0, 0, 0, 0, 0, 0, 0, 0, 0, 0, 0, 0, 0, 0, 0, 0, 0, 0, 0, 0, 0, 1, 0, 0, 0, 0, 0, 16, 64, 0, 1,
      0, 232, 3, 0, 0, 0, 0, 255, 0, 0, 0, 0, 0, 0, 0, 0, 0, 0, 0, 0, 4, 0, 1, 0, 128, 0, 0, 0, 0, 0, 0, 0, 0, 0, 0, 0,
      0, 0, 0, 0, 0, 0, 0, 0, 0, 0, 0, 0, 0, 0, 0, 0, 0, 0, 0, 0, 0, 0, 0, 0, 0, 0, 0, 0, 0, 0, 0, 0, 0, 0, 0, 0, 0, 0,
      0, 0, 0, 0, 0, 0, 0, 0, 0, 0, 0, 0, 0, 0, 0, 0, 0, 0, 0, 0, 0, 0, 0, 0, 0, 0, 0, 0, 0, 0, 0, 0, 0, 0, 0, 0, 0, 0,
      0, 0, 0, 0, 0, 0, 0, 0, 0, 0, 0, 0, 0, 0, 0, 0, 0, 0, 0, 0, 0, 0, 0, 0, 0, 0, 0, 0, 0, 0, 0, 0, 0, 0, 0, 0, 0, 0,
      0, 0, 0, 0, 0, 0, 5, 0, 9, 0, 152, 0, 0, 0, 0, 0, 0, 0, 0, 0, 0, 0, 0, 0, 0, 0, 0, 0, 0, 0, 0, 0, 0, 0, 0, 0, 0,
      0, 0, 0, 0, 0, 0, 0, 0, 0, 0, 0, 0, 0, 0, 0, 0, 0, 0, 0, 0, 0, 0, 0, 0, 0, 0, 0, 0, 0, 0, 0, 0, 0, 0, 0, 0, 0, 0,
      0, 0, 0, 0, 0, 0, 0, 0, 0, 0, 0, 0, 0, 0, 0, 0, 0, 0, 0, 0, 0, 0, 0, 0, 0, 0, 0, 0, 0, 0, 0, 0, 0, 0, 0, 0, 0, 0,
      0, 0, 0, 0, 0, 0, 0, 0, 0, 0, 0, 0, 0, 0, 0, 0, 0, 0, 0, 0, 0, 0, 0, 0, 0, 0, 0, 0, 0, 0, 0, 0, 0, 0, 0, 0, 0, 0,
      0, 0, 0, 0, 0, 0, 0, 0, 0, 0, 0, 0, 0, 0, 0, 7, 0, 1, 0, 136, 0, 0, 0, 0, 0, 0, 0, 0, 0, 0, 0, 0, 0, 0, 0, 0, 0,
      0, 0, 0, 0, 0, 0, 0, 0, 0, 0, 0, 0, 0, 0, 0, 0, 0, 0, 0, 0, 0, 0, 0, 0, 0, 0, 0, 0, 0, 0, 0, 0, 0, 0, 0, 0, 0, 0,
      0, 0, 0, 0, 0, 0, 0, 0, 0, 0, 0, 0, 0, 0, 0, 0, 0, 0, 0, 0, 0, 0, 0, 0, 0, 0, 0, 0, 0, 0, 0, 0, 0, 0, 0, 0, 0, 0,
      0, 0, 0, 0, 0, 0, 0, 0, 0, 0, 0, 0, 0, 0, 0, 0, 0, 0, 0, 0, 0, 0, 0, 0, 0, 0, 0, 0, 0, 0, 0, 0, 0, 0, 0, 0, 0, 0,
      0, 0, 0, 0, 0, 0, 0, 0], (snapParse 0 0 ((by8 [83, 78, 80, 49, 1, 0, 0, 5, 152, 2, 0, 0, 5, 0, 0, 0, 0, 0, 0, 0,
      33, 0, 0, 0, 1, 0, 0, 0, 0, 0, 0, 0, 180, 175, 124, 190, 198, 199, 43, 178, 145, 198, 202, 245, 37, 137, 172,
      227, 60, 216, 183, 70, 202, 198, 121, 183, 133, 93, 195, 1, 175, 140, 150, 2, 1, 0, 1, 0, 80, 0, 0, 0, 0, 0, 0,
      0, 8, 0, 9, 0, 0, 1, 0, 0, 0, 4, 0, 0, 0, 0, 0, 0, 0, 0, 0, 0, 255, 255, 255, 255, 255, 255, 255, 255, 0, 0, 0,
      0, 0, 0, 0, 0, 0, 0, 0, 0, 0, 0, 0, 0, 0, 0, 0, 0, 0, 0, 0, 0, 0, 0, 0, 0, 0, 0, 0, 0, 0, 0, 0, 0, 0, 0, 0, 0, 0,
      0, 0, 0, 0, 0, 0, 0, 2, 0, 1, 0, 64, 0, 0, 0, 2, 0, 33, 4, 0, 0, 0, 0, 0, 0, 0, 0, 0, 0, 0, 0, 0, 0, 0, 0, 0, 0,
      0, 0, 0, 0, 0, 0, 0, 0, 0, 0, 0, 0, 1, 0, 0, 0, 0, 0, 16, 64, 0, 1, 0, 232, 3, 0, 0, 0, 0, 255, 0, 0, 0, 0, 0, 0,
      0, 0, 0, 0, 0, 0, 4, 0, 1, 0, 128, 0, 0, 0, 0, 0, 0, 0, 0, 0, 0, 0, 0, 0, 0, 0, 0, 0, 0, 0, 0, 0, 0, 0, 0, 0, 0,
      0, 0, 0, 0, 0, 0, 0, 0, 0, 0, 0, 0, 0, 0, 0, 0, 0, 0, 0, 0, 0, 0, 0, 0, 0, 0, 0, 0, 0, 0, 0, 0, 0, 0, 0, 0, 0, 0,
      0, 0, 0, 0, 0, 0, 0, 0, 0, 0, 0, 0, 0, 0, 0, 0, 0, 0, 0, 0, 0, 0, 0, 0, 0, 0, 0, 0, 0, 0, 0, 0, 0, 0, 0, 0, 0, 0,
      0, 0, 0, 0, 0, 0, 0, 0, 0, 0, 0, 0, 0, 0, 0, 0, 0, 0, 0, 0, 0, 0, 0, 0, 0, 0, 0, 0, 0, 5, 0, 9, 0, 152, 0, 0, 0,
      0, 0, 0, 0, 0, 0, 0, 0, 0, 0, 0, 0, 0, 0, 0, 0, 0, 0, 0, 0, 0, 0, 0, 0, 0, 0, 0, 0, 0, 0, 0, 0, 0, 0, 0, 0, 0, 0,
      0, 0, 0, 0, 0, 0, 0, 0, 0, 0, 0, 0, 0, 0, 0, 0, 0, 0, 0, 0, 0, 0, 0, 0, 0, 0, 0, 0, 0, 0, 0, 0, 0, 0, 0, 0, 0, 0,
      0, 0, 0, 0, 0, 0, 0, 0, 0, 0, 0, 0, 0, 0, 0, 0, 0, 0, 0, 0, 0, 0, 0, 0, 0, 0, 0, 0, 0, 0, 0, 0, 0, 0, 0, 0, 0, 0,
      0, 0, 0, 0, 0, 0, 0, 0, 0, 0, 0, 0, 0, 0, 0, 0, 0, 0, 0, 0, 0, 0, 0, 0, 0, 0, 0, 0, 0, 0, 0, 0, 0, 0, 0, 0, 0, 0,
      7, 0, 1, 0, 136, 0, 0, 0, 0, 0, 0, 0, 0, 0, 0, 0, 0, 0, 0, 0, 0, 0, 0, 0, 0, 0, 0, 0, 0, 0, 0, 0, 0, 0, 0, 0, 0,
      0, 0, 0, 0, 0, 0, 0, 0, 0, 0, 0, 0, 0, 0, 0, 0, 0, 0, 0, 0, 0, 0, 0, 0, 0, 0, 0, 0, 0, 0, 0, 0, 0, 0, 0, 0, 0, 0,
      0, 0, 0, 0, 0, 0, 0, 0, 0, 0, 0, 0, 0, 0, 0, 0, 0, 0, 0, 0, 0, 0, 0, 0, 0, 0, 0, 0, 0, 0, 0, 0, 0, 0, 0, 0, 0, 0,
      0, 0, 0, 0, 0, 0, 0, 0, 0, 0, 0, 0, 0, 0, 0, 0, 0, 0, 0, 0, 0, 0, 0, 0, 0, 0, 0, 0, 0, 0,
      0]).drop 64) (leAt (by8 [83, 78, 80, 49, 1, 0, 0, 5, 152, 2, 0, 0, 5, 0, 0, 0, 0, 0, 0, 0, 33, 0, 0, 0, 1, 0, 0,
      0, 0, 0, 0, 0, 180, 175, 124, 190, 198, 199, 43, 178, 145, 198, 202, 245, 37, 137, 172, 227, 60, 216, 183, 70,
      202, 198, 121, 183, 133, 93, 195, 1, 175, 140, 150, 2, 1, 0, 1, 0, 80, 0, 0, 0, 0, 0, 0, 0, 8, 0, 9, 0, 0, 1, 0,
      0, 0, 4, 0, 0, 0, 0, 0, 0, 0, 0, 0, 0, 255, 255, 255, 255, 255, 255, 255, 255, 0, 0, 0, 0, 0, 0, 0, 0, 0, 0, 0,
      0, 0, 0, 0, 0, 0, 0, 0, 0, 0, 0, 0, 0, 0, 0, 0, 0, 0, 0, 0, 0, 0, 0, 0, 0, 0, 0, 0, 0, 0, 0, 0, 0, 0, 0, 0, 0, 2,
      0, 1, 0, 64, 0, 0, 0, 2, 0, 33, 4, 0, 0, 0, 0, 0, 0, 0, 0, 0, 0, 0, 0, 0, 0, 0, 0, 0, 0, 0, 0, 0, 0, 0, 0, 0, 0,
      0, 0, 0, 0, 1, 0, 0, 0, 0, 0, 16, 64, 0, 1, 0, 232, 3, 0, 0, 0, 0, 255, 0, 0, 0, 0, 0, 0, 0, 0, 0, 0, 0, 0, 4, 0,
      1, 0, 128, 0, 0, 0, 0, 0, 0, 0, 0, 0, 0, 0, 0, 0, 0, 0, 0, 0, 0, 0, 0, 0, 0, 0, 0, 0, 0, 0, 0, 0, 0, 0, 0, 0, 0,
      0, 0, 0, 0, 0, 0, 0, 0, 0, 0, 0, 0, 0, 0, 0, 0, 0, 0, 0, 0, 0, 0, 0, 0, 0, 0, 0, 0, 0, 0, 0, 0, 0, 0, 0, 0, 0, 0,
      0, 0, 0, 0, 0, 0, 0, 0, 0, 0, 0, 0, 0, 0, 0, 0, 0, 0, 0, 0, 0, 0, 0, 0, 0, 0, 0, 0, 0, 0, 0, 0, 0, 0, 0, 0, 0, 0,
      0, 0, 0, 0, 0, 0, 0, 0, 0, 0, 0, 0, 0, 0, 0, 0, 0, 0, 0, 0, 0, 5, 0, 9, 0, 152, 0, 0, 0, 0, 0, 0, 0, 0, 0, 0, 0,
      0, 0, 0, 0, 0, 0, 0, 0, 0, 0, 0, 0, 0, 0, 0, 0, 0, 0, 0, 0, 0, 0, 0, 0, 0, 0, 0, 0, 0, 0, 0, 0, 0, 0, 0, 0, 0, 0,
      0, 0, 0, 0, 0, 0, 0, 0, 0, 0, 0, 0, 0, 0, 0, 0, 0, 0, 0, 0, 0, 0, 0, 0, 0, 0, 0, 0, 0, 0, 0, 0, 0, 0, 0, 0, 0, 0,
      0, 0, 0, 0, 0, 0, 0, 0, 0, 0, 0, 0, 0, 0, 0, 0, 0, 0, 0, 0, 0, 0, 0, 0, 0, 0, 0, 0, 0, 0, 0, 0, 0, 0, 0, 0, 0, 0,
      0, 0, 0, 0, 0, 0, 0, 0, 0, 0, 0, 0, 0, 0, 0, 0, 0, 0, 0, 0, 0, 0, 0, 0, 0, 0, 0, 0, 0, 0, 7, 0, 1, 0, 136, 0, 0,
      0, 0, 0, 0, 0, 0, 0, 0, 0, 0, 0, 0, 0, 0, 0, 0, 0, 0, 0, 0, 0, 0, 0, 0, 0, 0, 0, 0, 0, 0, 0, 0, 0, 0, 0, 0, 0, 0,
      0, 0, 0, 0, 0, 0, 0, 0, 0, 0, 0, 0, 0, 0, 0, 0, 0, 0, 0, 0, 0, 0, 0, 0, 0, 0, 0, 0, 0, 0, 0, 0, 0, 0, 0, 0, 0, 0,
      0, 0, 0, 0, 0, 0, 0, 0, 0, 0, 0, 0, 0, 0, 0, 0, 0, 0, 0, 0, 0, 0, 0, 0, 0, 0, 0, 0, 0, 0, 0, 0, 0, 0, 0, 0, 0, 0,
      0, 0, 0, 0, 0, 0, 0, 0, 0, 0, 0, 0, 0, 0, 0, 0, 0, 0, 0, 0, 0, 0, 0]) 7 1)).getD [], by decide +kernel⟩,
    ⟨s68, pk 0x0E04 (toLe 4 (fnId 0 0 5)), fnId 0 0 5, by decide +kernel⟩,
    ⟨s70, pk 0x0E04 (toLe 4 (fnId 0 0 5)), fnId 0 0 5, by decide +kernel⟩⟩

theorem witness_PodImages :
    (∃ s : State, ∃ p : Packet, ∃ pod : Nat, ∃ im : ThreadImage, (s.takesRecorded (p.of 0x0901))
      ∧ (s.podStatusOf (p.of 0x0901) = .ok pod) ∧ (bit (leAt p.params 2 1) 1 = false) ∧ ((∃ i, i < 72
      ∧ (s.thread (pod * 72 + i)).state = .running)))
    ∧ (∃ s : State, ∃ p : Packet, ∃ pod : Nat, ∃ im : ThreadImage, (s.takesRecorded (p.of 0x0901))
      ∧ (s.podStatusOf (p.of 0x0901) = .ok pod) ∧ (bit (leAt p.params 2 1) 1 = false) ∧ ((∀ i,
      i < 72 → (s.thread (pod * 72 + i)).state = .unloaded)) ∧ (s.canIssue p.sender = true)
      ∧ (s.ideBlocks p.sender (leAt p.params 8 8) = false)
      ∧ ((linugSections (s.chipIdent % 256) (s.hostRead p.sender (leAt p.params 8 8) (leAt p.params 4 4))).bind (threadImage pod) = some im)
      ∧ (s.imageUnfit pod p.sender im = false))
    ∧ (∃ s : State, ∃ p : Packet, ∃ pod : Nat, (s.takesRecorded (p.of 0x0901)) ∧ (s.podStatusOf (p.of 0x0901) = .ok pod)
      ∧ (bit (leAt p.params 2 1) 1 = true))
    ∧ (∃ s : State, ∃ p : Packet, (s.takes (p.of 0x0902)) ∧ (p.paramLen = 4) ∧ (leAt p.params 1 1 ≤ 5)
      ∧ (leAt p.params 2 1 ≤ 71) ∧ (leAt p.params 3 1 = 0) ∧ (s.dieStatus (leAt p.params 0 1) = none)
      ∧ (mClass p.sender = 0) ∧ let pod := leAt p.params 0 1 * 6 + leAt p.params 1 1; True) :=
  ⟨⟨{ up with threads := [(3, { Thread.reset with state := .running, pc := 4096 })], pods := [(0, { Pod.reset with loaded := true })] },
      p01, 0, v26, by decide +kernel⟩,
    ⟨(State.writeBytes (up : State) (.host 0) 4096 (by8 [76, 78, 85, 71, 1, 0, 2, 0, 136, 0, 0, 0, 0, 0, 0, 0, 0, 0, 0, 0,
      0, 0, 0, 0, 0, 0, 0, 0, 0, 0, 0, 0, 83, 65, 21, 57, 170, 173, 163, 160, 113, 183, 165, 0, 234, 205, 199, 17, 20,
      227, 221, 31, 191, 209, 105, 188, 86, 72, 221, 156, 13, 145, 129, 219, 1, 0, 0, 0, 96, 0, 0, 0, 8, 0, 0, 0, 64,
      0, 0, 0, 5, 0, 0, 0, 104, 0, 0, 0, 32, 0, 0, 0, 0, 0, 0, 0, 1, 2, 3, 4, 5, 6, 7, 8, 0, 0, 0, 0, 15, 0, 0, 0, 0,
      32, 0, 0, 0, 0, 0, 0, 1, 0, 0, 0, 0, 0, 0, 0, 0, 0, 0, 0, 0, 0, 0, 0])), p01, 0, v26, by decide +kernel⟩,
    ⟨{ up with threads := [(3, { Thread.reset with state := .running, pc := 4096 })], pods := [(0, { Pod.reset with loaded := true, packets := [(7, { bytes := [1], cells := 1, ing := none })] })], tms := [(0, { Tm.reset with free := 196607, pipeline := 1 })] },
      pk 0x0901 (by8 [0,0,2,0] ++ toLe 12 0), 0, by decide +kernel⟩,
    ⟨{ up with threads := [(71, { Thread.reset with state := .running, pc := 4096 })], pods := [(0, { Pod.reset with loaded := true })] },
      pk 0x0902 (by8 [0,0,71,0]), by decide +kernel⟩⟩

theorem witness_ThreadDebugging :
    (∃ s : State, ∃ p : Packet, ∃ t : Nat, (s.takesRecorded ((p.withOp 0).of 0x8901))
      ∧ (s.debugTarget ((p.withOp 0).of 0x8901) = .ok t) ∧ ((s.thread t).state = .running) ∧ (s.threads = [(t,
      s.thread t)]))
    ∧ (∃ s : State, ∃ p : Packet, ∃ t : Nat, (s.takesRecorded ((p.withOp 0).of 0x8901))
      ∧ (s.debugTarget ((p.withOp 0).of 0x8901) = .ok t) ∧ ((s.thread t).state = .faulted))
    ∧ (∃ s : State, ∃ p : Packet, ∃ t : Nat, (s.takesRecorded ((p.withOp 1).of 0x8901))
      ∧ (s.debugTarget ((p.withOp 1).of 0x8901) = .ok t) ∧ ((s.thread t).state = .stopped) ∧ ((s.thread t).pc % 4 = 0)
      ∧ (executable (s.thread t).pc = true)
      ∧ let th : Thread := { s.thread t with state := .running, breakSkip := (s.thread t).breakHit, breakHit := false }; True)
    ∧ (∃ s : State, ∃ p : Packet, ∃ t : Nat, (s.takesRecorded ((p.withOp 1).of 0x8901))
      ∧ (s.debugTarget ((p.withOp 1).of 0x8901) = .ok t) ∧ ((s.thread t).state ≠ .stopped))
    ∧ (∃ s : State, ∃ p : Packet, ∃ t : Nat, (s.takesRecorded ((p.withOp 2).of 0x8901))
      ∧ (s.debugTarget ((p.withOp 2).of 0x8901) = .ok t) ∧ ((s.thread t).state = .stopped) ∧ ((s.thread t).pc % 4 = 0)
      ∧ (executable (s.thread t).pc = true)
      ∧ let u := s.setThread t { s.thread t with state := .running, breakSkip := true, breakHit := false, stepping := true }; (decodeWord t (s.fetchWord t) = some (.fence t)) ∧ (s.live (threadDie t) = true))
    ∧ (∃ s : State, ∃ p : Packet, ∃ t : Nat, (s.takesRecorded ((p.withOp 2).of 0x8901))
      ∧ (s.debugTarget ((p.withOp 2).of 0x8901) = .ok t) ∧ ((s.thread t).state ≠ .stopped))
    ∧ (∃ s : State, ∃ p : Packet, ∃ t : Nat, (s.takesRecorded ((p.withOp 3).of 0x8901))
      ∧ (s.debugTarget ((p.withOp 3).of 0x8901) = .ok t) ∧ ((s.thread t).state = .outOfService))
    ∧ (∃ s : State, ∃ p : Packet, ∃ t : Nat, (s.takesRecorded ((p.withOp 3).of 0x8901))
      ∧ (s.debugTarget ((p.withOp 3).of 0x8901) = .ok t) ∧ ((s.thread t).state ≠ .outOfService)
      ∧ (bit (leAt (p.withOp 3).params 1 1) 0 = false))
    ∧ (∃ s : State, ∃ p : Packet, ∃ t : Nat, (s.takesRecorded ((p.withOp 4).of 0x8901))
      ∧ (s.debugTarget ((p.withOp 4).of 0x8901) = .ok t))
    ∧ (∃ s : State, ∃ p : Packet, ∃ t : Nat, ∃ reg : Nat, (s.takesRecorded ((p.withOp 5).of 0x8901))
      ∧ (s.debugTarget ((p.withOp 5).of 0x8901) = .ok t) ∧ (leAt (p.withOp 5).params 2 1 = reg)
      ∧ ((s.thread t).state ≠ .stopped))
    ∧ (∃ s : State, ∃ p : Packet, ∃ t : Nat, ∃ reg : Nat, (s.takesRecorded ((p.withOp 5).of 0x8901))
      ∧ (s.debugTarget ((p.withOp 5).of 0x8901) = .ok t) ∧ (leAt (p.withOp 5).params 2 1 = reg)
      ∧ ((s.thread t).state = .stopped) ∧ (reg ≠ 32))
    ∧ (∃ s : State, ∃ p : Packet, ∃ t : Nat, ∃ reg : Nat, (s.takesRecorded ((p.withOp 5).of 0x8901))
      ∧ (s.debugTarget ((p.withOp 5).of 0x8901) = .ok t) ∧ (leAt (p.withOp 5).params 2 1 = reg)
      ∧ ((s.thread t).state = .stopped) ∧ (reg = 32))
    ∧ (∃ s : State, ∃ p : Packet, ∃ t : Nat, (s.takesRecorded ((p.withOp 6).of 0x8901))
      ∧ (s.debugTarget ((p.withOp 6).of 0x8901) = .ok t))
    ∧ (∃ s : State, ∃ p : Packet, ∃ t : Nat, (s.takesRecorded ((p.withOp 7).of 0x8901))
      ∧ (s.debugTarget ((p.withOp 7).of 0x8901) = .ok t)) :=
  ⟨⟨s26, p07, 1, by decide +kernel⟩,
    ⟨{ up with threads := [(1, { Thread.reset with state := .faulted, pc := 4096 })], pods := [(0, { Pod.reset with loaded := true })] },
      p07, 1, by decide +kernel⟩,
    ⟨s27, p07, 1, by decide +kernel⟩,
    ⟨s25, p07, 1, by decide +kernel⟩,
    ⟨(State.writeBytes s27 (.pod 0) 4096 (toLe 4 (((List.range 64).find? (fun o => decodeWord 1 (o * 2 ^ 26 + 4) == some (.fence 1))).getD 0 * 2 ^ 26 + 4))), p07, 1, by decide +kernel⟩,
    ⟨s25, p07, 1, by decide +kernel⟩,
    ⟨s28, p07, 1, by decide +kernel⟩,
    ⟨{ up with threads := [(1, { Thread.reset with state := .blocked, pc := 4096, wait := .eventWait })], pods := [(0, { Pod.reset with loaded := true })] },
      p07, 1, by decide +kernel⟩,
    ⟨s28, p07, 1, by decide +kernel⟩,
    ⟨s26, p08, 1, 31, by decide +kernel⟩,
    ⟨s27, p08, 1, 31, by decide +kernel⟩,
    ⟨s27, pk 0x8901 (by8 [0,0,32,0] ++ toLe 4 (threadId 1) ++ toLe 8 8 ++ toLe 8 0), 1, 32, by decide +kernel⟩,
    ⟨s26, pk 0x8901 (by8 [0,0,3,0] ++ toLe 4 (threadId 1) ++ toLe 8 8192 ++ toLe 8 0), 1, by decide +kernel⟩,
    ⟨{ up with threads := [(1, { Thread.reset with state := .running, pc := 4096 })], pods := [(0, { Pod.reset with loaded := true, breakpoints := [(3, 8192)] })] },
      pk 0x8901 (by8 [0,0,3,0] ++ toLe 4 (threadId 1) ++ toLe 8 0 ++ toLe 8 0), 1, by decide +kernel⟩⟩

theorem witness_ThreadControl :
    (∃ s : State, ∃ t : Nat, ∃ w : Nat, (s.live (threadPod t / 6) = true) ∧ (w = threadId (s.supervisor (threadPod t)))
      ∧ ((s.thread t).state = .faulted) ∧ ((s.thread t).pc % 4 = 0) ∧ (executable (s.thread t).pc = true))
    ∧ (∃ s : State, ∃ t : Nat, ∃ w : Nat, (s.live (threadPod t / 6) = true) ∧ (w = threadId (s.supervisor (threadPod t)))
      ∧ ((s.thread t).state ≠ .faulted))
    ∧ (∃ s : State, ∃ t : Nat, ∃ w : Nat, (s.live (threadPod t / 6) = true) ∧ (w = threadId (s.supervisor (threadPod t)))
      ∧ ((s.thread t).state ≠ .outOfService) ∧ ((s.thread t).entryPc % 4 = 0) ∧ (executable (s.thread t).entryPc = true))
    ∧ (∃ s : State, ∃ t : Nat, ∃ w : Nat, (s.live (threadPod t / 6) = true) ∧ (w = threadId (s.supervisor (threadPod t)))
      ∧ ((s.thread t).state ≠ .outOfService))
    ∧ (∃ s : State, ∃ t : Nat, ∃ w : Nat, (s.live (threadPod t / 6) = true) ∧ (w = threadId (s.supervisor (threadPod t))))
    ∧ (∃ s : State, ∃ t : Nat, ∃ w : Nat, (w ≠ threadId (s.supervisor (threadPod t))) ∧ (isThreadId w = false))
    ∧ (∃ s : State, ∃ t : Nat, ∃ w : Nat, (s.live (threadPod t / 6) = true) ∧ (w ≠ threadId (s.supervisor (threadPod t)))
      ∧ (isThreadId w = true) ∧ (threadOfId w / 72 = threadPod t) ∧ ((s.thread (threadOfId w)).state = .running))
    ∧ (∃ s : State, ∃ t : Nat, ∃ value : Nat, (s.live (threadDie t) = true))
    ∧ (∃ s : State, ∃ t : Nat, (s.live (threadDie t) = true) ∧ ((s.thread t).armed = true)
      ∧ ((s.thread t).deadline ≤ s.tickAt (threadDie t)) ∧ ((s.thread t).state = .running))
    ∧ (∃ s : State, ∃ t : Nat, (s.tickAt (threadDie t) < (s.thread t).deadline))
    ∧ (∃ s : State, ∃ t : Nat, ∃ v : Nat, ∃ cell : Nat, (s.live (threadDie t) = true))
    ∧ (∃ s : State, ∃ t : Nat, ∃ v : Nat, ∃ n : Nat, ∃ p : PodPkt, (s.live (threadDie t) = true) ∧ (s.viewPacket t v = some p)
      ∧ (n ≤ 9472) ∧ (p.cells + s.sharedFree (threadDie t) < cellsFor n))
    ∧ (∃ s : State, ∃ t : Nat, ∃ v : Nat, ∃ n : Nat, ∃ p : PodPkt, (s.live (threadDie t) = true) ∧ (s.viewPacket t v = some p)
      ∧ (n ≤ 9472) ∧ (cellsFor n ≤ p.cells + s.sharedFree (threadDie t)))
    ∧ (∃ s : State, ∃ t : Nat, ∃ v : Nat, (s.live (threadDie t) = true) ∧ (s.sharedFree (threadDie t) = 0))
    ∧ (∃ s : State, ∃ t : Nat, ∃ v : Nat, (s.live (threadDie t) = true) ∧ (s.sharedFree (threadDie t) ≠ 0))
    ∧ (∃ s : State, ∃ t : Nat, ∃ v : Nat, ∃ p : PodPkt, (s.live (threadDie t) = true) ∧ (s.viewPacket t v = some p)) :=
  ⟨⟨s36, 1, threadId 0, by decide +kernel⟩,
    ⟨s26, 1, threadId 0, by decide +kernel⟩,
    ⟨s36, 1, threadId 0, by decide +kernel⟩,
    ⟨s36, 1, threadId 0, by decide +kernel⟩,
    ⟨{ up with threads := [(1, { Thread.reset with state := .running, pc := 4096 })], pods := [(0, { Pod.reset with loaded := true })], locks := [(3, { Lock.reset with held := true, owner := threadId 1 }), (4, { Lock.reset with held := true, owner := threadId 2 })] },
      1, threadId 0, by decide +kernel⟩,
    ⟨s36, 1, pf0 1, by decide +kernel⟩,
    ⟨{ up with threads := [(2, { Thread.reset with state := .running, pc := 4096 })], pods := [(0, { Pod.reset with loaded := true })] },
      1, threadId 2, by decide +kernel⟩,
    ⟨s36, 1, 2 ^ 64 + 5, by decide +kernel⟩,
    ⟨{ up with threads := [(1, { Thread.reset with state := .running, pc := 4096, armed := true })], pods := [(0, { Pod.reset with loaded := true })] },
      1, by decide +kernel⟩,
    ⟨{ up with threads := [(1, { Thread.reset with state := .running, pc := 4096, armed := true, deadline := 9 })], pods := [(0, { Pod.reset with loaded := true })] },
      1, by decide +kernel⟩,
    ⟨{ up with threads := [(1, { Thread.reset with state := .running, pc := 4096 })], pods := [(0, { Pod.reset with loaded := true, packets := [(7, v04)] })] },
      1, 1, 7, by decide +kernel⟩,
    ⟨{ up with threads := [(1, { Thread.reset with state := .running, pc := 4096, view1 := { PktView.reset with firstCell := 7, isOpen := true } })], pods := [(0, { Pod.reset with loaded := true, packets := [(7, v04)] })], tms := [(0, { Tm.reset with free := 0, queued := 196607, pipeline := 1 })] },
      1, 1, 600, v04, by decide +kernel⟩,
    ⟨s66, 1, 1, 600, v04, by decide +kernel⟩,
    ⟨{ up with threads := [(1, { Thread.reset with state := .running, pc := 4096 })], pods := [(0, { Pod.reset with loaded := true })], tms := [(0, { Tm.reset with free := 0, queued := 196608 })] },
      1, 1, by decide +kernel⟩,
    ⟨s26, 1, 1, by decide +kernel⟩,
    ⟨s66, 1, 1, v04, by decide +kernel⟩⟩

theorem witness_PodEvents :
    (∃ s : State, ∃ pod : Nat, ∃ lock : Nat, ∃ r : Nat, (s.live (pod / 6) = true) ∧ (lock < 64) ∧ (isThreadId r = true)
      ∧ (threadOfId r / 72 = pod) ∧ ((s.lockOf (pod * 64 + lock)).held = false))
    ∧ (∃ s : State, ∃ pod : Nat, ∃ lock : Nat, ∃ r : Nat, (s.live (pod / 6) = true) ∧ (lock < 64) ∧ (isThreadId r = true)
      ∧ (threadOfId r / 72 = pod) ∧ ((s.lockOf (pod * 64 + lock)).held = true))
    ∧ (∃ s : State, ∃ pod : Nat, ∃ lock : Nat, ∃ r : Nat, ∃ rs : List Nat, ∃ rest : List Nat, (s.live (pod / 6) = true)
      ∧ (lock < 64) ∧ (s.lockOrder pod lock rs = r :: rest))
    ∧ (∃ s : State, ∃ pod : Nat, ∃ lock : Nat, ∃ a : Nat, ∃ b : Nat, ∃ i : Nat, ∃ j : Nat, (lockPosition pod a = some i)
      ∧ (lockPosition pod b = some j) ∧ (i < 73) ∧ (j < 73) ∧ ((s.lockOf (pod * 64 + lock)).pointer < 73)
      ∧ ((i + 73 - (s.lockOf (pod * 64 + lock)).pointer) % 73 < (j + 73 - (s.lockOf (pod * 64 + lock)).pointer) % 73))
    ∧ (∃ s : State, ∃ pod : Nat, ∃ lock : Nat, ∃ w : Nat, (s.live (pod / 6) = true) ∧ (lock < 64)
      ∧ ((s.lockOf (pod * 64 + lock)).held = true) ∧ ((s.lockOf (pod * 64 + lock)).owner = w))
    ∧ (∃ s : State, ∃ t : Nat, (s.live (threadDie t) = true) ∧ ((s.thread t).state = .blocked)
      ∧ ((s.thread t).wait = .messageCommit)
      ∧ let k := chanKey (threadDie t) ((s.thread t).objectPod * 256 + (s.thread t).object); ((s.chanOf k).enable = true) ∧ ((s.chanOf k).writer = threadId t) ∧ (mClass (s.chanOf k).reader = 1) ∧ ((s.chanOf k).room < (s.thread t).staging.length + 1))
    ∧ (∃ s : State, ∃ t : Nat, (s.live (threadDie t) = true) ∧ ((s.thread t).state = .blocked)
      ∧ ((s.thread t).wait = .messageCommit)
      ∧ let k := chanKey (threadDie t) ((s.thread t).objectPod * 256 + (s.thread t).object); ((s.chanOf k).enable = true) ∧ ((s.chanOf k).writer = threadId t) ∧ (mClass (s.chanOf k).reader = 1) ∧ ((s.thread t).staging.length + 1 ≤ (s.chanOf k).room))
    ∧ (∃ s : State, ∃ t : Nat, (s.live (threadDie t) = true) ∧ ((s.thread t).state = .running) ∧ (s.intDue t = true)
      ∧ ((s.thread t).intHandler % 4 = 0) ∧ (executable (s.thread t).intHandler = true))
    ∧ (∃ s : State, ∃ t : Nat, (s.live (threadDie t) = true) ∧ ((s.thread t).state = .running) ∧ (s.atBreak t = true))
    ∧ (∃ s : State, ∃ pod : Nat, (s.live (pod / 6) = true) ∧ (s.stalemateSet pod ≠ []) ∧ (s.stalemateHeld pod = true)
      ∧ ((s.podOf pod).stalemate = false) ∧ ((s.podOf pod).toFirmware = false))
    ∧ (∃ s : State, ∃ pod : Nat, (s.stalemateSet pod = [] ∨ s.stalemateHeld pod = false))
    ∧ (∃ s : State, ∃ pod : Nat, ∃ pos : Nat, (s.dieWorks (pod / 6) = true) ∧ (pos < 8)
      ∧ (bit (s.podOf pod).lostPositions pos = false) ∧ ((s.podOf pod).spareAvailable = true))
    ∧ (∃ s : State, ∃ pod : Nat, ∃ pos : Nat, (s.dieWorks (pod / 6) = true) ∧ (pos < 8)
      ∧ (bit (s.podOf pod).lostPositions pos = false) ∧ ((s.podOf pod).spareAvailable = false)) :=
  ⟨⟨s26, 0, 3, threadId 2, by decide +kernel⟩,
    ⟨s49, 0, 3, threadId 2, by decide +kernel⟩,
    ⟨up, 0, 5, threadId 1, [threadId 3, threadId 1], [threadId 3], by decide +kernel⟩,
    ⟨{ up with locks := [(5, { Lock.reset with pointer := 2 })] }, 0, 5, threadId 3, threadId 1, 3, 1, by decide +kernel⟩,
    ⟨s49, 0, 3, threadId 1, by decide +kernel⟩,
    ⟨{ up with threads := [(1, { Thread.reset with state := .blocked, pc := 4096, wait := .messageCommit, object := 5, staging := [1, 2], stagedFor := 5 })], pods := [(0, { Pod.reset with loaded := true })], chans := [(5, { Channel.reset with enable := true, writer := threadId 1, reader := threadId 2, words := List.replicate 6 (7, false) })] },
      1, by decide +kernel⟩,
    ⟨{ up with threads := [(1, { Thread.reset with state := .blocked, pc := 4096, wait := .messageCommit, object := 5, staging := [1, 2], stagedFor := 5 })], pods := [(0, { Pod.reset with loaded := true })], chans := [(5, { Channel.reset with enable := true, writer := threadId 1, reader := threadId 2, words := List.replicate 5 (7, false) })] },
      1, by decide +kernel⟩,
    ⟨{ up with threads := [(1, { Thread.reset with state := .running, pc := 4096, eventMask := 0x101, pending := 1, intHandler := 8192, eventSrc := 7, intSignal := true })], pods := [(0, { Pod.reset with loaded := true })] },
      1, by decide +kernel⟩,
    ⟨s41, 1, by decide +kernel⟩,
    ⟨{ up with threads := [(1, { Thread.reset with state := .blocked, pc := 4096, wait := .channelRead, object := 5 })], pods := [(0, { Pod.reset with loaded := true, watched := 2 })], chans := [(5, { Channel.reset with enable := true, writer := threadId 1, reader := threadId 1, words := [] })], times := [(0, { DieTime.reset with tick := 10 ^ 6 })] },
      0, by decide +kernel⟩,
    ⟨s26, 0, by decide +kernel⟩,
    ⟨{ up with threads := [(59, { Thread.reset with state := .running, pc := 4096 })], pods := [(0, { Pod.reset with loaded := true })] },
      0, 7, by decide +kernel⟩,
    ⟨{ up with threads := [(59, { Thread.reset with state := .running, pc := 4096 })], pods := [(0, { Pod.reset with loaded := true, spareAvailable := false })] },
      0, 7, by decide +kernel⟩⟩

theorem witness_InstructionCompletion :
    (∃ s : State, ∃ t : Nat, ∃ a : Nat, (a % 4 = 0) ∧ (executable a = true))
    ∧ (∃ s : State, ∃ t : Nat, ∃ a : Nat, (a % 4 = 0) ∧ (executable a = false) ∧ ((s.thread t).stepping = false)) :=
  ⟨⟨s26, 1, 8192, by decide +kernel⟩,
    ⟨s26, 1, 0x300000, by decide +kernel⟩⟩

theorem witness_InstructionIssue :
    (∃ s : State, ∃ t : Nat, ∃ body : State → State, (s.issues t))
    ∧ (∃ s : State, ∃ t : Nat, ∃ body : State → State, ((s.thread t).state ≠ .running))
    ∧ (∃ s : State, ∃ t : Nat, ∃ body : State → State, (s.live (threadDie t) = true) ∧ ((s.thread t).state = .running)
      ∧ (s.intDue t = true))
    ∧ (∃ s : State, ∃ t : Nat, ∃ body : State → State, (s.live (threadDie t) = true) ∧ ((s.thread t).state = .running)
      ∧ (s.intDue t = false) ∧ (s.atBreak t = true))
    ∧ (∃ s : State, ∃ t : Nat, ∃ w : Word32, (s.issues t) ∧ (decodeWord t w.toNat = none))
    ∧ (∃ s : State, ∃ t : Nat, ∃ w : Word32, ((decodeWord t w.toNat).isSome = true)) :=
  ⟨⟨s26, 1, fun x => x.emit (.pin pinPpsOut true), by decide +kernel⟩,
    ⟨{ up with threads := [(1, { Thread.reset with state := .blocked, pc := 4096 })], pods := [(0, { Pod.reset with loaded := true })] },
      1, fun x => x.emit (.pin pinPpsOut true), by decide +kernel⟩,
    ⟨{ up with threads := [(1, { Thread.reset with state := .running, pc := 4096, eventMask := 0x100, intHandler := 8192, intSignal := true })], pods := [(0, { Pod.reset with loaded := true })] },
      1, fun x => x.emit (.pin pinPpsOut true), by decide +kernel⟩,
    ⟨s41, 1, fun x => x.emit (.pin pinPpsOut true), by decide +kernel⟩,
    ⟨s26, 1, 0xFFFFFFFF, by decide +kernel⟩,
    ⟨s26, 1, 0x00221800, by decide +kernel⟩⟩

theorem witness_IntegerInstructions :
    (∃ s : State, ∃ t : Nat, ∃ rd : Nat, ∃ ra : Nat, ∃ rb : Nat, (s.issues t)
      ∧ let a := s.wreg t ra; let b := s.wreg t rb; True)
    ∧ (∃ s : State, ∃ t : Nat, ∃ rd : Nat, ∃ ra : Nat, ∃ rb : Nat, (s.issues t)
      ∧ let a := s.wreg t ra; let b := s.wreg t rb; True)
    ∧ (∃ s : State, ∃ t : Nat, ∃ rd : Nat, ∃ ra : Nat, ∃ rb : Nat, (s.issues t)
      ∧ let a := s.wreg t ra; let b := s.wreg t rb; True)
    ∧ (∃ s : State, ∃ t : Nat, ∃ rd : Nat, ∃ ra : Nat, ∃ rb : Nat, (s.issues t)
      ∧ let a := s.wreg t ra; let b := s.wreg t rb; True)
    ∧ (∃ s : State, ∃ t : Nat, ∃ rd : Nat, ∃ ra : Nat, ∃ rb : Nat, (s.issues t)
      ∧ let a := s.wreg t ra; let b := s.wreg t rb; True)
    ∧ (∃ s : State, ∃ t : Nat, ∃ rd : Nat, ∃ ra : Nat, ∃ rb : Nat, (s.issues t)
      ∧ let a := s.wreg t ra; let b := s.wreg t rb; True)
    ∧ (∃ s : State, ∃ t : Nat, ∃ rd : Nat, ∃ ra : Nat, ∃ rb : Nat, (s.issues t)
      ∧ let a := s.wreg t ra; let b := s.wreg t rb; True)
    ∧ (∃ s : State, ∃ t : Nat, ∃ rd : Nat, ∃ ra : Nat, ∃ rb : Nat, (s.issues t)
      ∧ let a := s.wreg t ra; let b := s.wreg t rb; True)
    ∧ (∃ s : State, ∃ t : Nat, ∃ rd : Nat, ∃ ra : Nat, ∃ rb : Nat, (s.issues t)
      ∧ let a := s.wreg t ra; let b := s.wreg t rb; True)
    ∧ (∃ s : State, ∃ t : Nat, ∃ rd : Nat, ∃ ra : Nat, ∃ rb : Nat, (s.issues t)
      ∧ let a := s.wreg t ra; let b := s.wreg t rb; True)
    ∧ (∃ s : State, ∃ t : Nat, ∃ rd : Nat, ∃ ra : Nat, ∃ rb : Nat, (s.issues t)
      ∧ let a := s.wreg t ra; let b := s.wreg t rb; True)
    ∧ (∃ s : State, ∃ t : Nat, ∃ rd : Nat, ∃ ra : Nat, ∃ rb : Nat, (s.issues t)
      ∧ let a := s.wreg t ra; let b := s.wreg t rb; True)
    ∧ (∃ s : State, ∃ t : Nat, ∃ rd : Nat, ∃ ra : Nat, ∃ rb : Nat, (s.issues t)
      ∧ let a := s.wreg t ra; let b := s.wreg t rb; True)
    ∧ (∃ s : State, ∃ t : Nat, ∃ rd : Nat, ∃ ra : Nat, ∃ rb : Nat, (s.issues t)
      ∧ let a := s.wreg t ra; let b := s.wreg t rb; True)
    ∧ (∃ s : State, ∃ t : Nat, ∃ rd : Nat, ∃ ra : Nat, ∃ rb : Nat, (s.issues t)
      ∧ let a := s.wreg t ra; let b := s.wreg t rb; True)
    ∧ (∃ s : State, ∃ t : Nat, ∃ rd : Nat, ∃ ra : Nat, ∃ rb : Nat, (s.issues t)
      ∧ let a := s.wreg t ra; let b := s.wreg t rb; True)
    ∧ (∃ s : State, ∃ t : Nat, ∃ rd : Nat, ∃ ra : Nat, ∃ rb : Nat, (s.issues t)
      ∧ let a := s.wreg t ra; let b := s.wreg t rb; True)
    ∧ (∃ s : State, ∃ t : Nat, ∃ rd : Nat, ∃ ra : Nat, ∃ rb : Nat, (s.issues t)
      ∧ let a := s.wreg t ra; let b := s.wreg t rb; (b ≠ 0))
    ∧ (∃ s : State, ∃ t : Nat, ∃ rd : Nat, ∃ ra : Nat, ∃ rb : Nat, (s.issues t)
      ∧ let a := s.wreg t ra; let b := s.wreg t rb; (b = 0)) :=
  ⟨⟨s45, 1, 3, 1, 2, by decide +kernel⟩,
    ⟨s45, 1, 3, 1, 2, by decide +kernel⟩,
    ⟨s45, 1, 3, 1, 2, by decide +kernel⟩,
    ⟨s45, 1, 3, 1, 2, by decide +kernel⟩,
    ⟨s45, 1, 3, 1, 2, by decide +kernel⟩,
    ⟨s45, 1, 3, 1, 2, by decide +kernel⟩,
    ⟨s45, 1, 3, 1, 2, by decide +kernel⟩,
    ⟨s45, 1, 3, 1, 2, by decide +kernel⟩,
    ⟨s45, 1, 3, 1, 2, by decide +kernel⟩,
    ⟨s45, 1, 3, 1, 2, by decide +kernel⟩,
    ⟨s45, 1, 3, 1, 2, by decide +kernel⟩,
    ⟨s45, 1, 3, 1, 2, by decide +kernel⟩,
    ⟨s45, 1, 3, 1, 2, by decide +kernel⟩,
    ⟨s45, 1, 3, 1, 2, by decide +kernel⟩,
    ⟨s45, 1, 3, 1, 2, by decide +kernel⟩,
    ⟨s45, 1, 3, 1, 2, by decide +kernel⟩,
    ⟨s45, 1, 3, 1, 2, by decide +kernel⟩,
    ⟨s45, 1, 3, 1, 2, by decide +kernel⟩,
    ⟨s45, 1, 3, 1, 0, by decide +kernel⟩⟩

theorem witness_OneRegisterInstructions :
    (∃ s : State, ∃ t : Nat, ∃ rd : Nat, ∃ ra : Nat, ∃ imm : Nat, (s.issues t) ∧ let a := s.wreg t ra; True)
    ∧ (∃ a : Word, (a ≠ 0))
    ∧ (∃ a : Word, (a ≠ 0)) :=
  ⟨⟨{ up with threads := [(1, { Thread.reset with state := .running, pc := 4096, regs := [(1, BitVec.ofNat 64 (2 ^ 63 + 5))] })], pods := [(0, { Pod.reset with loaded := true })] },
      1, 3, 1, 65535, by decide +kernel⟩,
    ⟨12, by decide +kernel⟩,
    ⟨12, by decide +kernel⟩⟩

theorem witness_MemoryInstructions :
    (∃ s : State, ∃ u : State, ∃ t : Nat, ∃ rd : Nat, ∃ ra : Nat, ∃ imm : Nat, ∃ n : Nat, ∃ pl : Place, ∃ bs : List Byte,
      (s.issues t)
      ∧ let a := effAddr (s.wreg t ra) imm; (a % n = 0) ∧ (s.reach t a n = .ok pl) ∧ (s.readPlace t n pl = .done bs u) ∧ (n = 1))
    ∧ (∃ s : State, ∃ u : State, ∃ t : Nat, ∃ rd : Nat, ∃ ra : Nat, ∃ imm : Nat, ∃ n : Nat, ∃ pl : Place, ∃ bs : List Byte,
      (s.issues t)
      ∧ let a := effAddr (s.wreg t ra) imm; (a % n = 0) ∧ (s.reach t a n = .ok pl) ∧ (s.readPlace t n pl = .done bs u) ∧ (n = 2))
    ∧ (∃ s : State, ∃ u : State, ∃ t : Nat, ∃ rd : Nat, ∃ ra : Nat, ∃ imm : Nat, ∃ n : Nat, ∃ pl : Place, ∃ bs : List Byte,
      (s.issues t)
      ∧ let a := effAddr (s.wreg t ra) imm; (a % n = 0) ∧ (s.reach t a n = .ok pl) ∧ (s.readPlace t n pl = .done bs u) ∧ (n = 4))
    ∧ (∃ s : State, ∃ u : State, ∃ t : Nat, ∃ rd : Nat, ∃ ra : Nat, ∃ imm : Nat, ∃ n : Nat, ∃ pl : Place, ∃ bs : List Byte,
      (s.issues t)
      ∧ let a := effAddr (s.wreg t ra) imm; (a % n = 0) ∧ (s.reach t a n = .ok pl) ∧ (s.readPlace t n pl = .done bs u) ∧ (n = 8))
    ∧ (∃ s : State, ∃ u : State, ∃ t : Nat, ∃ ra : Nat, ∃ rb : Nat, ∃ imm : Nat, ∃ n : Nat, ∃ pl : Place, (s.issues t)
      ∧ let a := effAddr (s.wreg t ra) imm; (a % n = 0) ∧ (s.reach t a n = .ok pl) ∧ ((s.pass t).writePlace t (toLe n (s.wreg t rb).toNat) pl = .done u) ∧ (n = 1))
    ∧ (∃ s : State, ∃ u : State, ∃ t : Nat, ∃ ra : Nat, ∃ rb : Nat, ∃ imm : Nat, ∃ n : Nat, ∃ pl : Place, (s.issues t)
      ∧ let a := effAddr (s.wreg t ra) imm; (a % n = 0) ∧ (s.reach t a n = .ok pl) ∧ ((s.pass t).writePlace t (toLe n (s.wreg t rb).toNat) pl = .done u) ∧ (n = 2))
    ∧ (∃ s : State, ∃ u : State, ∃ t : Nat, ∃ ra : Nat, ∃ rb : Nat, ∃ imm : Nat, ∃ n : Nat, ∃ pl : Place, (s.issues t)
      ∧ let a := effAddr (s.wreg t ra) imm; (a % n = 0) ∧ (s.reach t a n = .ok pl) ∧ ((s.pass t).writePlace t (toLe n (s.wreg t rb).toNat) pl = .done u) ∧ (n = 4))
    ∧ (∃ s : State, ∃ u : State, ∃ t : Nat, ∃ ra : Nat, ∃ rb : Nat, ∃ imm : Nat, ∃ n : Nat, ∃ pl : Place, (s.issues t)
      ∧ let a := effAddr (s.wreg t ra) imm; (a % n = 0) ∧ (s.reach t a n = .ok pl) ∧ ((s.pass t).writePlace t (toLe n (s.wreg t rb).toNat) pl = .done u) ∧ (n = 8))
    ∧ (∃ s : State, ∃ t : Nat, ∃ n : Nat, ∃ r : Region, ∃ off : Nat, ∃ bs : List Byte, (s.eccFails r off n = false)
      ∧ (off + bs.length ≤ 2 ^ 64))
    ∧ (∃ s : State, ∃ t : Nat, ∃ n : Nat, ∃ r : Region, ∃ off : Nat, ∃ bs : List Byte, (s.eccFails r off n = false)
      ∧ (off + bs.length ≤ 2 ^ 64))
    ∧ (∃ s : State, ∃ t : Nat, ∃ n : Nat, ∃ r : Region, ∃ off : Nat, ∃ bs : List Byte, (s.eccFails r off n = false)
      ∧ (off + bs.length ≤ 2 ^ 64))
    ∧ (∃ s : State, ∃ t : Nat, ∃ n : Nat, ∃ r : Region, ∃ off : Nat, ∃ bs : List Byte, (s.eccFails r off n = false)
      ∧ (off + bs.length ≤ 2 ^ 64) ∧ ∃ q : Region, ∃ x : Nat, (x < 2 ^ 64) ∧ ((q ≠ r ∨ x < off ∨ off + bs.length ≤ x)))
    ∧ (∃ s : State, ∃ t : Nat, ∃ n : Nat, ∃ r : Region, ∃ off : Nat, ∃ bs : List Byte, (s.eccFails r off n = false)
      ∧ (off + bs.length ≤ 2 ^ 64))
    ∧ (∃ s : State, ∃ t : Nat, ∃ rd : Nat, ∃ ra : Nat, ∃ imm : Nat, ∃ n : Nat, (s.issues t)
      ∧ let a := effAddr (s.wreg t ra) imm; (a % n ≠ 0) ∧ (n = 2))
    ∧ (∃ s : State, ∃ t : Nat, ∃ rd : Nat, ∃ ra : Nat, ∃ imm : Nat, ∃ n : Nat, (s.issues t)
      ∧ let a := effAddr (s.wreg t ra) imm; (a % n ≠ 0) ∧ (n = 4))
    ∧ (∃ s : State, ∃ t : Nat, ∃ rd : Nat, ∃ ra : Nat, ∃ imm : Nat, ∃ n : Nat, (s.issues t)
      ∧ let a := effAddr (s.wreg t ra) imm; (a % n ≠ 0) ∧ (n = 8))
    ∧ (∃ s : State, ∃ t : Nat, ∃ rd : Nat, ∃ ra : Nat, ∃ imm : Nat, ∃ c : Nat, (s.issues t)
      ∧ (s.reach t (effAddr (s.wreg t ra) imm) 1 = .error c))
    ∧ (∃ s : State, ∃ t : Nat, ∃ rd : Nat, ∃ ra : Nat, ∃ rb : Nat, ∃ func : Nat, ∃ r : Region, ∃ off : Nat, (s.issues t)
      ∧ (func < 16)
      ∧ let n := if 8 ≤ func then 4 else 8; let a := (s.wreg t ra).toNat; let b := (s.wreg t rb).toNat % 2 ^ (8 * n); let old := le (s.readBytes r off n); (a % n = 0) ∧ (s.placeOf t a = .memory r off) ∧ (s.eccFails r off n = false) ∧ (func % 8 < 7))
    ∧ (∃ s : State, ∃ t : Nat, ∃ rd : Nat, ∃ ra : Nat, ∃ rb : Nat, ∃ func : Nat, ∃ r : Region, ∃ off : Nat, (s.issues t)
      ∧ (func < 16)
      ∧ let n := if 8 ≤ func then 4 else 8; let a := (s.wreg t ra).toNat; let b := (s.wreg t rb).toNat % 2 ^ (8 * n); let old := le (s.readBytes r off n); (a % n = 0) ∧ (s.placeOf t a = .memory r off) ∧ (s.eccFails r off n = false) ∧ (func % 8 = 7)) :=
  ⟨⟨s56, s56, 1, 4, 1, 4, 1, .memory (.pod 0) 4104, (State.readBytes s56 (.pod 0) 4104 1), by decide +kernel⟩,
    ⟨s56, s56, 1, 4, 1, 4, 2, .memory (.pod 0) 4104, (State.readBytes s56 (.pod 0) 4104 2), by decide +kernel⟩,
    ⟨s56, s56, 1, 4, 1, 4, 4, .memory (.pod 0) 4104, (State.readBytes s56 (.pod 0) 4104 4), by decide +kernel⟩,
    ⟨s56, s56, 1, 4, 1, 4, 8, .memory (.pod 0) 4104, (State.readBytes s56 (.pod 0) 4104 8), by decide +kernel⟩,
    ⟨s56, (State.writeBytes (State.pass s56 1) (.pod 0) 4104 (toLe 1 0xFEDCBA9876543210)), 1, 1, 2, 4, 1,
      .memory (.pod 0) 4104, by decide +kernel⟩,
    ⟨s56, (State.writeBytes (State.pass s56 1) (.pod 0) 4104 (toLe 2 0xFEDCBA9876543210)), 1, 1, 2, 4, 2,
      .memory (.pod 0) 4104, by decide +kernel⟩,
    ⟨s56, (State.writeBytes (State.pass s56 1) (.pod 0) 4104 (toLe 4 0xFEDCBA9876543210)), 1, 1, 2, 4, 4,
      .memory (.pod 0) 4104, by decide +kernel⟩,
    ⟨s56, s65, 1, 1, 2, 4, 8, .memory (.pod 0) 4104, by decide +kernel⟩,
    ⟨s56, 1, 8, .pod 0, 4104, [1,2,3], by decide +kernel⟩,
    ⟨s56, 1, 8, .pod 0, 4104, [1,2,3], by decide +kernel⟩,
    ⟨s56, 1, 8, .pod 0, 4104, [1,2,3], by decide +kernel⟩,
    ⟨s56, 1, 8, .pod 0, 4104, [1,2,3], by decide +kernel, by decide +kernel, .pod 1, 4107, by decide +kernel⟩,
    ⟨s56, 1, 8, .pod 0, 4104, [1,2,3], by decide +kernel⟩,
    ⟨s56, 1, 4, 1, 5, 2, by decide +kernel⟩,
    ⟨s56, 1, 4, 1, 5, 4, by decide +kernel⟩,
    ⟨s56, 1, 4, 1, 5, 8, by decide +kernel⟩,
    ⟨s56, 1, 4, 1, 0x8000, fcAccess, by decide +kernel⟩,
    ⟨s60, 1, 4, 1, 2, 13, .pod 0, 4104, by decide +kernel⟩,
    ⟨s60, 1, 4, 1, 2, 7, .pod 0, 4104, by decide +kernel⟩⟩

theorem witness_ControlTransfer :
    (∃ s : State, ∃ t : Nat, ∃ ra : Nat, ∃ rb : Nat, ∃ offset : Nat, (s.issues t)
      ∧ let a := s.wreg t ra; let b := s.wreg t rb; let go := fun (c : Bool) => if c then s.jumpTo t (branchTarget (s.thread t).pc 16 offset) else s.pass t; True)
    ∧ (∃ s : State, ∃ t : Nat, ∃ offset : Nat, (s.issues t))
    ∧ (∃ s : State, ∃ t : Nat, ∃ rd : Nat, ∃ ra : Nat, ∃ imm : Nat, (s.issues t)
      ∧ let a := (s.wreg t ra + (BitVec.ofNat 16 imm).signExtend 64).toNat; (a % 4 = 0))
    ∧ (∃ s : State, ∃ t : Nat, ∃ rd : Nat, ∃ ra : Nat, ∃ imm : Nat, (s.issues t)
      ∧ let a := (s.wreg t ra + (BitVec.ofNat 16 imm).signExtend 64).toNat; (a % 4 ≠ 0))
    ∧ (∃ pc : Nat, ∃ n : Nat, ∃ offset : Nat, (pc < 2 ^ 64) ∧ (n = 16 ∨ n = 26) ∧ (offset < 2 ^ (n - 1))
      ∧ (pc + 4 * offset < 2 ^ 64))
    ∧ (∃ pc : Nat, ∃ n : Nat, ∃ k : Nat, (pc < 2 ^ 64) ∧ (n = 16 ∨ n = 26) ∧ (0 < k) ∧ (k ≤ 2 ^ (n - 1)) ∧ (4 * k ≤ pc)) :=
  ⟨⟨s42, 1, 1, 2, 65535, by decide +kernel⟩,
    ⟨s42, 1, 65535, by decide +kernel⟩,
    ⟨s42, 1, 1, 1, 8193, by decide +kernel⟩,
    ⟨s42, 1, 1, 1, 3, by decide +kernel⟩,
    ⟨8192, 16, 9, by decide +kernel⟩,
    ⟨8192, 16, 5, by decide +kernel⟩⟩

theorem witness_ChannelInstructions :
    (∃ s : State, ∃ t : Nat, ∃ ra : Nat, ∃ rb : Nat, ∃ k : Nat, (s.issues t) ∧ (s.chanFor t ra true = some k)
      ∧ ((s.thread t).badStage k = false))
    ∧ (∃ s : State, ∃ t : Nat, ∃ rd : Nat, ∃ ra : Nat, ∃ rb : Nat, ∃ k : Nat, (s.issues t) ∧ (s.chanFor t ra true = some k)
      ∧ ((s.thread t).badStage k = false) ∧ (mClass (s.chanOf k).reader = 1)
      ∧ let ws := (s.thread t).staging ++ [s.wreg t rb]; let sent := (s.setThread t { s.thread t with staging := [] }).putMessage k ws; (ws.length ≤ (s.chanOf k).room))
    ∧ (∃ s : State, ∃ t : Nat, ∃ rd : Nat, ∃ ra : Nat, ∃ rb : Nat, ∃ k : Nat, (s.issues t) ∧ (s.chanFor t ra true = some k)
      ∧ ((s.thread t).badStage k = false) ∧ (mClass (s.chanOf k).reader = 1)
      ∧ let ws := (s.thread t).staging ++ [s.wreg t rb]; let sent := (s.setThread t { s.thread t with staging := [] }).putMessage k ws; ((s.chanOf k).room < ws.length))
    ∧ (∃ s : State, ∃ t : Nat, ∃ rd : Nat, ∃ ra : Nat, ∃ k : Nat, ∃ w : Word, ∃ last : Bool, ∃ rest : List (Word × Bool),
      (s.issues t) ∧ (s.chanFor t ra false = some k) ∧ ((s.chanOf k).words = (w, last) :: rest)
      ∧ (mClass (s.chanOf k).writer = 1)
      ∧ let u := ((s.setChanOf k { s.chanOf k with words := rest }).setThread t (((s.thread t).takeWord rd w last).complete (((s.thread t).pc + 4) % 2 ^ 64))).settleDie (threadDie t); True)
    ∧ (∃ s : State, ∃ t : Nat, ∃ rd : Nat, ∃ ra : Nat, ∃ k : Nat, (s.issues t) ∧ (s.chanFor t ra false = some k)
      ∧ ((s.chanOf k).words = []))
    ∧ (∃ s : State, ∃ t : Nat, ∃ rd : Nat, ∃ ra : Nat, ∃ rb : Nat, (s.issues t) ∧ (s.chanFor t ra true = none))
    ∧ (∃ s : State, ∃ t : Nat, ∃ rd : Nat, ∃ ra : Nat, ∃ rb : Nat, (s.issues t) ∧ (s.chanFor t ra false = none))
    ∧ (∃ s : State, ∃ t : Nat, ∃ ra : Nat, ∃ rb : Nat, ∃ k : Nat, (s.issues t) ∧ (s.chanFor t ra true = some k)
      ∧ ((s.thread t).staging.length = 8))
    ∧ (∃ s : State, ∃ k : Nat, ∃ ws : List Word, ∃ w : Word, (s.threads = [])) :=
  ⟨⟨s61, 1, 1, 2, 5, by decide +kernel⟩,
    ⟨s61, 1, 3, 1, 2, 5, by decide +kernel⟩,
    ⟨{ up with threads := [(1, { Thread.reset with state := .running, pc := 4096, regs := [(1, 5), (2, 77)], staging := [1,2], stagedFor := 5 })], pods := [(0, { Pod.reset with loaded := true })], chans := [(5, { Channel.reset with enable := true, writer := threadId 1, reader := threadId 2, words := List.replicate 6 (7, false) })] },
      1, 3, 1, 2, 5, by decide +kernel⟩,
    ⟨{ up with threads := [(1, { Thread.reset with state := .running, pc := 4096, regs := [(1, 5), (2, 77)] })], pods := [(0, { Pod.reset with loaded := true })], chans := [(5, { Channel.reset with enable := true, writer := threadId 2, reader := threadId 1, words := [(9, true), (8, false)] })] },
      1, 3, 1, 5, 9, true, [(8, false)], by decide +kernel⟩,
    ⟨{ up with threads := [(1, { Thread.reset with state := .running, pc := 4096, regs := [(1, 5), (2, 77)] })], pods := [(0, { Pod.reset with loaded := true })], chans := [(5, { Channel.reset with enable := true, writer := threadId 2, reader := threadId 1, words := [] })] },
      1, 3, 1, 5, by decide +kernel⟩,
    ⟨s40, 1, 3, 1, 2, by decide +kernel⟩,
    ⟨s40, 1, 3, 1, 2, by decide +kernel⟩,
    ⟨{ up with threads := [(1, { Thread.reset with state := .running, pc := 4096, regs := [(1, 5), (2, 77)], staging := List.replicate 8 1, stagedFor := 5 })], pods := [(0, { Pod.reset with loaded := true })], chans := [(5, { Channel.reset with enable := true, writer := threadId 1, reader := threadId 2, words := [] })] },
      1, 1, 2, 5, by decide +kernel⟩,
    ⟨up, 5, [1,2], 3, by decide +kernel⟩⟩

theorem witness_EventInstructions :
    (∃ s : State, ∃ t : Nat, ∃ rd : Nat, (s.issues t)
      ∧ let set := s.pendingBits t &&& (s.thread t).eventMask % 256; let got := (s.setThread t ((s.thread t).takeEvents set)).retire t rd (BitVec.ofNat 64 set); True)
    ∧ (∃ s : State, ∃ t : Nat, ∃ rd : Nat, (s.issues t)
      ∧ let set := s.pendingBits t &&& (s.thread t).eventMask % 256; let got := (s.setThread t ((s.thread t).takeEvents set)).retire t rd (BitVec.ofNat 64 set); (set ≠ 0))
    ∧ (∃ s : State, ∃ t : Nat, ∃ rd : Nat, (s.issues t)
      ∧ let set := s.pendingBits t &&& (s.thread t).eventMask % 256; let got := (s.setThread t ((s.thread t).takeEvents set)).retire t rd (BitVec.ofNat 64 set); (set = 0))
    ∧ (∃ s : State, ∃ t : Nat, ∃ ra : Nat, ∃ rb : Nat, (s.issues t)
      ∧ let i := (s.wreg t ra).toNat; let b := (s.wreg t rb).toNat; let target := threadDie t * 432 + i; (i ≤ 431) ∧ (i % 72 < 64) ∧ (b < 8) ∧ ((s.thread target).state = .running) ∧ (target ≠ t))
    ∧ (∃ s : State, ∃ t : Nat, ∃ ra : Nat, ∃ rb : Nat, (s.issues t)
      ∧ let i := (s.wreg t ra).toNat; let b := (s.wreg t rb).toNat; let target := threadDie t * 432 + i; (i ≤ 431) ∧ (i % 72 < 64) ∧ (b = 8) ∧ (s.isSupervisor t = true) ∧ (threadPod target = threadPod t) ∧ ((s.thread target).state = .running))
    ∧ (∃ s : State, ∃ t : Nat, ∃ ra : Nat, ∃ rb : Nat, (s.issues t)
      ∧ let i := (s.wreg t ra).toNat; let b := (s.wreg t rb).toNat; let target := threadDie t * 432 + i; (i ≤ 431) ∧ (i % 72 < 64) ∧ (b = 8) ∧ (s.isSupervisor t = false))
    ∧ (∃ s : State, ∃ t : Nat, ∃ ra : Nat, ∃ rb : Nat, (s.issues t)
      ∧ let i := (s.wreg t ra).toNat; let b := (s.wreg t rb).toNat; let target := threadDie t * 432 + i; (431 < i ∨ 64 ≤ i % 72 ∨ 8 < b))
    ∧ (∃ s : State, ∃ t : Nat, ∃ rd : Nat, ∃ ra : Nat, ∃ sr : Nat, ∃ v : Nat, (s.issues t) ∧ (s.specialReg t sr = some v))
    ∧ (∃ s : State, ∃ t : Nat, ∃ rd : Nat, ∃ ra : Nat, ∃ sr : Nat, ∃ v : Nat, (s.issues t) ∧ (s.specialReg t sr = some v))
    ∧ (∃ s : State, ∃ t : Nat, ∃ rd : Nat, ∃ ra : Nat, ∃ sr : Nat, ∃ v : Nat, (s.issues t) ∧ (s.specialReg t sr = some v)
      ∧ (sr ≠ 3) ∧ (sr ≠ 6) ∧ (sr ≠ 8) ∧ (sr ≠ 9))
    ∧ (∃ s : State, ∃ t : Nat, ∃ rd : Nat, ∃ ra : Nat, ∃ sr : Nat, (s.issues t) ∧ (0xC < sr))
    ∧ (∃ s : State, ∃ t : Nat, (s.issues t))
    ∧ (∃ s : State, ∃ t : Nat, (s.issues t) ∧ ((s.thread t).breakNop = some (s.thread t).pc))
    ∧ (∃ s : State, ∃ t : Nat, (s.issues t) ∧ ((s.thread t).breakNop ≠ some (s.thread t).pc))
    ∧ (∃ s : State, ∃ t : Nat, (s.issues t)) :=
  ⟨⟨s43, 1, 3, by decide +kernel⟩,
    ⟨s43, 1, 3, by decide +kernel⟩,
    ⟨{ up with threads := [(1, { Thread.reset with state := .running, pc := 4096, eventMask := 0x1, pending := 2, eventSrc := 7 })], pods := [(0, { Pod.reset with loaded := true })] },
      1, 3, by decide +kernel⟩,
    ⟨{ up with threads := [(1, { Thread.reset with state := .running, pc := 4096, regs := [(1, 9), (2, 0)] }), (9, { Thread.reset with state := .running, pc := 64, eventSrc := 0x7FF1 })], pods := [(0, { Pod.reset with loaded := true })] },
      1, 1, 2, by decide +kernel⟩,
    ⟨{ up with threads := [(0, { Thread.reset with state := .running, pc := 4096, regs := [(1, 9), (2, 8)] }), (9, { Thread.reset with state := .running, pc := 64, eventSrc := 0x11 })], pods := [(0, { Pod.reset with loaded := true })] },
      0, 1, 2, by decide +kernel⟩,
    ⟨{ up with threads := [(1, { Thread.reset with state := .running, pc := 4096, regs := [(1, 9), (2, 8)] }), (9, { Thread.reset with state := .running, pc := 64, eventSrc := 0x11 })], pods := [(0, { Pod.reset with loaded := true })] },
      1, 1, 2, by decide +kernel⟩,
    ⟨{ up with threads := [(1, { Thread.reset with state := .running, pc := 4096, regs := [(1, 432), (2, 8)] }), (9, { Thread.reset with state := .running, pc := 64, eventSrc := 0x11 })], pods := [(0, { Pod.reset with loaded := true })] },
      1, 1, 2, by decide +kernel⟩,
    ⟨s35, 1, 3, 1, 3, 0, by decide +kernel⟩,
    ⟨s35, 1, 3, 1, 3, 0, by decide +kernel⟩,
    ⟨s35, 1, 3, 1, 0xC, 0, by decide +kernel⟩,
    ⟨s26, 1, 3, 1, 0xD, by decide +kernel⟩,
    ⟨{ up with threads := [(1, { Thread.reset with state := .running, pc := 4096, intReturn := 8192 })], pods := [(0, { Pod.reset with loaded := true })] },
      1, by decide +kernel⟩,
    ⟨{ up with threads := [(1, { Thread.reset with state := .running, pc := 4096, breakNop := some 4096 })], pods := [(0, { Pod.reset with loaded := true })] },
      1, by decide +kernel⟩,
    ⟨s26, 1, by decide +kernel⟩,
    ⟨s26, 1, by decide +kernel⟩⟩

theorem witness_FieldAndHashInstructions :
    (∃ (s u v : State) (t rd ra f n : Nat) (pl : Place) (bs : List Byte), s.issues t ∧ n = fieldBytes f ∧
    s.reachField t (s.wreg t ra + BitVec.ofNat 64 (f % 128)).toNat n = .ok pl ∧ s.readPlace t n pl = .done bs u ∧
    u.writePlace t (fieldWrite f bs (u.wreg t rd).toNat) pl = .done v)
    ∧ (∃ s : State, ∃ t : Nat, ∃ rd : Nat, ∃ ra : Nat, ∃ f : Nat, ∃ c : Nat, (s.issues t)
      ∧ let a := (s.wreg t ra + BitVec.ofNat 64 (f % 128)).toNat; (s.reachField t a (fieldBytes f) = .error c))
    ∧ (∃ (f i : Nat) (bs : List Byte), bs.length = fieldBytes f ∧ f < 2 ^ 16 ∧ i < 8 * fieldBytes f
      ∧ (i < fieldBit f ∨ fieldBit f + fieldWidth f ≤ i))
    ∧ (∃ s : State, ∃ t : Nat, ∃ rd : Nat, ∃ ra : Nat, ∃ rb : Nat, (s.issues t)
      ∧ let a := s.wreg t ra; let b := s.wreg t rb; True)
    ∧ (∃ a : Word, (csumFold a = 0)) :=
  ⟨⟨(State.writeBytes ({ up with threads := [(1, { Thread.reset with state := .running, pc := 4096, regs := [(1, 4100), (2, 0xFEDCBA9876543210), (3, 77)] })], pods := [(0, { Pod.reset with loaded := true })] }) (.pod 0) 4101 (toLe 8 0x8899AABBCCDDEEFF)),
      (State.writeBytes ({ up with threads := [(1, { Thread.reset with state := .running, pc := 4096, regs := [(1, 4100), (2, 0xFEDCBA9876543210), (3, 77)] })], pods := [(0, { Pod.reset with loaded := true })] }) (.pod 0) 4101 (toLe 8 0x8899AABBCCDDEEFF)),
      (State.writeBytes (State.writeBytes ({ up with threads := [(1, { Thread.reset with state := .running, pc := 4096, regs := [(1, 4100), (2, 0xFEDCBA9876543210), (3, 77)] })], pods := [(0, { Pod.reset with loaded := true })] }) (.pod 0) 4101 (toLe 8 0x8899AABBCCDDEEFF)) (.pod 0) 4101 (fieldWrite (1 + 3 * 2 ^ 7 + 20 * 2 ^ 10) (State.readBytes (State.writeBytes ({ up with threads := [(1, { Thread.reset with state := .running, pc := 4096, regs := [(1, 4100), (2, 0xFEDCBA9876543210), (3, 77)] })], pods := [(0, { Pod.reset with loaded := true })] }) (.pod 0) 4101 (toLe 8 0x8899AABBCCDDEEFF)) (.pod 0) 4101 3) 77)),
      1, 3, 1, 1 + 3 * 2 ^ 7 + 20 * 2 ^ 10, 3, .memory (.pod 0) 4101,
      State.readBytes (State.writeBytes ({ up with threads := [(1, { Thread.reset with state := .running, pc := 4096, regs := [(1, 4100), (2, 0xFEDCBA9876543210), (3, 77)] })], pods := [(0, { Pod.reset with loaded := true })] }) (.pod 0) 4101 (toLe 8 0x8899AABBCCDDEEFF)) (.pod 0) 4101 3,
      by decide +kernel⟩,
    ⟨{ up with threads := [(1, { Thread.reset with state := .running, pc := 4096, regs := [(1, 0x300000)] })], pods := [(0, { Pod.reset with loaded := true })] },
      1, 3, 1, (1 + 3 * 2 ^ 7 + 20 * 2 ^ 10), fcAccess, by decide +kernel⟩,
    ⟨1 + 3 * 2 ^ 7 + 20 * 2 ^ 10, 2, [1, 2, 3], by decide⟩,
    ⟨(State.writeBytes ({ up with threads := [(1, { Thread.reset with state := .running, pc := 4096, regs := [(1, 4100), (2, 0xFEDCBA9876543210), (3, 77)] })], pods := [(0, { Pod.reset with loaded := true })] }) (.pod 0) 4101 (toLe 8 0x8899AABBCCDDEEFF)),
      1, 3, 1, 2, by decide +kernel⟩,
    ⟨0, by decide +kernel⟩⟩

theorem witness_DecodeEncode :
    (∃ i : Instr, ∃ w : Nat, (i.wf = true) ∧ (encodeWord i = some w))
    ∧ (∃ i : Instr, ∃ t : Nat, ∃ w : Nat, (decodeWord t w = some i)) :=
  ⟨⟨.add 7 1 2 3, 0x00221800, by decide +kernel⟩,
    ⟨.add 7 1 2 3, 7, 0x00221800, by decide +kernel⟩⟩

theorem witness_Microwords :
    (∃ s : State, ∃ die : Nat, ∃ seq : Nat, ∃ n : Nat, ∃ stack : List Nat, (s.live die = true) ∧ (seq < 16)
      ∧ let k := die * 16 + seq; let q := s.seqOf k; let a := s.fetchAddr q; let m := microOf (s.controlWord a); let b := if m.bImm then BitVec.ofNat 64 m.imm else q.mreg m.srcB; (q.state ≠ .outOfService) ∧ (a < 0x4400) ∧ (microLegal (s.controlWord a) = true) ∧ (m.seq ≠ 5) ∧ (m.mem = 0) ∧ (m.io = 0) ∧ (m.target q a (s.seqCond k q m.cond != m.condInv) = some (n, stack)) ∧ (m.safe = true ∨ q.gap < 255))
    ∧ (∃ s : State, ∃ die : Nat, ∃ seq : Nat, (s.live die = true) ∧ (seq < 16)
      ∧ let k := die * 16 + seq; let q := s.seqOf k; let a := s.fetchAddr q; (q.state ≠ .outOfService) ∧ (0x4400 ≤ a))
    ∧ (∃ s : State, ∃ die : Nat, ∃ seq : Nat, (s.live die = true) ∧ (seq < 16)
      ∧ let k := die * 16 + seq; let q := s.seqOf k; let a := s.fetchAddr q; (q.state ≠ .outOfService) ∧ (a < 0x4400) ∧ (microLegal (s.controlWord a) = false))
    ∧ (∃ s : State, ∃ die : Nat, ∃ seq : Nat, (s.live die = true) ∧ (seq < 16)
      ∧ let k := die * 16 + seq; let q := s.seqOf k; let a := s.fetchAddr q; (q.state ≠ .outOfService) ∧ (a < 0x4400) ∧ (microLegal (s.controlWord a) = true) ∧ ((microOf (s.controlWord a)).seq = 5) ∧ (s.seqCond k q (microOf (s.controlWord a)).cond = (microOf (s.controlWord a)).condInv))
    ∧ (∃ a : Word, ∃ b : Word, ∃ sh : Word, (b.toNat < 64))
    ∧ (∃ s : State, ∃ k : Nat, ∃ cause : Nat, ∃ addr : Nat, ((s.seqOf k).current = none))
    ∧ (∃ s : State, ∃ k : Nat, ∃ cause : Nat, ∃ addr : Nat, ((s.seqOf k).current = none))
    ∧ (∃ s : State, ∃ k : Nat, ∃ cause : Nat, ∃ addr : Nat, ((s.seqOf k).current = none) ∧ ∃ d, (d ≠ k))
    ∧ (∃ s : State, ∃ k : Nat, ∃ cause : Nat, ∃ addr : Nat, ((s.seqOf k).current = none))
    ∧ (∃ (s : State) (k n : Nat), (s.seqOf k).current = some n ∧ s.pathOf (k / 16) n = none) :=
  ⟨⟨{ up with seqs := [(3, { Sequencer.reset with state := .running, upc := 0x4000, mregs := [(2, 77)] })], patch := { State.reset.patch with words0 := [0x261000000000000000009c80104044007] } },
      0, 3, 0x4007, [], by decide +kernel⟩,
    ⟨{ up with seqs := [(3, { Sequencer.reset with state := .running, upc := 0x4400 })], patch := { State.reset.patch with words0 := [0x0] } },
      0, 3, by decide +kernel⟩,
    ⟨{ up with seqs := [(3, { Sequencer.reset with state := .running, upc := 0x4000 })], patch := { State.reset.patch with words0 := [0x30000] } },
      0, 3, by decide +kernel⟩,
    ⟨{ up with seqs := [(3, { Sequencer.reset with state := .running, upc := 0x4000 })], patch := { State.reset.patch with words0 := [0x68000] } },
      0, 3, by decide +kernel⟩,
    ⟨0xFFFFFFFF00000001, 3, 5, by decide +kernel⟩,
    ⟨s29, 3, 2, 0x4400, by decide +kernel⟩,
    ⟨s29, 3, 2, 0x4400, by decide +kernel⟩,
    ⟨s29, 3, 2, 0x4400, by decide +kernel, 4, by decide +kernel⟩,
    ⟨s29, 3, 2, 0x4400, by decide +kernel⟩,
    ⟨{ up with seqs := [(3, { Sequencer.reset with current := some 19 })] }, 3, 19, by decide +kernel⟩⟩

theorem witness_SequencerEvents :
    (∃ s : State, ∃ die : Nat, ∃ seq : Nat, (s.live die = true) ∧ (seq < 16)
      ∧ let k := die * 16 + seq; let q := s.seqOf k; (q.state = .waiting) ∧ (q.switch = false) ∧ ∃ n, ∃ rest, (q.updates = n :: rest))
    ∧ (∃ s : State, ∃ die : Nat, ∃ seq : Nat, (s.live die = true) ∧ (seq < 16)
      ∧ let k := die * 16 + seq; let q := s.seqOf k; (q.state = .waiting) ∧ (q.switch = false) ∧ ∃ n, ∃ rest, (q.updates = []) ∧ (q.closes = n :: rest))
    ∧ (∃ s : State, ∃ die : Nat, ∃ seq : Nat, (s.live die = true) ∧ (seq < 16)
      ∧ let k := die * 16 + seq; let q := s.seqOf k; (q.state = .waiting) ∧ (q.switch = false) ∧ ∃ n, ∃ rest, (q.updates = []) ∧ (q.closes = []) ∧ (q.flushes = n :: rest))
    ∧ (∃ s : State, ∃ die : Nat, ∃ seq : Nat, (s.live die = true) ∧ (seq < 16)
      ∧ let k := die * 16 + seq; let q := s.seqOf k; (q.state = .waiting) ∧ (q.switch = false) ∧ (q.updates = []) ∧ (q.closes = []) ∧ (q.flushes = []))
    ∧ (∃ s : State, ∃ die : Nat, ∃ seq : Nat, ((s.seqOf (die * 16 + seq)).state = .running)
      ∧ ((s.seqOf (die * 16 + seq)).safe = false))
    ∧ (∃ s : State, ∃ die : Nat, ∃ seq : Nat, ∃ cause : Nat, ∃ c : Bool, (s.live die = true) ∧ (seq < 16)
      ∧ ((s.seqOf (die * 16 + seq)).state ≠ .outOfService) ∧ (1 ≤ cause) ∧ (cause ≤ 6) ∧ (cause ≠ 4 ∨ c = true))
    ∧ (∃ s : State, ∃ die : Nat, ∃ seq : Nat, (s.live die = true) ∧ (seq < 16)
      ∧ ((s.seqOf (die * 16 + seq)).state ≠ .outOfService) ∧ (s.fetchAddr (s.seqOf (die * 16 + seq)) < 0x4000)
      ∧ ((s.seqOf (die * 16 + seq)).current = none) ∧ ((s.seqOf (die * 16 + seq)).window = none)
      ∧ (s.contextsOf die seq = []) ∧ (s.patch.target = none))
    ∧ (∃ s : State, ∃ die : Nat, ∃ context : Nat, (s.live die = true) ∧ (2 ≤ s.dramOf die) ∧ (context < 262144)
      ∧ let k := die * 16 + context % 16; ((s.seqOf k).state ≠ .outOfService) ∧ ((s.seqOf k).cache.contains context = false))
    ∧ (∃ s : State, ∃ die : Nat, ∃ context : Nat, ∃ frame : List Byte, (s.live die = true) ∧ (context < 262144)
      ∧ (2 ≤ s.dramOf die)
      ∧ let k := die * 16 + context % 16; ((s.context (die * 262144 + context)).state = 1) ∧ ((s.seqOf k).input.length < 4096))
    ∧ (∃ s : State, ∃ die : Nat, ∃ context : Nat, ∃ frame : List Byte, (s.live die = true) ∧ (context < 262144)
      ∧ (2 ≤ s.dramOf die) ∧ let k := die * 16 + context % 16; ((s.context (die * 262144 + context)).state = 4)) :=
  ⟨⟨{ up with seqs := [(3, { Sequencer.reset with state := .waiting, upc := 0x4000, updates := [19] })], patch := { State.reset.patch with words0 := [0x0] } },
      0, 3, by decide +kernel, by decide +kernel, by decide +kernel, by decide +kernel, 19, [], by decide +kernel⟩,
    ⟨{ up with seqs := [(3, { Sequencer.reset with state := .waiting, upc := 0x4000, closes := [19] })], patch := { State.reset.patch with words0 := [0x0] }, contexts := [(19, { Context.reset with kind := 3, state := 1, owner := pf0 0 })] },
      0, 3, by decide +kernel, by decide +kernel, by decide +kernel, by decide +kernel, 19, [], by decide +kernel⟩,
    ⟨{ up with seqs := [(3, { Sequencer.reset with state := .waiting, upc := 0x4000, flushes := [19] })], patch := { State.reset.patch with words0 := [0x0] } },
      0, 3, by decide +kernel, by decide +kernel, by decide +kernel, by decide +kernel, 19, [], by decide +kernel⟩,
    ⟨{ up with seqs := [(3, { Sequencer.reset with state := .waiting, upc := 0x4000 })], patch := { State.reset.patch with words0 := [0x0] } },
      0, 3, by decide +kernel⟩,
    ⟨{ up with seqs := [(3, { Sequencer.reset with state := .running, upc := 0x4000, safe := false })], patch := { State.reset.patch with words0 := [0x0] } },
      0, 3, by decide +kernel⟩,
    ⟨s29, 0, 3, 6, false, by decide +kernel⟩,
    ⟨{ up with seqs := [(3, { Sequencer.reset with state := .running, upc := 7 })], patch := { State.reset.patch with words0 := [0x0] } },
      0, 3, by decide +kernel⟩,
    ⟨{ up with seqs := [(3, { Sequencer.reset with state := .running, upc := 0x4000, cache := (List.range 64).map (fun n => 16 * n + 1603) })], patch := { State.reset.patch with words0 := [0x0] } }, 0, 19, by decide +kernel⟩,
    ⟨s50, 0, 19, List.replicate 70 0, by decide +kernel⟩,
    ⟨{ up with seqs := [(3, { Sequencer.reset with state := .running, upc := 0x4000 })], patch := { State.reset.patch with words0 := [0x0] }, contexts := [(19, { Context.reset with kind := 3, state := 4, owner := pf0 0 })] },
      0, 19, List.replicate 70 0, by decide +kernel⟩⟩

theorem witness_ContextCommands :
    (∃ s : State, ∃ p : Packet, ∃ i : Nat, (s.takesRecorded (p.of 0x8A01)) ∧ (p.paramLen = 64) ∧ (leAt p.params 1 1 = 0)
      ∧ (leAt p.params 2 1 = 3 ∨ leAt p.params 2 1 = 4) ∧ (leAt p.params 4 4 = 0xFFFFFFFF)
      ∧ (s.dieStatus (leAt p.params 0 1) = none) ∧ (contextBad p.params = false)
      ∧ (s.newContext (leAt p.params 0 1) = some i)
      ∧ (s.channelServes (leAt p.params 0 1) (leAt p.params 0x0A 2) (i % 16) = true))
    ∧ (∃ s : State, ∃ p : Packet, (s.takesRecorded (p.of 0x8A01)) ∧ (p.paramLen = 64) ∧ (leAt p.params 1 1 = 1)
      ∧ (leAt p.params 2 1 = 3 ∨ leAt p.params 2 1 = 4) ∧ (leAt p.params 4 4 < 262144)
      ∧ (s.dieStatus (leAt p.params 0 1) = none)
      ∧ let die := leAt p.params 0 1; let n := leAt p.params 4 4; let c := s.context (die * 262144 + n); (c.kind = 3 ∨ c.kind = 4) ∧ (c.state = 1) ∧ (p.sender = c.owner) ∧ ((s.seqOf (die * 16 + n % 16)).closes.contains n = false))
    ∧ (∃ s : State, ∃ p : Packet, (s.takesRecorded (p.of 0x8A01)) ∧ (p.paramLen = 64) ∧ (leAt p.params 1 1 ≤ 1)
      ∧ (leAt p.params 2 1 = 1 ∨ leAt p.params 2 1 = 2) ∧ (leAt p.params 4 4 < 262144)
      ∧ (s.dieStatus (leAt p.params 0 1) = none))
    ∧ (∃ s : State, ∃ p : Packet, (s.takes (p.of 0x0A01)) ∧ (p.paramLen = 8) ∧ (leAt p.params 2 2 = 0)
      ∧ (s.dieStatus (leAt p.params 0 1) = none)
      ∧ let die := leAt p.params 0 1; let n := leAt p.params 4 4; (leAt p.params 1 1 = 0) ∧ (n < 16))
    ∧ (∃ s : State, ∃ p : Packet, (s.takes (p.of 0x0A01)) ∧ (p.paramLen = 8) ∧ (leAt p.params 2 2 = 0)
      ∧ (s.dieStatus (leAt p.params 0 1) = none)
      ∧ let die := leAt p.params 0 1; let n := leAt p.params 4 4; (leAt p.params 1 1 = 1) ∧ (n < 262144) ∧ ((s.seqOf (die * 16 + n % 16)).cache.contains n = false)) :=
  ⟨⟨{ up with tempo := up.tempo, chans := [(6, { Channel.reset with enable := true, writer := seqId 0 }), (7, { Channel.reset with enable := true, reader := seqId 0 })] },
      pk 0x8A01 (by8 [0,0,3,0] ++ toLe 4 0xFFFFFFFF ++ toLe 2 0 ++ toLe 2 6 ++ toLe 2 100 ++ toLe 2 4791 ++ toLe 4 7 ++ toLe 8 0 ++ toLe 4 55 ++ toLe 32 0),
      0, by decide +kernel⟩,
    ⟨s50,
      pk 0x8A01 (by8 [0,1,3,0] ++ toLe 4 19 ++ toLe 2 0 ++ toLe 2 6 ++ toLe 2 100 ++ toLe 2 4791 ++ toLe 4 7 ++ toLe 8 0 ++ toLe 4 55 ++ toLe 32 0),
      by decide +kernel⟩,
    ⟨up,
      pk 0x8A01 (by8 [0,1,1,0] ++ toLe 4 19 ++ toLe 2 0 ++ toLe 2 6 ++ toLe 2 100 ++ toLe 2 4791 ++ toLe 4 7 ++ toLe 8 0 ++ toLe 4 55 ++ toLe 32 0),
      by decide +kernel⟩,
    ⟨s50, pk 0x0A01 (by8 [0,0,0,0] ++ toLe 4 15), by decide +kernel⟩,
    ⟨s50, pk 0x0A01 (by8 [0,1,0,0] ++ toLe 4 19), by decide +kernel⟩⟩

theorem witness_ErrorRecords :
    (∃ s : State, ∃ p : Packet, (s.takesRecorded (p.of 0x0D01)) ∧ (p.paramLen = 8)
      ∧ let n := leAt p.params 0 8; (s.errors.next ≤ n))
    ∧ (∃ s : State, ∃ p : Packet, (s.takesRecorded (p.of 0x0D01)) ∧ (p.paramLen = 8)
      ∧ let n := leAt p.params 0 8; (n < s.errors.next) ∧ (n < s.errors.first))
    ∧ (∃ s : State, ∃ p : Packet, (s.takesRecorded (p.of 0x0D01)) ∧ (p.paramLen = 8)
      ∧ let n := leAt p.params 0 8; (n < s.errors.next) ∧ (s.errors.first ≤ n))
    ∧ (∃ s : State, ∃ p : Packet, (s.takes (p.of 0x0D03)) ∧ (p.paramLen = 12) ∧ (1 ≤ leAt p.params 8 1)
      ∧ (leAt p.params 8 1 ≤ 14) ∧ (leAt p.params 9 1 ≤ 4) ∧ (leAt p.params 0x0A 2 = 0))
    ∧ (∃ s : State, ∃ l : Latched, (s.ready = true) ∧ (s.leadGone = false) ∧ (s.errors.latched = [l])
      ∧ (s.errors.handling = []) ∧ ((s.errors.settle l.time).openIn l = none)
      ∧ (s.errors.held < recordLimit l.severity l.recordOnly))
    ∧ (∃ s : State, ∃ l : Latched, ∃ r : ErrRecord, (s.ready = true) ∧ (s.leadGone = false) ∧ (s.errors.latched = [l])
      ∧ (s.errors.handling = []) ∧ ((s.errors.settle l.time).openIn l = some r))
    ∧ (∃ s : State, ∃ l : Latched, (s.ready = true) ∧ (s.leadGone = false) ∧ (s.errors.latched = [l])
      ∧ (s.errors.handling = []) ∧ ((s.errors.settle l.time).openIn l = none)
      ∧ (recordLimit l.severity l.recordOnly ≤ s.errors.held))
    ∧ (∃ s : State, ∃ k : Nat, (s.ready = true) ∧ (s.leadGone = false) ∧ (s.errors.handling = [k]))
    ∧ (∃ l : List Latched, ∃ x : Latched, (nextLatched l = some x))
    ∧ (∃ l : List Latched, ∃ x : Latched, (nextLatched l = some x) ∧ ∃ y, (y ∈ l)) :=
  ⟨⟨s67, pk 0x0D01 (toLe 8 7), by decide +kernel⟩,
    ⟨s67, pk 0x0D01 (toLe 8 4), by decide +kernel⟩,
    ⟨s67, pk 0x0D01 (toLe 8 6), by decide +kernel⟩,
    ⟨s67, pk 0x0D03 (toLe 8 6 ++ by8 [14,4,0,0]), by decide +kernel⟩,
    ⟨{ up with errors := { Errors.reset with records := [({ ersn := 6, timeFirst := 1, timeLast := 1, count := 3, severity := 1, isOpen := true, handled := true, preempted := false, injected := false, signalled := false, cause := 0x0603, subject := 0, die := 0, unit := 5, detailA := 9, detailB := 0, bootId := 0 } : ErrRecord)], first := 5, next := 7, latched := [v41] } },
      v41, by decide +kernel⟩,
    ⟨{ up with errors := { Errors.reset with records := [({ ersn := 6, timeFirst := 1, timeLast := 1, count := 3, severity := 1, isOpen := true, handled := true, preempted := false, injected := false, signalled := false, cause := 0x0603, subject := 0, die := 0, unit := 5, detailA := 9, detailB := 0, bootId := 0 } : ErrRecord)], first := 5, next := 7, latched := [({ cause := 0x0603, severity := 1, subject := 0, die := 0, unit := 5, detailA := 9, detailB := 0, injected := false, recordOnly := false, time := 5, timeLast := 5, repeats := 2 } : Latched)] } },
      ({ cause := 0x0603, severity := 1, subject := 0, die := 0, unit := 5, detailA := 9, detailB := 0, injected := false, recordOnly := false, time := 5, timeLast := 5, repeats := 2 } : Latched),
      ({ ersn := 6, timeFirst := 1, timeLast := 1, count := 3, severity := 1, isOpen := true, handled := true, preempted := false, injected := false, signalled := false, cause := 0x0603, subject := 0, die := 0, unit := 5, detailA := 9, detailB := 0, bootId := 0 } : ErrRecord),
      by decide +kernel⟩,
    ⟨{ up with errors := { Errors.reset with records := [({ ersn := 6, timeFirst := 1, timeLast := 1, count := 3, severity := 1, isOpen := true, handled := true, preempted := false, injected := false, signalled := false, cause := 0x0603, subject := 0, die := 0, unit := 5, detailA := 9, detailB := 0, bootId := 0 } : ErrRecord)], first := 5, next := 5 + 4032, latched := [v41] } },
      v41, by decide +kernel⟩,
    ⟨{ up with errors := { Errors.reset with records := [({ ersn := 6, timeFirst := 1, timeLast := 1, count := 3, severity := 1, isOpen := true, handled := true, preempted := false, injected := false, signalled := false, cause := 0x0603, subject := 0, die := 0, unit := 5, detailA := 9, detailB := 0, bootId := 0 } : ErrRecord)], first := 5, next := 7, handling := [6] } },
      6, by decide +kernel⟩,
    ⟨v66, v42, by decide +kernel⟩,
    ⟨v66, v42, by decide +kernel, v41, by decide +kernel⟩⟩

theorem witness_MemoryErrors :
    (∃ s : State, ∃ die : Nat, ∃ bank : Nat, ∃ row : Nat, (s.live die = true) ∧ (bank < 32)
      ∧ (row ∉ (s.sramBank (die * 32 + bank)).suspects) ∧ (row ∉ (s.sramBank (die * 32 + bank)).lastPass))
    ∧ (∃ s : State, ∃ die : Nat, ∃ bank : Nat, ∃ row : Nat, (s.live die = true) ∧ (bank < 32) ∧ (24 ≤ bank) ∧ (bank < 28))
    ∧ (∃ s : State, ∃ die : Nat, ∃ bank : Nat, ∃ row : Nat, (s.live die = true) ∧ (bank < 32)
      ∧ (row ∈ (s.sramBank (die * 32 + bank)).faulty) ∧ ((s.sramBank (die * 32 + bank)).sparesUsed < 15))
    ∧ (∃ s : State, ∃ die : Nat, ∃ bank : Nat, ∃ row : Nat, (row ∉ (s.sramBank (die * 32 + bank)).faulty))
    ∧ (∃ s : State, ∃ die : Nat, ∃ sub : Nat, ∃ device : Nat, ∃ line : Nat, (s.live die = true) ∧ (sub < 4) ∧ (device < 5)
      ∧ ((s.dramMark (die * 4 + sub)).marked = true) ∧ ((s.dramMark (die * 4 + sub)).device = device))
    ∧ (∃ s : State, ∃ die : Nat, ∃ sub : Nat, ∃ device : Nat, ∃ line : Nat, (s.live die = true) ∧ (sub < 4) ∧ (device < 5)
      ∧ ((s.dramMark (die * 4 + sub)).marked = false) ∧ ((s.dramMark (die * 4 + sub)).recent = []))
    ∧ (∃ s : State, ∃ die : Nat, ∃ sub : Nat, ∃ device : Nat, ∃ line : Nat, (s.live die = true) ∧ (sub < 4) ∧ (device < 5)
      ∧ (line ∉ (s.dramMark (die * 4 + sub)).badLines))
    ∧ (∃ s : State, ∃ die : Nat, (s.live die = true)) :=
  ⟨⟨s04, 0, 27, 9, by decide +kernel⟩,
    ⟨s04, 0, 27, 9, by decide +kernel⟩,
    ⟨{ up with sram := [(27, { SramBank.reset with faulty := [4, 9], sparesUsed := 14, suspects := [9] })] }, 0, 27, 9,
      by decide +kernel⟩,
    ⟨s04, 0, 27, 9, by decide +kernel⟩,
    ⟨{ up with dram := [(3, { DramMark.reset with marked := true, device := 4 })] }, 0, 3, 4, 77, by decide +kernel⟩,
    ⟨s03, 0, 3, 4, 77, by decide +kernel⟩,
    ⟨s03, 0, 3, 4, 77, by decide +kernel⟩,
    ⟨s04, 0, by decide +kernel⟩⟩

theorem witness_InjectionAndLedgers :
    (∃ s : State, ∃ p : Packet, ∃ sev : Nat, (s.takesRecorded (p.of 0x8D01)) ∧ (p.paramLen = 16) ∧ (leAt p.params 3 1 = 1)
      ∧ (causeSeverity (leAt p.params 0 2) = some sev) ∧ (s.dieStatus (leAt p.params 2 1) = none)
      ∧ (s.errors.records = []) ∧ (s.errors.held < recordLimit sev true))
    ∧ (∃ s : State, ∃ u : State, ∃ p : Packet, ∃ sev : Nat, (s.takesRecorded (p.of 0x8D01)) ∧ (p.paramLen = 16)
      ∧ (leAt p.params 3 1 = 0) ∧ (causeSeverity (leAt p.params 0 2) = some sev)
      ∧ (s.dieStatus (leAt p.params 2 1) = none) ∧ (leAt p.params 0 2 ∈ plantable) ∧ (leAt p.params 0 2 ≠ 0x0A01)
      ∧ (s.plant (leAt p.params 0 2) (leAt p.params 2 1) (leAt p.params 4 4) (leAt p.params 8 8) = some u)
      ∧ (u.journal = s.journal) ∧ (u.tempo = s.tempo))
    ∧ (∃ s : State, ∃ p : Packet, (s.takesRecorded (p.of 0x8D01)) ∧ (p.paramLen = 16)
      ∧ (causeSeverity (leAt p.params 0 2) = none))
    ∧ (∃ s : State, ∃ die : Nat, (s.live die = true) ∧ ((∀ n, 1 ≤ n → n ≤ 10 → ∀ l ∈ s.ledgerLines die n, l.good = true))
      ∧ (s.cellsBalance die) ∧ ((s.ledger die).strayCells = 0) ∧ ((s.ledger die).strayTick = 0)
      ∧ let at_ := (s.ledger die).auditTick; (at_ + 100 * ticksPerMs ≤ s.dieTick die ∨ (at_ + 10 * ticksPerMs ≤ s.dieTick die ∧ s.firmwareIdle die = true)))
    ∧ (∃ s : State, ∃ die : Nat,
      (s.dieTick die < (s.ledger die).auditTick + 10 * ticksPerMs ∨ (s.dieTick die < (s.ledger die).auditTick + 100 * ticksPerMs
      ∧ s.firmwareIdle die = false)))
    ∧ (∃ s : State, ∃ p : Packet, ∃ die : Nat, (s.takesRecorded (p.of 0x0D02)) ∧ (p.paramLen = 8) ∧ (leAt p.params 1 3 = 0)
      ∧ (leAt p.params 4 4 = 8) ∧ (s.roles.filled = true) ∧ (s.diesStatus (leAt p.params 0 1) = none)
      ∧ (s.namedDies (leAt p.params 0 1) = [die]) ∧ (¬ s.cellsBalance die)) :=
  ⟨⟨s13, pk 0x8D01 (toLe 2 0x0604 ++ by8 [0, 1] ++ toLe 4 5 ++ toLe 8 9), sevContained, by decide +kernel⟩,
    ⟨up, (State.plant up 0x0801 0 27 9).getD up, pk 0x8D01 (toLe 2 0x0801 ++ by8 [0, 0] ++ toLe 4 27 ++ toLe 8 9),
      sevCorrected, by decide +kernel⟩,
    ⟨s13, pk 0x8D01 (toLe 2 0x7777 ++ toLe 14 0), by decide +kernel⟩,
    ⟨{ up with times := [(0, { DieTime.reset with tick := 160000000 })] }, 0, by decide +kernel⟩,
    ⟨up, 0, by decide +kernel⟩,
    ⟨{ up with tms := [(1, { Tm.reset with free := 7 })] }, pk 0x0D02 (by8 [2,0,0,0] ++ toLe 4 8), 1, by decide +kernel⟩⟩

theorem witness_DieHealthEvents :
    (∃ s : State, ∃ die : Nat, ∃ alive : Nat, (s.live die = true))
    ∧ (∃ s : State, ∃ die : Nat, ∃ alive : Nat, (s.live die = true) ∧ (alive ≠ 0))
    ∧ (∃ s : State, ∃ die : Nat, ∃ alive : Nat, (s.live die = true) ∧ (alive = 0) ∧ ((s.dieHealth die).aliveMisses < 4))
    ∧ (∃ s : State, ∃ die : Nat, ∃ alive : Nat, (s.live die = true) ∧ (alive = 0) ∧ ((s.dieHealth die).aliveMisses = 4)
      ∧ ((s.dieHealth die).condemned = none))
    ∧ (∃ s : State, ∃ die : Nat, (s.live die = true) ∧ ((s.dieHealth die).condemned = none)
      ∧ (5 ≤ (s.dieHealth die).aliveMisses ∨ (s.dieHealth die).beatTick + 100 * ticksPerUs ≤ s.watchTick die))
    ∧ (∃ s : State, ∃ die : Nat, (s.live die = true) ∧ ((s.dieHealth die).condemned = none)
      ∧ ((s.dieHealth die).aliveMisses < 5) ∧ (s.watchTick die < (s.dieHealth die).beatTick + 100 * ticksPerUs))
    ∧ (∃ s : State, ∃ die : Nat, (s.live die = true) ∧ ((s.dieHealth die).otherPllLost = false))
    ∧ (∃ s : State, ∃ die : Nat, (s.live die = true) ∧ ((s.dieHealth die).otherPllLost = true))
    ∧ (∃ s : State, ∃ die : Nat, (s.dieWorks die = true))
    ∧ (∃ s : State, ∃ die : Nat, (s.live die = true) ∧ ((s.dieHealth die).pairRestarting = false)
      ∧ ((s.dieHealth die).pairRestartTick = none))
    ∧ (∃ s : State, ∃ die : Nat, ∃ u : Nat, (s.live die = true) ∧ ((s.dieHealth die).pairRestarting = false)
      ∧ ((s.dieHealth die).pairRestartTick = some u) ∧ (s.tickAt die < u + ticksPerSec))
    ∧ (∃ s : State, ∃ die : Nat, (s.live die = true) ∧ ((s.dieHealth die).pairRestarting = true) ∧ (s.fnMbx = [])
      ∧ (s.agentMbx = []))
    ∧ (∃ s : State, ∃ die : Nat, ∃ dim : Nat, (s.ready = true) ∧ (s.dunythUp die dim = true))
    ∧ (∃ s : State, ∃ die : Nat, ∃ dim : Nat, (s.dunythUp die dim = false))
    ∧ (∃ s : State, ∃ die : Nat, ∃ dim : Nat, (s.fabric = []))
    ∧ (∃ s : State, ∃ n : Nat, (s.isolated = none)) :=
  ⟨⟨s06, 0, 1, by decide +kernel⟩,
    ⟨s06, 0, 1, by decide +kernel⟩,
    ⟨s06, 0, 0, by decide +kernel⟩,
    ⟨s07, 0, 0, by decide +kernel⟩,
    ⟨{ up with health := [(0, { DieHealth.reset with aliveMisses := 5 })] }, 0, by decide +kernel⟩,
    ⟨s07, 0, by decide +kernel⟩,
    ⟨s06, 0, by decide +kernel⟩,
    ⟨{ up with health := [(0, { DieHealth.reset with otherPllLost := true })] }, 0, by decide +kernel⟩,
    ⟨s06, 0, by decide +kernel⟩,
    ⟨s06, 0, by decide +kernel⟩,
    ⟨{ up with health := [(0, { DieHealth.reset with pairRestartTick := some 0 })] }, 0, 0, by decide +kernel⟩,
    ⟨s12, 0, by decide +kernel⟩,
    ⟨s06, 0, 0, by decide +kernel⟩,
    ⟨up, 1, 7, by decide +kernel⟩,
    ⟨s06, 0, 0, by decide +kernel⟩,
    ⟨s06, 8, by decide +kernel⟩⟩

theorem witness_Failover :
    (∃ s : State, ∃ die : Nat, ∃ reason : Nat, (s.live die = true))
    ∧ (∃ s : State, ∃ die : Nat, ∃ reason : Nat, (s.live die = true))
    ∧ (∃ s : State, ∃ die : Nat, ∃ reason : Nat, (s.live die = true) ∧ ∃ d, (d ≠ die))
    ∧ (∃ s : State, ∃ die : Nat, ∃ reason : Nat, (s.live die = true) ∧ ∃ k, (threadDie k = die))
    ∧ (∃ s : State, ∃ die : Nat, ∃ reason : Nat, (s.live die = true))
    ∧ (∃ s : State, ∃ die : Nat, ∃ reason : Nat, (s.live die = true) ∧ ∃ x, (x ∈ (s.removeOne die reason).workingDies))
    ∧ (∃ s : State, (s.ready = true) ∧ (s.leadGone = true) ∧ (s.dieWorks s.roles.mirror = true) ∧ (s.tempo.inProgress = none)
      ∧ let u := ({ s with journal := { s.journal with entries := s.journal.copy, waiting := [], buffered := [] }, patch := { s.patch with waiting := s.patch.waiting.map Packet.unanswered } } : State).takeLead s.roles.mirror; True)
    ∧ (∃ s : State, ∃ lead : Nat, (s.dieWorks (lead ^^^ 1) = true))
    ∧ (∃ s : State, ∃ lead : Nat, (s.dieWorks (lead ^^^ 1) = false) ∧ (s.workingDies.filter (fun d => d != lead) = []))
    ∧ (∃ (s : State) (lead d x : Nat), s.dieWorks (lead ^^^ 1) = false ∧ s.mirrorFor lead = d ∧ d ≠ lead ∧ s.dieWorks x = true
      ∧ x ≠ lead)
    ∧ (∃ s : State, s.live s.roles.lead = true ∧ s.dieWorks s.roles.mirror = true ∧ s.roles.mirror ≠ s.roles.lead
    ∧ (s.dieHealth s.roles.mirror).aliveMisses < 5 ∧ (s.dieHealth s.roles.mirror).beatTick + 100 * ticksPerUs ≤ s.dieTick s.roles.lead)
    ∧ (∃ s : State, (s.live s.roles.lead = true) ∧ (s.roles.moveTo = none))
    ∧ (∃ s : State, ∃ d : Nat, (s.live s.roles.lead = true) ∧ (s.roles.moveTo = some d)) :=
  ⟨⟨s10, 1, 3, by decide +kernel⟩,
    ⟨s10, 1, 3, by decide +kernel⟩,
    ⟨s10, 1, 3, by decide +kernel, 0, by decide +kernel⟩,
    ⟨s10, 1, 3, by decide +kernel, 500, by decide +kernel⟩,
    ⟨s10, 1, 3, by decide +kernel⟩,
    ⟨s10, 1, 3, by decide +kernel, 0, by decide +kernel⟩,
    ⟨{ up with roles := { State.reset.roles with failed := 1, lead := 0, mirror := 1 } }, by decide +kernel⟩,
    ⟨s10, 0, by decide +kernel⟩,
    ⟨{ up with roles := { State.reset.roles with failed := 254 } }, 0, by decide +kernel⟩,
    ⟨{ up with roles := { State.reset.roles with failed := 2 } }, 0, 2, 3, by decide +kernel⟩,
    ⟨{ up with times := [(0, { DieTime.reset with tick := 10 ^ 6 })] }, by decide +kernel⟩,
    ⟨up, by decide +kernel⟩,
    ⟨{ up with roles := { State.reset.roles with moveTo := some 1 } }, 1, by decide +kernel⟩⟩

theorem witness_RegisterWrites :
    (∃ s : State, ∃ fn : Nat, ∃ off : Nat, ∃ size : Nat, ∃ v : Nat, (mClass fn = 0) ∧ (isThreadId fn = false)
      ∧ (size % 4 ≠ 0 ∨ off % 4 ≠ 0 ∨ s.writeReach fn off = false))
    ∧ (∃ s : State, ∃ fn : Nat, ∃ off : Nat, ∃ v : Nat, (mClass fn = 0) ∧ (isThreadId fn = false) ∧ (off % 4 = 0)
      ∧ (s.writeReach fn off = true))
    ∧ (∃ s : State, ∃ fn : Nat, ∃ off : Nat, ∃ v : Nat, (mClass fn = 0) ∧ (isThreadId fn = false) ∧ (off % 4 = 0)
      ∧ (s.writeReach fn off = true) ∧ (oneRegister fn off = false))
    ∧ (∃ s : State, ∃ die : Nat, ∃ v : Nat, (die < 8) ∧ (v < 2 ^ 32))
    ∧ (∃ s : State, ∃ fn : Nat, ∃ q : Nat, ∃ v : Nat, (fnVf fn ≠ 0) ∧ (fnPf fn = 0) ∧ (q < 256))
    ∧ (∃ s : State, ∃ die : Nat, ∃ v : Nat, (die < 8))
    ∧ (∃ s : State, ∃ fn : Nat, ∃ v : Nat, (fnPf fn = 1))
    ∧ (∃ s : State, ∃ t : Nat, ∃ a : Nat, ∃ n : Nat, ∃ v : Nat, (t < 3456) ∧ (t % 72 < 64) ∧ (s.live (threadDie t) = true)
      ∧ (a % 4 ≠ 0) ∧ (n = 4))
    ∧ (∃ s : State, ∃ k : Nat, ∃ v : Nat, ∃ c : Nat, (k < 128) ∧ (s.live (k / 16) = true) ∧ (c < 64)
      ∧ ((s.dmaCh (dmaKey (k / 16) c)).binder = .sequencer k)) :=
  ⟨⟨up, fnId 0 0 5, 3, 4, 0x12345678, by decide +kernel⟩,
    ⟨up, pf0 0, 0x10208, 0x123456789A, by decide +kernel⟩,
    ⟨up, pf0 0, 0x10208, 0x123456789A, by decide +kernel⟩,
    ⟨up, 1, 0x12345678, by decide +kernel⟩,
    ⟨up, fnId 0 0 5, 200, 0x12345678, by decide +kernel⟩,
    ⟨up, 1, 0x12345678, by decide +kernel⟩,
    ⟨up, fnId 0 1 0, 0x12345678, by decide +kernel⟩,
    ⟨s26, 1, 0x1000002, 4, 0x12345678, by decide +kernel⟩,
    ⟨{ up with channels := [(48, { DmaChannel.reset with binder := .sequencer 3 })] }, 3, 0x12345678, 48, by decide +kernel⟩⟩

theorem witness_ClearingReads :
    (∃ s : State, ∃ fn : Nat, ∃ off : Nat, ∃ n : Nat, (mClass fn = 0) ∧ (s.writeReach fn off = true))
    ∧ (∃ s : State, ∃ fn : Nat, ∃ off : Nat, ∃ n : Nat, (mClass fn = 0) ∧ (s.writeReach fn off = false) ∧ (s.ready = true)
      ∧ (s.configReach fn = true) ∧ ((s.link (mDie fn)).frozen = true))
    ∧ (∃ s : State, ∃ fn : Nat, ∃ off : Nat, ∃ n : Nat, (mClass fn = 0) ∧ (s.writeReach fn off = false)
      ∧ (s.ready = false ∨ s.configReach fn = false ∨ (s.link (mDie fn)).frozen = false))
    ∧ (∃ s : State, ∃ fn : Nat, ∃ off : Nat, ∃ n : Nat, (off % 8 + n ≤ 8))
    ∧ (∃ s : State, ∃ fn : Nat, ∃ off : Nat, ∃ n : Nat, (8 < off % 8 + n))
    ∧ (∃ s : State, ∃ die : Nat, (die < 8))
    ∧ (∃ s : State, ∃ die : Nat, (die < 8))
    ∧ (∃ s : State, ∃ die : Nat, (die < 8))
    ∧ (∃ s : State, ∃ die : Nat, (die < 8))
    ∧ (∃ s : State, ∃ die : Nat, (die < 8))
    ∧ (∃ s : State, ∃ die : Nat, (die < 8))
    ∧ (∃ s : State, ∃ die : Nat, (die < 8))
    ∧ (∃ s : State, ∃ die : Nat, (die < 8))
    ∧ (∃ s : State, ∃ die : Nat, (die < 8))
    ∧ (∃ s : State, ∃ die : Nat, (die < 8))
    ∧ (∃ s : State, ∃ die : Nat, (die < 8) ∧ ∃ i, (0x180 + 8 * i ≠ 0x190) ∧ (i < 8))
    ∧ (∃ s : State, ∃ die : Nat, ∃ i : Nat, ∃ n : Nat, ∃ e : JEntry, (die < 8) ∧ (i < 8) ∧ (n < 65536)
      ∧ (s.journal.entries.find? (fun x => x.jsn % 65536 == n) = some e))
    ∧ (∃ s : State, ∃ die : Nat, ∃ n : Nat, (die < 8) ∧ (n < 1048576)
      ∧ let pair := 1048576 * (s.link die).winCounterPage + n; let a := Tbl.look (0, 0) (s.pipe die).counters pair; let b := Tbl.look (0, 0) (s.pipe die).counterCache pair; (s.dramOf die ≠ 0))
    ∧ (∃ s : State, ∃ die : Nat, ∃ n : Nat, (die < 8) ∧ (n < 1048576)
      ∧ let pair := 1048576 * (s.link die).winCounterPage + n; let a := Tbl.look (0, 0) (s.pipe die).counters pair; let b := Tbl.look (0, 0) (s.pipe die).counterCache pair; (s.dramOf die = 0))
    ∧ (∃ s : State, ∃ die : Nat, ∃ n : Nat, (die < 8) ∧ (n = 1 ∨ n = 2 ∨ n = 4))
    ∧ (∃ s : State, ∃ fn : Nat, (fnPf fn = 0) ∧ (fnVf fn ≠ 0)) :=
  ⟨⟨s72, fnId 0 0 5, 0x30000, 8, by decide +kernel⟩,
    ⟨{ up with links := [(0, { Link.reset with speed := 6, width := 16, lateCpl := 5, containedDrops := 6 }), (1, { Link.reset with speed := 6, width := 16, frozen := true })] },
      pf0 1, 0x30000, 8, by decide +kernel⟩,
    ⟨{ up with links := [] }, pf0 1, 0x30000, 8, by decide +kernel⟩,
    ⟨up, pf0 0, 3, 5, by decide +kernel⟩,
    ⟨up, pf0 0, 3, 6, by decide +kernel⟩,
    ⟨up, 7, by decide +kernel⟩,
    ⟨up, 7, by decide +kernel⟩,
    ⟨up, 7, by decide +kernel⟩,
    ⟨up, 7, by decide +kernel⟩,
    ⟨up, 7, by decide +kernel⟩,
    ⟨up, 7, by decide +kernel⟩,
    ⟨up, 7, by decide +kernel⟩,
    ⟨up, 7, by decide +kernel⟩,
    ⟨up, 7, by decide +kernel⟩,
    ⟨up, 7, by decide +kernel⟩,
    ⟨up, 7, by decide +kernel, 0, by decide +kernel⟩,
    ⟨{ up with journal := { Journal.reset with entries := [{ jsn := 65536 + 7, token := 0, master := 0, status := 0, opcode := 0, txn := 0, tempo := 0, bootId := 0, time := 0, digest := 0, resultWord := 5 }] } },
      7, 7, 7,
      { jsn := 65536 + 7, token := 0, master := 0, status := 0, opcode := 0, txn := 0, tempo := 0, bootId := 0, time := 0, digest := 0, resultWord := 5 },
      by decide +kernel⟩,
    ⟨up, 7, 1048575, by decide +kernel⟩,
    ⟨{ up with boot := { up.boot with dramGib := [(7, 0)] } }, 7, 1048575, by decide +kernel⟩,
    ⟨up, 7, 4, by decide +kernel⟩,
    ⟨s72, fnId 0 0 5, by decide +kernel⟩⟩

theorem witness_CellLedger :
    ∃ s : State, ∃ t : State, ∃ c : Instr, ∃ rest : List Instr, ∃ d : Nat, (s.pending = c :: rest) ∧ (podCommand c = true)
      ∧ (s.cellsBalance d) ∧ (step s = .next t) :=
  ⟨{ up with pending := [.pktViewOpen 1 1 7] },
      ((State.setThread up 1 ((up.thread 1).setView 1 { (up.thread 1).view 1 with notOwned := true }))),
      .pktViewOpen 1 1 7, [], 0, by (repeat' apply And.intro) <;> first | decide +kernel | rfl | trivial | simp⟩

theorem witness_MemoryStores :
    (∃ s : State, ∃ t : State, ∃ th : Nat, ∃ ra : Nat, ∃ rb : Nat, ∃ imm : Nat, ∃ n : Nat, ∃ r : Region, ∃ off : Nat,
      ∃ i : Instr, (s.issues th) ∧ (i = .st8 th ra rb imm ∧ n = 1 ∨ i = .st16 th ra rb imm
      ∧ n = 2 ∨ i = .st32 th ra rb imm ∧ n = 4 ∨ i = .st64 th ra rb imm ∧ n = 8) ∧ (effAddr (s.wreg th ra) imm % n = 0)
      ∧ (s.reach th (effAddr (s.wreg th ra) imm) n = .ok (.memory r off)) ∧ (exec i s = .next t))
    ∧ (∃ s : State, ∃ t : State, ∃ th : Nat, ∃ ra : Nat, ∃ rb : Nat, ∃ imm : Nat, ∃ n : Nat, ∃ r : Region, ∃ off : Nat,
      ∃ i : Instr, (s.issues th) ∧ (i = .st8 th ra rb imm ∧ n = 1 ∨ i = .st16 th ra rb imm
      ∧ n = 2 ∨ i = .st32 th ra rb imm ∧ n = 4 ∨ i = .st64 th ra rb imm ∧ n = 8) ∧ (effAddr (s.wreg th ra) imm % n = 0)
      ∧ (s.reach th (effAddr (s.wreg th ra) imm) n = .ok (.memory r off)) ∧ (exec i s = .next t) ∧ (Memory.wf s.mem))
    ∧ (∃ s : State, ∃ t : State, ∃ th : Nat, ∃ ra : Nat, ∃ rb : Nat, ∃ imm : Nat, ∃ n : Nat, ∃ r : Region, ∃ off : Nat,
      ∃ i : Instr, (s.issues th) ∧ (i = .st8 th ra rb imm ∧ n = 1 ∨ i = .st16 th ra rb imm
      ∧ n = 2 ∨ i = .st32 th ra rb imm ∧ n = 4 ∨ i = .st64 th ra rb imm ∧ n = 8) ∧ (effAddr (s.wreg th ra) imm % n = 0)
      ∧ (s.reach th (effAddr (s.wreg th ra) imm) n = .ok (.memory r off)) ∧ (exec i s = .next t) ∧ (off + n ≤ 2 ^ 64))
    ∧ (∃ s : State, ∃ t : State, ∃ th : Nat, ∃ ra : Nat, ∃ rb : Nat, ∃ imm : Nat, ∃ n : Nat, ∃ r : Region, ∃ off : Nat,
      ∃ i : Instr, (s.issues th) ∧ (i = .st8 th ra rb imm ∧ n = 1 ∨ i = .st16 th ra rb imm
      ∧ n = 2 ∨ i = .st32 th ra rb imm ∧ n = 4 ∨ i = .st64 th ra rb imm ∧ n = 8) ∧ (effAddr (s.wreg th ra) imm % n = 0)
      ∧ (s.reach th (effAddr (s.wreg th ra) imm) n = .ok (.memory r off)) ∧ (exec i s = .next t) ∧ ∃ q : Region,
      ∃ x : Nat, (x < 2 ^ 64) ∧ (off + n ≤ 2 ^ 64) ∧ (q ≠ r ∨ x < off ∨ off + n ≤ x))
    ∧ (∃ s : State, ∃ t : State, ∃ th : Nat, ∃ ra : Nat, ∃ rb : Nat, ∃ imm : Nat, ∃ n : Nat, ∃ r : Region, ∃ off : Nat,
      ∃ i : Instr, (s.issues th) ∧ (i = .st8 th ra rb imm ∧ n = 1 ∨ i = .st16 th ra rb imm
      ∧ n = 2 ∨ i = .st32 th ra rb imm ∧ n = 4 ∨ i = .st64 th ra rb imm ∧ n = 8) ∧ (effAddr (s.wreg th ra) imm % n = 0)
      ∧ (s.reach th (effAddr (s.wreg th ra) imm) n = .ok (.memory r off)) ∧ (exec i s = .next t))
    ∧ (∃ s : State, ∃ t : State, ∃ th : Nat, ∃ rd : Nat, ∃ ra : Nat, ∃ rb : Nat, ∃ func : Nat, (s.issues th)
      ∧ (Memory.wf s.mem) ∧ (exec (.amo th rd ra rb func) s = .next t)) :=
  ⟨⟨s56, s65, 1, 1, 2, 4, 8, .pod 0, 4104, .st64 1 1 2 4,
      by (repeat' apply And.intro) <;> first | decide +kernel | rfl | trivial | simp⟩,
    ⟨s56, s65, 1, 1, 2, 4, 8, .pod 0, 4104, .st64 1 1 2 4,
      by (repeat' apply And.intro) <;> first | decide +kernel | rfl | trivial | simp⟩,
    ⟨s56, s65, 1, 1, 2, 4, 8, .pod 0, 4104, .st64 1 1 2 4,
      by (repeat' apply And.intro) <;> first | decide +kernel | rfl | trivial | simp⟩,
    ⟨s56, s65, 1, 1, 2, 4, 8, .pod 0, 4104, .st64 1 1 2 4,
      by (repeat' apply And.intro) <;> first | decide +kernel | rfl | trivial | simp,
      by (repeat' apply And.intro) <;> first | decide +kernel | rfl | trivial | simp,
      by (repeat' apply And.intro) <;> first | decide +kernel | rfl | trivial | simp,
      by (repeat' apply And.intro) <;> first | decide +kernel | rfl | trivial | simp,
      by (repeat' apply And.intro) <;> first | decide +kernel | rfl | trivial | simp, .pod 1, 4107,
      by (repeat' apply And.intro) <;> first | decide +kernel | rfl | trivial | simp⟩,
    ⟨s56, s65, 1, 1, 2, 4, 8, .pod 0, 4104, .st64 1 1 2 4,
      by (repeat' apply And.intro) <;> first | decide +kernel | rfl | trivial | simp⟩,
    ⟨s60, ((State.writeBytes s60 (.pod 0) 4104 (toLe 8 0xFEDCBA9876543210)).retire 1 4 0x8899AABBCCDDEEFF), 1, 4, 1, 2, 7,
      by (repeat' apply And.intro) <;> first | decide +kernel | rfl | trivial | simp⟩⟩

theorem witness_UnexecutableTargets :
    (∃ s : State, ∃ t : Nat, ∃ w : Nat, (s.live (threadPod t / 6) = true) ∧ (w = threadId (s.supervisor (threadPod t)))
      ∧ ((s.thread t).state = .faulted) ∧ ((s.thread t).pc % 4 = 0) ∧ (executable (s.thread t).pc = false))
    ∧ (∃ s : State, ∃ t : Nat, ∃ w : Nat, (s.live (threadPod t / 6) = true) ∧ (w = threadId (s.supervisor (threadPod t)))
      ∧ ((s.thread t).state ≠ .outOfService) ∧ ((s.thread t).entryPc % 4 = 0)
      ∧ (executable (s.thread t).entryPc = false))
    ∧ (∃ s : State, ∃ p : Packet, ∃ t : Nat, (s.takesRecorded ((p.withOp 1).of 0x8901))
      ∧ (s.debugTarget ((p.withOp 1).of 0x8901) = .ok t) ∧ ((s.thread t).state = .stopped) ∧ ((s.thread t).pc % 4 = 0)
      ∧ (executable (s.thread t).pc = false))
    ∧ (∃ s : State, ∃ t : Nat, (s.issues t) ∧ ((s.thread t).intReturn % 4 = 0) ∧ (executable (s.thread t).intReturn = false)
      ∧ ((s.thread t).stepping = false)) :=
  ⟨⟨{ up with threads := [(1, { Thread.reset with state := .faulted, pc := 0x300000 })], pods := [(0, { Pod.reset with loaded := true })] },
      1, threadId 0, by decide +kernel⟩,
    ⟨{ up with threads := [(1, { Thread.reset with state := .running, pc := 4096, entryPc := 0x300000 })], pods := [(0, { Pod.reset with loaded := true })] },
      1, threadId 0, by decide +kernel⟩,
    ⟨{ up with threads := [(1, { Thread.reset with state := .stopped, pc := 0x300000 })], pods := [(0, { Pod.reset with loaded := true })] },
      p07, 1, by decide +kernel⟩,
    ⟨{ up with threads := [(1, { Thread.reset with state := .running, pc := 4096, intReturn := 0x300000 })], pods := [(0, { Pod.reset with loaded := true })] },
      1, by decide +kernel⟩⟩

end Sys2Proof.Tests
end

section
/-! SUPPORT. The chain's frames on the wire: the fields of a frame read back from its bytes (Table 02.5). -/

namespace Sys2Proof.Machine

@[simp] theorem length_toLe (n v : Nat) : (toLe n v).length = n := by
  induction n generalizing v with
  | zero => rfl
  | succ n ih => simp [toLe, ih]

/-- The low bytes of a number read back are the number, cut to their width. -/
theorem le_toLe (n v : Nat) : le (toLe n v) = v % 256 ^ n := by
  induction n generalizing v with
  | zero => simp [toLe, le, Nat.mod_one]
  | succ n ih =>
    rw [toLe, le, ih, BitVec.toNat_ofNat, Nat.pow_succ' (m := 256)]
    exact Nat.mod_mul.symm

/-- A field that stands in the string is read whole. -/
theorem sub_of_split {bs a b c : List Byte} {o n : Nat} (h : bs = a ++ (b ++ c)) (ho : a.length = o) (hn : b.length = n) :
    sub bs o n = b := by
  subst h ho hn
  simp [sub]

/-- A number that stands in the string low byte first is read back. -/
theorem leAt_of_split {bs a c : List Byte} {o n v : Nat} (h : bs = a ++ (toLe n v ++ c)) (ho : a.length = o)
    (hv : v < 256 ^ n) : leAt bs o n = v := by
  rw [leAt, sub_of_split h ho (length_toLe n v), le_toLe, Nat.mod_eq_of_lt hv]

/-- What the FCS of a frame covers (Table 02.5). -/
def frameBody (dest src type seq : Nat) (payload : List Byte) : List Byte :=
  toLe 1 dest ++ toLe 1 src ++ toLe 1 type ++ toLe 1 seq ++ toLe 2 payload.length ++ payload

section
variable (dest src type seq : Nat) (payload : List Byte)

theorem chainFrame_eq : chainFrame dest src type seq payload = toLe 2 0x5AA5 ++ (frameBody dest src type seq payload
    ++ toLe 4 (crc32 (frameBody dest src type seq payload))) := by
  simp [chainFrame, frameBody]

@[simp] theorem length_frameBody : (frameBody dest src type seq payload).length = 6 + payload.length := by
  simp [frameBody]
  omega

@[simp] theorem length_chainFrame : (chainFrame dest src type seq payload).length = 12 + payload.length := by
  simp [chainFrame_eq]
  omega

@[simp] theorem chainFrame_sync : leAt (chainFrame dest src type seq payload) 0 2 = 0x5AA5 :=
  leAt_of_split (a := []) (chainFrame_eq ..) rfl (by decide)

theorem chainFrame_dest (h : dest < 256) : leAt (chainFrame dest src type seq payload) 2 1 = dest :=
  leAt_of_split (a := toLe 2 0x5AA5) (by simp [chainFrame]; rfl) rfl h

theorem chainFrame_src (h : src < 256) : leAt (chainFrame dest src type seq payload) 3 1 = src :=
  leAt_of_split (a := toLe 2 0x5AA5 ++ toLe 1 dest) (by simp [chainFrame]; rfl) rfl h

theorem chainFrame_type (h : type < 256) : leAt (chainFrame dest src type seq payload) 4 1 = type :=
  leAt_of_split (a := toLe 2 0x5AA5 ++ toLe 1 dest ++ toLe 1 src) (by simp [chainFrame]; rfl) rfl h

theorem chainFrame_seq (h : seq < 256) : leAt (chainFrame dest src type seq payload) 5 1 = seq :=
  leAt_of_split (a := toLe 2 0x5AA5 ++ toLe 1 dest ++ toLe 1 src ++ toLe 1 type) (by simp [chainFrame]; rfl) rfl h

theorem chainFrame_len (h : payload.length ≤ 1024) :
    leAt (chainFrame dest src type seq payload) 6 2 = payload.length :=
  leAt_of_split (a := toLe 2 0x5AA5 ++ toLe 1 dest ++ toLe 1 src ++ toLe 1 type ++ toLe 1 seq) (by simp [chainFrame]; rfl)
    rfl (by omega)

@[simp] theorem chainFrame_payload : sub (chainFrame dest src type seq payload) 8 payload.length = payload :=
  sub_of_split (a := toLe 2 0x5AA5 ++ toLe 1 dest ++ toLe 1 src ++ toLe 1 type ++ toLe 1 seq ++ toLe 2 payload.length)
    (by simp [chainFrame]; rfl) rfl rfl

@[simp] theorem chainFrame_body :
    sub (chainFrame dest src type seq payload) 2 (6 + payload.length) = frameBody dest src type seq payload :=
  sub_of_split (chainFrame_eq ..) rfl (length_frameBody ..)

@[simp] theorem chainFrame_fcs : leAt (chainFrame dest src type seq payload) (8 + payload.length) 4
    = crc32 (frameBody dest src type seq payload) :=
  leAt_of_split (a := toLe 2 0x5AA5 ++ frameBody dest src type seq payload) (c := []) (by simp [chainFrame_eq])
    (by simp; omega) (BitVec.isLt _)

end

end Sys2Proof.Machine
end

section
/-! SUPPORT. Aborting transactions answers their commits; of the chain port it changes the held reply alone (R69, R324, R325). -/

namespace Sys2Proof.Machine

/-- The chain port but for the reply it holds. -/
def Chain.butHeld (c : Chain) : Chain := { c with held := none }

/-- A state with the chain port of another, but for the reply it holds. -/
def State.chainLike (t s : State) : Prop := t.chain.butHeld = s.chain.butHeld

theorem State.chainLike_refl (s : State) : s.chainLike s := rfl

theorem State.chainLike_trans {s t u : State} (h : u.chainLike t) (g : t.chainLike s) : u.chainLike s := Eq.trans h g

theorem State.chainLike_ite {s t u : State} {p : Prop} [Decidable p] (h : t.chainLike s) (g : u.chainLike s) :
    (if p then t else u).chainLike s := by
  split
  · exact h
  · exact g

theorem chainLike_foldl {α : Type} (f : State → α → State) (h : ∀ s a, (f s a).chainLike s) (l : List α) (s : State) :
    (l.foldl f s).chainLike s := by
  induction l generalizing s with
  | nil => rfl
  | cons a l ih => exact State.chainLike_trans (ih _) (h s a)

/-! ## Interrupts and writes to host memory -/

theorem State.chainLike_msi (s : State) (fn v : Nat) : (s.msi fn v).chainLike s := by
  unfold State.msi
  exact State.chainLike_ite rfl rfl

theorem State.chainLike_writeBytes (s : State) (r : Region) (a : Nat) (bs : List Byte) : (s.writeBytes r a bs).chainLike s := rfl

theorem State.chainLike_reportTimeout (s : State) (fn u g : Nat) : (s.reportTimeout fn u g).chainLike s := by
  have h : (if s.linkUp (mDie fn) then s.emit (.tlp (mDie fn) TlpKind.aerTimeout.code fn) else s).chainLike s :=
    State.chainLike_ite rfl rfl
  exact h

theorem State.chainLike_putWrite (s : State) (fn : Nat) (w : HeldWrite) : (s.putWrite fn w).chainLike s := by
  unfold State.putWrite State.issueWrite
  exact State.chainLike_ite (State.chainLike_ite (State.chainLike_reportTimeout _ _ _ _) (State.chainLike_ite rfl rfl)) rfl

theorem State.chainLike_queueWrite (s : State) (fn q a : Nat) (bs : List Byte) : (s.queueWrite fn q a bs).chainLike s :=
  State.chainLike_putWrite (s.orderSafe (mDie fn)) fn _

theorem State.chainLike_nvmeDrain (s : State) (fn cq n : Nat) : (s.nvmeDrain fn cq n).chainLike s := by
  induction n generalizing s with
  | zero => rfl
  | succ n ih =>
    unfold State.nvmeDrain
    split
    · rfl
    · split
      · rfl
      · exact State.chainLike_ite rfl (State.chainLike_trans (ih _)
          (State.chainLike_ite (State.chainLike_trans (State.chainLike_msi _ _ _) (State.chainLike_queueWrite s _ _ _ _))
            (State.chainLike_queueWrite s _ _ _ _)))

theorem State.chainLike_nvmePost (s : State) (fn sq cid d st : Nat) : (s.nvmePost fn sq cid d st).chainLike s := by
  unfold State.nvmePost
  dsimp only
  split
  · rfl
  · exact State.chainLike_nvmeDrain (s.setNvme fn _) _ _ _

/-! ## Mailboxes -/

theorem State.chainLike_fillOutbound (s : State) (fn : Nat) : (s.fillOutbound fn).chainLike s := by
  unfold State.fillOutbound
  exact State.chainLike_ite (State.chainLike_msi (s.setFnBox fn _) _ _) rfl

theorem State.chainLike_settleThread (s : State) (t : Nat) : (s.settleThread t).chainLike s := by
  unfold State.settleThread
  dsimp only
  split
  · split
    · split <;> rfl
    · exact State.chainLike_ite rfl rfl
    · rfl
  · rfl

theorem State.chainLike_raiseInput (s : State) (t i k x : Nat) : (s.raiseInput t i k x).chainLike s := by
  unfold State.raiseInput
  exact State.chainLike_ite (State.chainLike_settleThread (s.setThread t _) t) rfl

theorem State.chainLike_fillAgent (s : State) (n : Nat) : (s.fillAgent n).chainLike s := by
  unfold State.fillAgent State.wakeReceiver
  exact State.chainLike_ite rfl (State.chainLike_ite (State.chainLike_raiseInput (s.setAgentBox n _) _ _ _ _) rfl)

/-! ## The journal and its mirror -/

theorem State.chainLike_mirrorRead (s : State) : s.mirrorRead.chainLike s := by
  unfold State.mirrorRead State.needRead State.issueRead
  dsimp only
  split
  · rfl
  · split
    · rfl
    · split
      · rfl
      · split <;> rfl

theorem State.chainLike_mirrorFlush (s : State) : s.mirrorFlush.chainLike s := by
  unfold State.mirrorFlush
  exact State.chainLike_trans (State.chainLike_mirrorRead _)
    (chainLike_foldl _ (fun s e => State.chainLike_writeBytes s _ _ (JEntry.bytes e)) _ s)

theorem State.chainLike_mirrorStep (s : State) : s.mirrorStep.chainLike s := by
  unfold State.mirrorStep
  split
  · exact State.chainLike_ite (State.chainLike_mirrorFlush s) rfl
  · rfl

theorem State.chainLike_journalAdd (s : State) (e : JEntry) : (s.journalAdd e).chainLike s := by
  unfold State.journalAdd
  exact State.chainLike_ite rfl (State.chainLike_trans (State.chainLike_mirrorStep _) (State.chainLike_ite rfl rfl))

theorem State.chainLike_recordCommand (s : State) (p : Packet) (st t : Nat) (r : List Byte) :
    (s.recordCommand p st t r).chainLike s := by
  unfold State.recordCommand State.journalPut
  exact State.chainLike_ite (State.chainLike_trans (State.chainLike_journalAdd _ _) (State.chainLike_journalAdd _ _))
    (State.chainLike_journalAdd _ _)

/-! ## Replies, which the chain port may hold -/

theorem State.chainLike_sendReply (s : State) (p : Packet) (r : Reply) : (s.sendReply p r).chainLike s := by
  unfold State.sendReply
  refine State.chainLike_ite rfl ?_
  split
  · rfl
  · exact State.chainLike_fillOutbound (s.modFnBox _ _) _
  · split
    · rfl
    · exact State.chainLike_fillAgent (s.modAgentBox _ _) _
  · exact State.chainLike_nvmePost (s.modNvme _ _) _ _ _ _ _
  · exact State.chainLike_ite rfl rfl
  · rfl

theorem State.chainLike_releaseWaiting (s : State) : s.releaseWaiting.chainLike s := by
  unfold State.releaseWaiting
  exact State.chainLike_ite rfl (chainLike_foldl _ (fun s (e : Packet × Reply) => State.chainLike_sendReply s e.1 _) _ { s with journal := _ })

theorem State.chainLike_deliver (s : State) (p : Packet) (r : Reply) : (s.deliver p r).chainLike s := by
  unfold State.deliver
  exact State.chainLike_trans (State.chainLike_ite rfl (State.chainLike_sendReply _ _ _)) (State.chainLike_releaseWaiting s)

theorem State.chainLike_abortTxn (s : State) (n : Nat) (t : Txn) : (s.abortTxn n t).chainLike s := by
  unfold State.abortTxn
  dsimp only
  split
  · rfl
  · exact State.chainLike_trans (State.chainLike_deliver _ _ _) (State.chainLike_recordCommand (s.finishTxn n t .aborted) _ _ _ _)

theorem State.chainLike_abortTxnsOf (s : State) (owner : Nat) : (s.abortTxnsOf owner).chainLike s :=
  chainLike_foldl _ (fun s (e : Nat × Txn) => State.chainLike_abortTxn s e.1 e.2) _ s

/-- Aborting transactions ends no bypass and begins none (R74, R325). -/
theorem State.released_abortTxnsOf (s : State) (owner : Nat) : (s.abortTxnsOf owner).chain.released = s.chain.released :=
  congrArg Chain.released (a₁ := (s.abortTxnsOf owner).chain.butHeld) (a₂ := s.chain.butHeld) (State.chainLike_abortTxnsOf s owner)

end Sys2Proof.Machine
end

section
/-! SUPPORT. What a frame of each type does to the package that reads it (R70–R76, R116). -/

namespace Sys2Proof.Machine

section
variable {s : State}

theorem State.vaux_of_chainAlive (h : s.chainAlive = true) : s.boot.vaux = true := by
  rw [State.chainAlive, Bool.and_eq_true] at h
  exact h.1

theorem State.chainTakes_iff : s.chainTakes = true ↔ s.chainAlive = true ∧ s.inBypass = false := by
  simp [State.chainTakes]

theorem State.chainNames_iff {dest : Nat} :
    s.chainNames dest = true ↔ s.chainAlive = true ∧ s.inBypass = false ∧ s.chainDest dest = true := by
  simp [State.chainNames, State.chainTakes_iff, and_assoc]

theorem State.chainAnswer_eq (h : s.boot.fuses.lifecycle ≠ .decommissioned) (seq : Nat) (payload : List Byte) :
    s.chainAnswer seq payload = s.chainReply seq payload := if_neg h

end

/-! ## ENUMERATE -/

/-- The bypass of an earlier RELEASE has ended (R74). -/
def State.unreleased (s : State) : State := { s with chain := { s.chain with released := false } }

section
variable {s : State} (ha : s.chainAlive = true) (hb : s.chain.bypassed = false)
include ha hb

theorem State.chainTakes_unreleased : s.unreleased.chainTakes = true := by
  have hv := State.vaux_of_chainAlive ha
  exact State.chainTakes_iff.mpr ⟨ha, by simp [State.inBypass, State.unreleased, hv, hb]⟩

/-- ENUMERATE in MODE ADD: only a package without an address takes one (R72). -/
theorem exec_enumerate_add (seq next maxRate : Nat) : exec (.enumerate seq next 0 maxRate) s =
    let take := decide (s.chain.address = 0) && decide (next ≠ 0xFF)
    .next (({ s with chain := { s.chain with
        address := if take then next else s.chain.address, released := false, clockSeen := true } }).emit
      (.chain (enumFrame 0xFF 0 seq (if take then next + 1 else next) 0 (min maxRate 2) []))) := by
  have ht := State.chainTakes_unreleased ha hb
  simp only [State.unreleased] at ht
  simp [exec, execEnumerate, State.enumerate, ha, ht]

/-- ENUMERATE in MODE RENUMBER: the package drops its address and takes the one the frame brings (R72). -/
theorem exec_enumerate_renumber (seq next maxRate : Nat) : exec (.enumerate seq next 1 maxRate) s =
    let t := s.unreleased.abortTxnsOf (masterId 4 0 0)
    .next (({ t with chain := { t.chain with clockSeen := true, address := if next = 0xFF then 0 else next } }).emit
      (.chain (enumFrame 0xFF 0 seq (if next = 0xFF then next else next + 1) 1 (min maxRate 2) []))) := by
  have ht := State.chainTakes_unreleased ha hb
  simp only [State.unreleased] at ht
  simp [exec, execEnumerate, State.enumerate, State.unreleased, ha, ht]

end

/-- ENUMERATE in bypass: the frame passes on, and the package keeps its address (R74). -/
theorem exec_enumerate_bypassed {s : State} (ha : s.chainAlive = true) (hb : s.chain.bypassed = true) (seq next maxRate : Nat) :
    exec (.enumerate seq next 1 maxRate) s =
      .next (s.unreleased.emit (.chain (enumFrame 0xFF 0 seq next 1 maxRate []))) := by
  simp [exec, execEnumerate, State.enumerate, State.unreleased, State.chainTakes, State.inBypass, ha, hb]

/-! ## RATE, RELEASE, BYPASS and STATUS -/

section
variable {s : State}

theorem exec_rate (h : s.chainTakes = true) (seq code : Nat) : exec (.rate seq code) s =
    if code ≤ 2 then .next ((s.setRate code).emit (.chain (chainFrame 0xFF 0 0x02 seq [BitVec.ofNat 8 code])))
    else .fault (.notGuaranteed 71) := by
  simp [exec, execRate, h]

theorem exec_release_named {dest : Nat} (h : s.chainNames dest = true) (seq : Nat) :
    exec (.release dest seq) s = .next (s.release seq) := by
  simp [exec, execRelease, h]

theorem exec_release_unnamed {dest : Nat} (h : s.chainNames dest = false) (seq : Nat) :
    exec (.release dest seq) s = .next (s.emit (.chain (chainFrame dest 0 0x03 seq []))) := by
  simp [exec, execRelease, h]

theorem State.release_eq (h : s.boot.fuses.lifecycle ≠ .decommissioned) (seq : Nat) : s.release seq =
    { s with chain := { s.chain with address := 0, released := true }, out := (s.chainReply seq []).out } := by
  rw [State.release, State.chainAnswer_eq h]
  rfl

theorem exec_bypass {dest : Nat} (ha : s.chainAlive = true) (hd : s.chainDest dest = true) (seq : Nat) (enter : Bool) :
    exec (.bypass dest seq enter) s =
      .next (s.bypassFrame seq enter (chainFrame dest 0 0x04 seq [BitVec.ofNat 8 (b2n enter)])) := by
  simp [exec, execBypass, ha, hd]

theorem State.bypassFrame_answered (hb : s.inBypass = false) (h : s.boot.fuses.lifecycle ≠ .decommissioned) (seq : Nat)
    (enter : Bool) (frame : List Byte) : s.bypassFrame seq enter frame =
      { s with chain := { s.chain with bypassed := enter }, out := (s.chainReply seq []).out } := by
  rw [State.bypassFrame, hb, State.chainAnswer_eq h]
  rfl

theorem State.bypassFrame_passes (hb : s.inBypass = true) (seq : Nat) (enter : Bool) (frame : List Byte) :
    s.bypassFrame seq enter frame =
      { s with chain := { s.chain with bypassed := enter }, out := s.out ++ [.chain frame] } := by
  rw [State.bypassFrame, hb]
  rfl

theorem exec_status_named {dest : Nat} (h : s.chainNames dest = true) (seq : Nat) :
    exec (.status dest seq) s = .next (s.statusReply seq) := by
  simp [exec, execStatus, h]

end

/-! ## WAKE -/

/-- Links changed one after another change nothing but the table of links. -/
theorem State.foldl_modLink (f : Link → Link) (l : List Nat) (s : State) :
    l.foldl (fun s d => s.modLink d f) s = { s with links := (l.foldl (fun s d => s.modLink d f) s).links } := by
  induction l generalizing s with
  | nil => rfl
  | cons a l ih => rw [List.foldl_cons, ih]; rfl

theorem State.link_foldl_modLink (f : Link → Link) (l : List Nat) (hl : l.Nodup) (s : State) (d : Nat) :
    (l.foldl (fun s d => s.modLink d f) s).link d = if d ∈ l then f (s.link d) else s.link d := by
  induction l generalizing s with
  | nil => simp
  | cons a l ih =>
    obtain ⟨hal, hl⟩ := List.nodup_cons.mp hl
    rw [List.foldl_cons, ih hl, State.link_modLink]
    by_cases hd : d = a
    · simp [hd, hal]
    · simp [hd]

theorem mem_maskBits {m n d : Nat} : d ∈ maskBits m n ↔ d < n ∧ bit m d = true := by
  simp [maskBits]

theorem nodup_maskBits (m n : Nat) : (maskBits m n).Nodup := List.nodup_range.filter _

theorem State.link_wakeLinks (s : State) (mask : Nat) {d : Nat} (hd : d < s.dieCount) :
    (s.wakeLinks mask).link d = if bit mask d = true then { s.link d with wakeFrame := true } else s.link d := by
  rw [State.wakeLinks, State.link_foldl_modLink _ _ (nodup_maskBits mask s.dieCount)]
  simp [mem_maskBits, hd]

theorem exec_wake {s : State} {dest : Nat} (h : s.chainNames dest = true) (hl : s.boot.fuses.lifecycle ≠ .decommissioned)
    (seq mask : Nat) : exec (.wake dest seq mask) s =
      .next (if s.synce.chainWakeEn then (s.chainReply seq []).wakeLinks mask else s.chainReply seq []) := by
  simp [exec, execWake, h, State.wakeFrame, State.chainAnswer_eq hl]
  rfl

/-! ## Frames as they come in -/

/-- The package has heard a good frame: it hunts for SYNC no more, and the chain's clock is there. -/
def State.heard (s : State) : State := { s with chain := { s.chain with hunting := false, clockSeen := true } }

/-- A package without a supply passes every frame on. -/
theorem exec_receive_dead {s : State} (h : s.chainAlive = false) (frame : List Byte) :
    exec (.stollekFrameReceive frame) s = .next (s.emit (.chain frame)) := by
  simp [exec, execStollekFrameReceive, h]

/-- A corrupted frame is counted, and the package hunts for SYNC (R65). -/
theorem exec_receive_corrupted {s : State} (ha : s.chainAlive = true) (hb : s.inBypass = false) {frame : List Byte}
    (h : leAt frame (8 + leAt frame 6 2) 4 ≠ crc32 (sub frame 2 (6 + leAt frame 6 2))) :
    exec (.stollekFrameReceive frame) s = .next { s with chain :=
      { s.chain with hunting := true, fcsErrors := min 0xFFFF (s.chain.fcsErrors + 1) } } := by
  simp [exec, execStollekFrameReceive, ha, hb, h, satAdd]

/-- The numbers of a frame fit their fields (Table 02.5). -/
structure FrameFits (dest src type seq : Nat) (payload : List Byte) : Prop where
  dest_lt : dest < 256
  src_lt : src < 256
  type_lt : type < 256
  seq_lt : seq < 256
  payload_le : payload.length ≤ 1024

section
variable {s : State} {dest src type seq : Nat} {payload : List Byte}

/-- The fields of a frame read back. -/
theorem FrameFits.fields (hf : FrameFits dest src type seq payload) :
    let f := chainFrame dest src type seq payload
    leAt f 2 1 = dest ∧ leAt f 3 1 = src ∧ leAt f 4 1 = type ∧ leAt f 5 1 = seq ∧ leAt f 6 2 = payload.length :=
  ⟨chainFrame_dest _ _ _ _ _ hf.dest_lt, chainFrame_src _ _ _ _ _ hf.src_lt, chainFrame_type _ _ _ _ _ hf.type_lt,
    chainFrame_seq _ _ _ _ _ hf.seq_lt, chainFrame_len _ _ _ _ _ hf.payload_le⟩

theorem exec_receive_release (ha : s.chainAlive = true) (hf : FrameFits dest src 0x03 seq payload)
    (h : s.chainNames dest = true) :
    exec (.stollekFrameReceive (chainFrame dest src 0x03 seq payload)) s = exec (.release dest seq) s.heard := by
  have h' : s.heard.chainNames dest = true := h
  rw [exec_release_named h']
  simp only [State.heard] at h'
  simp [exec, execStollekFrameReceive, State.heard, ha, hf.fields, hf.payload_le, h']

theorem exec_receive_status (ha : s.chainAlive = true) (hf : FrameFits dest src 0x05 seq payload)
    (h : s.chainNames dest = true) :
    exec (.stollekFrameReceive (chainFrame dest src 0x05 seq payload)) s = exec (.status dest seq) s.heard := by
  have h' : s.heard.chainNames dest = true := h
  rw [exec_status_named h']
  simp only [State.heard] at h'
  simp [exec, execStollekFrameReceive, State.heard, ha, hf.fields, hf.payload_le, h']

theorem exec_receive_enumerate (ha : s.chainAlive = true) (hf : FrameFits 0xFF 0 0x01 seq payload)
    (hn : payload.length = 3) : exec (.stollekFrameReceive (chainFrame 0xFF 0 0x01 seq payload)) s =
      exec (.enumerate seq (leAt payload 0 1) (leAt payload 1 1) (leAt payload 2 1)) s.heard := by
  have hrest : payload.drop 3 = [] := List.drop_eq_nil_of_le hn.le
  have hpayload := chainFrame_payload 0xFF 0 0x01 seq payload
  have hfcs := chainFrame_fcs 0xFF 0 0x01 seq payload
  have hbody := chainFrame_body 0xFF 0 0x01 seq payload
  rw [hn] at hpayload hfcs hbody
  simp [exec, execStollekFrameReceive, execEnumerate, State.heard, ha, hf.fields, hn, hrest, hpayload, hfcs, hbody]

theorem exec_receive_passes (ha : s.chainAlive = true) (hf : FrameFits dest src type seq payload)
    (ht : type = 0x03 ∨ type = 0x05 ∨ 5 < type) (h : s.chainNames dest = false) :
    exec (.stollekFrameReceive (chainFrame dest src type seq payload)) s =
      .next (s.heard.emit (.chain (chainFrame dest src type seq payload))) := by
  have h' : s.heard.chainNames dest = false := h
  simp only [State.heard] at h'
  simp only [exec, execStollekFrameReceive, State.heard, ha, hf.fields, hf.payload_le, h', chainFrame_sync, length_chainFrame,
    chainFrame_fcs, chainFrame_body, chainFrame_payload, BEq.rfl, Bool.not_true, Bool.false_eq_true, ↓reduceIte, decide_true,
    Bool.and_self]
  split
  · omega
  · omega
  · rfl
  · omega
  · rfl
  · rfl
  · rfl

end

end Sys2Proof.Machine
end

section
/-! SUPPORT. ENUMERATE and WAKE by what they leave in the package, as the obligation on the chain's frames speaks of them. -/

namespace Sys2Proof.Machine

theorem runs_enumerate_renumber {s : State} (ha : s.chainAlive = true) (hb : s.chain.bypassed = false) (seq next maxRate : Nat) :
    Runs (.enumerate seq next 1 maxRate) s fun t =>
      t.chain.address = (if next = 0xFF then 0 else next) ∧ t.chain.released = false
        ∧ t.out = (s.unreleased.abortTxnsOf (masterId 4 0 0)).out
          ++ [.chain (enumFrame 0xFF 0 seq (if next = 0xFF then next else next + 1) 1 (min maxRate 2) [])] :=
  ⟨_, exec_enumerate_renumber ha hb seq next maxRate, rfl, State.released_abortTxnsOf s.unreleased _, rfl⟩

theorem runs_wake {s : State} {dest : Nat} (h : s.chainNames dest = true) (hl : s.boot.fuses.lifecycle ≠ .decommissioned)
    (hw : s.synce.chainWakeEn = true) (seq mask : Nat) :
    Runs (.wake dest seq mask) s fun t => t = { s with links := t.links, out := (s.chainReply seq []).out }
      ∧ ∀ d, d < s.dieCount → t.link d = if bit mask d = true then { s.link d with wakeFrame := true } else s.link d := by
  refine ⟨(s.chainReply seq []).wakeLinks mask, ?_, State.foldl_modLink _ _ _, fun d hd => ?_⟩
  · rw [exec_wake h hl, if_pos hw]
  · exact State.link_wakeLinks (s.chainReply seq []) mask hd

end Sys2Proof.Machine
end

section
/-! The obligation on the chain's own frames (spec/02). -/

open Sys2Proof Sys2Proof.Machine

/-- Settles O4: each frame by the lemma that says what it does; aborting transactions keeps the chain port, and a frame's
fields read back from its bytes. -/
theorem chainFramesAndManagement : Obligations.ChainFramesAndManagement := by
  unfold Obligations.ChainFramesAndManagement
  refine ⟨⟨?addTakes, ?addKeeps, ?renumberTakes, ?addNone, ?renumberNone, ?bypassed, ?rate, ?rateHigh, ?release, ?releasePasses,
    ?bypass, ?bypassPasses, ?status, ?statusDecommissioned, ?wake, ?wakeOff, ?clockLoss⟩, ?corrupted, ?received, ?dead⟩
  case addTakes =>
    intro s seq next maxRate ha hb h0 hn
    simp [exec_enumerate_add ha hb, h0, hn]
  case addKeeps =>
    intro s seq next maxRate ha hb h0
    simp [exec_enumerate_add ha hb, h0]
  case renumberTakes =>
    intro s seq next maxRate ha hb hn
    simpa only [if_neg hn, State.unreleased] using runs_enumerate_renumber ha hb seq next maxRate
  case addNone =>
    intro s seq maxRate ha hb h0
    simp [exec_enumerate_add ha hb, h0]
  case renumberNone =>
    intro s seq maxRate ha hb
    obtain ⟨t, ht, haddr, -, hout⟩ := runs_enumerate_renumber ha hb seq 0xFF maxRate
    exact ⟨t, ht, haddr, hout⟩
  case bypassed =>
    intro s seq next maxRate ha hb
    exact ⟨_, exec_enumerate_bypassed ha hb seq next maxRate, rfl, rfl⟩
  case rate =>
    intro s seq code ht hc
    exact (exec_rate ht seq code).trans (if_pos hc)
  case rateHigh =>
    intro s seq code ht hc
    exact (exec_rate ht seq code).trans (if_neg (Nat.not_le.mpr hc))
  case release =>
    intro s dest seq h hl
    rw [exec_release_named h, State.release_eq hl]
  case releasePasses =>
    intro s dest seq h
    exact exec_release_unnamed h seq
  case bypass =>
    intro s dest seq enter h hl
    obtain ⟨ha, hb, hd⟩ := State.chainNames_iff.mp h
    rw [exec_bypass ha hd, State.bypassFrame_answered hb hl]
  case bypassPasses =>
    intro s dest seq enter ha hb hd
    rw [exec_bypass ha hd, State.bypassFrame_passes hb]
  case status =>
    intro s dest seq h hl
    rw [exec_status_named h, State.statusReply, if_neg hl]
  case statusDecommissioned =>
    intro s dest seq h hl
    rw [exec_status_named h, State.statusReply, if_pos hl]
  case wake =>
    intro s dest seq mask h hl hw
    exact runs_wake h hl hw seq mask
  case wakeOff =>
    intro s dest seq mask h hl hw
    rw [exec_wake h hl, hw]
    rfl
  case clockLoss =>
    intro s
    rfl
  case corrupted =>
    intro s frame ha hb h
    exact exec_receive_corrupted ha hb h
  case received =>
    intro s dest src type seq payload ha hdest hsrc htype hseq hlen
    have hf : FrameFits dest src type seq payload := ⟨hdest, hsrc, htype, hseq, hlen⟩
    refine ⟨?_, ?_, ?_, ?_⟩
    · rintro rfl h
      exact exec_receive_release ha hf h
    · rintro rfl h
      exact exec_receive_status ha hf h
    · rintro rfl hn rfl rfl
      exact exec_receive_enumerate ha hf hn
    · intro ht h
      exact exec_receive_passes ha hf ht h
  case dead =>
    intro s frame h
    exact exec_receive_dead h frame

end

section
/-! SUPPORT. Mailboxes: what a word stored, a word taken and a finished message do to the queue that holds them (R120–R124,
R127–R129). -/

namespace Sys2Proof.Machine

/-! ## Words in a queue -/

theorem pushWord_room {q : List MbxWord} (h : q.length < 16) (w : MbxWord) : pushWord q w = (q ++ [w], false) := if_pos h

theorem pushWord_full {q : List MbxWord} (h : q.length = 16) (w : MbxWord) :
    pushWord q w = (q.dropLast ++ [{ w with collided := true }], true) := if_neg (by omega)

/-- With room or without, the stored word stands last and keeps its END mark. -/
theorem pushWord_ends (q : List MbxWord) (w : MbxWord) :
    ∃ (front : List MbxWord) (e : MbxWord), (pushWord q w).1 = front ++ [e] ∧ e.last = w.last := by
  unfold pushWord
  split
  · exact ⟨q, w, rfl, rfl⟩
  · exact ⟨q.dropLast, _, rfl, rfl⟩

/-- A queue whose last word carries END holds a whole message (R124). -/
theorem firstMessage_of_end (q : List MbxWord) {w : MbxWord} (h : w.last = true) :
    ∃ m rest, firstMessage (q ++ [w]) = some (m, rest) := by
  induction q with
  | nil => exact ⟨[w], [], by simp [firstMessage, h]⟩
  | cons x q ih =>
    obtain ⟨m, rest, hm⟩ := ih
    by_cases hx : x.last = true
    · exact ⟨[x], q ++ [w], by simp [firstMessage, hx]⟩
    · exact ⟨x :: m, rest, by simp [firstMessage, hx, hm]⟩

section
variable (s : State)

/-! ## Writes -/

theorem State.mbxWrite_own {fn : Nat} (hfn : fn < agentBoxBase) (hr : s.memReach fn = true) (v : Word32) (last : Bool) :
    s.mbxWrite fn fn v last = s.sendFunction fn { word := v, stamp := fn, last := last, collided := false } := by
  simp [State.mbxWrite, hfn, hr]

theorem State.mbxWrite_agent {k writer : Nat} (hr : s.agentReach (k / 256) writer = true) (v : Word32) (last : Bool) :
    s.mbxWrite (agentBoxBase + k) writer v last =
      s.sendAgent k { word := v, stamp := writer, last := last, collided := false } := by
  simp [State.mbxWrite, hr]

theorem State.sendFunction_room {fn : Nat} (h : (s.fnBox fn).inbound.length < 16) (w : MbxWord) :
    s.sendFunction fn w = s.modFnBox fn (fun b => { b with inbound := b.inbound ++ [w] }) := by
  simp [State.sendFunction, pushWord_room h, State.modFnBox]

theorem State.sendFunction_full {fn : Nat} (h : (s.fnBox fn).inbound.length = 16) (w : MbxWord) :
    s.sendFunction fn w = s.modFnBox fn (fun b =>
      { b with
        inbound := b.inbound.dropLast ++ [{ w with collided := true }], fwCollision := true, sendOverrun := true }) := by
  simp [State.sendFunction, pushWord_full h, State.modFnBox]

/-- A word with END completes a message of the inbound queue. -/
theorem State.firstMessage_sendFunction (fn : Nat) {w : MbxWord} (h : w.last = true) :
    ∃ m rest, firstMessage ((s.sendFunction fn w).fnBox fn).inbound = some (m, rest) := by
  obtain ⟨front, e, hq, he⟩ := pushWord_ends (s.fnBox fn).inbound w
  obtain ⟨m, rest, hm⟩ := firstMessage_of_end front (he.trans h)
  exact ⟨m, rest, by simp [State.sendFunction, hq, hm]⟩

/-- A word that the binding admits goes into the queue, the order of senders turns, and the receiver wakes (R121, R122, R128). -/
theorem State.sendAgent_admitted {k : Nat} {w : MbxWord} (he : (s.agentBox k).enable = true)
    (hw : w.stamp = (s.agentBox k).senderA ∨ w.stamp = (s.agentBox k).senderB) :
    s.sendAgent k w = (s.modAgentBox k (fun b =>
      { b with
        queue := (pushWord b.queue w).1, collision := b.collision || (pushWord b.queue w).2
        nextIsB := b.senderA != b.senderB && !b.nextIsB })).wakeReceiver k := by
  simp [State.sendAgent, he, hw, AgentMailbox.rotate, State.modAgentBox]

theorem State.sendAgent_rejected {k : Nat} {w : MbxWord}
    (h : (s.agentBox k).enable = false ∨ (w.stamp ≠ (s.agentBox k).senderA ∧ w.stamp ≠ (s.agentBox k).senderB)) :
    s.sendAgent k w = s.modAgentBox k (fun b => { b with rejects := min 0xFF (b.rejects + 1) }) := by
  have hreject : ((s.agentBox k).enable && (w.stamp == (s.agentBox k).senderA || w.stamp == (s.agentBox k).senderB)) = false := by
    obtain he | ⟨ha, hb⟩ := h
    · simp [he]
    · simp [ha, hb]
  simp [State.sendAgent, hreject, satAdd, State.modAgentBox]

theorem State.wakeReceiver_agent {k : Nat} (h : isThreadId (s.agentBox k).receiver = false) : s.wakeReceiver k = s := by
  simp [State.wakeReceiver, h]

theorem State.wakeReceiver_thread {k : Nat} (h : isThreadId (s.agentBox k).receiver = true) :
    s.wakeReceiver k = s.raiseInput (threadOfId (s.agentBox k).receiver) (s.agentBox k).event 4 0 := if_pos h

section
variable {k : Nat} {w : MbxWord} (he : (s.agentBox k).enable = true)
  (hw : w.stamp = (s.agentBox k).senderA ∨ w.stamp = (s.agentBox k).senderB)
include he hw

theorem State.sendAgent_room (h : (s.agentBox k).queue.length < 16) :
    s.sendAgent k w = (s.modAgentBox k (fun b =>
      { b with nextIsB := b.senderA != b.senderB && !b.nextIsB, queue := b.queue ++ [w] })).wakeReceiver k := by
  rw [State.sendAgent_admitted s he hw]
  simp [State.modAgentBox, pushWord_room h]

theorem State.sendAgent_agent_room (hr : isThreadId (s.agentBox k).receiver = false) (h : (s.agentBox k).queue.length < 16) :
    s.sendAgent k w = s.modAgentBox k (fun b =>
      { b with nextIsB := b.senderA != b.senderB && !b.nextIsB, queue := b.queue ++ [w] }) := by
  rw [State.sendAgent_room s he hw h, State.wakeReceiver_agent _ (by simpa using hr)]

theorem State.sendAgent_agent_full (hr : isThreadId (s.agentBox k).receiver = false) (h : (s.agentBox k).queue.length = 16) :
    s.sendAgent k w = s.modAgentBox k (fun b =>
      { b with
        nextIsB := b.senderA != b.senderB && !b.nextIsB, collision := true
        queue := b.queue.dropLast ++ [{ w with collided := true }] }) := by
  rw [State.sendAgent_admitted s he hw, State.wakeReceiver_agent _ (by simpa using hr)]
  simp [State.modAgentBox, pushWord_full h]

theorem State.sendAgent_thread_room (hr : isThreadId (s.agentBox k).receiver = true) (h : (s.agentBox k).queue.length < 16) :
    s.sendAgent k w = (s.modAgentBox k (fun b =>
      { b with nextIsB := b.senderA != b.senderB && !b.nextIsB, queue := b.queue ++ [w] })).raiseInput
        (threadOfId (s.agentBox k).receiver) (s.agentBox k).event 4 0 := by
  rw [State.sendAgent_room s he hw h, State.wakeReceiver_thread _ (by simpa using hr)]
  simp

end

/-! ## Reads -/

/-- With no reply words held nothing follows a word that was read. -/
theorem State.fillOutbound_setFnBox (fn : Nat) {b : FnMailbox} (h : b.held = []) :
    (s.setFnBox fn b).fillOutbound fn = s.setFnBox fn b := by
  cases b
  subst h
  simp [State.fillOutbound]

/-- With no reply words held nothing follows a word that was read; the order of senders is put to one position where both are
one agent (R122). -/
theorem State.fillAgent_setAgentBox (k : Nat) {b : AgentMailbox} (h : b.held = []) :
    (s.setAgentBox k b).fillAgent k = s.setAgentBox k { b with nextIsB := b.senderA != b.senderB && b.nextIsB } := by
  cases b
  subst h
  simp [State.fillAgent, AgentMailbox.rotate]

theorem State.mbxRead_own {fn : Nat} {w : MbxWord} {rest : List MbxWord} (hfn : fn < agentBoxBase) (hr : s.memReach fn = true)
    (hq : (s.fnBox fn).outbound = w :: rest) (hh : (s.fnBox fn).held = []) :
    s.mbxRead fn fn = (w.word.toNat, s.modFnBox fn (fun b => { b with outbound := rest })) := by
  have hfill := State.fillOutbound_setFnBox s fn (b := { s.fnBox fn with outbound := rest }) hh
  simp [State.mbxRead, hfn, hq, hr, hfill, State.modFnBox]

theorem State.mbxRead_own_none {fn reader : Nat} (hfn : fn < agentBoxBase) (h : (s.fnBox fn).outbound = [] ∨ reader ≠ fn) :
    s.mbxRead fn reader = (0, s) := by
  cases hq : (s.fnBox fn).outbound with
  | nil => simp [State.mbxRead, hfn, hq]
  | cons w rest =>
    have hreader : reader ≠ fn := h.resolve_left (by simp [hq])
    simp [State.mbxRead, hfn, hq, hreader]

theorem State.mbxRead_agent {k : Nat} {w : MbxWord} {rest : List MbxWord} (hq : (s.agentBox k).queue = w :: rest)
    (hh : (s.agentBox k).held = []) (hr : s.agentReach (k / 256) (s.agentBox k).receiver = true) :
    s.mbxRead (agentBoxBase + k) (s.agentBox k).receiver = (w.word.toNat,
      s.modAgentBox k (fun b => { b with queue := rest, nextIsB := b.senderA != b.senderB && b.nextIsB })) := by
  have hfill := State.fillAgent_setAgentBox s k (b := { s.agentBox k with queue := rest }) hh
  simp [State.mbxRead, hq, hr, hfill, State.modAgentBox]

theorem State.mbxRead_agent_none {k reader : Nat} (h : (s.agentBox k).queue = [] ∨ reader ≠ (s.agentBox k).receiver) :
    s.mbxRead (agentBoxBase + k) reader = (0, s) := by
  cases hq : (s.agentBox k).queue with
  | nil => simp [State.mbxRead, hq]
  | cons w rest =>
    have hreader : reader ≠ (s.agentBox k).receiver := h.resolve_left (by simp [hq])
    simp [State.mbxRead, hq, hreader]

/-! ## Messages that firmware takes -/

theorem State.ready_of_memReach {fn : Nat} (h : s.memReach fn = true) : s.ready = true := by
  simp only [State.memReach, State.hostReach, Bool.and_eq_true] at h
  obtain ⟨⟨⟨⟨⟨⟨hready, -⟩, -⟩, -⟩, -⟩, -⟩, -⟩ := h
  exact hready

/-- While the management pair of the die restarts a message waits (R589). -/
theorem State.serveBox_own_waits {fn : Nat} (hfn : fn < agentBoxBase) (h : (s.dieHealth (mDie fn)).pairRestarting = true) :
    s.serveBox fn = s := by
  simp [State.serveBox, hfn, h]

theorem State.serveBox_own {fn : Nat} {m rest : List MbxWord} (hfn : fn < agentBoxBase) (hready : s.ready = true)
    (h : (s.dieHealth (mDie fn)).pairRestarting = false) (hm : firstMessage (s.fnBox fn).inbound = some (m, rest)) :
    s.serveBox fn =
      match messagePacket (.mailbox fn) (mDie fn) m with
      | (p, true) => (s.modFnBox fn (fun b => { b with inbound := rest })).submitPacket p
      | (p, false) => (s.modFnBox fn (fun b => { b with inbound := rest })).deliver p
          (p.reply stBadParam flagMailboxFault 0 0 []) := by
  have htake : s.takeMessage fn = some (s.modFnBox fn (fun b => { b with inbound := rest }),
      messagePacket (.mailbox fn) (mDie fn) m) := by
    simp [State.takeMessage, hfn, hm, State.modFnBox]
  rcases hmsg : messagePacket (.mailbox fn) (mDie fn) m with ⟨p, ok⟩
  rw [hmsg] at htake
  cases ok with
  | true => simp [State.serveBox, hfn, h, hready, htake]
  | false => simp [State.serveBox, hfn, h, hready, htake]

/-- Firmware takes nothing from a mailbox that another agent receives from (R128). -/
theorem State.serveBox_other_receiver {k : Nat} (h : (s.agentBox k).receiver ≠ fwId (k / 256)) :
    s.serveBox (agentBoxBase + k) = s := by
  have htake : s.takeMessage (agentBoxBase + k) = none := by simp [State.takeMessage, h]
  simp [State.serveBox, htake]

/-! ## The commands -/

theorem exec_mbxSend (box writer : Nat) (v : Word32) :
    exec (.mbxSend box writer v) s = .next (s.mbxWrite box writer v false) := rfl

theorem exec_mbxSendEnd (box writer : Nat) (v : Word32) :
    exec (.mbxSendEnd box writer v) s = .next ((s.mbxWrite box writer v true).serveBox box) := rfl

theorem exec_mbxRecv {box reader n : Nat} {t : State} (h : s.mbxRead box reader = (n, t)) :
    exec (.mbxRecv box reader) s = .next (t.emit (.read reader n)) := by
  simp [exec, execMbxRecv, h]

end

end Sys2Proof.Machine
end

section
/-! The obligation on mailboxes (spec/04). -/

open Sys2Proof Sys2Proof.Machine

/-- Settles O10: each command by what its write or read does to the mailbox, and each hand-over to firmware by the first whole
message that the word with END completes. -/
theorem mailboxes : Obligations.Mailboxes := by
  unfold Obligations.Mailboxes
  refine ⟨?ownRoom, ?ownFull, ?agentStored, ?threadWoken, ?rejected, ?agentRead, ?otherReader, ?agentEmpty, ?ownRead, ?ownNone,
    ?ownServed, ?ownWaits, ?agentWaits⟩
  case ownRoom =>
    intro s fn v hfn hr hroom
    rw [exec_mbxSend, s.mbxWrite_own hfn hr, s.sendFunction_room hroom]
  case ownFull =>
    intro s fn v hfn hr hfull
    rw [exec_mbxSend, s.mbxWrite_own hfn hr, s.sendFunction_full hfull]
  case agentStored =>
    intro s k writer v hr he hw hagent
    rw [exec_mbxSend, s.mbxWrite_agent hr]
    exact ⟨fun hroom => congrArg Host.Outcome.next (s.sendAgent_agent_room he hw hagent hroom),
      fun hfull => congrArg Host.Outcome.next (s.sendAgent_agent_full he hw hagent hfull)⟩
  case threadWoken =>
    intro s k writer v hr he hw hthread hroom
    rw [exec_mbxSend, s.mbxWrite_agent hr, s.sendAgent_thread_room he hw hthread hroom]
  case rejected =>
    intro s k writer v hr h
    rw [exec_mbxSend, s.mbxWrite_agent hr, s.sendAgent_rejected h]
  case agentRead =>
    intro s k w rest hq hh hr
    exact exec_mbxRecv s (s.mbxRead_agent hq hh hr)
  case otherReader =>
    intro s k reader h
    exact exec_mbxRecv s (s.mbxRead_agent_none (.inr h))
  case agentEmpty =>
    intro s k reader h
    exact exec_mbxRecv s (s.mbxRead_agent_none (.inl h))
  case ownRead =>
    intro s fn w rest hfn hr hq hh
    exact exec_mbxRecv s (s.mbxRead_own hfn hr hq hh)
  case ownNone =>
    intro s fn reader hfn h
    exact exec_mbxRecv s (s.mbxRead_own_none hfn h)
  case ownServed =>
    intro s fn v hfn hr hpair stored
    obtain ⟨m, rest, hm⟩ := s.firstMessage_sendFunction fn (w := { word := v, stamp := fn, last := true, collided := false }) rfl
    have hready : stored.ready = true := s.ready_of_memReach hr
    refine ⟨m, rest, hm, ?_⟩
    rw [exec_mbxSendEnd, s.mbxWrite_own hfn hr]
    exact congrArg Host.Outcome.next (stored.serveBox_own hfn hready hpair hm)
  case ownWaits =>
    intro s fn v hfn hr hpair hroom
    rw [exec_mbxSendEnd, s.mbxWrite_own hfn hr, s.sendFunction_room hroom]
    exact congrArg Host.Outcome.next (State.serveBox_own_waits (s.modFnBox fn _) hfn hpair)
  case agentWaits =>
    intro s k writer v hr he hw hagent hother hroom
    rw [exec_mbxSendEnd, s.mbxWrite_agent hr, s.sendAgent_agent_room he hw hagent hroom,
      State.serveBox_other_receiver _ (by simpa using hother)]

end

section
/-! SUPPORT. What a lookup finds: the choice among the matches of an LPM or a TCAM table falls on a greatest one of
them (R250, R254). -/

namespace Sys2Proof.Machine

/-! ## The element that a fold picks -/

/-- The element that stays when each next one is weighed against the one held. -/
def picked {α : Type} (pick : α → α → α) : List α → Option α
  | [] => none
  | e :: l => some (l.foldl pick e)

/-- A fold that holds nothing at first and then weighs each element against the one held. -/
theorem foldl_eq_picked {α : Type} {pick : α → α → α} {step : Option α → α → Option α} (hfirst : ∀ e, step none e = some e)
    (hnext : ∀ a e, step (some a) e = some (pick a e)) (l : List α) : l.foldl step none = picked pick l := by
  cases l with
  | nil => rfl
  | cons e l => rw [List.foldl_cons, hfirst, List.foldl_hom some hnext, picked]

theorem isSome_picked_of_mem {α : Type} (pick : α → α → α) {l : List α} {x : α} (hx : x ∈ l) : (picked pick l).isSome = true := by
  cases l with
  | nil => cases hx
  | cons => rfl

/-- `pick` answers one of two elements, and neither is of higher rank than its answer. -/
def PicksGreater {α β : Type} [Preorder β] (rank : α → β) (pick : α → α → α) : Prop :=
  ∀ a b, (pick a b = a ∨ pick a b = b) ∧ rank a ≤ rank (pick a b) ∧ rank b ≤ rank (pick a b)

section
variable {α β : Type} [Preorder β] {rank : α → β} {pick : α → α → α} (hpick : PicksGreater rank pick)
include hpick

theorem PicksGreater.foldl_mem (l : List α) (a : α) : l.foldl pick a ∈ a :: l := by
  induction l generalizing a with
  | nil => simp
  | cons b l ih =>
    obtain ⟨hone, -, -⟩ := hpick a b
    rw [List.foldl_cons]
    obtain hheld | hlater := List.mem_cons.mp (ih (pick a b))
    · rw [hheld]
      obtain ha | hb := hone
      · simp [ha]
      · simp [hb]
    · simp [hlater]

theorem PicksGreater.rank_le_foldl (l : List α) (a : α) : ∀ x ∈ a :: l, rank x ≤ rank (l.foldl pick a) := by
  induction l generalizing a with
  | nil => simp
  | cons b l ih =>
    obtain ⟨-, ha, hb⟩ := hpick a b
    obtain ⟨hheld, hrest⟩ := List.forall_mem_cons.mp (ih (pick a b))
    exact List.forall_mem_cons.mpr ⟨ha.trans hheld, List.forall_mem_cons.mpr ⟨hb.trans hheld, hrest⟩⟩

theorem PicksGreater.mem_picked {l : List α} {m : α} (h : picked pick l = some m) : m ∈ l := by
  cases l with
  | nil => cases h
  | cons a l => exact Option.some.inj h ▸ hpick.foldl_mem l a

theorem PicksGreater.rank_le_picked {l : List α} {m x : α} (h : picked pick l = some m) (hx : x ∈ l) : rank x ≤ rank m := by
  cases l with
  | nil => cases h
  | cons a l => exact Option.some.inj h ▸ hpick.rank_le_foldl l a x hx

end

/-! ## LPM and TCAM tables -/

/-- The longer of two prefixes that match; the one held, where they are of one length (R250). -/
def TEntry.longer (a b : TEntry) : TEntry := if a.prefixLen < b.prefixLen then b else a

/-- The order of the entries of a TCAM table: by PRIORITY, and of equal ones the lower address above the higher (R254). -/
def TEntry.tcamRank (e : TEntry) : ℕ ×ₗ ℕᵒᵈ := toLex (e.priority, OrderDual.toDual e.place)

theorem TEntry.tcamRank_le_iff (a b : TEntry) :
    a.tcamRank ≤ b.tcamRank ↔ a.priority < b.priority ∨ (a.priority = b.priority ∧ b.place ≤ a.place) :=
  Prod.Lex.toLex_le_toLex

theorem picksGreater_longer : PicksGreater TEntry.prefixLen TEntry.longer := by
  intro a b
  rw [TEntry.longer]
  split
  case isTrue h => exact ⟨.inr rfl, h.le, le_rfl⟩
  case isFalse h => exact ⟨.inl rfl, le_rfl, not_lt.mp h⟩

theorem picksGreater_tcamBetter : PicksGreater TEntry.tcamRank tcamBetter := by
  intro a b
  simp only [TEntry.tcamRank_le_iff]
  rw [tcamBetter]
  split
  case isTrue h => exact ⟨.inl rfl, by omega, by omega⟩
  case isFalse h => exact ⟨.inr rfl, by omega, by omega⟩

theorem TableKind.isLpm_iff {k : TableKind} : k.isLpm = true ↔ k = .lpm4 ∨ k = .lpm6 := by
  cases k <;> decide

section
variable (p : Pipe) (d : TableDecl) (key : List Byte) (tempo : Nat)

/-- The entries of a table that are valid at a tempo and that a test accepts. -/
def Pipe.hits (accepts : TEntry → Bool) : List TEntry :=
  (p.entries.filter (fun e => e.table == d.table && e.visible tempo)).filter accepts

variable {p d tempo} in
theorem Pipe.mem_hits {accepts : TEntry → Bool} {e : TEntry} :
    e ∈ p.hits d tempo accepts ↔ e ∈ p.entries ∧ e.table = d.table ∧ e.visible tempo = true ∧ accepts e = true := by
  rw [Pipe.hits, List.mem_filter, List.mem_filter, Bool.and_eq_true, beq_iff_eq, and_assoc, and_assoc]

/-- An LPM table picks the longer of the prefixes that match (R250). -/
theorem Pipe.find_lpm (h : d.kind.isLpm = true) :
    p.find d key tempo = picked TEntry.longer (p.hits d tempo (fun e => maskPrefix key e.prefixLen == e.key)) := by
  obtain hk | hk := TableKind.isLpm_iff.mp h
  all_goals
    rw [Pipe.find, hk]
    exact foldl_eq_picked (fun _ => rfl) (fun _ _ => (apply_ite some _ _ _).symm) _

/-- A TCAM table picks the better of the entries that match under their masks (R254). -/
theorem Pipe.find_tcam (h : d.kind = .tcam) :
    p.find d key tempo = picked tcamBetter (p.hits d tempo (fun e => maskedEq key e.key e.mask)) := by
  rw [Pipe.find, h]
  exact foldl_eq_picked (fun _ => rfl) (fun _ _ => rfl) _

theorem Pipe.find_eq_none (h : ∀ x ∈ p.entries, x.visible tempo = false) : p.find d key tempo = none := by
  have hmine : p.entries.filter (fun e => e.table == d.table && e.visible tempo) = [] :=
    List.filter_eq_nil_iff.mpr fun x hx => by simp [h x hx]
  rw [Pipe.find, hmine]
  cases d.kind <;> rfl

end

end Sys2Proof.Machine
end

section
/-! SUPPORT. The order of tempos, the versions that a tempo sees, and what reclaiming and ageing leave (R311, R314, R316). -/

namespace Sys2Proof.Machine

/-! ## Tempos -/

theorem earlier_iff (a : Nat) {b : Nat} (hb : b < 2 ^ 32) :
    earlier a b = true ↔ 1 ≤ ((b : Int) - a) % 2 ^ 32 ∧ ((b : Int) - a) % 2 ^ 32 ≤ 2 ^ 31 - 1 := by
  simp only [earlier, Bool.and_eq_true, decide_eq_true_eq]
  omega

/-- A tempo and the 2^31 - 1 after it are not earlier than it. -/
theorem earlier_add_eq_false (a : Nat) {t : Nat} (ht : t < 2 ^ 31) : earlier ((a + t) % 2 ^ 32) a = false := by
  simp only [earlier, Bool.and_eq_false_iff, decide_eq_false_iff_not]
  omega

/-- The 2^31 - 1 tempos before a tempo are earlier than it. -/
theorem earlier_sub_eq_true {a t : Nat} (ha : a < 2 ^ 32) (hpos : 0 < t) (ht : t < 2 ^ 31) :
    earlier ((a + 2 ^ 32 - t) % 2 ^ 32) a = true := by
  simp only [earlier, Bool.and_eq_true, decide_eq_true_eq]
  omega

theorem validAt_none_iff (born p : Nat) : validAt born none p = true ↔ earlier p born = false := by
  simp [validAt]

theorem validAt_some_iff (born r p : Nat) : validAt born (some r) p = true ↔ earlier p born = false ∧ earlier p r = true := by
  simp [validAt]

/-! ## Reclaiming and ageing -/

/-- Ageing leaves a BORN that is less than 2^29 tempos old (R314). -/
theorem agedBorn_of_young {current born : Nat} (hb : born < 2 ^ 32) (h : (current + 2 ^ 32 - born) % 2 ^ 32 < 2 ^ 29)
    (oldest : Nat) : agedBorn current oldest born = born := by
  refine if_neg fun hold => ?_
  rw [Nat.mod_eq_of_lt hb] at hold
  omega

theorem exec_reclaim (die : Nat) (s : State) : exec (.reclaim die) s = execReclaim die s := rfl

theorem exec_ageingSweep (die : Nat) (s : State) : exec (.ageingSweep die) s = execAgeingSweep die s := rfl

section
variable {s : State} {die : Nat} (h : s.live die = true)
include h

/-- Reclaiming rewrites the die's pipe and its cipher; of the entries it takes those whose RETIRED tempo the oldest packet in
flight has reached (R316). -/
theorem exec_reclaim_live : ∃ f g, exec (.reclaim die) s = .next ((s.modPipe die f).modCipherOf die g) ∧
    ∀ p e, e ∈ (f p).entries ↔ e ∈ p.entries ∧ ∀ r, e.retired = some r → earlier (s.oldestTempo die) r = true := by
  refine ⟨_, _, (exec_reclaim die s).trans (if_pos h), fun p e => ?_⟩
  rw [List.mem_filter]
  cases hr : e.retired <;> simp

theorem runs_reclaim : Runs (.reclaim die) s fun t =>
    t = { s with pipes := t.pipes, ciphers := t.ciphers }
      ∧ (∀ e : TEntry, e ∈ (t.pipe die).entries ↔ e ∈ (s.pipe die).entries
          ∧ (∀ r, e.retired = some r → earlier (s.oldestTempo die) r = true)) := by
  obtain ⟨f, g, hexec, hentries⟩ := exec_reclaim_live h
  exact ⟨_, hexec, rfl, fun e => by simp [hentries]⟩

/-- Ageing rewrites the die's pipe and its cipher and the BORN tempo of the bank in force; of the entries it rewrites the BORN
tempos alone (R314). -/
theorem exec_ageingSweep_live : ∃ f g n, exec (.ageingSweep die) s =
      .next { (s.modPipe die f).modCipherOf die g with tempo := { s.tempo with bankBorn := n } } ∧
    ∀ p, (f p).entries = p.entries.map (fun e => { e with born := agedBorn s.tempo.current (s.oldestTempo die) e.born }) :=
  ⟨_, _, _, (exec_ageingSweep die s).trans (if_pos h), fun _ => rfl⟩

theorem runs_ageingSweep : Runs (.ageingSweep die) s fun t =>
    t = { s with pipes := t.pipes, ciphers := t.ciphers, tempo := t.tempo } ∧ t.tempo.current = s.tempo.current
      ∧ (t.pipe die).entries = (s.pipe die).entries.map (fun e =>
          { e with born := agedBorn s.tempo.current (s.oldestTempo die) e.born }) := by
  obtain ⟨f, g, n, hexec, hentries⟩ := exec_ageingSweep_live h
  have hpipe : ((s.modPipe die f).modCipherOf die g).pipe die = f (s.pipe die) := by simp
  exact ⟨_, hexec, rfl, rfl, (congrArg Pipe.entries hpipe).trans (hentries _)⟩

end

end Sys2Proof.Machine
end

section
/-! The obligation on lookups and versions (spec/07, spec/09). -/

open Sys2Proof Sys2Proof.Machine

/-- Settles O21: a lookup by the rank of the match that its fold picks, the versions by the order of tempos, and reclaiming and
ageing by what each leaves of the entries. -/
theorem lookupsAndVersions : Obligations.LookupsAndVersions := by
  unfold Obligations.LookupsAndVersions
  refine ⟨⟨?longest, ?best, ?found, ?invisible⟩, ?order, ?valid, ?fromBorn, ?beforeBorn, ?fromRetired, ?reclaim, ?ageing, ?young⟩
  case longest =>
    intro p d key tempo e x hkind hfind hx htable hvisible hmatch
    rw [p.find_lpm d key tempo hkind] at hfind
    obtain ⟨he, -, hevisible, hematch⟩ := Pipe.mem_hits.mp (picksGreater_longer.mem_picked hfind)
    have hrank := picksGreater_longer.rank_le_picked hfind
      (Pipe.mem_hits.mpr ⟨hx, htable, hvisible, beq_iff_eq.mpr hmatch⟩)
    exact ⟨hrank, he, hevisible, beq_iff_eq.mp hematch⟩
  case best =>
    intro p d key tempo e x hkind hfind hx htable hvisible hmatch
    rw [p.find_tcam d key tempo hkind] at hfind
    obtain ⟨he, -, hevisible, hematch⟩ := Pipe.mem_hits.mp (picksGreater_tcamBetter.mem_picked hfind)
    have hrank := picksGreater_tcamBetter.rank_le_picked hfind (Pipe.mem_hits.mpr ⟨hx, htable, hvisible, hmatch⟩)
    exact ⟨(TEntry.tcamRank_le_iff x e).mp hrank, he, hevisible, hematch⟩
  case found =>
    intro p d key tempo x hkind hx htable hvisible hmatch
    rw [p.find_tcam d key tempo hkind]
    exact isSome_picked_of_mem tcamBetter (Pipe.mem_hits.mpr ⟨hx, htable, hvisible, hmatch⟩)
  case invisible =>
    intro p d key tempo h
    exact p.find_eq_none d key tempo h
  case order =>
    intro a b _ hb
    exact earlier_iff a hb
  case valid =>
    intro born p
    exact ⟨validAt_none_iff born p, fun r => validAt_some_iff born r p⟩
  case fromBorn =>
    intro born t _ ht
    exact (validAt_none_iff born _).mpr (earlier_add_eq_false born ht)
  case beforeBorn =>
    intro born t hborn hpos ht
    rw [Bool.eq_false_iff, ne_eq, validAt_none_iff, earlier_sub_eq_true hborn hpos ht]
    simp
  case fromRetired =>
    intro born r t _ _ ht
    rw [Bool.eq_false_iff, ne_eq, validAt_some_iff, earlier_add_eq_false r ht]
    simp
  case reclaim =>
    intro s die h
    exact runs_reclaim h
  case ageing =>
    intro s die h
    exact runs_ageingSweep h
  case young =>
    intro current oldest born _ hb h
    exact agedBorn_of_young hb h oldest

end

section
/-! SUPPORT. QUEUE_CREATE, QUEUE_DESTROY and QUEUE_QUERY by what each makes of a function's queue pairs (R421, R422, R451). -/

namespace Sys2Proof.Machine

theorem exec_queueCreate (p : Packet) (s : State) : exec (.queueCreate p) s =
    .next (s.submit (p.of 0x0201) (runQueueCreate (p.of 0x0201)) fun s => s) := rfl

theorem exec_queueDestroy (p : Packet) (s : State) : exec (.queueDestroy p) s =
    .next (s.submit (p.of 0x0202) (runQueueDestroy (p.of 0x0202)) fun s => s) := rfl

theorem exec_queueQuery (p : Packet) (s : State) : exec (.queueQuery p) s =
    .next (s.submit (p.of 0x0203) (runQueueQuery (p.of 0x0203)) fun s => s) := rfl

/-- The lead answers NOT_PERMITTED to a command, of an opcode that is not journalled, of a VF that is not provisioned (R481). -/
theorem State.submit_bare {s : State} {q : Packet} {row : OpRow} (run : State → Answer) (post : State → State)
    (hdecides : s.decides = true) (hframing : s.framing q = none) (hlead : s.leadGone = false) (hheld : s.heldFor q < 16)
    (hbare : s.bare q = true) (hphase : s.tempo.inProgress = none) (hrow : opRow q.opcode = some row)
    (hplain : row.journalled = false) : s.submit q run post = s.deliver q (q.reply stNotPermitted 0 0 0 []) := by
  simp [State.submit, State.decideWith, hdecides, hframing, hrow, hlead, hbare, hphase, hplain, Nat.not_le.mpr hheld, State.fails]

/-! ## Creation -/

/-- An RSS table that was written is not rewritten (R442). -/
theorem State.rewriteRss_of_written {s : State} {fn : Nat} (h : (s.func fn).rssWritten = true) : s.rewriteRss fn = s := if_pos h

section
variable {s : State} {p : Packet} {fn : Nat} (htarget : s.queueTarget p 32 = .ok fn)
include htarget

theorem runQueueCreate_badParams (hbad : badQueueParams p.params = true) : runQueueCreate p s = s.fails stBadParam := by
  simp [runQueueCreate, htarget, hbad]

/-- A TX queue pair is created under the number that the command names, where that number, a queue pair of the function and two
holding slots are free (R421). -/
theorem runQueueCreate_tx (hgood : badQueueParams p.params = false) (hcount : (s.queuesOf fn).length < (s.func fn).queuePairs)
    (hnumbers : (s.queuesOf fn).length < 256) (hkind : leAt p.params 1 1 = 0) (hslots : 2 ≤ s.sharedSlots (mDie fn))
    (hnamed : leAt p.params 0 1 ≠ 0xFF) (hfree : (s.queuesOf fn).contains (leAt p.params 0 1) = false)
    (hissue : s.canIssue fn = true) (hrss : (s.func fn).rssWritten = true) :
    runQueueCreate p s = (s.setQueue fn (leAt p.params 0 1) (newQueue p.params none)).answers
      (toLe 1 (leAt p.params 0 1) ++ toLe 1 0 ++ toLe 2 (16 * leAt p.params 0 1)) := by
  have hroom : ¬ ((s.func fn).queuePairs ≤ (s.queuesOf fn).length ∨ 256 ≤ (s.queuesOf fn).length
      ∨ (decide (leAt p.params 1 1 = 2) = true ∧ (s.freeDma fn).isEmpty = true) ∨ s.sharedSlots (mDie fn) < 2) := by
    rintro (h | h | ⟨h, -⟩ | h)
    · omega
    · omega
    · simp [hkind] at h
    · omega
  have hunforced : { newQueue p.params none with forced := !s.canIssue fn } = newQueue p.params none := by
    rw [hissue]
    rfl
  have hwritten : (s.setQueue fn (leAt p.params 0 1) (newQueue p.params none)).rewriteRss fn = _ :=
    State.rewriteRss_of_written hrss
  unfold runQueueCreate
  rw [htarget]
  dsimp only
  rw [if_neg hnamed, if_neg (Bool.eq_false_iff.mp hgood), if_neg hroom, if_neg (Bool.eq_false_iff.mp hfree)]
  simp [hkind, hunforced, hwritten]

end

/-! ## Destruction -/

/-- One channel as a queue pair that ceases to exist leaves it: unbound, and the data of its reads discarded, if the queue pair
held it (R422). -/
def State.leaveChannel (fn queue : Nat) (s : State) (k : Nat) : State :=
  (if (s.dmaCh k).binder = .queue fn queue then s.dmaDrop k else s).modDmaCh k (fun c => c.leave fn queue)

/-- A queue pair that ceases to exist leaves every channel. -/
def State.leaveChannels (s : State) (fn queue : Nat) : State :=
  (s.channels.map fun e => e.1).foldl (State.leaveChannel fn queue) s

theorem State.removeQueue_def (s : State) (fn queue : Nat) : s.removeQueue fn queue =
    let r := (s.dropBacklog fn queue).leaveChannels fn queue
    State.rewriteRss { r with
      queues := Tbl.del r.queues (queueKey fn queue),
      tags := List.map (fun (e : Nat × HostTag) => (e.1, e.2.ofQueue fn queue)) r.tags } fn := rfl

theorem State.foldl_leaveChannel (fn queue : Nat) (l : List Nat) (s : State) :
    ∃ tags channels, l.foldl (State.leaveChannel fn queue) s = { s with tags := tags, channels := channels } := by
  induction l generalizing s with
  | nil => exact ⟨s.tags, s.channels, rfl⟩
  | cons k l ih =>
    have hone : ∃ tags channels, State.leaveChannel fn queue s k = { s with tags := tags, channels := channels } := by
      unfold State.leaveChannel
      split
      · exact ⟨_, _, rfl⟩
      · exact ⟨s.tags, _, rfl⟩
    obtain ⟨tags, channels, hone⟩ := hone
    obtain ⟨tags', channels', hrest⟩ := ih { s with tags := tags, channels := channels }
    exact ⟨tags', channels', by rw [List.foldl_cons, hone, hrest]⟩

section
variable {s : State} {fn n : Nat} {q : QueuePair} (hq : s.queue? fn n = some q)
include hq

/-- A queue pair with no packet waiting is taken out of the table; beside it tags and channels change alone (R422). -/
theorem State.removeQueue_eq (hbacklog : q.backlog = []) (hrss : (s.func fn).rssWritten = true) :
    ∃ tags channels, s.removeQueue fn n =
      { s with queues := Tbl.del s.queues (queueKey fn n), tags := tags, channels := channels } := by
  have hdrop : s.dropBacklog fn n = s := by simp [State.dropBacklog, hq, hbacklog]
  obtain ⟨tags, channels, hleave⟩ : ∃ tags channels, s.leaveChannels fn n = { s with tags := tags, channels := channels } :=
    State.foldl_leaveChannel fn n _ s
  refine ⟨List.map (fun (e : Nat × HostTag) => (e.1, e.2.ofQueue fn n)) tags, channels, ?_⟩
  rw [State.removeQueue_def, hdrop, hleave]
  exact State.rewriteRss_of_written hrss

/-- In forced pause the accepted entries are not completed first (Table 13.11). -/
theorem runQueueDestroy_forced {p : Packet} (htarget : s.queueTarget p 4 = .ok fn) (hnumber : leAt p.params 0 1 = n)
    (hreserved : leAt p.params 1 3 = 0) (hforced : q.forced = true) :
    runQueueDestroy p s = (s.removeQueue fn n).answers [] := by
  simp [runQueueDestroy, htarget, hnumber, hq, hreserved, hforced]

theorem runQueueQuery_found {p : Packet} (htarget : s.queueTarget p 4 = .ok fn) (hnumber : leAt p.params 0 1 = n)
    (hreserved : leAt p.params 1 3 = 0) : runQueueQuery p s = s.answers (toLe 16 (s.qstatus fn q) ++ q.attr n) := by
  simp [runQueueQuery, htarget, hnumber, hq, hreserved]

end

/-- A state like one that differs from `s` in queue pairs, tags and channels is like `s` but for its own. -/
theorem State.like_rings {s t : State} {queues : Tbl QueuePair} {tags : Tbl HostTag} {channels : Tbl DmaChannel}
    (h : t.like { s with queues := queues, tags := tags, channels := channels }) :
    t.queues = queues ∧ t.like { s with queues := t.queues, tags := t.tags, channels := t.channels } := by
  have hqueues : t.queues = queues := congrArg State.queues (a₁ := t.quiet) h.1
  have hchannels : t.channels = channels := congrArg State.channels (a₁ := t.quiet) h.1
  refine ⟨hqueues, State.like_trans h ?_⟩
  rw [hqueues, hchannels]
  exact State.like_of rfl rfl rfl rfl

theorem runs_queueDestroy_forced {s : State} {p : Packet} {fn : Nat} {q : QueuePair} (htakes : s.takesRecorded (p.of 0x0202))
    (htarget : s.queueTarget (p.of 0x0202) 4 = .ok fn) (hq : s.queue? fn (leAt p.params 0 1) = some q)
    (hreserved : leAt p.params 1 3 = 0) (hforced : q.forced = true) (hbacklog : q.backlog = [])
    (hrss : (s.func fn).rssWritten = true) :
    Runs (.queueDestroy p) s fun t => t.queue? fn (leAt p.params 0 1) = none
      ∧ (∀ k, k ≠ queueKey fn (leAt p.params 0 1) → Tbl.find t.queues k = Tbl.find s.queues k)
      ∧ t.like ({ s with queues := t.queues, tags := t.tags, channels := t.channels } : State) := by
  obtain ⟨tags, channels, hremoved⟩ := State.removeQueue_eq hq hbacklog hrss
  have hrun : runQueueDestroy (p.of 0x0202) s = _ := runQueueDestroy_forced hq htarget rfl hreserved hforced
  rw [hremoved] at hrun
  refine ⟨_, (exec_queueDestroy p s).trans (congrArg _ (State.submit_recorded htakes rfl rfl hrun rfl rfl)), ?_⟩
  obtain ⟨hqueues, hlike⟩ := State.like_rings (State.like_recorded
    { s with queues := Tbl.del s.queues (queueKey fn (leAt p.params 0 1)), tags := tags, channels := channels } (p.of 0x0202) [])
  refine ⟨?_, fun k hk => ?_, hlike⟩
  · rw [State.queue?, hqueues, Tbl.find_del_same]
  · rw [hqueues, Tbl.find_del_other _ hk]

end Sys2Proof.Machine
end

section
/-! SUPPORT. What a doorbell makes of the indices of a queue pair, and what a fetch and a fetched entry come to (R426, R427,
R434, R435, R443). -/

namespace Sys2Proof.Machine

/-! ## Doorbells -/

theorem State.modQueue_of_some {s : State} {fn n : Nat} {q : QueuePair} (hq : s.queue? fn n = some q)
    (f : QueuePair → QueuePair) : s.modQueue fn n f = s.setQueue fn n (f q) := by
  simp [State.modQueue, hq]

section
variable {s : State} {fn n : Nat} {q : QueuePair} (hreach : s.hostReach (mDie fn) = true) (hring : s.isStorage fn = false)
  (hq : s.queue? fn n = some q)

include hreach hring hq

theorem exec_sqDoorbell (i : Nat) : exec (.sqDoorbell fn n i) s = .next (s.setQueue fn n
    (if q.sqSize < ringCount (i % 65536) q.sqHead then { q with indexErr := true }
     else { q with sqTail := i % 65536, ownWait := false, backoffUs := 0 })) := by
  simp [exec, execSqDoorbell, hreach, hring, State.modQueue_of_some hq]

theorem exec_cqDoorbell (hmode : q.mode ≠ .ownWb) (i : Nat) (arm : Bool) : exec (.cqDoorbell fn n i arm) s =
    .next (if q.hostHeld < ringCount q.cqTail (i % 65536) then s.setQueue fn n { q with indexErr := true }
      else (s.setQueue fn n { q with
        cqHead := i % 65536, armed := q.armed || arm,
        writtenAt := q.writtenAt.drop (q.writtenAt.length - ringCount q.cqTail (i % 65536)) }).signalCheck fn n false) := by
  simp only [exec, execCqDoorbell, hreach, hring, hq, hmode, false_or, Bool.true_eq_false, Bool.false_eq_true, if_false]
  split <;> rfl

end

/-! ## Fetches -/

theorem State.refreshBudget_of_free {s : State} {fn : Nat} (h : (s.func fn).txHeld = false) : s.refreshBudget fn = s := by
  simp [State.refreshBudget, h]

section
variable {s : State} {fn n : Nat} {q : QueuePair} (hq : s.queue? fn n = some q)
include hq

/-- Up to eight of the entries that stand between the fetch index and TAIL are asked for in one read (R426). -/
theorem State.fetchBurst_issued {t : State} (hbudget : (s.func fn).txHeld = false) (hstopped : s.fetchStopped fn q = false)
    (hsome : ringCount q.sqTail q.fetch ≠ 0) (hfits : ringCount q.sqTail q.fetch ≤ q.sqSize)
    (hcontrol : s.controlRead fn n = none) (htable : s.tableRead fn n = none)
    (hide : s.ideBlocks fn (q.sqAddr q.fetch) = false)
    (hissue : s.issueRead fn (.control n q.fetch (min 8 (ringCount q.sqTail q.fetch)))
      (64 * min 8 (ringCount q.sqTail q.fetch)) = some t) : s.fetchBurst fn n = t := by
  simp [State.fetchBurst, State.refreshBudget_of_free hbudget, hq, hstopped, hsome, Nat.not_lt.mpr hfits, hcontrol, htable, hide,
    hissue]

variable (hlive : s.live (mDie fn) = true)
include hlive

theorem exec_sqFetch (hring : s.isStorage fn = false) :
    exec (.sqFetch fn n) s = .next (if q.ownWait then s else s.fetchBurst fn n) := by
  cases hwait : q.ownWait <;> simp [exec, execSqFetch, hring, hq, hlive, hwait]

theorem exec_ownWaitRetry (hwait : q.ownWait = true) : exec (.ownWaitRetry fn n) s =
    .next (if q.ownSince + q.backoffUs * ticksPerUs ≤ s.dieTick (mDie fn) then s.fetchBurst fn n else s) := by
  simp [exec, execOwnWaitRetry, hq, hlive, hwait]

theorem exec_controlFetchRetry (hring : s.isStorage fn = false) (hretried : q.retried = true) :
    exec (.controlFetchRetry fn n q.fetch) s = .next (s.fetchBurst fn n) := by
  simp [exec, execControlFetchRetry, hring, hq, hlive, hretried]

end

/-! ## Fetched entries -/

theorem State.takeEntries_one (s : State) (fn n : Nat) : s.takeEntries fn n 1 = (s.takeEntry fn n 1 false).1 := by
  rw [State.takeEntries]
  split
  · next h => rw [h]; rfl
  · next h => rw [h]

theorem State.takeTable_one (s : State) (fn n : Nat) : s.takeTable fn n 1 = (s.takeEntry fn n 1 true).1 := by
  rw [State.takeTable]
  split
  · next h => rw [h]; rfl
  · next h => rw [h]

section
variable {s : State} {fn n k i : Nat}

theorem exec_sqEntryFetched_idle (hcontrol : s.controlRead fn n = none) (htable : s.tableRead fn n = none) :
    exec (.sqEntryFetched fn n) s = .next s := by
  simp [exec, execSqEntryFetched, hcontrol, htable]

variable (hlive : s.live (mDie fn) = true) (hissue : s.canIssue fn = true)
include hlive hissue

theorem exec_sqEntryFetched_control (htable : s.tableRead fn n = none) (hcontrol : s.controlRead fn n = some (k, i, 1)) :
    exec (.sqEntryFetched fn n) s = .next (({ s with tags := Tbl.del s.tags k } : State).takeEntry fn n 1 false).1 := by
  simp [exec, execSqEntryFetched, hlive, hissue, htable, hcontrol, State.takeEntries_one]

theorem exec_sqEntryFetched_table (htable : s.tableRead fn n = some (k, i, 1)) :
    exec (.sqEntryFetched fn n) s = .next (({ s with tags := Tbl.del s.tags k } : State).takeEntry fn n 1 true).1 := by
  simp [exec, execSqEntryFetched, hlive, hissue, htable, State.takeTable_one]

end

/-- A TX or RX entry of an opcode that its KIND does not allow is malformed by its opcode, whatever else it holds (Table 13.5). -/
theorem checkEntry_of_not_allowed (f : Func) {kind : QueueKind} {b : List Byte} (h : kind.allows (leAt b 0 1) = false)
    (table : List Byte) : checkEntry f kind b table = haltOpcode := by
  simp [checkEntry, h]

theorem readsTable_of_not_allowed (f : Func) {kind : QueueKind} {b : List Byte} (h : kind.allows (leAt b 0 1) = false) :
    readsTable f kind b = false := by
  simp [readsTable, h]

section
variable {s : State} {fn n : Nat} {q : QueuePair} (hq : s.queue? fn n = some q) (left : Nat) (ready : Bool)
include hq

/-- An entry stays where it is while the function is HALTED or no holding slot is left for its completion (R435, R439). -/
theorem State.takeEntry_held (h : (s.func fn).halted = true ∨ s.slotsFor (mDie fn) q (q.inFlight + 1) = false) :
    s.takeEntry fn n left ready = (s, false) := by
  simp [State.takeEntry, hq, h]

variable (hruns : (s.func fn).halted = false) (hslots : s.slotsFor (mDie fn) q (q.inFlight + 1) = true)
include hruns hslots

/-- An entry without OWN makes the fetcher wait 1 µs, and twice as long each time up to 1 ms (R426). -/
theorem State.takeEntry_unowned (hown : bit (leAt (s.hostRead fn (q.sqAddr q.fetch) 64) 3 1) 0 = false) :
    s.takeEntry fn n left ready = (s.setQueue fn n { q with
      ownWait := true, backoffUs := if q.backoffUs = 0 then 1 else min 1000 (2 * q.backoffUs),
      ownSince := s.dieTick (mDie fn) }, false) := by
  simp [State.takeEntry, hq, hruns, hslots, hown]

/-- An entry of a TX or RX queue pair with an opcode that its KIND does not allow halts the function (R434, R435). -/
theorem State.takeEntry_not_allowed (hown : bit (leAt (s.hostRead fn (q.sqAddr q.fetch) 64) 3 1) 0 = true)
    (hkind : q.kind ≠ .dma) (hop : q.kind.allows (leAt (s.hostRead fn (q.sqAddr q.fetch) 64) 0 1) = false) :
    s.takeEntry fn n left ready = (s.halt fn haltOpcode n q.fetch, false) := by
  have hbad : haltOpcode ≠ 0 := by decide
  simp [State.takeEntry, hq, hruns, hslots, hown, hkind, readsTable_of_not_allowed _ hop, checkEntry_of_not_allowed _ hop, hbad]

end

end Sys2Proof.Machine
end

section
/-! The obligation on queue pairs, doorbells and fetches (spec/13). -/

open Sys2Proof Sys2Proof.Machine

/-- Settles O32: each command by what the lead makes of its run, each doorbell by the count of entries it would leave, and each
fetch by the one read that it issues or the one entry that it takes. -/
theorem queuesAndDoorbells : Obligations.QueuesAndDoorbells := by
  unfold Obligations.QueuesAndDoorbells
  refine ⟨⟨?create, ?fresh, ?badParams, ?destroy, ?query, ?bare⟩, ?sqDoorbell, ?cqDoorbell, ?fetch, ?fetched, ?entry, ?idle⟩
  case create =>
    intro s p fn htakes htarget hgood hcount hnumbers hkind hslots hnamed hfree hissue hrss
    exact (exec_queueCreate p s).trans (congrArg _ (State.submit_recorded htakes rfl rfl
      (runQueueCreate_tx htarget hgood hcount hnumbers hkind hslots hnamed hfree hissue hrss) rfl rfl))
  case fresh =>
    intro b
    exact ⟨rfl, rfl, rfl, rfl, rfl, rfl⟩
  case badParams =>
    intro s p fn htakes htarget hbad
    exact (exec_queueCreate p s).trans (congrArg _ (State.submit_recordedAs _ htakes rfl rfl
      (runQueueCreate_badParams htarget hbad) (by decide) (by decide) rfl))
  case destroy =>
    intro s p fn q htakes htarget hq hreserved hforced _ hbacklog hrss
    exact runs_queueDestroy_forced htakes htarget hq hreserved hforced hbacklog hrss
  case query =>
    intro s p fn q htakes htarget hq hreserved
    exact (exec_queueQuery p s).trans (congrArg _ (State.submit_replied _ htakes rfl rfl
      (runQueueQuery_found hq htarget rfl hreserved)))
  case bare =>
    intro s p hdecides hframing hlead hheld hbare hphase
    exact (exec_queueQuery p s).trans (congrArg _ (State.submit_bare _ _ hdecides hframing hlead hheld hbare hphase rfl rfl))
  case sqDoorbell =>
    intro s fn n i q hreach hring hq
    rw [exec_sqDoorbell hreach hring hq]
    exact ⟨fun hfits => by rw [if_neg (Nat.not_lt.mpr hfits)], fun hover => by rw [if_pos hover]⟩
  case cqDoorbell =>
    intro s fn n i arm q hreach hring hq hmode
    rw [exec_cqDoorbell hreach hring hq hmode]
    exact ⟨fun hfits => by rw [if_neg (Nat.not_lt.mpr hfits)], fun hover => by rw [if_pos hover]⟩
  case fetch =>
    intro s t fn n q hring hq hlive hbudget hstopped hsome hfits hcontrol htable hide hissue
    have hburst : s.fetchBurst fn n = t :=
      State.fetchBurst_issued hq hbudget hstopped hsome hfits hcontrol htable hide hissue
    rw [exec_sqFetch hq hlive hring, hburst]
    refine ⟨fun hgoes => by simp [hgoes], fun hwait => ?_, fun hretried => ?_⟩
    · rw [exec_ownWaitRetry hq hlive hwait, hburst]
      exact ⟨by simp [hwait], fun hdue => by rw [if_pos hdue], fun hearly => by rw [if_neg (Nat.not_le.mpr hearly)]⟩
    · rw [exec_controlFetchRetry hq hlive hring hretried, hburst]
  case fetched =>
    intro s fn n k i hlive hissue
    exact ⟨exec_sqEntryFetched_control hlive hissue, exec_sqEntryFetched_table hlive hissue⟩
  case entry =>
    intro s fn n left q ready hq
    refine ⟨State.takeEntry_held hq left ready, fun hruns hslots =>
      ⟨State.takeEntry_unowned hq left ready hruns hslots, fun hrx hown hop => ?_⟩⟩
    exact State.takeEntry_not_allowed hq left ready hruns hslots hown (by simp [hrx]) (by rw [hrx, hop]; rfl)
  case idle =>
    intro s fn n hcontrol htable
    exact exec_sqEntryFetched_idle hcontrol htable

end

section
/-! SUPPORT. A wait that may end changes a BLOCKED thread alone; so a fault leaves its thread as the fault marks it, and
a thread sent to an address that is not executable faults there (R511, R515, R521, R523, R554). -/

namespace Sys2Proof.Machine

/-! ## Ends of waits -/

theorem State.thread_settleThread {s : State} {k : Nat} (h : (s.thread k).state ≠ .blocked) (t : Nat) :
    (s.settleThread t).thread k = s.thread k := by
  by_cases hkt : k = t
  · subst hkt
    simp [State.settleThread, h]
  · unfold State.settleThread
    dsimp only
    split
    · split
      · split <;> simp [hkt]
      · split <;> simp [hkt]
      · rfl
    · rfl

theorem State.settleThread_eq (s : State) (t : Nat) :
    ∃ threads chans, s.settleThread t = { s with threads := threads, chans := chans } := by
  unfold State.settleThread
  dsimp only
  split
  · split
    · split <;> exact ⟨_, _, rfl⟩
    · split <;> exact ⟨_, _, rfl⟩
    · exact ⟨_, _, rfl⟩
  · exact ⟨_, _, rfl⟩

theorem State.thread_foldl_settleThread {k : Nat} (l : List Nat) {s : State} (h : (s.thread k).state ≠ .blocked) :
    (l.foldl State.settleThread s).thread k = s.thread k := by
  induction l generalizing s with
  | nil => rfl
  | cons t l ih =>
    have hone := State.thread_settleThread h t
    rw [List.foldl_cons, ih (by rw [hone]; exact h), hone]

theorem State.thread_settleDie {s : State} {k : Nat} (h : (s.thread k).state ≠ .blocked) (die : Nat) :
    (s.settleDie die).thread k = s.thread k :=
  State.thread_foldl_settleThread _ h

theorem State.foldl_settleThread_eq (l : List Nat) (s : State) :
    ∃ threads chans, l.foldl State.settleThread s = { s with threads := threads, chans := chans } := by
  induction l generalizing s with
  | nil => exact ⟨_, _, rfl⟩
  | cons t l ih =>
    obtain ⟨threads, chans, hone⟩ := State.settleThread_eq s t
    obtain ⟨threads', chans', hrest⟩ := ih (s.settleThread t)
    exact ⟨threads', chans', by rw [List.foldl_cons, hrest, hone]⟩

theorem State.settleDie_eq (s : State) (die : Nat) :
    ∃ threads chans, s.settleDie die = { s with threads := threads, chans := chans } :=
  State.foldl_settleThread_eq _ s

/-! ## Faults -/

/-- A thread that has faulted (R521, R553). -/
def Thread.faulted (th : Thread) (cause : Nat) (addr : Option Nat) : Thread :=
  { th with state := .faulted, faultCause := cause, faultAddr := addr.getD th.faultAddr, wait := .none, waitMask := 0,
            stepping := false }

/-- A thread that has faulted stands where it stood, with the registers it had, and has issued no further instruction (R521). -/
theorem Thread.fields_of_eq_faulted {a th : Thread} {cause : Nat} {addr : Option Nat} (h : a = th.faulted cause addr) :
    a.state = .faulted ∧ a.faultCause = cause ∧ a.pc = th.pc ∧ a.regs = th.regs ∧ a.issueCount = th.issueCount := by
  subst h
  exact ⟨rfl, rfl, rfl, rfl, rfl⟩

section
variable (s : State) (t cause : Nat) (addr : Option Nat)

@[simp] theorem State.thread_threadFault : (s.threadFault t cause addr).thread t = (s.thread t).faulted cause addr := by
  unfold State.threadFault
  refine (State.thread_settleDie ?_ _).trans ?_
  · split <;> simp
  · split <;> simp [Thread.faulted]

theorem State.threadFault_eq : ∃ threads pods chans errors, s.threadFault t cause addr =
    { s with threads := threads, pods := pods, chans := chans, errors := errors } := by
  unfold State.threadFault
  extract_lets th th' marked pended sup st gone recorded
  obtain ⟨threads, chans, hsettle⟩ := State.settleDie_eq recorded (threadDie t)
  obtain ⟨errors, hrecorded⟩ : ∃ errors, recorded = { pended with errors := errors } := by
    unfold recorded
    split
    · exact ⟨_, rfl⟩
    · exact ⟨pended.errors, rfl⟩
  exact ⟨threads, pended.pods, chans, errors, by rw [hsettle, hrecorded]; rfl⟩

end

/-! ## Addresses that are not executable -/

section
variable {s : State} {t : Nat} (hrun : (s.thread t).state = .running) (halign : (s.thread t).pc % 4 = 0)
  (hexec : executable (s.thread t).pc = false)
include hrun halign hexec

theorem State.fetchCheck_unexecutable : s.fetchCheck t = s.threadFault t fcAccess none := by
  simp [State.fetchCheck, hrun, halign, hexec]

theorem State.thread_fetchCheck_unexecutable : (s.fetchCheck t).thread t = (s.thread t).faulted fcAccess none := by
  rw [State.fetchCheck_unexecutable hrun halign hexec, State.thread_threadFault]

end

end Sys2Proof.Machine
end

section
/-! SUPPORT. Recording a command and answering it leaves each thread that does not wait as it stands, but for the events that it has
pending (R128, R514). -/

namespace Sys2Proof.Machine

/-- A thread without its pending events. -/
def Thread.butPending (th : Thread) : Thread := { th with pending := 0 }

theorem Thread.fields_of_butPending {a b : Thread} (h : a.butPending = b.butPending) : a.state = b.state ∧
    a.faultCause = b.faultCause ∧ a.pc = b.pc ∧ a.regs = b.regs ∧ a.issueCount = b.issueCount :=
  ⟨congrArg Thread.state (a₁ := a.butPending) (a₂ := b.butPending) h,
    congrArg Thread.faultCause (a₁ := a.butPending) (a₂ := b.butPending) h,
    congrArg Thread.pc (a₁ := a.butPending) (a₂ := b.butPending) h,
    congrArg Thread.regs (a₁ := a.butPending) (a₂ := b.butPending) h,
    congrArg Thread.issueCount (a₁ := a.butPending) (a₂ := b.butPending) h⟩

/-- Each thread that does not wait in `s` is the same in `t`, but for its pending events. -/
def State.sparesIdle (t s : State) : Prop :=
  ∀ k, (s.thread k).state ≠ .blocked → (t.thread k).butPending = (s.thread k).butPending

theorem State.sparesIdle_of {s t : State} (h : t.threads = s.threads) : t.sparesIdle s := by
  intro k _
  simp only [State.thread, h]

theorem State.sparesIdle_refl (s : State) : s.sparesIdle s := fun _ _ => rfl

theorem State.sparesIdle_trans {s t u : State} (h : u.sparesIdle t) (g : t.sparesIdle s) : u.sparesIdle s := by
  intro k hk
  have hstate : (t.thread k).state = (s.thread k).state := (Thread.fields_of_butPending (g k hk)).1
  exact (h k (by rwa [hstate])).trans (g k hk)

theorem State.sparesIdle_ite {s t u : State} {p : Prop} [Decidable p] (h : t.sparesIdle s) (g : u.sparesIdle s) :
    (if p then t else u).sparesIdle s := by
  split
  · exact h
  · exact g

theorem sparesIdle_foldl {α : Type} (f : State → α → State) (h : ∀ s a, (f s a).sparesIdle s) (l : List α) (s : State) :
    (l.foldl f s).sparesIdle s := by
  induction l generalizing s with
  | nil => exact State.sparesIdle_refl s
  | cons a l ih => exact State.sparesIdle_trans (ih _) (h s a)

/-! ## Words that wake a thread -/

theorem State.sparesIdle_settleThread (s : State) (t : Nat) : (s.settleThread t).sparesIdle s :=
  fun _ hk => congrArg Thread.butPending (State.thread_settleThread hk t)

theorem State.sparesIdle_raiseInput (s : State) (t i kind x : Nat) : (s.raiseInput t i kind x).sparesIdle s := by
  unfold State.raiseInput
  refine State.sparesIdle_ite (State.sparesIdle_trans (State.sparesIdle_settleThread _ t) fun k _ => ?_) (State.sparesIdle_refl s)
  by_cases hkt : k = t
  · simp [hkt, Thread.butPending]
  · simp [hkt]

theorem State.sparesIdle_fillAgent (s : State) (n : Nat) : (s.fillAgent n).sparesIdle s := by
  unfold State.fillAgent State.wakeReceiver
  exact State.sparesIdle_ite (State.sparesIdle_of rfl)
    (State.sparesIdle_ite (State.sparesIdle_raiseInput (s.setAgentBox n _) _ _ _ _) (State.sparesIdle_of rfl))

/-! ## What leaves the threads alone -/

theorem State.threads_ite {s t u : State} {p : Prop} [Decidable p] (h : t.threads = s.threads) (g : u.threads = s.threads) :
    (if p then t else u).threads = s.threads := by
  split
  · exact h
  · exact g

theorem State.threads_msi (s : State) (fn v : Nat) : (s.msi fn v).threads = s.threads := by
  unfold State.msi
  exact State.threads_ite rfl rfl

theorem State.threads_reportTimeout (s : State) (fn u g : Nat) : (s.reportTimeout fn u g).threads = s.threads := by
  unfold State.reportTimeout
  exact State.threads_ite (s := s) rfl rfl

theorem State.threads_queueWrite (s : State) (fn q a : Nat) (bs : List Byte) : (s.queueWrite fn q a bs).threads = s.threads := by
  unfold State.queueWrite State.putWrite State.issueWrite
  exact State.threads_ite (State.threads_ite (State.threads_reportTimeout (s.orderSafe _) _ _ _) (State.threads_ite rfl rfl)) rfl

theorem State.threads_nvmeDrain (s : State) (fn cq n : Nat) : (s.nvmeDrain fn cq n).threads = s.threads := by
  induction n generalizing s with
  | zero => rfl
  | succ n ih =>
    unfold State.nvmeDrain
    split
    · rfl
    · split
      · rfl
      · exact State.threads_ite rfl ((ih _).trans (State.threads_ite
          ((State.threads_msi _ _ _).trans (State.threads_queueWrite s _ _ _ _)) (State.threads_queueWrite s _ _ _ _)))

theorem State.threads_nvmePost (s : State) (fn sq cid d st : Nat) : (s.nvmePost fn sq cid d st).threads = s.threads := by
  unfold State.nvmePost
  dsimp only
  split
  · rfl
  · exact State.threads_nvmeDrain (s.setNvme fn _) _ _ _

theorem State.threads_fillOutbound (s : State) (fn : Nat) : (s.fillOutbound fn).threads = s.threads := by
  unfold State.fillOutbound
  exact State.threads_ite (State.threads_msi (s.setFnBox fn _) _ _) rfl

theorem State.threads_mirrorRead (s : State) : s.mirrorRead.threads = s.threads := by
  unfold State.mirrorRead State.needRead State.issueRead
  dsimp only
  split
  · rfl
  · split
    · rfl
    · split
      · rfl
      · split <;> rfl

theorem State.threads_foldl_writeBytes {α : Type} (r : Region) (a : α → Nat) (bs : α → List Byte) (l : List α) (s : State) :
    (l.foldl (fun s e => s.writeBytes r (a e) (bs e)) s).threads = s.threads := by
  induction l generalizing s with
  | nil => rfl
  | cons e l ih => exact ih _

theorem State.threads_mirrorFlush (s : State) : s.mirrorFlush.threads = s.threads := by
  unfold State.mirrorFlush
  exact (State.threads_mirrorRead _).trans (State.threads_foldl_writeBytes _ _ JEntry.bytes _ s)

theorem State.threads_mirrorStep (s : State) : s.mirrorStep.threads = s.threads := by
  unfold State.mirrorStep
  split
  · exact State.threads_ite (State.threads_mirrorFlush s) rfl
  · rfl

theorem State.threads_journalAdd (s : State) (e : JEntry) : (s.journalAdd e).threads = s.threads := by
  unfold State.journalAdd
  exact State.threads_ite rfl ((State.threads_mirrorStep _).trans (State.threads_ite rfl rfl))

theorem State.threads_recordCommand (s : State) (p : Packet) (st t : Nat) (r : List Byte) :
    (s.recordCommand p st t r).threads = s.threads := by
  unfold State.recordCommand State.journalPut
  exact State.threads_ite ((State.threads_journalAdd _ _).trans (State.threads_journalAdd _ _)) (State.threads_journalAdd _ _)

/-! ## Replies -/

theorem State.sparesIdle_sendReply (s : State) (p : Packet) (r : Reply) : (s.sendReply p r).sparesIdle s := by
  unfold State.sendReply
  refine State.sparesIdle_ite (State.sparesIdle_refl s) ?_
  split
  · exact State.sparesIdle_of rfl
  · exact State.sparesIdle_of (State.threads_fillOutbound (s.modFnBox _ _) _)
  · split
    · exact State.sparesIdle_refl s
    · exact State.sparesIdle_fillAgent (s.modAgentBox _ _) _
  · exact State.sparesIdle_of (State.threads_nvmePost (s.modNvme _ _) _ _ _ _ _)
  · exact State.sparesIdle_ite (State.sparesIdle_of rfl) (State.sparesIdle_refl s)
  · exact State.sparesIdle_refl s

theorem State.sparesIdle_releaseWaiting (s : State) : s.releaseWaiting.sparesIdle s := by
  unfold State.releaseWaiting
  exact State.sparesIdle_ite (State.sparesIdle_refl s) (State.sparesIdle_trans
    (sparesIdle_foldl _ (fun s (e : Packet × Reply) => State.sparesIdle_sendReply s e.1 _) _ _) (State.sparesIdle_of rfl))

theorem State.sparesIdle_deliver (s : State) (p : Packet) (r : Reply) : (s.deliver p r).sparesIdle s := by
  unfold State.deliver
  exact State.sparesIdle_trans (State.sparesIdle_ite (s := s.releaseWaiting) (State.sparesIdle_of rfl)
    (State.sparesIdle_sendReply _ _ _)) (State.sparesIdle_releaseWaiting s)

theorem State.sparesIdle_recorded (s : State) (q : Packet) (r : List Byte) : (s.recorded q r).sparesIdle s :=
  State.sparesIdle_trans (State.sparesIdle_deliver _ _ _) (State.sparesIdle_of (State.threads_recordCommand s _ _ _ _))

end Sys2Proof.Machine
end

section
/-! SUPPORT. RESUME and RESTART by the supervisor, RESUME by THREAD_DEBUG and IRET, of a thread that goes to an address that is not
executable (R522, R528, R552, R554). -/

namespace Sys2Proof.Machine

/-! ## The supervisor's THREAD_CTRL -/

section
variable {s : State} {t w : Nat} (hlive : s.live (threadPod t / 6) = true) (hw : w = threadId (s.supervisor (threadPod t)))
include hlive hw

theorem exec_threadCtrlResume_supervisor : exec (.threadCtrlResume t w) s = .next (s.resumeThread t) := by
  have hbits : bit 1 3 = false ∧ bit 1 2 = false ∧ bit 1 1 = false ∧ bit 1 0 = true := by decide
  simp [exec, execThreadCtrlResume, State.ctrlWrite, hlive, State.bySupervisor, hw, State.threadCtrl, hbits]

theorem exec_threadCtrlRestart_supervisor : exec (.threadCtrlRestart t w) s = .next (s.restartThread t) := by
  have hbits : bit 2 3 = false ∧ bit 2 2 = false ∧ bit 2 1 = true := by decide
  simp [exec, execThreadCtrlRestart, State.ctrlWrite, hlive, State.bySupervisor, hw, State.threadCtrl, hbits]

end

/-- A FAULTED thread as RESUME by THREAD_CTRL sets it running: a BREAK that it faulted on runs once as a no-op (R522, R553). -/
def Thread.pastFault (th : Thread) : Thread :=
  { th with state := .running, breakNop := if th.faultCause = fcBreak then some th.pc else th.breakNop }

/-- A thread after its IRET, at the address it was interrupted at (R552). -/
def Thread.returned (th : Thread) : Thread :=
  { th with eventMask := th.maskFor (setBit th.eventMask 8 true) : Thread }.complete th.intReturn

section
variable {s : State} {t : Nat}

theorem State.thread_resumeThread_unexecutable (hfaulted : (s.thread t).state = .faulted) (halign : (s.thread t).pc % 4 = 0)
    (hexec : executable (s.thread t).pc = false) : (s.resumeThread t).thread t = (s.thread t).pastFault.faulted fcAccess none := by
  unfold State.resumeThread
  rw [if_pos hfaulted]
  refine (State.thread_fetchCheck_unexecutable ?_ ?_ ?_).trans ?_ <;> simp [halign, hexec, Thread.pastFault]

theorem State.thread_killThread (h : (s.thread t).state ≠ .outOfService) : (s.killThread t).thread t = (s.thread t).killed := by
  unfold State.killThread
  rw [if_neg h]
  refine (State.thread_settleDie ?_ _).trans ?_ <;> simp [Thread.killed]

theorem State.thread_restartThread_unexecutable (hserves : (s.thread t).state ≠ .outOfService)
    (halign : (s.thread t).entryPc % 4 = 0) (hexec : executable (s.thread t).entryPc = false) :
    (s.restartThread t).thread t = ((s.thread t).atEntry .running).faulted fcAccess none := by
  have hentry : ((s.killThread t).modThread t fun th => th.atEntry .running).thread t = (s.thread t).atEntry .running := by
    rw [State.thread_modThread, if_pos rfl, State.thread_killThread hserves]
    rfl
  unfold State.restartThread
  rw [if_neg hserves, State.thread_fetchCheck_unexecutable] <;> rw [hentry]
  · rfl
  · exact halign
  · exact hexec

/-! ## IRET -/

theorem exec_iret_issues (h : s.issues t) : exec (.iret t) s = .next (s.intReturn t) := by
  obtain ⟨hlive, hrun, hint, hbreak⟩ := h
  simp [exec, execIret, State.issue, hlive, hrun, hint, hbreak]

theorem State.thread_intReturn_unexecutable (hstep : (s.thread t).stepping = false) (halign : (s.thread t).intReturn % 4 = 0)
    (hexec : executable (s.thread t).intReturn = false) :
    (s.intReturn t).thread t = (s.thread t).returned.faulted fcAccess none := by
  unfold State.intReturn State.jumpTo
  refine (State.thread_fetchCheck_unexecutable ?_ ?_ ?_).trans ?_ <;> simp [Thread.returned, Thread.complete, hstep, halign, hexec]

end

/-! ## RESUME by THREAD_DEBUG -/

theorem exec_threadDebugResume (p : Packet) (s : State) : exec (.threadDebugResume p) s =
    .next (s.submit ((p.withOp 1).of 0x8901) (debugWith debugResume ((p.withOp 1).of 0x8901)) (fun s => s)) := rfl

/-- A STOPPED thread as RESUME sets it running (R528, R532). -/
def Thread.resumed (th : Thread) : Thread := { th with state := .running, breakSkip := th.breakHit, breakHit := false }

section
variable {s : State} {p : Packet} {t : Nat} (hstopped : (s.thread t).state = .stopped) (halign : (s.thread t).pc % 4 = 0)
  (hexec : executable (s.thread t).pc = false)
include hstopped halign hexec

theorem debugResume_unexecutable :
    debugResume p t s = ((s.setThread t (s.thread t).resumed).threadFault t fcAccess none).showsThread t := by
  have hfault := State.fetchCheck_unexecutable (s := s.setThread t (s.thread t).resumed) (t := t) (by simp [Thread.resumed])
    (by simpa [Thread.resumed] using halign) (by simpa [Thread.resumed] using hexec)
  rw [← hfault]
  simp [debugResume, hstopped, Thread.resumed]

theorem runs_threadDebugResume_unexecutable (htakes : s.takesRecorded ((p.withOp 1).of 0x8901))
    (htarget : s.debugTarget ((p.withOp 1).of 0x8901) = .ok t) : Runs (.threadDebugResume p) s fun u =>
      (u.thread t).butPending = ((s.thread t).resumed.faulted fcAccess none).butPending := by
  have hrun : debugWith debugResume ((p.withOp 1).of 0x8901) s =
      ((s.setThread t (s.thread t).resumed).threadFault t fcAccess none).showsThread t := by
    simp [debugWith, htarget, debugResume_unexecutable hstopped halign hexec]
  obtain ⟨threads, pods, chans, errors, hfault⟩ := (s.setThread t (s.thread t).resumed).threadFault_eq t fcAccess none
  refine ⟨_, (exec_threadDebugResume p s).trans (congrArg _ (State.submit_recorded htakes rfl rfl hrun ?_ ?_)), ?_⟩
  · rw [hfault]
    rfl
  · rw [hfault]
    rfl
  · refine (State.sparesIdle_recorded _ _ _ t ?_).trans ?_ <;> simp [Thread.faulted]

end

end Sys2Proof.Machine
end

section
/-! The obligation on targets that are not executable (spec/17). -/

open Sys2Proof Sys2Proof.Machine

/-- Settles O44: each way to send a thread to an address ends in the check of that address, which faults the thread as it stands
there; a fault reads back whole, since ends of waits and a recorded reply spare a thread that does not wait. -/
theorem unexecutableTargets : Obligations.UnexecutableTargets := by
  unfold Obligations.UnexecutableTargets
  refine ⟨fun s t w hlive hw => ⟨?resume, ?restart⟩, ?debugResume, ?iret⟩
  case resume =>
    intro hfaulted halign hexec
    exact ⟨_, exec_threadCtrlResume_supervisor hlive hw,
      Thread.fields_of_eq_faulted (th := (s.thread t).pastFault)
        (State.thread_resumeThread_unexecutable hfaulted halign hexec)⟩
  case restart =>
    intro hserves halign hexec
    obtain ⟨hstate, hcause, hpc, -, hcount⟩ :=
      Thread.fields_of_eq_faulted (State.thread_restartThread_unexecutable hserves halign hexec)
    exact ⟨_, exec_threadCtrlRestart_supervisor hlive hw, hstate, hcause, hpc, hcount⟩
  case debugResume =>
    intro s p t htakes htarget hstopped halign hexec
    obtain ⟨u, hu, hthread⟩ := runs_threadDebugResume_unexecutable hstopped halign hexec htakes htarget
    exact ⟨u, hu, Thread.fields_of_butPending hthread⟩
  case iret =>
    intro s t hissues halign hexec hstep
    exact ⟨_, exec_iret_issues hissues,
      Thread.fields_of_eq_faulted (State.thread_intReturn_unexecutable hstep halign hexec)⟩

end

section
/-! SUPPORT. ERROR_ACK and ERROR_QUERY by what each makes of the record queue (R575, R582). -/

namespace Sys2Proof.Machine

theorem exec_errorAck (p : Packet) (s : State) : exec (.errorAck p) s =
    .next (s.submit (p.of 0x0D01) (runErrorAck (p.of 0x0D01)) fun s => s) := rfl

theorem exec_errorQuery (p : Packet) (s : State) : exec (.errorQuery p) s =
    .next (s.submit (p.of 0x0D03) (runErrorQuery (p.of 0x0D03)) fun s => s) := rfl

/-- The record queue with every record up to ERSN `n` acknowledged (R575). -/
def Errors.acked (e : Errors) (n : Nat) : Errors :=
  { e with records := e.records.filter (fun r => decide (n < r.ersn)), first := n + 1,
           handling := e.handling.filter (fun k => decide (n < k)) }

section
variable {s : State} {p : Packet}

theorem runErrorAck_notGiven (h : s.errors.next ≤ leAt p.params 0 8) : runErrorAck p s = s.fails stBadParam := by
  simp [runErrorAck, h]

theorem runErrorAck_alreadyGone (hlen : p.paramLen = 8) (hgiven : leAt p.params 0 8 < s.errors.next)
    (hgone : leAt p.params 0 8 < s.errors.first) : runErrorAck p s = s.answers [] := by
  simp [runErrorAck, hlen, hgone, Nat.not_le.mpr hgiven]

theorem runErrorAck_held (hlen : p.paramLen = 8) (hgiven : leAt p.params 0 8 < s.errors.next)
    (hheld : s.errors.first ≤ leAt p.params 0 8) : runErrorAck p s = ({ s with errors := s.errors.acked (leAt p.params 0 8) } : State).answers [] := by
  simp [runErrorAck, Errors.acked, hlen, Nat.not_le.mpr hgiven, Nat.not_lt.mpr hheld]

theorem runErrorQuery_wellFormed (hlen : p.paramLen = 12) (hsome : 1 ≤ leAt p.params 8 1) (hfew : leAt p.params 8 1 ≤ 14)
    (hleast : leAt p.params 9 1 ≤ 4) (hreserved : leAt p.params 0x0A 2 = 0) : runErrorQuery p s = s.answers
      (toLe 8 s.errors.first ++ toLe 8 s.errors.next ++ (((s.errors.records.filter (fun r =>
        decide (leAt p.params 0 8 ≤ r.ersn) && decide (leAt p.params 9 1 ≤ r.severity))).take (leAt p.params 8 1)).flatMap
          ErrRecord.bytes)) := by
  have hgood : ¬ (p.paramLen ≠ 12 ∨ leAt p.params 8 1 = 0 ∨ 14 < leAt p.params 8 1 ∨ 4 < leAt p.params 9 1
      ∨ leAt p.params 0x0A 2 ≠ 0) := by omega
  exact if_neg hgood

end

end Sys2Proof.Machine
end

section
/-! SUPPORT. How firmware takes up a latched error, what becomes of it, and how its handling ends (R576–R579). -/

namespace Sys2Proof.Machine

/-! ## Which latched error comes next -/

/-- The more severe of two latched errors; the one held, where they are of one class (R578). -/
def Latched.worse (a b : Latched) : Latched := if a.severity < b.severity then b else a

theorem picksGreater_worse : PicksGreater Latched.severity Latched.worse := by
  intro a b
  rw [Latched.worse]
  split
  case isTrue h => exact ⟨.inr rfl, h.le, le_rfl⟩
  case isFalse h => exact ⟨.inl rfl, le_rfl, not_lt.mp h⟩

theorem nextLatched_eq_picked (l : List Latched) : nextLatched l = picked Latched.worse l :=
  foldl_eq_picked (fun _ => rfl) (fun _ _ => (apply_ite some _ _ _).symm) l

@[simp] theorem Latched.sameArea_self (l : Latched) : l.sameArea l = true := by simp [Latched.sameArea]

/-! ## What becomes of an error: it joins an open record, receives one, or is lost -/

@[simp] theorem State.errors_msi (s : State) (fn v : Nat) : (s.msi fn v).errors = s.errors := by
  unfold State.msi
  dsimp only
  split
  · rfl
  · rfl

/-- Sending vectors leaves the record queue (R580). -/
theorem State.errors_foldl_msi (fn v : State → Nat → Nat) (l : List Nat) (s : State) :
    (l.foldl (fun s d => s.msi (fn s d) (v s d)) s).errors = s.errors := by
  induction l generalizing s with
  | nil => rfl
  | cons d l ih => rw [List.foldl_cons, ih, State.errors_msi]

/-- The record that a latched error receives (R574, R577, R580). -/
def State.newRecord (s : State) (l : Latched) (handled : Bool) : ErrRecord :=
  { ersn := s.errors.next, timeFirst := l.time, timeLast := l.timeLast, count := satAdd 0xFFFFFFFF 1 l.repeats,
    severity := l.severity, isOpen := true, handled := handled, preempted := false, injected := l.injected,
    signalled := !(s.signalled l).isEmpty, cause := l.cause, subject := l.subject, die := l.die, unit := l.unit,
    detailA := l.detailA, detailB := l.detailB, bootId := s.journal.bootId }

/-- An open record that a repeat has joined (R577). -/
def ErrRecord.joined (r : ErrRecord) (l : Latched) (handled : Bool) : ErrRecord :=
  { r with count := satAdd 0xFFFFFFFF r.count (1 + l.repeats), timeLast := l.timeLast, handled := r.handled || handled }

section
variable {s : State} {l : Latched} (handled : Bool)

theorem State.makeRecord_joins {r : ErrRecord} (hopen : (s.errors.settle l.time).openIn l = some r) :
    s.makeRecord l handled = ({ s with errors := { s.errors.settle l.time with
      records := (s.errors.settle l.time).records.map (fun x => if x.ersn = r.ersn then r.joined l handled else x) } },
      some r.ersn) := by
  simp [State.makeRecord, hopen, ErrRecord.joined]

section
variable (hopen : (s.errors.settle l.time).openIn l = none)
include hopen

theorem State.makeRecord_lost (hfull : recordLimit l.severity l.recordOnly ≤ s.errors.held) :
    s.makeRecord l handled = ({ s with errors := { s.errors.settle l.time with
      overflow := true, lost := satAdd 0xFFFFFFFF s.errors.lost 1 } }, none) := by
  have hheld : ¬ (s.errors.settle l.time).held < recordLimit l.severity l.recordOnly := Nat.not_lt.mpr hfull
  unfold State.makeRecord
  dsimp only
  rw [hopen]
  exact if_neg hheld

theorem State.makeRecord_stores (hroom : s.errors.held < recordLimit l.severity l.recordOnly) :
    ∃ t, s.makeRecord l handled = (t, some s.errors.next) ∧ t.errors = { s.errors.settle l.time with
      records := (s.errors.settle l.time).records ++ [s.newRecord l handled], next := s.errors.next + 1 } := by
  have hheld : (s.errors.settle l.time).held < recordLimit l.severity l.recordOnly := hroom
  have hmake : (s.makeRecord l handled).2 = some s.errors.next
      ∧ (s.makeRecord l handled).1.errors = { s.errors.settle l.time with
        records := (s.errors.settle l.time).records ++ [s.newRecord l handled], next := s.errors.next + 1 } := by
    unfold State.makeRecord
    dsimp only
    rw [hopen]
    dsimp only
    rw [if_pos hheld]
    exact ⟨rfl, State.errors_foldl_msi _ _ _ _⟩
  exact ⟨_, Prod.ext rfl hmake.1, hmake.2⟩

end

end

/-! ## Handling begins and ends -/

/-- The record queue without the latched errors of an area (R578). -/
def Errors.unlatch (e : Errors) (l : Latched) : Errors := { e with latched := e.latched.filter (fun x => !x.sameArea l) }

theorem Errors.latched_unlatch_only {e : Errors} {l : Latched} (h : e.latched = [l]) : (e.unlatch l).latched = [] := by
  simp [Errors.unlatch, h]

/-- The record that an error went to, if any, comes in hand before the others (R579). -/
def State.takeInHand (s : State) : Option Nat → State
  | none => s
  | some k => { s with errors := { s.errors with handling := k :: s.errors.handling.filter (fun m => m != k) } }

section
variable (s : State) (l : Latched)

theorem State.beginHandling_eq : s.beginHandling l =
    let m := ({ s with errors := s.errors.unlatch l } : State).makeRecord l false
    m.1.takeInHand m.2 := rfl

theorem State.like_takeInHand (k : Option Nat) : (s.takeInHand k).like s := by
  cases k with
  | none => exact State.like_refl s
  | some k => exact State.like_errors s _

theorem State.like_beginHandling : (s.beginHandling l).like s := by
  rw [State.beginHandling_eq]
  exact State.like_trans (State.like_takeInHand _ _) (State.like_trans (State.like_makeRecord _ _ _) (State.like_errors s _))

end

section
variable {s : State} {l : Latched}

theorem State.errors_beginHandling_joins {r : ErrRecord} (hopen : (s.errors.settle l.time).openIn l = some r) :
    (s.beginHandling l).errors = { (s.errors.unlatch l).settle l.time with
      records := (s.errors.settle l.time).records.map (fun x => if x.ersn = r.ersn then r.joined l false else x)
      handling := r.ersn :: s.errors.handling.filter (fun m => m != r.ersn) } := by
  rw [State.beginHandling_eq, State.makeRecord_joins (s := { s with errors := s.errors.unlatch l }) false hopen]
  rfl

section
variable (hopen : (s.errors.settle l.time).openIn l = none)
include hopen

theorem State.beginHandling_lost (hfull : recordLimit l.severity l.recordOnly ≤ s.errors.held) :
    s.beginHandling l = { s with errors := { (s.errors.unlatch l).settle l.time with
      overflow := true, lost := satAdd 0xFFFFFFFF s.errors.lost 1 } } := by
  rw [State.beginHandling_eq, State.makeRecord_lost (s := { s with errors := s.errors.unlatch l }) false hopen hfull]
  rfl

theorem State.errors_beginHandling_stores (hroom : s.errors.held < recordLimit l.severity l.recordOnly) :
    (s.beginHandling l).errors = { (s.errors.unlatch l).settle l.time with
      records := (s.errors.settle l.time).records ++ [s.newRecord l false], next := s.errors.next + 1
      handling := s.errors.next :: s.errors.handling.filter (fun m => m != s.errors.next) } := by
  obtain ⟨t, hmake, herrors⟩ :=
    State.makeRecord_stores (s := { s with errors := s.errors.unlatch l }) false hopen hroom
  rw [State.beginHandling_eq, hmake]
  dsimp only [State.takeInHand]
  rw [herrors]
  rfl

end

end

section
variable {s : State} (hready : s.ready = true) (hlead : s.leadGone = false)
include hready hlead

theorem exec_errorHandle_begins {l : Latched} (hnext : nextLatched s.errors.latched = some l) (hidle : s.errors.handling = []) :
    exec (.errorHandle false) s = .next (s.beginHandling l) := by
  simp [exec, execErrorHandle, hready, hlead, hnext, Errors.inHand, hidle]

theorem exec_errorHandle_ends {k : Nat} (hhand : s.errors.handling = [k]) : exec (.errorHandle true) s = .next { s with
    errors := { s.errors with
      records := s.errors.records.map (fun r => if r.ersn = k then { r with handled := true } else r), handling := [] } } := by
  simp [exec, execErrorHandle, hready, hlead, State.endHandling, hhand]

end

theorem exec_recordClose (k : Nat) (s : State) : exec (.recordClose k) s = .next { s with
    errors := { s.errors with
      records := s.errors.records.map (fun r => if r.ersn = k ∧ r.timeLast + 10 ^ 9 ≤ s.nowNs then { r with isOpen := false } else r) } } := by
  simp [exec, execRecordClose, ErrRecord.quiet]

end Sys2Proof.Machine
end

section
/-! The obligation on error records (spec/19). -/

open Sys2Proof Sys2Proof.Machine

/-- Settles O55: the commands by the effect of each on the record queue; a latched error that firmware takes up joins the open
record of its area, receives a record, or is lost; and the fold that picks the next error answers one of greatest severity. -/
theorem errorRecords : Obligations.ErrorRecords := by
  unfold Obligations.ErrorRecords
  refine ⟨fun s p htakes hlen => ⟨?ackNotGiven, ?ackGone, ?ackHeld⟩, ?query, ?stored, ?joined, ?lost, ?ended, ?closed, ?picked⟩
  case ackNotGiven =>
    intro hbad
    exact (exec_errorAck p s).trans (congrArg _ (State.submit_recordedAs _ htakes rfl rfl
      (runErrorAck_notGiven hbad) (by decide) (by decide) rfl))
  case ackGone =>
    intro hgiven hgone
    exact (exec_errorAck p s).trans (congrArg _ (State.submit_recorded htakes rfl rfl
      (runErrorAck_alreadyGone hlen hgiven hgone) rfl rfl))
  case ackHeld =>
    intro hgiven hheld
    exact (exec_errorAck p s).trans (congrArg _ (State.submit_recorded htakes rfl rfl
      (runErrorAck_held hlen hgiven hheld) rfl rfl))
  case query =>
    intro s p htakes hlen hsome hfew hleast hreserved
    exact (exec_errorQuery p s).trans (congrArg _ (State.submit_replied _ htakes rfl rfl
      (runErrorQuery_wellFormed hlen hsome hfew hleast hreserved)))
  case stored =>
    intro s l hready hlead hlatched hidle hopen hroom
    refine ⟨_, exec_errorHandle_begins hready hlead (congrArg nextLatched hlatched) hidle, ?_⟩
    beta_reduce
    rw [State.errors_beginHandling_stores hopen hroom, hidle]
    exact ⟨Errors.latched_unlatch_only hlatched, rfl, rfl,
      ⟨s.newRecord l false, by simp, rfl, rfl, rfl, rfl, rfl, rfl, rfl, rfl, rfl⟩, State.like_beginHandling s l⟩
  case joined =>
    intro s l r hready hlead hlatched hidle hopen
    refine ⟨_, exec_errorHandle_begins hready hlead (congrArg nextLatched hlatched) hidle, ?_⟩
    beta_reduce
    rw [State.errors_beginHandling_joins hopen]
    exact ⟨Errors.latched_unlatch_only hlatched, rfl, by simp [ErrRecord.joined, satAdd], State.like_beginHandling s l⟩
  case lost =>
    intro s l hready hlead hlatched hidle hopen hfull
    rw [exec_errorHandle_begins hready hlead (congrArg nextLatched hlatched) hidle, State.beginHandling_lost hopen hfull]
    simp [Errors.settle, Errors.unlatch, hlatched, satAdd]
  case ended =>
    intro s k hready hlead hhand
    exact exec_errorHandle_ends hready hlead hhand
  case closed =>
    intro s k
    exact exec_recordClose k s
  case picked =>
    intro l x hnext
    rw [nextLatched_eq_picked] at hnext
    exact ⟨picksGreater_worse.mem_picked hnext, fun y hy => picksGreater_worse.rank_le_picked hnext hy⟩

end
